-- ==== Sys2Proof/Word.lean ====
section
/-! DEFINITION. The word types of the hub: a byte, and the 32-bit register word of BAR0 (R217, R498). -/

namespace Sys2Proof

/-- One byte. -/
abbrev Byte := BitVec 8

/-- One 32-bit register word. -/
abbrev Word := BitVec 32

end Sys2Proof
end

