-- ==== Sys2Proof/Syntax.lean ====
section
/-! DEFINITION. The commands of the hub, one constructor per row of the opcode table, and the types of their operands.
A command is something that reaches the hub from outside (a register access, a frame, a pin, a host action) or a moment at
which the hub acts on its own (a tick boundary, the end of a timer); its operands say what the hub cannot know from its own
state: what arrived, what was measured, which instance is meant. -/

namespace Sys2Proof

/-- The holder of a producer or consumer binding (R162). -/
inductive Who where
  /-- The trunk, through the tunnel entry of this number. -/
  | trunk (tunnel : Nat)
  /-- A host ring. -/
  | ring (r : Nat)
  /-- The Ethernet classifier (R250). -/
  | eth
  /-- The PTP timestamp queue (R265). -/
  | stamp
  /-- A CAN receive queue (R329). -/
  | can (c : Nat)
  /-- The signal map (R335). -/
  | sigMap
  /-- A root port's response path and RINGQ (R274). -/
  | blk (d : Nat)
  /-- A display head (R292). -/
  | disp (h : Nat)
  /-- An Ethernet port's class queues (R260). -/
  | egq (p : Nat)
  /-- A release queue of an Ethernet port (R261). -/
  | relq (p : Nat) (j : Nat)
  /-- The capture unit and its router (R206, R207). -/
  | capture
  /-- The launch engine (R199, R204). -/
  | launch
  /-- The line gadget (R371). -/
  | gadget
  /-- Firmware of the service or control cores. -/
  | fw
  /-- A register read port (R173). -/
  | port (p : Nat)
  deriving DecidableEq, Repr

/-- The binding class of CPL_QCFG.PROD and CONS (R180), trunk 1, host ring 2, engine 3, firmware 4, read port 5. -/
def Who.cls : Who → Nat
  | .trunk _ => 1
  | .ring _ => 2
  | .fw => 4
  | .port _ => 5
  | .eth | .stamp | .can _ | .sigMap | .blk _ | .disp _ | .egq _ | .relq _ _ | .capture | .launch | .gadget => 3

/-- Whether a producer binds a queue implicitly by its first cell (R162): the classifier, the timestamp queue, a CAN
receive queue and the signal map. -/
def Who.implicit : Who → Bool
  | .eth | .stamp | .can _ | .sigMap => true
  | .trunk _ | .ring _ | .fw | .port _ | .blk _ | .disp _ | .egq _ | .relq _ _ | .capture | .launch | .gadget => false

/-- A cell as a producer hands it over: its payload (1 to 256 bytes) and the header fields that the link RAM keeps (R157). -/
structure PCell where
  data : List Byte
  f : Bool := true
  l : Bool := true
  gap : Bool := false
  poison : Bool := false
  colour : Nat := 0
  deriving DecidableEq, Repr

/-- Who asked for something at this hub (R220): a CMD ring of its own host, or the line gadget. -/
inductive Asker where
  | ring (r : Nat)
  | gadget
  deriving DecidableEq, Repr

/-- Where a launch came from (R199): a request of this hub's own (a local ring or the line gadget) by its MSG_ID here, or a
message of another hub with its MSG_ID. -/
inductive LaunchSrc where
  | own (msgId : Nat)
  | msg (hub : Nat) (msgId : Nat)
  deriving DecidableEq, Repr


/-- How a drop port's CC pin reads under the thresholds of R344. -/
inductive Cc where
  | open' | ra | rd
  deriving DecidableEq, Repr

/-- A partner's answer to a VDM (R354, R358): the e-marker's on SOP', an ACK with or without what the step requires, with the
pin assignments (C, D, E) and the HPD state it carries, a NAK, or a BUSY. -/
inductive VdmAns where
  | cable (fiveA : Bool) (ss : Bool)
  | ack (good : Bool) (pins : List Bool) (hpd : Bool)
  | nak
  | busy
  deriving DecidableEq, Repr

/-- What the host does at a bulk OUT endpoint of the line gadget (R366, R367): a PING, an OUT transfer of these bytes, or, on EP0, the
halt feature of bulk endpoint `ep` set or cleared (R368). Log entry 182 (DESIGN CHOICE). -/
inductive EpAct where
  | ping
  | out (bytes : List Byte)
  | halt (ep : Fin 5) (on : Bool)
  deriving DecidableEq, Repr

/-- A CAN frame (R327): identifier extended, FD format, bit rate switch, remote request, error state indicator, identifier, DLC
and data. -/
structure CanFrame where
  ide : Bool
  fdf : Bool
  brs : Bool
  rtr : Bool
  esi : Bool := false
  id : Nat
  dlc : Nat
  data : List Byte
  deriving DecidableEq, Repr


/-- What a maintenance activity found when it completes (R434, R440): an EYE_SCAN's mismatches by point; the failing
rows of a BIST; a repair; the two DELTAs of a domain with the temperature, or the RDSON of a channel; weak bits and failed rows of the fuses. -/
inductive MaintRes where
  | eye (map : List Nat)
  | bist (rows : List Nat)
  | repair
  | deltas (a b : BitVec 16) (temp : Byte)
  | rdson (r : Nat)
  | fuses (weak failed : Nat)
  deriving DecidableEq, Repr

/-- What a dump record holds of the processors (R463): the bytes of the cores, their stacks and the mitten's records. -/
structure DumpParts where
  cores : List Byte
  stack : List Byte
  mitten : List Byte
  deriving DecidableEq, Repr

/-- What a receiver sees of a brim's filler (R87, R61): the places that may end it, as (length, symbol offset of what follows from the
position the receiver predicts), and the errors the checker of a loopback found in the tick. -/
structure BrimSeen where
  marks : List (Nat × Int)
  errs : Nat
  deriving DecidableEq, Repr


/-- The commands of the hub: one constructor per row of the opcode table. -/
inductive Instr where
  /-- TICK_BOUNDARY (R31): At each tick boundary of line time the hub starts the work that recurs once per tick. -/
  | tickBoundary (temp : BitVec 16)
  /-- LOOP_BUDGET_EXPIRY (R32): A firmware loop still running 50 µs after the tick boundary has overrun its budget. -/
  | loopBudgetExpiry (c : Fin 3) (n : Nat)
  /-- FIRMWARE_LOOP_END (R32): A firmware loop ends with its wait instruction, which commits the armed power entries; a late loop may start the next tick's loop. -/
  | firmwareLoopEnd (c : Fin 3) (t : Nat)
  /-- REGISTER_WRITE (R9): A write to a register or field without behaviour of its own is applied field by field under its access code. -/
  | registerWrite (off : Fin 2097152) (size : Fin 256) (data : Option (BitVec 64))
  /-- COUNTER_CLEAR (R438): A write to either word of a statistics counter clears the live count, SAT and the snapshot. -/
  | counterClear (off : Fin 2097152)
  /-- GEN_SETUP_CLOSE (R495): Writing 1 to a GEN_SETUP.OPEN bit closes that block's set-up. -/
  | genSetupClose (v : Word)
  /-- GEN_TBL_VIEW_WRITE (R503): A write to GEN_TBL_VIEW selects the eye-map or read-window view over the flow-table range. -/
  | genTblViewWrite (v : Word)
  /-- GEN_RD_WIN_SEL_WRITE (R464): A write to GEN_RD_WIN_SEL selects the dump read-window source and page and sets RD. -/
  | genRdWinSelWrite (v : Word)
  /-- POR (R442): VHV rising above 30 V starts the always-on domain with reset channel modes, terminations and a wiped mitten. -/
  | por (mode : Fin 4) (upb : Bool)
  /-- XTAL_READY_TIMEOUT (R414): A crystal not ready 10 ms after POR or SVC exit from L4 makes the hub enter failsafe. -/
  | xtalReadyTimeout
  /-- FAILSAFE_XTAL_RETRY (R414): Every 1 s in failsafe the hub retries the crystal and on success restarts as after a watchdog reset. -/
  | failsafeXtalRetry (ok : Bool)
  /-- SVC_PARK_EXPIRY (R414): The AON timer of PARK_S expires and SVC leaves L4. -/
  | svcParkExpiry
  /-- LINE_BUS_GOOD (R378): The line bus held above UV for 1 ms after a feeding channel is ON starts the rail sequence. -/
  | lineBusGood (pg : Bool)
  /-- RAIL_SEQUENCE_STEP (R477): A PG rising asserts the next RAIL_EN 1 ms later until all six rails are up. -/
  | railSequenceStep (pg : Bool)
  /-- PG_TIMEOUT (R477): A PG that does not rise within 5 ms of its RAIL_EN is a rail failure. -/
  | pgTimeout
  /-- PG_FALL (R378): A PG falling while its RAIL_EN is asserted raises LPW_RAIL_FAIL and deasserts every RAIL_EN. -/
  | pgFall (n : Fin 6)
  /-- RAIL_FAIL_RECOVER (R448): 1 s after a rail failure (60 s after three in 60 s) the hub resumes at step 4 as class WATCHDOG. -/
  | railFailRecover
  /-- BOOT_ROM_START (R442): 1 ms after the last PG the boot ROM reads the fuses, applies the fuse map and wipes memories. -/
  | bootRomStart
  /-- FIRMWARE_VERIFY (R453): The boot ROM verifies the firmware slots in order and starts the first that passes, or holds the hub. -/
  | firmwareVerify
  /-- BOARD_CONFIG_APPLY (R454): Firmware verifies and applies the board configuration, unwraps key blobs and starts trunk bring-up. -/
  | boardConfigApply
  /-- GEN_READY (R442): The hub reaches service, sets READY and raises GEN_READY. -/
  | genReady
  /-- RST_N_ASSERT (R444): RST_N low for at least 1 µs holds the hub in reset and takes the trunk links down. -/
  | rstNAssert
  /-- RST_N_RELEASE (R444): The rising edge of RST_N resamples the straps, resets the address and resumes at step 5. -/
  | rstNRelease (mode : Fin 4) (upb : Bool)
  /-- WATCHDOG_STAGE1 (R448): 1,600 ticks without a kick starts the fatal path with cause 2. -/
  | watchdogStage1
  /-- WATCHDOG_STAGE2 (R448): A DUMP reset not begun 2 s after stage 1 makes the hub reset with class WATCHDOG. -/
  | watchdogStage2
  /-- GEN_RESET (R445): GEN_RESET written with the key requests a device or domain reset. -/
  | genReset (v : Word)
  /-- RESET_EXECUTE (R445): The target resets at the boundary of the tick after the brim that carried its acknowledgement. -/
  | resetExecute
  /-- DOMAIN_RESET (R447): A domain reset takes the domain to L3 without a save and back to L0 from reset, unless refused. -/
  | domainReset (d : Fin 24)
  /-- FATAL_PATH (R460): A fatal cause asserts FAULT_N, stops the loops, opens a dump marker and has the dump record written. -/
  | fatalPath (cause : Fin 6) (detail : Nat)
  /-- DUMP_WRITE_DONE (R461): When the dump record is written to its target the hub closes the marker and takes the DUMP reset. -/
  | dumpWriteDone (ok : Bool) (x : DumpParts) (trace : List Byte) (regs : List Nat)
  /-- DUMP_RELEASE (R464): GEN_DUMP_CTL.RELEASE zeroes the preserved region and returns its cells. -/
  | dumpRelease (v : Word)
  /-- LC_TRANSITION (R450): SEC_LC_CTL with the key requests a life-cycle transition that burns the fuse, wipes keys and resets. -/
  | lcTransition (v : Word)
  /-- BOOT_COMMIT (R453): SEC_BOOT_CTL.COMMIT burns the anti-rollback counter up to the running image's SVN. -/
  | bootCommit (v : Word)
  /-- BOOT_NEXT_SLOT (R453): SEC_BOOT_CTL.NEXT_SLOT names the slot to try first at the next boot. -/
  | bootNextSlot (v : Word)
  /-- KHASH_BURN (R465): SEC_KHASH_CTL.BURN fuses a key hash with its USE bits into an unfused slot. -/
  | khashBurn (v : Word)
  /-- KHASH_REVOKE (R465): SEC_KHASH_CTL.REVOKE revokes a key-hash slot other than the running image's. -/
  | khashRevoke (v : Word)
  /-- KEY_LOAD (R457): SEC_KEY_CTL.LOAD unwraps a blob under a KEK into the key store or refuses it. -/
  | keyLoad (v : Word)
  /-- KEY_ERASE (R457): SEC_KEY_CTL.ERASE removes a key from the key store. -/
  | keyErase (v : Word)
  /-- KEY_BLOB_REWRITE (R457): Within 100 ms of a key change the hub rewrites both key blob copies. -/
  | keyBlobRewrite
  /-- DBG_CHALLENGE (R459): SEC_DBG_CTL.CHAL places a fresh challenge, valid 60 s for one proof. -/
  | dbgChallenge (v : Word)
  /-- DBG_PROVE (R459): SEC_DBG_CTL.PROVE checks the signed proof and opens a debug session or counts a failure. -/
  | dbgProve (v : Word)
  /-- DBG_LOCK (R459): SEC_DBG_CTL.LOCK ends the debug session. -/
  | dbgLock (v : Word)
  /-- DBG_LOCKOUT_END (R459): 60 s after three wrong proofs CHAL is accepted again. -/
  | dbgLockoutEnd
  /-- FLASH_ERASE (R466): SEC_FLASH_CMD OP 1 erases a 64 KiB sector in an allowed area. -/
  | flashErase (v : Word)
  /-- FLASH_PROGRAM (R466): SEC_FLASH_CMD OP 2 programs a 256-byte page in an allowed area. -/
  | flashProgram (v : Word)
  /-- FLASH_OP_DONE (R466): A flash erase or program completes and BUSY clears with RESULT. -/
  | flashOpDone (ok : Bool)
  /-- SENSE_DEPARTURE (R38): The comparator signals an ATTACHED port's sense pin leaving band SENSE, opening the port's power channel. -/
  | senseDeparture (p : Fin 2)
  /-- CFG_PIN_SAMPLE (R39): Every 10 µs the CFG pins are classified into bands and the attach state machine steps. -/
  | cfgPinSample (p : Fin 2) (mv1 : Nat) (mv2 : Nat)
  /-- ATTACH_DEBOUNCE_EXPIRY (R39): tCFGDB expires and the port becomes ATTACHED or MISCABLED. -/
  | attachDebounceExpiry (p : Fin 2)
  /-- DETACH_DEBOUNCE_EXPIRY (R39): The sense pin out of SENSE for tCFGDET drops the link, removes CSUP and raises TRK_DETACH. -/
  | detachDebounceExpiry (p : Fin 2)
  /-- CABLE_ID_READ (R37): A read of both ID chips completes and the record in force is decided. -/
  | cableIdRead (p : Fin 2) (rec0 : List Byte) (rec1 : List Byte)
  /-- CSUP_TAKEOVER (R42): A U port whose link is down and whose CSUP has been low 20 ms supplies CSUP and reads the chips. -/
  | csupTakeover (p : Fin 2)
  /-- CSUP_RELEASE (R42): 1 ms after the handshake ACK the U port stops supplying CSUP. -/
  | csupRelease (p : Fin 2)
  /-- CSUP_RESUME (R42): The D port supplies CSUP once its pin has been below 2.8 V for 100 µs. -/
  | csupResume (p : Fin 2)
  /-- CSUP_FAULT (R42): CSUP above its current limit for 1 ms is cut off and TRK_CSUP_FAULT raised. -/
  | csupFault (p : Fin 2)
  /-- HELLO_SEND (R64): Every 100 µs during step 4 the hub sends HELLO until it receives the far HELLO. -/
  | helloSend (p : Fin 2)
  /-- HELLO_RECEIVE (R65): A valid HELLO frame is taken and answered with ACK. -/
  | helloReceive (p : Fin 2) (frame : List Byte)
  /-- ACK_RECEIVE (R65): A valid ACK frame completes the low-speed handshake. -/
  | ackReceive (p : Fin 2) (frame : List Byte)
  /-- PAM3_SWITCH (R64): At ACK + 1 ms the fixed pairs switch to PAM3 with their rows and send the lock pattern. -/
  | pam3Switch (p : Fin 2)
  /-- FIXED_PAIR_RETRY (R67): A fixed pair that does not lock is retried from step 5 on the next higher row. -/
  | fixedPairRetry (p : Fin 2)
  /-- PAIR_TEST_DONE (R66): After 32 ticks of PRBS31 a turnable pair passes or is retried, and CAP is set. -/
  | pairTestDone (p : Fin 2) (k : Fin 8) (locked : Bool) (errors : Nat)
  /-- LINK_FAIL_TIMEOUT (R64): A link not up by 50 ms from attach raises TRK_LINK_FAIL. -/
  | linkFailTimeout (p : Fin 2)
  /-- BRINGUP_RETRY (R67): Every 10 s a port that stays ATTACHED with its link down restarts bring-up. -/
  | bringupRetry (p : Fin 2)
  /-- PORT_RELINK (R69): TRK_PORT_CTL.RELINK drops the link and restarts bring-up at step 1. -/
  | portRelink (p : Fin 2)
  /-- PORT_EN_WRITE (R69): Clearing TRK_PORT_CTL.EN holds the port down with CSUP off; setting it releases it. -/
  | portEnWrite (p : Fin 2) (v : Word)
  /-- LOOP_START (R62): TRK_LOOP_CTL.START starts a loopback or refuses it with a RESULT reason. -/
  | loopStart (p : Fin 2) (v : Word)
  /-- LOOP_STOP (R63): TRK_LOOP_CTL.STOP stops a running loopback and raises TRK_LOOP_DONE. -/
  | loopStop (p : Fin 2)
  /-- KNUCKLE_START (R50): At 61.3 µs into tick T − 1 each turning pair starts its knuckle and lock pattern. -/
  | knuckleStart (unlocked : List (Fin 16))
  /-- LANE_WAKE_START (R55): At 40 µs into tick T − 1 each lane to carry runs from T starts waking. -/
  | laneWakeStart
  /-- LANE_WAKE_DONE (R55): A lane's wake completes and it is ready for the knuckle. -/
  | laneWakeDone (p : Fin 2) (k : Fin 8)
  /-- PAIR_LOCK_TIMEOUT (R52): A pair not locked within 16 ticks is marked FAULTY, raises TRK_PAIR_LOCK_FAIL and the far end is told. -/
  | pairLockTimeout (p : Fin 2) (k : Fin 8)
  /-- ROW_REQUEST_RECEIVE (R60): A ROW_REQUEST from the neighbour stages a raise of this end's transmit row for the next switch in time. -/
  | rowRequestReceive
  /-- PAIR_LOCK_FAIL_RECEIVE (R52): A PAIR_LOCK_FAIL message from the neighbour is taken; the end keeps transmitting as planned. -/
  | pairLockFailReceive
  /-- SLOT_RECEIVE (R81): A cell received in a slot is Reed–Solomon decoded, counted and placed in the hop buffer. -/
  | slotReceive (p : Fin 2) (k : Fin 8) (slot : Nat) (bytes : List Byte)
  /-- SWITCH_SLOT (R92): At each switch slot the hub carries out the active run: pass, drop, add or drop-and-add, or discards the cell. -/
  | switchSlot (o : Fin 2) (k : Fin 8) (j : Nat)
  /-- BRIM_TRANSMIT (R86): At 60 µs each outbound fixed pair sends its sync frame, management and time cells and filler. -/
  | brimTransmit (p : Fin 2) (tx : Nat) (adj : Int)
  /-- BRIM_RECEIVE (R87): A receiver finds the tick framing on a pair's brim filler and the start of slot 0. -/
  | brimReceive (p : Fin 2) (k : Fin 8) (b : BrimSeen)
  /-- TICK_FRAMING_LOSS (R87): No framing position in two consecutive brims loses tick framing on the pair. -/
  | tickFramingLoss (p : Fin 2) (k : Fin 8)
  /-- SYNC_FRAME_RECEIVE (R90): A sync frame is read and validated, feeding link, break, time and epoch state. -/
  | syncFrameReceive (p : Fin 2) (frame : Option (List Byte)) (rx : Nat)
  /-- MGMT_CELL_RECEIVE (R100): A management or time cell is checked for TAG, age and COUNT and consumed, forwarded or discarded. -/
  | mgmtCellReceive (p : Fin 2) (bytes : List Byte)
  /-- MGMT_SOURCE_FORGET (R100): A source silent for 512 ticks has its counter state forgotten. -/
  | mgmtSourceForget (src : Fin 512)
  /-- BREAK_DECLARE (R104): Two consecutive failed brims at a port declare a break, drop the link and restart bring-up. -/
  | breakDeclare (p : Fin 2)
  /-- RING_ALARM_SEND (R108): A reporting hub sends a ring alarm in its alarm slot in ticks D, D + 1 and D + 2. -/
  | ringAlarmSend (o : Fin 2)
  /-- RING_ALARM_RECEIVE (R108): A hub reads an accepted alarm in an alarm slot, passes it and schedules plan B. -/
  | ringAlarmReceive (p : Fin 2)
  /-- HEAD_ALARM_RELAY (R108): The head relays each alarm taken in tick t out of its other port's alarm slot in a later tick. -/
  | headAlarmRelay (o : Fin 2)
  /-- PLAN_B_ENTRY (R111): At D + 8 the hub enters plan B, or reverts a switch at S ≥ D, and raises PLN_PLAN_B. -/
  | planBEntry
  /-- PLAN_LOAD_FRAGMENT (R139): A PLAN_LOAD fragment is accepted, starts a new load, or is refused or discarded. -/
  | planLoadFragment
  /-- PLAN_CHECK_DONE (R134): The local checks of a fully loaded section end; on pass the hub sends HOP_DIGEST, else reports FAILED. -/
  | planCheckDone
  /-- HOP_DIGEST_RECEIVE (R137): A HOP_DIGEST is kept and compared, answered under R147, and may make the section READY or FAILED. -/
  | hopDigestReceive
  /-- PLAN_LOAD_TIMEOUT (R140): No fragment for 256 whole ticks fails the load with reason 0x13. -/
  | planLoadTimeout
  /-- PLAN_PEER_TIMEOUT (R140): Ports not compared and matched within 512 ticks fail the load with reason 0x12. -/
  | planPeerTimeout
  /-- PLAN_QUERY_MSG (R139): A PLAN_QUERY is answered with PLAN_STATUS. -/
  | planQueryMsg
  /-- PLAN_ARM_MSG (R141): A PLAN_ARM is handled by the first matching status row and acknowledged. -/
  | planArmMsg
  /-- PLAN_DISARM_MSG (R140): A PLAN_DISARM arriving by S − 1 returns the arm to READY or FAILED and raises PLN_DISARMED. -/
  | planDisarmMsg
  /-- SWITCH_PREPARE (R410): At the boundary of S − 8 domains stepped by the old epoch and not the new start their exit. -/
  | switchPrepare
  /-- EPOCH_SWITCH (R142): At the boundary of S the banks swap and tunnels, pairs, shapers, gate lists, carve-out and power steps take effect. -/
  | epochSwitch
  /-- TRANSPARENT_SWITCH (R146): An ARMED_T hub at S switches into the transparent plan with the armed epoch. -/
  | transparentSwitch
  /-- TRANSPARENT_ENTRY (R145): The hub enters the transparent plan at the next tick boundary for a late ARM, a table error or an epoch mismatch. -/
  | transparentEntry
  /-- HELD_BANK_RELEASE (R140): At the end of tick S + 15 the retired bank leaves HELD and becomes EMPTY. -/
  | heldBankRelease
  /-- EPOCH_ADOPT (R147): A transparent hub seeing one newer EPOCH in 16 consecutive brims takes it as its active epoch. -/
  | epochAdopt (p : Fin 2)
  /-- EPOCH_MISMATCH (R148): A hub on a loaded plan seeing a newer EPOCH in 16 brims raises PLN_EPOCH_MISMATCH and goes transparent. -/
  | epochMismatch (p : Fin 2)
  /-- CELL_PRODUCE (R164): A producer writes a cell into a queue, which is bound, allocated, framed, and refused under STREAM or CONTROL rules. -/
  | cellProduce (q : Fin 8192) (w : Who) (c : PCell)
  /-- GAP_MARKER_WRITE (R168): A queue with a pending gap writes its marker at the next successful allocation, at a first cell or tick boundary. -/
  | gapMarkerWrite (q : Fin 8192)
  /-- PACKET_CONSUME (R172): A consumer takes a complete packet and frees its cells, clearing FULL and possibly completing a claim. -/
  | packetConsume (q : Fin 8192)
  /-- CARVE_CLAIM_DEADLINE (R175): At S + 64 queues still holding claim cells are flushed and CPL_CARVE_FLUSH raised. -/
  | carveClaimDeadline
  /-- QUEUE_FLUSH (R509): CPL_QCTL.FLUSH frees every cell of the selected queue and clears its pending gap state. -/
  | queueFlush (v : Word)
  /-- QUEUE_ENABLE (R166): CPL_QCFG EN going to 1 is refused if the queue's MIN would break the pool condition. -/
  | queueEnable (q : Fin 8192) (v : Word)
  /-- QUEUE_DISABLE (R180): Clearing CPL_QCFG EN flushes the queue and releases read-port and implicit producer bindings. -/
  | queueDisable (q : Fin 8192) (v : Word)
  /-- QUOTA_PROFILE_MIN_WRITE (R179): A write of CPL_QPROF MIN is held until the MAX word is written. -/
  | quotaProfileMinWrite (i : Fin 256) (v : Word)
  /-- QUOTA_PROFILE_COMMIT (R166): A write of CPL_QPROF MAX commits MIN and MAX together or is refused. -/
  | quotaProfileCommit (i : Fin 256) (v : Word)
  /-- POOL_LOW_RELOAD (R178): A write of CPL_GEN_LOW with bit 0 set reloads it with the current gen_free. -/
  | poolLowReload (v : Word)
  /-- READ_PORT_BIND (R173): A write to CPL_QRP_SEL releases the old binding and binds the queue or sets BAD. -/
  | readPortBind (p : Fin 16) (v : Word)
  /-- READ_PORT_DATA_READ (R173): A read of CPL_QRP_DATA takes the next word of the queue's oldest packet, freeing it after LAST. -/
  | readPortDataRead (p : Fin 16) (wide : Bool)
  /-- READ_PORT_DATA_HIGH_READ (R173): A 32-bit read at DATA + 4 delivers the held high half or the empty word. -/
  | readPortDataHighRead (p : Fin 16)
  /-- LINE_TIME_READ (R183): A read of LTM_NOW_LO returns line time and latches the other time registers. -/
  | lineTimeRead (t : Nat) (frac : Nat)
  /-- GM_SOURCE_MEASURE (R186): The head measures its error E against its source and removes it by rate or remaps ORIGIN. -/
  | gmSourceMeasure (e : Int) (ptp : Nat) (clock : BitVec 64)
  /-- PPS_IN_EDGE (R184): A rising edge on PPS_IN gives the head a source measurement. -/
  | ppsInEdge (t : Nat)
  /-- GM_HOLDOVER_TIMEOUT (R187): 3 s without a valid source measurement puts the head into HOLDOVER. -/
  | gmHoldoverTimeout
  /-- GM_HOLDOVER_LIMIT (R187): HOLD_MAX seconds in HOLDOVER move the head to HOLDOVER_LIMIT. -/
  | gmHoldoverLimit
  /-- GM_SOURCE_WRITE (R187): A write of LTM_GM_CFG.SOURCE makes the head LOCKED free-run or ACQUIRING. -/
  | gmSourceWrite (v : Word)
  /-- ORIGIN_WRITE (R185): A write to the LTM_ORIGIN registers sets ORIGIN and MAP_VALID, or is ignored under PTP. -/
  | originWrite (i : Fin 3) (v : Word)
  /-- CLOSURE_UPDATE (R190): Once per second in an unbroken ring the head adds its U-port theta to CLOSURE. -/
  | closureUpdate
  /-- TIME_ANNOUNCE_RECEIVE (R193): A node keeps an accepted TIME_ANNOUNCE and shows its fields. -/
  | timeAnnounceReceive
  /-- TIO_LEVEL_WRITE (R195): A write to LTM_TIO_LEVEL sets output pins at once. -/
  | tioLevelWrite (v : Word)
  /-- TIO_MODE_CHANGE (R195): A pin entering MODE 1 drives IDLE; leaving it stops driving and fails its launches. -/
  | tioModeChange (n : Fin 32) (v : Word)
  /-- TIO_CAPTURE (R206): A selected edge on a capture pin is timestamped and queued as a record in its group's capture queue. -/
  | tioCapture (n : Fin 32) (high : Bool) (t : Nat)
  /-- CAPTURE_ROUTE (R207): 1 µs after the next tick boundary the router hands each record to the event path and/or signal map. -/
  | captureRoute
  /-- LAUNCH_RECORD_POST (R199): The service core posts a launch record or cancel into queue 6, or completes it NO_SLOT. -/
  | launchRecordPost
  /-- LAUNCH_ADMIT (R199): The launch engine takes a record from queue 6 and admits it or refuses it with a status. -/
  | launchAdmit (t : Nat)
  /-- LAUNCH_CANCEL_ADMIT (R203): The launch engine takes a LAUNCH_CANCEL and cancels the named launch or refuses. -/
  | launchCancelAdmit
  /-- LAUNCH_HANDOVER (R201): At T − prep the hub rechecks the launch and hands it to its unit. -/
  | launchHandover (slot : Fin 1024)
  /-- TIO_SET (R198): At T the pin goes active. -/
  | tioSet (slot : Fin 1024)
  /-- TIO_CLEAR (R198): At T the pin goes inactive. -/
  | tioClear (slot : Fin 1024)
  /-- TIO_PULSE (R198): At T the pin goes active for WIDTH. -/
  | tioPulse (slot : Fin 1024)
  /-- TIO_PULSE_END (R198): At T + WIDTH the pulse's pin goes inactive and the launch completes. -/
  | tioPulseEnd (slot : Fin 1024)
  /-- CAN_TX (R198): At T the mailbox is released to arbitration. -/
  | canTx (slot : Fin 1024)
  /-- ETH_RELEASE (R261): At T the oldest complete packet of the release queue is sent, or the launch completes EMPTY. -/
  | ethRelease (slot : Fin 1024) (ts : Nat)
  /-- DISP_COMMIT (R302): At T the oldest held commit of the head with that COMMIT_ID is presented, or the launch completes EMPTY. -/
  | dispCommit (slot : Fin 1024)
  /-- CAM_TRIGGER (R198): At T a copy of the template packet with T + DELTA written is sent. -/
  | camTrigger (slot : Fin 1024) (ts : Nat)
  /-- LAUNCH_COMPLETION_POST (R204): The launch engine passes a completion into queue 7, holding it until the queue accepts it. -/
  | launchCompletionPost
  /-- HOST_PORT_RESET (R219): PERST_N, hot reset, link-down, FLR or D3hot exit resets the HIF block and raises HIF_HOST_RESET. -/
  | hostPortReset (cause : Fin 5)
  /-- HIF_LINK_UP (R214): The PCIe endpoint link trains up and HIF_LINK_UP is raised. -/
  | hifLinkUp (speed : Fin 6) (width : Fin 17) (bme : Bool)
  /-- BAR2_READ (R218): A BAR2 read returns line-memory bytes, poisoned on error, or 0 in DEPLOYED without a session. -/
  | bar2Read (a : Fin 67108864) (n : Fin 4097)
  /-- MSIX_VECTOR_UNMASK (R236): Unmasking a vector with its pending bit set sends the message. -/
  | msixVectorUnmask (v : Fin 2048) (w : Word)
  /-- RING_ENABLE (R223): Setting HIF_RING_CFG EN activates a ring or refuses it with a cause. -/
  | ringEnable (r : Fin 1024) (v : Word)
  /-- RING_DISABLE (R224): Clearing EN stops fetching, completes fetched descriptors FLUSHED and releases the binding. -/
  | ringDisable (r : Fin 1024) (v : Word)
  /-- RING_DRAIN_DONE (R224): The disabling steps end and the ring reads IDLE. -/
  | ringDrainDone (r : Fin 1024)
  /-- DOORBELL_PAGE_ARRIVE (R233): The doorbell page arrives and each changed entry is taken and its ring served. -/
  | doorbellPageArrive (r : Option (Fin 1024)) (words : List (Fin 1024 × Word))
  /-- DOORBELL_LATE (R233): A page not arrived by 30 µs is discarded, counted and HIF_DB_LATE raised. -/
  | doorbellLate
  /-- HIF_NUDGE (R234): A write to HIF_NUDGE issues a read of the whole page or one ring's word. -/
  | hifNudge (v : Word)
  /-- DESCRIPTOR_FETCH (R233): A descriptor read from host memory arrives, or fails and puts the ring in ERROR. -/
  | descriptorFetch (r : Fin 1024) (data : Option (List Byte))
  /-- TX_PKT (R227): A TX_PKT descriptor produces its packet into the ring's queue and completes. -/
  | txPkt (r : Fin 1024) (data : Option (List Byte))
  /-- TX_TILE (R297): A TX_TILE descriptor builds a tile packet and writes it into the bound queue. -/
  | txTile (r : Fin 1024) (data : Option (List Byte))
  /-- TX_COMMIT (R297): A TX_COMMIT descriptor builds a commit packet and writes it into the bound queue. -/
  | txCommit (r : Fin 1024)
  /-- RX_BUF (R229): An RX_BUF descriptor is filled with packets from the queue and completes. -/
  | rxBuf (r : Fin 1024) (ok : Bool)
  /-- REG_READ (R227): A REG_READ command reads registers at a hub or all hubs and completes on response. -/
  | regRead (w : Asker) (ok : Bool)
  /-- REG_WRITE (R227): A REG_WRITE command writes registers at a hub or all hubs and completes on response. -/
  | regWrite (w : Asker) (data : Option (List Byte))
  /-- REG_WRITE_HOP (R241): A REG_WRITE_HOP command sends a position-addressed write out of the head's D port. -/
  | regWriteHop (w : Asker)
  /-- PING (R227): A PING command measures the round trip to a hub in ticks. -/
  | ping (w : Asker)
  /-- PLAN_LOAD (R138): A PLAN_LOAD command loads a section locally or sends it in PLAN_LOAD messages. -/
  | planLoad (w : Asker) (data : Option (List Byte))
  /-- PLAN_ARM (R141): A PLAN_ARM command arms a switch at one hub or all hubs. -/
  | planArm (w : Asker)
  /-- PLAN_DISARM (R140): A PLAN_DISARM command disarms a switch at one hub or all hubs. -/
  | planDisarm (w : Asker)
  /-- PLAN_QUERY (R139): A PLAN_QUERY command asks a hub for its PLAN_STATUS. -/
  | planQuery (w : Asker)
  /-- LAUNCH (R197): A LAUNCH command carries up to 7 launch records to a hub or all hubs. -/
  | launch (w : Asker) (data : Option (List Byte))
  /-- LAUNCH_CANCEL (R203): A LAUNCH_CANCEL command cancels a pending launch by SLOT and COOKIE. -/
  | launchCancel (w : Asker)
  /-- RESET (R445): A RESET command requests a device or domain reset of a hub. -/
  | reset (w : Asker)
  /-- NOP (R227): A NOP command completes at once. -/
  | nop (w : Asker)
  /-- DUMP_BUF (R243): A DUMP_BUF descriptor stays posted as a dump target until used or flushed. -/
  | dumpBuf (r : Fin 1024)
  /-- REG_READ_MSG (R240): A target serves a REG_READ message and answers REG_READ_RSP. -/
  | regReadMsg
  /-- REG_WRITE_MSG (R240): A target serves a REG_WRITE message and answers REG_WRITE_RSP. -/
  | regWriteMsg
  /-- REG_WRITE_HOP_MSG (R241): A node forwards a REG_WRITE_HOP and, as target, writes or refuses and answers. -/
  | regWriteHopMsg
  /-- PING_MSG (R240): A target answers a PING with PING_RSP. -/
  | pingMsg
  /-- LAUNCH_MSG (R199): A hub takes a LAUNCH message for posting in its next loop. -/
  | launchMsg
  /-- LAUNCH_CANCEL_MSG (R203): A hub takes a LAUNCH_CANCEL message for posting to queue 6. -/
  | launchCancelMsg
  /-- RESET_MSG (R445): A hub takes a RESET message and answers RESET_ACK. -/
  | resetMsg
  /-- RESPONSE_RECEIVE (R242): The head takes a response message and writes the command's completion. -/
  | responseReceive (ok : Bool)
  /-- LAUNCH_DONE_RECEIVE (R240): The head takes LAUNCH_DONE entries and writes one completion per launch. -/
  | launchDoneReceive
  /-- EVENT_RELAY_RECEIVE (R239): The head takes relayed event records for its EVQs. -/
  | eventRelayReceive
  /-- MGMT_REQUEST_TIMEOUT (R242): A request without response HIF_MGMT_TIMEOUT ticks after t0 completes TIMEOUT. -/
  | mgmtRequestTimeout (id : Fin 65536)
  /-- EVENT_DELIVER (R238): A record from the event ring is written into every enabled EVQ whose filter passes it, when there is room. -/
  | eventDeliver
  /-- INTERRUPT_MODERATION (R236): At a tick boundary TICKS after the last message an MSI-X message is sent for unreported entries. -/
  | interruptModeration (r : Fin 1024)
  /-- ETH_FRAME_RECEIVE (R252): A received frame is checked, classified, policed and written into its queue or discarded. -/
  | ethFrameReceive (p : Fin 4) (frame : List Byte) (ts : Nat)
  /-- ETH_TRANSMIT_START (R260): At each point where it could start a frame the port chooses and sends from its class queues. -/
  | ethTransmitStart (p : Fin 4) (t : Nat) (ts : Nat)
  /-- ETH_LINK_CHANGE (R272): A port link comes up or goes down and NET_LINK_UP or NET_LINK_DOWN is raised. -/
  | ethLinkChange (p : Fin 4) (up : Bool) (speed : Fin 8) (an : Bool) (cause : Fin 4)
  /-- FLOW_ENTRY_HOLD (R253): A write to words 1 to 7 of a flow entry is held. -/
  | flowEntryHold (f : Fin 8192) (w : Fin 8) (v : Word)
  /-- FLOW_ENTRY_COMMIT (R253): A write to word 0 commits the flow entry with its held words. -/
  | flowEntryCommit (f : Fin 8192) (v : Word)
  /-- POLICER_COMMIT (R271): A NET_POL word 0 write commits the policer with full buckets or is refused. -/
  | policerCommit (i : Fin 1024) (v : Word)
  /-- EGQ_ENABLE (R260): Setting NET_PORT_EGQ.EN binds the port to its eight class queues or is refused. -/
  | egqEnable (p : Fin 4) (v : Word)
  /-- RELQ_BIND (R261): Writing NET_PORT_RELQ binds a release queue to the port's launch path or is refused. -/
  | relqBind (p : Fin 4) (j : Fin 8) (v : Word)
  /-- GATE_LIST_COMMIT (R263): NET_GL_CTL.COMMIT copies the admin list into the pending slot or is refused. -/
  | gateListCommit (p : Fin 4) (v : Word)
  /-- GATE_LIST_CANCEL (R263): NET_GL_CTL.CANCEL empties the pending slot. -/
  | gateListCancel (p : Fin 4)
  /-- GATE_LIST_TAKEOVER (R263): A pending list takes over at its tick and NET_GL_TAKEOVER is raised. -/
  | gateListTakeover (p : Fin 4)
  /-- GATE_LIST_ENTRY_ADVANCE (R262): After INTERVAL the operating list moves to its next entry. -/
  | gateListEntryAdvance (p : Fin 4)
  /-- PTP_MESSAGE_SEND (R268): A master port sends Sync, Follow_Up or Announce on its interval. -/
  | ptpMessageSend (p : Fin 4) (frame : List Byte) (ts : Nat)
  /-- BLK_PORT_ENABLE (R274): Setting BLK_PORT_CFG.EN starts root-port bring-up or is refused. -/
  | blkPortEnable (d : Fin 2) (v : Word)
  /-- BLK_PERST_RELEASE (R274): 100 ms after EN the hub releases PERST# and trains the link. -/
  | blkPerstRelease (d : Fin 2)
  /-- BLK_LINK_UP (R274): The root-port link comes up and the controller is set up 100 ms later. -/
  | blkLinkUp (d : Fin 2) (speed : Fin 16) (width : Fin 16) (nvme : Bool) (cap : Bool) (ready : Bool) (admin : Bool) (mdts : Nat)
  /-- BLK_BRINGUP_FAIL (R274): A failed step sets FAILED and raises BLK_PORT_DOWN. -/
  | blkBringupFail (d : Fin 2) (cause : Fin 16)
  /-- BLK_BRINGUP_RETRY (R274): Every 1 s a FAILED port with EN = 1 retries bring-up. -/
  | blkBringupRetry (d : Fin 2)
  /-- BLK_PORT_DISABLE (R274): Clearing EN deletes the queues, resets the controller and returns RINGQ cells. -/
  | blkPortDisable (d : Fin 2)
  /-- NVME_CQE_RECEIVE (R277): A new CQ entry written by the SSD is taken and its command completed. -/
  | nvmeCqeReceive (d : Fin 2) (q : Fin 9) (lbads : Fin 32)
  /-- SSD_INBOUND_ACCESS (R276): An SSD bus access is translated to line memory or completed Unsupported Request. -/
  | ssdInboundAccess (d : Fin 2) (a : Nat) (write : Bool) (len : Nat) (bytes : List Byte)
  /-- BLK_READ (R280): A BLK_READ command sends a read request on the request tunnel. -/
  | blkRead (w : Asker)
  /-- BLK_WRITE (R280): A BLK_WRITE command sends a write request and data. -/
  | blkWrite (w : Asker) (data : Option (List Byte))
  /-- BLK_FLUSH (R280): A BLK_FLUSH command sends a flush request. -/
  | blkFlush (w : Asker)
  /-- BLK_DEALLOCATE (R280): A BLK_DEALLOCATE command sends a deallocate request. -/
  | blkDeallocate (w : Asker)
  /-- BLK_IDENTIFY (R280): A BLK_IDENTIFY command sends an identify request. -/
  | blkIdentify (w : Asker)
  /-- BLK_COMMAND_ISSUE (R281): The device end issues a waiting request once a slot, SQ entry and cells are available. -/
  | blkCommandIssue (t : Fin 4096)
  /-- BLK_RESPONSE_RECEIVE (R283): The initiator end takes a response and data and completes the command. -/
  | blkResponseReceive (t : Fin 4096) (ok : Bool)
  /-- BLK_TUNNEL_TIMEOUT (R283): No response BLK_CFG.TIMEOUT ticks after sending completes TUNNEL_FAIL TIMEOUT. -/
  | blkTunnelTimeout (tag : Fin 65536)
  /-- BLK_DEV_TIMEOUT (R284): A command issued for CMD_TIMEOUT is answered DEV_TIMEOUT and aborted. -/
  | blkDevTimeout (d : Fin 2) (i : Fin 1024)
  /-- BLK_CTRL_RESET (R284): A slot still in use at 2 × CMD_TIMEOUT resets the controller. -/
  | blkCtrlReset (d : Fin 2)
  /-- BLK_LINK_DOWN (R284): A root-port link-down fails issued commands and restarts bring-up. -/
  | blkLinkDown (d : Fin 2)
  /-- DSP_HEAD_ENABLE (R292): Setting DSP_HEAD_CFG.EN starts the head or is refused with a cause. -/
  | dspHeadEnable (h : Fin 2) (v : Word)
  /-- DSP_HEAD_DISABLE (R308): Clearing EN discards staged tiles and the commit list. -/
  | dspHeadDisable (h : Fin 2)
  /-- DSP_LINK_TRAIN (R289): A head trains its DisplayPort link and ends in SCANOUT or raises DSP_LINK_FAIL. -/
  | dspLinkTrain (h : Fin 2) (ok : List Bool)
  /-- DSP_TRAIN_RETRY (R289): Every 1 s a head that failed training tries again. -/
  | dspTrainRetry (h : Fin 2) (ok : List Bool)
  /-- DSP_IRQ_HPD (R289): On IRQ_HPD the head reads link status and retrains when needed. -/
  | dspIrqHpd (h : Fin 2) (lost : Bool) (ok : List Bool)
  /-- DSP_HPD_RISE (R306): On an HPD rise the head reads DPCD and EDID and raises DSP_HOTPLUG. -/
  | dspHpdRise (h : Fin 2) (dpcd : List Byte) (edid : List Byte)
  /-- DSP_HPD_LOSS (R306): HPD low for more than 2 ms clears sink data and takes the head to WAIT_SINK. -/
  | dspHpdLoss (h : Fin 2)
  /-- DSP_PACKET_TAKE (R299): The engine takes a tile, commit or gap marker from INQ and stages, lists or discards it. -/
  | dspPacketTake (h : Fin 2) (t : Nat)
  /-- DSP_FRAME_START (R303): At the frame start the commit window closes, taken sets start to apply and the freeze detector updates. -/
  | dspFrameStart (h : Fin 2) (t : Nat)
  /-- DSP_APPLY_DONE (R303): The copy of taken sets ends, their records are freed and the commits counted. -/
  | dspApplyDone (h : Fin 2)
  /-- DSP_PREFILL (R303): 20 µs before the end of blanking the line buffer is prefilled. -/
  | dspPrefill (h : Fin 2)
  /-- DSP_SCANOUT_START (R303): At the end of blanking line 0 leaves the pin. -/
  | dspScanoutStart (h : Fin 2)
  /-- DSP_FRZ_WRITE (R305): Enabling the freeze detector or writing its region clears UNCHANGED and FROZEN. -/
  | dspFrzWrite (h : Fin 2) (r : Fin 3) (v : Word)
  /-- FBR_READ (R321): An FBR_READ command or claim is accepted, parked, served from prefetch, or answered RETRY. -/
  | fbrRead (w : Asker) (ok : Bool)
  /-- FBR_WRITE (R319): An FBR_WRITE command is accepted as posted or non-posted. -/
  | fbrWrite (w : Asker) (data : Option (List Byte))
  /-- FBR_LOCKED (R324): An FBR_LOCKED command is accepted as a read-modify-write and answered RETRY. -/
  | fbrLocked (w : Asker)
  /-- FBR_READ_MSG (R317): A bridge read message from another hub is handled and answered FBR_READ_RSP. -/
  | fbrReadMsg
  /-- FBR_WRITE_MSG (R317): A bridge write message from another hub is handled and answered FBR_WRITE_RSP. -/
  | fbrWriteMsg
  /-- FBR_LOCKED_MSG (R317): A bridge locked message from another hub is handled and answered FBR_READ_RSP. -/
  | fbrLockedMsg
  /-- ZONE_BUS_CYCLE (R312): The bridge runs the next queued request's bus cycles, ending with ZSTATUS. -/
  | zoneBusCycle (words : List Word)
  /-- ZRDY_TIMEOUT (R313): ZRDY not high by TIMEOUT clocks ends the cycle with ZSTATUS 1. -/
  | zrdyTimeout (words : List Word)
  /-- FBR_STALE (R322): An unclaimed ready result past its deadline is discarded and FBR_STALE raised. -/
  | fbrStale (i : Fin 256)
  /-- FBR_PREFETCH_EXPIRY (R323): A prefetch line is freed 16 ticks after its claim. -/
  | fbrPrefetchExpiry (i : Fin 256)
  /-- FBR_WIN_CLEAR (R320): A write to FBR_WIN_CLEAR clears a window's POISONED bit. -/
  | fbrWinClear (v : Word)
  /-- FBR_WINDOW_ENABLE (R314): Setting FBR_WIN_CFG.EN enables a window or is refused with FBR_CFG_REFUSED. -/
  | fbrWindowEnable (w : Fin 64) (v : Word)
  /-- ZINT_SAMPLE (R325): Every 1 µs each ZINT pin is sampled and a filtered level change recorded. -/
  | zintSample (t : Nat) (levels : Fin 16)
  /-- FBR_POLL (R326): Once per tick the control loop reads each polled chip select through the poll port. -/
  | fbrPoll (c : Fin 4) (res : Option Word)
  /-- CAN_TXREQ (R328): A write of 1 to FBR_CAN_TXREQ releases mailboxes. -/
  | canTxreq (c : Fin 4) (hi : Bool) (v : Word)
  /-- CAN_TX_DONE (R328): A frame is sent without error, or fails and is retried or dropped in one-shot. -/
  | canTxDone (c : Fin 4) (res : Fin 3) (sof : Nat)
  /-- CAN_FRAME_RECEIVE (R329): A received frame is stored in a matching RX mailbox, timestamped and queued. -/
  | canFrameReceive (c : Fin 4) (frame : CanFrame) (sof : Nat)
  /-- CAN_ERROR_STATE_CHANGE (R330): A controller enters error-passive or bus-off and raises its event. -/
  | canErrorStateChange (c : Fin 4) (st : Fin 3) (tec : Nat) (rec' : Nat)
  /-- CAN_BUS_ON (R330): Recovery ends after 128 × 11 recessive bits and FBR_CAN_BUS_ON is raised. -/
  | canBusOn (c : Fin 4)
  /-- CAN_ENABLE (R330): Writing FBR_CAN_CFG.EN from 0 to 1 enables the controller or starts bus-off recovery. -/
  | canEnable (c : Fin 4) (v : Word)
  /-- SIGNAL_MAP_PASS (R331): 1 µs into each tick the signal map fires entries for the previous tick's inputs. -/
  | signalMapPass
  /-- SIGNAL_MAP_HOLD (R332): A write to words 1 to 3 of a signal map entry is held. -/
  | signalMapHold (i : Fin 2048) (w : Fin 4) (v : Word)
  /-- SIGNAL_MAP_COMMIT (R332): A write to word 0 commits the signal map entry. -/
  | signalMapCommit (i : Fin 2048) (v : Word)
  /-- TCP_PORT_ENABLE (R345): Writing TCP_PORT_CFG.EN enables or disables a drop port. -/
  | tcpPortEnable (n : Fin 4) (v : Word)
  /-- CC_CHANGE (R345): A CC pin state change on a drop port starts or aborts debounce. -/
  | ccChange (n : Fin 4) (cc1 : Cc) (cc2 : Cc)
  /-- TCP_CC_DEBOUNCE (R345): tCCDebounce ends and the port becomes ATTACHED. -/
  | tcpCcDebounce (n : Fin 4)
  /-- TCP_DETACH_DEBOUNCE (R345): Rd absent for tPDDebounce detaches the port. -/
  | tcpDetachDebounce (n : Fin 4)
  /-- TCP_ERROR_RECOVERY_END (R345): tErrorRecovery ends and the port returns to UNATTACHED. -/
  | tcpErrorRecoveryEnd (n : Fin 4)
  /-- PORT_S_ATTACH_CHANGE (R346): Port S attaches or detaches from VBUS_S and CC. -/
  | portSAttachChange (mv : Nat) (rp1 : Bool) (rp2 : Bool)
  /-- VBUS_ENABLE (R351): VBUS of a newly attached port switches on at 5 V once the budget allows. -/
  | vbusEnable (n : Fin 4)
  /-- TCP_NO_BUDGET (R351): A port waiting over 275 ms for budget raises TCP_NO_BUDGET. -/
  | tcpNoBudget (n : Fin 4)
  /-- SOURCE_CAPABILITIES_SEND (R347): The hub sends Source_Capabilities every 150 ms until GoodCRC, and on re-offer. -/
  | sourceCapabilitiesSend (n : Fin 4) (goodCrc : Bool)
  /-- PD_REQUEST (R352): A Request is accepted and a transition begun, or rejected. -/
  | pdRequest (n : Fin 4) (pos : Fin 8) (op : Fin 1024) (mismatch : Bool) (rev2 : Bool)
  /-- PD_TRANSITION_START (R352): 30 ms after Accept the hub sets DnVSEL. -/
  | pdTransitionStart (n : Fin 4)
  /-- PD_VBUS_REACHED (R352): The measured VBUS reaches the new voltage and PS_RDY is sent. -/
  | pdVbusReached (n : Fin 4)
  /-- PD_TRANSITION_TIMEOUT (R352): Voltage not reached 275 ms after Accept sends Hard_Reset and raises TCP_VBUS_FAULT. -/
  | pdTransitionTimeout (n : Fin 4)
  /-- PD_REOFFER_TIMEOUT (R350): No contract within the lowered grant 200 ms after re-offer sends Hard_Reset. -/
  | pdReofferTimeout (n : Fin 4)
  /-- PD_GET_SOURCE_CAP (R347): A Get_Source_Cap is answered with Source_Capabilities. -/
  | pdGetSourceCap (n : Fin 4)
  /-- PD_UNSUPPORTED_MESSAGE (R347): A message not listed is answered Not_Supported or Reject. -/
  | pdUnsupportedMessage (n : Fin 4) (vdm : Bool)
  /-- PD_SOFT_RESET (R347): A Soft_Reset is accepted and capabilities resent. -/
  | pdSoftReset (n : Fin 4)
  /-- PD_MESSAGE_FAIL (R347): A message with no GoodCRC after retries makes the hub send Soft_Reset. -/
  | pdMessageFail (n : Fin 4)
  /-- HARD_RESET (R353): A Hard_Reset sent or received starts the hard-reset cycle with VBUS and VCONN off. -/
  | hardReset (n : Fin 4) (sent : Bool)
  /-- HARD_RESET_END (R353): 0.66 s after the reset VBUS and VCONN return and PD restarts, or TCP_PD_FAIL after three. -/
  | hardResetEnd (n : Fin 4)
  /-- RECAPS (R373): TCP_PORT_CTL.RECAPS sends Source_Capabilities again. -/
  | recaps (n : Fin 4)
  /-- VCONN_TAKE (R355): TCP_PORT_CTL.VCONN_TAKE starts a swap to make the hub VCONN source. -/
  | vconnTake (n : Fin 4)
  /-- VCONN_SWAP_RECEIVE (R355): A partner's VCONN_Swap is answered Wait, Reject or Accept. -/
  | vconnSwapReceive (n : Fin 4)
  /-- SINKTXNG_WAIT_END (R356): 16 ms after SinkTxNG the hub sends its own VCONN_Swap unless a partner message came. -/
  | sinktxngWaitEnd (n : Fin 4) (msg : Bool) (stage : Fin 6)
  /-- PD_PS_RDY (R355): The partner's PS_RDY in a swap lets the hub turn VCONN off. -/
  | pdPsRdy (n : Fin 4)
  /-- VCONN_SWAP_TIMEOUT (R355): No partner PS_RDY within 100 ms makes the hub send Hard_Reset. -/
  | vconnSwapTimeout (n : Fin 4)
  /-- DP_ALT_MODE_ENTRY (R358): The hub sends the next VDM of the Alt Mode entry sequence. -/
  | dpAltModeEntry (n : Fin 4)
  /-- PD_VDM_RESPONSE (R358): A VDM answer advances, retries or stops Alt Mode entry, switching the mux at the end. -/
  | pdVdmResponse (n : Fin 4) (ans : VdmAns)
  /-- VDM_RESPONSE_TIMEOUT (R358): A VDM with no answer within its timer counts toward stopping entry. -/
  | vdmResponseTimeout (n : Fin 4)
  /-- DP_EXIT (R359): TCP_PORT_CTL.DP_EXIT switches the mux to safe and sends Exit Mode. -/
  | dpExit (n : Fin 4)
  /-- PD_ATTENTION (R360): An Attention or DP Status Update passes HPD state and IRQ_HPD to the head. -/
  | pdAttention (n : Fin 4) (hpd : Bool) (irq : Bool)
  /-- USB_SOF_RECEIVE (R362): An upstream SOF is recorded with its line time, or its absence counted. -/
  | usbSofReceive (frame : Fin 2048) (t : Nat) (present : Bool)
  /-- USB_SUSPEND (R362): 3 ms without bus activity suspends the hub and everything below it. -/
  | usbSuspend
  /-- USB_BABBLE (R363): A device driving past EOF2 has its port disabled and USB_BABBLE raised. -/
  | usbBabble (k : Fin 5) (frame : Fin 2048)
  /-- USB_RESUME (R364): Upstream resume drives resume downstream and absorbs remote wakeups. -/
  | usbResume (woke : List (Fin 5))
  /-- GADGET_REMOTE_WAKE (R364): A suspended gadget with waiting data starts K on its own. -/
  | gadgetRemoteWake (armed : Bool)
  /-- USB_BUS_RESET (R370): A bus reset aborts control transfers, resets the gadget, flushes transfers and locks the session. -/
  | usbBusReset (inControl : Bool) (req : Fin 256) (stage : Fin 3)
  /-- GADGET_COMMAND (R366): A command on EP1 OUT is executed under gadget rights and completes on EP2. -/
  | gadgetCommand (a : EpAct)
  /-- GADGET_FILTER_SET (R366): An 8-byte filter on EP3 OUT sets the gadget's event filter. -/
  | gadgetFilterSet (a : EpAct)
  /-- GET_INFO (R368): GET_INFO returns identity, address, session state and GEN_ID. -/
  | getInfo
  /-- GET_CHALLENGE (R368): GET_CHALLENGE returns a fresh challenge or STALL during lockout. -/
  | getChallenge
  /-- SET_PROOF (R369): SET_PROOF checks the CMAC proof and unlocks the session or counts a failure. -/
  | setProof (bytes : List Byte)
  /-- LOCK (R369): LOCK locks the gadget session. -/
  | lock
  /-- EXEC_CMD (R368): EXEC_CMD executes a command once its status stage completes. -/
  | execCmd (bytes : List Byte)
  /-- GADGET_SESSION_IDLE (R369): IDLE seconds without a command lock the session. -/
  | gadgetSessionIdle
  /-- GADGET_LOCKOUT_END (R369): 60 s after three failures GET_CHALLENGE is served again. -/
  | gadgetLockoutEnd
  /-- LPW_CHANNEL_EN (R382): A write of LPW_CH_CFG.EN starts qualification or opens the channel. -/
  | lpwChannelEn (c : Fin 8) (v : Word)
  /-- LPW_QUALIFY_DONE (R384): The source side stays in window for TINS or 1 ms and the ramp starts. -/
  | lpwQualifyDone (c : Fin 8)
  /-- LPW_RAMP_DONE (R385): The far side reaches VCLOSE, the gate is fully on and LPW_ON raised. -/
  | lpwRampDone (c : Fin 8)
  /-- START_TIMEOUT (R386): TSTART or 200 ms runs out during the ramp and the channel trips. -/
  | startTimeout (c : Fin 8)
  /-- SHORT_AT_START (R386): No 10 % rise within TSHORT at ILIM_START trips the channel. -/
  | shortAtStart (c : Fin 8)
  /-- CURRENT_LIMIT (R388): The fault timer reaching TFLT trips the channel. -/
  | currentLimit (c : Fin 8)
  /-- GAUNTLET (R389): A gauntlet timer reaching its tk trips the channel. -/
  | gauntlet (c : Fin 8)
  /-- FAST_TRIP (R390): Current of 2 × ILIM for 200 ns trips the channel within 1 µs. -/
  | fastTrip (c : Fin 8) (i : Int)
  /-- OVERTEMP (R391): The FET temperature reaching TMAX trips the channel. -/
  | overtemp (c : Fin 8)
  /-- OV (R391): The source side above OV for 10 µs while ON trips the channel. -/
  | ov (c : Fin 8)
  /-- REVERSE_CURRENT (R380): Reverse current above IREV opens a FEED or TAKE gate into BLOCKED. -/
  | reverseCurrent (c : Fin 8) (i : Int)
  /-- FORWARD_RECLOSE (R380): The source side 100 mV above the other for 1 ms recloses a BLOCKED channel. -/
  | forwardReclose (c : Fin 8)
  /-- BOTH_SIDES_DEAD (R392): Both sides below UV for 1 ms open the channel back to QUALIFY. -/
  | bothSidesDead (c : Fin 8)
  /-- COOLDOWN_END (R395): The cooldown ends and a fresh insertion begins. -/
  | cooldownEnd (c : Fin 8)
  /-- TRIP_HISTORY_RESET (R394): TGOOD ON or TDETACH detached resets the trip count n. -/
  | tripHistoryReset (c : Fin 8)
  /-- LPW_CLEAR (R394): LPW_CH_CTL.CLEAR clears the trip history and leaves LATCHED for OFF. -/
  | lpwClear (c : Fin 8)
  /-- LPW_GAUNTLET_COMMIT (R389): A write to word 0 of point 0 commits the gauntlet or is refused. -/
  | lpwGauntletCommit (c : Fin 8) (v : Word)
  /-- LPW_SAMPLE (R396): At 250 kS/s each channel samples current and voltages, integrates energy and updates the thermal model. -/
  | lpwSample (c : Fin 8) (i : Int) (vi : Int) (vo : Int) (ntc : Int)
  /-- IPEAK_CLEAR (R398): A write to LPW_CH_IPEAK clears the peak current. -/
  | ipeakClear (c : Fin 8)
  /-- PWR_ENTRY_ARM (R406): A write of TARGET 1 to 4 to PWR_DOM_MODE arms an entry for the writing requester. -/
  | pwrEntryArm (d : Fin 24) (v : Word) (ctl : Bool)
  /-- PWR_WAKE_REQUEST (R408): A write of TARGET 0 is a wake request taken at once by the arbiter. -/
  | pwrWakeRequest (d : Fin 24) (ctl : Bool)
  /-- PWR_ENTRY_DONE (R403): A domain's entry to a lower step completes. -/
  | pwrEntryDone (d : Fin 24)
  /-- PWR_EXIT_DONE (R403): A domain's exit reaches L0 and its wake record is written. -/
  | pwrExitDone (d : Fin 24) (t : Nat)
  /-- PWR_SCHEDULED_WAKE (R409): At U − exit − 1 µs the arbiter starts a scheduled wake. -/
  | pwrScheduledWake (d : Fin 24)
  /-- PWR_HW_WAKE (R407): A hardware event on a domain's pins wakes it. -/
  | pwrHwWake (d : Fin 24)
  /-- PWR_WAKE_TIMEOUT (R412): An exit not at L0 by its wake timeout fails and the domain goes FAILED. -/
  | pwrWakeTimeout (d : Fin 24) (lane : Option (Fin 8))
  /-- PWR_WAKE_RETRY (R412): A retry from L3 at 1, 2 or 3 ms recovers the domain or raises PWR_WAKE_FAIL. -/
  | pwrWakeRetry (d : Fin 24) (lane : Option (Fin 8)) (t : Option Nat)
  /-- PWR_DOM_RETRY (R412): PWR_DOM_CTL.RETRY starts a new exit with up to three retries. -/
  | pwrDomRetry (d : Fin 24) (v : Word)
  /-- PWR_REFUSE_CLEAR (R416): A write to PWR_REFUSE_d clears the accounting word. -/
  | pwrRefuseClear (d : Fin 24)
  /-- LINK_RAM_AUDIT_DONE (R420): The audit after a link-RAM error returns unreachable cells to their free list. -/
  | linkRamAuditDone
  /-- FLIP_ARM (R425): REL_FLIP_CTL.ARM arms the flip mask for a memory, or is refused in DEPLOYED. -/
  | flipArm (v : Word)
  /-- FLIP_APPLY (R425): The next write into the armed memory stores its codeword XORed with the mask. -/
  | flipApply (word : Fin 8388608)
  /-- ECC_LOG_CLEAR (R424): A write to REL_ECC_LOG_CLR invalidates every log entry. -/
  | eccLogClear
  /-- RO_SAMPLE (R428): Once per hour the control firmware samples the ring-oscillator sensors of each domain at L0. -/
  | roSample (n : Fin 48) (delta : BitVec 16) (temp : Byte)
  /-- EYE_SCAN_ROUTINE (R429): Every 60 s a routine eye scan of an awake receiver lane starts. -/
  | eyeScanRoutine (p : Fin 2) (k : Fin 8)
  /-- EYE_SCAN_POINT (R429): Each brim measures one eye point; the last point ends the scan and may stage a margin. -/
  | eyeScanPoint (p : Fin 2) (k : Fin 8) (clear : Bool)
  /-- REPLAN_WAIT_EXPIRY (R432): A change waiting WAIT_H hours without a switch raises REPLAN_ADVICE reason 5. -/
  | replanWaitExpiry
  /-- FET_HISTORY_UPDATE (R430): The thermal history of each channel is updated and REL_FET_WEAR raised at its limits. -/
  | fetHistoryUpdate (c : Fin 8) (b : Fin 5)
  /-- VOLTAGE_DROOP (R430): A supply excursion of 30 mV for 10 ns is counted. -/
  | voltageDroop (r : Fin 4)
  /-- EYE_SCAN (R434): A maintenance request of TYPE 1 starts a full eye scan of one pair. -/
  | eyeScan (tag : Byte) (target : Fin 262144)
  /-- BIST (R436): A maintenance request of TYPE 3 fences a bank for March C− or is refused. -/
  | bist (tag : Byte) (target : Fin 262144)
  /-- ROW_REPAIR (R427): A maintenance request of TYPE 4 burns a fuse entry and withholds the row, or is refused. -/
  | rowRepair (tag : Byte) (target : Fin 262144)
  /-- AGEING_SAMPLE (R434): A maintenance request of TYPE 5 samples a domain's sensors or a channel's RDSON. -/
  | ageingSample (tag : Byte) (target : Fin 262144)
  /-- FUSE_TEST (R434): A maintenance request of TYPE 6 reads every fuse row at two sense levels. -/
  | fuseTest (tag : Byte) (target : Fin 262144)
  /-- BIST_TEST_START (R436): Once every cell of the fenced bank is withheld the BIST test runs. -/
  | bistTestStart (id : Fin 65536)
  /-- BIST_FENCE_TIMEOUT (R436): The fence not complete within BIST_WAIT ticks aborts the activity. -/
  | bistFenceTimeout (id : Fin 65536)
  /-- MAINT_STOP (R437): REL_MAINT_STOP aborts the named activity. -/
  | maintStop (id : Fin 65536)
  /-- MAINT_DONE (R437): An activity completes, releases its lock and raises REL_MAINT_DONE. -/
  | maintDone (id : Fin 65536) (r : MaintRes)
  /-- AON_STOP (R377): The always-on domain stops when VHV falls below 24 V, taking the whole hub down. -/
  | aonStop
  /-- LOW_SPEED_LOCK (R64): The low-speed receiver on an inbound fixed pair locks onto the far end's idle, and the hub takes this as its attach time when it is later than its own attach. -/
  | lowSpeedLock (p : Fin 2)
  /-- PERST_N_RELEASE (R443): Deassertion of PERST_N lets the endpoint begin link training within 20 ms once step 5 has been reached. -/
  | perstNRelease
  /-- UPB_VBUS_CHANGE (R361): A change of UPB_VBUS sense attaches or detaches the board upstream face of the internal USB hub when UPB_SEL = 1. -/
  | upbVbusChange (on : Bool)
  /-- HUB_PORT_RESET (R363): A host hub-class request resets a downstream port of the internal hub, re-enabling a port that babble disabled. -/
  | hubPortReset (k : Fin 5) (speed : Fin 3)
  /-- GADGET_IN_TRANSFER (R366): A host IN transfer on EP2 or EP4 takes buffered completions or event records from the gadget, freeing buffer space and command slots. -/
  | gadgetInTransfer (ep : Fin 5)
  deriving DecidableEq, Repr

end Sys2Proof
end

