-- ==== Sys2Proof/WellFormed.lean ====
section
/-! DEFINITION. Which commands are well formed: operands that can arrive as the spec says they do, frames and cells of their
length (R65, R75, R89), voltages and fractions within their width, descriptors and CAN frames of their size (R226, R327), aligned
register accesses (R217). The meanings are total: a command that is not well formed runs too, and a frame of another length is
no frame. -/

namespace Sys2Proof

/-- An OUT transfer is of `lo` to `hi` bytes, and a halt feature is that of a bulk endpoint (R365 to R367). -/
def EpAct.wf (lo hi : Nat) : EpAct → Bool
  | .ping => true
  | .out b => decide (lo ≤ b.length) && decide (b.length ≤ hi)
  | .halt ep _ => ep.val != 0

/-- The check on each command. -/
def Instr.wf : Instr → Bool
  | .tickBoundary _ => true
  | .loopBudgetExpiry _ _ => true
  | .firmwareLoopEnd _ _ => true
  | .registerWrite off size _ => decide (off.val % 4 = 0) && (size.val == 4 || size.val == 8)
  | .counterClear _ => true
  | .genSetupClose _ => true
  | .genTblViewWrite _ => true
  | .genRdWinSelWrite _ => true
  | .por _ _ => true
  | .xtalReadyTimeout => true
  | .failsafeXtalRetry _ => true
  | .svcParkExpiry => true
  | .lineBusGood _ => true
  | .railSequenceStep _ => true
  | .pgTimeout => true
  | .pgFall _ => true
  | .railFailRecover => true
  | .bootRomStart => true
  | .firmwareVerify => true
  | .boardConfigApply => true
  | .genReady => true
  | .rstNAssert => true
  | .rstNRelease _ _ => true
  | .watchdogStage1 => true
  | .watchdogStage2 => true
  | .genReset _ => true
  | .resetExecute => true
  | .domainReset _ => true
  | .fatalPath _ _ => true
  | .dumpWriteDone _ _ _ _ => true
  | .dumpRelease _ => true
  | .lcTransition _ => true
  | .bootCommit _ => true
  | .bootNextSlot _ => true
  | .khashBurn _ => true
  | .khashRevoke _ => true
  | .keyLoad _ => true
  | .keyErase _ => true
  | .keyBlobRewrite => true
  | .dbgChallenge _ => true
  | .dbgProve _ => true
  | .dbgLock _ => true
  | .dbgLockoutEnd => true
  | .flashErase _ => true
  | .flashProgram _ => true
  | .flashOpDone _ => true
  | .senseDeparture _ => true
  | .cfgPinSample _ mv1 mv2 => decide (mv1 < 65536) && decide (mv2 < 65536)
  | .attachDebounceExpiry _ => true
  | .detachDebounceExpiry _ => true
  | .cableIdRead _ rec0 rec1 => decide (rec0.length ≤ 32) && decide (rec1.length ≤ 32)
  | .csupTakeover _ => true
  | .csupRelease _ => true
  | .csupResume _ => true
  | .csupFault _ => true
  | .helloSend _ => true
  | .helloReceive _ frame => decide (frame.length = 64)
  | .ackReceive _ frame => decide (frame.length = 64)
  | .pam3Switch _ => true
  | .fixedPairRetry _ => true
  | .pairTestDone _ _ _ _ => true
  | .linkFailTimeout _ => true
  | .bringupRetry _ => true
  | .portRelink _ => true
  | .portEnWrite _ _ => true
  | .loopStart _ _ => true
  | .loopStop _ => true
  | .knuckleStart _ => true
  | .laneWakeStart => true
  | .laneWakeDone _ _ => true
  | .pairLockTimeout _ _ => true
  | .rowRequestReceive => true
  | .pairLockFailReceive => true
  | .slotReceive _ _ slot bytes => decide (slot < 1000) && decide (bytes.length = 288)
  | .switchSlot _ _ j => decide (j < 1000)
  | .brimTransmit _ _ _ => true
  | .brimReceive _ _ _ => true
  | .tickFramingLoss _ _ => true
  | .syncFrameReceive _ frame _ => match frame with | none => true | some b => decide (b.length = 64)
  | .mgmtCellReceive _ bytes => decide (bytes.length = 288)
  | .mgmtSourceForget _ => true
  | .breakDeclare _ => true
  | .ringAlarmSend _ => true
  | .ringAlarmReceive _ => true
  | .headAlarmRelay _ => true
  | .planBEntry => true
  | .planLoadFragment => true
  | .planCheckDone => true
  | .hopDigestReceive => true
  | .planLoadTimeout => true
  | .planPeerTimeout => true
  | .planQueryMsg => true
  | .planArmMsg => true
  | .planDisarmMsg => true
  | .switchPrepare => true
  | .epochSwitch => true
  | .transparentSwitch => true
  | .transparentEntry => true
  | .heldBankRelease => true
  | .epochAdopt _ => true
  | .epochMismatch _ => true
  | .cellProduce _ _ _ => true
  | .gapMarkerWrite _ => true
  | .packetConsume _ => true
  | .carveClaimDeadline => true
  | .queueFlush _ => true
  | .queueEnable _ _ => true
  | .queueDisable _ _ => true
  | .quotaProfileMinWrite _ _ => true
  | .quotaProfileCommit _ _ => true
  | .poolLowReload _ => true
  | .readPortBind _ _ => true
  | .readPortDataRead _ _ => true
  | .readPortDataHighRead _ => true
  | .lineTimeRead _ frac => decide (frac < 65536)
  | .gmSourceMeasure _ _ _ => true
  | .ppsInEdge _ => true
  | .gmHoldoverTimeout => true
  | .gmHoldoverLimit => true
  | .gmSourceWrite _ => true
  | .originWrite _ _ => true
  | .closureUpdate => true
  | .timeAnnounceReceive => true
  | .tioLevelWrite _ => true
  | .tioModeChange _ _ => true
  | .tioCapture _ _ _ => true
  | .captureRoute => true
  | .launchRecordPost => true
  | .launchAdmit _ => true
  | .launchCancelAdmit => true
  | .launchHandover _ => true
  | .tioSet _ => true
  | .tioClear _ => true
  | .tioPulse _ => true
  | .tioPulseEnd _ => true
  | .canTx _ => true
  | .ethRelease _ _ => true
  | .dispCommit _ => true
  | .camTrigger _ _ => true
  | .launchCompletionPost => true
  | .hostPortReset _ => true
  | .hifLinkUp _ _ _ => true
  | .bar2Read _ _ => true
  | .msixVectorUnmask _ _ => true
  | .ringEnable _ _ => true
  | .ringDisable _ _ => true
  | .ringDrainDone _ => true
  | .doorbellPageArrive _ _ => true
  | .doorbellLate => true
  | .hifNudge _ => true
  | .descriptorFetch _ data => match data with | none => true | some b => decide (b.length % 32 = 0) && decide (b.length ≤ 512)
  | .txPkt _ _ => true
  | .txTile _ _ => true
  | .txCommit _ => true
  | .rxBuf _ _ => true
  | .regRead _ _ => true
  | .regWrite _ _ => true
  | .regWriteHop _ => true
  | .ping _ => true
  | .planLoad _ _ => true
  | .planArm _ => true
  | .planDisarm _ => true
  | .planQuery _ => true
  | .launch _ _ => true
  | .launchCancel _ => true
  | .reset _ => true
  | .nop _ => true
  | .dumpBuf _ => true
  | .regReadMsg => true
  | .regWriteMsg => true
  | .regWriteHopMsg => true
  | .pingMsg => true
  | .launchMsg => true
  | .launchCancelMsg => true
  | .resetMsg => true
  | .responseReceive _ => true
  | .launchDoneReceive => true
  | .eventRelayReceive => true
  | .mgmtRequestTimeout _ => true
  | .eventDeliver => true
  | .interruptModeration _ => true
  | .ethFrameReceive _ frame _ => decide (4 ≤ frame.length)
  | .ethTransmitStart _ _ _ => true
  | .ethLinkChange _ _ _ _ _ => true
  | .flowEntryHold _ _ _ => true
  | .flowEntryCommit _ _ => true
  | .policerCommit _ _ => true
  | .egqEnable _ _ => true
  | .relqBind _ _ _ => true
  | .gateListCommit _ _ => true
  | .gateListCancel _ => true
  | .gateListTakeover _ => true
  | .gateListEntryAdvance _ => true
  | .ptpMessageSend _ frame _ => decide (14 ≤ frame.length)
  | .blkPortEnable _ _ => true
  | .blkPerstRelease _ => true
  | .blkLinkUp _ _ _ _ _ _ _ _ => true
  | .blkBringupFail _ _ => true
  | .blkBringupRetry _ => true
  | .blkPortDisable _ => true
  | .nvmeCqeReceive _ _ _ => true
  | .ssdInboundAccess _ a _ len bytes => decide (a < 2 ^ 64) && decide (len ≤ 4096) && decide (bytes.length ≤ 4096)
  | .blkRead _ => true
  | .blkWrite _ _ => true
  | .blkFlush _ => true
  | .blkDeallocate _ => true
  | .blkIdentify _ => true
  | .blkCommandIssue _ => true
  | .blkResponseReceive _ _ => true
  | .blkTunnelTimeout _ => true
  | .blkDevTimeout _ _ => true
  | .blkCtrlReset _ => true
  | .blkLinkDown _ => true
  | .dspHeadEnable _ _ => true
  | .dspHeadDisable _ => true
  | .dspLinkTrain _ _ => true
  | .dspTrainRetry _ _ => true
  | .dspIrqHpd _ _ _ => true
  | .dspHpdRise _ dpcd edid => decide (dpcd.length ≤ 16) && decide (edid.length % 128 = 0)
  | .dspHpdLoss _ => true
  | .dspPacketTake _ _ => true
  | .dspFrameStart _ _ => true
  | .dspApplyDone _ => true
  | .dspPrefill _ => true
  | .dspScanoutStart _ => true
  | .dspFrzWrite _ _ _ => true
  | .fbrRead _ _ => true
  | .fbrWrite _ _ => true
  | .fbrLocked _ => true
  | .fbrReadMsg => true
  | .fbrWriteMsg => true
  | .fbrLockedMsg => true
  | .zoneBusCycle words => decide (words.length ≤ 64)
  | .zrdyTimeout words => decide (words.length ≤ 64)
  | .fbrStale _ => true
  | .fbrPrefetchExpiry _ => true
  | .fbrWinClear _ => true
  | .fbrWindowEnable _ _ => true
  | .zintSample _ _ => true
  | .fbrPoll _ _ => true
  | .canTxreq _ _ _ => true
  | .canTxDone _ _ _ => true
  | .canFrameReceive _ frame _ => decide (frame.id < if frame.ide then 2 ^ 29 else 2 ^ 11) && decide (frame.dlc < 16) && decide (frame.data.length ≤ 64)
  | .canErrorStateChange _ _ _ _ => true
  | .canBusOn _ => true
  | .canEnable _ _ => true
  | .signalMapPass => true
  | .signalMapHold _ _ _ => true
  | .signalMapCommit _ _ => true
  | .tcpPortEnable _ _ => true
  | .ccChange _ _ _ => true
  | .tcpCcDebounce _ => true
  | .tcpDetachDebounce _ => true
  | .tcpErrorRecoveryEnd _ => true
  | .portSAttachChange _ _ _ => true
  | .vbusEnable _ => true
  | .tcpNoBudget _ => true
  | .sourceCapabilitiesSend _ _ => true
  | .pdRequest _ _ _ _ _ => true
  | .pdTransitionStart _ => true
  | .pdVbusReached _ => true
  | .pdTransitionTimeout _ => true
  | .pdReofferTimeout _ => true
  | .pdGetSourceCap _ => true
  | .pdUnsupportedMessage _ _ => true
  | .pdSoftReset _ => true
  | .pdMessageFail _ => true
  | .hardReset _ _ => true
  | .hardResetEnd _ => true
  | .recaps _ => true
  | .vconnTake _ => true
  | .vconnSwapReceive _ => true
  | .sinktxngWaitEnd _ _ _ => true
  | .pdPsRdy _ => true
  | .vconnSwapTimeout _ => true
  | .dpAltModeEntry _ => true
  | .pdVdmResponse _ _ => true
  | .vdmResponseTimeout _ => true
  | .dpExit _ => true
  | .pdAttention _ _ _ => true
  | .usbSofReceive _ _ _ => true
  | .usbSuspend => true
  | .usbBabble _ _ => true
  | .usbResume _ => true
  | .gadgetRemoteWake _ => true
  | .usbBusReset _ _ _ => true
  | .gadgetCommand a => a.wf 32 (32 + 2 ^ 32)
  | .gadgetFilterSet a => a.wf 8 8
  | .getInfo => true
  | .getChallenge => true
  | .setProof bytes => decide (bytes.length = 20)
  | .lock => true
  | .execCmd bytes => decide (32 ≤ bytes.length) && decide (bytes.length ≤ 256)
  | .gadgetSessionIdle => true
  | .gadgetLockoutEnd => true
  | .lpwChannelEn _ _ => true
  | .lpwQualifyDone _ => true
  | .lpwRampDone _ => true
  | .startTimeout _ => true
  | .shortAtStart _ => true
  | .currentLimit _ => true
  | .gauntlet _ => true
  | .fastTrip _ _ => true
  | .overtemp _ => true
  | .ov _ => true
  | .reverseCurrent _ _ => true
  | .forwardReclose _ => true
  | .bothSidesDead _ => true
  | .cooldownEnd _ => true
  | .tripHistoryReset _ => true
  | .lpwClear _ => true
  | .lpwGauntletCommit _ _ => true
  | .lpwSample _ _ _ _ _ => true
  | .ipeakClear _ => true
  | .pwrEntryArm _ _ _ => true
  | .pwrWakeRequest _ _ => true
  | .pwrEntryDone _ => true
  | .pwrExitDone _ _ => true
  | .pwrScheduledWake _ => true
  | .pwrHwWake _ => true
  | .pwrWakeTimeout _ _ => true
  | .pwrWakeRetry _ _ _ => true
  | .pwrDomRetry _ _ => true
  | .pwrRefuseClear _ => true
  | .linkRamAuditDone => true
  | .flipArm _ => true
  | .flipApply _ => true
  | .eccLogClear => true
  | .roSample _ _ _ => true
  | .eyeScanRoutine _ _ => true
  | .eyeScanPoint _ _ _ => true
  | .replanWaitExpiry => true
  | .fetHistoryUpdate _ _ => true
  | .voltageDroop _ => true
  | .eyeScan _ _ => true
  | .bist _ _ => true
  | .rowRepair _ _ => true
  | .ageingSample _ _ => true
  | .fuseTest _ _ => true
  | .bistTestStart _ => true
  | .bistFenceTimeout _ => true
  | .maintStop _ => true
  | .maintDone _ _ => true
  | .aonStop => true
  | .lowSpeedLock _ => true
  | .perstNRelease => true
  | .upbVbusChange _ => true
  | .hubPortReset _ _ => true
  | .gadgetInTransfer _ => true

end Sys2Proof
end

