-- ==== Sys2Proof/Decode.lean ====
section
/-! DEFINITION. The words of the opcode table: the table gives the commands of this hub no bits, so no word spells one. -/

namespace Sys2Proof

/-- The command that a word spells by the table's bits: none, for no row gives bits. Log entry 6 (DESIGN CHOICE). -/
def decodeTableWord (_nbits _w : Nat) : Option Instr := none

end Sys2Proof
end

