-- ==== Sys2Proof/Machine/Bits.lean ====
section
/-! DEFINITION. Bit fields of natural numbers, little-endian byte order (R5), two's complement, and the small arithmetic
helpers the rules use. -/

namespace Sys2Proof.Machine

/-- Bits [hi:lo] of `v`. -/
def bits (v hi lo : Nat) : Nat := v / 2 ^ lo % 2 ^ (hi + 1 - lo)

/-- Bit `i` of `v`, as a Bool. -/
def bit (v i : Nat) : Bool := v / 2 ^ i % 2 == 1

/-- 1 for true, 0 for false. -/
def b2n (b : Bool) : Nat := if b then 1 else 0

/-- A number read from bytes, least significant first (R5). -/
def leNat : List Byte → Nat
  | [] => 0
  | b :: t => b.toNat + 256 * leNat t

/-- `n` bytes of `v`, least significant first (R5). -/
def leBytes : (n v : Nat) → List Byte
  | 0, _ => []
  | n + 1, v => BitVec.ofNat 8 (v % 256) :: leBytes n (v / 256)

/-- A number read from bytes, most significant first (R6). -/
def beNat (bs : List Byte) : Nat := bs.foldl (fun a b => 256 * a + b.toNat) 0

/-- `n` bytes of `v`, most significant first (R6). -/
def beBytes (n v : Nat) : List Byte := (leBytes n v).reverse

/-- The `n` bytes of `bs` at offset `o`. -/
def slice (bs : List Byte) (o n : Nat) : List Byte := (bs.drop o).take n

/-- The little-endian number of `n` bytes at offset `o`. -/
def leAt (bs : List Byte) (o n : Nat) : Nat := leNat (slice bs o n)

/-- Byte `o` of `bs`, 0 past its end. -/
def byteAt (bs : List Byte) (o : Nat) : Nat := (bs.getD o 0).toNat

/-- `v` as a two's-complement number of `w` bits. -/
def sgn (w v : Nat) : Int := if v % 2 ^ w < 2 ^ (w - 1) then (v % 2 ^ w : Nat) else (v % 2 ^ w : Nat) - (2 ^ w : Nat)

/-- The two's-complement encoding of `i` in `w` bits, low bits kept. -/
def enc (w : Nat) (i : Int) : Nat := (i % (2 ^ w : Nat)).toNat

/-- `i` held within the signed range of `w` bits. -/
def satInt (w : Nat) (i : Int) : Int := max (-(2 ^ (w - 1) : Nat)) (min i ((2 ^ (w - 1) : Nat) - 1))

/-- Ceiling division. -/
def cdiv (a b : Nat) : Nat := (a + b - 1) / b

/-- Zero bytes. -/
def zeros (n : Nat) : List Byte := List.replicate n 0

/-- `bs` cut or zero-filled to `n` bytes. -/
def padTo (n : Nat) (bs : List Byte) : List Byte := bs.take n ++ zeros (n - bs.length)

/-- `bs` with `new` in place of the bytes at offset `o`. -/
def splice (bs : List Byte) (o : Nat) (new : List Byte) : List Byte :=
  bs.take o ++ new ++ bs.drop (o + new.length)

/-- The bits of a number that are 1, counted (within `n` bits). -/
def popcount : (n v : Nat) → Nat
  | 0, _ => 0
  | n + 1, v => v % 2 + popcount n (v / 2)

/-- The list `xs` with its element `i` replaced. -/
def setAt {α : Type} (xs : List α) (i : Nat) (x : α) : List α := xs.set i x

/-- One step of a bitwise CRC, most significant bit first, over a `w`-bit register. -/
def crcStep (w poly : Nat) : (n crc : Nat) → Nat
  | 0, crc => crc
  | n + 1, crc =>
    let c2 := crc * 2
    crcStep w poly n (if c2 ≥ 2 ^ w then (c2 % 2 ^ w) ^^^ poly else c2)

/-- CRC-16 with polynomial 0x1021 and initial value 0xFFFF, most significant bit first (R89). -/
def crc16 (bs : List Byte) : Nat :=
  bs.foldl (fun c b => crcStep 16 0x1021 8 (c ^^^ (b.toNat * 256))) 0xFFFF

/-- One byte of a reflected CRC. -/
def crcRefl (poly : Nat) : (n crc : Nat) → Nat
  | 0, crc => crc
  | n + 1, crc => crcRefl poly n (if crc % 2 == 1 then (crc / 2) ^^^ poly else crc / 2)

/-- The CRC-32 of IEEE 802.3 (R65). -/
def crc32 (bs : List Byte) : Nat :=
  (bs.foldl (fun c b => crcRefl 0xEDB88320 8 (c ^^^ b.toNat)) 0xFFFFFFFF) ^^^ 0xFFFFFFFF

/-- CRC-32C (Castagnoli), reflected, initial value and final XOR all ones (R58, R121). -/
def crc32c (bs : List Byte) : Nat :=
  (bs.foldl (fun c b => crcRefl 0x82F63B78 8 (c ^^^ b.toNat)) 0xFFFFFFFF) ^^^ 0xFFFFFFFF

end Sys2Proof.Machine
end

