-- ==== Sys2Proof/Machine/Cell.lean ====
section
/-! DEFINITION. The cell on the wire: its header (R74), its Reed–Solomon protection (R79, R80), and comparison of SEQ values
(R76). -/

namespace Sys2Proof.Machine

/-- A header value with these fields (R74). -/
def mkHdr (tunnel seq src lenm1 : Nat) (f l gap poison : Bool) (colour kind hops : Nat) : Nat :=
  tunnel % 4096 * 2 ^ 52 + seq % 65536 * 2 ^ 36 + src % 512 * 2 ^ 27 + lenm1 % 512 * 2 ^ 18 + b2n f * 2 ^ 17 + b2n l * 2 ^ 16
    + b2n gap * 2 ^ 15 + b2n poison * 2 ^ 14 + colour % 4 * 2 ^ 12 + kind % 16 * 2 ^ 8 + hops % 256

/-- Header fields (R74). -/
def hTunnel (h : Nat) : Nat := bits h 63 52
def hSeq (h : Nat) : Nat := bits h 51 36
def hSrc (h : Nat) : Nat := bits h 35 27
def hLenm1 (h : Nat) : Nat := bits h 26 18
def hF (h : Nat) : Bool := bit h 17
def hL (h : Nat) : Bool := bit h 16
def hGap (h : Nat) : Bool := bit h 15
def hPoison (h : Nat) : Bool := bit h 14
def hColour (h : Nat) : Nat := bits h 13 12
def hKind (h : Nat) : Nat := bits h 11 8
def hHops (h : Nat) : Nat := bits h 7 0

/-- A header with HOPS `n`. -/
def setHops (h n : Nat) : Nat := h - h % 256 + n % 256

/-- A header with POISON = 1. -/
def markPoison (h : Nat) : Nat := if hPoison h then h else h + 2 ^ 14

/-- The header of a null cell of source `src` (R75). -/
def nullHdr (src : Nat) : Nat := src % 512 * 2 ^ 27

/-- SEQ a is later than b, or unordered with it (R76, R171). -/
def seqGap (a b : Nat) : Bool :=
  let d := (a + 65536 - b) % 65536
  decide (1 ≤ d) && decide (d ≤ 32768)

/-! GF(2^8) with polynomial 0x11D (R79). -/

/-- One step of multiplication: the bits of `b` from the low end, `a` doubled at each. -/
def gfMulAux : (n a b acc : Nat) → Nat
  | 0, _, _, acc => acc
  | n + 1, a, b, acc =>
    let acc1 := if b % 2 = 1 then acc ^^^ a else acc
    let a2 := 2 * a
    gfMulAux n (if 256 ≤ a2 then (a2 % 256) ^^^ 0x1D else a2) (b / 2) acc1

/-- The product of two field elements. -/
def gfMul (a b : Nat) : Nat := gfMulAux 8 a b 0

/-- `a` to the power `n`. -/
def gfPow (a : Nat) : (n : Nat) → Nat
  | 0 => 1
  | n + 1 => gfMul a (gfPow a n)

/-- α^i, α = 2 (R79). -/
def gfAlpha (i : Nat) : Nat := gfPow 2 (i % 255)

/-- The inverse of a non-zero element. -/
def gfInv (a : Nat) : Nat := gfPow a 254

/-- A polynomial, lowest coefficient first, evaluated at `x`. -/
def gfEval (p : List Nat) (x : Nat) : Nat := p.foldr (fun c a => c ^^^ gfMul a x) 0

/-- Coefficient-wise sum of polynomials. -/
def gfAdd : List Nat → List Nat → List Nat
  | [], b => b
  | a, [] => a
  | x :: a, y :: b => (x ^^^ y) :: gfAdd a b

/-- The product of two polynomials. -/
def gfPolyMul : List Nat → List Nat → List Nat
  | [], _ => []
  | x :: a, b => gfAdd (b.map (gfMul x)) (0 :: gfPolyMul a b)

/-- The generator polynomial g(x) = (x − α^0)···(x − α^11) (R79). -/
def rsGen : List Nat := (List.range 12).foldl (fun g i => gfPolyMul g [gfAlpha i, 1]) [1]

/-- One step of dividing by the monic generator: the remainder register, highest coefficient first. -/
def rsStep (reg : List Nat) (c : Nat) : List Nat :=
  match reg with
  | [] => []
  | r :: t =>
    let fb := c ^^^ r
    List.zipWith (fun a g => a ^^^ gfMul fb g) (t ++ [0]) (rsGen.reverse.drop 1)

/-- The 12 parity bytes of 132 message bytes of one interleave, first byte the highest-degree coefficient (R79). -/
def rsParity (msg : List Nat) : List Nat := msg.foldl rsStep (List.replicate 12 0)

/-- Every second element, from the first. -/
def evens {α : Type} : List α → List α
  | [] => []
  | [a] => [a]
  | a :: _ :: t => a :: evens t

/-- Interleave `e` of a cell's bytes (R79). -/
def interleave (e : Nat) (bs : List Byte) : List Nat := (evens (bs.drop e)).map (fun b => b.toNat)

/-- Two interleaves put together again. -/
def weave : List Nat → List Nat → List Byte
  | a :: x, b :: y => BitVec.ofNat 8 a :: BitVec.ofNat 8 b :: weave x y
  | _, _ => []

/-- The 288 bytes of a cell on the wire (R74, R79). -/
def wireCell (hdr : Nat) (pay : List Byte) : List Byte :=
  let body := beBytes 8 hdr ++ padTo 256 pay
  let p0 := rsParity (interleave 0 body)
  let p1 := rsParity (interleave 1 body)
  body ++ weave p0 p1

/-- The 12 syndromes of a codeword of one interleave. -/
def rsSyndromes (cw : List Nat) : List Nat := (List.range 12).map (fun i => gfEval cw.reverse (gfAlpha i))

/-- The state of the Berlekamp–Massey iteration: locator, its copy, L, m, b. -/
structure BM where
  c : List Nat
  b : List Nat
  len : Nat
  m : Nat
  bb : Nat

/-- One iteration with syndrome index `n`. -/
def bmStep (syn : List Nat) (t : BM) (n : Nat) : BM :=
  let d := (List.range (t.len + 1)).foldl (fun a i => a ^^^ gfMul (t.c.getD i 0) (if i ≤ n then syn.getD (n - i) 0 else 0)) 0
  if d = 0 then { t with m := t.m + 1 }
  else
    let k := gfMul d (gfInv t.bb)
    let c1 := gfAdd t.c (List.replicate t.m 0 ++ t.b.map (gfMul k))
    if 2 * t.len ≤ n then ⟨c1, t.c, n + 1 - t.len, 1, d⟩ else { t with c := c1, m := t.m + 1 }

/-- The error locator and its degree. -/
def rsLocator (syn : List Nat) : List Nat × Nat :=
  let t := (List.range 12).foldl (bmStep syn) ⟨[1], [1], 0, 1, 1⟩
  (t.c, t.len)

/-- The formal derivative of a polynomial. -/
def gfDeriv (p : List Nat) : List Nat := (List.range (p.length - 1)).map (fun i => if i % 2 = 0 then p.getD (i + 1) 0 else 0)

/-- One interleave decoded (R80): the corrected codeword and the bytes changed, or none where it cannot be decoded. -/
def rsDecode (cw : List Nat) : Option (List Nat × Nat) :=
  let syn := rsSyndromes cw
  if syn.all (· == 0) then some (cw, 0)
  else
    let (loc, len) := rsLocator syn
    if 6 < len then none
    else
      let n := cw.length
      let roots := (List.range n).filter (fun p => gfEval loc (gfAlpha (255 - p)) == 0)
      if roots.length ≠ len then none
      else
        let om := (gfPolyMul syn loc).take 12
        let dv := gfDeriv loc
        let fixed := roots.foldl (fun w p =>
          let xi := gfAlpha (255 - p)
          let e := gfMul (gfAlpha p) (gfMul (gfEval om xi) (gfInv (gfEval dv xi)))
          w.set (n - 1 - p) (w.getD (n - 1 - p) 0 ^^^ e)) cw
        if (rsSyndromes fixed).all (· == 0) then some (fixed, len) else none

/-- A received cell decoded (R80, R81): header, payload, whether it is uncorrectable, and bytes corrected. An uncorrectable
cell keeps its bytes as received (R82). -/
def cellDecode (bs : List Byte) : Nat × List Byte × Bool × Nat :=
  match rsDecode (interleave 0 bs), rsDecode (interleave 1 bs) with
  | some (a, n), some (b, m) =>
    let w := weave a b
    (beNat (w.take 8), slice w 8 256, false, n + m)
  | _, _ => (beNat (bs.take 8), slice bs 8 256, true, 0)

end Sys2Proof.Machine
end

