-- ==== Sys2Proof/Config.lean ====
section
/-! DEFINITION. What the spec leaves open, as a constant without a body: no proof can see a value of it, so a claim holds whatever
it is. -/

namespace Sys2Proof.Config

/-- A FREE VALUE: the `n`-th value of a kind `tag` that the spec leaves open (a random challenge, the cell index an
allocation takes, an undefined reading). `n` is the counter `Hub.fresh`. Log entry 9 (DESIGN CHOICE). -/
opaque freeNat : (tag n : Nat) → Nat

end Sys2Proof.Config
end

