-- ==== Sys2Proof/Machine/Crypto.lean ====
section
/-! DEFINITION. The published standards that the spec names: AES-128 and AES-CMAC-128 (R99, R369), RFC 3394 key unwrap (R457), SHA-256
and ECDSA P-256 (R123, R452, R453, R459). -/

namespace Sys2Proof.Machine

/-! AES-128. A block is 16 numbers below 256, column by column. -/

/-- The substitution box and its inverse, entry `x` at bits [8x + 7:8x]. -/
def aesBox : Nat :=
  0x16BB54B00F2D99416842E6BF0D89A18CDF2855CEE9871E9B948ED9691198F8E19E1DC186B95735610EF6034866B53E70 * 2 ^ 1664
    + 0x8A8BBD4B1F74DDE8C6B4A61C2E2578BA08AE7A65EAF4566CA94ED58D6D37C8E779E4959162ACD3C25C2406490A3A32E0 * 2 ^ 1280
    + 0xDB0B5EDE14B8EE4688902A22DC4F816073195D643D7EA7C41744975FEC130CCDD2F3FF1021DAB6BCF5389D928F40A351 * 2 ^ 896
    + 0xA89F3C507F02F94585334D43FBAAEFD0CF584C4A39BECB6A5BB1FC20ED00D153842FE329B3D63B52A05A6E1B1A2C8309 * 2 ^ 512
    + 0x75B227EBE28012079A059618C323C7041531D871F1E5A534CCF73F362693FDB7C072A49CAFA2D4ADF04759FA7DC982CA * 2 ^ 128
    + 0x76ABD7FE2B670130C56F6BF27B777C63
def aesBoxInv : Nat :=
  0x7D0C2155631469E126D677BA7E042B17619953833CBBEBC8B0F52AAE4D3BE0A0EF9CC9939F7AE52D0D4AB519A97F5160 * 2 ^ 1664
    + 0x5FEC8027591012B131C7078833A8DD1FF45ACD78FEC0DB9A2079D2C64B3E56FC1BBE18AA0E62B76F89C5291D711AF147 * 2 ^ 1280
    + 0x6EDF751CE837F9E28535ADE72274AC9673E6B4F0CECFF297EADC674F4111913A6B8A130103BDAFC1020F3FCA8F1E2CD0 * 2 ^ 896
    + 0x0645B3B80558E4F70AD3BC8C00ABD890849D8DA75746155EDAB9EDFD5048706C92B6655DCC5CA4D41698688664F6F872 * 2 ^ 512
    + 0x25D18B6D49A25B76B224D92866A12E084EC3FA420B954CEE3D23C2A632947B54CBE9DEC444438E3487FF2F9B8239E37C * 2 ^ 128
    + 0xFBD7F3819EA340BF38A53630D56A0952

/-- Byte `x` through a box. -/
def boxAt (box x : Nat) : Nat := box >>> (8 * x) % 256

/-- Two blocks added bit by bit. -/
def xorBlock (a b : List Nat) : List Nat := List.zipWith (· ^^^ ·) a b

/-- A field element times x, in GF(2^8) with polynomial 0x11B. -/
def xtime (a : Nat) : Nat := if a < 128 then 2 * a else (2 * a) ^^^ 0x11B

/-- A product in GF(2^8), over the `n` low bits of `b`. -/
def aesMul : (n a b : Nat) → Nat
  | 0, _, _ => 0
  | n + 1, a, b => (if b % 2 = 1 then a else 0) ^^^ aesMul n (xtime a) (b / 2)

/-- Row `r` of the block moves `r` columns left, or right when `back`. -/
def shiftRows (back : Bool) (s : List Nat) : List Nat :=
  (List.range 16).map (fun i =>
    let r := i % 4
    let c := if back then i / 4 + 4 - r else i / 4 + r
    s.getD (4 * (c % 4) + r) 0)

/-- Each column times the circulant matrix whose first row is `m`. -/
def mixColumns (m : List Nat) (s : List Nat) : List Nat :=
  (List.range 16).map (fun i =>
    (List.range 4).foldl (fun a j => a ^^^ aesMul 4 (s.getD (i - i % 4 + j) 0) (m.getD ((j + 4 - i % 4) % 4) 0)) 0)

/-- The next round key, from round constant `rcon`. -/
def nextKey (rcon : Nat) (k : List Nat) : List Nat :=
  let t := (List.range 4).map (fun i => boxAt aesBox (k.getD (12 + (i + 1) % 4) 0) ^^^ (if i = 0 then rcon else 0))
  (List.range 4).foldl (fun out c => out ++ (List.range 4).map (fun i =>
    k.getD (4 * c + i) 0 ^^^ (if c = 0 then t.getD i 0 else out.getD (4 * (c - 1) + i) 0))) []

/-- A key and the `n` round keys that follow it. -/
def roundKeys : (n rcon : Nat) → (k : List Nat) → List (List Nat)
  | 0, _, k => [k]
  | n + 1, rcon, k => k :: roundKeys n (xtime rcon) (nextKey rcon k)

/-- The rounds of encryption after the first key is added; the last does not mix columns. -/
def encRounds : (ks : List (List Nat)) → (s : List Nat) → List Nat
  | [], s => s
  | k :: ks, s =>
    let t := shiftRows false (s.map (boxAt aesBox))
    if ks.isEmpty then xorBlock t k else encRounds ks (xorBlock (mixColumns [2, 3, 1, 1] t) k)

/-- The rounds of decryption after the last key is added. -/
def decRounds : (ks : List (List Nat)) → (s : List Nat) → List Nat
  | [], s => s
  | k :: ks, s =>
    let t := xorBlock ((shiftRows true s).map (boxAt aesBoxInv)) k
    if ks.isEmpty then t else decRounds ks (mixColumns [14, 11, 13, 9] t)

/-- Bytes as numbers, 16 of them, and back. -/
def toBlock (b : List Byte) : List Nat := (padTo 16 b).map (fun x => x.toNat)
def ofBlock (s : List Nat) : List Byte := s.map (BitVec.ofNat 8)

/-- AES-128 encryption of a block under round keys. -/
def aesEnc (ks : List (List Nat)) (s : List Nat) : List Nat := encRounds (ks.drop 1) (xorBlock s (ks.headD []))

/-- AES-128 decryption of a block under round keys. -/
def aesDec (ks : List (List Nat)) (s : List Nat) : List Nat := decRounds (ks.reverse.drop 1) (xorBlock s (ks.reverse.headD []))

/-- The round keys of a 16-byte key. -/
def aesKeys (key : List Byte) : List (List Nat) := roundKeys 10 1 (toBlock key)

/-! AES-CMAC-128. -/

/-- The doubling that gives CMAC's subkeys. -/
def cmacDouble (b : List Byte) : List Byte :=
  let v := beNat b
  beBytes 16 (if v < 2 ^ 127 then 2 * v else ((2 * v) % 2 ^ 128) ^^^ 0x87)

/-- The chain of CMAC over what is left of a message; `n` bounds the blocks before the last. -/
def cmacChain (ks : List (List Nat)) (k1 k2 : List Byte) : (n : Nat) → (x : List Nat) → (m : List Byte) → List Nat
  | 0, x, m =>
    let last := if m.length = 16 then xorBlock (toBlock m) (toBlock k1) else xorBlock (toBlock (m ++ [0x80])) (toBlock k2)
    aesEnc ks (xorBlock x last)
  | n + 1, x, m => cmacChain ks k1 k2 n (aesEnc ks (xorBlock x (toBlock m))) (m.drop 16)

/-- The 16 bytes of AES-CMAC-128 over a message under a 16-byte key (R99, R369). Log entry 10 (PRESUMED). -/
def aesCmac (key msg : List Byte) : List Byte :=
  let ks := aesKeys key
  let k1 := cmacDouble (ofBlock (aesEnc ks (List.replicate 16 0)))
  ofBlock (cmacChain ks k1 (cmacDouble k1) ((msg.length - 1) / 16) (List.replicate 16 0) msg)

/-! RFC 3394 key unwrap (R457). -/

/-- The steps of the unwrap from step `t` down, over the integrity register and the 64-bit blocks. -/
def unwrapSteps (ks : List (List Nat)) : (t : Nat) → (a : List Byte) → (rs : List (List Byte)) → List Byte × List (List Byte)
  | 0, a, rs => (a, rs)
  | t + 1, a, rs =>
    let i := t % rs.length
    let b := ofBlock (aesDec ks (toBlock (beBytes 8 (beNat a ^^^ (t + 1)) ++ rs.getD i [])))
    unwrapSteps ks t (b.take 8) (rs.set i (b.drop 8))

/-- The plain bytes of a wrapped key, none where the integrity check fails or the length is no wrapped form's. Log entry 10 (PRESUMED). -/
def keyUnwrap (kek blob : List Byte) : Option (List Byte) :=
  let n := blob.length / 8 - 1
  let (a, rs) := unwrapSteps (aesKeys kek) (6 * n) (blob.take 8) ((List.range n).map (fun i => slice blob (8 * (i + 1)) 8))
  if blob.length % 8 = 0 ∧ 2 ≤ n ∧ a = List.replicate 8 0xA6 then some rs.flatten else none

/-! SHA-256. -/

/-- The round constants and the initial value, word `i` at bits [32i + 31:32i]. -/
def shaK : Nat :=
  0xC67178F2BEF9A3F7A4506CEB90BEFFFA8CC7020884C8781478A5636F748F82EE682E6FF35B9CCA4F4ED8AA4A391C0CB3 * 2 ^ 1664
    + 0x34B0BCB52748774C1E376C0819A4C116106AA070F40E3585D6990624D192E819C76C51A3C24B8B70A81A664BA2BFE8A1 * 2 ^ 1280
    + 0x92722C8581C2C92E766A0ABB650A735453380D134D2C6DFC2E1B213827B70A851429296706CA6351D5A79147C6E00BF3 * 2 ^ 896
    + 0xBF597FC7B00327C8A831C66D983E515276F988DA5CB0A9DC4A7484AA2DE92C6F240CA1CC0FC19DC6EFBE4786E49B69C1 * 2 ^ 512
    + 0xC19BF1749BDC06A780DEB1FE72BE5D74550C7DC3243185BE12835B01D807AA98AB1C5ED5923F82A459F111F13956C25B * 2 ^ 128
    + 0xE9B5DBA5B5C0FBCF71374491428A2F98
def shaH : Nat :=
  0x5BE0CD191F83D9AB9B05688C510E527FA54FF53A3C6EF372BB67AE856A09E667

/-- Word `i` of a packed table. -/
def wordAt (t i : Nat) : Nat := t >>> (32 * i) % 2 ^ 32

/-- A 32-bit word turned right by `n`. -/
def rotr (n x : Nat) : Nat := x / 2 ^ n ||| x * 2 ^ (32 - n) % 2 ^ 32

/-- The message schedule, newest word first, lengthened by `n` words. -/
def shaSchedule : (n : Nat) → (w : List Nat) → List Nat
  | 0, w => w
  | n + 1, w =>
    let a := w.getD 14 0
    let b := w.getD 1 0
    let s0 := rotr 7 a ^^^ rotr 18 a ^^^ (a / 8)
    let s1 := rotr 17 b ^^^ rotr 19 b ^^^ (b / 1024)
    shaSchedule n ((w.getD 15 0 + s0 + w.getD 6 0 + s1) % 2 ^ 32 :: w)

/-- The eight working words. -/
structure Sha where
  a : Nat
  b : Nat
  c : Nat
  d : Nat
  e : Nat
  f : Nat
  g : Nat
  h : Nat

/-- One round with the sum `k` of its constant and schedule word. -/
def Sha.round (s : Sha) (k : Nat) : Sha :=
  let s1 := rotr 6 s.e ^^^ rotr 11 s.e ^^^ rotr 25 s.e
  let ch := (s.e &&& s.f) ^^^ ((2 ^ 32 - 1 - s.e) &&& s.g)
  let t1 := s.h + s1 + ch + k
  let s0 := rotr 2 s.a ^^^ rotr 13 s.a ^^^ rotr 22 s.a
  let maj := (s.a &&& s.b) ^^^ (s.a &&& s.c) ^^^ (s.b &&& s.c)
  ⟨(t1 + s0 + maj) % 2 ^ 32, s.a, s.b, s.c, (s.d + t1) % 2 ^ 32, s.e, s.f, s.g⟩

/-- A 64-byte block taken into the hash. -/
def Sha.block (s : Sha) (b : List Byte) : Sha :=
  let w := (shaSchedule 48 ((List.range 16).map (fun i => beNat (slice b (4 * i) 4))).reverse).reverse
  let t := ((List.range 64).zip w).foldl (fun u (i, x) => u.round (wordAt shaK i + x)) s
  let add (x y : Nat) : Nat := (x + y) % 2 ^ 32
  ⟨add s.a t.a, add s.b t.b, add s.c t.c, add s.d t.d, add s.e t.e, add s.f t.f, add s.g t.g, add s.h t.h⟩

/-- `n` blocks taken in turn. -/
def Sha.blocks : (n : Nat) → (s : Sha) → (m : List Byte) → Sha
  | 0, s, _ => s
  | n + 1, s, m => Sha.blocks n (s.block (m.take 64)) (m.drop 64)

/-- The 32 bytes of SHA-256 over a message (R123, R452, R453, R459). Log entry 10 (PRESUMED). -/
def sha256 (m : List Byte) : List Byte :=
  let p := m ++ [0x80] ++ zeros ((119 - m.length % 64) % 64) ++ beBytes 8 (8 * m.length)
  let s := Sha.blocks (p.length / 64) ⟨wordAt shaH 0, wordAt shaH 1, wordAt shaH 2, wordAt shaH 3, wordAt shaH 4, wordAt shaH 5,
    wordAt shaH 6, wordAt shaH 7⟩ p
  [s.a, s.b, s.c, s.d, s.e, s.f, s.g, s.h].flatMap (beBytes 4)

/-! ECDSA over P-256. -/

/-- The field prime, the order of the group, the curve's constant and its base point. -/
def ecP : Nat := 2 ^ 256 - 2 ^ 224 + 2 ^ 192 + 2 ^ 96 - 1
def ecN : Nat := 0xFFFFFFFF00000000FFFFFFFFFFFFFFFFBCE6FAADA7179E84F3B9CAC2FC632551
def ecB : Nat := 0x5AC635D8AA3A93E7B3EBBD55769886BC651D06B0CC53B0F63BCE3C3E27D2604B
def ecG : Nat × Nat := (0x6B17D1F2E12C4247F8BCE6E563A440F277037D812DEB33A0F4A13945D898C296, 0x4FE342E2FE1A7F9B8EE7EB4A7C0F9E162BCE33576B315ECECBB6406837BF51F5)

/-- `b` to the power `e` modulo `m`, over the `n` low bits of `e`. -/
def powMod (m : Nat) : (n b e : Nat) → Nat
  | 0, _, _ => 1
  | n + 1, b, e => (if e % 2 = 1 then b else 1) * powMod m n (b * b % m) (e / 2) % m

/-- The inverse modulo a prime. -/
def invMod (m x : Nat) : Nat := powMod m 256 (x % m) (m - 2)

/-- The sum of two points of the curve; none is the point at infinity. -/
def ecAdd (p q : Option (Nat × Nat)) : Option (Nat × Nat) :=
  match p, q with
  | none, q => q
  | p, none => p
  | some (x1, y1), some (x2, y2) =>
    if x1 = x2 ∧ (y1 + y2) % ecP = 0 then none
    else
      let l := if x1 = x2 then (3 * x1 * x1 + ecP - 3) * invMod ecP (2 * y1) % ecP
        else (y2 + ecP - y1) * invMod ecP (x2 + ecP - x1) % ecP
      let x3 := (l * l + 2 * ecP - x1 - x2) % ecP
      some (x3, (l * (x1 + ecP - x3) + ecP - y1) % ecP)

/-- `k` times a point, over the `n` low bits of `k`. -/
def ecMul : (n k : Nat) → (p : Option (Nat × Nat)) → Option (Nat × Nat)
  | 0, _, _ => none
  | n + 1, k, p => ecAdd (if k % 2 = 1 then p else none) (ecMul n (k / 2) (ecAdd p p))

/-- A point of the curve other than infinity, its coordinates in range. -/
def onCurve (x y : Nat) : Bool :=
  decide (x < ecP) && decide (y < ecP) && (y * y + 3 * x) % ecP == (x * x * x + ecB) % ecP

/-- The signature, r then s, of a 32-byte digest verifies under the public key, X then Y (R123, R452, R459). Log entry 10 (PRESUMED). -/
def ecdsaVerify (key digest sig : List Byte) : Bool :=
  let x := beNat (slice key 0 32)
  let y := beNat (slice key 32 32)
  let r := beNat (slice sig 0 32)
  let t := beNat (slice sig 32 32)
  if onCurve x y && decide (0 < r) && decide (r < ecN) && decide (0 < t) && decide (t < ecN) then
    let w := invMod ecN t
    match ecAdd (ecMul 256 (beNat digest * w % ecN) (some ecG)) (ecMul 256 (r * w % ecN) (some (x, y))) with
    | none => false
    | some (v, _) => v % ecN == r
  else false

end Sys2Proof.Machine
end

