-- ==== Sys2Proof/Machine/RegTypes.lean ====
section
/-! DEFINITION. How the model describes a register: its fields, their access codes (R9) and the conditions that lock them,
and how it describes an event (R504). -/

namespace Sys2Proof.Machine

/-- A named register field: its key (32 × BAR0 offset + lowest bit), its width, and its reset value. -/
structure Fl where
  key : Nat
  width : Nat
  rst : Nat
  deriving DecidableEq, Repr

/-- Element `i` of a list of per-index reset values, the last one holding for every higher index. -/
def rstAt (xs : List Nat) (i : Nat) : Nat := xs.getD i (xs.getLastD 0)

/-- The condition that decides whether a locked field takes a write: set-up (R497), or the owning rule's own condition. -/
inductive LockKind where
  /-- GEN_HUB_ADDR.ADDR: a node in set-up (R25). -/
  | hubAddr
  /-- HIF_DB_BASE: HIF_CTL.DB_EN = 0 (R244). -/
  | dbBase
  /-- Ignored silently at the head (R245). -/
  | atNode
  /-- Ring registers: the ring's EN = 0 (R244). -/
  | ring
  /-- MSI-X table words (R216). -/
  | msix
  /-- PLN_CFG.SIG_REQ (R153, R449). -/
  | sigReq
  /-- Loopback parameters while one runs (R70). -/
  | loopRun
  /-- CPL_QCFG of queues 0 to 19: read-only, silently (R180). -/
  | qfix
  /-- CPL_QCFG fields locked while EN = 1 (R180). -/
  | qEn
  /-- LTM_GM_CFG: only at the head, silently elsewhere (R211). -/
  | atHead
  /-- LTM_ORIGIN and LTM_UTC (R185). -/
  | origin
  /-- Fields of a register locked while its own EN = 1. -/
  | selfEn
  /-- NET_PTP_CFG.ROLE (R271). -/
  | ptpRole
  /-- BLK_PORT_CFG.EN at a head (R286). -/
  | blkHead
  /-- BLK_PORT_CFG fields while the port is not OFF (R286). -/
  | blkEn
  /-- Display timing and buffer registers while the head is enabled (R307). -/
  | dsp
  /-- Window registers while the window's EN = 1 (R336). -/
  | winEn
  /-- CAN timing registers while the controller's EN = 1 (R336). -/
  | canEn
  /-- LPW_CH_CFG fields while the channel is QUALIFY, RAMP, ON or BLOCKED (R399). -/
  | lpwMode
  /-- LPW_CH_WIN: read-only for PC2 to PC5 (R398). -/
  | lpwWin
  /-- The flip mask in DEPLOYED, silently (R425). -/
  | flip
  /-- REL_FLIP_CTL.ARM (R425). -/
  | flipArm
  deriving DecidableEq, Repr

/-- Access codes (R9); `wok` is a write-only field whose written value the hub keeps, `locked` an RWL field or one whose
owning rule ignores writes under a condition of its own. -/
inductive Acc where
  | rw | ro | wo | wok | w1c | w1s | rsv
  | locked (k : LockKind)
  deriving DecidableEq, Repr

/-- One field of a register. -/
structure Fd where
  hi : Nat
  lo : Nat
  acc : Acc
  rst : List Nat
  bad : List (Nat × Nat)
  deriving DecidableEq, Repr

/-- One register, or an array of them: offset, dimensions as (count, stride) from the widest stride down, and fields. -/
structure Reg where
  off : Nat
  dims : List (Nat × Nat)
  fields : List Fd
  deriving DecidableEq, Repr

/-- The indices at which an array of registers holds offset `rem` past its base, if it does. -/
def dimIdx : (dims : List (Nat × Nat)) → (rem : Nat) → Option (List Nat)
  | [], rem => if rem = 0 then some [] else none
  | (n, st) :: t, rem =>
    let i := rem / st
    if i < n then (dimIdx t (rem - i * st)).map (i :: ·)
    else none

/-- Event severities (R237). -/
inductive Sev where
  | info | notice | warning | error | fatal
  deriving DecidableEq, Repr

/-- The severity code of an event record (R237). -/
def Sev.code : Sev → Nat
  | .info => 0
  | .notice => 1
  | .warning => 2
  | .error => 3
  | .fatal => 4

/-- An event's code, severity and argument widths in bytes (R504, R505). -/
structure EvDef where
  code : Nat
  sev : Sev
  widths : List Nat
  deriving DecidableEq, Repr

/-- The ARGS value of a record: each argument in its width, from byte 0 onward, low bytes kept (R504). -/
def packArgs : (widths : List Nat) → (args : List Nat) → (at' : Nat) → Nat
  | w :: ws, a :: as, o => (a % 2 ^ (8 * w)) * 2 ^ (8 * o) + packArgs ws as (o + w)
  | _, _, _ => 0

end Sys2Proof.Machine
end

