-- ==== Sys2Proof/Machine/Events.lean ====
section
/-! DEFINITION. Every event of R505: its code, its severity as the owning event table gives it, and its argument widths. -/

namespace Sys2Proof.Machine.Evt

def GEN_LOCKED_WRITE : EvDef := ⟨0x0001, .warning, [4, 4]⟩
def GEN_HEAD_CONFLICT : EvDef := ⟨0x0002, .error, [8]⟩
def GEN_ROLE_FUSED : EvDef := ⟨0x0003, .error, [1]⟩
def TICK_OVERRUN : EvDef := ⟨0x0004, .warning, [1, 4]⟩
def GEN_READY : EvDef := ⟨0x0005, .info, [4, 1]⟩
def GEN_BOARD_CFG_BAD : EvDef := ⟨0x0006, .error, [1, 1]⟩
def GEN_DUMP_TAKEN : EvDef := ⟨0x0007, .warning, [1, 4, 1]⟩
def GEN_FATAL : EvDef := ⟨0x0008, .fatal, [1, 4]⟩
def HIF_LINK_UP : EvDef := ⟨0x0101, .info, [1, 1]⟩
def HIF_LINK_DOWN : EvDef := ⟨0x0102, .warning, []⟩
def HIF_HOST_RESET : EvDef := ⟨0x0103, .notice, [1]⟩
def HIF_RING_ERROR : EvDef := ⟨0x0104, .error, [2, 1]⟩
def HIF_DMA_ERROR : EvDef := ⟨0x0105, .error, [2, 4]⟩
def HIF_DB_LATE : EvDef := ⟨0x0106, .warning, [4]⟩
def HIF_EVQ_OVERFLOW : EvDef := ⟨0x0107, .warning, [2, 4]⟩
def HIF_BAD_ACCESS : EvDef := ⟨0x0108, .warning, [4, 1]⟩
def PLN_READY : EvDef := ⟨0x0201, .info, [4, 4]⟩
def PLN_LOAD_FAIL : EvDef := ⟨0x0202, .error, [4, 1, 1, 2]⟩
def PLN_ARMED : EvDef := ⟨0x0203, .info, [4, 4]⟩
def PLN_ARM_REFUSED : EvDef := ⟨0x0204, .warning, [4, 1]⟩
def PLN_ARM_LATE : EvDef := ⟨0x0205, .error, [4, 4]⟩
def PLN_DISARMED : EvDef := ⟨0x0206, .info, [4, 4]⟩
def PLN_SWITCH : EvDef := ⟨0x0207, .info, [4, 1, 3]⟩
def PLN_TRANSPARENT : EvDef := ⟨0x0208, .error, [4, 1]⟩
def PLN_EPOCH_MISMATCH : EvDef := ⟨0x0209, .error, [1, 4]⟩
def PLN_REJOIN : EvDef := ⟨0x020A, .info, [4, 4]⟩
def PLN_PLAN_B : EvDef := ⟨0x020B, .warning, [2, 4]⟩
def PLN_ARM_CANCELLED : EvDef := ⟨0x020C, .warning, [8]⟩
def TRK_ATTACH : EvDef := ⟨0x0301, .info, [1, 1]⟩
def TRK_DETACH : EvDef := ⟨0x0302, .notice, [1]⟩
def TRK_MISCABLED : EvDef := ⟨0x0303, .error, [1]⟩
def TRK_CABLE_ID_MISMATCH : EvDef := ⟨0x0304, .warning, [1, 2, 2]⟩
def TRK_CABLE_ID_BAD : EvDef := ⟨0x0305, .warning, [1, 1]⟩
def TRK_CSUP_TAKEOVER : EvDef := ⟨0x0306, .notice, [1]⟩
def TRK_CSUP_FAULT : EvDef := ⟨0x0307, .error, [1]⟩
def TRK_LINK_UP : EvDef := ⟨0x0308, .info, [1, 2]⟩
def TRK_LINK_FAIL : EvDef := ⟨0x0309, .error, [1, 1]⟩
def TRK_PAIR_FAULT : EvDef := ⟨0x030A, .warning, [1, 1]⟩
def TRK_PAIR_LOCK_FAIL : EvDef := ⟨0x030B, .error, [1, 1, 4]⟩
def TRK_FILL_RANGE : EvDef := ⟨0x030C, .error, [1, 1, 4]⟩
def TRK_EQ_MISSING : EvDef := ⟨0x030D, .error, [1, 1, 1]⟩
def TRK_LOOP_DONE : EvDef := ⟨0x030E, .info, [1, 4]⟩
def TRK_LOOP_ABORT : EvDef := ⟨0x030F, .notice, [1, 1]⟩
def TRK_BREAK : EvDef := ⟨0x0310, .error, [1, 4]⟩
def TRK_RING_ALARM : EvDef := ⟨0x0311, .notice, [2, 2, 4]⟩
def TRK_ALARM_LATE : EvDef := ⟨0x0312, .warning, [2, 4]⟩
def TRK_SECOND_BREAK : EvDef := ⟨0x0313, .error, [2, 2]⟩
def TRK_MGMT_AUTH_FAIL : EvDef := ⟨0x0314, .warning, [1, 2]⟩
def CPL_OVERRUN : EvDef := ⟨0x0401, .warning, [2, 4]⟩
def CPL_POOL_EXHAUSTED : EvDef := ⟨0x0402, .warning, [4, 4]⟩
def CPL_QUOTA_REFUSED : EvDef := ⟨0x0403, .warning, [4, 4]⟩
def CPL_CARVE_CLAIMED : EvDef := ⟨0x0404, .info, [2, 4]⟩
def CPL_CARVE_FLUSH : EvDef := ⟨0x0405, .error, [2, 4]⟩
def LTM_LOCKED : EvDef := ⟨0x0501, .info, [1, 2]⟩
def LTM_HOLDOVER : EvDef := ⟨0x0502, .warning, [1]⟩
def LTM_HOLDOVER_LIMIT : EvDef := ⟨0x0503, .error, [4]⟩
def LTM_REMAP : EvDef := ⟨0x0504, .warning, [8]⟩
def LTM_STEP : EvDef := ⟨0x0505, .notice, [8]⟩
def LTM_PATH_SWITCH : EvDef := ⟨0x0506, .notice, [1, 2]⟩
def LTM_OFFSET_ALARM : EvDef := ⟨0x0507, .warning, [1, 4]⟩
def LTM_CAPTURE : EvDef := ⟨0x0508, .info, [8]⟩
def NET_LINK_UP : EvDef := ⟨0x0601, .info, [1, 1]⟩
def NET_LINK_DOWN : EvDef := ⟨0x0602, .warning, [1, 1]⟩
def NET_TX_GAP : EvDef := ⟨0x0603, .notice, [1, 4]⟩
def NET_GATE_OVERSIZE : EvDef := ⟨0x0604, .warning, [1, 1]⟩
def NET_GL_TAKEOVER : EvDef := ⟨0x0605, .info, [1, 4, 1]⟩
def NET_GL_LATE : EvDef := ⟨0x0606, .warning, [1, 4]⟩
def NET_CFG_REFUSED : EvDef := ⟨0x0607, .warning, [4, 4]⟩
def BLK_PORT_UP : EvDef := ⟨0x0701, .info, [1, 1, 1]⟩
def BLK_PORT_DOWN : EvDef := ⟨0x0702, .error, [1, 1]⟩
def BLK_DEV_TIMEOUT : EvDef := ⟨0x0703, .warning, [1, 2, 2]⟩
def BLK_CTRL_RESET : EvDef := ⟨0x0704, .error, [1, 2]⟩
def BLK_BAD_INBOUND : EvDef := ⟨0x0705, .warning, [1, 5]⟩
def DSP_HOTPLUG : EvDef := ⟨0x0801, .info, [1, 1]⟩
def DSP_LINK_UP : EvDef := ⟨0x0802, .info, [1, 1, 1]⟩
def DSP_LINK_FAIL : EvDef := ⟨0x0803, .warning, [1, 1]⟩
def DSP_CFG_REFUSED : EvDef := ⟨0x0804, .warning, [4, 4]⟩
def DSP_COMMIT_LATE : EvDef := ⟨0x0805, .warning, [1, 4, 3]⟩
def DSP_TILE_LOSS : EvDef := ⟨0x0806, .warning, [1, 4]⟩
def DSP_STAGE_OVERFLOW : EvDef := ⟨0x0807, .warning, [1, 4]⟩
def DSP_CARVE_LOST : EvDef := ⟨0x0808, .error, [1, 2]⟩
def DSP_RELOCK : EvDef := ⟨0x0809, .notice, [1, 4]⟩
def DSP_FREEZE : EvDef := ⟨0x080A, .error, [1, 4, 1]⟩
def DSP_FREEZE_CLEAR : EvDef := ⟨0x080B, .info, [1, 4]⟩
def FBR_POSTED_FAIL : EvDef := ⟨0x0901, .error, [8]⟩
def FBR_STALE : EvDef := ⟨0x0902, .warning, [8]⟩
def FBR_POLL_FAIL : EvDef := ⟨0x0903, .warning, [1, 1]⟩
def FBR_ZINT : EvDef := ⟨0x0904, .info, [1, 1]⟩
def FBR_CAN_ERR_PASSIVE : EvDef := ⟨0x0905, .warning, [1, 1, 1]⟩
def FBR_CAN_BUS_OFF : EvDef := ⟨0x0906, .error, [1, 1]⟩
def FBR_CAN_BUS_ON : EvDef := ⟨0x0907, .notice, [1]⟩
def FBR_CFG_REFUSED : EvDef := ⟨0x0908, .warning, [4, 4]⟩
def USB_BABBLE : EvDef := ⟨0x0A01, .warning, [1, 2]⟩
def USB_RESET_IN_CONTROL : EvDef := ⟨0x0A02, .notice, [1, 1]⟩
def USB_SESSION_UNLOCK : EvDef := ⟨0x0A03, .notice, [1]⟩
def USB_SESSION_FAIL : EvDef := ⟨0x0A04, .warning, [1, 1]⟩
def TCP_ATTACH : EvDef := ⟨0x0B01, .info, [1, 1, 1]⟩
def TCP_DETACH : EvDef := ⟨0x0B02, .info, [1]⟩
def TCP_ACCESSORY : EvDef := ⟨0x0B03, .notice, [1]⟩
def TCP_CONTRACT : EvDef := ⟨0x0B04, .info, [1, 2, 2]⟩
def TCP_NO_BUDGET : EvDef := ⟨0x0B05, .warning, [1, 2, 2]⟩
def TCP_VBUS_FAULT : EvDef := ⟨0x0B06, .error, [1, 2]⟩
def TCP_PD_FAIL : EvDef := ⟨0x0B07, .error, [1]⟩
def TCP_SWAP_ABORT : EvDef := ⟨0x0B08, .warning, [1, 1, 1, 1]⟩
def TCP_DP_ENTER : EvDef := ⟨0x0B09, .info, [1, 1]⟩
def TCP_DP_FAIL : EvDef := ⟨0x0B0A, .warning, [1, 1]⟩
def LPW_ON : EvDef := ⟨0x0C01, .info, [1, 4]⟩
def LPW_OFF : EvDef := ⟨0x0C02, .info, [1, 1]⟩
def LPW_TRIP : EvDef := ⟨0x0C03, .error, [1, 1, 4, 1]⟩
def LPW_LATCHED : EvDef := ⟨0x0C04, .error, [1, 1]⟩
def LPW_REATTACH_COOLDOWN : EvDef := ⟨0x0C05, .notice, [1, 4]⟩
def LPW_REVERSE : EvDef := ⟨0x0C06, .notice, [1, 1]⟩
def LPW_NTC_FAULT : EvDef := ⟨0x0C07, .warning, [1, 2]⟩
def LPW_CFG_REFUSED : EvDef := ⟨0x0C08, .warning, [4, 4]⟩
def LPW_RAIL_FAIL : EvDef := ⟨0x0C09, .fatal, [1, 1]⟩
def PWR_STEP_REFUSED : EvDef := ⟨0x0D01, .warning, [1, 1, 1, 4]⟩
def PWR_WAKE_FAIL : EvDef := ⟨0x0D02, .error, [1, 1, 1, 1]⟩
def PWR_WAKE_RECOVERED : EvDef := ⟨0x0D03, .notice, [1, 1]⟩
def PWR_XTAL_FAIL : EvDef := ⟨0x0D04, .fatal, [1, 4]⟩
def REL_ECC_CE : EvDef := ⟨0x0E01, .info, [1, 4]⟩
def REL_ECC_UE : EvDef := ⟨0x0E02, .error, [1, 4]⟩
def REL_ROW_REPAIRED : EvDef := ⟨0x0E03, .notice, [1, 2, 1]⟩
def REL_MARGIN_STAGED : EvDef := ⟨0x0E04, .notice, [1, 1, 2]⟩
def REL_MAINT_DONE : EvDef := ⟨0x0E05, .info, [2, 4]⟩
def REL_MAINT_ABORT : EvDef := ⟨0x0E06, .notice, [2, 1]⟩
def REL_FUSE_WEAK : EvDef := ⟨0x0E07, .warning, [4]⟩
def REL_FUSE_FAIL : EvDef := ⟨0x0E08, .error, [2]⟩
def REL_FET_WEAR : EvDef := ⟨0x0E09, .warning, [1, 4]⟩
def REPLAN_ADVICE : EvDef := ⟨0x0E0A, .warning, [8]⟩
def SEC_LC_REFUSED : EvDef := ⟨0x0F01, .warning, [1, 1]⟩
def SEC_KEY_REFUSED : EvDef := ⟨0x0F02, .warning, [1, 1, 2]⟩
def SEC_NO_KEY : EvDef := ⟨0x0F03, .error, [1]⟩
def SEC_DEBUG_UNLOCK : EvDef := ⟨0x0F04, .warning, [1, 1]⟩
def SEC_DEBUG_FAIL : EvDef := ⟨0x0F05, .warning, [1]⟩

end Sys2Proof.Machine.Evt
end

