-- ==== Sys2Proof/Machine/Fields.lean ====
section
/-! DEFINITION. The named register fields of the register map (R491) and the 48-bit statistics counters (R118),
one constant each, with the field's reset value where the spec gives one (R492, R493 and the owning chapters). -/

namespace Sys2Proof.Machine.Fld

/-! GEN_ID (R3) -/
def GEN_ID_PART : Fl := ⟨32 * (0x000000) + 16, 16, 2400⟩
def GEN_ID_VARIANT : Fl := ⟨32 * (0x000000) + 8, 8, 10⟩
def GEN_ID_REV : Fl := ⟨32 * (0x000000) + 0, 8, 32⟩
/-! GEN_STRAPS (R24) -/
def GEN_STRAPS_UPB_SEL : Fl := ⟨32 * (0x000004) + 8, 1, 0⟩
def GEN_STRAPS_ROLE : Fl := ⟨32 * (0x000004) + 4, 2, 0⟩
def GEN_STRAPS_FUSED : Fl := ⟨32 * (0x000004) + 3, 1, 0⟩
def GEN_STRAPS_MODE : Fl := ⟨32 * (0x000004) + 0, 2, 0⟩
/-! GEN_HUB_ADDR (R25) -/
def GEN_HUB_ADDR_ADDR : Fl := ⟨32 * (0x000008) + 0, 9, 510⟩
/-! GEN_SETUP (R493) -/
def GEN_SETUP_OPEN : Fl := ⟨32 * (0x00000C) + 0, 16, 65535⟩
/-! GEN_HUB_ID_LO (R493) -/
def GEN_HUB_ID_LO_ID_LO : Fl := ⟨32 * (0x000010) + 0, 32, 0⟩
/-! GEN_HUB_ID_HI (R493) -/
def GEN_HUB_ID_HI_ID_HI : Fl := ⟨32 * (0x000014) + 0, 28, 0⟩
/-! GEN_EVT_STATUS (R493) -/
def GEN_EVT_STATUS_OVERRUN : Fl := ⟨32 * (0x000018) + 31, 1, 0⟩
def GEN_EVT_STATUS_USED : Fl := ⟨32 * (0x000018) + 16, 12, 0⟩
def GEN_EVT_STATUS_KEPT : Fl := ⟨32 * (0x000018) + 0, 5, 0⟩
/-! GEN_DIE_TEMP (R493) -/
def GEN_DIE_TEMP_TEMP : Fl := ⟨32 * (0x00001C) + 0, 16, 0⟩
/-! GEN_TBL_VIEW (R493) -/
def GEN_TBL_VIEW_RD : Fl := ⟨32 * (0x000020) + 1, 1, 0⟩
def GEN_TBL_VIEW_EYE : Fl := ⟨32 * (0x000020) + 0, 1, 0⟩
/-! GEN_BOOT_STATUS (R466) -/
def GEN_BOOT_STATUS_READY : Fl := ⟨32 * (0x000100) + 31, 1, 0⟩
def GEN_BOOT_STATUS_FALLBACK : Fl := ⟨32 * (0x000100) + 30, 1, 0⟩
def GEN_BOOT_STATUS_HELD : Fl := ⟨32 * (0x000100) + 29, 1, 0⟩
def GEN_BOOT_STATUS_SLOT : Fl := ⟨32 * (0x000100) + 28, 1, 0⟩
def GEN_BOOT_STATUS_FAIL_A : Fl := ⟨32 * (0x000100) + 24, 4, 0⟩
def GEN_BOOT_STATUS_FAIL_B : Fl := ⟨32 * (0x000100) + 20, 4, 0⟩
def GEN_BOOT_STATUS_CFG_COPY : Fl := ⟨32 * (0x000100) + 16, 4, 0⟩
/-! GEN_RESET (R465) -/
/-! GEN_RESET_CAUSE (R466) -/
def GEN_RESET_CAUSE_CLASS : Fl := ⟨32 * (0x000108) + 28, 4, 1⟩
def GEN_RESET_CAUSE_DETAIL : Fl := ⟨32 * (0x000108) + 24, 4, 0⟩
def GEN_RESET_CAUSE_COUNT : Fl := ⟨32 * (0x000108) + 0, 16, 0⟩
/-! GEN_DUMP_STATUS (R466) -/
def GEN_DUMP_STATUS_TARGET : Fl := ⟨32 * (0x00010C) + 30, 2, 0⟩
def GEN_DUMP_STATUS_COMPLETE : Fl := ⟨32 * (0x00010C) + 29, 1, 0⟩
def GEN_DUMP_STATUS_PRESERVED : Fl := ⟨32 * (0x00010C) + 28, 1, 0⟩
def GEN_DUMP_STATUS_AREA : Fl := ⟨32 * (0x00010C) + 26, 2, 0⟩
def GEN_DUMP_STATUS_CAUSE : Fl := ⟨32 * (0x00010C) + 22, 4, 0⟩
def GEN_DUMP_STATUS_LENGTH_KB : Fl := ⟨32 * (0x00010C) + 0, 18, 0⟩
/-! GEN_RD_WIN_SEL (R465) -/
def GEN_RD_WIN_SEL_SRC : Fl := ⟨32 * (0x000110) + 31, 1, 0⟩
def GEN_RD_WIN_SEL_PAGE : Fl := ⟨32 * (0x000110) + 0, 8, 0⟩
/-! GEN_DUMP_CTL (R465) -/
/-! HIF_STATUS (R245) -/
def HIF_STATUS_DUMP_ARMED : Fl := ⟨32 * (0x010000) + 16, 1, 0⟩
def HIF_STATUS_SPEED : Fl := ⟨32 * (0x010000) + 12, 4, 0⟩
def HIF_STATUS_WIDTH : Fl := ⟨32 * (0x010000) + 7, 5, 0⟩
def HIF_STATUS_MODE : Fl := ⟨32 * (0x010000) + 5, 2, 0⟩
def HIF_STATUS_BAR2 : Fl := ⟨32 * (0x010000) + 4, 1, 0⟩
def HIF_STATUS_DB_LATE : Fl := ⟨32 * (0x010000) + 3, 1, 0⟩
def HIF_STATUS_BME : Fl := ⟨32 * (0x010000) + 2, 1, 0⟩
def HIF_STATUS_LINK_UP : Fl := ⟨32 * (0x010000) + 0, 1, 0⟩
/-! HIF_CTL (R244) -/
def HIF_CTL_DB_EN : Fl := ⟨32 * (0x010004) + 0, 1, 0⟩
/-! HIF_DB_BASE_LO (R244) -/
def HIF_DB_BASE_LO_ADDR : Fl := ⟨32 * (0x010008) + 12, 20, 0⟩
/-! HIF_DB_BASE_HI (R244) -/
def HIF_DB_BASE_HI_ADDR : Fl := ⟨32 * (0x01000C) + 0, 32, 0⟩
/-! HIF_NUDGE (R244) -/
/-! HIF_MGMT_TIMEOUT (R244) -/
def HIF_MGMT_TIMEOUT_TICKS : Fl := ⟨32 * (0x010014) + 0, 16, 1024⟩
/-! HIF_RELAY_CFG (R244) -/
def HIF_RELAY_CFG_CELLS : Fl := ⟨32 * (0x010018) + 8, 4, 4⟩
def HIF_RELAY_CFG_MIN_SEV : Fl := ⟨32 * (0x010018) + 0, 3, 0⟩
/-! HIF_RING_BASE_LO (R244) -/
def HIF_RING_BASE_LO_ADDR (i : Nat) : Fl := ⟨32 * (0x011000 + 0x8 * i) + 12, 20, 0⟩
/-! HIF_RING_BASE_HI (R244) -/
def HIF_RING_BASE_HI_ADDR (i : Nat) : Fl := ⟨32 * (0x011004 + 0x8 * i) + 0, 32, 0⟩
/-! HIF_RING_CFG (R245) -/
def HIF_RING_CFG_EN (i : Nat) : Fl := ⟨32 * (0x013000 + 0x4 * i) + 31, 1, 0⟩
def HIF_RING_CFG_TYPE (i : Nat) : Fl := ⟨32 * (0x013000 + 0x4 * i) + 28, 3, 0⟩
def HIF_RING_CFG_SIZE (i : Nat) : Fl := ⟨32 * (0x013000 + 0x4 * i) + 24, 4, 0⟩
def HIF_RING_CFG_CQ (i : Nat) : Fl := ⟨32 * (0x013000 + 0x4 * i) + 14, 10, 0⟩
def HIF_RING_CFG_QUEUE (i : Nat) : Fl := ⟨32 * (0x013000 + 0x4 * i) + 0, 13, 0⟩
/-! HIF_RING_AUX (R245) -/
def HIF_RING_AUX_IRQ_EN (i : Nat) : Fl := ⟨32 * (0x014000 + 0x4 * i) + 31, 1, 0⟩
def HIF_RING_AUX_VECTOR (i : Nat) : Fl := ⟨32 * (0x014000 + 0x4 * i) + 20, 11, 0⟩
def HIF_RING_AUX_TICKS (i : Nat) : Fl := ⟨32 * (0x014000 + 0x4 * i) + 12, 8, 0⟩
def HIF_RING_AUX_COUNT (i : Nat) : Fl := ⟨32 * (0x014000 + 0x4 * i) + 0, 12, 0⟩
/-! HIF_RING_FILT (R245) -/
def HIF_RING_FILT_BLOCKS (i : Nat) : Fl := ⟨32 * (0x015000 + 0x4 * i) + 16, 16, 65535⟩
def HIF_RING_FILT_REMOTE (i : Nat) : Fl := ⟨32 * (0x015000 + 0x4 * i) + 15, 1, 1⟩
def HIF_RING_FILT_LOCAL (i : Nat) : Fl := ⟨32 * (0x015000 + 0x4 * i) + 14, 1, 1⟩
def HIF_RING_FILT_MIN_SEV (i : Nat) : Fl := ⟨32 * (0x015000 + 0x4 * i) + 0, 3, 0⟩
/-! HIF_RING_STATUS (R245) -/
def HIF_RING_STATUS_STATE (i : Nat) : Fl := ⟨32 * (0x016000 + 0x4 * i) + 29, 3, 0⟩
def HIF_RING_STATUS_CAUSE (i : Nat) : Fl := ⟨32 * (0x016000 + 0x4 * i) + 25, 4, 0⟩
def HIF_RING_STATUS_COUNT (i : Nat) : Fl := ⟨32 * (0x016000 + 0x4 * i) + 0, 16, 0⟩
/-! HIF_PBA (R216) -/
def HIF_PBA_PENDING (i : Nat) : Fl := ⟨32 * (0x017F00 + 0x4 * i) + 0, 32, 0⟩
/-! HIF_MSIX_ADDR_LO (R216) -/
def HIF_MSIX_ADDR_LO (i : Nat) : Fl := ⟨32 * (0x018000 + 0x10 * i) + 0, 32, 0⟩
/-! HIF_MSIX_ADDR_HI (R216) -/
def HIF_MSIX_ADDR_HI (i : Nat) : Fl := ⟨32 * (0x018004 + 0x10 * i) + 0, 32, 0⟩
/-! HIF_MSIX_DATA (R216) -/
def HIF_MSIX_DATA (i : Nat) : Fl := ⟨32 * (0x018008 + 0x10 * i) + 0, 32, 0⟩
/-! HIF_MSIX_CTL (R216) -/
def HIF_MSIX_CTL_MASK (i : Nat) : Fl := ⟨32 * (0x01800C + 0x10 * i) + 0, 1, 1⟩
/-! PLN_STATUS (R151) -/
def PLN_STATUS_TRANSP_REASON : Fl := ⟨32 * (0x020000) + 16, 4, 0⟩
def PLN_STATUS_TRANSPARENT : Fl := ⟨32 * (0x020000) + 12, 1, 1⟩
def PLN_STATUS_PEER_SKIP_D : Fl := ⟨32 * (0x020000) + 11, 1, 0⟩
def PLN_STATUS_PEER_SKIP_U : Fl := ⟨32 * (0x020000) + 10, 1, 0⟩
def PLN_STATUS_HYPER : Fl := ⟨32 * (0x020000) + 7, 3, 0⟩
def PLN_STATUS_ACTIVE_BANK : Fl := ⟨32 * (0x020000) + 4, 1, 0⟩
def PLN_STATUS_PEND_STATE : Fl := ⟨32 * (0x020000) + 0, 4, 0⟩
/-! PLN_ACTIVE_EPOCH (R152) -/
def PLN_ACTIVE_EPOCH : Fl := ⟨32 * (0x020004) + 0, 32, 0⟩
/-! PLN_PEND_EPOCH (R152) -/
def PLN_PEND_EPOCH : Fl := ⟨32 * (0x020008) + 0, 32, 0⟩
/-! PLN_ARM_TICK_LO (R152) -/
def PLN_ARM_TICK_LO : Fl := ⟨32 * (0x02000C) + 0, 32, 0⟩
/-! PLN_ARM_TICK_HI (R152) -/
def PLN_ARM_TICK_HI : Fl := ⟨32 * (0x020010) + 0, 32, 0⟩
/-! PLN_LAST_SWITCH_LO (R152) -/
def PLN_LAST_SWITCH_LO : Fl := ⟨32 * (0x020014) + 0, 32, 0⟩
/-! PLN_LAST_SWITCH_HI (R152) -/
def PLN_LAST_SWITCH_HI : Fl := ⟨32 * (0x020018) + 0, 32, 0⟩
/-! PLN_FAIL (R153) -/
def PLN_FAIL_REASON : Fl := ⟨32 * (0x02001C) + 24, 8, 0⟩
def PLN_FAIL_RECORD : Fl := ⟨32 * (0x02001C) + 20, 4, 0⟩
def PLN_FAIL_INDEX : Fl := ⟨32 * (0x02001C) + 0, 16, 0⟩
/-! PLN_SECTION_CRC (R152) -/
def PLN_SECTION_CRC : Fl := ⟨32 * (0x020020) + 0, 32, 0⟩
/-! PLN_CFG (R153) -/
def PLN_CFG_SIG_REQ : Fl := ⟨32 * (0x020024) + 0, 1, 0⟩
/-! TRK_PORT_STATUS (R68) -/
def TRK_PORT_STATUS_FAIL_STEP (i : Nat) : Fl := ⟨32 * (0x030000 + 0x40 * i) + 20, 4, 0⟩
def TRK_PORT_STATUS_ATTEMPTS (i : Nat) : Fl := ⟨32 * (0x030000 + 0x40 * i) + 16, 4, 0⟩
def TRK_PORT_STATUS_LINK (i : Nat) : Fl := ⟨32 * (0x030000 + 0x40 * i) + 10, 3, 0⟩
def TRK_PORT_STATUS_CSUP (i : Nat) : Fl := ⟨32 * (0x030000 + 0x40 * i) + 8, 2, 0⟩
def TRK_PORT_STATUS_CLASS (i : Nat) : Fl := ⟨32 * (0x030000 + 0x40 * i) + 6, 1, 0⟩
def TRK_PORT_STATUS_ID_VALID (i : Nat) : Fl := ⟨32 * (0x030000 + 0x40 * i) + 5, 1, 0⟩
def TRK_PORT_STATUS_FLIPPED (i : Nat) : Fl := ⟨32 * (0x030000 + 0x40 * i) + 4, 1, 0⟩
def TRK_PORT_STATUS_ATTACH (i : Nat) : Fl := ⟨32 * (0x030000 + 0x40 * i) + 0, 3, 0⟩
/-! TRK_PORT_CTL (R69) -/
def TRK_PORT_CTL_EN (i : Nat) : Fl := ⟨32 * (0x030004 + 0x40 * i) + 0, 1, 1⟩
/-! TRK_LOOP_CTL (R70) -/
def TRK_LOOP_CTL_SRC (i : Nat) : Fl := ⟨32 * (0x030008 + 0x40 * i) + 16, 3, 0⟩
def TRK_LOOP_CTL_PATTERN (i : Nat) : Fl := ⟨32 * (0x030008 + 0x40 * i) + 8, 3, 0⟩
def TRK_LOOP_CTL_DST (i : Nat) : Fl := ⟨32 * (0x030008 + 0x40 * i) + 4, 3, 0⟩
def TRK_LOOP_CTL_MODE (i : Nat) : Fl := ⟨32 * (0x030008 + 0x40 * i) + 0, 3, 0⟩
/-! TRK_LOOP_STAT (R71) -/
def TRK_LOOP_STAT_RESULT (i : Nat) : Fl := ⟨32 * (0x03000C + 0x40 * i) + 4, 4, 0⟩
def TRK_LOOP_STAT_LOCKED (i : Nat) : Fl := ⟨32 * (0x03000C + 0x40 * i) + 0, 1, 0⟩
/-! TRK_CABLE_ID (R72) -/
def TRK_CABLE_ID (i : Nat) (j : Nat) : Fl := ⟨32 * (0x030010 + 0x40 * i + 0x4 * j) + 0, 32, 0⟩
/-! TRK_PAIR_STATUS (R73) -/
def TRK_PAIR_STATUS_FAR_ROW (i : Nat) : Fl := ⟨32 * (0x030100 + 0x4 * i) + 16, 3, 0⟩
def TRK_PAIR_STATUS_BALL (i : Nat) : Fl := ⟨32 * (0x030100 + 0x4 * i) + 13, 3, rstAt [0, 1, 2, 3, 4, 5, 6, 7, 0, 1, 2, 3, 4, 5, 6, 7] i⟩
def TRK_PAIR_STATUS_CAP (i : Nat) : Fl := ⟨32 * (0x030100 + 0x4 * i) + 11, 2, 0⟩
def TRK_PAIR_STATUS_LOCKED (i : Nat) : Fl := ⟨32 * (0x030100 + 0x4 * i) + 10, 1, 0⟩
def TRK_PAIR_STATUS_LOOP (i : Nat) : Fl := ⟨32 * (0x030100 + 0x4 * i) + 9, 1, 0⟩
def TRK_PAIR_STATUS_RX_SLEEP (i : Nat) : Fl := ⟨32 * (0x030100 + 0x4 * i) + 8, 1, 1⟩
def TRK_PAIR_STATUS_TX_SLEEP (i : Nat) : Fl := ⟨32 * (0x030100 + 0x4 * i) + 7, 1, 1⟩
def TRK_PAIR_STATUS_NRZ (i : Nat) : Fl := ⟨32 * (0x030100 + 0x4 * i) + 6, 1, 0⟩
def TRK_PAIR_STATUS_ROW (i : Nat) : Fl := ⟨32 * (0x030100 + 0x4 * i) + 3, 3, 0⟩
def TRK_PAIR_STATUS_FAULTY (i : Nat) : Fl := ⟨32 * (0x030100 + 0x4 * i) + 2, 1, 0⟩
def TRK_PAIR_STATUS_DIR (i : Nat) : Fl := ⟨32 * (0x030100 + 0x4 * i) + 0, 2, 0⟩
/-! TRK_RING_STATUS (R117) -/
def TRK_RING_STATUS_BROKEN_HOP : Fl := ⟨32 * (0x030200) + 20, 9, 0⟩
def TRK_RING_STATUS_STATE : Fl := ⟨32 * (0x030200) + 16, 3, 0⟩
def TRK_RING_STATUS_REVERTED : Fl := ⟨32 * (0x030200) + 8, 1, 0⟩
def TRK_RING_STATUS_LATE : Fl := ⟨32 * (0x030200) + 7, 1, 0⟩
def TRK_RING_STATUS_SECOND : Fl := ⟨32 * (0x030200) + 6, 1, 0⟩
def TRK_RING_STATUS_BREAK_D : Fl := ⟨32 * (0x030200) + 5, 1, 0⟩
def TRK_RING_STATUS_BREAK_U : Fl := ⟨32 * (0x030200) + 4, 1, 0⟩
def TRK_RING_STATUS_RING : Fl := ⟨32 * (0x030200) + 0, 1, 0⟩
/-! TRK_RING_DETECT_LO (R117) -/
def TRK_RING_DETECT_LO : Fl := ⟨32 * (0x030204) + 0, 32, 0⟩
/-! TRK_RING_DETECT_HI (R117) -/
def TRK_RING_DETECT_HI : Fl := ⟨32 * (0x030208) + 0, 32, 0⟩
/-! CPL_STATUS (R179) -/
def CPL_STATUS_UNITS : Fl := ⟨32 * (0x040000) + 16, 10, 0⟩
def CPL_STATUS_FENCED : Fl := ⟨32 * (0x040000) + 1, 1, 0⟩
def CPL_STATUS_CLAIMING : Fl := ⟨32 * (0x040000) + 0, 1, 0⟩
/-! CPL_GEN_SIZE (R178) -/
def CPL_GEN_SIZE : Fl := ⟨32 * (0x040004) + 0, 32, 258048⟩
/-! CPL_GEN_FREE (R178) -/
def CPL_GEN_FREE : Fl := ⟨32 * (0x040008) + 0, 32, 258048⟩
/-! CPL_GEN_RESERVED (R178) -/
def CPL_GEN_RESERVED : Fl := ⟨32 * (0x04000C) + 0, 32, 256⟩
/-! CPL_GEN_LOW (R178) -/
def CPL_GEN_LOW : Fl := ⟨32 * (0x040010) + 0, 32, 258048⟩
/-! CPL_QSEL (R178) -/
def CPL_QSEL_QUEUE : Fl := ⟨32 * (0x040014) + 0, 13, 0⟩
/-! CPL_QSTAT_OCC (R178) -/
def CPL_QSTAT_OCC : Fl := ⟨32 * (0x040018) + 0, 18, 0⟩
/-! CPL_QSTAT_PKTS (R178) -/
def CPL_QSTAT_PKTS : Fl := ⟨32 * (0x04001C) + 0, 18, 0⟩
/-! CPL_QSTAT_FLAGS (R179) -/
def CPL_QSTAT_FLAGS_GAP_PENDING : Fl := ⟨32 * (0x040020) + 3, 1, 0⟩
def CPL_QSTAT_FLAGS_CAUSE_SEQ : Fl := ⟨32 * (0x040020) + 2, 1, 0⟩
def CPL_QSTAT_FLAGS_OVERRUN : Fl := ⟨32 * (0x040020) + 1, 1, 0⟩
def CPL_QSTAT_FLAGS_FULL : Fl := ⟨32 * (0x040020) + 0, 1, 0⟩
/-! CPL_QSTAT_GAP_PKTS (R178) -/
def CPL_QSTAT_GAP_PKTS : Fl := ⟨32 * (0x040024) + 0, 32, 0⟩
/-! CPL_QSTAT_GAP_CELLS (R178) -/
def CPL_QSTAT_GAP_CELLS : Fl := ⟨32 * (0x040028) + 0, 32, 0⟩
/-! CPL_QCTL (R178) -/
/-! CPL_QRP_SEL (R179) -/
def CPL_QRP_SEL_BAD (i : Nat) : Fl := ⟨32 * (0x040200 + 0x10 * i) + 31, 1, 0⟩
def CPL_QRP_SEL_BOUND (i : Nat) : Fl := ⟨32 * (0x040200 + 0x10 * i) + 30, 1, 0⟩
def CPL_QRP_SEL_QUEUE (i : Nat) : Fl := ⟨32 * (0x040200 + 0x10 * i) + 0, 13, 0⟩
/-! CPL_QRP_DATA_LO (R178) -/
def CPL_QRP_DATA_LO (i : Nat) : Fl := ⟨32 * (0x040208 + 0x10 * i) + 0, 32, 4294967295⟩
/-! CPL_QRP_DATA_HI (R178) -/
def CPL_QRP_DATA_HI (i : Nat) : Fl := ⟨32 * (0x04020C + 0x10 * i) + 0, 32, 2147483647⟩
/-! CPL_QPROF_MIN (R179) -/
def CPL_QPROF_MIN_MIN (i : Nat) : Fl := ⟨32 * (0x041000 + 0x8 * i) + 0, 18, 0⟩
/-! CPL_QPROF_MAX (R179) -/
def CPL_QPROF_MAX_MAX (i : Nat) : Fl := ⟨32 * (0x041004 + 0x8 * i) + 0, 18, 0⟩
/-! CPL_OVR (R178) -/
def CPL_OVR (i : Nat) : Fl := ⟨32 * (0x042000 + 0x4 * i) + 0, 32, 0⟩
/-! CPL_FULL (R178) -/
def CPL_FULL (i : Nat) : Fl := ⟨32 * (0x042400 + 0x4 * i) + 0, 32, 0⟩
/-! CPL_QCFG (R180) -/
def CPL_QCFG_EN (i : Nat) : Fl := ⟨32 * (0x048000 + 0x4 * i) + 31, 1, rstAt [1, 1, 1, 1, 1, 1, 1, 1, 0, 0, 0, 0, 0, 0, 0, 0, 1, 1, 1, 1, 0] i⟩
def CPL_QCFG_KIND (i : Nat) : Fl := ⟨32 * (0x048000 + 0x4 * i) + 30, 1, rstAt [1, 1, 1, 1, 1, 1, 1, 1, 1, 1, 1, 1, 1, 1, 1, 1, 1, 1, 1, 1, 0] i⟩
def CPL_QCFG_PROD (i : Nat) : Fl := ⟨32 * (0x048000 + 0x4 * i) + 27, 3, rstAt [1, 4, 1, 4, 1, 1, 4, 3, 0, 0, 0, 0, 0, 0, 0, 0, 3, 3, 3, 3, 0] i⟩
def CPL_QCFG_CONS (i : Nat) : Fl := ⟨32 * (0x048000 + 0x4 * i) + 24, 3, rstAt [1, 1, 1, 1, 4, 4, 3, 4, 0, 0, 0, 0, 0, 0, 0, 0, 3, 3, 3, 3, 0] i⟩
def CPL_QCFG_PROFILE (i : Nat) : Fl := ⟨32 * (0x048000 + 0x4 * i) + 16, 8, 0⟩
/-! LTM_STATUS (R210) -/
def LTM_STATUS_HOPS_GM : Fl := ⟨32 * (0x050000) + 17, 9, 511⟩
def LTM_STATUS_MAP_VALID : Fl := ⟨32 * (0x050000) + 16, 1, 0⟩
def LTM_STATUS_GM_SRC : Fl := ⟨32 * (0x050000) + 8, 4, 0⟩
def LTM_STATUS_PATH : Fl := ⟨32 * (0x050000) + 4, 2, 0⟩
def LTM_STATUS_STATE : Fl := ⟨32 * (0x050000) + 0, 3, 0⟩
/-! LTM_NOW_LO (R209) -/
def LTM_NOW_LO : Fl := ⟨32 * (0x050004) + 0, 32, 0⟩
/-! LTM_NOW_HI (R209) -/
def LTM_NOW_HI : Fl := ⟨32 * (0x050008) + 0, 32, 0⟩
/-! LTM_NOW_FRAC (R209) -/
def LTM_NOW_FRAC_FRAC : Fl := ⟨32 * (0x05000C) + 0, 16, 0⟩
/-! LTM_TICK_LO (R209) -/
def LTM_TICK_LO : Fl := ⟨32 * (0x050010) + 0, 32, 0⟩
/-! LTM_TICK_HI (R209) -/
def LTM_TICK_HI : Fl := ⟨32 * (0x050014) + 0, 32, 0⟩
/-! LTM_GM_CFG (R211) -/
def LTM_GM_CFG_HOLD_MAX : Fl := ⟨32 * (0x050018) + 16, 16, 60⟩
def LTM_GM_CFG_PTP_PORT : Fl := ⟨32 * (0x050018) + 4, 2, 0⟩
def LTM_GM_CFG_SOURCE : Fl := ⟨32 * (0x050018) + 0, 2, 3⟩
/-! LTM_ORIGIN_SEC_LO (R209) -/
def LTM_ORIGIN_SEC_LO : Fl := ⟨32 * (0x05001C) + 0, 32, 0⟩
/-! LTM_ORIGIN_SEC_HI (R209) -/
def LTM_ORIGIN_SEC_HI : Fl := ⟨32 * (0x050020) + 0, 16, 0⟩
/-! LTM_ORIGIN_NS (R209) -/
def LTM_ORIGIN_NS_MAP_VALID : Fl := ⟨32 * (0x050024) + 31, 1, 0⟩
def LTM_ORIGIN_NS_NS : Fl := ⟨32 * (0x050024) + 0, 30, 0⟩
/-! LTM_UTC (R209) -/
def LTM_UTC_TRACEABLE : Fl := ⟨32 * (0x050028) + 19, 1, 0⟩
def LTM_UTC_LEAP59 : Fl := ⟨32 * (0x050028) + 18, 1, 0⟩
def LTM_UTC_LEAP61 : Fl := ⟨32 * (0x050028) + 17, 1, 0⟩
def LTM_UTC_UTC_VALID : Fl := ⟨32 * (0x050028) + 16, 1, 0⟩
def LTM_UTC_UTC_OFFSET : Fl := ⟨32 * (0x050028) + 0, 16, 0⟩
/-! LTM_CLOSURE (R209) -/
def LTM_CLOSURE : Fl := ⟨32 * (0x05002C) + 0, 32, 0⟩
/-! LTM_ASYM (R209) -/
def LTM_ASYM (i : Nat) : Fl := ⟨32 * (0x050030 + 0x4 * i) + 0, 32, 0⟩
/-! LTM_DELAY (R209) -/
def LTM_DELAY (i : Nat) : Fl := ⟨32 * (0x050038 + 0x4 * i) + 0, 32, 0⟩
/-! LTM_OFFSET (R209) -/
def LTM_OFFSET (i : Nat) : Fl := ⟨32 * (0x050040 + 0x4 * i) + 0, 32, 0⟩
/-! LTM_RATE (R209) -/
def LTM_RATE : Fl := ⟨32 * (0x050048) + 0, 32, 0⟩
/-! LTM_SRC_ERR (R209) -/
def LTM_SRC_ERR : Fl := ⟨32 * (0x05004C) + 0, 32, 0⟩
/-! LTM_LAUNCH_STATUS (R209) -/
def LTM_LAUNCH_STATUS_HIGH : Fl := ⟨32 * (0x050050) + 16, 11, 0⟩
def LTM_LAUNCH_STATUS_COUNT : Fl := ⟨32 * (0x050050) + 0, 11, 0⟩
/-! LTM_TIO_CFG (R196) -/
def LTM_TIO_CFG_SIGMAP (i : Nat) : Fl := ⟨32 * (0x050100 + 0x4 * i) + 16, 11, 0⟩
def LTM_TIO_CFG_DEST (i : Nat) : Fl := ⟨32 * (0x050100 + 0x4 * i) + 14, 2, 0⟩
def LTM_TIO_CFG_EDGES (i : Nat) : Fl := ⟨32 * (0x050100 + 0x4 * i) + 12, 2, 0⟩
def LTM_TIO_CFG_FILTER (i : Nat) : Fl := ⟨32 * (0x050100 + 0x4 * i) + 10, 2, 0⟩
def LTM_TIO_CFG_POL (i : Nat) : Fl := ⟨32 * (0x050100 + 0x4 * i) + 9, 1, 0⟩
def LTM_TIO_CFG_IDLE (i : Nat) : Fl := ⟨32 * (0x050100 + 0x4 * i) + 8, 1, 0⟩
def LTM_TIO_CFG_MODE (i : Nat) : Fl := ⟨32 * (0x050100 + 0x4 * i) + 0, 2, 0⟩
/-! LTM_TIO_LEVEL (R209) -/
def LTM_TIO_LEVEL : Fl := ⟨32 * (0x050180) + 0, 32, 0⟩
/-! LTM_TIO_IN (R209) -/
def LTM_TIO_IN : Fl := ⟨32 * (0x050184) + 0, 32, 0⟩
/-! NET_PTP_TSQ (R270) -/
def NET_PTP_TSQ_EN : Fl := ⟨32 * (0x060000) + 31, 1, 0⟩
def NET_PTP_TSQ_QUEUE : Fl := ⟨32 * (0x060000) + 0, 13, 0⟩
/-! NET_PORT_CFG (R271) -/
def NET_PORT_CFG_EN (i : Nat) : Fl := ⟨32 * (0x060100 + 0x100 * i) + 31, 1, 0⟩
def NET_PORT_CFG_MODE (i : Nat) : Fl := ⟨32 * (0x060100 + 0x100 * i) + 28, 3, 0⟩
def NET_PORT_CFG_USX_RATE (i : Nat) : Fl := ⟨32 * (0x060100 + 0x100 * i) + 26, 2, 0⟩
def NET_PORT_CFG_AN (i : Nat) : Fl := ⟨32 * (0x060100 + 0x100 * i) + 25, 1, 0⟩
def NET_PORT_CFG_DEF_PCP (i : Nat) : Fl := ⟨32 * (0x060100 + 0x100 * i) + 16, 3, 0⟩
def NET_PORT_CFG_MTU (i : Nat) : Fl := ⟨32 * (0x060100 + 0x100 * i) + 0, 14, 1522⟩
/-! NET_PORT_STATUS (R271) -/
def NET_PORT_STATUS_SPEED (i : Nat) : Fl := ⟨32 * (0x060104 + 0x100 * i) + 4, 3, 0⟩
def NET_PORT_STATUS_AN_DONE (i : Nat) : Fl := ⟨32 * (0x060104 + 0x100 * i) + 3, 1, 0⟩
def NET_PORT_STATUS_REMOTE_FAULT (i : Nat) : Fl := ⟨32 * (0x060104 + 0x100 * i) + 2, 1, 0⟩
def NET_PORT_STATUS_LOCAL_FAULT (i : Nat) : Fl := ⟨32 * (0x060104 + 0x100 * i) + 1, 1, 0⟩
def NET_PORT_STATUS_LINK (i : Nat) : Fl := ⟨32 * (0x060104 + 0x100 * i) + 0, 1, 0⟩
/-! NET_PORT_DEF (R270) -/
def NET_PORT_DEF_EN (i : Nat) : Fl := ⟨32 * (0x060108 + 0x100 * i) + 31, 1, 0⟩
def NET_PORT_DEF_QUEUE (i : Nat) : Fl := ⟨32 * (0x060108 + 0x100 * i) + 0, 13, 0⟩
/-! NET_PORT_EGQ (R270) -/
def NET_PORT_EGQ_EN (i : Nat) : Fl := ⟨32 * (0x06010C + 0x100 * i) + 31, 1, 0⟩
def NET_PORT_EGQ_BASE (i : Nat) : Fl := ⟨32 * (0x06010C + 0x100 * i) + 0, 13, 0⟩
/-! NET_PTP_CFG (R271) -/
def NET_PTP_CFG_TS_EN (i : Nat) : Fl := ⟨32 * (0x060110 + 0x100 * i) + 31, 1, 0⟩
def NET_PTP_CFG_ONE_STEP (i : Nat) : Fl := ⟨32 * (0x060110 + 0x100 * i) + 30, 1, 0⟩
def NET_PTP_CFG_ENC_L2 (i : Nat) : Fl := ⟨32 * (0x060110 + 0x100 * i) + 29, 1, 0⟩
def NET_PTP_CFG_ENC_UDP4 (i : Nat) : Fl := ⟨32 * (0x060110 + 0x100 * i) + 28, 1, 0⟩
def NET_PTP_CFG_ENC_UDP6 (i : Nat) : Fl := ⟨32 * (0x060110 + 0x100 * i) + 27, 1, 0⟩
def NET_PTP_CFG_ROLE (i : Nat) : Fl := ⟨32 * (0x060110 + 0x100 * i) + 24, 3, 0⟩
def NET_PTP_CFG_LOG_SYNC (i : Nat) : Fl := ⟨32 * (0x060110 + 0x100 * i) + 20, 4, 0⟩
def NET_PTP_CFG_DOMAIN (i : Nat) : Fl := ⟨32 * (0x060110 + 0x100 * i) + 8, 8, 0⟩
def NET_PTP_CFG_PRIORITY1 (i : Nat) : Fl := ⟨32 * (0x060110 + 0x100 * i) + 0, 8, 128⟩
/-! NET_PORT_TSADJ (R270) -/
def NET_PORT_TSADJ (i : Nat) : Fl := ⟨32 * (0x060114 + 0x100 * i) + 0, 32, 0⟩
/-! NET_GL_CTL (R271) -/
def NET_GL_CTL_ENABLE (i : Nat) : Fl := ⟨32 * (0x060118 + 0x100 * i) + 31, 1, 0⟩
/-! NET_GL_COUNT (R270) -/
def NET_GL_COUNT_COUNT (i : Nat) : Fl := ⟨32 * (0x06011C + 0x100 * i) + 0, 9, 1⟩
/-! NET_GL_START_LO (R270) -/
def NET_GL_START_LO (i : Nat) : Fl := ⟨32 * (0x060120 + 0x100 * i) + 0, 32, 0⟩
/-! NET_GL_START_HI (R270) -/
def NET_GL_START_HI (i : Nat) : Fl := ⟨32 * (0x060124 + 0x100 * i) + 0, 32, 0⟩
/-! NET_GL_STATUS (R271) -/
def NET_GL_STATUS_PENDING (i : Nat) : Fl := ⟨32 * (0x060128 + 0x100 * i) + 31, 1, 0⟩
def NET_GL_STATUS_ACTIVE (i : Nat) : Fl := ⟨32 * (0x060128 + 0x100 * i) + 30, 1, 0⟩
def NET_GL_STATUS_SOURCE (i : Nat) : Fl := ⟨32 * (0x060128 + 0x100 * i) + 28, 2, 0⟩
def NET_GL_STATUS_CURRENT (i : Nat) : Fl := ⟨32 * (0x060128 + 0x100 * i) + 8, 8, 0⟩
/-! NET_GL_PEND_TICK_LO (R270) -/
def NET_GL_PEND_TICK_LO (i : Nat) : Fl := ⟨32 * (0x06012C + 0x100 * i) + 0, 32, 0⟩
/-! NET_GL_PEND_TICK_HI (R270) -/
def NET_GL_PEND_TICK_HI (i : Nat) : Fl := ⟨32 * (0x060130 + 0x100 * i) + 0, 32, 0⟩
/-! NET_PORT_TCSHP (R270) -/
def NET_PORT_TCSHP_VALID (i : Nat) (j : Nat) : Fl := ⟨32 * (0x060140 + 0x100 * i + 0x4 * j) + 31, 1, 0⟩
def NET_PORT_TCSHP_SHAPER (i : Nat) (j : Nat) : Fl := ⟨32 * (0x060140 + 0x100 * i + 0x4 * j) + 0, 10, 0⟩
/-! NET_PORT_RELQ (R270) -/
def NET_PORT_RELQ_VALID (i : Nat) (j : Nat) : Fl := ⟨32 * (0x060160 + 0x100 * i + 0x4 * j) + 31, 1, 0⟩
def NET_PORT_RELQ_QUEUE (i : Nat) (j : Nat) : Fl := ⟨32 * (0x060160 + 0x100 * i + 0x4 * j) + 0, 13, 0⟩
/-! NET_GL_ADMIN_GATES (R270) -/
def NET_GL_ADMIN_GATES_GATES (i : Nat) (j : Nat) : Fl := ⟨32 * (0x061000 + 0x800 * i + 0x8 * j) + 0, 8, 0⟩
/-! NET_GL_ADMIN_INT (R270) -/
def NET_GL_ADMIN_INT_INTERVAL (i : Nat) (j : Nat) : Fl := ⟨32 * (0x061004 + 0x800 * i + 0x8 * j) + 0, 32, 0⟩
/-! NET_POL_SEL (R270) -/
def NET_POL_SEL_SEL : Fl := ⟨32 * (0x063000) + 0, 10, 0⟩
/-! NET_SHP_CTL (R271) -/
def NET_SHP_CTL_ENABLE (i : Nat) : Fl := ⟨32 * (0x064000 + 0x10 * i) + 31, 1, 0⟩
def NET_SHP_CTL_OVERHEAD (i : Nat) : Fl := ⟨32 * (0x064000 + 0x10 * i) + 0, 8, 0⟩
/-! NET_SHP_RATE (R271) -/
def NET_SHP_RATE (i : Nat) : Fl := ⟨32 * (0x064004 + 0x10 * i) + 0, 32, 0⟩
/-! NET_SHP_BURST (R271) -/
def NET_SHP_BURST (i : Nat) : Fl := ⟨32 * (0x064008 + 0x10 * i) + 0, 32, 0⟩
/-! NET_SHP_BUCKET (R271) -/
def NET_SHP_BUCKET (i : Nat) : Fl := ⟨32 * (0x06400C + 0x10 * i) + 0, 32, 0⟩
/-! NET_POL_CTL (R271) -/
def NET_POL_CTL_EN (i : Nat) : Fl := ⟨32 * (0x068000 + 0x20 * i) + 31, 1, 0⟩
def NET_POL_CTL_AWARE (i : Nat) : Fl := ⟨32 * (0x068000 + 0x20 * i) + 30, 1, 0⟩
def NET_POL_CTL_DROP_RED (i : Nat) : Fl := ⟨32 * (0x068000 + 0x20 * i) + 29, 1, 0⟩
def NET_POL_CTL_SET_DEI (i : Nat) : Fl := ⟨32 * (0x068000 + 0x20 * i) + 28, 1, 0⟩
def NET_POL_CTL_PCP_RED (i : Nat) : Fl := ⟨32 * (0x068000 + 0x20 * i) + 8, 8, 0⟩
def NET_POL_CTL_PCP_YELLOW (i : Nat) : Fl := ⟨32 * (0x068000 + 0x20 * i) + 0, 8, 0⟩
/-! NET_POL_CIR (R271) -/
def NET_POL_CIR (i : Nat) : Fl := ⟨32 * (0x068004 + 0x20 * i) + 0, 32, 0⟩
/-! NET_POL_CBS (R271) -/
def NET_POL_CBS (i : Nat) : Fl := ⟨32 * (0x068008 + 0x20 * i) + 0, 32, 0⟩
/-! NET_POL_PIR (R271) -/
def NET_POL_PIR (i : Nat) : Fl := ⟨32 * (0x06800C + 0x20 * i) + 0, 32, 0⟩
/-! NET_POL_PBS (R271) -/
def NET_POL_PBS (i : Nat) : Fl := ⟨32 * (0x068010 + 0x20 * i) + 0, 32, 0⟩
/-! NET_POL_TC (R271) -/
def NET_POL_TC (i : Nat) : Fl := ⟨32 * (0x068014 + 0x20 * i) + 0, 32, 0⟩
/-! NET_POL_TP (R271) -/
def NET_POL_TP (i : Nat) : Fl := ⟨32 * (0x068018 + 0x20 * i) + 0, 32, 0⟩
/-! BLK_CFG (R285) -/
def BLK_CFG_TIMEOUT : Fl := ⟨32 * (0x070000) + 0, 16, 16000⟩
/-! BLK_STATUS (R285) -/
def BLK_STATUS_COUNT : Fl := ⟨32 * (0x070004) + 0, 11, 0⟩
/-! BLK_PORT_CFG (R286) -/
def BLK_PORT_CFG_EN (i : Nat) : Fl := ⟨32 * (0x070100 + 0x80 * i) + 31, 1, 0⟩
def BLK_PORT_CFG_IOQ (i : Nat) : Fl := ⟨32 * (0x070100 + 0x80 * i) + 24, 4, 1⟩
def BLK_PORT_CFG_DEPTH (i : Nat) : Fl := ⟨32 * (0x070100 + 0x80 * i) + 20, 4, 4⟩
def BLK_PORT_CFG_RINGQ (i : Nat) : Fl := ⟨32 * (0x070100 + 0x80 * i) + 0, 13, 0⟩
/-! BLK_PORT_TMO (R285) -/
def BLK_PORT_TMO_MS (i : Nat) : Fl := ⟨32 * (0x070104 + 0x80 * i) + 0, 16, 5000⟩
/-! BLK_PORT_STATUS (R286) -/
def BLK_PORT_STATUS_WIDTH (i : Nat) : Fl := ⟨32 * (0x070108 + 0x80 * i) + 12, 4, 0⟩
def BLK_PORT_STATUS_SPEED (i : Nat) : Fl := ⟨32 * (0x070108 + 0x80 * i) + 8, 4, 0⟩
def BLK_PORT_STATUS_CAUSE (i : Nat) : Fl := ⟨32 * (0x070108 + 0x80 * i) + 4, 4, 0⟩
def BLK_PORT_STATUS_STATE (i : Nat) : Fl := ⟨32 * (0x070108 + 0x80 * i) + 0, 3, 0⟩
/-! BLK_PORT_INFLIGHT (R285) -/
def BLK_PORT_INFLIGHT_HIGH (i : Nat) : Fl := ⟨32 * (0x07010C + 0x80 * i) + 16, 11, 0⟩
def BLK_PORT_INFLIGHT_COUNT (i : Nat) : Fl := ⟨32 * (0x07010C + 0x80 * i) + 0, 11, 0⟩
/-! BLK_PORT_MDTS (R285) -/
def BLK_PORT_MDTS (i : Nat) : Fl := ⟨32 * (0x070110 + 0x80 * i) + 0, 32, 0⟩
/-! BLK_PORT_RINGCELLS (R285) -/
def BLK_PORT_RINGCELLS (i : Nat) : Fl := ⟨32 * (0x070114 + 0x80 * i) + 0, 32, 15⟩
/-! DSP_HEAD_CFG (R308) -/
def DSP_HEAD_CFG_EN (i : Nat) : Fl := ⟨32 * (0x080100 + 0x100 * i) + 31, 1, 0⟩
def DSP_HEAD_CFG_LINE_LOCK (i : Nat) : Fl := ⟨32 * (0x080100 + 0x100 * i) + 30, 1, 0⟩
def DSP_HEAD_CFG_FORMAT (i : Nat) : Fl := ⟨32 * (0x080100 + 0x100 * i) + 27, 3, 4⟩
def DSP_HEAD_CFG_MAX_RATE (i : Nat) : Fl := ⟨32 * (0x080100 + 0x100 * i) + 25, 2, 3⟩
def DSP_HEAD_CFG_MAX_LANES (i : Nat) : Fl := ⟨32 * (0x080100 + 0x100 * i) + 23, 2, 2⟩
def DSP_HEAD_CFG_INQ (i : Nat) : Fl := ⟨32 * (0x080100 + 0x100 * i) + 0, 13, 0⟩
/-! DSP_HEAD_STATUS (R308) -/
def DSP_HEAD_STATUS_STATE (i : Nat) : Fl := ⟨32 * (0x080104 + 0x100 * i) + 29, 3, 0⟩
def DSP_HEAD_STATUS_CAUSE (i : Nat) : Fl := ⟨32 * (0x080104 + 0x100 * i) + 25, 4, 0⟩
def DSP_HEAD_STATUS_HPD (i : Nat) : Fl := ⟨32 * (0x080104 + 0x100 * i) + 24, 1, 0⟩
def DSP_HEAD_STATUS_LANES (i : Nat) : Fl := ⟨32 * (0x080104 + 0x100 * i) + 22, 2, 0⟩
def DSP_HEAD_STATUS_RATE (i : Nat) : Fl := ⟨32 * (0x080104 + 0x100 * i) + 20, 2, 0⟩
def DSP_HEAD_STATUS_PEND (i : Nat) : Fl := ⟨32 * (0x080104 + 0x100 * i) + 8, 5, 0⟩
def DSP_HEAD_STATUS_HELD (i : Nat) : Fl := ⟨32 * (0x080104 + 0x100 * i) + 0, 5, 0⟩
/-! DSP_H_TIMING (R307) -/
def DSP_H_TIMING_HTOTAL (i : Nat) : Fl := ⟨32 * (0x080108 + 0x100 * i) + 16, 16, 0⟩
def DSP_H_TIMING_HACT (i : Nat) : Fl := ⟨32 * (0x080108 + 0x100 * i) + 0, 16, 0⟩
/-! DSP_H_SYNC (R307) -/
def DSP_H_SYNC_HPOL (i : Nat) : Fl := ⟨32 * (0x08010C + 0x100 * i) + 31, 1, 0⟩
def DSP_H_SYNC_HSYNC_WIDTH (i : Nat) : Fl := ⟨32 * (0x08010C + 0x100 * i) + 16, 15, 0⟩
def DSP_H_SYNC_HSYNC_START (i : Nat) : Fl := ⟨32 * (0x08010C + 0x100 * i) + 0, 16, 0⟩
/-! DSP_V_TIMING (R307) -/
def DSP_V_TIMING_VTOTAL (i : Nat) : Fl := ⟨32 * (0x080110 + 0x100 * i) + 16, 16, 0⟩
def DSP_V_TIMING_VACT (i : Nat) : Fl := ⟨32 * (0x080110 + 0x100 * i) + 0, 16, 0⟩
/-! DSP_V_SYNC (R307) -/
def DSP_V_SYNC_VPOL (i : Nat) : Fl := ⟨32 * (0x080114 + 0x100 * i) + 31, 1, 0⟩
def DSP_V_SYNC_VSYNC_WIDTH (i : Nat) : Fl := ⟨32 * (0x080114 + 0x100 * i) + 16, 15, 0⟩
def DSP_V_SYNC_VSYNC_START (i : Nat) : Fl := ⟨32 * (0x080114 + 0x100 * i) + 0, 16, 0⟩
/-! DSP_PCLK (R307) -/
def DSP_PCLK_PCLK (i : Nat) : Fl := ⟨32 * (0x080118 + 0x100 * i) + 0, 19, 0⟩
/-! DSP_FB (R307) -/
def DSP_FB_UNIT (i : Nat) : Fl := ⟨32 * (0x08011C + 0x100 * i) + 0, 10, 0⟩
/-! DSP_STAGE (R307) -/
def DSP_STAGE_UNIT (i : Nat) : Fl := ⟨32 * (0x080120 + 0x100 * i) + 16, 10, 0⟩
def DSP_STAGE_STAGE_SIZE (i : Nat) : Fl := ⟨32 * (0x080120 + 0x100 * i) + 0, 7, 0⟩
/-! DSP_LOCK (R307) -/
def DSP_LOCK_PHASE (i : Nat) : Fl := ⟨32 * (0x080124 + 0x100 * i) + 16, 16, 0⟩
def DSP_LOCK_K (i : Nat) : Fl := ⟨32 * (0x080124 + 0x100 * i) + 0, 16, 0⟩
/-! DSP_FRZ_XY (R307) -/
def DSP_FRZ_XY_Y (i : Nat) : Fl := ⟨32 * (0x080128 + 0x100 * i) + 16, 16, 0⟩
def DSP_FRZ_XY_X (i : Nat) : Fl := ⟨32 * (0x080128 + 0x100 * i) + 0, 16, 0⟩
/-! DSP_FRZ_WH (R307) -/
def DSP_FRZ_WH_H (i : Nat) : Fl := ⟨32 * (0x08012C + 0x100 * i) + 16, 16, 0⟩
def DSP_FRZ_WH_W (i : Nat) : Fl := ⟨32 * (0x08012C + 0x100 * i) + 0, 16, 0⟩
/-! DSP_FRZ_CFG (R307) -/
def DSP_FRZ_CFG_EN (i : Nat) : Fl := ⟨32 * (0x080130 + 0x100 * i) + 31, 1, 0⟩
def DSP_FRZ_CFG_HEARTBEAT (i : Nat) : Fl := ⟨32 * (0x080130 + 0x100 * i) + 30, 1, 0⟩
def DSP_FRZ_CFG_N (i : Nat) : Fl := ⟨32 * (0x080130 + 0x100 * i) + 0, 8, 0⟩
/-! DSP_FRZ_SIG (R307) -/
def DSP_FRZ_SIG (i : Nat) : Fl := ⟨32 * (0x080134 + 0x100 * i) + 0, 32, 0⟩
/-! DSP_FRZ_STATUS (R307) -/
def DSP_FRZ_STATUS_FROZEN (i : Nat) : Fl := ⟨32 * (0x080138 + 0x100 * i) + 31, 1, 0⟩
def DSP_FRZ_STATUS_UNCHANGED (i : Nat) : Fl := ⟨32 * (0x080138 + 0x100 * i) + 0, 8, 0⟩
/-! DSP_FRAME_LO (R307) -/
def DSP_FRAME_LO (i : Nat) : Fl := ⟨32 * (0x08013C + 0x100 * i) + 0, 32, 0⟩
/-! DSP_FRAME_HI (R307) -/
def DSP_FRAME_HI (i : Nat) : Fl := ⟨32 * (0x080140 + 0x100 * i) + 0, 32, 0⟩
/-! DSP_VB_TIME_LO (R307) -/
def DSP_VB_TIME_LO (i : Nat) : Fl := ⟨32 * (0x080144 + 0x100 * i) + 0, 32, 0⟩
/-! DSP_VB_TIME_HI (R307) -/
def DSP_VB_TIME_HI (i : Nat) : Fl := ⟨32 * (0x080148 + 0x100 * i) + 0, 32, 0⟩
/-! DSP_SINK (R307) -/
def DSP_SINK_EDID_VALID (i : Nat) : Fl := ⟨32 * (0x08014C + 0x100 * i) + 31, 1, 0⟩
def DSP_SINK_BLOCKS (i : Nat) : Fl := ⟨32 * (0x08014C + 0x100 * i) + 16, 3, 0⟩
def DSP_SINK_RATE (i : Nat) : Fl := ⟨32 * (0x08014C + 0x100 * i) + 8, 8, 0⟩
def DSP_SINK_LANES (i : Nat) : Fl := ⟨32 * (0x08014C + 0x100 * i) + 0, 5, 0⟩
/-! DSP_STAGE_USED (R307) -/
def DSP_STAGE_USED (i : Nat) : Fl := ⟨32 * (0x080150 + 0x100 * i) + 0, 32, 0⟩
/-! DSP_EDID (R307) -/
def DSP_EDID (i : Nat) (j : Nat) : Fl := ⟨32 * (0x081000 + 0x200 * i + 0x4 * j) + 0, 32, 0⟩
/-! DSP_DPCD (R307) -/
def DSP_DPCD (i : Nat) (j : Nat) : Fl := ⟨32 * (0x081400 + 0x10 * i + 0x4 * j) + 0, 32, 0⟩
/-! FBR_STATUS (R336) -/
def FBR_STATUS_HIGH : Fl := ⟨32 * (0x090000) + 16, 9, 0⟩
def FBR_STATUS_COUNT : Fl := ⟨32 * (0x090000) + 0, 9, 0⟩
/-! FBR_WIN_CLEAR (R336) -/
/-! FBR_POISON_LO (R336) -/
def FBR_POISON_LO : Fl := ⟨32 * (0x090008) + 0, 32, 0⟩
/-! FBR_POISON_HI (R336) -/
def FBR_POISON_HI : Fl := ⟨32 * (0x09000C) + 0, 32, 0⟩
/-! FBR_ZINT_CFG (R336) -/
def FBR_ZINT_CFG_INV : Fl := ⟨32 * (0x090010) + 4, 4, 0⟩
def FBR_ZINT_CFG_EVT : Fl := ⟨32 * (0x090010) + 0, 4, 0⟩
/-! FBR_ZINT_LEVEL (R336) -/
def FBR_ZINT_LEVEL : Fl := ⟨32 * (0x090014) + 0, 4, 0⟩
/-! FBR_ZCS_CFG (R337) -/
def FBR_ZCS_CFG_EN (i : Nat) : Fl := ⟨32 * (0x090020 + 0x4 * i) + 31, 1, 0⟩
def FBR_ZCS_CFG_POLL (i : Nat) : Fl := ⟨32 * (0x090020 + 0x4 * i) + 30, 1, 0⟩
def FBR_ZCS_CFG_WAIT (i : Nat) : Fl := ⟨32 * (0x090020 + 0x4 * i) + 26, 4, 0⟩
def FBR_ZCS_CFG_RECOVERY (i : Nat) : Fl := ⟨32 * (0x090020 + 0x4 * i) + 23, 3, 1⟩
def FBR_ZCS_CFG_TIMEOUT (i : Nat) : Fl := ⟨32 * (0x090020 + 0x4 * i) + 0, 12, 250⟩
/-! FBR_ZCS_POLL (R336) -/
def FBR_ZCS_POLL_ADDR (i : Nat) : Fl := ⟨32 * (0x090030 + 0x4 * i) + 2, 30, 0⟩
/-! FBR_WIN_CFG (R337) -/
def FBR_WIN_CFG_EN (i : Nat) : Fl := ⟨32 * (0x090100 + 0x10 * i) + 31, 1, 0⟩
def FBR_WIN_CFG_READ_SENSITIVE (i : Nat) : Fl := ⟨32 * (0x090100 + 0x10 * i) + 30, 1, 0⟩
def FBR_WIN_CFG_PREFETCH (i : Nat) : Fl := ⟨32 * (0x090100 + 0x10 * i) + 29, 1, 0⟩
def FBR_WIN_CFG_LOCK_ALLOWED (i : Nat) : Fl := ⟨32 * (0x090100 + 0x10 * i) + 28, 1, 0⟩
def FBR_WIN_CFG_CS (i : Nat) : Fl := ⟨32 * (0x090100 + 0x10 * i) + 26, 2, 0⟩
def FBR_WIN_CFG_SIZE (i : Nat) : Fl := ⟨32 * (0x090100 + 0x10 * i) + 21, 5, 8⟩
def FBR_WIN_CFG_PF_SIZE (i : Nat) : Fl := ⟨32 * (0x090100 + 0x10 * i) + 18, 3, 0⟩
/-! FBR_WIN_ZBASE (R336) -/
def FBR_WIN_ZBASE (i : Nat) : Fl := ⟨32 * (0x090104 + 0x10 * i) + 0, 32, 0⟩
/-! FBR_WIN_NPLO (R336) -/
def FBR_WIN_NPLO (i : Nat) : Fl := ⟨32 * (0x090108 + 0x10 * i) + 0, 26, 0⟩
/-! FBR_WIN_NPHI (R336) -/
def FBR_WIN_NPHI (i : Nat) : Fl := ⟨32 * (0x09010C + 0x10 * i) + 0, 27, 67108864⟩
/-! FBR_CAN_CFG (R337) -/
def FBR_CAN_CFG_EN (i : Nat) : Fl := ⟨32 * (0x091000 + 0x20 * i) + 31, 1, 0⟩
def FBR_CAN_CFG_FD_EN (i : Nat) : Fl := ⟨32 * (0x091000 + 0x20 * i) + 30, 1, 0⟩
def FBR_CAN_CFG_ONE_SHOT (i : Nat) : Fl := ⟨32 * (0x091000 + 0x20 * i) + 29, 1, 0⟩
def FBR_CAN_CFG_AUTO_RECOVER (i : Nat) : Fl := ⟨32 * (0x091000 + 0x20 * i) + 28, 1, 1⟩
def FBR_CAN_CFG_LISTEN_ONLY (i : Nat) : Fl := ⟨32 * (0x091000 + 0x20 * i) + 27, 1, 0⟩
def FBR_CAN_CFG_TDC_EN (i : Nat) : Fl := ⟨32 * (0x091000 + 0x20 * i) + 26, 1, 0⟩
def FBR_CAN_CFG_TDCO (i : Nat) : Fl := ⟨32 * (0x091000 + 0x20 * i) + 16, 8, 0⟩
def FBR_CAN_CFG_RXQ_EN (i : Nat) : Fl := ⟨32 * (0x091000 + 0x20 * i) + 13, 1, 0⟩
def FBR_CAN_CFG_RXQ (i : Nat) : Fl := ⟨32 * (0x091000 + 0x20 * i) + 0, 13, 0⟩
/-! FBR_CAN_NBT (R336) -/
def FBR_CAN_NBT_NBRP (i : Nat) : Fl := ⟨32 * (0x091004 + 0x20 * i) + 27, 5, 0⟩
def FBR_CAN_NBT_NTSEG1 (i : Nat) : Fl := ⟨32 * (0x091004 + 0x20 * i) + 19, 8, 0⟩
def FBR_CAN_NBT_NTSEG2 (i : Nat) : Fl := ⟨32 * (0x091004 + 0x20 * i) + 12, 7, 0⟩
def FBR_CAN_NBT_NSJW (i : Nat) : Fl := ⟨32 * (0x091004 + 0x20 * i) + 5, 7, 0⟩
/-! FBR_CAN_DBT (R336) -/
def FBR_CAN_DBT_DBRP (i : Nat) : Fl := ⟨32 * (0x091008 + 0x20 * i) + 27, 5, 0⟩
def FBR_CAN_DBT_DTSEG1 (i : Nat) : Fl := ⟨32 * (0x091008 + 0x20 * i) + 16, 5, 0⟩
def FBR_CAN_DBT_DTSEG2 (i : Nat) : Fl := ⟨32 * (0x091008 + 0x20 * i) + 8, 4, 0⟩
def FBR_CAN_DBT_DSJW (i : Nat) : Fl := ⟨32 * (0x091008 + 0x20 * i) + 0, 4, 0⟩
/-! FBR_CAN_STATUS (R336) -/
def FBR_CAN_STATUS_TEC (i : Nat) : Fl := ⟨32 * (0x09100C + 0x20 * i) + 24, 8, 0⟩
def FBR_CAN_STATUS_REC (i : Nat) : Fl := ⟨32 * (0x09100C + 0x20 * i) + 16, 8, 0⟩
def FBR_CAN_STATUS_STATE (i : Nat) : Fl := ⟨32 * (0x09100C + 0x20 * i) + 14, 2, 0⟩
/-! FBR_CAN_TXREQ_LO (R336) -/
def FBR_CAN_TXREQ_LO (i : Nat) : Fl := ⟨32 * (0x091010 + 0x20 * i) + 0, 32, 0⟩
/-! FBR_CAN_TXREQ_HI (R336) -/
def FBR_CAN_TXREQ_HI (i : Nat) : Fl := ⟨32 * (0x091014 + 0x20 * i) + 0, 32, 0⟩
/-! FBR_MB_CFG (R338) -/
def FBR_MB_CFG_EN (i : Nat) (j : Nat) : Fl := ⟨32 * (0x092000 + 0x2000 * i + 0x80 * j) + 31, 1, 0⟩
def FBR_MB_CFG_DIR (i : Nat) (j : Nat) : Fl := ⟨32 * (0x092000 + 0x2000 * i + 0x80 * j) + 30, 1, 0⟩
def FBR_MB_CFG_IDE (i : Nat) (j : Nat) : Fl := ⟨32 * (0x092000 + 0x2000 * i + 0x80 * j) + 29, 1, 0⟩
def FBR_MB_CFG_ID (i : Nat) (j : Nat) : Fl := ⟨32 * (0x092000 + 0x2000 * i + 0x80 * j) + 0, 29, 0⟩
/-! FBR_MB_CTL (R338) -/
def FBR_MB_CTL_FDF (i : Nat) (j : Nat) : Fl := ⟨32 * (0x092004 + 0x2000 * i + 0x80 * j) + 31, 1, 0⟩
def FBR_MB_CTL_BRS (i : Nat) (j : Nat) : Fl := ⟨32 * (0x092004 + 0x2000 * i + 0x80 * j) + 30, 1, 0⟩
def FBR_MB_CTL_RTR (i : Nat) (j : Nat) : Fl := ⟨32 * (0x092004 + 0x2000 * i + 0x80 * j) + 29, 1, 0⟩
def FBR_MB_CTL_RXQ (i : Nat) (j : Nat) : Fl := ⟨32 * (0x092004 + 0x2000 * i + 0x80 * j) + 28, 1, 0⟩
def FBR_MB_CTL_DLC (i : Nat) (j : Nat) : Fl := ⟨32 * (0x092004 + 0x2000 * i + 0x80 * j) + 16, 4, 0⟩
/-! FBR_MB_MASK (R338) -/
def FBR_MB_MASK_MASK (i : Nat) (j : Nat) : Fl := ⟨32 * (0x092008 + 0x2000 * i + 0x80 * j) + 0, 29, 0⟩
/-! FBR_MB_STAT (R338) -/
def FBR_MB_STAT_PENDING (i : Nat) (j : Nat) : Fl := ⟨32 * (0x09200C + 0x2000 * i + 0x80 * j) + 31, 1, 0⟩
def FBR_MB_STAT_BUSY (i : Nat) (j : Nat) : Fl := ⟨32 * (0x09200C + 0x2000 * i + 0x80 * j) + 30, 1, 0⟩
def FBR_MB_STAT_NEW (i : Nat) (j : Nat) : Fl := ⟨32 * (0x09200C + 0x2000 * i + 0x80 * j) + 29, 1, 0⟩
def FBR_MB_STAT_LOST (i : Nat) (j : Nat) : Fl := ⟨32 * (0x09200C + 0x2000 * i + 0x80 * j) + 28, 1, 0⟩
/-! FBR_MB_TIME_LO (R338) -/
def FBR_MB_TIME_LO (i : Nat) (j : Nat) : Fl := ⟨32 * (0x092010 + 0x2000 * i + 0x80 * j) + 0, 32, 0⟩
/-! FBR_MB_TIME_HI (R338) -/
def FBR_MB_TIME_HI (i : Nat) (j : Nat) : Fl := ⟨32 * (0x092014 + 0x2000 * i + 0x80 * j) + 0, 32, 0⟩
/-! FBR_MB_DATA (R338) -/
def FBR_MB_DATA (i : Nat) (j : Nat) (k : Nat) : Fl := ⟨32 * (0x092020 + 0x2000 * i + 0x80 * j + 0x4 * k) + 0, 32, 0⟩
/-! USB_CFG (R374) -/
def USB_CFG_GADGET_EN : Fl := ⟨32 * (0x0A0000) + 31, 1, 1⟩
def USB_CFG_IDLE : Fl := ⟨32 * (0x0A0000) + 0, 16, 900⟩
/-! USB_STATUS (R374) -/
def USB_STATUS_UP : Fl := ⟨32 * (0x0A0004) + 30, 2, 0⟩
def USB_STATUS_SPEED : Fl := ⟨32 * (0x0A0004) + 28, 2, 0⟩
def USB_STATUS_SUSPENDED : Fl := ⟨32 * (0x0A0004) + 27, 1, 0⟩
def USB_STATUS_CONFIGURED : Fl := ⟨32 * (0x0A0004) + 26, 1, 0⟩
def USB_STATUS_SESSION : Fl := ⟨32 * (0x0A0004) + 24, 2, 0⟩
def USB_STATUS_FRAME : Fl := ⟨32 * (0x0A0004) + 0, 11, 0⟩
/-! USB_SOF_LO (R374) -/
def USB_SOF_LO : Fl := ⟨32 * (0x0A0008) + 0, 32, 0⟩
/-! USB_SOF_HI (R374) -/
def USB_SOF_HI : Fl := ⟨32 * (0x0A000C) + 0, 32, 0⟩
/-! USB_PORT_STATUS (R374) -/
def USB_PORT_STATUS_BABBLE_CUT (i : Nat) : Fl := ⟨32 * (0x0A0010 + 0x4 * i) + 5, 1, 0⟩
def USB_PORT_STATUS_OVER_CURRENT (i : Nat) : Fl := ⟨32 * (0x0A0010 + 0x4 * i) + 4, 1, 0⟩
def USB_PORT_STATUS_SPEED (i : Nat) : Fl := ⟨32 * (0x0A0010 + 0x4 * i) + 2, 2, 0⟩
def USB_PORT_STATUS_SUSPENDED (i : Nat) : Fl := ⟨32 * (0x0A0010 + 0x4 * i) + 1, 1, 0⟩
def USB_PORT_STATUS_ENABLED (i : Nat) : Fl := ⟨32 * (0x0A0010 + 0x4 * i) + 0, 1, 0⟩
/-! TCP_BUDGET (R372) -/
def TCP_BUDGET_B : Fl := ⟨32 * (0x0B0000) + 0, 12, 600⟩
/-! TCP_STATUS (R372) -/
def TCP_STATUS_HELD : Fl := ⟨32 * (0x0B0004) + 0, 12, 0⟩
/-! TCP_S_STATUS (R372) -/
def TCP_S_STATUS_FLIPPED : Fl := ⟨32 * (0x0B0080) + 2, 1, 0⟩
def TCP_S_STATUS_VBUS : Fl := ⟨32 * (0x0B0080) + 1, 1, 0⟩
def TCP_S_STATUS_ATTACHED : Fl := ⟨32 * (0x0B0080) + 0, 1, 0⟩
/-! TCP_PORT_CFG (R373) -/
def TCP_PORT_CFG_EN (i : Nat) : Fl := ⟨32 * (0x0B0100 + 0x40 * i) + 31, 1, 0⟩
def TCP_PORT_CFG_DP_EN (i : Nat) : Fl := ⟨32 * (0x0B0100 + 0x40 * i) + 30, 1, 0⟩
def TCP_PORT_CFG_PRIO (i : Nat) : Fl := ⟨32 * (0x0B0100 + 0x40 * i) + 28, 2, 0⟩
def TCP_PORT_CFG_VCONN_EN (i : Nat) : Fl := ⟨32 * (0x0B0100 + 0x40 * i) + 27, 1, 0⟩
def TCP_PORT_CFG_USB_EN (i : Nat) : Fl := ⟨32 * (0x0B0100 + 0x40 * i) + 26, 1, 0⟩
def TCP_PORT_CFG_MAX_W (i : Nat) : Fl := ⟨32 * (0x0B0100 + 0x40 * i) + 0, 7, 0⟩
/-! TCP_PORT_CTL (R373) -/
/-! TCP_PORT_STATUS (R373) -/
def TCP_PORT_STATUS_STATE (i : Nat) : Fl := ⟨32 * (0x0B0108 + 0x40 * i) + 29, 3, 0⟩
def TCP_PORT_STATUS_FLIPPED (i : Nat) : Fl := ⟨32 * (0x0B0108 + 0x40 * i) + 28, 1, 0⟩
def TCP_PORT_STATUS_RA (i : Nat) : Fl := ⟨32 * (0x0B0108 + 0x40 * i) + 27, 1, 0⟩
def TCP_PORT_STATUS_VCONN_SRC (i : Nat) : Fl := ⟨32 * (0x0B0108 + 0x40 * i) + 26, 1, 0⟩
def TCP_PORT_STATUS_VBUS_ON (i : Nat) : Fl := ⟨32 * (0x0B0108 + 0x40 * i) + 25, 1, 0⟩
def TCP_PORT_STATUS_NO_BUDGET (i : Nat) : Fl := ⟨32 * (0x0B0108 + 0x40 * i) + 24, 1, 0⟩
def TCP_PORT_STATUS_PD (i : Nat) : Fl := ⟨32 * (0x0B0108 + 0x40 * i) + 22, 2, 0⟩
def TCP_PORT_STATUS_CABLE_5A (i : Nat) : Fl := ⟨32 * (0x0B0108 + 0x40 * i) + 21, 1, 0⟩
def TCP_PORT_STATUS_CABLE_SS (i : Nat) : Fl := ⟨32 * (0x0B0108 + 0x40 * i) + 20, 1, 0⟩
def TCP_PORT_STATUS_DP (i : Nat) : Fl := ⟨32 * (0x0B0108 + 0x40 * i) + 17, 3, 0⟩
def TCP_PORT_STATUS_PIN (i : Nat) : Fl := ⟨32 * (0x0B0108 + 0x40 * i) + 15, 2, 0⟩
def TCP_PORT_STATUS_HPD (i : Nat) : Fl := ⟨32 * (0x0B0108 + 0x40 * i) + 14, 1, 0⟩
def TCP_PORT_STATUS_PD_FAIL (i : Nat) : Fl := ⟨32 * (0x0B0108 + 0x40 * i) + 13, 1, 0⟩
/-! TCP_PORT_CONTRACT (R372) -/
def TCP_PORT_CONTRACT_VOLT (i : Nat) : Fl := ⟨32 * (0x0B010C + 0x40 * i) + 20, 10, 0⟩
def TCP_PORT_CONTRACT_CUR (i : Nat) : Fl := ⟨32 * (0x0B010C + 0x40 * i) + 10, 10, 0⟩
def TCP_PORT_CONTRACT_MAX (i : Nat) : Fl := ⟨32 * (0x0B010C + 0x40 * i) + 0, 10, 0⟩
/-! TCP_PORT_GRANT (R372) -/
def TCP_PORT_GRANT_GRANT (i : Nat) : Fl := ⟨32 * (0x0B0110 + 0x40 * i) + 0, 12, 0⟩
/-! LPW_STATUS (R398) -/
def LPW_STATUS_PG : Fl := ⟨32 * (0x0C0000) + 24, 6, 0⟩
def LPW_STATUS_RAIL_EN : Fl := ⟨32 * (0x0C0000) + 18, 6, 0⟩
def LPW_STATUS_VHV : Fl := ⟨32 * (0x0C0000) + 0, 16, 0⟩
/-! LPW_CH_CFG (R399) -/
def LPW_CH_CFG_EN (i : Nat) : Fl := ⟨32 * (0x0C0100 + 0x80 * i) + 31, 1, rstAt [1, 1, 0, 0, 0, 0, 1, 0] i⟩
def LPW_CH_CFG_MODE (i : Nat) : Fl := ⟨32 * (0x0C0100 + 0x80 * i) + 28, 3, rstAt [3, 3, 1, 1, 1, 1, 2, 1] i⟩
def LPW_CH_CFG_LATCH (i : Nat) : Fl := ⟨32 * (0x0C0100 + 0x80 * i) + 27, 1, 0⟩
def LPW_CH_CFG_NTC_EN (i : Nat) : Fl := ⟨32 * (0x0C0100 + 0x80 * i) + 26, 1, 0⟩
/-! LPW_CH_CTL (R398) -/
/-! LPW_CH_STATUS (R399) -/
def LPW_CH_STATUS_STATE (i : Nat) : Fl := ⟨32 * (0x0C0108 + 0x80 * i) + 28, 4, 0⟩
def LPW_CH_STATUS_FAULT (i : Nat) : Fl := ⟨32 * (0x0C0108 + 0x80 * i) + 24, 4, 0⟩
def LPW_CH_STATUS_TRIPS (i : Nat) : Fl := ⟨32 * (0x0C0108 + 0x80 * i) + 20, 4, 0⟩
def LPW_CH_STATUS_REGULATING (i : Nat) : Fl := ⟨32 * (0x0C0108 + 0x80 * i) + 19, 1, 0⟩
def LPW_CH_STATUS_FOLDED (i : Nat) : Fl := ⟨32 * (0x0C0108 + 0x80 * i) + 18, 1, 0⟩
def LPW_CH_STATUS_OUTER_LIVE (i : Nat) : Fl := ⟨32 * (0x0C0108 + 0x80 * i) + 17, 1, 0⟩
def LPW_CH_STATUS_INNER_LIVE (i : Nat) : Fl := ⟨32 * (0x0C0108 + 0x80 * i) + 16, 1, 0⟩
def LPW_CH_STATUS_REMAIN (i : Nat) : Fl := ⟨32 * (0x0C0108 + 0x80 * i) + 0, 16, 0⟩
/-! LPW_CH_WIN (R398) -/
def LPW_CH_WIN_OV (i : Nat) : Fl := ⟨32 * (0x0C010C + 0x80 * i) + 16, 16, rstAt [5800, 5800, 0, 0, 0, 0, 5800, 2640] i⟩
def LPW_CH_WIN_UV (i : Nat) : Fl := ⟨32 * (0x0C010C + 0x80 * i) + 0, 16, rstAt [3400, 3400, 0, 0, 0, 0, 3400, 2160] i⟩
/-! LPW_CH_ILIM (R398) -/
def LPW_CH_ILIM_ILIM_START (i : Nat) : Fl := ⟨32 * (0x0C0110 + 0x80 * i) + 16, 16, rstAt [200, 200, 100, 100, 100, 100, 200, 100] i⟩
def LPW_CH_ILIM_ILIM (i : Nat) : Fl := ⟨32 * (0x0C0110 + 0x80 * i) + 0, 16, rstAt [800, 800, 300, 300, 300, 300, 1000, 300] i⟩
/-! LPW_CH_TINS (R398) -/
def LPW_CH_TINS_TSTART (i : Nat) : Fl := ⟨32 * (0x0C0114 + 0x80 * i) + 16, 16, 200⟩
def LPW_CH_TINS_TINS (i : Nat) : Fl := ⟨32 * (0x0C0114 + 0x80 * i) + 0, 16, rstAt [200, 200, 0, 0, 0, 0, 200, 0] i⟩
/-! LPW_CH_TFLT (R398) -/
def LPW_CH_TFLT_TRETRY (i : Nat) : Fl := ⟨32 * (0x0C0118 + 0x80 * i) + 16, 16, 100⟩
def LPW_CH_TFLT_TFLT (i : Nat) : Fl := ⟨32 * (0x0C0118 + 0x80 * i) + 0, 16, 200⟩
/-! LPW_CH_RAMP (R398) -/
def LPW_CH_RAMP_TDETACH (i : Nat) : Fl := ⟨32 * (0x0C011C + 0x80 * i) + 16, 16, rstAt [200, 200, 200, 200, 200, 200, 200, 0] i⟩
def LPW_CH_RAMP_DVDT (i : Nat) : Fl := ⟨32 * (0x0C011C + 0x80 * i) + 0, 16, rstAt [250, 250, 100, 100, 100, 100, 250, 250] i⟩
/-! LPW_CH_FET0 (R398) -/
def LPW_CH_FET0_RDSON (i : Nat) : Fl := ⟨32 * (0x0C0120 + 0x80 * i) + 16, 16, 16⟩
def LPW_CH_FET0_RSENSE (i : Nat) : Fl := ⟨32 * (0x0C0120 + 0x80 * i) + 0, 16, 1000⟩
/-! LPW_CH_FET1 (R398) -/
def LPW_CH_FET1_TMAX (i : Nat) : Fl := ⟨32 * (0x0C0124 + 0x80 * i) + 24, 8, 150⟩
def LPW_CH_FET1_RTH (i : Nat) : Fl := ⟨32 * (0x0C0124 + 0x80 * i) + 12, 12, 800⟩
def LPW_CH_FET1_CTH (i : Nat) : Fl := ⟨32 * (0x0C0124 + 0x80 * i) + 0, 12, 200⟩
/-! LPW_CH_I (R398) -/
def LPW_CH_I (i : Nat) : Fl := ⟨32 * (0x0C0140 + 0x80 * i) + 0, 32, 0⟩
/-! LPW_CH_VO (R398) -/
def LPW_CH_VO (i : Nat) : Fl := ⟨32 * (0x0C0144 + 0x80 * i) + 0, 32, 0⟩
/-! LPW_CH_VI (R398) -/
def LPW_CH_VI (i : Nat) : Fl := ⟨32 * (0x0C0148 + 0x80 * i) + 0, 32, 0⟩
/-! LPW_CH_P (R398) -/
def LPW_CH_P (i : Nat) : Fl := ⟨32 * (0x0C014C + 0x80 * i) + 0, 32, 0⟩
/-! LPW_CH_E_LO (R398) -/
def LPW_CH_E_LO (i : Nat) : Fl := ⟨32 * (0x0C0150 + 0x80 * i) + 0, 32, 0⟩
/-! LPW_CH_E_HI (R398) -/
def LPW_CH_E_HI (i : Nat) : Fl := ⟨32 * (0x0C0154 + 0x80 * i) + 0, 32, 0⟩
/-! LPW_CH_TFET (R398) -/
def LPW_CH_TFET_MODELLED (i : Nat) : Fl := ⟨32 * (0x0C0158 + 0x80 * i) + 16, 1, 0⟩
def LPW_CH_TFET_TEMP (i : Nat) : Fl := ⟨32 * (0x0C0158 + 0x80 * i) + 0, 16, 0⟩
/-! LPW_CH_IPEAK (R398) -/
def LPW_CH_IPEAK (i : Nat) : Fl := ⟨32 * (0x0C015C + 0x80 * i) + 0, 32, 0⟩
/-! LPW_GNT_I (R398) -/
def LPW_GNT_I_IK (i : Nat) (j : Nat) : Fl := ⟨32 * (0x0C1000 + 0x40 * i + 0x8 * j) + 0, 16, 0⟩
/-! LPW_GNT_T (R398) -/
def LPW_GNT_T_TK (i : Nat) (j : Nat) : Fl := ⟨32 * (0x0C1004 + 0x40 * i + 0x8 * j) + 0, 32, 0⟩
/-! PWR_STATUS (R418) -/
def PWR_STATUS_XTAL_FAILS : Fl := ⟨32 * (0x0D0000) + 8, 8, 0⟩
def PWR_STATUS_FAILSAFE_SEEN : Fl := ⟨32 * (0x0D0000) + 0, 1, 0⟩
/-! PWR_CTL (R418) -/
def PWR_CTL_PARK_S : Fl := ⟨32 * (0x0D0004) + 16, 16, 0⟩
def PWR_CTL_SAVE_EN : Fl := ⟨32 * (0x0D0004) + 0, 1, 0⟩
/-! PWR_FAILED (R417) -/
def PWR_FAILED : Fl := ⟨32 * (0x0D0008) + 0, 24, 0⟩
/-! PWR_AT_L0 (R417) -/
def PWR_AT_L0 : Fl := ⟨32 * (0x0D000C) + 0, 24, 16777215⟩
/-! PWR_DOM_MODE (R418) -/
def PWR_DOM_MODE_ARMED (i : Nat) : Fl := ⟨32 * (0x0D0100 + 0x4 * i) + 8, 1, 0⟩
def PWR_DOM_MODE_TARGET (i : Nat) : Fl := ⟨32 * (0x0D0100 + 0x4 * i) + 0, 3, 0⟩
/-! PWR_DOM_STATUS (R418) -/
def PWR_DOM_STATUS_STATE (i : Nat) : Fl := ⟨32 * (0x0D0200 + 0x4 * i) + 29, 3, 0⟩
def PWR_DOM_STATUS_STEP (i : Nat) : Fl := ⟨32 * (0x0D0200 + 0x4 * i) + 26, 3, 0⟩
def PWR_DOM_STATUS_PLAN_STEP (i : Nat) : Fl := ⟨32 * (0x0D0200 + 0x4 * i) + 23, 3, 0⟩
def PWR_DOM_STATUS_HOLDER (i : Nat) : Fl := ⟨32 * (0x0D0200 + 0x4 * i) + 20, 3, 0⟩
def PWR_DOM_STATUS_RETRIES (i : Nat) : Fl := ⟨32 * (0x0D0200 + 0x4 * i) + 16, 4, 0⟩
def PWR_DOM_STATUS_LAST_REFUSER (i : Nat) : Fl := ⟨32 * (0x0D0200 + 0x4 * i) + 8, 8, 0⟩
/-! PWR_DOM_CTL (R417) -/
/-! PWR_WAKE_REC_0 (R415) -/
def PWR_WAKE_REC_0_TICK (i : Nat) : Fl := ⟨32 * (0x0D0400 + 0x8 * i) + 0, 32, 0⟩
/-! PWR_WAKE_REC_1 (R415) -/
def PWR_WAKE_REC_1_FAIL (i : Nat) : Fl := ⟨32 * (0x0D0404 + 0x8 * i) + 31, 1, 0⟩
def PWR_WAKE_REC_1_SOURCE (i : Nat) : Fl := ⟨32 * (0x0D0404 + 0x8 * i) + 27, 4, 0⟩
def PWR_WAKE_REC_1_FROM (i : Nat) : Fl := ⟨32 * (0x0D0404 + 0x8 * i) + 24, 3, 0⟩
def PWR_WAKE_REC_1_RETRIES (i : Nat) : Fl := ⟨32 * (0x0D0404 + 0x8 * i) + 16, 8, 0⟩
def PWR_WAKE_REC_1_EXIT_TIME (i : Nat) : Fl := ⟨32 * (0x0D0404 + 0x8 * i) + 0, 16, 0⟩
/-! PWR_REFUSE (R416) -/
def PWR_REFUSE_LAST_ID (i : Nat) : Fl := ⟨32 * (0x0D0600 + 0x4 * i) + 24, 8, 0⟩
def PWR_REFUSE_LAST_STEP (i : Nat) : Fl := ⟨32 * (0x0D0600 + 0x4 * i) + 21, 3, 0⟩
def PWR_REFUSE_LAST_ABORT (i : Nat) : Fl := ⟨32 * (0x0D0600 + 0x4 * i) + 20, 1, 0⟩
def PWR_REFUSE_COUNT (i : Nat) : Fl := ⟨32 * (0x0D0600 + 0x4 * i) + 0, 16, 0⟩
/-! REL_STATUS (R440) -/
def REL_STATUS_ACTIVE : Fl := ⟨32 * (0x0E0000) + 24, 3, 0⟩
def REL_STATUS_LOG_USED : Fl := ⟨32 * (0x0E0000) + 8, 5, 0⟩
def REL_STATUS_STAGED : Fl := ⟨32 * (0x0E0000) + 0, 3, 0⟩
/-! REL_CFG (R440) -/
def REL_CFG_MH_REQ : Fl := ⟨32 * (0x0E0004) + 24, 8, 16⟩
def REL_CFG_MV_REQ : Fl := ⟨32 * (0x0E0004) + 16, 8, 24⟩
def REL_CFG_CE_LIMIT : Fl := ⟨32 * (0x0E0004) + 8, 8, 16⟩
def REL_CFG_WAIT_H : Fl := ⟨32 * (0x0E0004) + 0, 8, 24⟩
/-! REL_CFG2 (R440) -/
def REL_CFG2_BIST_WAIT : Fl := ⟨32 * (0x0E0008) + 16, 16, 16000⟩
def REL_CFG2_DROOP_LIMIT : Fl := ⟨32 * (0x0E0008) + 0, 16, 1000⟩
/-! REL_AVS (R439) -/
def REL_AVS_FORCE : Fl := ⟨32 * (0x0E000C) + 16, 16, 750⟩
def REL_AVS_STAGED : Fl := ⟨32 * (0x0E000C) + 0, 16, 750⟩
/-! REL_ASSIST (R439) -/
def REL_ASSIST : Fl := ⟨32 * (0x0E0010) + 0, 32, 0⟩
/-! REL_ASSIST_STAGED (R439) -/
def REL_ASSIST_STAGED : Fl := ⟨32 * (0x0E0014) + 0, 32, 0⟩
/-! REL_FLIP_LO (R439) -/
def REL_FLIP_LO : Fl := ⟨32 * (0x0E0020) + 0, 32, 0⟩
/-! REL_FLIP_MID (R439) -/
def REL_FLIP_MID : Fl := ⟨32 * (0x0E0024) + 0, 32, 0⟩
/-! REL_FLIP_HI (R439) -/
def REL_FLIP_HI : Fl := ⟨32 * (0x0E0028) + 0, 8, 0⟩
/-! REL_FLIP_CTL (R439) -/
def REL_FLIP_CTL_ARM : Fl := ⟨32 * (0x0E002C) + 31, 1, 0⟩
def REL_FLIP_CTL_MEM : Fl := ⟨32 * (0x0E002C) + 0, 4, 0⟩
/-! REL_ECC_LOG_CLR (R439) -/
/-! REL_ECC_LOG_0 (R440) -/
def REL_ECC_LOG_0_VALID (i : Nat) : Fl := ⟨32 * (0x0E0040 + 0x10 * i) + 31, 1, 0⟩
def REL_ECC_LOG_0_UE (i : Nat) : Fl := ⟨32 * (0x0E0040 + 0x10 * i) + 30, 1, 0⟩
def REL_ECC_LOG_0_MEM (i : Nat) : Fl := ⟨32 * (0x0E0040 + 0x10 * i) + 26, 4, 0⟩
def REL_ECC_LOG_0_WORD (i : Nat) : Fl := ⟨32 * (0x0E0040 + 0x10 * i) + 0, 23, 0⟩
/-! REL_ECC_LOG_1 (R440) -/
def REL_ECC_LOG_1_SYNDROME (i : Nat) : Fl := ⟨32 * (0x0E0044 + 0x10 * i) + 24, 8, 0⟩
def REL_ECC_LOG_1_HITS (i : Nat) : Fl := ⟨32 * (0x0E0044 + 0x10 * i) + 0, 16, 0⟩
/-! REL_ECC_LOG_2 (R440) -/
def REL_ECC_LOG_2_FIRST_TICK (i : Nat) : Fl := ⟨32 * (0x0E0048 + 0x10 * i) + 0, 32, 0⟩
/-! REL_ECC_LOG_3 (R440) -/
def REL_ECC_LOG_3_LAST_TICK (i : Nat) : Fl := ⟨32 * (0x0E004C + 0x10 * i) + 0, 32, 0⟩
/-! REL_MAINT_REQ (R440) -/
def REL_MAINT_REQ_TYPE : Fl := ⟨32 * (0x0E0200) + 27, 4, 0⟩
def REL_MAINT_REQ_TAG : Fl := ⟨32 * (0x0E0200) + 19, 8, 0⟩
def REL_MAINT_REQ_TARGET : Fl := ⟨32 * (0x0E0200) + 0, 18, 0⟩
/-! REL_MAINT_RESULT (R440) -/
def REL_MAINT_RESULT_CODE : Fl := ⟨32 * (0x0E0204) + 28, 4, 0⟩
def REL_MAINT_RESULT_TAG : Fl := ⟨32 * (0x0E0204) + 20, 8, 0⟩
def REL_MAINT_RESULT_EXCL : Fl := ⟨32 * (0x0E0204) + 19, 1, 0⟩
def REL_MAINT_RESULT_ID : Fl := ⟨32 * (0x0E0204) + 0, 16, 0⟩
/-! REL_MAINT_STOP (R439) -/
/-! REL_MAINT_STAT_0 (R440) -/
def REL_MAINT_STAT_0_ID (i : Nat) : Fl := ⟨32 * (0x0E0210 + 0x10 * i) + 16, 16, 0⟩
def REL_MAINT_STAT_0_STATE (i : Nat) : Fl := ⟨32 * (0x0E0210 + 0x10 * i) + 12, 4, 0⟩
def REL_MAINT_STAT_0_CAUSE (i : Nat) : Fl := ⟨32 * (0x0E0210 + 0x10 * i) + 8, 4, 0⟩
/-! REL_MAINT_STAT_1 (R440) -/
def REL_MAINT_STAT_1_TARGET (i : Nat) : Fl := ⟨32 * (0x0E0214 + 0x10 * i) + 0, 32, 0⟩
/-! REL_MAINT_STAT_2 (R440) -/
def REL_MAINT_STAT_2_PROGRESS (i : Nat) : Fl := ⟨32 * (0x0E0218 + 0x10 * i) + 0, 32, 0⟩
/-! REL_MAINT_STAT_3 (R440) -/
def REL_MAINT_STAT_3_RESULT (i : Nat) : Fl := ⟨32 * (0x0E021C + 0x10 * i) + 0, 32, 0⟩
/-! REL_RO (R439) -/
def REL_RO_DELTA (i : Nat) : Fl := ⟨32 * (0x0E0300 + 0x4 * i) + 16, 16, 0⟩
def REL_RO_TEMP (i : Nat) : Fl := ⟨32 * (0x0E0300 + 0x4 * i) + 8, 8, 0⟩
def REL_RO_VALID (i : Nat) : Fl := ⟨32 * (0x0E0300 + 0x4 * i) + 7, 1, 0⟩
def REL_RO_HOURS (i : Nat) : Fl := ⟨32 * (0x0E0300 + 0x4 * i) + 0, 7, 0⟩
/-! REL_MARGIN (R439) -/
def REL_MARGIN_MH (i : Nat) : Fl := ⟨32 * (0x0E0400 + 0x4 * i) + 24, 8, 0⟩
def REL_MARGIN_MV (i : Nat) : Fl := ⟨32 * (0x0E0400 + 0x4 * i) + 16, 8, 0⟩
def REL_MARGIN_SHORT (i : Nat) : Fl := ⟨32 * (0x0E0400 + 0x4 * i) + 8, 8, 0⟩
def REL_MARGIN_VALID (i : Nat) : Fl := ⟨32 * (0x0E0400 + 0x4 * i) + 7, 1, 0⟩
def REL_MARGIN_MINUTES (i : Nat) : Fl := ⟨32 * (0x0E0400 + 0x4 * i) + 0, 7, 0⟩
/-! REL_LM_STATUS (R439) -/
def REL_LM_STATUS_TEST (i : Nat) : Fl := ⟨32 * (0x0E0440 + 0x4 * i) + 24, 8, 0⟩
def REL_LM_STATUS_FIELD (i : Nat) : Fl := ⟨32 * (0x0E0440 + 0x4 * i) + 16, 8, 0⟩
def REL_LM_STATUS_WITHHELD (i : Nat) : Fl := ⟨32 * (0x0E0440 + 0x4 * i) + 0, 16, 0⟩
/-! REL_FET_HIST (R439) -/
def REL_FET_HIST (i : Nat) (j : Nat) : Fl := ⟨32 * (0x0E0500 + 0x20 * i + 0x4 * j) + 0, 32, 0⟩
/-! SEC_LC (R465) -/
def SEC_LC_STATE : Fl := ⟨32 * (0x0F0000) + 0, 3, 0⟩
/-! SEC_LC_CTL (R465) -/
/-! SEC_BOOT (R466) -/
def SEC_BOOT_SVN_FUSED : Fl := ⟨32 * (0x0F0008) + 24, 8, 0⟩
def SEC_BOOT_SVN : Fl := ⟨32 * (0x0F0008) + 16, 8, 0⟩
def SEC_BOOT_SLOT : Fl := ⟨32 * (0x0F0008) + 15, 1, 0⟩
/-! SEC_BOOT_CTL (R465) -/
/-! SEC_KHASH_CTL (R465) -/
/-! SEC_FW_VERSION (R465) -/
def SEC_FW_VERSION : Fl := ⟨32 * (0x0F0014) + 0, 32, 0⟩
/-! SEC_KHASH (R465) -/
def SEC_KHASH (i : Nat) : Fl := ⟨32 * (0x0F0020 + 0x4 * i) + 0, 32, 0⟩
/-! SEC_KEY_CTL (R465) -/
/-! SEC_KEY_STATUS (R465) -/
def SEC_KEY_STATUS : Fl := ⟨32 * (0x0F0044) + 0, 32, 0⟩
/-! SEC_KEY_TX (R465) -/
def SEC_KEY_TX_ID : Fl := ⟨32 * (0x0F0048) + 0, 3, 0⟩
/-! SEC_KEY_BLOB (R465) -/
def SEC_KEY_BLOB (i : Nat) : Fl := ⟨32 * (0x0F0080 + 0x4 * i) + 0, 32, 0⟩
/-! SEC_DBG_CTL (R466) -/
def SEC_DBG_CTL_OPEN : Fl := ⟨32 * (0x0F0100) + 28, 1, 0⟩
def SEC_DBG_CTL_KEY_SLOT : Fl := ⟨32 * (0x0F0100) + 8, 2, 0⟩
def SEC_DBG_CTL_SCOPE : Fl := ⟨32 * (0x0F0100) + 0, 8, 0⟩
/-! SEC_DBG_CHAL (R465) -/
def SEC_DBG_CHAL (i : Nat) : Fl := ⟨32 * (0x0F0120 + 0x4 * i) + 0, 32, 0⟩
/-! SEC_DBG_KEY (R465) -/
def SEC_DBG_KEY (i : Nat) : Fl := ⟨32 * (0x0F0140 + 0x4 * i) + 0, 32, 0⟩
/-! SEC_DBG_RESP (R465) -/
def SEC_DBG_RESP (i : Nat) : Fl := ⟨32 * (0x0F0180 + 0x4 * i) + 0, 32, 0⟩
/-! SEC_FLASH_ADDR (R465) -/
def SEC_FLASH_ADDR : Fl := ⟨32 * (0x0F0200) + 0, 32, 0⟩
/-! SEC_FLASH_CMD (R466) -/
def SEC_FLASH_CMD_BUSY : Fl := ⟨32 * (0x0F0204) + 31, 1, 0⟩
def SEC_FLASH_CMD_RESULT : Fl := ⟨32 * (0x0F0204) + 28, 3, 0⟩
/-! SEC_FLASH_DATA (R465) -/
def SEC_FLASH_DATA (i : Nat) : Fl := ⟨32 * (0x0F0400 + 0x4 * i) + 0, 32, 0⟩

end Sys2Proof.Machine.Fld

namespace Sys2Proof.Machine.Cnt

/-! Statistics counters: the offset of the LO word (R118). A counter kept per selected index takes that index as its
first argument and lives above 2^32, one stride per index; its BAR0 offset shows the selected one. -/
/-- R29 -/
def GEN_EVT_LOST : Nat := 0x000200
/-- R32 -/
def GEN_TICK_OVERRUNS : Nat := 0x000208
/-- R32 -/
def GEN_TICK_SKIPS : Nat := 0x000210
/-- R244 -/
def HIF_CNT_DB_FETCH : Nat := 0x010100
/-- R233 -/
def HIF_CNT_DB_LATE : Nat := 0x010108
/-- R244 -/
def HIF_CNT_NUDGE : Nat := 0x010110
/-- R244 -/
def HIF_CNT_DESC : Nat := 0x010118
/-- R231 -/
def HIF_CNT_CQ_DROP : Nat := 0x010120
/-- R238 -/
def HIF_CNT_EVQ_DROP : Nat := 0x010128
/-- R242 -/
def HIF_CNT_LATE_RSP : Nat := 0x010130
/-- R244 -/
def HIF_CNT_DMA_ERR : Nat := 0x010138
/-- R154 -/
def PLN_CNT_SWITCHES : Nat := 0x020100
/-- R154 -/
def PLN_CNT_TRANSPARENT : Nat := 0x020108
/-- R154 -/
def PLN_CNT_FLUSHED : Nat := 0x020110
/-- R154 -/
def PLN_CNT_FRAG_DISCARD : Nat := 0x020118
/-- R71 -/
def TRK_LOOP_ERRS (i : Nat) : Nat := 0x030030 + 0x40 * i
/-- R118 -/
def TRK_CNT_CORR (i : Nat) : Nat := 0x030400 + 0x40 * i
/-- R118 -/
def TRK_CNT_CBYTES (i : Nat) : Nat := 0x030408 + 0x40 * i
/-- R118 -/
def TRK_CNT_UNCORR (i : Nat) : Nat := 0x030410 + 0x40 * i
/-- R118 -/
def TRK_CNT_POISON (i : Nat) : Nat := 0x030418 + 0x40 * i
/-- R118 -/
def TRK_CNT_EXPIRED (i : Nat) : Nat := 0x030420 + 0x40 * i
/-- R118 -/
def TRK_CNT_LATE (i : Nat) : Nat := 0x030428 + 0x40 * i
/-- R118 -/
def TRK_CNT_UNPLANNED (i : Nat) : Nat := 0x030430 + 0x40 * i
/-- R118 -/
def TRK_CNT_MISROUTE (i : Nat) : Nat := 0x030438 + 0x40 * i
/-- R119 -/
def TRK_CNT_SYNC_MISS (i : Nat) : Nat := 0x030800 + 0x40 * i
/-- R119 -/
def TRK_CNT_AUTH_FAIL (i : Nat) : Nat := 0x030808 + 0x40 * i
/-- R119 -/
def TRK_CNT_STALE (i : Nat) : Nat := 0x030810 + 0x40 * i
/-- R119 -/
def TRK_CNT_MGMT_DROP (i : Nat) : Nat := 0x030818 + 0x40 * i
/-- R119 -/
def TRK_CNT_MGMT_MISROUTE (i : Nat) : Nat := 0x030820 + 0x40 * i
/-- R178 -/
def CPL_QSTAT_DROPS (q : Nat) : Nat := 0x040030 + 0x100000000 * (q + 1)
/-- R167 -/
def CPL_CNT_STREAM_DROP : Nat := 0x040100
/-- R168 -/
def CPL_CNT_GAP_MARKERS : Nat := 0x040108
/-- R170 -/
def CPL_CNT_CONTROL_DROP : Nat := 0x040110
/-- R171 -/
def CPL_CNT_SEQ_LOST : Nat := 0x040118
/-- R171 -/
def CPL_CNT_SEQ_OLD : Nat := 0x040120
/-- R158 -/
def CPL_CNT_RESYNC : Nat := 0x040128
/-- R164 -/
def CPL_CNT_POOL_FAIL : Nat := 0x040130
/-- R158 -/
def CPL_CNT_OVERSIZE : Nat := 0x040138
/-- R163 -/
def CPL_CNT_DISABLED : Nat := 0x040140
/-- R162 -/
def CPL_CNT_BINDING : Nat := 0x040148
/-- R175 -/
def CPL_CNT_CARVE_FLUSH : Nat := 0x040150
/-- R209 -/
def LTM_CNT_FIRED : Nat := 0x050200
/-- R209 -/
def LTM_CNT_LATE : Nat := 0x050208
/-- R209 -/
def LTM_CNT_REFUSED : Nat := 0x050210
/-- R209 -/
def LTM_CNT_CAPTURES : Nat := 0x050218
/-- R209 -/
def LTM_CNT_CAPTURE_DROP : Nat := 0x050220
/-- R188 -/
def LTM_CNT_REJECT : Nat := 0x050228
/-- R269 -/
def NET_CNT_RX_FRAMES (i : Nat) : Nat := 0x060800 + 0x100 * i
/-- R269 -/
def NET_CNT_RX_BYTES (i : Nat) : Nat := 0x060808 + 0x100 * i
/-- R269 -/
def NET_CNT_RX_FCS (i : Nat) : Nat := 0x060810 + 0x100 * i
/-- R269 -/
def NET_CNT_RX_LENGTH (i : Nat) : Nat := 0x060818 + 0x100 * i
/-- R269 -/
def NET_CNT_RX_PAUSE (i : Nat) : Nat := 0x060820 + 0x100 * i
/-- R269 -/
def NET_CNT_RX_NO_MATCH (i : Nat) : Nat := 0x060828 + 0x100 * i
/-- R269 -/
def NET_CNT_RX_NO_TUNNEL (i : Nat) : Nat := 0x060830 + 0x100 * i
/-- R269 -/
def NET_CNT_RX_RED_DROP (i : Nat) : Nat := 0x060838 + 0x100 * i
/-- R269 -/
def NET_CNT_RX_QUEUE_DROP (i : Nat) : Nat := 0x060840 + 0x100 * i
/-- R269 -/
def NET_CNT_TX_FRAMES (i : Nat) : Nat := 0x060848 + 0x100 * i
/-- R269 -/
def NET_CNT_TX_BYTES (i : Nat) : Nat := 0x060850 + 0x100 * i
/-- R269 -/
def NET_CNT_TX_GAP_FRAMES (i : Nat) : Nat := 0x060858 + 0x100 * i
/-- R269 -/
def NET_CNT_TX_POISON (i : Nat) : Nat := 0x060860 + 0x100 * i
/-- R269 -/
def NET_CNT_TX_OVERSIZE (i : Nat) : Nat := 0x060868 + 0x100 * i
/-- R269 -/
def NET_CNT_TS_DROP (i : Nat) : Nat := 0x060870 + 0x100 * i
/-- R270 -/
def NET_POL_CNT_GREEN (q : Nat) : Nat := 0x063008 + 0x100000000 * (q + 1)
/-- R270 -/
def NET_POL_CNT_YELLOW (q : Nat) : Nat := 0x063010 + 0x100000000 * (q + 1)
/-- R270 -/
def NET_POL_CNT_RED (q : Nat) : Nat := 0x063018 + 0x100000000 * (q + 1)
/-- R285 -/
def BLK_CNT_CMDS : Nat := 0x070400
/-- R285 -/
def BLK_CNT_DEV_STATUS : Nat := 0x070408
/-- R285 -/
def BLK_CNT_TUNNEL_FAIL : Nat := 0x070410
/-- R285 -/
def BLK_CNT_LATE_RSP : Nat := 0x070418
/-- R285 -/
def BLK_CNT_RSP_LOST : Nat := 0x070420
/-- R285 -/
def BLK_CNT_BAD_INBOUND : Nat := 0x070428
/-- R285 -/
def BLK_CNT_CTRL_RESET : Nat := 0x070430
/-- R309 -/
def DSP_CNT_TILES (i : Nat) : Nat := 0x080800 + 0x80 * i
/-- R309 -/
def DSP_CNT_TILE_BAD (i : Nat) : Nat := 0x080808 + 0x80 * i
/-- R309 -/
def DSP_CNT_TILE_LOST (i : Nat) : Nat := 0x080810 + 0x80 * i
/-- R309 -/
def DSP_CNT_COMMITS (i : Nat) : Nat := 0x080818 + 0x80 * i
/-- R309 -/
def DSP_CNT_COMMIT_LATE (i : Nat) : Nat := 0x080820 + 0x80 * i
/-- R309 -/
def DSP_CNT_STAGE_OVF (i : Nat) : Nat := 0x080828 + 0x80 * i
/-- R309 -/
def DSP_CNT_FREEZE (i : Nat) : Nat := 0x080830 + 0x80 * i
/-- R309 -/
def DSP_CNT_RETRAIN (i : Nat) : Nat := 0x080838 + 0x80 * i
/-- R309 -/
def DSP_CNT_DISCARD (i : Nat) : Nat := 0x080840 + 0x80 * i
/-- R339 -/
def FBR_CNT_POISON_DROP : Nat := 0x091800
/-- R339 -/
def FBR_CNT_STALE : Nat := 0x091808
/-- R339 -/
def FBR_CNT_PF_HIT : Nat := 0x091810
/-- R339 -/
def FBR_CNT_POLL_SKIP : Nat := 0x091818
/-- R339 -/
def FBR_CNT_CAN_TX_FAIL : Nat := 0x091820
/-- R339 -/
def FBR_CNT_CAN_NO_MB : Nat := 0x091828
/-- R339 -/
def FBR_CNT_MAP_DEFER : Nat := 0x091830
/-- R339 -/
def FBR_CNT_MAP_RANGE : Nat := 0x091838
/-- R339 -/
def FBR_CNT_MAP_SAT : Nat := 0x091840
/-- R339 -/
def FBR_CNT_SIG_DROP : Nat := 0x091848
/-- R339 -/
def FBR_CNT_SIG_BAD : Nat := 0x091850
/-- R374 -/
def USB_CNT_SOF_MISS : Nat := 0x0A0100
/-- R374 -/
def USB_CNT_BABBLE : Nat := 0x0A0108
/-- R374 -/
def USB_CNT_RWAKE_MERGED : Nat := 0x0A0110
/-- R374 -/
def USB_CNT_RESET_IN_CONTROL : Nat := 0x0A0118
/-- R374 -/
def USB_CNT_SESSION_FAIL : Nat := 0x0A0120
/-- R374 -/
def USB_CNT_EVT_LOST : Nat := 0x0A0128
/-- R372 -/
def TCP_CNT_HARD_RESET (i : Nat) : Nat := 0x0B0400 + 0x40 * i
/-- R372 -/
def TCP_CNT_SOFT_RESET (i : Nat) : Nat := 0x0B0408 + 0x40 * i
/-- R372 -/
def TCP_CNT_SWAP_ABORT (i : Nat) : Nat := 0x0B0410 + 0x40 * i
/-- R372 -/
def TCP_CNT_MSG_FAIL (i : Nat) : Nat := 0x0B0418 + 0x40 * i
/-- R398 -/
def LPW_CNT_TRIP (i : Nat) : Nat := 0x0C0800 + 0x40 * i
/-- R398 -/
def LPW_CNT_REVERSE (i : Nat) : Nat := 0x0C0808 + 0x40 * i
/-- R398 -/
def LPW_CNT_INSERT (i : Nat) : Nat := 0x0C0810 + 0x40 * i
/-- R398 -/
def LPW_CNT_REATTACH (i : Nat) : Nat := 0x0C0818 + 0x40 * i
/-- R417 -/
def PWR_CNT_ENTRIES (i : Nat) : Nat := 0x0D0800 + 0x20 * i
/-- R417 -/
def PWR_CNT_REFUSED (i : Nat) : Nat := 0x0D0808 + 0x20 * i
/-- R417 -/
def PWR_CNT_ABORTED (i : Nat) : Nat := 0x0D0810 + 0x20 * i
/-- R417 -/
def PWR_CNT_WAKE_FAIL (i : Nat) : Nat := 0x0D0818 + 0x20 * i
/-- R439 -/
def REL_CNT_CE (i : Nat) : Nat := 0x0E0800 + 0x10 * i
/-- R439 -/
def REL_CNT_UE (i : Nat) : Nat := 0x0E0808 + 0x10 * i
/-- R439 -/
def REL_CNT_LOG_LOST : Nat := 0x0E0900
/-- R439 -/
def REL_CNT_FLIPS : Nat := 0x0E0908
/-- R439 -/
def REL_CNT_DROOP (i : Nat) : Nat := 0x0E0910 + 0x8 * i
/-- R465 -/
def SEC_CNT_KEY_REFUSED : Nat := 0x0F0800

end Sys2Proof.Machine.Cnt
end

