-- ==== Sys2Proof/Machine/RecBase.lean ====
section
/-! DEFINITION. Event records, statistics counters and the record of what the hub drives outward. -/

namespace Sys2Proof.Machine

/-- An event record (R237) whether it uses a kept-back entry (R29), and whether the hub has given it to the EVQs of
its host (R238), to its gadget (R366) and to the head (R239). -/
structure EvRec where
  code : Nat
  hub : Nat
  sev : Sev
  tick : Nat
  args : Nat
  kept : Bool := false
  told : Bool := false
  fed : Bool := false
  sent : Bool := false
  deriving DecidableEq, Repr

/-- The event ring (R29): records in the order accepted, and whether a record was dropped since the ring was last empty. Log entry 159 (DEDUCED). -/
structure EvRing where
  recs : List EvRec := []
  dropped : Bool := false
  deriving DecidableEq, Repr

/-- A 48-bit statistics counter with its SAT bit (R118, R438). -/
structure CntV where
  v : Nat := 0
  sat : Bool := false
  deriving DecidableEq, Repr

/-- A firmware loop that runs (R32): the tick it is for, the line time of its start, whether its overrun was raised, and the latest
tick whose loop it has caused to be skipped. -/
structure LoopRun where
  tick : Nat
  start : Nat
  late : Bool := false
  seen : Nat
  deriving DecidableEq, Repr

end Sys2Proof.Machine
end

