-- ==== Sys2Proof/Machine/Tab.lean ====
section
/-! DEFINITION. A sparse table from natural-number keys to data, kept as a list in strictly rising key order: the one form
in which the model holds sparse things (register fields that differ from reset, queues, rings, entries). -/

namespace Sys2Proof.Machine

/-- A sparse table. -/
abbrev Tab (α : Type) := List (Nat × α)

/-- The entry at key `k`, if listed. -/
def Tab.get? {α : Type} (k : Nat) : Tab α → Option α
  | [] => none
  | (k', v) :: t => if k = k' then some v else Tab.get? k t

/-- The entry at key `k`, or `d` where none is listed. -/
def Tab.getD {α : Type} (t : Tab α) (k : Nat) (d : α) : α := (Tab.get? k t).getD d

/-- The table with `v` at key `k`; rising order is kept. -/
def Tab.put {α : Type} (k : Nat) (v : α) : Tab α → Tab α
  | [] => [(k, v)]
  | (k', v') :: t =>
    if k < k' then (k, v) :: (k', v') :: t
    else if k = k' then (k, v) :: t
    else (k', v') :: Tab.put k v t

/-- The table without an entry at key `k`. -/
def Tab.del {α : Type} (k : Nat) : Tab α → Tab α
  | [] => []
  | (k', v') :: t => if k = k' then Tab.del k t else (k', v') :: Tab.del k t

/-- The table without the entries whose key satisfies `p`. -/
def Tab.delIf {α : Type} (p : Nat → Bool) : Tab α → Tab α
  | [] => []
  | (k, v) :: t => if p k then Tab.delIf p t else (k, v) :: Tab.delIf p t

/-- Every listed value changed by `f`. -/
def Tab.mapVal {α : Type} (f : Nat → α → α) : Tab α → Tab α
  | [] => []
  | (k, v) :: t => (k, f k v) :: Tab.mapVal f t

/-- The canonical form: keys strictly rise. -/
def Tab.wf {α : Type} : Tab α → Bool
  | [] => true
  | [_] => true
  | (k, _) :: (k', v') :: t => decide (k < k') && Tab.wf ((k', v') :: t)

end Sys2Proof.Machine
end

