-- ==== Sys2Proof/Machine/RecBlk.lean ====
section
/-! DEFINITION. The records of the storage tunnel (R273 to R287). -/

namespace Sys2Proof.Machine

/-- A command outstanding at the initiator end (R281): who gave it, its descriptor, its request and response tunnels, the
tick it was sent in, and whether its ring was disabled since, so that its answer is discarded (R224). -/
structure BlkCmd where
  who : Asker
  idx : Nat
  cookie : Nat
  nocomp : Bool
  addr : Nat
  op : Nat
  len : Nat
  req : Nat
  rsp : Nat
  sent : Nat
  dead : Bool := false
  deriving DecidableEq, Repr

/-- A slot in use at the device end (R276, R281): the request's header, its port, queues and namespace, the granted header and
data cells of the response queue (READ and IDENTIFY) or the data cells of the request queue (WRITE), the line time of issue,
and whether it was answered already (R284). -/
structure BlkSlot where
  port : Nat
  hdr : List Byte
  op : Nat
  len : Nat
  reqQ : Nat
  rspQ : Option Nat
  ioq : Nat
  nsid : Nat
  hdrCell : Option Nat := none
  cells : List Nat := []
  at' : Nat
  answered : Bool := false
  deriving DecidableEq, Repr

/-- A root port (R274, R276): the bring-up step reached, PERST# asserted, the cells of RINGQ, LBA sizes learnt by namespace
since the last epoch switch and namespaces whose Identify is out (R280), SQ tails and CQ heads by queue as entry
counts, and the hub's up time at the start of the bring-up sequence or at its failure. -/
structure BlkPort where
  step : Nat := 0
  since : Nat := 0
  perst : Bool := true
  ring : List Nat := []
  lba : Tab Nat := []
  asked : List Nat := []
  tails : Tab Nat := []
  heads : Tab Nat := []
  deriving DecidableEq, Repr

/-- The storage tunnel: root ports, commands outstanding at the initiator end by TAG with the next TAG to try, and slots by
1,024 × port + slot, and the request tunnel the device end took last (R281). -/
structure Blk where
  ports : Tab BlkPort := []
  out : Tab BlkCmd := []
  nextTag : Nat := 0
  slots : Tab BlkSlot := []
  turn : Nat := 4095
  deriving DecidableEq, Repr

end Sys2Proof.Machine
end

