-- ==== Sys2Proof/Machine/RecDsp.lean ====
section
/-! DEFINITION. The records of the display heads (R288 to R310). -/

namespace Sys2Proof.Machine

/-- A staged tile (R293): where its record starts in the staging ring, and its place. -/
structure DspTile where
  at' : Nat
  x : Nat
  y : Nat
  w : Nat
  h : Nat
  deriving DecidableEq, Repr

/-- A set of tiles (R300): whether some were lost (R301), and whether it is being discarded, with the tiles discarded so far. -/
structure DspSet where
  tiles : List DspTile := []
  loss : Bool := false
  dropped : Nat := 0
  dropping : Bool := false
  deriving DecidableEq, Repr

/-- A listed commit (R299, R302): its COMMIT_ID, its own presentation and its effective one, in line time, and its set. -/
structure DspCommit where
  id : Nat
  own : Option Nat
  eff : Option Nat
  set : DspSet
  deriving DecidableEq, Repr

/-- One head: its commit list, the open set, the sets being applied at this frame start (R303), the staging ring's write
offset and bytes in use, the line time of the last frame start, the same while blanking lasts, whether the link was up at it
(R290) and whether the line buffer has been prefilled in it, the signature of the last frame and whether the frame was expected
to change (R305), a resynchronisation due in line-locked mode with the fraction carried (R304: in 10^-6 pixel clock; else R291:
of a ns, in units of 1/PCLK) and the pixel clocks the last line is lengthened by (R304), the line buffer, and the hub's uptime
at the last failed training (R289). -/
structure DspHead where
  commits : List DspCommit := []
  cur : DspSet := {}
  applying : List DspCommit := []
  head : Nat := 0
  used : Nat := 0
  start : Option Nat := none
  blank : Option Nat := none
  live : Bool := false
  filled : Bool := false
  sig : Option Nat := none
  expect : Bool := false
  relock : Bool := false
  frac : Nat := 0
  extra : Nat := 0
  lines : List Byte := []
  failAt : Option Nat := none
  deriving DecidableEq, Repr

/-- The display heads by number. -/
structure Dsp where
  heads : Tab DspHead := []
  deriving DecidableEq, Repr

end Sys2Proof.Machine
end

