-- ==== Sys2Proof/Machine/RecFbr.lean ====
section
/-! DEFINITION. The records of the field bridge: bridge requests, parked slots, CAN controllers and the signal map (R311 to
R340). -/

namespace Sys2Proof.Machine

/-- A bridge initiator (R315): its hub, and its source there, a ring index, 0x3FF for the line gadget or 0x3FE for firmware. -/
structure FbrInit where
  hub : Nat
  src : Nat
  deriving DecidableEq, Repr

/-- What a queued request does on the zone bus. -/
inductive FbrKind where
  | read | write | locked
  deriving DecidableEq, Repr

/-- Where the answer of a non-posted write goes: nowhere (it is answered already), to a command of this hub's own, or back in a
message (R317, R319). -/
inductive FbrBack where
  | none
  | own (w : Asker) (idx cookie : Nat) (nocomp : Bool)
  | msg (hub msgId : Nat)
  deriving DecidableEq, Repr

/-- A request in the bridge's request queue (R318): its initiator and carrier tunnel, its window with the chip select and the
zone address of its first cycle, the cycles it runs from byte offset `base`, what it writes, its parked slot, whether its write
was posted, where its answer goes, and whether its window was poisoned before its turn (R320). -/
structure FbrReq where
  who : FbrInit
  carrier : Nat
  kind : FbrKind
  win : Nat
  cs : Nat
  zone : Nat
  base : Nat
  count : Nat
  vals : List Nat := []
  mask : Nat := 0
  slot : Nat := 0
  posted : Bool := false
  back : FbrBack := .none
  poisoned : Bool := false
  deriving DecidableEq, Repr

/-- A parked slot in use (R321 to R323): its generation, the request it belongs to, the words read from byte offset `base`, the
park tick once ready, the ZSTATUS, whether it was prefetched, and the tick of its claim once it is a prefetch line. -/
structure Parked where
  gen : Nat
  who : FbrInit
  win : Nat
  off : Nat
  count : Nat
  base : Nat
  words : List Nat := []
  ready : Option Nat := none
  zst : Nat := 0
  prefetch : Bool := false
  claimed : Option Nat := none
  deriving DecidableEq, Repr

/-- An input of the signal map (R331): its source kind and selector (the pin, the select, 64 × controller + mailbox, or the
signal ID), its frame (R333), the line time of its arrival, the AGE a SIG input brought, its ERROR and HOLDOVER flags, the
entry index from which it still has to be matched, and the one entry a capture was handed to (R207). -/
structure MapIn where
  kind : Nat
  sel : Nat
  frame : List Byte
  time : Nat
  age : Nat := 0
  err : Bool := false
  hold : Bool := false
  next : Nat := 0
  only : Option Nat := none
  deriving DecidableEq, Repr

/-- A polled select: its last good word, and whether a failure since was passed to the signal map (R326). -/
structure FbrPoll where
  word : Nat
  failed : Bool := false
  deriving DecidableEq, Repr

/-- The field bridge: the request queue oldest first, parked slots and their generations, poisoned windows, samples of the ZINT
pins (newest first) with the line time of the last, polls and the selects whose poll has been issued but not run, per controller
the mailbox in transmission, frames latched and CAN_TX launches by 64 × controller + mailbox, the signal map's entries as four
words with held words, the value each entry last fired on, inputs waiting for a pass, the drop times of SIG packets by first
cell, and the tick of the last pass. -/
structure Fbr where
  reqs : List FbrReq := []
  parked : Tab Parked := []
  gens : Tab Nat := []
  poison : List Nat := []
  zint : List Nat := []
  zintAt : Option Nat := none
  polls : Tab FbrPoll := []
  pollDue : List Nat := []
  canNow : Tab Nat := []
  latched : Tab CanFrame := []
  launched : Tab (List Nat) := []
  sigMap : Tab (List Nat) := []
  sigHeld : Tab (Tab Nat) := []
  fired : Tab Int := []
  ins : List MapIn := []
  sigAt : Tab Nat := []
  passed : Option Nat := none
  deriving DecidableEq, Repr

end Sys2Proof.Machine
end

