-- ==== Sys2Proof/Machine/RecHif.lean ====
section
/-! DEFINITION. The records of the host port (R213 to R246). -/

namespace Sys2Proof.Machine

/-- A descriptor as fetched (R226). -/
structure Desc where
  op : Nat
  flags : Nat
  qt : Nat
  len : Nat
  addr : Nat
  param : Nat
  cookie : Nat
  deriving DecidableEq, Repr

/-- A descriptor fetched and not completed: its index in the ring, the descriptor, its fetch tick (R235), and whether the hub
has taken it up; `data` holds the bytes that came with a command of the line gadget (R366). -/
structure Job where
  idx : Nat
  d : Desc
  t0 : Nat
  sent : Bool := false
  data : List Byte := []
  deriving DecidableEq, Repr

/-- One ring (R221, R222): the last doorbell count taken, the fetched or written count, the jobs fetched and not completed,
bytes of a TX packet collected under CHAIN with the number of its descriptors and the status a failed one gives it, the bytes
of the packet at the head already delivered with its first cell, entries written and not reported, the tick of the last
message, and records an EVQ has lost. -/
structure HRing where
  taken : Nat := 0
  count : Nat := 0
  jobs : List Job := []
  chain : List Byte := []
  chained : Nat := 0
  chainBad : Nat := 0
  rxPos : Nat := 0
  rxHead : Nat := 0
  unreported : Nat := 0
  lastMsg : Nat := 0
  lost : Nat := 0
  deriving DecidableEq, Repr

/-- A request outstanding at this hub (R242): who asked, its descriptor's index, flags and cookie, its opcode, the hub named,
its buffer, its fetch tick, the hubs that answered, those a broadcast expects, the completions still to come, and whether its ring was disabled since, so that its
answer is discarded (R224). -/
structure Req where
  who : Asker
  idx : Nat
  d : Desc
  hub : Nat
  t0 : Nat
  expect : List Nat := []
  answered : List Nat := []
  left : Nat := 1
  dead : Bool := false
  deriving DecidableEq, Repr

/-- A section that is being sent in PLAN_LOAD messages (R138): its request, EPOCH, bytes, and the offset of the next fragment. -/
structure PlanSend where
  id : Nat
  epoch : Nat
  image : List Byte
  next : Nat := 0
  deriving DecidableEq, Repr

/-- The host port: rings, requests by MSG_ID and the last MSG_ID given, sections being sent to nodes, words of the doorbell page whose read is in flight and those
to be read once more (1,024 stands for the whole page), the page read of a tick boundary that is in flight, as the hub's up time and the tick at that boundary,
the ring whose turn came last (R233), PERST_N asserted, records collected for the next cell of a GADGET tunnel (R371), and the line
gadget's commands, its completions, the number of commands it has given, with the commands whose completions a bus reset discards (R366, R370). -/
structure Hif where
  rings : Tab HRing := []
  reqs : Tab Req := []
  msgId : Nat := 0
  loads : List PlanSend := []
  inFlight : List Nat := []
  again : List Nat := []
  pageAt : Option (Nat × Nat) := none
  turn : Nat := 1023
  perst : Bool := true
  gjobs : List Job := []
  gdone : List (List Byte) := []
  gcount : Nat := 0
  gdrop : List Nat := []
  gtun : Tab (List Byte) := []
  deriving DecidableEq, Repr

end Sys2Proof.Machine
end

