-- ==== Sys2Proof/Machine/RecLpw.lean ====
section
/-! DEFINITION. The records of line power and electronic fuses (R376 to R400). -/

namespace Sys2Proof.Machine

/-- One power channel beside its registers. `energy` is in pJ. Voltages are in mV, current in mA with outward positive, times in µs of the
always-on domain's own clock. `heldGnt` holds gauntlet words not yet committed (R398), and `innerSeen` and `outerSeen` say that the side has been in the
window since POR (R384). -/
structure Chan where
  i : Int := 0
  vi : Int := 0
  vo : Int := 0
  innerT : Nat := 0
  outerT : Nat := 0
  rampT : Nat := 0
  startT : Nat := 0
  limT : Option Nat := none
  farAtLim : Int := 0
  faultT : Nat := 0
  gntT : List Nat := []
  deadT : Nat := 0
  fwdT : Nat := 0
  ovT : Nat := 0
  onT : Nat := 0
  awayT : Nat := 0
  coolLeft : Nat := 0
  temp : Int := 0
  ntc : Int := 0
  ntcBad : Bool := false
  energy : Int := 0
  sumI : Int := 0
  sumVi : Int := 0
  sumVo : Int := 0
  sumP : Int := 0
  samples : Nat := 0
  heldGnt : Tab Nat := []
  setpoint : Nat := 5000
  oldSetpoint : Nat := 0
  pdoMa : Nat := 1500
  innerSeen : Bool := false
  outerSeen : Bool := false
  bandUs : List Nat := [0, 0, 0, 0]
  low : Option Int := none
  high : Option Int := none
  cycles : Nat := 0
  deriving DecidableEq, Repr

/-- Line power: channels PC0 to PC7. -/
structure Lpw where
  chans : Tab Chan := []
  deriving DecidableEq, Repr

end Sys2Proof.Machine
end

