-- ==== Sys2Proof/Machine/RecPlan.lean ====
section
/-! DEFINITION. The records of plans and epochs (R120 to R155). -/

namespace Sys2Proof.Machine

/-- A valid tunnel entry (R127), state fields included; `refs` holds bytes 8 to 15 as the section gives them, which the window shows.
Where a frame gains a VLAN tag as an add run takes it (R257), `carry` holds the bytes the tag has pushed out of the cells sent, and
`owed` the COLOUR and POISON of the last cell taken while its bytes are still to come in a cell of their own. -/
structure Tun where
  kind : Nat
  dir : Nat
  hops : Nat
  first : Nat
  last : Nat
  inq : Option Nat
  outq : Option Nat
  shaper : Option Nat
  policer : Option Nat
  bind : Nat
  nextSeq : Nat := 0
  expSeq : Nat := 0
  expValid : Bool := false
  refs : Nat := 0
  carry : List Byte := []
  owed : Option (Nat × Bool) := none
  deriving DecidableEq, Repr

/-- A SHAPERS element (R130); OVERHEAD in its 8-bit encoding. -/
structure ShpElem where
  index : Nat
  overhead : Nat
  enable : Bool
  rate : Nat
  burst : Nat
  deriving DecidableEq, Repr

/-- A gate-list entry (R132): GATES and INTERVAL in ns. -/
structure GateEntry where
  gates : Nat
  interval : Nat
  deriving DecidableEq, Repr

/-- A plan section as read from its image (R121, R122): gate runs as their 64-bit words (R124), the PAIRS bytes by index
8·p + k (R129), tunnel entries by number, POWER steps as (domain, step), gate lists by port, whether a GATELISTS record is present,
and CARVE units. -/
structure Sec where
  epoch : Nat := 0
  hubAddr : Nat := 0
  lastNode : Nat := 0
  hyper : Nat := 0
  ring : Bool := false
  head : Bool := false
  planId : Nat := 0
  crc : Nat := 0
  pairs : List Nat := []
  runs : List Nat := []
  tunnels : Tab Tun := []
  shapers : List ShpElem := []
  power : List (Nat × Nat) := []
  gates : List (Nat × List GateEntry) := []
  gateRec : Bool := false
  carve : Option Nat := none
  deriving DecidableEq, Repr

/-- What the hub keeps of the epoch a switch at `at'` left, until the end of tick S + 15 (R114): its epoch, plan, bank,
tunnel table, pair elements, shaper configuration, carve-out and plan steps. -/
structure PrevEpoch where
  at' : Nat
  epoch : Nat
  transparent : Bool
  reason : Nat
  bank : Nat
  tunnels : Tab Tun
  pairs : List Nat
  carve : Nat
  power : List (Nat × Nat)
  hyper : Nat
  deriving DecidableEq, Repr

/-- An armed switch (R141): its epoch, its tick, whether it is a rejoin (R147), for ARMED_T the reason of R145, and the tick of its
acceptance, which PLAN_ARM_ACK gives (R138). -/
structure Armed where
  epoch : Nat
  at' : Nat
  rejoin : Bool := false
  reason : Nat := 0
  acceptedAt : Nat := 0
  deriving DecidableEq, Repr

/-- Plans: sections by physical bank, the tunnel table in force, the load in progress (its image, TOTAL, EPOCH and the tick of its last fragment), the PAIRS elements in force since the first switch (`live`, none before it, R44), the tick the local checks passed, the reason a section became invalid (0 while valid), whether it has been READY, received digests
by port with the bodies of HOP_DIGEST, ports matched, the arm, the transparent entry due at the next boundary as
(reason, epoch), the mitten's copy of PAIRS with its epoch, what is kept for a revert, and newer epochs seen per port as
(epoch, brims). `fragTick` is the tick of the last PLAN_STATUS sent for a discarded fragment (R139). -/
structure Plan where
  banks : Tab Sec := []
  tunnels : Tab Tun := []
  live : Option (List Nat) := none
  image : List Byte := []
  total : Nat := 0
  loadEpoch : Nat := 0
  fragAt : Nat := 0
  checkAt : Nat := 0
  invalid : Nat := 0
  ready : Bool := false
  digests : Tab (List Byte) := []
  matched : List Nat := []
  armed : Option Armed := none
  entryDue : Option (Nat × Nat) := none
  pairsCopy : Option (Nat × List Nat) := none
  prev : Option PrevEpoch := none
  newer : Tab (Nat × Nat) := []
  fragTick : Option Nat := none
  flushed : Nat := 0
  switchOwed : Bool := false
  pendUnits : Nat := 0
  needs : List Nat := []
  deriving DecidableEq, Repr

end Sys2Proof.Machine
end

