-- ==== Sys2Proof/Machine/RecNet.lean ====
section
/-! DEFINITION. The records of network tunnels (R247 to R272). -/

namespace Sys2Proof.Machine

/-- A shaper in force (R258): its configuration and its signed bucket. -/
structure Shaper where
  enable : Bool := false
  overhead : Nat := 0
  rate : Nat := 0
  burst : Nat := 0
  bucket : Int := 0
  deriving DecidableEq, Repr

/-- A policer in force (R254, R271): its configuration words, committed, and its buckets. -/
structure Policer where
  ctl : Nat := 0
  cir : Nat := 0
  cbs : Nat := 0
  pir : Nat := 0
  pbs : Nat := 0
  tc : Nat := 0
  tp : Nat := 0
  deriving DecidableEq, Repr

/-- A port's gate list and transmitter (R260 to R263): the operating list, its entry and when it began, the pending register
list with its take-over tick, until when a frame and its gap are being sent, and what its PTP role keeps (R268): the timestamps
of the last delay request received, the last Sync sent and the last Pdelay_Resp sent, which of them an answer or a Follow_Up is owed to, and
the hub's up time at the last Sync and the last Announce. -/
structure NetPort where
  oper : List GateEntry := []
  pos : Nat := 0
  posAt : Nat := 0
  pend : Option (List GateEntry × Nat) := none
  busy : Nat := 0
  reqStamp : Nat := 0
  syncStamp : Nat := 0
  respStamp : Nat := 0
  reqOpen : Bool := false
  syncOpen : Bool := false
  respOpen : Bool := false
  syncAt : Option Nat := none
  annAt : Option Nat := none
  deriving DecidableEq, Repr

/-- Frames as the network block drives them onto a port (R248) are in `Out`; this holds shapers, policers, policers committed
and not yet in force (R271), flow entries as their eight words, held flow words, and ports. A revert needs the lists and shapers in force before the last switch. -/
structure Net where
  shapers : Tab Shaper := []
  policers : Tab Policer := []
  polNext : Tab Policer := []
  flows : Tab (List Nat) := []
  heldFlow : Tab (Tab Nat) := []
  heldPol : Tab (Tab Nat) := []
  ports : Tab NetPort := []
  prevShp : Tab Shaper := []
  prevGl : Tab (List GateEntry × Bool) := []
  deriving DecidableEq, Repr

end Sys2Proof.Machine
end

