-- ==== Sys2Proof/Machine/RecOut.lean ====
section
/-! DEFINITION. What the hub drives outward: frames, cells, messages, host writes and reads it answers. The model keeps
them as a record in Hub so that a claim can say what a command sent. -/

namespace Sys2Proof.Machine

/-- The flags of the 5 V PDO (R348). -/
structure PdoFlags where
  dualRolePower : Bool := false
  usbSuspend : Bool := false
  unconstrained : Bool := true
  usbComm : Bool
  dualRoleData : Bool := false
  unchunked : Bool := false
  epr : Bool := false
  deriving DecidableEq, Repr

/-- A PD message the hub sends (R347): capabilities as PDOs of voltage in mV and current in 10 mA, and a structured VDM by the
step of R358 (0 Discover Identity on SOP'). -/
inductive PdMsg where
  | sourceCaps (pdos : List (Nat × Nat)) (flags : PdoFlags)
  | accept | reject | wait | notSupported | psRdy | softReset | hardReset | vconnSwap
  | vdm (step : Nat)
  | exitMode
  | nak
  deriving DecidableEq, Repr

/-- A handshake on a bulk endpoint (R367). -/
inductive Handshake where
  | ack | nyet | nak | stall
  deriving DecidableEq, Repr

/-- One thing the hub drives outward. Log entry 7 (DESIGN CHOICE). -/
inductive Out where
  /-- The answer to a read at a BAR0 offset (R217). -/
  | readData (off : Nat) (val : Nat)
  /-- A request to BAR0 or BAR2 at `off` answered as unsupported (R443). -/
  | unsupported (off : Nat)
  /-- A HELLO or ACK frame on a port's outbound fixed pair (R65). -/
  | lowSpeed (port : Nat) (frame : List Byte)
  /-- The lock pattern of the fixed pairs, or of a pair in its knuckle (R51, R64). -/
  | lockPattern (port : Nat) (pair : Nat)
  /-- The generator of a loopback drives pattern `pat` of R70 on a pair (R61). -/
  | loopPattern (port : Nat) (pair : Nat) (pat : Nat)
  /-- What a MODE 3 loopback received in a slot leaves again on an outbound pair (R61). -/
  | loopBack (port : Nat) (pair : Nat) (slot : Nat) (bytes : List Byte)
  /-- A read of one ID chip on CSUP: a reset, the command byte `cmd` and 256 bits from the chip it addresses (R36). -/
  | readIdChip (port : Nat) (cmd : Nat)
  /-- A cell sent in a slot of an outbound pair (R75, R92). -/
  | cell (port : Nat) (pair : Nat) (slot : Nat) (bytes : List Byte)
  /-- The brim of an outbound fixed pair: its sync frame and its management and time cells (R86). -/
  | brim (port : Nat) (sync : List Byte) (cells : List (List Byte))
  /-- A write to host memory (R231). -/
  | hostWrite (addr : Nat) (bytes : List Byte)
  /-- A read of host memory issued: address and length (R233, R234). -/
  | hostRead (addr : Nat) (len : Nat)
  /-- CLKREQ_N asserted or released (R214). -/
  | clkreqN (asserted : Bool)
  /-- The MSI-X message of a vector: its address and data (R236). -/
  | msix (addr : Nat) (data : Nat)
  /-- A BAR2 read's answer, and whether its completion is poisoned (R218). -/
  | bar2 (bytes : List Byte) (poisoned : Bool)
  /-- A TIO pin's physical drive: high, low or off (R195). -/
  | tio (pin : Nat) (level : Option Bool)
  /-- A frame sent on an Ethernet port, DA to FCS, with the line time of its first preamble bit (R248). -/
  | ethFrame (port : Nat) (at' : Nat) (frame : List Byte)
  /-- A PD message on a drop port (R347). -/
  | pd (port : Nat) (msg : PdMsg)
  /-- IRQ_HPD to a display head: a 1 ms low pulse of its HPD (R360). -/
  | irqHpd (head : Nat)
  /-- A data stage, or a bulk IN transfer, of the line gadget: its endpoint and bytes (R366, R368). -/
  | gadgetIn (ep : Nat) (bytes : List Byte)
  /-- The gadget's answer to an OUT or a PING on a bulk endpoint, or its STALL of an IN (R367). -/
  | handshake (ep : Nat) (h : Handshake)
  /-- A STALL on the gadget's EP0 (R368, R369). -/
  | stall
  /-- Resume or K driven on a port of the internal hub (R364). -/
  | usbResume (port : Nat)
  /-- A write of an SSD's configuration space, or of a controller register: an offset and the value (R274). -/
  | ssdConfig (port : Nat) (off : Nat) (val : Nat)
  | nvmeReg (port : Nat) (off : Nat) (val : Nat)
  /-- An entry placed in a submission queue of an SSD, with the queue (0 admin) and the 64 bytes (R275, R277). -/
  | nvmeEntry (port : Nat) (queue : Nat) (bytes : List Byte)
  /-- A doorbell write to an SSD: SQ tail or CQ head of a queue (R277). -/
  | nvmeDoorbell (port : Nat) (queue : Nat) (cq : Bool) (value : Nat)
  /-- The answer to an SSD's bus access: the bytes read, or none for Unsupported Request (R276). -/
  | ssdAnswer (port : Nat) (bytes : Option (List Byte))
  /-- PERST# of a root port asserted or released (R274). -/
  | rootPerst (port : Nat) (asserted : Bool)
  /-- The pixels of one frame leaving a head's pin, lines 0 to VACT - 1, as R, G, B bytes (R303). -/
  | scanFrame (head : Nat) (rgb : List Byte)
  /-- A zone-bus cycle: its chip select, zone address, the word written (none for a read), and ZLOCK_N held low (R312, R324). -/
  | zoneCycle (cs : Nat) (addr : Nat) (write : Option Nat) (lock : Bool)
  /-- A CAN frame sent without error, with the line time of its start-of-frame bit (R328). -/
  | canFrame (ctrl : Nat) (frame : CanFrame) (sof : Nat)
  /-- FAULT_N asserted or released (R23, R414, R460). -/
  | faultN (asserted : Bool)
  /-- RAIL_EN of a rail asserted or deasserted (R477). -/
  | railEn (rail : Nat) (on : Bool)
  /-- VOUT_COMMAND written over PMBus with a voltage in mV (R479). -/
  | pmbus (mv : Nat)
  deriving DecidableEq, Repr

end Sys2Proof.Machine
end

