-- ==== Sys2Proof/Machine/RecPool.lean ====
section
/-! DEFINITION. The records of the cell pool and its queues ("Cell pool and queues", R156 to R180, R509). -/

namespace Sys2Proof.Machine

/-- A cell held by a queue: its index in line memory and its link word without NEXT, which list order gives (R157). -/
structure QCell where
  idx : Nat
  lenm1 : Nat
  f : Bool
  l : Bool
  gap : Bool
  poison : Bool
  colour : Nat
  deriving DecidableEq, Repr

/-- The pending gap state of a STREAM queue (R167, R168): nothing is pending while `cause` is 0. -/
structure GapPend where
  pkts : Nat := 0
  cells : Nat := 0
  firstTick : Nat := 0
  cause : Nat := 0
  deriving DecidableEq, Repr

/-- What a queue is discarding. -/
inductive Skip where
  /-- Nothing. -/
  | none
  /-- The rest of a refused, ignored or flushed packet, up to and including its L cell (R167, R170, R509). -/
  | rest
  /-- Every cell up to the next F (R158, R171). -/
  | untilF
  deriving DecidableEq, Repr

/-- One queue: its complete packets oldest first, its open packet, its flags (R158, R167 to R172), and cells granted to it
outside any packet: the SSD's queues in RINGQ (R276), read data cells of slots and write data in use (R281). Log entry 51 (DEDUCED). -/
structure Queue where
  pkts : List (List QCell) := []
  part : List QCell := []
  granted : List QCell := []
  isOpen : Bool := false
  skip : Skip := .none
  full : Bool := false
  overrun : Bool := false
  gap : GapPend := {}
  prod : Option Who := none
  prodImplicit : Bool := false
  cons : Option Who := none
  deriving DecidableEq, Repr

/-- A queue's snapshot of the latest tick boundary (R176). -/
structure QSnap where
  occ : Nat := 0
  pkts : Nat := 0
  full : Bool := false
  gap : GapPend := {}
  deriving DecidableEq, Repr

/-- A register read port (R173): the bound queue, the next word of its oldest packet, and the held high half. -/
structure ReadPort where
  queue : Option Nat := none
  pos : Nat := 0
  high : Option Nat := none
  deriving DecidableEq, Repr

/-- A claim in progress (R174): cells `lo` to `hi - 1`, the tick of its switch, and its flush deadline. -/
structure Claim where
  lo : Nat
  hi : Nat
  start : Nat
  deadline : Nat
  deriving DecidableEq, Repr

/-- The cell pool: queues by index, read ports, the carve-out in force and the one R164 counts with, the claim, ranges of
cells withheld from allocation (R427, R436, R464), cells
no link reaches any more until the audit (R420), held profile MINs (R179) and snapshots (R176). -/
structure Pool where
  queues : Tab Queue := []
  readPorts : Tab ReadPort := []
  carve : Nat := 0
  carveEff : Nat := 0
  claim : Option Claim := none
  withheld : List (Nat × Nat) := []
  lost : List Nat := []
  heldMin : Tab Nat := []
  snaps : Tab QSnap := []
  deriving DecidableEq, Repr

end Sys2Proof.Machine
end

