-- ==== Sys2Proof/Machine/RecPwr.lean ====
section
/-! DEFINITION. The records of power domains and the ladder (R401 to R419). -/

namespace Sys2Proof.Machine

/-- One switched domain beside its registers: the entries armed by the control and management requesters (R406), the step an
entry goes to, the step and holder of an entry that follows the move under way (R407), what an exit came from and why, its start as uptime and
as the tick of the wake record (R415), the uptime of a wake timeout from which retries run (R412), a wake that met an entry (R407), the scheduled
wake as line time (R409), the fields saved in the mitten (R405), and the tick and step of the latest grant (R408). -/
structure Dom where
  armedCtl : Option Nat := none
  armedMgt : Option Nat := none
  target : Nat := 0
  next : Option (Nat × Nat) := none
  src : Nat := 0
  from' : Nat := 0
  exitAt : Nat := 0
  exitTick : Nat := 0
  failAt : Nat := 0
  wakeMet : Option Nat := none
  sched : Option Nat := none
  saved : Option (Tab Nat) := none
  grant : Option (Nat × Nat) := none
  refusedSwitch : Option Nat := none
  deriving DecidableEq, Repr

/-- A trunk lane's failure state: retries used, FAILED for the epoch, and the uptime of its wake timeout and the tick its wake started in
(R412, R415). -/
structure LaneFail where
  retries : Nat := 0
  failed : Bool := false
  failAt : Nat := 0
  startTick : Nat := 0
  deriving DecidableEq, Repr

/-- Failsafe: whether the hub is in it, when it entered, how often the crystal has been tried, and whether PWR_XTAL_FAIL is still to be raised
(R414). -/
structure Failsafe where
  active : Bool := false
  since : Nat := 0
  tries : Nat := 0
  owed : Bool := false
  seconds : Nat := 0
  deriving DecidableEq, Repr

/-- Power domains by index, lane failures by 8·d + pair, failsafe, the uptime at which SVC reached L4, from which the AON park timer runs,
and the uptime from which the hub last waited for its crystal (R414). -/
structure Pwr where
  doms : Tab Dom := []
  laneFails : Tab LaneFail := []
  failsafe : Failsafe := {}
  parkAt : Nat := 0
  xtalFrom : Option Nat := some 0
  deriving DecidableEq, Repr

end Sys2Proof.Machine
end

