-- ==== Sys2Proof/Machine/RecRel.lean ====
section
/-! DEFINITION. The records of memory integrity, ageing and maintenance (R420 to R441). -/

namespace Sys2Proof.Machine

/-- A resource a maintenance lock is held on (R434). -/
inductive LockOn where
  | pair (n : Nat)
  | bank (b : Nat)
  | row (b r : Nat)
  | dom (d : Nat)
  | chan (c : Nat)
  | fuses
  deriving DecidableEq, Repr

/-- A running maintenance activity (R434): its ID with TYPE in [15:12], its slot, its locks, the target as requested, the uptime
it started at, and whether a BIST has passed its fence wait. Log entry 147 (DEDUCED). -/
structure Act where
  id : Nat
  slot : Nat
  locks : List LockOn
  target : Nat
  at' : Nat
  testing : Bool := false
  deriving DecidableEq, Repr

/-- State of "Memory integrity, ageing and maintenance" beside its registers. `flips` holds the XOR mask with which a
word of a memory is stored, keyed by 2^23 × memory ID + word index (R425). Activities running, the last serial, slots that
finished, oldest first (R434, R437), and eye maps by slot. Fuses: field repairs as (bank, row, spare) (R426). Rows withheld
as (bank, row) (R427, R436). Routine scans under way by pair, with their points, the ticks they started in and of their last points, and those of the last scans and sensor
samples (R428, R429). The mitten's ageing record: the last DELTA of each sensor (R428). Staging: the tick the AVS setpoint and each assist level were staged in, the tick from which a change waits,
and the advices given as (reason, target) (R431 to R433). Corrections of the last 24 h by memory, the VDD_CORE droops of the current
hour as (hour, count), and the hours that exceeded the limit (R431). -/
structure Rel where
  flips : Tab Nat := []
  acts : List Act := []
  serial : Nat := 0
  finished : List Nat := []
  eyeMaps : Tab (List Nat) := []
  repairs : List (Nat × Nat × Nat) := []
  outRows : List (Nat × Nat) := []
  scans : Tab (List Bool) := []
  scanFrom : Tab Nat := []
  scanPt : Tab Nat := []
  scanAt : Tab Nat := []
  roAt : Tab Nat := []
  roRec : Tab Nat := []
  avsAt : Option Nat := none
  assistAt : Tab Nat := []
  waitFrom : Option Nat := none
  advised : List (Nat × Nat) := []
  ceTimes : Tab (List Nat) := []
  droopHour : Nat × Nat := (0, 0)
  droopHours : Nat := 0
  deriving DecidableEq, Repr

/-- The maintenance locks held. -/
def Rel.locks (r : Rel) : List LockOn := r.acts.flatMap (fun a => a.locks)

/-- What a device reset leaves: the fuses and the mitten's records. Log entry 158 (DEDUCED). -/
def Rel.afterReset (r : Rel) : Rel := { repairs := r.repairs, roRec := r.roRec, droopHour := r.droopHour, droopHours := r.droopHours }

/-- What a power-on leaves: the fuses. -/
def Rel.afterPower (r : Rel) : Rel := { repairs := r.repairs }

end Sys2Proof.Machine
end

