-- ==== Sys2Proof/Machine/RecRing.lean ====
section
/-! DEFINITION. The records of cells, hops, the management channel and the ring (R74 to R119). -/

namespace Sys2Proof.Machine

/-- A cell in a hop buffer (R96): its switch slot as 1,024 · tick + slot, its 64-bit header and payload as decoded, and whether it was
uncorrectable. -/
structure HopCell where
  j : Nat
  hdr : Nat
  pay : List Byte
  bad : Bool := false
  deriving DecidableEq, Repr

/-- The wire header of a management or time cell held in a MGMT queue, the port it came by and the tick of its receipt. Log entry 30 (DESIGN CHOICE). -/
structure MgmtHdr where
  hdr : Nat
  port : Nat
  tick : Nat
  deriving DecidableEq, Repr

/-- The counter state of a source (R100): the highest COUNT accepted, the values accepted within 63 below it, and the tick of
the last acceptance. -/
structure SrcState where
  top : Nat
  seen : List Nat
  last : Nat
  deriving DecidableEq, Repr

/-- A port's sync-frame state: a valid frame was received in this brim, its receive time and fraction, consecutive brims with
valid frames (R64 step 8), consecutive failed brims (R104), the RX_OK of the frame, and the cells its MCELLS says are still to be
read in this brim (R88). -/
structure SyncState where
  got : Bool := false
  rxTime : Nat := 0
  rxFrac : Nat := 0
  good : Nat := 0
  fails : Nat := 0
  rxOk : Bool := false
  cells : Nat := 0
  deriving DecidableEq, Repr

/-- The break known (R104 to R111): the broken hop, its detection tick, its reporter and the tick of entry into plan B. -/
structure Break where
  hop : Nat
  detect : Nat
  reporter : Nat
  entry : Nat
  deriving DecidableEq, Repr

/-- An alarm this hub sends (R108): its outbound port and copies sent. -/
structure OwnAlarm where
  port : Nat
  brkPort : Nat
  hop : Nat
  detect : Nat
  epoch : Nat
  copy : Nat
  deriving DecidableEq, Repr

/-- A relay due at the head (R108): the outbound port, the alarm's header and payload and the tick it was taken in. -/
structure Relay where
  port : Nat
  hdr : Nat
  pay : List Byte
  taken : Nat
  deriving DecidableEq, Repr

/-- Cells, hops and the ring: hop buffers and switch slots that passed without their cell, by 8·p + k of the inbound pair;
pairs without tick framing and consecutive brims in which none was found; headers of queued management cells by cell index;
counter state by source; the hub's own COUNT and SEQ by tunnel; the port on which the head was last heard; sync state by
port; the break known and the broken hops TRK_RING_ALARM is out for (R116); own alarms, relays, and alarms already relayed as (reporter, D); alarm cells taken at an inbound slot
by port, and cells staged for an outbound alarm slot by port. -/
structure Ring where
  hop : Tab (List HopCell) := []
  late : Tab (List Nat) := []
  unframed : List Nat := []
  framingMiss : Tab Nat := []
  hdrs : Tab MgmtHdr := []
  srcs : Tab SrcState := []
  count : Nat := 0
  seqs : Tab Nat := []
  headPort : Option Nat := none
  sync : Tab SyncState := []
  brk : Option Break := none
  alarmed : List Nat := []
  own : List OwnAlarm := []
  relays : List Relay := []
  relayed : List (Nat × Nat) := []
  alarmIn : Tab HopCell := []
  alarmOut : Tab HopCell := []
  deriving DecidableEq, Repr

end Sys2Proof.Machine
end

