-- ==== Sys2Proof/Machine/RecSec.lean ====
section
/-! DEFINITION. The records of start-up, reset, life-cycle, keys, debug and dump (R442 to R467, R477, R478). -/

namespace Sys2Proof.Machine

/-- A fused key-hash slot (R453): the SHA-256 of its public key, its USE bits (0 firmware, 1 board, 2 debug), revoked. -/
structure KHash where
  hash : List Byte
  use : Nat
  revoked : Bool := false
  deriving DecidableEq, Repr

/-- The fatal path under way (R460, R462): its cause, the fatal event's code and arguments, the tick and line time of the
cause, a second cause since, and the targets that failed (1 the ring, 2 the flash). -/
structure Fatal where
  cause : Nat
  code : Nat
  args : Nat
  tick : Nat
  since : Nat
  second : Bool := false
  failed : List Nat := []
  deriving DecidableEq, Repr

/-- A reset requested and not yet executed (R445): its class, its DETAIL, and the tick from which it is due; class 6 has the
domain in `detail`. -/
structure ResetDue where
  cls : Nat
  detail : Nat
  at' : Nat
  deriving DecidableEq, Repr

/-- Start-up, security and dump. `keys` by 8 × kind + KEY_ID (R456); SEC_NO_KEY raised in this boot (R458); the stage of R442
reached: 0 always-on domain running, 1 rails in sequence, 2 every rail up, 3 boot ROM, 4 firmware, 5 board configuration applied,
6 service, 7 held; RST_N low; FAULT_N asserted; STRAP_INVALID recorded; the always-on domain stopped (R377). Fuses: key-hash slots and
the anti-rollback counter. Boot: the slot named for the next boot, the key-hash slot of the running image, the flash by byte
address where it is not erased, the running flash operation as (OP, address). Board configuration: subsystem IDs, what it gives for the drop ports and BAR2, and firmware
parameters. Key blobs: both copies as the keys they hold with the life-cycle state they were wrapped under, and whether they
await a rewrite. Rails (R477, R448): rails enabled, uptimes of failures, of the next attempt and of the last rail enabled. The watchdog's
last kick, and the uptime of its stage 1. Resets due. Debug: the challenge with its line time, the granted scope, wrong proofs in a row, lockout and its start. Dump: the
fatal path, the flash area kept erased and the one to use next, GEN_DUMP_TAKEN owed. Log entries 3 (DESIGN CHOICE), 59 (DESIGN CHOICE). -/
structure SecRec where
  keys : Tab (List Byte) := []
  noKeyRaised : Bool := false
  stage : Nat := 0
  inReset : Bool := false
  faultN : Bool := false
  strapInvalid : Bool := false
  aonOff : Bool := false
  khash : Tab KHash := []
  svn : Nat := 0
  nextSlot : Option Nat := none
  runKey : Option Nat := none
  flash : Tab Byte := []
  flashOp : Option (Nat × Nat) := none
  subsys : Nat := 0
  boardTcp : Option (List Byte) := none
  boardBar2 : Bool := false
  params : List Byte := []
  blob0 : Option (Nat × Tab (List Byte)) := none
  blob1 : Option (Nat × Tab (List Byte)) := none
  keysDirty : Bool := false
  railUp : Nat := 0
  railFails : List Nat := []
  railWait : Option Nat := none
  railAt : Nat := 0
  lastKick : Nat := 0
  stage1 : Option Nat := none
  dues : List ResetDue := []
  chal : Option (List Byte × Nat) := none
  dbgScope : Nat := 0
  dbgFails : Nat := 0
  dbgLockout : Bool := false
  dbgLockAt : Nat := 0
  fatal : Option Fatal := none
  areaReady : Bool := false
  nextArea : Nat := 0
  dumpOwed : Bool := false
  deriving DecidableEq, Repr

end Sys2Proof.Machine
end

