-- ==== Sys2Proof/Machine/RecTcp.lean ====
section
/-! DEFINITION. The records of the drop ports, the internal USB hub and the line gadget (R341 to R375). -/

namespace Sys2Proof.Machine

/-- When the waits of a drop port began, as uptimes: the CC pins' last change in ATTACH_WAIT or entry into ERROR_RECOVERY, entry
into ATTACHED, Rd absent, Accept or the start of a hard reset, the last Source_Capabilities, a re-offer downward, a stage of a
VCONN swap, the VDM that is out, and the last change of HPD to the head. -/
structure TcpTimes where
  cc : Nat := 0
  att : Nat := 0
  absent : Nat := 0
  move : Nat := 0
  caps : Nat := 0
  offer : Nat := 0
  swap : Nat := 0
  vdm : Nat := 0
  hpd : Nat := 0
  deriving DecidableEq, Repr

/-- One drop port beside its registers: the CC pins as last classified, Rd absent from the CC (R345), the Rp presented (0 none,
1 1.5 A, 2 3.0 A; R344), the setpoint pins DnVSEL (R342), the mux (0 safe, 1 C, 2 D, 3 E; R359), VBUS requested on, the exact
grant in 0.5 mW, the last Source_Capabilities (PDOs as voltage in mV and current in 10 mA) and the grant they were made from
with whether they still need sending or an answer (R347, R350), Capability Mismatch of the last Request, a transition under
way (voltage in mV, operating current, PDO maximum; R352) and whether it has started, revision 2.0 with the partner, hard
resets in a row without a contract and whether the 0.66 s cycle runs (R353), PD stopped, a VCONN swap (0 give, 1 take) with
the stage reached (R355), the wait after SinkTxNG and a swap still wanted after one (R356), attempts left of cable discovery
(R354), and Alt Mode entry: its next step, whether the VDM is out, failed answers in a row, the pin assignment chosen HPD
as the partner gave it (R358 to R360), an IRQ_HPD pulse not yet read, and when its waits began. -/
structure TcpPort where
  cc1 : Cc := .open'
  cc2 : Cc := .open'
  absent : Bool := false
  accessory : Bool := false
  rp : Nat := 0
  vsel : Nat := 0
  mux : Nat := 0
  vbusReq : Bool := false
  grant : Nat := 0
  caps : List (Nat × Nat) := []
  capsGrant : Option Nat := none
  capsTries : Nat := 0
  capsAcked : Bool := false
  reoffer : Bool := false
  mismatch : Bool := false
  moving : Option (Nat × Nat × Nat) := none
  started : Bool := false
  rev2 : Bool := false
  resets : Nat := 0
  inReset : Bool := false
  pdOff : Bool := false
  swap : Option (Nat × Nat) := none
  swapWait : Bool := false
  swapWant : Bool := false
  disc : Option Nat := none
  dpStep : Nat := 0
  dpSent : Bool := false
  dpBad : Nat := 0
  dpPin : Nat := 0
  dpHpd : Bool := false
  irq : Bool := false
  at' : TcpTimes := {}
  deriving DecidableEq, Repr

/-- One port of the internal hub: its enable-change and suspend-change bits (R363, R364). -/
structure UsbPort where
  cEnable : Bool := false
  cSuspend : Bool := false
  deriving DecidableEq, Repr

/-- The line gadget (R365 to R371): its filter, buffered event records, the challenge given out with its line time, wrong
proofs in a row, a lockout in force with the uptime of its start, the unlocked session's KEY_ID, the uptime of the last command,
K being driven and whether this suspend was merged, the OUT transfers that wait in EP1's packet buffers (R367), and the bulk
endpoints whose halt feature is set. -/
structure Gadget where
  minSev : Nat := 0
  remote : Bool := true
  localRecs : Bool := true
  blocks : Nat := 0xFFFF
  events : List (EvRec × Bool) := []
  challenge : Option (List Byte × Nat) := none
  fails : Nat := 0
  lockout : Bool := false
  lockAt : Nat := 0
  keyId : Nat := 0
  cmdAt : Nat := 0
  driving : Bool := false
  merged : Bool := false
  bufs : List (List Byte) := []
  halts : List Nat := []
  deriving DecidableEq, Repr

/-- Drop ports by number, the hub ports by number from 0, the predicted line time of the next SOF (R362), the uptime of the last
activity on the upstream bus, VBUS of the board upstream face, and the line gadget. -/
structure Tcp where
  ports : Tab TcpPort := []
  hub : Tab UsbPort := []
  sofAt : Option Nat := none
  busAt : Nat := 0
  upb : Bool := false
  gadget : Gadget := {}
  deriving DecidableEq, Repr

end Sys2Proof.Machine
end

