-- ==== Sys2Proof/Machine/RecTime.lean ====
section
/-! DEFINITION. The records of line time, launches and captures (R181 to R212). Timestamps are in units of 2^-16 ns. -/

namespace Sys2Proof.Machine

/-- One received sync frame's timestamps: its tick, the peer's TX_TIME, this hub's receive time, and whether it carried RX_OK
(R188). -/
structure RxStamp where
  tick : Nat
  t1 : Nat
  t2 : Nat
  ok : Bool
  deriving DecidableEq, Repr

/-- One sync frame this hub sent: its tick, its TX_TIME and its RX_OK (R188). -/
structure TxStamp where
  tick : Nat
  t3 : Nat
  ok : Bool
  deriving DecidableEq, Repr

/-- Time measurement at one trunk port (R188): the last frames received and sent, the last 64 accepted raw delays with their
number, the delay, the last θ and whether there is one, what the peer offers, and consecutive ticks in which it offered at
least 2 hops fewer than the path (R189). -/
structure TimePort where
  rxs : List RxStamp := []
  txs : List TxStamp := []
  raws : List Int := []
  taken : Nat := 0
  delay : Int := 0
  theta : Int := 0
  measured : Bool := false
  hops : Nat := 0xFFFF
  gmState : Nat := 2
  better : Nat := 0
  deriving DecidableEq, Repr

/-- A launch as admitted (R197): its record, its source, its planned action time F, and how far it has gone; `dead` once its pin
left MODE 1 after its handover (R195). -/
structure Launch where
  time : Nat
  dst : Nat
  action : Nat
  flags : Nat
  target : Nat
  arg : Nat
  cookie : Nat
  src : LaunchSrc
  late : Bool := false
  f : Nat := 0
  handed : Bool := false
  fired : Bool := false
  dead : Bool := false
  order : Nat := 0
  deriving DecidableEq, Repr

/-- What the launch engine passes to the service core (R203, R204): a launch's completion, or the answer to a cancel;
`silent` marks an OK under QUIET. -/
structure LaunchDone where
  cancel : Bool := false
  status : Nat
  slot : Nat
  cookie : Nat
  f : Nat
  src : LaunchSrc
  silent : Bool := false
  deriving DecidableEq, Repr

/-- A launch record (its 32 bytes, most significant byte first) or a cancel (SLOT and COOKIE) that the service core has still to
post into queue 6 (R199), with the first tick in whose loop it does. -/
structure LaunchPost where
  src : LaunchSrc
  bytes : List Byte
  cancel : Bool
  at' : Nat
  deriving DecidableEq, Repr

/-- A TIO pin: the level it drives and the line time of the last launch edge on it, the level of its ball, the time of the last captured
edge, a missed edge, and its record count (R195, R206). -/
structure TioPin where
  level : Bool := false
  edgeAt : Option Nat := none
  ball : Bool := false
  lastEdge : Option Nat := none
  missed : Bool := false
  seq : Nat := 0
  deriving DecidableEq, Repr

/-- Line time's servo state, the head's last announcement and the latest one a node accepted (`ann`, R193), the launch table by
slot, the completions the launch engine holds, and the TIO pins. -/
structure Time where
  ports : Tab TimePort := []
  lockRun : Nat := 0
  stepRun : Nat := 0
  lastMeas : Nat := 0
  holdSince : Nat := 0
  started : Bool := false
  srcLocked : Bool := false
  clock : Nat := 0
  annSeq : Nat := 0
  annLast : List Byte := []
  annTick : Option Nat := none
  ann : List Byte := []
  launches : Tab Launch := []
  toPost : List LaunchPost := []
  order : Nat := 0
  held : List LaunchDone := []
  pins : Tab TioPin := []
  deriving DecidableEq, Repr

end Sys2Proof.Machine
end

