-- ==== Sys2Proof/Machine/RecTrunk.lean ====
section
/-! DEFINITION. The records of trunk pairs and cable (R35 to R73). -/

namespace Sys2Proof.Machine

/-- The band of a CFG pin (R38); `unknown` until a sample falls in a band. -/
inductive Band where
  | unknown | low | dd | sense | high
  deriving DecidableEq, Repr

/-- What a far hub said of itself in HELLO (R65). -/
structure FarHello where
  hubId : Nat
  addr : Nat
  port : Nat
  head : Bool
  csupOwner : Bool
  rows : List Nat
  deriving DecidableEq, Repr

/-- One trunk port: CFG bands, whether its sense pin is out of band by the samples (`leaving`) and by the comparator
(`departed`, R38), the bands it became MISCABLED with, the CSUP fault latch, the cable record in force (R37; empty when the
cable is taken as LT-15 without one) and whether this end read it (R65), bring-up (R64) with the HELLO it sent, the line time
it started, whether TRK_LINK_FAIL is out for it and the retries of its fixed pairs (R67), and the turnable pairs still under
test (R66). -/
structure TrunkPort where
  band1 : Band := .unknown
  band2 : Band := .unknown
  leaving : Bool := false
  departed : Bool := false
  misBands : Band × Band := (.unknown, .unknown)
  csupFault : Bool := false
  recDone : Bool := false
  record : List Byte := []
  recOwn : Bool := false
  hello : List Byte := []
  startAt : Nat := 0
  failRaised : Bool := false
  tries : Nat := 0
  step : Nat := 0
  attachAt : Nat := 0
  far : Option FarHello := none
  ackRx : Bool := false
  conflict : Bool := false
  preHold : Nat := 0
  testLeft : List Nat := []
  deriving DecidableEq, Repr

/-- One row of the board EQ table (R57). -/
structure EqRow where
  lossMax : Nat
  codes : List Byte
  valid : Bool
  deriving DecidableEq, Repr

/-- One group of the board EQ table: port, ball pair and class, and its rows (R57). -/
structure EqGroup where
  port : Nat
  ball : Nat
  cls : Nat
  rows : List EqRow
  deriving DecidableEq, Repr

/-- A row change staged at the epoch gate (R60): this end's new row, the far end's row with it, and the tick it was staged in. -/
structure StagedRow where
  row : Nat
  far : Nat
  tick : Nat
  deriving DecidableEq, Repr

/-- One pair at one port: the row changes staged at the epoch gate, oldest first (R60), a waking lane and the uptime its wake started at (R55), whether it was asleep
in the tick before the switch it wakes for (R51), the tick from which it seeks its lock (R52), and whether its pair test runs in
NRZ (R66). -/
structure Lane where
  staged : List StagedRow := []
  waking : Bool := false
  wakeAt : Nat := 0
  slept : Bool := false
  seekFrom : Option Nat := none
  testNrz : Bool := false
  deriving DecidableEq, Repr

/-- The row record the mitten keeps for a pair of a port: the cable's serial number and the row (R59). -/
structure RowRec where
  serial : Nat
  row : Nat
  deriving DecidableEq, Repr

/-- The trunk: ports by number (0 U, 1 D), lanes by pair number 8·p + k, the board EQ table in force (none where it is not
used, R58), and the mitten's row records by pair number. -/
structure Trunk where
  ports : Tab TrunkPort := []
  lanes : Tab Lane := []
  eq : Option (List EqGroup) := none
  rowRecs : Tab RowRec := []
  deriving DecidableEq, Repr

end Sys2Proof.Machine
end

