-- ==== Sys2Proof/Machine/State.lean ====
section
/-! DEFINITION. The state of the hub as plain data, the reasons a step can stop, and the state after reset. -/

namespace Sys2Proof.Machine

/-- Reasons a step stops with a fault. The hub has none: every access the spec gives has an effect, and every address a
command can name is decoded or ignored (R217). Safe: nothing raises one. -/
inductive Fault where
  deriving DecidableEq, Repr

/-- Reasons a step gives no meaning. -/
inductive Refusal where
  /-- Raised by `exec` alone for a command that has no meaning yet, with its mnemonic. Safe: the run stops. -/
  | notModelled (mnemonic : String)
  deriving DecidableEq, Repr

/-- The hub. `regs` holds the register fields that differ from their reset values, keyed by 32 × BAR0 offset + lowest
bit; `cnts` and `cntSnap` the live and snapshotted statistics counters by LO offset; `now` is line time in ns, `loops` holds
the firmware loops that run by core (R32: 0 and 1 control, 2 service); `nowFrac` is line time's fraction in units of 2^-16 ns
(R181), `worked` the tick whose boundary work is done (R31), and `stepped` the ns by which steps have moved line time (R182);
`fresh` numbers the free values drawn so far and `out`
records what the hub drove outward (both are the model's own fields). Log entries 4 (DESIGN CHOICE), 7 (DESIGN CHOICE). -/
structure Hub where
  regs : Tab Nat := []
  cnts : Tab CntV := []
  cntSnap : Tab CntV := []
  now : Nat := 0
  nowFrac : Nat := 0
  worked : Nat := 0
  stepped : Int := 0
  loops : Tab LoopRun := []
  fresh : Nat := 0
  ev : EvRing := {}
  lastRaise : Tab Nat := []
  out : List Out := []
  lineMem : List Host.Cell := []
  pool : Pool := {}
  rel : Rel := {}
  plan : Plan := {}
  trunk : Trunk := {}
  lpw : Lpw := {}
  tcp : Tcp := {}
  pwr : Pwr := {}
  time : Time := {}
  blk : Blk := {}
  dsp : Dsp := {}
  fbr : Fbr := {}
  ring : Ring := {}
  sec : SecRec := {}
  net : Net := {}
  hif : Hif := {}
  deriving DecidableEq, Repr

/-- The whole machine: the commands that wait, first in first out (the model's own queue), and the hub. -/
structure State where
  pending : List Instr := []
  hub : Hub := {}
  deriving DecidableEq, Repr

/-- The machine right after reset: no command waits. Log entries 2 (DESIGN CHOICE), 3 (DESIGN CHOICE), 4 (DESIGN CHOICE). -/
def State.reset : State := {}

/-- A command's effect on the hub; the queue stays as it is. -/
def State.on (s : State) (f : Hub → Hub) : Host.Outcome State Fault Refusal := .next { s with hub := f s.hub }

end Sys2Proof.Machine
end

