-- ==== Sys2Proof/Machine/Ops.lean ====
section
/-! DEFINITION. The named operations every meaning is written over: register fields, statistics counters, line time, free
values, events, outputs and line memory. -/

namespace Sys2Proof.Machine

open Host (Outcome)

/-- Stages of R442 as `SecRec.stage` counts them. -/
def sgAon : Nat := 0
def sgRails : Nat := 1
def sgPowered : Nat := 2
def sgRom : Nat := 3
def sgFirmware : Nat := 4
def sgBoard : Nat := 5
def sgService : Nat := 6
def sgHeld : Nat := 7

/-! Register fields. -/

/-- The value of a register field: the listed one, or its reset value. -/
def Hub.getf (s : Hub) (f : Fl) : Nat := Tab.getD s.regs f.key f.rst

/-- The state with field `f` at `v`, low bits kept; a field at its reset value is not listed. -/
def Hub.setf (f : Fl) (v : Nat) (s : Hub) : Hub :=
  if v % 2 ^ f.width = f.rst then { s with regs := Tab.del f.key s.regs }
  else { s with regs := Tab.put f.key (v % 2 ^ f.width) s.regs }

/-- Whether a one-bit field reads 1. -/
def Hub.flag (s : Hub) (f : Fl) : Bool := s.getf f == 1

/-- A one-bit field set from a Bool. -/
def Hub.setb (f : Fl) (b : Bool) (s : Hub) : Hub := s.setf f (b2n b)

/-- Every register field at a key from `lo` up to `hi - 1` back at its reset value. -/
def Hub.resetFields (lo hi : Nat) (s : Hub) : Hub :=
  { s with regs := Tab.delIf (fun k => decide (lo ≤ k) && decide (k < hi)) s.regs }

/-- A 64-bit value in a LO and a HI word. -/
def Hub.set64 (lo hi : Fl) (v : Nat) (s : Hub) : Hub := (s.setf lo (v % 2 ^ 32)).setf hi (v / 2 ^ 32)

/-! Line time (R30) and free values. -/

/-- Line time in nanoseconds of one tick (R30). -/
def tickNs : Nat := 62500

/-- The tick number, floor(line time / 62,500 ns) (R30). -/
def Hub.tick (s : Hub) : Nat := s.now / tickNs

/-- The time the hub's own oscillator has counted, in ns: line time without the steps made to it. Timers that run for a stated
duration count it. Log entry 8 (DESIGN CHOICE). -/
def Hub.up (s : Hub) : Nat := ((s.now : Int) - s.stepped).toNat

/-- Ticks' worth of time the hub's own oscillator has counted. -/
def Hub.upTick (s : Hub) : Nat := s.up / tickNs

/-- A timer of `n` ns started when the uptime was `t` has run out. -/
def Hub.ranFor (s : Hub) (t n : Nat) : Bool := decide (t + n ≤ s.up)

/-- Line time set to `x` in units of 2^-16 ns, as a step does (R182); the work of the tick it lands in counts as done. Log entry 19 (DEDUCED). -/
def Hub.setLine (x : Nat) (s : Hub) : Hub :=
  { s with now := x / 65536, nowFrac := x % 65536, worked := x / 65536 / tickNs, stepped := s.stepped + ((x / 65536 : Nat) - (s.now : Int)) }

/-- Line time moved forward to `t` whole nanoseconds; it never moves back here. Log entry 19 (DEDUCED). -/
def Hub.advance (t : Nat) (s : Hub) : Hub := if s.now < t then { s with now := t, nowFrac := 0 } else s

/-- Line time moved forward to where the uptime is `u`; it never moves back here. -/
def Hub.upTo (u : Nat) (s : Hub) : Hub := s.advance (s.now + (u - s.up))

/-- Line time moved forward to `x` in units of 2^-16 ns (R181). -/
def Hub.advanceFrac (x : Nat) (s : Hub) : Hub :=
  if s.now * 65536 + s.nowFrac < x then { s with now := x / 65536, nowFrac := x % 65536 } else s

/-- Line time stands on a tick boundary whose work is still to be done (R31). -/
def Hub.onBoundary (s : Hub) : Bool := s.now % tickNs == 0 && s.nowFrac == 0 && decide (s.worked < s.tick)

/-- Line time moved on to the tick boundary whose work comes next (R31, R34): this one, or the next. Log entry 8 (DESIGN CHOICE). -/
def Hub.toBoundary (s : Hub) : Hub := if s.onBoundary then s else s.advance ((s.tick + 1) * tickNs)

/-- A change that takes effect only at a tick boundary (R34), at the one whose work comes next where it is due there. -/
def Hub.atBoundary (due : Hub → Bool) (f : Hub → Hub) (s : Hub) : Hub := if due s.toBoundary then f s.toBoundary else s

/-- A free value: the next one of kind `tag`, as the pair of the value and the state with its counter advanced. Log entry 9 (DESIGN CHOICE). -/
def Hub.free (tag : Nat) (s : Hub) : Nat × Hub :=
  (Config.freeNat tag s.fresh, { s with fresh := s.fresh + 1 })

/-! Statistics counters (R118, R438). -/

/-- The largest value of a 48-bit counter. -/
def cntMax : Nat := 2 ^ 48 - 1

/-- A counter after `n` more: it holds at its largest value and sets SAT (R438). -/
def CntV.add (c : CntV) (n : Nat) : CntV :=
  if c.v + n ≤ cntMax then { c with v := c.v + n } else ⟨cntMax, true⟩

/-- The live value of counter `c`. -/
def Hub.cnt (s : Hub) (c : Nat) : CntV := Tab.getD s.cnts c {}

/-- `n` more in counter `c`. -/
def Hub.count (c : Nat) (n : Nat) (s : Hub) : Hub :=
  if n = 0 then s else { s with cnts := Tab.put c ((s.cnt c).add n) s.cnts }

/-- Counter `c` cleared: the live count, SAT and the snapshot (R438). -/
def Hub.clearCnt (c : Nat) (s : Hub) : Hub :=
  { s with cnts := Tab.del c s.cnts, cntSnap := Tab.del c s.cntSnap }

/-! Roles and address (R21, R25). -/

/-- The head role is in force (R24). -/
def Hub.isHead (s : Hub) : Bool := s.getf Fld.GEN_STRAPS_ROLE == 2

/-- The hub holds itself: strapped without a role (R23), with no firmware to run (R455), or in END (R450). -/
def Hub.isHeld (s : Hub) : Bool :=
  s.getf Fld.GEN_STRAPS_ROLE == 3 || s.flag Fld.GEN_BOOT_STATUS_HELD || s.getf Fld.SEC_LC_STATE == 4

/-- A host sits on the PCIe endpoint: the head's, or a node's local host (R21). -/
def Hub.hasHost (s : Hub) : Bool := s.isHead || s.getf Fld.GEN_STRAPS_ROLE == 1

/-- The hub's address: 0x000 in the head role, else GEN_HUB_ADDR (R25). -/
def Hub.addr (s : Hub) : Nat := if s.isHead then 0 else s.getf Fld.GEN_HUB_ADDR_ADDR

/-! Events (R29, R237). -/

/-- The records of the event ring that use an ordinary entry. -/
def EvRing.used (e : EvRing) : Nat := (e.recs.filter (fun r => !r.kept)).length

/-- The records that use a kept-back entry. -/
def EvRing.keptUsed (e : EvRing) : Nat := (e.recs.filter (fun r => r.kept)).length

/-- A record that finds no room is dropped and counted, and the first drop since the ring was empty sets OVERRUN (R29). -/
def Hub.dropEvent (s : Hub) : Hub :=
  let s1 := s.count Cnt.GEN_EVT_LOST 1
  if s1.ev.dropped then s1
  else { s1.setf Fld.GEN_EVT_STATUS_OVERRUN 1 with ev := { s1.ev with dropped := true } }

/-- A record posted into the event ring: 2,048 ordinary entries, and 16 kept back for error and fatal records (R29). -/
def Hub.post (r : EvRec) (s : Hub) : Hub :=
  if s.ev.used < 2048 then { s with ev := { s.ev with recs := s.ev.recs ++ [{ r with kept := false }] } }
  else if (r.sev == .error || r.sev == .fatal) && s.ev.keptUsed < 16 then
    { s with ev := { s.ev with recs := s.ev.recs ++ [{ r with kept := true }] } }
  else s.dropEvent

/-- The record of event `e` with severity `sev` and these arguments, stamped with the hub's address and tick (R237, R504). -/
def Hub.evRec (s : Hub) (e : EvDef) (sev : Sev) (args : List Nat) : EvRec :=
  { code := e.code, hub := s.addr, sev := sev, tick := s.tick % 2 ^ 32, args := packArgs e.widths args 0 }

/-- Event `e` raised with its own severity. -/
def Hub.raise (e : EvDef) (args : List Nat) (s : Hub) : Hub := s.post (s.evRec e e.sev args)

/-- Event `e` raised with a severity its rule names. -/
def Hub.raiseSev (e : EvDef) (sev : Sev) (args : List Nat) (s : Hub) : Hub := s.post (s.evRec e sev args)

/-- Ticks in one second. -/
def ticksPerSec : Nat := 16000

/-- Event `e` raised at most once per second for the source `idx`. -/
def Hub.raiseLimited (e : EvDef) (idx : Nat) (args : List Nat) (s : Hub) : Hub :=
  let k := e.code * 2 ^ 16 + idx
  match Tab.get? k s.lastRaise with
  | none => { (s.raise e args) with lastRaise := Tab.put k s.upTick s.lastRaise }
  | some t =>
    if t + ticksPerSec ≤ s.upTick then { (s.raise e args) with lastRaise := Tab.put k s.upTick s.lastRaise } else s

/-- GEN_LOCKED_WRITE for a write of `v` at `off` (R10). -/
def Hub.lockedWrite (off v : Nat) (s : Hub) : Hub := s.raise Evt.GEN_LOCKED_WRITE [off, v]

/-! Outputs. -/

/-- What the hub drives outward, newest first. -/
def Hub.emit (o : Out) (s : Hub) : Hub := { s with out := o :: s.out }

/-! Line memory (R156). -/

/-- What a byte of line memory that nothing has written since the wipe reads as. Log entry 5 (DESIGN CHOICE). -/
def memBlank : Byte := 0

/-- Byte `a` of line memory. -/
def Hub.memByte (s : Hub) (a : Nat) : Byte := Tab.getD s.lineMem a memBlank

/-- The size of line memory: four banks of 16 MiB (R156). Log entry 11 (DESIGN CHOICE). -/
def memSize : Nat := 67108864

/-- Line memory with byte `b` at `a`; a byte equal to what an unlisted one reads as is not listed, and beyond the end nothing is
stored. Log entry 11 (DESIGN CHOICE). -/
def memPut (a : Nat) (b : Byte) (m : List Host.Cell) : List Host.Cell :=
  if b = memBlank then Tab.del a m else if a < memSize then Tab.put a b m else m

/-- Bytes written from address `a` up. -/
def memWrite : (a : Nat) → (bs : List Byte) → (m : List Host.Cell) → List Host.Cell
  | _, [], m => m
  | a, b :: t, m => memWrite (a + 1) t (memPut a b m)

/-- `n` bytes of line memory from address `a`. -/
def Hub.memRead (s : Hub) (a n : Nat) : List Byte := (List.range n).map (fun i => s.memByte (a + i))

/-- Bytes written to line memory from address `a`. -/
def Hub.memStore (a : Nat) (bs : List Byte) (s : Hub) : Hub := { s with lineMem := memWrite a bs s.lineMem }

/-- The canonical form of line memory: rising addresses, none listed at the blank value, all within it. -/
def Memory.wf (m : List Host.Cell) : Bool :=
  Tab.wf m && m.all (fun c => decide (c.2 ≠ memBlank) && decide (c.1 < memSize))

end Sys2Proof.Machine
end

