-- ==== Sys2Proof/Machine/Ecc.lean ====
section
/-! DEFINITION. The error-correcting code of the on-chip memories, the flip mask's stored errors and the error log
(R420 to R425). -/

namespace Sys2Proof.Machine

/-- The columns of data bits 0 to 55: the values of weight 3 in increasing order (R421). -/
def eccCols3 : List Nat := (List.range 256).filter (fun v => popcount 8 v == 3)

/-- The columns of data bits 56 to 63: the first values of weight 5 (R421). -/
def eccCols5 : List Nat := (List.range 256).filter (fun v => popcount 8 v == 5)

/-- The column of codeword bit `j` (R421). -/
def eccCol (j : Nat) : Nat :=
  if j < 56 then eccCols3.getD j 0 else if j < 64 then eccCols5.getD (j - 56) 0 else 2 ^ (j - 64)

/-- The XOR of the columns of the set bits of a 72-bit mask: the syndrome it causes (R421). -/
def eccSyndrome (mask : Nat) : Nat :=
  (List.range 72).foldl (fun a j => if bit mask j then a ^^^ eccCol j else a) 0

/-- What a read of a word finds (R421). -/
inductive EccRead where
  | clean | corrected | uncorrectable
  deriving DecidableEq, Repr

/-- The decoding of a syndrome (R421). -/
def eccDecode (syn : Nat) : EccRead :=
  if syn = 0 then .clean
  else if (List.range 72).any (fun j => eccCol j == syn) then .corrected else .uncorrectable

/-- The key of a word of a memory. Log entry 90 (DESIGN CHOICE). -/
def eccKey (mem word : Nat) : Nat := mem * 2 ^ 23 + word

/-- The syndrome a read of the word at index `word` of memory `mem` computes. -/
def Hub.eccState (s : Hub) (mem word : Nat) : Nat :=
  match Tab.get? (eccKey mem word) s.rel.flips with
  | none => 0
  | some m => eccSyndrome m

/-- Entry `e` of the error log is valid. -/
def Hub.logValid (s : Hub) (e : Nat) : Bool := s.flag (Fld.REL_ECC_LOG_0_VALID e)

/-- Entry `e` names this memory and word. -/
def Hub.logNames (s : Hub) (mem word e : Nat) : Bool :=
  s.logValid e && s.getf (Fld.REL_ECC_LOG_0_MEM e) == mem && s.getf (Fld.REL_ECC_LOG_0_WORD e) == word

/-- Entry `a` is replaced before entry `b`: fewer HITS, then the older FIRST_TICK (R424). -/
def Hub.logBefore (s : Hub) (a b : Nat) : Bool :=
  let ha := s.getf (Fld.REL_ECC_LOG_1_HITS a)
  let hb := s.getf (Fld.REL_ECC_LOG_1_HITS b)
  if ha = hb then s.getf (Fld.REL_ECC_LOG_2_FIRST_TICK a) < s.getf (Fld.REL_ECC_LOG_2_FIRST_TICK b) else ha < hb

/-- The correctable entry a new error replaces when none is invalid (R424). -/
def Hub.logVictim (s : Hub) : Option Nat :=
  ((List.range 16).filter (fun e => !s.flag (Fld.REL_ECC_LOG_0_UE e))).foldl
    (fun a e => match a with
      | none => some e
      | some b => if s.logBefore e b then some e else some b) none

/-- A new log entry at `e` (R424). -/
def Hub.logNew (e mem word syn : Nat) (ue : Bool) (s : Hub) : Hub :=
  ((((((s.setf (Fld.REL_ECC_LOG_0_VALID e) 1).setb (Fld.REL_ECC_LOG_0_UE e) ue).setf (Fld.REL_ECC_LOG_0_MEM e) mem).setf
    (Fld.REL_ECC_LOG_0_WORD e) word).setf (Fld.REL_ECC_LOG_1_SYNDROME e) syn).setf (Fld.REL_ECC_LOG_1_HITS e) 1).setf
    (Fld.REL_ECC_LOG_2_FIRST_TICK e) s.tick |>.setf (Fld.REL_ECC_LOG_3_LAST_TICK e) s.tick

/-- One more hit of the entry at `e` (R424). -/
def Hub.logHit (e syn : Nat) (ue : Bool) (s : Hub) : Hub :=
  let s1 := (s.setf (Fld.REL_ECC_LOG_1_HITS e) (min 0xFFFF (s.getf (Fld.REL_ECC_LOG_1_HITS e) + 1))).setf
    (Fld.REL_ECC_LOG_1_SYNDROME e) syn |>.setf (Fld.REL_ECC_LOG_3_LAST_TICK e) s.tick
  if ue then s1.setf (Fld.REL_ECC_LOG_0_UE e) 1 else s1

/-- The error log takes an error (R424). -/
def Hub.logError (mem word syn : Nat) (ue : Bool) (s : Hub) : Hub :=
  match (List.range 16).find? (s.logNames mem word) with
  | some e => s.logHit e syn ue
  | none =>
    match (List.range 16).find? (fun e => !s.logValid e) with
    | some e => s.logNew e mem word syn ue
    | none =>
      match s.logVictim with
      | some e => s.logNew e mem word syn ue
      | none => s.count Cnt.REL_CNT_LOG_LOST 1

/-- Event `e` raised at most once per tick for the source `idx`. -/
def Hub.raisePerTick (e : EvDef) (idx : Nat) (args : List Nat) (s : Hub) : Hub :=
  let k := e.code * 2 ^ 16 + idx
  if Tab.get? k s.lastRaise = some s.tick then s
  else { (s.raise e args) with lastRaise := Tab.put k s.tick s.lastRaise }

/-- Ticks in 24 h. -/
def ticksPerDay : Nat := 1382400000

/-- A correction of memory `mem` enters the count of the last 24 h (R431). -/
def Hub.noteCorrection (mem : Nat) (s : Hub) : Hub :=
  let old := (Tab.getD s.rel.ceTimes mem []).filter (fun t => decide (s.upTick < t + ticksPerDay))
  { s with rel := { s.rel with ceTimes := Tab.put mem (old ++ [s.upTick]) s.rel.ceTimes } }

/-- A read of a word: a correctable error is corrected, counted and logged (R422), an uncorrectable one counted and logged
(R423). The stored word stays as it is. -/
def Hub.eccTouch (mem word : Nat) (s : Hub) : Hub :=
  let syn := s.eccState mem word
  match eccDecode syn with
  | .clean => s
  | .corrected =>
    (((s.count (Cnt.REL_CNT_CE mem) 1).noteCorrection mem).logError mem word syn false).raiseLimited Evt.REL_ECC_CE mem [mem, word]
  | .uncorrectable =>
    ((s.count (Cnt.REL_CNT_UE mem) 1).logError mem word syn true).raisePerTick Evt.REL_ECC_UE mem [mem, word]

/-- A read of the word is uncorrectable. -/
def Hub.eccBad (s : Hub) (mem word : Nat) : Bool := eccDecode (s.eccState mem word) == .uncorrectable

/-- A write of the whole word ends its error (R423). -/
def Hub.eccEnd (mem word : Nat) (s : Hub) : Hub :=
  { s with rel := { s.rel with flips := Tab.del (eccKey mem word) s.rel.flips } }

/-! Entries of the other memories (R420): an entry of `n` words lies at words n·i to n·i + n − 1 of its memory. -/

/-- The words of entry `i`. Log entry 90 (DESIGN CHOICE). -/
def entryWords (n i : Nat) : List Nat := (List.range n).map (fun j => n * i + j)

/-- Some word of entry `i` is uncorrectable. Log entry 90 (DESIGN CHOICE). -/
def Hub.entryBad (s : Hub) (mem n i : Nat) : Bool := (entryWords n i).any (s.eccBad mem)

/-- The read path passes over entry `i`. -/
def Hub.entryTouch (mem n i : Nat) (s : Hub) : Hub := (entryWords n i).foldl (fun t w => t.eccTouch mem w) s

/-- Entry `i` is written whole (R423). -/
def Hub.entryEnd (mem n i : Nat) (s : Hub) : Hub := (entryWords n i).foldl (fun t w => t.eccEnd mem w) s

/-- The words of memory `mem` that hold an error. -/
def Hub.flipWords (s : Hub) (mem : Nat) : List Nat :=
  (s.rel.flips.filter (fun (e : Nat × Nat) => e.1 / 2 ^ 23 == mem)).map (fun e => e.1 % 2 ^ 23)

/-- The read path passes over every word of memory `mem` that holds an error. -/
def Hub.touchAll (mem : Nat) (s : Hub) : Hub := (s.flipWords mem).foldl (fun t w => t.eccTouch mem w) s

/-- The words from `lo` up to `hi` of memory `mem` hold an uncorrectable error. -/
def Hub.spanBad (s : Hub) (mem lo hi : Nat) : Bool :=
  (s.flipWords mem).any (fun w => decide (lo ≤ w) && decide (w < hi) && s.eccBad mem w)

/-- The read path passes over the words from `lo` up to `hi` of memory `mem`. -/
def Hub.spanTouch (mem lo hi : Nat) (s : Hub) : Hub :=
  ((s.flipWords mem).filter (fun w => decide (lo ≤ w) && decide (w < hi))).foldl (fun t w => t.eccTouch mem w) s

/-- The words from `lo` up to `hi` of memory `mem` are written whole (R423). -/
def Hub.spanEnd (mem lo hi : Nat) (s : Hub) : Hub :=
  { s with rel := { s.rel with
      flips := s.rel.flips.filter (fun (e : Nat × Nat) => !(decide (eccKey mem lo ≤ e.1) && decide (e.1 < eccKey mem hi))) } }

/-- The line-memory bank of a byte address, which is its memory ID (R156, R420). -/
def lmBank (a : Nat) : Nat := a / 16777216

/-- The word index of a line-memory byte address in its bank. -/
def lmWord (a : Nat) : Nat := a % 16777216 / 8

/-- The line-memory words of `n` bytes from address `a`, as addresses of their first bytes. -/
def lmWords (a n : Nat) : List Nat := (List.range ((a % 8 + n + 7) / 8)).map (fun i => a / 8 * 8 + 8 * i)

/-- Bytes written to line memory, which ends the error of every word they cover (R423). -/
def Hub.memStoreEcc (a : Nat) (bs : List Byte) (s : Hub) : Hub :=
  (lmWords a bs.length).foldl
    (fun t w => if decide (a ≤ w) && decide (w + 8 ≤ a + bs.length) then t.eccEnd (lmBank w) (lmWord w) else t)
    (s.memStore a bs)

/-- The read path passes over `n` bytes of line memory from `a`. -/
def Hub.memTouch (a n : Nat) (s : Hub) : Hub :=
  (lmWords a n).foldl (fun t w => t.eccTouch (lmBank w) (lmWord w)) s

/-- The read path passes over the words with an error among `n` bytes of line memory from `a`. -/
def Hub.memSweep (a n : Nat) (s : Hub) : Hub :=
  (List.range 4).foldl (fun t b => t.spanTouch b ((a - 16777216 * b) / 8) (cdiv (min 16777216 (a + n - 16777216 * b)) 8)) s

/-- Some word of `n` bytes of line memory from `a` is uncorrectable. -/
def Hub.memBad (s : Hub) (a n : Nat) : Bool := (lmWords a n).any (fun w => s.eccBad (lmBank w) (lmWord w))

end Sys2Proof.Machine
end

