-- ==== Sys2Proof/Machine/Pool.lean ====
section
/-! DEFINITION. The cell pool: allocation, production, gap markers, consumption, flushes and the carve-out (R156 to R180,
R509). -/

namespace Sys2Proof.Machine

/-! Queues and their configuration. -/

/-- Queue `q`. -/
def Hub.queue (s : Hub) (q : Nat) : Queue := Tab.getD s.pool.queues q {}

/-- The state with queue `q` as `Q`. -/
def Hub.setQueue (q : Nat) (Q : Queue) (s : Hub) : Hub :=
  { s with pool := { s.pool with queues := Tab.put q Q s.pool.queues } }

/-- Queue `q` is enabled (R180). -/
def Hub.qEnabled (s : Hub) (q : Nat) : Bool := s.flag (Fld.CPL_QCFG_EN q)

/-- Queue `q` is a CONTROL queue (R161, R180). -/
def Hub.qControl (s : Hub) (q : Nat) : Bool := s.flag (Fld.CPL_QCFG_KIND q)

/-- Queue `q` draws from the MGMT partition (R161). -/
def qMgmt (q : Nat) : Bool := q < 16

/-- The maximum of queue `q` in cells: R161, or its profile (R164). -/
def Hub.qMax (s : Hub) (q : Nat) : Nat :=
  match q with
  | 0 => 1024
  | 1 => 512
  | 2 => 1024
  | 3 => 512
  | 4 => 640
  | 5 => 256
  | 6 => 64
  | 7 => 64
  | 16 | 17 | 18 | 19 => 64
  | q => if qMgmt q then 0 else s.getf (Fld.CPL_QPROF_MAX_MAX (s.getf (Fld.CPL_QCFG_PROFILE q)))

/-- The minimum of queue `q` in cells (R161, R164). -/
def Hub.qMin (s : Hub) (q : Nat) : Nat :=
  if qMgmt q then 0 else if q < 20 then 64
  else s.getf (Fld.CPL_QPROF_MIN_MIN (s.getf (Fld.CPL_QCFG_PROFILE q)))

/-- OCC: the cells a queue holds, complete or not (R164). -/
def Queue.occ (Q : Queue) : Nat := Q.pkts.foldr (fun p n => p.length + n) (Q.part.length + Q.granted.length)

/-- Every cell a queue holds. -/
def Queue.cells (Q : Queue) : List QCell := Q.pkts.flatten ++ Q.part ++ Q.granted

/-- The cells that are not free: those every queue holds, by index, and those no link reaches (R420). -/
def Hub.heldIdx (s : Hub) : List Nat := s.pool.queues.flatMap (fun e => e.2.cells.map (fun c => c.idx)) ++ s.pool.lost

/-- The enabled GENERAL queues from 20 up: those whose EN is listed, EN being 0 at reset there (R180). -/
def Hub.enabledQs (s : Hub) : List Nat :=
  s.regs.filterMap (fun e =>
    if decide ((Fld.CPL_QCFG_EN 20).key ≤ e.1) && decide (e.1 ≤ (Fld.CPL_QCFG_EN 8191).key) && e.1 % 32 == 31 && e.2 == 1
    then some ((e.1 / 32 - 0x048000) / 4) else none)

/-- Every enabled GENERAL queue, the capture queues included (R161). -/
def Hub.generalQs (s : Hub) : List Nat := [16, 17, 18, 19] ++ s.enabledQs

/-! Partitions (R159). -/

/-- The first MGMT cell. -/
def mgmtBase : Nat := 258048

/-- Cells of line memory (R156). -/
def poolCells : Nat := 262144

/-- Cell `c` is withheld from allocation. -/
def Hub.isWithheld (s : Hub) (c : Nat) : Bool := s.pool.withheld.any (fun r => decide (r.1 ≤ c) && decide (c < r.2))

/-- The withheld cells between `lo` and `hi`. -/
def Hub.withheldIn (s : Hub) (lo hi : Nat) : Nat :=
  s.pool.withheld.foldl (fun n r => n + (min hi r.2 - max lo r.1)) 0

/-- The size of the GENERAL partition (R164, R427). -/
def Hub.genSize (s : Hub) : Nat := mgmtBase - s.pool.carveEff - s.withheldIn s.pool.carveEff mgmtBase

/-- The cells of `lo` to `hi - 1` that queues hold and that are not withheld. -/
def Hub.heldIn (s : Hub) (lo hi : Nat) : Nat :=
  (s.heldIdx.filter (fun c => decide (lo ≤ c) && decide (c < hi) && !s.isWithheld c)).length

/-- The free cells of GENERAL (R164). -/
def Hub.genFree (s : Hub) : Nat := s.genSize - s.heldIn s.pool.carveEff mgmtBase

/-- The cells reserved for queues below their minimum (R164). -/
def Hub.genReserved (s : Hub) : Nat :=
  s.generalQs.foldl (fun n q => n + (s.qMin q - (s.queue q).occ)) 0

/-- The shared remainder, which may be negative (R164). -/
def Hub.genShared (s : Hub) : Int := (s.genFree : Int) - s.genReserved

/-- What an allocation answers (R164). -/
inductive Alloc where
  | granted | refusedQueue | refusedPool
  deriving DecidableEq, Repr

/-- The allocation rule of R164. -/
def Hub.allocate (s : Hub) (q : Nat) : Alloc :=
  let occ := (s.queue q).occ
  if qMgmt q then (if occ < s.qMax q then .granted else .refusedQueue)
  else if s.qMax q ≤ occ then .refusedQueue
  else if occ < s.qMin q ∧ 1 ≤ s.genFree then .granted
  else if 1 ≤ s.genShared then .granted
  else .refusedPool

/-- The first cell from `c` on, wrapping within `lo` to `hi - 1`, that is not busy. Log entry 50 (DESIGN CHOICE). -/
def findFree (busy : Nat → Bool) (lo hi : Nat) : (fuel c : Nat) → Option Nat
  | 0, _ => none
  | n + 1, c => if busy c then findFree busy lo hi n (if c + 1 < hi then c + 1 else lo) else some c

/-- The partition queue `q` draws from, as cell bounds (R160). -/
def Hub.partitionOf (s : Hub) (q : Nat) : Nat × Nat :=
  if qMgmt q then (mgmtBase, poolCells) else (s.pool.carveEff, mgmtBase)

/-- Tag of the free value that picks a cell: the order of the free lists is not given by the spec. Log entry 50 (DESIGN CHOICE). -/
def freeTagCell : Nat := 1

/-- A cell taken from the free list of queue `q`'s partition: which one is a free value. Log entry 50 (DESIGN CHOICE). -/
def Hub.takeCell (q : Nat) (s : Hub) : Option (Nat × Hub) :=
  let (lo, hi) := s.partitionOf q
  let (v, s1) := s.free freeTagCell
  let held := s.heldIdx
  let busy := fun c => held.contains c || s.isWithheld c
  (findFree busy lo hi (held.length + s.withheldIn lo hi + 1) (lo + v % (hi - lo))).map (fun c => (c, s1))

/-- CPL_GEN_LOW follows the lowest gen_free (R178), and CPL_POOL_EXHAUSTED is raised when shared reaches 0 or below (R177);
`was` is the shared remainder before. -/
def Hub.poolWatch (was : Int) (s : Hub) : Hub :=
  let s1 := if s.genFree < s.getf Fld.CPL_GEN_LOW then s.setf Fld.CPL_GEN_LOW s.genFree else s
  if 0 < was ∧ s1.genShared ≤ 0 then
    s1.raiseLimited Evt.CPL_POOL_EXHAUSTED 0 [s1.genFree, s1.genReserved] else s1

/-! Losses and flags. -/

/-- Counts in a gap state hold at 0xFFFF_FFFF. -/
def satAdd32 (a b : Nat) : Nat := min 0xFFFFFFFF (a + b)

/-- Of two ticks known by their low 32 bits, the earlier. -/
def earlierTick (a b : Nat) : Nat := if (b + 2 ^ 32 - a) % 2 ^ 32 < 2 ^ 31 then a else b

/-- A loss joins a pending gap state (R167, R171): the first loss gives FIRST_TICK. -/
def GapPend.loss (g : GapPend) (pkts cells tick cause : Nat) : GapPend :=
  { pkts := satAdd32 g.pkts pkts, cells := satAdd32 g.cells cells,
    firstTick := if g.cause = 0 then tick % 2 ^ 32 else g.firstTick, cause := g.cause ||| cause }

/-- A marker's counts merge into a pending gap state, and CAUSE bit 4 is set (R169). -/
def GapPend.merge (g m : GapPend) : GapPend :=
  { pkts := satAdd32 g.pkts m.pkts, cells := satAdd32 g.cells m.cells,
    firstTick := if g.cause = 0 then m.firstTick else earlierTick g.firstTick m.firstTick,
    cause := g.cause ||| m.cause ||| 16 }

/-- The 16 payload bytes of a gap marker, most significant byte first (R168). -/
def GapPend.bytes (g : GapPend) : List Byte :=
  beBytes 4 g.pkts ++ beBytes 4 g.cells ++ beBytes 4 g.firstTick ++ beBytes 1 g.cause ++ zeros 3

/-- A gap marker's payload read back (R168). -/
def GapPend.ofBytes (bs : List Byte) : GapPend :=
  { pkts := beNat (slice bs 0 4), cells := beNat (slice bs 4 4), firstTick := beNat (slice bs 8 4), cause := byteAt bs 12 }

/-- OVERRUN set; the first time since it was clear raises CPL_OVERRUN (R170). -/
def Hub.setOverrun (q : Nat) (s : Hub) : Hub :=
  if (s.queue q).overrun then s
  else (s.setQueue q { s.queue q with overrun := true }).raise Evt.CPL_OVERRUN [q, s.tick]

/-- A loss joins queue `q`'s pending gap state. -/
def Hub.gapLoss (q pkts cells cause : Nat) (s : Hub) : Hub :=
  s.setQueue q { s.queue q with gap := (s.queue q).gap.loss pkts cells s.tick cause }

/-! Freeing cells and claims (R160, R174). -/

/-- A claim completes when no queue holds a cell of its range: CLAIMING falls and CPL_CARVE_CLAIMED is raised (R174). -/
def Hub.claimCheck (s : Hub) : Hub :=
  match s.pool.claim with
  | none => s
  | some c =>
    if s.heldIdx.any (fun i => decide (c.lo ≤ i) && decide (i < c.hi)) then s
    else ({ s with pool := { s.pool with claim := none } } : Hub).raise Evt.CPL_CARVE_CLAIMED
      [s.pool.carve / 256, s.tick - c.start]

/-! Producing (R158, R162 to R170). -/

/-- The cell is granted: it takes a free cell, its payload goes to line memory, and it joins the open packet, which its L
completes (R157, R172). -/
def Hub.linkCell (q : Nat) (c : PCell) (s : Hub) : Option Hub :=
  (s.takeCell q).map fun (i, s1) =>
    let Q := s1.queue q
    let cell : QCell := ⟨i, c.data.length - 1, c.f, c.l, c.gap, c.poison, c.colour⟩
    let part := Q.part ++ [cell]
    let Q1 := if c.l then { Q with pkts := Q.pkts ++ [part], part := [], isOpen := false }
      else { Q with part := part, isOpen := true }
    ((s1.memStoreEcc (256 * i) c.data).setQueue q Q1).poolWatch s.genShared

/-- A cell granted to queue `q` outside any packet (R281). -/
def Hub.grantCell (q : Nat) (s : Hub) : Option (Nat × Hub) :=
  match s.allocate q with
  | .granted => (s.takeCell q).map fun (i, s1) =>
      (i, (s1.setQueue q { s1.queue q with granted := (s1.queue q).granted ++ [⟨i, 255, false, false, false, false, 0⟩] }).poolWatch
        s.genShared)
  | _ => none

/-- `n` cells granted to queue `q`, all or none; the indices in the order granted. -/
def Hub.grantCells (q : Nat) : (n : Nat) → (s : Hub) → Option (List Nat × Hub)
  | 0, s => some ([], s)
  | n + 1, s =>
    match s.grantCell q with
    | none => none
    | some (i, s1) => (s1.grantCells q n).map (fun e => (i :: e.1, e.2))

/-- Granted cells of queue `q` returned to the pool (R281). -/
def Hub.returnCells (q : Nat) (is : List Nat) (s : Hub) : Hub :=
  (s.setQueue q { s.queue q with granted := (s.queue q).granted.filter (fun c => !is.contains c.idx) }).claimCheck

/-- The refusal of a cell: the behaviour of the queue's kind (R167, R170). `cause` is the gap CAUSE bit. -/
def Hub.refuseCell (q : Nat) (c : PCell) (cause : Nat) (s : Hub) : Hub :=
  let Q := s.queue q
  let Q1 := { Q with part := [], isOpen := false, skip := if c.l then .none else .rest }
  if s.qControl q then
    ((((s.setQueue q { Q1 with full := true }).claimCheck).setOverrun q).count Cnt.CPL_CNT_CONTROL_DROP 1).count
      (Cnt.CPL_QSTAT_DROPS q) 1
  else
    ((((s.setQueue q Q1).claimCheck).gapLoss q 1 0 cause).count Cnt.CPL_CNT_STREAM_DROP 1).count (Cnt.CPL_QSTAT_DROPS q) 1

/-- A cell asks for its allocation and is linked or refused (R164). -/
def Hub.placeCell (q : Nat) (c : PCell) (s : Hub) : Hub :=
  match s.allocate q with
  | .refusedQueue => s.refuseCell q c 1
  | .refusedPool => (s.count Cnt.CPL_CNT_POOL_FAIL 1).refuseCell q c 2
  | .granted =>
    match s.linkCell q c with
    | some t => t
    | none => (s.count Cnt.CPL_CNT_POOL_FAIL 1).refuseCell q c 2

/-- A pending gap count writes its marker when an allocation succeeds (R168). -/
def Hub.writeMarker (q : Nat) (s : Hub) : Hub :=
  let Q := s.queue q
  if Q.gap.cause = 0 || s.qControl q || !s.qEnabled q then s
  else
    match s.allocate q with
    | .refusedQueue => s
    | .refusedPool => s.count Cnt.CPL_CNT_POOL_FAIL 1
    | .granted =>
      match (s.setQueue q { Q with part := [], isOpen := false }).linkCell q { data := Q.gap.bytes, gap := true } with
      | none => s.count Cnt.CPL_CNT_POOL_FAIL 1
      | some t =>
        (t.setQueue q { t.queue q with gap := {}, part := Q.part, isOpen := Q.isOpen }).count Cnt.CPL_CNT_GAP_MARKERS 1

/-- A marker from a producer at a STREAM queue: the queue's pending count merges into it; where it cannot be allocated its
counts join the pending count (R169). -/
def Hub.storeMarker (q : Nat) (c : PCell) (s : Hub) : Hub :=
  let g := (s.queue q).gap
  let m := GapPend.ofBytes c.data
  let m1 := if g.cause = 0 then m else g.merge m
  let c1 := if g.cause = 0 then c else { c with data := m1.bytes }
  let joined (t : Hub) : Hub := t.setQueue q { t.queue q with gap := g.merge m }
  match s.allocate q with
  | .refusedQueue => joined s
  | .refusedPool => joined (s.count Cnt.CPL_CNT_POOL_FAIL 1)
  | .granted =>
    match s.linkCell q c1 with
    | none => joined (s.count Cnt.CPL_CNT_POOL_FAIL 1)
    | some t => t.setQueue q { t.queue q with gap := {} }

/-- A first cell, with no packet open (R158, R168 to R170). -/
def Hub.startCell (q : Nat) (c : PCell) (s : Hub) : Hub :=
  let Q := s.queue q
  if s.qControl q then
    if c.gap then (s.count Cnt.CPL_CNT_CONTROL_DROP 1)
    else if Q.full then
      ((s.setQueue q { Q with skip := if c.l then .none else .rest }).count Cnt.CPL_CNT_CONTROL_DROP 1).count (Cnt.CPL_QSTAT_DROPS q) 1
    else s.placeCell q c
  else if c.gap then s.storeMarker q c
  else (s.writeMarker q).placeCell q c

/-- A cell of an open packet; the 257th discards the packet (R158). -/
def Hub.moreCell (q : Nat) (c : PCell) (s : Hub) : Hub :=
  let Q := s.queue q
  if Q.part.length = 256 then
    ((s.setQueue q { Q with part := [], isOpen := false, skip := .untilF }).claimCheck).count Cnt.CPL_CNT_OVERSIZE 1
  else s.placeCell q c

/-- The framing checks of R158. -/
def Hub.frameCell (q : Nat) (c : PCell) (s : Hub) : Hub :=
  let Q := s.queue q
  if c.f then
    let s1 := if Q.isOpen then
        ((s.setQueue q { Q with part := [], isOpen := false, skip := .none }).claimCheck).count Cnt.CPL_CNT_RESYNC 1
      else s.setQueue q { Q with skip := .none }
    s1.startCell q c
  else
    match Q.skip with
    | .untilF => s
    | .rest => if c.l then s.setQueue q { Q with skip := .none } else s
    | .none =>
      if Q.isOpen then s.moreCell q c
      else (s.setQueue q { Q with skip := .untilF }).count Cnt.CPL_CNT_RESYNC 1

/-- The fixed producer of queues 0 to 19 (R161): the trunk into the transit queues and into this hub's own, firmware into the local
queues and the launch queue, the launch engine, and the capture unit. -/
def fixedProd (q : Nat) : Option Who :=
  match q with
  | 0 | 2 | 4 | 5 => some (.trunk 0)
  | 1 | 3 | 6 => some .fw
  | 7 => some .launch
  | 16 | 17 | 18 | 19 => some .capture
  | _ => none

/-- A cell reaches a disabled queue: it is counted (R163), unless it belongs to a packet or a run whose discard is already accounted
(R158, R509). -/
def Hub.disabledCell (q : Nat) (c : PCell) (s : Hub) : Hub :=
  let Q := s.queue q
  if c.f then (s.setQueue q { Q with skip := .none }).count Cnt.CPL_CNT_DISABLED 1
  else match Q.skip with
    | .none => s.count Cnt.CPL_CNT_DISABLED 1
    | .rest => if c.l then s.setQueue q { Q with skip := .none } else s
    | .untilF => s

/-- Producer `w` writes cell `c` into queue `q`: disabled queues (R163), bindings (R162), then framing. -/
def Hub.produce (q : Nat) (w : Who) (c : PCell) (s : Hub) : Hub :=
  if !s.qEnabled q then s.disabledCell q c
  else if q < 20 then (if fixedProd q = some w then s.frameCell q c else s.count Cnt.CPL_CNT_BINDING 1)
  else
    match (s.queue q).prod with
    | some w' => if w' = w then s.frameCell q c else s.count Cnt.CPL_CNT_BINDING 1
    | none =>
      if w.implicit then (s.setQueue q { s.queue q with prod := some w, prodImplicit := true }).frameCell q c
      else s.frameCell q c

/-- A packet's bytes cut into cells of up to 256 bytes, F on the first and L on the last; `first` says this is the first. -/
def cellsOf (poison : Bool) : (fuel : Nat) → (first : Bool) → List Byte → List PCell
  | 0, _, _ => []
  | n + 1, first, bs =>
    if bs.length ≤ 256 then [{ data := bs, f := first, l := true, poison := poison }]
    else { data := bs.take 256, f := first, l := false, poison := poison } :: cellsOf poison n false (bs.drop 256)

/-- A packet's bytes as cells. -/
def packetCells (bs : List Byte) (poison : Bool := false) : List PCell := cellsOf poison (bs.length / 256 + 1) true bs

/-- A whole packet produced cell by cell. -/
def Hub.producePkt (q : Nat) (w : Who) (bs : List Byte) (s : Hub) : Hub :=
  (packetCells bs).foldl (fun t c => t.produce q w c) s

/-! Consuming (R172). -/

/-- The bytes of a packet's cells. -/
def Hub.pktBytes (s : Hub) (p : List QCell) : List Byte := p.flatMap (fun c => s.memRead (256 * c.idx) (c.lenm1 + 1))

/-- A frame carries a VLAN tag (R248). -/
def tagged (f : List Byte) : Bool := beNat (slice f 12 2) == 0x8100

/-- DEI of a frame's tag. -/
def frameDei (f : List Byte) : Bool := bit (byteAt f 14) 4

/-- A stored frame with its tag set to `pcp` and `vid`, inserted if it has none (R257). -/
def retag (pcp vid : Nat) (f : List Byte) : List Byte :=
  let tci := beBytes 2 (pcp % 8 * 8192 + b2n (tagged f && frameDei f) * 4096 + vid % 4096)
  if tagged f then splice f 14 tci else f.take 12 ++ beBytes 2 0x8100 ++ tci ++ f.drop 12

/-- The valid tunnel of KIND `k` whose OUT_QUEUE is `q`, the lowest-numbered one (R162). -/
def Hub.tunOf (s : Hub) (k q : Nat) : Option Tun :=
  (s.plan.tunnels.find? (fun e => e.2.kind == k && e.2.outq == some q)).map (fun e => e.2)

/-- A frame, or its first bytes, as it leaves queue `q`: with the VLAN tag of the NET tunnel that drops into the queue, where its
BINDING.REWRITE is 1 (R257). -/
def Hub.leaveTag (s : Hub) (q : Nat) (f : List Byte) : List Byte :=
  match s.tunOf 1 q with
  | none => f
  | some u => if bit u.bind 31 then retag (bits u.bind 30 28) (bits u.bind 27 16) f else f

/-- The oldest complete packet of a queue a consumer may take; a disabled queue is empty (R163). -/
def Hub.headPkt (s : Hub) (q : Nat) : Option (List QCell) :=
  if s.qEnabled q then (s.queue q).pkts.head? else none

/-- A packet carries a poisoned cell. -/
def pktPoison (p : List QCell) : Bool := p.any (fun c => c.poison)

/-- A packet is a gap marker. -/
def pktGap (p : List QCell) : Bool := p.any (fun c => c.gap)

/-- The bytes of packet `p` as it leaves queue `q` (R257). -/
def Hub.leaveBytes (s : Hub) (q : Nat) (p : List QCell) : List Byte :=
  if pktGap p then s.pktBytes p else s.leaveTag q (s.pktBytes p)

/-- The oldest complete packet is freed: FULL clears (R170), and a claim may complete (R174). -/
def Hub.popPkt (q : Nat) (s : Hub) : Hub :=
  let Q := s.queue q
  (s.setQueue q { Q with pkts := Q.pkts.tail, full := if Q.pkts.isEmpty then Q.full else false }).claimCheck

/-! Flushing (R509). -/

/-- The gap state after the markers among `pkts` merge into it (R509). -/
def Hub.mergeMarkers (s : Hub) (g : GapPend) (pkts : List (List QCell)) : GapPend :=
  pkts.foldl (fun g p => if pktGap p then g.merge (GapPend.ofBytes (s.pktBytes p)) else g) g

/-- The block engine's chains that lose a cell a flush frees: a slot's data and header cells, and RINGQ's (R276, R281, R509). Log entry 51 (DEDUCED). -/
def Hub.dropChains (gone : List QCell) (s : Hub) : Hub :=
  let out (i : Nat) : Bool := gone.any (fun c => c.idx == i)
  { s with blk := { s.blk with
    slots := s.blk.slots.mapVal (fun _ x => { x with cells := if x.cells.any out then [] else x.cells, hdrCell := x.hdrCell.filter (fun i => !out i) }),
    ports := s.blk.ports.mapVal (fun _ P => { P with ring := if P.ring.any out then [] else P.ring }) } }

/-- A flush of queue `q`: every cell is freed, those granted to it outside any packet too, FULL clears, the rest of an open packet is discarded as it arrives, and a
STREAM queue's markers merge into the pending gap state (R509). Log entry 51 (DEDUCED). -/
def Hub.flushQ (q : Nat) (s : Hub) : Hub :=
  let Q := s.queue q
  let g := if s.qControl q then Q.gap else s.mergeMarkers Q.gap Q.pkts
  let Q1 : Queue := { Q with pkts := [], part := [], granted := [], isOpen := false, full := false, gap := g,
                             skip := if Q.isOpen then .rest else Q.skip }
  let ports := s.pool.readPorts.mapVal (fun _ r => if r.queue = some q then { r with pos := 0 } else r)
  ((({ s with pool := { s.pool with readPorts := ports } } : Hub).setQueue q Q1).dropChains Q.granted).claimCheck

/-- The data packets a queue holds, the open one included (R175). -/
def Queue.dataPkts (Q : Queue) : Nat := (Q.pkts.filter (fun p => !pktGap p)).length + b2n Q.isOpen

/-- A flush whose rule accounts the loss: CAUSE bit `cause` and the packets for a STREAM queue, OVERRUN for a CONTROL queue
(R175, R420, R464). -/
def Hub.flushLossy (q cause : Nat) (s : Hub) : Hub :=
  let n := (s.queue q).dataPkts
  let s1 := s.flushQ q
  if s.qControl q then s1.setOverrun q else s1.gapLoss q n 0 cause

/-- A flush for an uncorrectable link word (R420): the cells behind the first bad link are reached no more, and wait for the
audit. Log entry 51 (DEDUCED). -/
def Hub.flushLink (q : Nat) (s : Hub) : Hub :=
  let behind := ((s.queue q).cells.dropWhile (fun c => !s.eccBad 4 (c.idx / 2))).tail
  let s1 := s.flushLossy q 4
  { s1 with pool := { s1.pool with lost := s1.pool.lost ++ behind.map (fun c => c.idx) } }

/-- A flush that clears the pending gap state after the merge (CPL_QCTL.FLUSH, R178; clearing EN, R180). -/
def Hub.flushClear (q : Nat) (s : Hub) : Hub :=
  let s1 := s.flushQ q
  s1.setQueue q { s1.queue q with gap := {} }

/-- The read path over a packet's cells: payload words and link words (R420, R422, R423). -/
def Hub.pktTouch (p : List QCell) (s : Hub) : Hub :=
  p.foldl (fun t c => (t.memTouch (256 * c.idx) (c.lenm1 + 1)).eccTouch 4 (c.idx / 2)) s

/-- Some link word of a packet is uncorrectable (R420). Log entry 52 (DEDUCED). -/
def Hub.linkBad (s : Hub) (p : List QCell) : Bool := p.any (fun c => s.eccBad 4 (c.idx / 2))

/-- Cells whose line-memory words are uncorrectable get POISON (R420). -/
def Hub.poisonBad (s : Hub) (p : List QCell) : List QCell :=
  p.map (fun c => { c with poison := c.poison || s.memBad (256 * c.idx) (c.lenm1 + 1) })

/-- A consumer reads the oldest packet of queue `q`: errors are counted and logged, a bad payload word poisons its cell, and
a bad link word flushes the queue (R420). The packet is none where there is nothing to take. -/
def Hub.readHead (q : Nat) (s : Hub) : Option (List QCell) × Hub :=
  match s.headPkt q with
  | none => (none, s)
  | some p =>
    let s1 := s.pktTouch p
    if s.linkBad p then (none, s1.flushLink q)
    else
      let p1 := s.poisonBad p
      let Q := s1.queue q
      (some p1, s1.setQueue q { Q with pkts := p1 :: Q.pkts.tail })

/-! The carve-out (R174, R175). -/

/-- The condition of R166, with `minSum` in place of the sum of minimums and `pend` the pending carve-out in cells. -/
def poolCondition (active pend minSum : Nat) : Bool := decide (4096 + max active pend + minSum ≤ poolCells)

/-- C_pending: the carve-out in cells of a pending section in READY, ARMED or ARMED_T, else 0 (R166). -/
def Hub.pendCarve (s : Hub) : Nat :=
  let st := s.getf Fld.PLN_STATUS_PEND_STATE
  if st = 4 ∨ st = 6 ∨ st = 7 then 256 * s.plan.pendUnits else 0

/-- The sum of the minimums of the enabled GENERAL queues (R166). -/
def Hub.minSum (s : Hub) : Nat := s.generalQs.foldl (fun n q => n + s.qMin q) 0

/-- A fence goes up: c_eff takes the larger carve-out (R174). -/
def Hub.fenceCarve (new : Nat) (s : Hub) : Hub :=
  if s.pool.carve < new then ({ s with pool := { s.pool with carveEff := new } } : Hub).poolWatch s.genShared else s

/-- The fence is lifted: c_eff is the carve-out in force again (R174). -/
def Hub.liftFence (s : Hub) : Hub := { s with pool := { s.pool with carveEff := s.pool.carve } }

/-- A carve-out of `new` cells takes effect at a switch or a revert (R174). -/
def Hub.applyCarve (new : Nat) (s : Hub) : Hub :=
  let old := s.pool.carve
  let s1 : Hub := { s with pool := { s.pool with carve := new, carveEff := new } }
  let claim : Option Claim :=
    match s.pool.claim with
    | none => if old < new then some ⟨old, new, s.tick, s.tick + 64⟩ else none
    | some c =>
      if c.hi ≤ new then some ⟨c.lo, new, s.tick, s.tick + 64⟩
      else if c.lo < new then some { c with hi := new }
      else none
  let claim := if s.pool.claim.isSome && decide (new = old) then s.pool.claim else claim
  (({ s1 with pool := { s1.pool with claim := claim } } : Hub).poolWatch s.genShared).claimCheck

/-- CARVE_CLAIM_DEADLINE: the queues that still hold claim cells are flushed, and the claim completes (R175). -/
def Hub.carveDeadline (s : Hub) : Hub :=
  match s.pool.claim with
  | none => s
  | some c =>
    if s.tick < c.deadline then s
    else
      let inClaim (i : Nat) : Bool := decide (c.lo ≤ i) && decide (i < c.hi)
      let qs := (s.pool.queues.filter (fun e => e.2.cells.any (fun x => inClaim (QCell.idx x)))).map (fun e => e.1)
      if qs.isEmpty then s
      else
        let freed := qs.foldl (fun n q => n + (s.queue q).occ) 0
        let s0 : Hub := { s with pool := { s.pool with claim := none } }
        let s1 := qs.foldl (fun t q => t.flushLossy q 8) s0
        ((s1.count Cnt.CPL_CNT_CARVE_FLUSH freed).raise Evt.CPL_CARVE_FLUSH [qs.length, freed]).raise Evt.CPL_CARVE_CLAIMED
          [s.pool.carve / 256, s.tick - c.start]

/-! Bindings (R162). -/

/-- A configured producer binding takes effect and displaces an implicit one. -/
def Hub.bindProd (q : Nat) (w : Who) (s : Hub) : Hub :=
  s.setQueue q { s.queue q with prod := some w, prodImplicit := false }

/-- A configured consumer binding takes effect. -/
def Hub.bindCons (q : Nat) (w : Who) (s : Hub) : Hub := s.setQueue q { s.queue q with cons := some w }

/-- `w` holds queue `q`'s producer binding no longer. -/
def Hub.unbindProd (q : Nat) (w : Who) (s : Hub) : Hub :=
  if (s.queue q).prod = some w then s.setQueue q { s.queue q with prod := none, prodImplicit := false } else s

/-- `w` holds queue `q`'s consumer binding no longer. -/
def Hub.unbindCons (q : Nat) (w : Who) (s : Hub) : Hub :=
  if (s.queue q).cons = some w then s.setQueue q { s.queue q with cons := none } else s

/-- The queue has a configured producer of its own class (R162): an implicit one does not count. -/
def Hub.prodTaken (s : Hub) (q : Nat) : Bool := (s.queue q).prod.isSome && !(s.queue q).prodImplicit

/-- The queue has a consumer binding. -/
def Hub.consTaken (s : Hub) (q : Nat) : Bool := (s.queue q).cons.isSome

/-! Read ports (R173). -/

/-- Read port `p`. -/
def Hub.readPort (s : Hub) (p : Nat) : ReadPort := Tab.getD s.pool.readPorts p {}

/-- The state with read port `p` as `r`. -/
def Hub.setReadPort (p : Nat) (r : ReadPort) (s : Hub) : Hub :=
  { s with pool := { s.pool with readPorts := Tab.put p r s.pool.readPorts } }

/-- The word a read port returns when there is nothing to take (R173). -/
def emptyWord : Nat := 0x7FFFFFFFFFFFFFFF

/-- Word `k` of a packet as a read port delivers it: the header, then one data word per 4 bytes (R173). -/
def Hub.portWord (s : Hub) (q : Nat) (p : List QCell) (k : Nat) : Nat :=
  let bs := s.leaveBytes q p
  if k = 0 then
    2 ^ 63 + 2 ^ 62 + b2n (pktGap p) * 2 ^ 61 + b2n (pktPoison p) * 2 ^ 60 + (cdiv bs.length 256 - 1) * 2 ^ 16 + (bs.length - 1)
  else
    let o := 4 * (k - 1)
    let d := slice bs o 4
    2 ^ 63 + b2n (decide (bs.length ≤ o + 4)) * 2 ^ 61 + (d.length - 1) * 2 ^ 56 + o * 2 ^ 32 + leNat d

/-- Word `k` is the packet's last (R173). -/
def Hub.portLast (s : Hub) (q : Nat) (p : List QCell) (k : Nat) : Bool :=
  decide (1 ≤ k) && decide ((s.leaveBytes q p).length ≤ 4 * k)

/-- The next word of a read port's queue, as the 64-bit value and the state after it: the packet's cells are freed when its
LAST word is read (R173). -/
def Hub.portTake (p : Nat) (s : Hub) : Nat × Hub :=
  let r := s.readPort p
  match r.queue with
  | none => (emptyWord, s)
  | some q =>
    let (pk, s1) := if r.pos = 0 then s.readHead q else (s.headPkt q, s)
    match pk with
    | none => (emptyWord, s1)
    | some pkt =>
      let w := s1.portWord q pkt r.pos
      if s1.portLast q pkt r.pos then (w, (s1.popPkt q).setReadPort p { r with pos := 0 })
      else (w, s1.setReadPort p { r with pos := r.pos + 1 })

/-- The read port's binding is released; a capture queue goes back to its router (R173). -/
def Hub.portRelease (p : Nat) (s : Hub) : Hub :=
  let r := s.readPort p
  match r.queue with
  | none => s
  | some q => ((s.unbindCons q (.port p)).setReadPort p { r with queue := none, pos := 0 }).setf (Fld.CPL_QRP_SEL_BOUND p) 0

/-- A read-port binding is refused (R173): the queue is disabled, lies in 0 to 7, or has a consumer. -/
def Hub.portRefused (s : Hub) (q : Nat) : Bool := !s.qEnabled q || decide (q < 8) || s.consTaken q

/-! Snapshots (R176, R438). -/

/-- Every queue's snapshot, and the pool registers' (R176). -/
def Hub.snapshotPool (s : Hub) : Hub :=
  let s1 : Hub := { s with pool := { s.pool with
    snaps := s.pool.queues.map (fun e => (e.1, ⟨e.2.occ, e.2.pkts.length, e.2.full, e.2.gap⟩)) } }
  s1 |>.setf Fld.CPL_GEN_SIZE s.genSize |>.setf Fld.CPL_GEN_FREE s.genFree |>.setf Fld.CPL_GEN_RESERVED s.genReserved

end Sys2Proof.Machine
end

