-- ==== Sys2Proof/Machine/Locks.lean ====
section
/-! DEFINITION. Maintenance activities, their locks and slots, and cells withheld from the pool (R427, R434 to R437). -/

namespace Sys2Proof.Machine

/-! Withheld cells (R427, R436, R464). -/

/-- The cells of row `r` of bank `b` (R426). -/
def rowCells (b r : Nat) : Nat × Nat := (65536 * b + 8 * r, 65536 * b + 8 * r + 8)

/-- The cells of bank `b` (R426). -/
def bankCells (b : Nat) : Nat × Nat := (65536 * b, 65536 * b + 65536)

/-- A range of cells lies inside `lo` to `hi - 1`. -/
def rangeIn (lo hi : Nat) (x : Nat × Nat) : Bool := decide (lo ≤ x.1) && decide (x.2 ≤ hi)

/-- Cells `lo` to `hi - 1` are withheld: what was withheld inside joins them. -/
def Hub.fence (lo hi : Nat) (s : Hub) : Hub :=
  ({ s with pool := { s.pool with withheld := s.pool.withheld.filter (fun x => !rangeIn lo hi x) ++ [(lo, hi)] } } : Hub).poolWatch s.genShared

/-- Cells `lo` to `hi - 1` return, but for the rows that stay withheld (R427, R436). -/
def Hub.unfence (lo hi : Nat) (s : Hub) : Hub :=
  let rows := (s.rel.outRows.map (fun x => rowCells x.1 x.2)).filter (rangeIn lo hi)
  { s with pool := { s.pool with withheld := s.pool.withheld.filter (fun x => x != (lo, hi)) ++ rows } }

/-- A row is withheld (R427); it is so once only, and inside a fenced range already. -/
def Hub.outRow (b r : Nat) (s : Hub) : Hub :=
  let c := rowCells b r
  let s1 : Hub := if s.rel.outRows.contains (b, r) then s else { s with rel := { s.rel with outRows := s.rel.outRows ++ [(b, r)] } }
  if s1.pool.withheld.any (fun x => rangeIn x.1 x.2 c) then s1 else s1.fence c.1 c.2

/-- A withheld row returns. -/
def Hub.inRow (b r : Nat) (s : Hub) : Hub :=
  let s1 : Hub := { s with rel := { s.rel with outRows := s.rel.outRows.filter (fun x => x != (b, r)) } }
  s1.unfence (rowCells b r).1 (rowCells b r).2

/-- The cells of `lo` to `hi - 1` that nothing holds read 0, and the errors of their words end. Log entry 152 (DEDUCED). -/
def Hub.zeroCells (lo hi : Nat) (s : Hub) : Hub :=
  let held := s.heldIdx
  let gone (a : Nat) : Bool := decide (256 * lo ≤ a) && decide (a < 256 * hi) && !held.contains (a / 256)
  let bad (k : Nat) : Bool := decide (k / 2 ^ 23 < 4) && gone (k / 2 ^ 23 * 16777216 + k % 2 ^ 23 * 8)
  { s with lineMem := Tab.delIf gone s.lineMem, rel := { s.rel with flips := Tab.delIf bad s.rel.flips } }

/-! Activities (R434). -/

/-- TYPE of an activity. -/
def Act.type (a : Act) : Nat := a.id / 4096

/-- Types of activities. -/
def mtEye : Nat := 1
def mtLoop : Nat := 2
def mtBist : Nat := 3
def mtRepair : Nat := 4
def mtAgeing : Nat := 5
def mtFuse : Nat := 6

/-- The running activity with this ID. -/
def Hub.actBy (s : Hub) (id : Nat) : Option Act := s.rel.acts.find? (fun a => a.id == id)

/-- The activity that holds a resource. -/
def Hub.holderOf (s : Hub) (l : LockOn) : Option Act := s.rel.acts.find? (fun a => a.locks.contains l)

/-- An activity of type `t` on `l` and one of type `u` on `m` exclude one another (R434). -/
def excludes (t : Nat) (l : LockOn) (u : Nat) (m : LockOn) : Bool :=
  match l, m with
  | .pair n, .pair k => n / 8 == k / 8 && ((t == mtEye && u == mtLoop) || (t == mtLoop && u == mtEye))
  | .bank b, .row c _ => b == c
  | .row c _, .bank b => b == c
  | .row _ _, .row _ _ => true
  | .row _ _, .fuses => true
  | .fuses, .row _ _ => true
  | _, _ => false

/-- The running activity that excludes one of type `t` with locks `ls` (R434). -/
def Hub.excluder (s : Hub) (t : Nat) (ls : List LockOn) : Option Act :=
  s.rel.acts.find? (fun a => ls.any (fun l => a.locks.any (fun m => excludes t l a.type m)))

/-- The checks of R435 before the target's own: BUSY with the holder and EXCL, or LIMIT. -/
def Hub.lockRefusal (s : Hub) (t : Nat) (ls : List LockOn) : Option (Nat × Nat × Bool) :=
  match ls.findSome? s.holderOf with
  | some a => some (1, a.id, false)
  | none =>
    match s.excluder t ls with
    | some a => some (1, a.id, true)
    | none => if 4 ≤ s.rel.acts.length then some (2, 0, false) else none

/-- The serial after `n`: 12 bits, 0 skipped (R434). -/
def serialAfter (n : Nat) : Nat := if n = 4095 then 1 else n + 1

/-- The slot a new activity takes: one never used, else the oldest finished (R437). Log entry 148 (DEDUCED). -/
def Hub.actSlot (s : Hub) : Nat :=
  let busy := s.rel.acts.map (fun a => a.slot)
  match (List.range 4).find? (fun i => !busy.contains i && !s.rel.finished.contains i) with
  | some i => i
  | none => s.rel.finished.headD 0

/-- An activity starts: it takes its ID, a slot and its locks (R434, R435, R437). `st` is the slot's STATE. -/
def Hub.startAct (t target st : Nat) (ls : List LockOn) (s : Hub) : Nat × Hub :=
  let serial := serialAfter s.rel.serial
  let i := s.actSlot
  let id := 4096 * t + serial
  let s1 : Hub := { s with rel := { s.rel with
    serial := serial, finished := s.rel.finished.filter (fun x => x != i), eyeMaps := Tab.del i s.rel.eyeMaps,
    acts := s.rel.acts ++ [{ id := id, slot := i, locks := ls, target := target, at' := s.up }] } }
  (id, s1 |>.setf (Fld.REL_MAINT_STAT_0_ID i) id |>.setf (Fld.REL_MAINT_STAT_0_STATE i) st |>.setf (Fld.REL_MAINT_STAT_0_CAUSE i) 0
    |>.setf (Fld.REL_MAINT_STAT_1_TARGET i) target |>.setf (Fld.REL_MAINT_STAT_2_PROGRESS i) 0
    |>.setf (Fld.REL_MAINT_STAT_3_RESULT i) 0)

/-- An activity ends: its locks are released and its slot keeps the final state (R437). -/
def Hub.endAct (a : Act) (st cause : Nat) (s : Hub) : Hub :=
  let s1 : Hub := { s with rel := { s.rel with
    acts := s.rel.acts.filter (fun b => b.id != a.id), finished := s.rel.finished ++ [a.slot] } }
  s1 |>.setf (Fld.REL_MAINT_STAT_0_STATE a.slot) st |>.setf (Fld.REL_MAINT_STAT_0_CAUSE a.slot) cause

/-- The loopback of port `p` that runs (R434). Log entry 147 (DEDUCED). -/
def Hub.loopAct (s : Hub) (p : Nat) : Option Act :=
  s.rel.acts.find? (fun a => a.type == mtLoop && a.target / 16 == p)

/-- What an activity withheld comes back: a bank with its free cells zeroed, or the row of a repair that did not burn. -/
def Hub.giveBack (a : Act) (s : Hub) : Hub :=
  match a.locks with
  | [.bank b] => (s.zeroCells (bankCells b).1 (bankCells b).2).unfence (bankCells b).1 (bankCells b).2
  | [.row b r] => s.inRow b r
  | _ => s

/-- An activity is aborted with a cause of R437. Log entry 152 (DEDUCED). -/
def Hub.abortAct (a : Act) (cause : Nat) (s : Hub) : Hub :=
  ((s.giveBack a).raise Evt.REL_MAINT_ABORT [a.id, cause]).endAct a 4 cause

/-- The event of R437 that has ended the condition an activity needs, as its cause. -/
def Hub.actBroken (s : Hub) (a : Act) : Option Nat :=
  if a.type = mtLoop then none
  else match a.locks with
    | [.pair n] =>
      if s.getf (Fld.TRK_PORT_STATUS_LINK (n / 8)) ≠ 5 then some 3
      else if s.flag (Fld.TRK_PAIR_STATUS_RX_SLEEP n) || s.getf (Fld.TRK_PAIR_STATUS_DIR n) != 2 then some 2
      else none
    | [.dom d] => if s.getf (Fld.PWR_DOM_STATUS_STEP d) = 0 ∧ s.getf (Fld.PWR_DOM_STATUS_STATE d) = 0 then none else some 6
    | [.chan c] => if s.getf (Fld.LPW_CH_STATUS_STATE c) = 3 then none else some 6
    | [.bank b] =>
      let st := s.getf Fld.PLN_STATUS_PEND_STATE
      if st = 6 ∧ 65536 * b < 256 * s.plan.pendUnits then some 4 else none
    | _ => none

/-- Activities whose condition has ended are aborted (R437). -/
def Hub.maintSweep (s : Hub) : Hub :=
  s.rel.acts.foldl (fun t a => match t.actBroken a with
    | some c => t.abortAct a c
    | none => t) s

end Sys2Proof.Machine
end

