-- ==== Sys2Proof/Machine/Runs.lean ====
section
/-! DEFINITION. Gate runs, the section in force, and which pairs it uses (R44, R54, R124, R126, R129, R146). -/

namespace Sys2Proof.Machine

/-- The other port. -/
def otherPort (p : Nat) : Nat := 1 - p

/-! Gate runs (R124, R126). -/

/-- Fields of a gate run. -/
def rValid (r : Nat) : Bool := bit r 63
def rPlan (r : Nat) : Bool := bit r 62
def rAction (r : Nat) : Nat := bits r 61 60
def rPort (r : Nat) : Nat := bits r 59 59
def rPair (r : Nat) : Nat := bits r 58 56
def rTunnel (r : Nat) : Nat := bits r 55 44
def rStart (r : Nat) : Nat := bits r 43 34
def rLen (r : Nat) : Nat := bits r 33 24
def rMask (r : Nat) : Nat := bits r 15 0

/-- Actions (R124). -/
def acPass : Nat := 0
def acDrop : Nat := 1
def acAdd : Nat := 2
def acDropAdd : Nat := 3

/-- The port the run's cells leave by: half of its travel key (R126). -/
def rOut (r : Nat) : Nat := if rAction r = acAdd then rPort r else otherPort (rPort r)

/-- Pair `k` of port `p` has runs in the section's epoch (R129). -/
def Sec.hasRuns (c : Sec) (p k : Nat) : Bool :=
  c.runs.any (fun r => rPair r == k && (rOut r == p || rPort r == p))

/-! The section and the pairs in force. -/

/-- The physical bank in force, and the other one. -/
def Hub.actBank (s : Hub) : Nat := s.getf Fld.PLN_STATUS_ACTIVE_BANK
def Hub.pendBank (s : Hub) : Nat := 1 - s.actBank

/-- A loaded plan is in force. -/
def Hub.loadedPlan (s : Hub) : Bool := !s.flag Fld.PLN_STATUS_TRANSPARENT

/-- The active section, while a loaded plan is in force. -/
def Hub.actSec (s : Hub) : Option Sec := if s.loadedPlan then Tab.get? s.actBank s.plan.banks else none

/-- DIR codes of TRK_PAIR_STATUS (R73). -/
def dirNone : Nat := 0
def dirOut : Nat := 1
def dirIn : Nat := 2

/-- Pair `k` can pass between the ports under these PAIRS elements (R146). -/
def canPass (pairs : List Nat) (k : Nat) : Bool :=
  let d (p : Nat) := bits (pairs.getD (8 * p + k) 0) 1 0
  bit (pairs.getD k 0) 3 == bit (pairs.getD (8 + k) 0) 3 && ((d 0 == dirIn && d 1 == dirOut) || (d 0 == dirOut && d 1 == dirIn))

/-- The PAIRS elements now in force: the active epoch's since the first switch, before it what the registers show (R44). -/
def Hub.pairsNow (s : Hub) : List Nat :=
  s.plan.live.getD
    ((List.range 16).map (fun n => s.getf (Fld.TRK_PAIR_STATUS_DIR n) + 8 * s.getf (Fld.TRK_PAIR_STATUS_NRZ n)))

/-- The plan in force uses pair `k` of port `p`: it has runs in the active section, it can pass in a transparent plan entered at a
switch, and in the bring-up transparent plan it did not end FAULTY (R44, R54, R146). -/
def Hub.pairUsed (s : Hub) (p k : Nat) : Bool :=
  match s.plan.live, s.actSec with
  | none, _ => s.getf (Fld.TRK_PAIR_STATUS_CAP (8 * p + k)) != 2
  | some _, some c => c.hasRuns p k
  | some ps, none => canPass ps k

end Sys2Proof.Machine
end

