-- ==== Sys2Proof/Machine/TimeBase.lean ====
section
/-! DEFINITION. Line time as the other blocks use it: its state, mapped time (R185) and time stamps in units of 2^-16 ns. -/

namespace Sys2Proof.Machine

/-- Time states of LTM_STATUS.STATE (R210). -/
def tmFree : Nat := 0
def tmAcquiring : Nat := 1
def tmLocked : Nat := 2
def tmHoldover : Nat := 3
def tmHoldLimit : Nat := 4

/-- The time state. -/
def Hub.timeState (s : Hub) : Nat := s.getf Fld.LTM_STATUS_STATE

/-- Line time is LOCKED (R187, R191). -/
def Hub.timeLocked (s : Hub) : Bool := s.timeState == tmLocked

/-- Mapped time is valid (R185). -/
def Hub.mapValid (s : Hub) : Bool := s.flag Fld.LTM_ORIGIN_NS_MAP_VALID

/-- ORIGIN in nanoseconds (R185). -/
def Hub.originNs (s : Hub) : Nat :=
  (s.getf Fld.LTM_ORIGIN_SEC_HI * 2 ^ 32 + s.getf Fld.LTM_ORIGIN_SEC_LO) * 1000000000 + s.getf Fld.LTM_ORIGIN_NS_NS

/-- Mapped time of line time `t` in ns: ORIGIN + t (R185). -/
def Hub.mapped (s : Hub) (t : Nat) : Nat := s.originNs + t

/-- A PTP timestamp of mapped time: 48-bit seconds and 32-bit nanoseconds (R198). Log entry 86 (PRESUMED). -/
def ptpStamp (ns : Nat) : List Byte := beBytes 6 (ns / 1000000000) ++ beBytes 4 (ns % 1000000000)

/-- Subunits of a nanosecond. -/
def fracUnit : Nat := 65536

end Sys2Proof.Machine
end

