-- ==== Sys2Proof/Machine/TimePath.lean ====
section
/-! DEFINITION. Trunk links as the time path sees them, and the path a node takes its time from (R189, R210). -/

namespace Sys2Proof.Machine

/-- Link states of TRK_PORT_STATUS.LINK (R68). -/
def lkDown : Nat := 0
def lkLowSpeed : Nat := 1
def lkHandshake : Nat := 2
def lkPam3 : Nat := 3
def lkPairTest : Nat := 4
def lkUp : Nat := 5
def lkFailed : Nat := 6

/-- The link state of port `p`. -/
def Hub.link (s : Hub) (p : Nat) : Nat := s.getf (Fld.TRK_PORT_STATUS_LINK p)

/-- The trunk link of port `p` is up. -/
def Hub.linkUp (s : Hub) (p : Nat) : Bool := s.link p == lkUp

/-- Time measurement at trunk port `p`. -/
def Hub.tport (s : Hub) (p : Nat) : TimePort := Tab.getD s.time.ports p {}

/-- The state with time port `p` as `T`. -/
def Hub.setTport (p : Nat) (T : TimePort) (s : Hub) : Hub :=
  { s with time := { s.time with ports := Tab.put p T s.time.ports } }

/-- The port of a node's time path (R189, R210). -/
def Hub.timePath (s : Hub) : Option Nat :=
  match s.getf Fld.LTM_STATUS_PATH with
  | 1 => some 0
  | 2 => some 1
  | _ => none

/-- HOPS_GM as the register shows it: 9 bits, 0x1FF with no path (R210). -/
def Hub.setHopsGm (h : Nat) (s : Hub) : Hub := s.setf Fld.LTM_STATUS_HOPS_GM (if h = 0xFFFF then 0x1FF else h)

/-- A port offers time: its link is up and its HOPS_GM is not 0xFFFF (R189). -/
def Hub.offers (s : Hub) (p : Nat) : Bool := s.linkUp p && (s.tport p).hops != 0xFFFF

/-- The node's state becomes `st`. -/
def Hub.setTimeState (st : Nat) (s : Hub) : Hub := s.setf Fld.LTM_STATUS_STATE st

/-- HOPS_GM and GM_SRC of the path at port `p`, as its frames give them (R210). -/
def Hub.showPath (p : Nat) (s : Hub) : Hub :=
  (s.setHopsGm ((s.tport p).hops + 1)).setf Fld.LTM_STATUS_GM_SRC ((s.tport p).gmState / 16)

/-- The time path becomes port `p`, and the node acquires it (R189). -/
def Hub.switchPath (p : Nat) (s : Hub) : Hub :=
  let s1 := ((s.setf Fld.LTM_STATUS_PATH (p + 1)).showPath p).setTimeState tmAcquiring
  let s2 : Hub := { s1 with time := { s1.time with lockRun := 0, stepRun := 0 } }
  if s.timeState = tmFree then s2 else s2.raise Evt.LTM_PATH_SWITCH [p, (s.tport p).hops + 1]

/-- The path is left with no other to take: HOLDOVER (R189). -/
def Hub.losePath (p : Nat) (s : Hub) : Hub :=
  let s1 := (((s.setf Fld.LTM_STATUS_PATH 0).setHopsGm 0xFFFF).setf Fld.LTM_STATUS_GM_SRC 0).setTimeState tmHoldover
  ({ s1 with time := { s1.time with holdSince := s.up } } : Hub).raise Evt.LTM_HOLDOVER [p]

/-- A node whose path runs through port `p` leaves it for the other port where that offers measured time, or for HOLDOVER
(R189). -/
def Hub.leavePath (p : Nat) (s : Hub) : Hub :=
  if s.isHead || s.timePath != some p then s
  else if s.offers (otherPort p) && (s.tport (otherPort p)).measured then s.switchPath (otherPort p)
  else s.losePath p

/-- What a port whose link goes down had measured is dropped, and a time path through it is left at once (R189). Log entry 57 (DEDUCED). -/
def Hub.dropTime (p : Nat) (s : Hub) : Hub :=
  (({ s with time := { s.time with ports := Tab.del p s.time.ports } } : Hub)).leavePath p

end Sys2Proof.Machine
end

