-- ==== Sys2Proof/Machine/TrunkOps.lean ====
section
/-! DEFINITION. Shared operations of trunk ports and pairs: bands, attach, cable identity, the board EQ table, bring-up and
link-down (R35 to R73). -/

namespace Sys2Proof.Machine

/-- Trunk port `p`. -/
def Hub.port (s : Hub) (p : Nat) : TrunkPort := Tab.getD s.trunk.ports p {}

/-- The state with trunk port `p` as `P`. -/
def Hub.setPort (p : Nat) (P : TrunkPort) (s : Hub) : Hub :=
  { s with trunk := { s.trunk with ports := Tab.put p P s.trunk.ports } }

/-- The lane record of pair `k` of port `p`. -/
def Hub.lane (s : Hub) (p k : Nat) : Lane := Tab.getD s.trunk.lanes (8 * p + k) {}

/-- The state with the lane record of pair `k` of port `p` as `L`. -/
def Hub.setLane (p k : Nat) (L : Lane) (s : Hub) : Hub :=
  { s with trunk := { s.trunk with lanes := Tab.put (8 * p + k) L s.trunk.lanes } }

/-- Attach states of TRK_PORT_STATUS.ATTACH (R68). -/
def atDetached : Nat := 0
def atDebounce : Nat := 1
def atAttached : Nat := 2
def atMiscabled : Nat := 3
def atFailsafe : Nat := 4

/-- The attach state of port `p`. -/
def Hub.attach (s : Hub) (p : Nat) : Nat := s.getf (Fld.TRK_PORT_STATUS_ATTACH p)

/-- A CFG pin's band from its voltage in mV: between bands it keeps its previous band (R38). -/
def classify (old : Band) (mv : Nat) : Band :=
  if mv < 420 then .low
  else if mv ≤ 750 then .dd
  else if 850 ≤ mv ∧ mv ≤ 1450 then .sense
  else if 2600 < mv then .high
  else old

/-- Some pin is the sense pin: exactly one in SENSE, at the D port with the other in LOW or HIGH (R39). -/
def senseFound (p : Nat) (a b : Band) : Bool :=
  let one (x y : Band) : Bool := x == .sense && y != .sense && (p == 0 || y == .low || y == .high)
  one a b || one b a

/-- A D-to-D cable: one pin HIGH and the other DD (R39). -/
def dToD (p : Nat) (a b : Band) : Bool :=
  p == 1 && ((a == .high && b == .dd) || (a == .dd && b == .high))

/-- The pin the port reads CSUP on, which is not the sense pin (R40). -/
def Hub.csupBand (s : Hub) (p : Nat) : Band :=
  if s.flag (Fld.TRK_PORT_STATUS_FLIPPED p) then (s.port p).band1 else (s.port p).band2

/-- The port is held down: EN = 0, a head conflict (R19), the held state (R23), failsafe (R39), or no usable EQ table (R58). -/
def Hub.portHeld (s : Hub) (p : Nat) : Bool :=
  !s.flag (Fld.TRK_PORT_CTL_EN p) || (s.port p).conflict || s.isHeld || s.attach p == atFailsafe

/-! The board EQ table (R56 to R59). -/

/-- A signed byte. -/
def sbyte (bs : List Byte) (o : Nat) : Int := sgn 8 (byteAt bs o)

/-- A row of 12 bytes with its validity (R57). -/
def eqRow (bs : List Byte) : EqRow :=
  let pre := sbyte bs 2
  let main := byteAt bs 3
  let post := sbyte bs 4
  let dfe := (List.range 4).all (fun i => decide (-64 ≤ sbyte bs (7 + i)) && decide (sbyte bs (7 + i) ≤ 63))
  { lossMax := beNat (slice bs 0 2), codes := slice bs 2 9,
    valid := decide (-24 ≤ pre) && decide (pre ≤ 0) && decide (main ≤ 127) && decide (-40 ≤ post) && decide (post ≤ 0)
      && decide (byteAt bs 5 ≤ 31) && decide (byteAt bs 6 ≤ 7) && dfe
      && decide (pre.natAbs + main + post.natAbs ≤ 127) }

/-- `n` rows from the front of `bs`. -/
def eqRows : (n : Nat) → (bs : List Byte) → List EqRow
  | 0, _ => []
  | n + 1, bs => eqRow (bs.take 12) :: eqRows n (bs.drop 12)

/-- `n` groups from the front of `bs` (R57). -/
def eqGroups : (n : Nat) → (bs : List Byte) → List EqGroup
  | 0, _ => []
  | n + 1, bs =>
    let h := byteAt bs 0
    let rows := byteAt bs 1
    ⟨bits h 3 3, bits h 2 0, bits h 4 4, eqRows rows (bs.drop 4)⟩ :: eqGroups n (bs.drop (4 + 12 * rows))

/-- The bytes that `n` groups at the front of `bs` take (R57). -/
def eqSize : (n : Nat) → (bs : List Byte) → Nat
  | 0, _ => 0
  | n + 1, bs => 4 + 12 * byteAt bs 1 + eqSize n (bs.drop (4 + 12 * byteAt bs 1))

/-- The board EQ table read from its bytes, none where MAGIC, VERSION, LENGTH or CRC is bad; LENGTH is good where it is what the
groups take (R56, R58). -/
def eqParse (bs : List Byte) : Option (List EqGroup) :=
  let len := beNat (slice bs 8 4)
  if beNat (slice bs 0 4) = 0x0960E001 ∧ beNat (slice bs 4 2) = 1 ∧ len ≤ bs.length ∧
      len = 16 + eqSize (beNat (slice bs 6 2)) (bs.drop 16) ∧ 1 ≤ beNat (slice bs 6 2) ∧ beNat (slice bs 6 2) ≤ 32 ∧
      crc32c (slice bs 16 (len - 16)) = beNat (slice bs 12 4) then
    some (eqGroups (beNat (slice bs 6 2)) (slice bs 16 (len - 16)))
  else none

/-- The ball pair of logical pair `k` of port `p` (R40). -/
def Hub.ballOf (s : Hub) (p k : Nat) : Nat := if s.flag (Fld.TRK_PORT_STATUS_FLIPPED p) then 7 - k else k

/-- The EQ group for pair `k` of port `p` under the cable's class, where it exists and every row is valid (R57, R58). -/
def Hub.eqGroup (s : Hub) (p k : Nat) : Option EqGroup :=
  match s.trunk.eq with
  | none => none
  | some gs =>
    (gs.find? (fun g => g.port == p && g.ball == s.ballOf p k && g.cls == s.getf (Fld.TRK_PORT_STATUS_CLASS p))).filter
      (fun g => decide (1 ≤ g.rows.length) && decide (g.rows.length ≤ 8) && g.rows.all (fun r => r.valid))

/-- The last row index of pair `k` of port `p`. -/
def Hub.lastRow (s : Hub) (p k : Nat) : Nat :=
  match s.eqGroup p k with
  | none => 0
  | some g => g.rows.length - 1

/-- The cable LOSS in force at port `p`: the record's, or 0xFFFF without a record (R37). -/
def Hub.cableLoss (s : Hub) (p : Nat) : Nat :=
  if (s.port p).record.isEmpty then 0xFFFF else beNat (slice (s.port p).record 6 2)

/-- The cable serial number in force at port `p` (R36). -/
def Hub.cableSerial (s : Hub) (p : Nat) : Nat := beNat (slice (s.port p).record 8 8)

/-- The initial row: the first whose LOSS_MAX is at least the cable's LOSS, else the last (R59). -/
def initialRow (rows : List EqRow) (loss : Nat) : Nat :=
  match rows.findIdx? (fun r => decide (loss ≤ r.lossMax)) with
  | some i => i
  | none => rows.length - 1

/-- The row of pair `k` of port `p` at bring-up: the higher of the initial row and the mitten's record for this cable (R59). -/
def Hub.bringupRow (s : Hub) (p k : Nat) : Nat :=
  match s.eqGroup p k with
  | none => 0
  | some g =>
    let r := initialRow g.rows (s.cableLoss p)
    match Tab.get? (8 * p + k) s.trunk.rowRecs with
    | none => r
    | some rec => if rec.serial = s.cableSerial p ∧ !s.eccBad 11 (6160 + 8 * p + k) then min (max r rec.row) (g.rows.length - 1) else r

/-- This end's row of pair `k` becomes `r`, and the mitten's row record is written (R59). Log entry 166 (DESIGN CHOICE). -/
def Hub.setRow (p k r : Nat) (s : Hub) : Hub :=
  let s1 := (s.setf (Fld.TRK_PAIR_STATUS_ROW (8 * p + k)) r).eccEnd 11 (6160 + 8 * p + k)
  { s1 with trunk := { s1.trunk with rowRecs := Tab.put (8 * p + k) ⟨s1.cableSerial p, r⟩ s1.trunk.rowRecs } }

/-! Cable identity (R36, R37). -/

/-- An ID record of one hood is valid (R36). -/
def idValid (endOf : Nat) (r : List Byte) : Bool :=
  let cls := byteAt r 1
  let len := beNat (slice r 4 2)
  decide (r.length = 32) && decide (crc16 (r.take 30) = beNat (slice r 30 2)) && byteAt r 0 == 1 && byteAt r 2 == endOf
    && byteAt r 3 == 0 && (slice r 16 14).all (fun b => b == 0)
    && ((cls == 7 && decide (len ≤ 700)) || (cls == 15 && decide (len ≤ 1500)))

/-- Two records are identical except for END and the CRC that covers it (R37). -/
def idSame (a b : List Byte) : Bool := a.take 2 == b.take 2 && slice a 3 27 == slice b 3 27

/-- LOSS of an ID record (R36). -/
def idLoss (r : List Byte) : Nat := beNat (slice r 6 2)

/-- Words 0 to 7 of TRK_CABLE_ID at port `p` (R72). Log entry 166 (DESIGN CHOICE). -/
def Hub.showRecord (p : Nat) (r : List Byte) (s : Hub) : Hub :=
  (List.range 8).foldl (fun t w => t.setf (Fld.TRK_CABLE_ID p w) (beNat (slice r (4 * w) 4))) s

/-- Record `r` comes into force at port `p` (R37); `valid` says it was read and valid, `own` that this end read it (R65). Row
records of another cable are discarded (R59). Log entry 166 (DESIGN CHOICE). -/
def Hub.takeRecord (p : Nat) (r : List Byte) (valid own : Bool) (s : Hub) : Hub :=
  let cls := if r.isEmpty || byteAt r 1 == 15 then 1 else 0
  let s1 := (s.setPort p { s.port p with record := r, recDone := true, recOwn := own }).showRecord p r
  let s2 := s1 |>.setf (Fld.TRK_PORT_STATUS_CLASS p) cls |>.setb (Fld.TRK_PORT_STATUS_ID_VALID p) valid
  let serial := s2.cableSerial p
  let keep := s2.trunk.rowRecs.filter (fun e => decide (e.1 / 8 ≠ p) || e.2.serial == serial)
  { s2 with trunk := { s2.trunk with rowRecs := keep } }

/-- The records read from both chips decide the record in force (R37). Log entry 166 (DESIGN CHOICE). -/
def Hub.decideRecord (p : Nat) (r0 r1 : List Byte) (s : Hub) : Hub :=
  if (s.port p).csupFault then (s.takeRecord p [] false false).raise Evt.TRK_CABLE_ID_BAD [p, 2]
  else if idValid 0 r0 && idValid 1 r1 then
    if idSame r0 r1 then s.takeRecord p r0 true true
    else
      (s.takeRecord p (if idLoss r0 < idLoss r1 then r1 else r0) true true).raise Evt.TRK_CABLE_ID_MISMATCH
        [p, idLoss r0, idLoss r1]
  else if idValid 0 r0 then s.takeRecord p r0 true true
  else if idValid 1 r1 then s.takeRecord p r1 true true
  else (s.takeRecord p [] false false).raise Evt.TRK_CABLE_ID_BAD [p, 1]

/-! CSUP (R42). -/

/-- CSUP states of TRK_PORT_STATUS.CSUP (R68). -/
def csOff : Nat := 0
def csOurs : Nat := 1
def csFar : Nat := 2
def csFault : Nat := 3

/-- CSUP state of port `p`. -/
def Hub.csup (s : Hub) (p : Nat) : Nat := s.getf (Fld.TRK_PORT_STATUS_CSUP p)

/-- VDD_IO33 is good: PG5 is high (R477, R487). -/
def Hub.io33 (s : Hub) : Bool := bit (s.getf Fld.LPW_STATUS_PG) 5

/-- This hub supplies CSUP at port `p` and reads the ID chips, END 0 first: a reset, the command byte 0x50 + END and 256 bits
(R36, R37, R42). Nothing is supplied while VDD_IO33 is not good (R487), nor after a CSUP fault (R42). -/
def Hub.supplyCsup (p : Nat) (s : Hub) : Hub :=
  if (s.port p).csupFault || !s.io33 then s
  else ((s.setf (Fld.TRK_PORT_STATUS_CSUP p) csOurs).emit (.readIdChip p 0x50)).emit (.readIdChip p 0x51)

/-- Ports stop supplying CSUP, and while VDD_IO33 is not good nothing is shown of it (R39, R487). -/
def Hub.stopCsup (p : Nat) (s : Hub) : Hub :=
  if s.csup p = csOurs ∨ !s.io33 then s.setf (Fld.TRK_PORT_STATUS_CSUP p) csOff else s

/-- CSUP of an ATTACHED port where VDD_IO33 is good, from the band of its CSUP pin at attach: HIGH says that the far hub supplies it;
a D port whose pin is LOW supplies it (R42, R487). -/
def Hub.startCsup (p : Nat) (s : Hub) : Hub :=
  if s.attach p != atAttached || !s.io33 then s
  else if (s.port p).csupFault then s.setf (Fld.TRK_PORT_STATUS_CSUP p) csFault
  else if s.csupBand p = .high then s.setf (Fld.TRK_PORT_STATUS_CSUP p) csFar
  else if p = 1 ∧ s.csupBand p = .low ∧ s.flag (Fld.TRK_PORT_CTL_EN p) then s.supplyCsup p
  else s

/-! Pairs and directions (R43, R44). -/

/-- The direction of pair `k` of port `p`. -/
def Hub.dir (s : Hub) (p k : Nat) : Nat := s.getf (Fld.TRK_PAIR_STATUS_DIR (8 * p + k))

/-- The direction a pair takes from bring-up (R43, R44): TP0 to TP3 carry the plan-A direction, out of D and into U. -/
def r44Dir (p k : Nat) : Nat := if (k < 4) = (p = 1) then dirOut else dirIn

/-- A fixed pair (R43). Log entry 32 (DEDUCED). -/
def fixedPair (k : Nat) : Bool := k == 0 || k == 7

/-- The outbound fixed pair of port `p` (R43). -/
def outFixed (p : Nat) : Nat := if p = 1 then 0 else 7

/-- The inbound fixed pair of port `p` (R43). -/
def inFixed (p : Nat) : Nat := if p = 1 then 7 else 0

/-- A routine scan cut off is discarded (R429). -/
def Hub.dropScan (n : Nat) (s : Hub) : Hub := { s with rel := { s.rel with scans := Tab.del n s.rel.scans } }

/-- The lanes of pair `k` of port `p` asleep (R54). -/
def Hub.sleepPair (p k : Nat) (s : Hub) : Hub :=
  s |>.setf (Fld.TRK_PAIR_STATUS_TX_SLEEP (8 * p + k)) 1 |>.setf (Fld.TRK_PAIR_STATUS_RX_SLEEP (8 * p + k)) 1
    |>.setf (Fld.TRK_PAIR_STATUS_LOCKED (8 * p + k)) 0 |>.dropScan (8 * p + k)

/-- The lane that pair `k`'s direction uses awake, the other asleep (R54). -/
def Hub.wakePair (p k : Nat) (s : Hub) : Hub :=
  let out := s.dir p k == dirOut
  (s.setLane p k { s.lane p k with waking := false }) |>.setb (Fld.TRK_PAIR_STATUS_TX_SLEEP (8 * p + k)) (!out) |>.setb (Fld.TRK_PAIR_STATUS_RX_SLEEP (8 * p + k)) out

/-! Bring-up (R64) and link-down. -/

/-- TRK_RING_STATUS.RING becomes `b`; CLOSURE is 0 while the segment is no ring (R190). -/
def Hub.segmentRing (b : Bool) (s : Hub) : Hub :=
  let s1 := s.setb Fld.TRK_RING_STATUS_RING b
  if b then s1 else s1.setf Fld.LTM_CLOSURE 0

/-- TRK_RING_STATUS.RING at the head: its U port's link is up to a node's D port (R14). -/
def Hub.ringView (s : Hub) : Hub :=
  if s.isHead then
    s.segmentRing (s.linkUp 0 && match (s.port 0).far with
      | some f => !f.head && f.port == 1
      | none => false)
  else s

/-- A receiver of pair `k` of port `p` is to lock: it has none, and seeks it from tick `at'` (R52). -/
def Hub.seekLock (p k at' : Nat) (s : Hub) : Hub :=
  (s.setf (Fld.TRK_PAIR_STATUS_LOCKED (8 * p + k)) 0).setLane p k { s.lane p k with seekFrom := some at' }

/-- A running loopback of port `p` ends with RESULT `r`; its pairs are held no longer, and their lanes return to the state the
active plan gives them (R63). A receiver that MODE 1 or 2 took from the line has its lock to find again (R52). Log entry 167 (DEDUCED). -/
def Hub.loopEnd (p r : Nat) (s : Hub) : Hub :=
  let held := (List.range 8).foldl (fun t k =>
    if t.flag (Fld.TRK_PAIR_STATUS_LOOP (8 * p + k)) then
      let t1 := t.setf (Fld.TRK_PAIR_STATUS_LOOP (8 * p + k)) 0
      if !t1.pairUsed p k then t1.sleepPair p k
      else if t1.dir p k = dirIn ∧ t1.getf (Fld.TRK_LOOP_CTL_MODE p) ≤ 2 then (t1.wakePair p k).seekLock p k t1.tick
      else t1.wakePair p k
    else t) s
  let s1 := held |>.setf (Fld.TRK_LOOP_STAT_RESULT p) r |>.setf (Fld.TRK_LOOP_STAT_LOCKED p) 0
  match s1.loopAct p with
  | none => s1
  | some a => if r = 2 then s1.endAct a 3 0 else s1.endAct a 4 (r - 1)

/-- A loopback runs at port `p` (R71). -/
def Hub.loopRunning (s : Hub) (p : Nat) : Bool := s.getf (Fld.TRK_LOOP_STAT_RESULT p) == 1

/-- A running loopback is aborted with RESULT `r` (R63). -/
def Hub.loopAbort (p r : Nat) (s : Hub) : Hub :=
  if s.loopRunning p then (s.loopEnd p r).raise Evt.TRK_LOOP_ABORT [p, r] else s

/-- The link of port `p` goes down: a loopback is aborted (R63), its pairs unlock, what its sync frames told ends with it (R89,
R147, R189), and the plan in force stays (R106). Log entry 167 (DEDUCED). -/
def Hub.dropLink (p : Nat) (s : Hub) : Hub :=
  let s1 := (s.loopAbort p 4).setf (Fld.TRK_PORT_STATUS_LINK p) lkDown
  let s2 := (List.range 8).foldl (fun t k =>
    t |>.setf (Fld.TRK_PAIR_STATUS_LOCKED (8 * p + k)) 0 |>.setLane p k {} |>.dropScan (8 * p + k)) s1
  let s3 : Hub := { s2 with
    ring := { s2.ring with sync := Tab.del p s2.ring.sync }, plan := { s2.plan with newer := Tab.del p s2.plan.newer } }
  ((s3.setPort p { s3.port p with step := 0, far := none, ackRx := false, hello := [], tries := 0, testLeft := [] }).dropTime p).ringView.maintSweep

/-- Bring-up starts at step 1 on an attached port that nothing holds down (R64). -/
def Hub.startBringup (p : Nat) (s : Hub) : Hub :=
  if s.attach p == atAttached && !s.portHeld p && s.trunk.eq.isSome then
    let n := s.getf (Fld.TRK_PORT_STATUS_ATTEMPTS p)
    (s |>.setf (Fld.TRK_PORT_STATUS_LINK p) lkLowSpeed |>.setf (Fld.TRK_PORT_STATUS_ATTEMPTS p) (min 15 (n + 1))).setPort p
      { s.port p with step := 1, attachAt := s.up, startAt := s.up, failRaised := false, tries := 0, far := none, ackRx := false,
                      hello := [], testLeft := [] }
  else s

/-- Pair `k` of port `p` in its bring-up direction and rate (R44). -/
def Hub.bringupPair (p k : Nat) (s : Hub) : Hub :=
  (s.setf (Fld.TRK_PAIR_STATUS_DIR (8 * p + k)) (r44Dir p k)).setf (Fld.TRK_PAIR_STATUS_NRZ (8 * p + k)) 0

/-- The pairs of a port take their ball numbers (R40), and their bring-up directions until the first switch (R44). -/
def Hub.orientPairs (p : Nat) (s : Hub) : Hub :=
  (List.range 8).foldl (fun t k =>
    let t1 := t.setf (Fld.TRK_PAIR_STATUS_BALL (8 * p + k)) (t.ballOf p k)
    if t1.plan.live.isNone || fixedPair k then t1.bringupPair p k else t1) s

/-! The low-speed handshake (R65). -/

/-- The 64-bit hub identity (R494). -/
def Hub.hubId (s : Hub) : Nat := s.getf Fld.GEN_HUB_ID_HI_ID_HI * 2 ^ 32 + s.getf Fld.GEN_HUB_ID_LO_ID_LO

/-- The 60 bytes of a HELLO or ACK before its CRC (R65). -/
def Hub.helloBody (s : Hub) (p type : Nat) : List Byte :=
  let P := s.port p
  let reads := P.recOwn && !P.record.isEmpty
  let flags := b2n reads * 16 + b2n (s.csup p == csOurs) * 8 + s.getf (Fld.TRK_PORT_STATUS_FLIPPED p) * 4 + p * 2 + b2n s.isHead
  let row (k : Nat) : Byte :=
    BitVec.ofNat 8 (b2n (s.getf (Fld.TRK_PAIR_STATUS_CAP (8 * p + k)) == 1) * 128 + s.bringupRow p k)
  beBytes 2 type ++ beBytes 1 1 ++ beBytes 1 flags ++ beBytes 8 s.hubId ++ beBytes 2 s.addr
    ++ beBytes 1 (if s.getf (Fld.TRK_PORT_STATUS_CLASS p) = 1 then 15 else 7) ++ zeros 1
    ++ (if reads then padTo 32 P.record else zeros 32) ++ (List.range 8).map row ++ zeros 4

/-- A low-speed frame: its 60 bytes and their CRC (R65). -/
def lowFrame (b : List Byte) : List Byte := b ++ beBytes 4 (crc32c b)

/-- The HELLO of port `p` (R65). -/
def Hub.helloFrame (s : Hub) (p : Nat) : List Byte := lowFrame (s.helloBody p 1)

/-- The ACK of port `p`: the HELLO this end sent, or would send, with TYPE set to ACK (R65). -/
def Hub.ackFrame (s : Hub) (p : Nat) : List Byte :=
  let h := if (s.port p).hello.isEmpty then s.helloBody p 1 else (s.port p).hello.take 60
  lowFrame (beBytes 2 2 ++ h.drop 2)

/-- A received frame of TYPE `type` is good: 64 bytes, VERSION 1 and its CRC (R65). -/
def frameGood (type : Nat) (f : List Byte) : Bool :=
  decide (f.length = 64) && beNat (slice f 0 2) == type && byteAt f 2 == 1 && crc32c (f.take 60) == beNat (slice f 60 4)

/-- What a frame says of the far hub (R65). -/
def farOf (f : List Byte) : FarHello :=
  let fl := byteAt f 3
  { hubId := beNat (slice f 4 8), addr := bits (beNat (slice f 12 2)) 8 0, port := bits fl 1 1, head := bit fl 0,
    csupOwner := bit fl 3, rows := (slice f 48 8).map (fun b => b.toNat) }

/-- A head facing another head holds the port down and raises GEN_HEAD_CONFLICT (R19, R507). Log entry 35 (DEDUCED). -/
def Hub.headConflict (p hubId : Nat) (s : Hub) : Hub :=
  ((s.setPort p { s.port p with conflict := true }).dropLink p).raise Evt.GEN_HEAD_CONFLICT
    [hubId % 2 ^ 60 + p * 2 ^ 60]

/-- FAR_ROW of every pair from the far HELLO (R73). -/
def Hub.farRows (p : Nat) (rows : List Nat) (s : Hub) : Hub :=
  (List.range 8).foldl (fun t k => t.setf (Fld.TRK_PAIR_STATUS_FAR_ROW (8 * p + k)) (bits (rows.getD k 0) 2 0)) s

/-- The fixed pair `k` of port `p` is usable: its EQ group exists and is valid (R58). -/
def Hub.fixedUsable (s : Hub) (p : Nat) : Bool := (s.eqGroup p 0).isSome && (s.eqGroup p 7).isSome

/-- Both fixed pairs locked: bring-up goes on to the pair test of step 7 in the R44 directions (R64, R66). A turnable pair
without a usable EQ group is FAULTY (R58). -/
def Hub.startPairTest (p : Nat) (s : Hub) : Hub :=
  let s1 := (s.setf (Fld.TRK_PORT_STATUS_LINK p) lkPairTest)
  let turn := [1, 2, 3, 4, 5, 6]
  let s2 := turn.foldl (fun u k =>
    let t := u.bringupPair p k
    match t.eqGroup p k with
    | none => (t.setf (Fld.TRK_PAIR_STATUS_CAP (8 * p + k)) 2).sleepPair p k
    | some _ =>
      ((t.setf (Fld.TRK_PAIR_STATUS_CAP (8 * p + k)) 0).setRow p k (t.bringupRow p k)).wakePair p k) s1
  let test := turn.filter (fun k => s2.dir p k == dirIn && (s2.eqGroup p k).isSome)
  s2.setPort p { s2.port p with step := 7, testLeft := test }

end Sys2Proof.Machine
end

