-- ==== Sys2Proof/Machine/Mgmt.lean ====
section
/-! DEFINITION. The management channel: keys, building, routing, queueing, checking and taking management and time cells
(R98 to R103, R240, R456, R458). -/

namespace Sys2Proof.Machine

/-! Keys (R449, R456, R458). -/

/-- The hub is DEPLOYED (R449). -/
def Hub.deployed (s : Hub) : Bool := s.getf Fld.SEC_LC_STATE == 2

/-- The all-zero AES key (R449). -/
def nullKey : List Byte := zeros 16

/-- The segment key of KEY_ID `i` held. -/
def Hub.segKey (s : Hub) (i : Nat) : Option (List Byte) := if i = 0 then none else Tab.get? i s.sec.keys

/-- The lowest-numbered segment key held. -/
def Hub.lowestKey (s : Hub) : Option Nat := [1, 2, 3, 4, 5, 6, 7].find? (fun i => (s.segKey i).isSome)

/-- The KEY_ID and key the hub originates cells under (R456). -/
def Hub.txKey (s : Hub) : Nat × List Byte :=
  let id := s.getf Fld.SEC_KEY_TX_ID
  match s.segKey id with
  | some k => (id, k)
  | none =>
    if s.deployed then
      match s.lowestKey with
      | some i => (i, (s.segKey i).getD nullKey)
      | none => (0, nullKey)
    else (0, nullKey)

/-- A message a DEPLOYED hub without a segment key takes under KEY_ID 0: PING, REG_READ, and REG_WRITE to the SEC_KEY
registers (R458). -/
def nullKeyMsg (pay : List Byte) : Bool :=
  let off := beNat (slice pay 16 4)
  let cnt := byteAt pay 20
  let t := byteAt pay 2
  t == 0x06 || t == 0x01 ||
    (t == 0x03 && decide (0x0F0040 ≤ off) && decide (off + 4 * cnt ≤ 0x0F00C8))

/-- The key under which a received cell of KEY_ID `id` is checked, none where it may not be used (R456, R458). -/
def Hub.rxKey (s : Hub) (id : Nat) (pay : List Byte) : Option (List Byte) :=
  match s.segKey id with
  | some k => some k
  | none =>
    if id ≠ 0 then none
    else if s.deployed then (if s.lowestKey.isNone && nullKeyMsg pay then some nullKey else none)
    else some nullKey

/-- TAG of a cell (R99): the first 8 bytes of the CMAC over the header with HOPS 0 and payload bytes 0 to 247. -/
def cellTag (key : List Byte) (hdr : Nat) (pay : List Byte) : List Byte :=
  (aesCmac key (beBytes 8 (setHops hdr 0) ++ pay.take 248)).take 8

/-! Building cells. -/

/-- TUNNEL values of R74. -/
def tnAlarm : Nat := 1
def tnMgmt : Nat := 2
def tnTime : Nat := 3

/-- The next SEQ and COUNT of a cell this hub originates on tunnel `t`. -/
def Hub.nextSeq (t : Nat) (s : Hub) : Nat × Nat × Hub :=
  let q := Tab.getD s.ring.seqs t 0
  (q, s.ring.count, { s with ring := { s.ring with
    seqs := Tab.put t ((q + 1) % 65536) s.ring.seqs, count := (s.ring.count + 1) % 2 ^ 32 } })

/-- A management or time cell of this hub (R98): header and payload. -/
def Hub.mgmtCell (tn dst type hops msgId : Nat) (body : List Byte) (s : Hub) : Nat × List Byte × Hub :=
  let (q, cnt, s1) := s.nextSeq tn
  let (kid, key) := s1.txKey
  let hdr := mkHdr tn q s1.addr 255 true true false false 0 (if tn = tnTime then 7 else 6) hops
  let pay := beBytes 2 dst ++ beBytes 1 type ++ beBytes 1 kid ++ beBytes 4 cnt ++ beBytes 4 (s1.tick % 2 ^ 32)
    ++ beBytes 2 msgId ++ beBytes 2 body.length ++ padTo 232 body
  (hdr, pay ++ padTo 8 (cellTag key hdr pay), s1)

/-! Queues of the MGMT partition (R161). -/

/-- The transit and local queue of port `p`'s outbound fixed pair (R161). -/
def transitQ (p : Nat) : Nat := 2 * p
def localQ (p : Nat) : Nat := 2 * p + 1

/-- A cell put into MGMT queue `q` with its wire header; false where the queue refused it (R103). -/
def Hub.putCell (q hdr : Nat) (pay : List Byte) (port : Nat) (s : Hub) : Bool × Hub :=
  let s1 := s.produce q ((fixedProd q).getD .fw) { data := pay }
  if (s.queue q).pkts.length < (s1.queue q).pkts.length then
    match (s1.queue q).pkts.getLast? with
    | some (c :: _) =>
      (true, { s1 with ring := { s1.ring with hdrs := Tab.put c.idx ⟨hdr, port, s1.tick⟩ s1.ring.hdrs } })
    | _ => (true, s1)
  else (false, s1)

/-- The oldest cell of MGMT queue `q`, taken out: its header record and payload. -/
def Hub.takeCellQ (q : Nat) (s : Hub) : Option (MgmtHdr × List Byte) × Hub :=
  match s.readHead q with
  | (none, t) => (none, t)
  | (some p, t) =>
    let idx := match p.head? with
      | some c => c.idx
      | none => 0
    let h := Tab.getD t.ring.hdrs idx ⟨0, 0, t.tick⟩
    let pay := t.pktBytes p
    let u := t.popPkt q
    (some (h, pay), { u with ring := { u.ring with hdrs := Tab.del idx u.ring.hdrs } })

/-- A cell waits for port `p`'s brim in its local queue; one whose link is down or whose queue is full is counted
(R101, R103). -/
def Hub.sendLocal (p hdr : Nat) (pay : List Byte) (s : Hub) : Hub :=
  if !s.linkUp p then s.count (Cnt.TRK_CNT_MGMT_DROP p) 1
  else
    match s.putCell (localQ p) hdr pay p with
    | (true, t) => t
    | (false, t) => t.count (Cnt.TRK_CNT_MGMT_DROP p) 1

/-! Routing (R102). -/

/-- The segment is a ring and no break is scheduled or in force. -/
def Hub.ringWhole (s : Hub) : Bool := s.flag Fld.TRK_RING_STATUS_RING && s.ring.brk.isNone

/-- A broken hop that is scheduled or in force lies between hubs `a` < `c` (R102). -/
def Hub.breakBetween (s : Hub) (a c : Nat) : Bool :=
  match s.ring.brk with
  | none => false
  | some b => decide (a ≤ b.hop) && decide (b.hop < c)

/-- The port a node uses for a cell to the head (R102). -/
def Hub.headPort (s : Hub) : Nat := s.ring.headPort.getD 0

/-- The ports a cell to `dst` goes out of; none has no route (R102). -/
def Hub.portsFor (s : Hub) (dst : Nat) : List Nat :=
  let all :=
    if s.isHead then
      if dst = 0x1FF then (if s.ringWhole then [1] else [0, 1])
      else match s.ring.brk with
        | none => [1]
        | some b => if dst ≤ b.hop then [1] else [0]
    else if dst = 0 then [s.headPort]
    else if s.addr < dst then (if s.breakBetween s.addr dst then [] else [1])
    else (if s.breakBetween dst s.addr then [] else [0])
  all.filter (fun p => s.linkUp p)

/-- The port whose MGMT_DROP counts a node's cell to `dst` that cannot be delivered (R102). -/
def Hub.dropPort (s : Hub) (dst : Nat) : Nat := if dst = 0 then s.headPort else if s.addr < dst then 1 else 0

/-- A message of this hub to `dst` with HOPS 255 (R78, R98). -/
def Hub.send (dst type msgId : Nat) (body : List Byte) (s : Hub) : Hub :=
  match s.portsFor dst with
  | [] => if s.isHead then s else s.count (Cnt.TRK_CNT_MGMT_DROP (s.dropPort dst)) 1
  | ps => ps.foldl (fun t p =>
      let (h, pay, u) := t.mgmtCell tnMgmt dst type 255 msgId body
      u.sendLocal p h pay) s

/-- A hop message out of port `p` (R101). -/
def Hub.sendHop (p type : Nat) (body : List Byte) (s : Hub) : Hub :=
  let (h, pay, u) := s.mgmtCell tnMgmt 0x1FF type 0 0 body
  u.sendLocal p h pay

/-! Checking (R100). -/

/-- What R100 finds of a cell. -/
inductive MgmtCheck where
  | accepted | badTag | stale
  deriving DecidableEq, Repr

/-- COUNT `c` is acceptable from source `src`. Log entry 172 (DESIGN CHOICE). -/
def Hub.countOk (s : Hub) (src c : Nat) : Bool :=
  match Tab.get? src s.ring.srcs with
  | none => true
  | some t =>
    let d := (t.top + 2 ^ 32 - c) % 2 ^ 32
    if 2 ^ 31 ≤ d then true else decide (d < 64) && !t.seen.contains c

/-- The TICK_LO value's age is from −2 to 512 ticks. -/
def Hub.ageOk (s : Hub) (tickLo : Nat) : Bool :=
  let a := sgn 32 ((s.tick % 2 ^ 32 + 2 ^ 32 - tickLo) % 2 ^ 32)
  decide (-2 ≤ a) && decide (a ≤ 512)

/-- The low 32 bits of the tick a cell is dated with: TICK_LO, or DETECT_TICK in a ring alarm (R98, R109). -/
def datedTick (hdr : Nat) (pay : List Byte) : Nat :=
  if hTunnel hdr = tnAlarm then beNat (slice pay 12 4) else beNat (slice pay 8 4)

/-- The checks of R100. -/
def Hub.checkCell (s : Hub) (hdr : Nat) (pay : List Byte) : MgmtCheck :=
  match s.rxKey (byteAt pay 3) pay with
  | none => .badTag
  | some k =>
    if slice pay 248 8 ≠ padTo 8 (cellTag k hdr pay) then .badTag
    else if s.ageOk (datedTick hdr pay) && s.countOk (hSrc hdr) (beNat (slice pay 4 4)) then .accepted
    else .stale

/-- The counter state of a source after it accepts COUNT `c`, and the port to the head (R100, R102). -/
def Hub.noteAccepted (p hdr : Nat) (pay : List Byte) (s : Hub) : Hub :=
  let src := hSrc hdr
  let c := beNat (slice pay 4 4)
  let old := Tab.getD s.ring.srcs src ⟨c, [], s.tick⟩
  let newer := decide (2 ^ 31 ≤ (old.top + 2 ^ 32 - c) % 2 ^ 32)
  let top := if newer then c else old.top
  let seen := (c :: old.seen).filter (fun x => decide ((top + 2 ^ 32 - x) % 2 ^ 32 < 64))
  { s with ring := { s.ring with
    srcs := Tab.put src ⟨top, seen, s.tick⟩ s.ring.srcs,
    headPort := if src = 0 ∧ !s.isHead then some p else s.ring.headPort } }

/-- A cell received at port `p` checked, with the counting R100 states; whether it is accepted. -/
def Hub.acceptCell (p hdr : Nat) (pay : List Byte) (bad : Bool) (s : Hub) : Bool × Hub :=
  match (if bad then .badTag else s.checkCell hdr pay) with
  | .accepted => (true, s.noteAccepted p hdr pay)
  | .badTag => (false, (s.count (Cnt.TRK_CNT_AUTH_FAIL p) 1).raiseLimited Evt.TRK_MGMT_AUTH_FAIL p [p, hSrc hdr])
  | .stale => (false, s.count (Cnt.TRK_CNT_STALE p) 1)

/-- A source heard within the last 512 ticks (R100, R231). -/
def Hub.recentSrcs (s : Hub) : List Nat :=
  (s.ring.srcs.filter (fun e => decide (s.tick ≤ e.2.last + 512) && decide (e.1 ≠ s.addr) && decide (e.1 ≠ 0x1FE))).map
    (fun e => e.1)

/-! Taking messages from queue 4 (R161). -/

/-- A message as the service core takes it. -/
structure Msg where
  src : Nat
  dst : Nat
  type : Nat
  msgId : Nat
  body : List Byte
  port : Nat
  tick : Nat
  hops : Nat
  deriving DecidableEq, Repr

/-- The message of a cell. -/
def msgOf (h : MgmtHdr) (pay : List Byte) : Msg :=
  { src := hSrc h.hdr, dst := bits (beNat (slice pay 0 2)) 8 0, type := byteAt pay 2, msgId := beNat (slice pay 12 2),
    body := slice pay 16 (min 232 (beNat (slice pay 14 2))), port := h.port, tick := h.tick, hops := hHops h.hdr }

/-- The TYPE of the message at the head of queue `q`. -/
def Hub.headType (s : Hub) (q : Nat) : Option Nat :=
  (s.headPkt q).map (fun p => byteAt (s.pktBytes p) 2)

/-- The message at the head of queue `q`, taken when its TYPE is one of `types` and firmware has not stopped (R460); otherwise nothing changes. Log entry 30 (DESIGN CHOICE). -/
def Hub.takeMsg (q : Nat) (types : List Nat) (s : Hub) : Option Msg × Hub :=
  match s.headType q with
  | none => (none, s)
  | some t =>
    if types.contains t && s.sec.fatal.isNone then
      match s.takeCellQ q with
      | (some (h, pay), u) => (some (msgOf h pay), u)
      | (none, u) => (none, u)
    else (none, s)

/-- The TYPE codes of R240 that a hub knows; 0x55 to 0x57 are unknown types (R317). -/
def knownType (t : Nat) : Bool :=
  decide (1 ≤ t) && decide (t ≤ 7) || decide (0x10 ≤ t) && decide (t ≤ 0x16) || decide (0x20 ≤ t) && decide (t ≤ 0x23)
    || t == 0x28 || t == 0x30 || t == 0x31 || t == 0x38 || t == 0x39 || decide (0x50 ≤ t) && decide (t ≤ 0x54)

/-- This hub consumes an accepted cell to `dst` (R16, R101). -/
def Hub.consumes (s : Hub) (dst : Nat) : Bool := dst == 0x1FF || (dst == s.addr && s.addr != 0x1FE)

/-- An accepted cell is consumed: a time cell into queue 5, a management cell into queue 4 (R161); a TYPE outside R193 or
R240 is discarded and counted, and the head discards any REG_WRITE_HOP (R241). -/
def Hub.consumeCell (p hdr : Nat) (pay : List Byte) (s : Hub) : Hub :=
  let t := byteAt pay 2
  if hTunnel hdr = tnTime then
    (if t = 1 then (s.putCell 5 hdr pay p).2 else s.count (Cnt.TRK_CNT_STALE p) 1)
  else if !knownType t then s.count (Cnt.TRK_CNT_STALE p) 1
  else if t = 5 ∧ s.isHead then s
  else (s.putCell 4 hdr pay p).2

/-- An accepted cell is forwarded out of the other port (R101). -/
def Hub.forwardCell (p hdr : Nat) (pay : List Byte) (s : Hub) : Hub :=
  let o := otherPort p
  if hHops hdr = 0 then s
  else if !s.linkUp o then s.count (Cnt.TRK_CNT_MGMT_DROP o) 1
  else
    match s.putCell (transitQ o) (setHops hdr (hHops hdr - 1)) pay p with
    | (true, t) => t
    | (false, t) => t.count (Cnt.TRK_CNT_MGMT_DROP o) 1

/-- The table of R101. -/
def Hub.routeCell (p hdr : Nat) (pay : List Byte) (s : Hub) : Hub :=
  let dst := bits (beNat (slice pay 0 2)) 8 0
  let s1 := if s.consumes dst then s.consumeCell p hdr pay else s
  if s.isHead then (if s.consumes dst then s1 else s1.count (Cnt.TRK_CNT_MGMT_MISROUTE p) 1)
  else if s.consumes dst && dst != 0x1FF then s1
  else s1.forwardCell p hdr pay

end Sys2Proof.Machine
end

