-- ==== Sys2Proof/Machine/HifBase.lean ====
section
/-! DEFINITION. Rings, jobs, completions and requests of the host port (R221 to R231, R236, R242). -/

namespace Sys2Proof.Machine

/-! Rings. -/

/-- Ring `r`. -/
def Hub.hring (s : Hub) (r : Nat) : HRing := Tab.getD s.hif.rings r {}

/-- The state with ring `r` as `R`. -/
def Hub.setRing (r : Nat) (R : HRing) (s : Hub) : Hub := { s with hif := { s.hif with rings := Tab.put r R s.hif.rings } }

/-- Ring types (R221). -/
def rtTx : Nat := 0
def rtRx : Nat := 1
def rtCmd : Nat := 2
def rtCq : Nat := 3
def rtEvq : Nat := 4
def rtDump : Nat := 5

/-- Ring states (R245). -/
def rsIdle : Nat := 0
def rsActive : Nat := 1
def rsDraining : Nat := 2
def rsError : Nat := 3
def rsRefused : Nat := 4

def Hub.ringEn (s : Hub) (r : Nat) : Bool := s.flag (Fld.HIF_RING_CFG_EN r)
def Hub.ringType (s : Hub) (r : Nat) : Nat := s.getf (Fld.HIF_RING_CFG_TYPE r)
def Hub.ringState (s : Hub) (r : Nat) : Nat := s.getf (Fld.HIF_RING_STATUS_STATE r)
def Hub.ringCqOf (s : Hub) (r : Nat) : Nat := s.getf (Fld.HIF_RING_CFG_CQ r)
def Hub.ringQueue (s : Hub) (r : Nat) : Nat := s.getf (Fld.HIF_RING_CFG_QUEUE r)

/-- Entries of ring `r`: SIZE is log2 of them minus 4 (R245). -/
def Hub.ringSize (s : Hub) (r : Nat) : Nat := 2 ^ (s.getf (Fld.HIF_RING_CFG_SIZE r) + 4)

/-- The host address of ring `r` (R244). -/
def Hub.ringBase (s : Hub) (r : Nat) : Nat :=
  s.getf (Fld.HIF_RING_BASE_HI_ADDR r) * 2 ^ 32 + s.getf (Fld.HIF_RING_BASE_LO_ADDR r) * 4096

/-- The entry size of a ring type (R221). -/
def entrySize (type : Nat) : Nat := if type = rtCq ∨ type = rtEvq then 16 else 32

/-- Whether the ring takes descriptors (R221). -/
def descRing (type : Nat) : Bool := type != rtCq && type != rtEvq

/-- Ring `r` is an enabled ring of type `t`. -/
def Hub.ringIs (s : Hub) (r t : Nat) : Bool := s.ringEn r && s.ringType r == t

/-- Rings with EN = 1. -/
def Hub.enabledRings (s : Hub) : List Nat := (s.hif.rings.map (fun e => e.1)).filter (fun r => s.ringEn r)

/-- The difference of two free-running 32-bit counts (R222). -/
def cntDiff (a b : Nat) : Nat := (a + 2 ^ 32 - b) % 2 ^ 32

/-- The vectors of the function (R213). -/
def Hub.vectors (s : Hub) : Nat := if s.isHead then 2048 else if s.hasHost then 64 else 0

/-- A ring goes to ERROR with a cause (R225). -/
def Hub.ringError (r cause : Nat) (s : Hub) : Hub :=
  (s |>.setf (Fld.HIF_RING_STATUS_STATE r) rsError |>.setf (Fld.HIF_RING_STATUS_CAUSE r) cause).raise Evt.HIF_RING_ERROR [r, cause]

/-! Writing CQ and EVQ entries (R222, R231). -/

/-- Entries a CQ or EVQ holds that the host has not consumed. -/
def Hub.ringHeld (s : Hub) (r : Nat) : Nat := cntDiff (s.hring r).count (s.hring r).taken

/-- PHASE of the next entry of a CQ or EVQ (R222). -/
def Hub.ringPhase (s : Hub) (r : Nat) : Nat := 1 - (s.hring r).count / s.ringSize r % 2

/-- An entry written into a CQ or EVQ: two 64-bit words. -/
def Hub.writeEntry (r lo hi : Nat) (s : Hub) : Hub :=
  let R := s.hring r
  let a := s.ringBase r + R.count % s.ringSize r * 16
  let n := (R.count + 1) % 2 ^ 32
  ((s.setRing r { R with count := n, unreported := R.unreported + 1 }).setf (Fld.HIF_RING_STATUS_COUNT r) (n % 65536)).emit
    (.hostWrite a (leBytes 8 lo ++ leBytes 8 hi))

/-- A completion before PHASE (R228), with the data that follows it to the line gadget (R366). -/
structure Compl where
  f : Bool := false
  l : Bool := false
  gap : Bool := false
  poison : Bool := false
  colour : Nat := 0
  final : Bool := true
  ring : Nat := 0
  hub : Nat := 0
  status : Nat := 0
  result : Nat := 0
  data : List Byte := []

/-- The upper word of a completion (R228). -/
def Compl.word (c : Compl) (phase : Nat) : Nat :=
  b2n c.f * 2 ^ 63 + b2n c.l * 2 ^ 62 + b2n c.gap * 2 ^ 61 + b2n c.poison * 2 ^ 60 + c.colour % 4 * 2 ^ 58 + b2n c.final * 2 ^ 57
    + phase % 2 * 2 ^ 56 + c.ring % 1024 * 2 ^ 46 + c.hub % 512 * 2 ^ 37 + c.status % 32 * 2 ^ 32 + c.result % 2 ^ 32

/-- Descriptors fetched and not completed whose ring names CQ `q`: the entries reserved in it (R231). -/
def Hub.cqReserved (s : Hub) (q : Nat) : Nat :=
  s.hif.rings.foldl (fun n e => if s.ringEn e.1 && descRing (s.ringType e.1) && s.ringCqOf e.1 == q then n + e.2.jobs.length else n) 0

/-- A CQ has an entry beyond those reserved (R231). -/
def Hub.cqRoom (s : Hub) (q : Nat) : Bool := decide (s.ringHeld q + s.cqReserved q < s.ringSize q)

/-- A completion written into CQ `q`, if it is still enabled. -/
def Hub.writeCq (q cookie : Nat) (c : Compl) (s : Hub) : Hub :=
  if s.ringIs q rtCq then s.writeEntry q cookie (c.word (s.ringPhase q)) else s

/-! Status codes (R230). -/
def stOk : Nat := 0
def stUnavailable : Nat := 6
def stBadDesc : Nat := 11
def stRefused : Nat := 12
def stNoRoute : Nat := 13
def stTimeout : Nat := 14
def stLocked : Nat := 15
def stDma : Nat := 16
def stFlushed : Nat := 17
def stDropped : Nat := 18
/-- STATUS of a plan command that fails (R230). Log entry 160 (DEDUCED). -/
def stPlan : Nat := 19

/-- The STATUS of a plan command's outcome: OK where it succeeds, else PLAN (R230). Log entry 160 (DEDUCED). -/
def planSt (good : Bool) : Nat := if good then stOk else stPlan

def stDev : Nat := 20
def stTunnel : Nat := 21
def stRetry : Nat := 22
def stRetryLocked : Nat := 23
def stPoisoned : Nat := 24

/-! Jobs. -/

/-- The jobs of an asker. -/
def Hub.jobsOf (s : Hub) (w : Asker) : List Job :=
  match w with
  | .ring r => (s.hring r).jobs
  | .gadget => s.hif.gjobs

/-- The state with these jobs. -/
def Hub.setJobs (w : Asker) (js : List Job) (s : Hub) : Hub :=
  match w with
  | .ring r => s.setRing r { s.hring r with jobs := js }
  | .gadget => { s with hif := { s.hif with gjobs := js } }

/-- The ring number a completion carries for an asker; the gadget's carry 0. -/
def askerRing : Asker → Nat
  | .ring r => r
  | .gadget => 0

/-- A completion goes to its asker (R228, R371): the final one uses the descriptor's reserved entry and ends its job, another
takes a free entry or is dropped and counted (R231). -/
def Hub.complete (w : Asker) (idx cookie : Nat) (nocomp : Bool) (c : Compl) (s : Hub) : Hub :=
  let s1 := if c.final then s.setJobs w ((s.jobsOf w).filter (fun j => j.idx != idx)) else s
  if nocomp && c.status == stOk then s1
  else
    match w with
    | .ring r =>
      let q := s.ringCqOf r
      if c.final || s.cqRoom q then s1.writeCq q cookie c else s1.count Cnt.HIF_CNT_CQ_DROP 1
    | .gadget =>
      let g := s1.hif
      if g.gdrop.contains idx then
        { s1 with hif := { g with gdrop := if c.final then g.gdrop.filter (fun i => i != idx) else g.gdrop } }
      else
      { s1 with hif := { g with gdone := g.gdone ++ [leBytes 8 cookie ++ leBytes 8 (c.word 1) ++ c.data] } }

/-- A job ends with STATUS and RESULT (R228). -/
def Hub.finish (w : Asker) (j : Job) (hub status result : Nat) (s : Hub) : Hub :=
  s.complete w j.idx j.d.cookie (bit j.d.flags 0) { ring := (askerRing w), hub := hub, status := status, result := result }

/-- The next job of an asker to take up: the first not taken up, held by FENCE while an earlier one is not complete (R226). -/
def Hub.nextJob (s : Hub) (w : Asker) : Option Job :=
  match (s.jobsOf w).find? (fun j => !j.sent) with
  | none => none
  | some j => if bit j.d.flags 3 && (s.jobsOf w).any (fun x => x.sent) then none else some j

/-- The next job of an asker when its opcode is `op`. -/
def Hub.nextIs (s : Hub) (w : Asker) (op : Nat) : Option Job :=
  match s.nextJob w with
  | none => none
  | some j => if j.d.op = op then some j else none

/-- The same of a command, which the service core takes up in the loop of its fetch tick or later (R235, R242). -/
def Hub.jobFor (s : Hub) (w : Asker) (op : Nat) : Option Job :=
  match s.nextIs w op with
  | none => none
  | some j => if j.t0 ≤ s.tick then some j else none

/-- Job `j` is taken up. -/
def Hub.takeJob (w : Asker) (j : Job) (s : Hub) : Hub :=
  s.setJobs w ((s.jobsOf w).map (fun x => if x.idx = j.idx then { x with sent := true } else x))

/-- FLAGS of a descriptor. -/
def Desc.inline (d : Desc) : Bool := bit d.flags 1
def Desc.chain (d : Desc) : Bool := bit d.flags 2

/-- A descriptor read from its 32 bytes (R226). -/
def readDesc (b : List Byte) : Desc :=
  { op := byteAt b 0, flags := byteAt b 1, qt := leAt b 2 2, len := leAt b 4 4, addr := leAt b 8 8, param := leAt b 16 8,
    cookie := leAt b 24 8 }

/-- The fetch tick of a command fetched now (R235). -/
def Hub.fetchTick (s : Hub) : Nat := if s.now % tickNs ≤ 40000 then s.tick else s.tick + 1

/-! Requests (R242). -/

/-- The first MSG_ID from `i` on, from 1 to 65,535, that no request holds. Log entry 70 (DEDUCED). -/
def freeMsgId (reqs : Tab Req) : (fuel i : Nat) → Nat
  | 0, i => i
  | n + 1, i => if (Tab.get? i reqs).isSome then freeMsgId reqs n (i % 65535 + 1) else i

/-- A new request: its MSG_ID and the state that holds it. MSG_ID 0 is left to messages that answer no request. Log entry 70 (DEDUCED). -/
def Hub.newReq (q : Req) (s : Hub) : Nat × Hub :=
  let id := freeMsgId s.hif.reqs (s.hif.reqs.length + 1) (s.hif.msgId % 65535 + 1)
  (id, { s with hif := { s.hif with reqs := Tab.put id q s.hif.reqs, msgId := id } })

/-- Requests outstanding to other hubs (R242). -/
def Hub.reqsOut (s : Hub) : Nat := (s.hif.reqs.filter (fun e => e.2.hub != s.addr)).length

/-- A command to another hub waits while 512 requests are outstanding (R242). -/
def Hub.reqsFull (s : Hub) (hub : Nat) : Bool := hub != s.addr && decide (512 ≤ s.reqsOut)

/-- Request `id`. -/
def Hub.req (s : Hub) (id : Nat) : Option Req := Tab.get? id s.hif.reqs

/-- The state with request `id` as `q`. -/
def Hub.setReq (id : Nat) (q : Req) (s : Hub) : Hub := { s with hif := { s.hif with reqs := Tab.put id q s.hif.reqs } }

/-- Request `id` is outstanding no longer; a section it was sending is sent no further. -/
def Hub.endReq (id : Nat) (s : Hub) : Hub :=
  { s with hif := { s.hif with reqs := Tab.del id s.hif.reqs, loads := s.hif.loads.filter (fun x => x.id != id) } }

/-- A broadcast whose expected hubs have all answered, each as often as it has records to answer for, gets its FINAL completion
with the number of hubs that answered (R231). Log entry 67 (DEDUCED). -/
def Hub.closeBcast (id : Nat) (s : Hub) : Hub :=
  match s.req id with
  | none => s
  | some q =>
    if q.dead || q.hub != 0x1FF || !q.expect.all (fun h => decide (q.left ≤ q.answered.count h)) then s
    else
      (s.endReq id).complete q.who q.idx q.d.cookie (bit q.d.flags 0)
        { ring := (askerRing q.who), hub := 0x1FF, status := stOk, result := q.answered.eraseDups.length }

/-- A hub's answer to request `id`, with data for the line gadget (R231, R366): a request to one hub ends; a broadcast gives a
completion per hub, and its FINAL one when every hub expected has answered. Log entry 67 (DEDUCED). -/
def Hub.answerData (id hub status result : Nat) (data : List Byte) (s : Hub) : Hub :=
  match s.req id with
  | none => s.count Cnt.HIF_CNT_LATE_RSP 1
  | some q =>
    let nc := bit q.d.flags 0
    let c : Compl := { ring := (askerRing q.who), hub := hub, status := status, result := result, data := data }
    if q.dead then (if q.hub ≠ 0x1FF then s.endReq id else s)
    else if q.hub ≠ 0x1FF then (s.endReq id).complete q.who q.idx q.d.cookie nc c
    else if q.answered.contains hub then s
    else
      ((s.complete q.who q.idx q.d.cookie nc { c with final := false }).setReq id
        { q with answered := q.answered ++ [hub] }).closeBcast id

/-- An answer without data. -/
def Hub.answer (id hub status result : Nat) (s : Hub) : Hub := s.answerData id hub status result []

/-- A launch's completion reaches its request (R227, R228): one per record per hub, the last of them FINAL at one hub; OK is
suppressed under QUIET by the hub that executed it and under NOCOMP here. -/
def Hub.answerLaunch (id hub status slot cookie f : Nat) (silent : Bool) (s : Hub) : Hub :=
  match s.req id with
  | none => s.count Cnt.HIF_CNT_LATE_RSP 1
  | some q =>
    let bcast := q.hub == 0x1FF
    let last := decide (q.left ≤ 1)
    let c : Compl := { ring := slot, hub := hub, status := status, result := f, final := last && !bcast }
    let s1 := if q.dead then s else s.complete q.who q.idx cookie (silent || bit q.d.flags 0) c
    if bcast then (s1.setReq id { q with answered := q.answered ++ [hub] }).closeBcast id
    else if last then s1.endReq id
    else s1.setReq id { q with left := q.left - 1 }

/-- The host of this hub may send a command to hub `h` (R220); `write` says whether it changes something there. Log entry 66 (DEDUCED). -/
def Hub.mayReach (s : Hub) (w : Asker) (unlocked : Bool) (h : Nat) (write : Bool) : Bool :=
  match w with
  | .ring _ => s.isHead || h == s.addr
  | .gadget => (!write || unlocked) && h != 0x1FF

/-- A command names this hub itself. -/
def Hub.isOwn (s : Hub) (h : Nat) : Bool := h == s.addr

end Sys2Proof.Machine
end

