-- ==== Sys2Proof/Machine/PlanOps.lean ====
section
/-! DEFINITION. Plan sections: reading an image, its load checks, hop digests, and the runs in force (R120 to R137). -/

namespace Sys2Proof.Machine

/-- The run covers switch slot `j`. -/
def rCovers (r j : Nat) : Bool := decide (rStart r ≤ j) && decide (j < rStart r + rLen r)

/-- The sort key of R126: PORT, PAIR, START, PLAN. -/
def rKey (r : Nat) : Nat := ((rPort r * 8 + rPair r) * 1024 + rStart r) * 2 + b2n (rPlan r)

/-! Sections. -/

/-- The hyperperiod in ticks (R121). -/
def Sec.h (c : Sec) : Nat := 2 ^ c.hyper

/-- DIR and NRZ of pair index n (R129). -/
def Sec.dir (c : Sec) (n : Nat) : Nat := bits (c.pairs.getD n 0) 1 0
def Sec.nrz (c : Sec) (n : Nat) : Bool := bit (c.pairs.getD n 0) 3

/-- Entry `e` of the bank that holds the section: run `n` of (PORT, PAIR) is in entry (8·PORT + PAIR) × 2,048 + n (R126); an entry
without a run reads 0 (R150). -/
def Sec.entry (c : Sec) (e : Nat) : Nat :=
  (c.runs.filter (fun r => 8 * rPort r + rPair r == e / 2048)).getD (e % 2048) 0

/-- The slots of a pair by rate (R85). -/
def slotsOf (nrz : Bool) : Nat := if nrz then 666 else 1000

/-- The hop skew by rate (R95). -/
def skewOf (nrz : Bool) : Nat := if nrz then 3 else 4

/-- A failed load check: its code, record and index (R134, R153). -/
structure LoadFail where
  code : Nat
  record : Nat
  index : Nat
  deriving DecidableEq, Repr

/-- A record of an image: TYPE, COUNT and its element bytes (R122). -/
structure RecRaw where
  type : Nat
  count : Nat
  bytes : List Byte

/-- Whether a record's BYTES suits its COUNT (R122). -/
def recSizeOk (t n b : Nat) : Bool :=
  match t with
  | 1 => n == 16 && b == 16
  | 2 => decide (n ≤ 32768) && b == 8 * n
  | 3 => decide (n ≤ 4096) && b == 32 * n
  | 4 => decide (n ≤ 1024) && b == 16 * n
  | 5 => decide (n ≤ 24) && b == 4 * n
  | 6 => decide (n ≤ 4)
  | 7 => n == 1 && b == 4
  | _ => false

/-- `n` records read from `bs`, in rising TYPE order; the failure where one is wrong (R122). -/
def readRecs : (n last : Nat) → (bs : List Byte) → List RecRaw ⊕ LoadFail
  | 0, _, bs => if bs.isEmpty then .inl [] else .inr ⟨1, 0, 0⟩
  | n + 1, last, bs =>
    let t := leAt bs 0 2
    let c := leAt bs 2 2
    let b := leAt bs 4 4
    if bs.length < 8 + b ∨ t ≤ last ∨ 7 < t ∨ b % 4 ≠ 0 ∨ !recSizeOk t c b then .inr ⟨1, if t ≤ 7 then t else 0, 0⟩
    else
      match readRecs n t (bs.drop (8 + b)) with
      | .inr f => .inr f
      | .inl rs => .inl (⟨t, c, slice bs 8 b⟩ :: rs)

/-- The record of TYPE `t`, if present. -/
def recOf (rs : List RecRaw) (t : Nat) : Option RecRaw := rs.find? (fun r => r.type == t)

/-- Fixed-size elements of a record. -/
def elems (rs : List RecRaw) (t size : Nat) : List (List Byte) :=
  match recOf rs t with
  | none => []
  | some r => (List.range (r.bytes.length / size)).map (fun i => slice r.bytes (size * i) size)

/-- An optional index with its valid bit 15 (R127). -/
def optIdx (v hi : Nat) : Option Nat := if bit v 15 then some (bits v hi 0) else none

/-- A tunnel entry's number and fields (R127); none with VALID = 0. Log entry 42 (DEDUCED). -/
def readTun (e : List Byte) : Option (Nat × Tun) :=
  let w := leAt e 0 2
  if !bit w 15 then none
  else some (bits w 11 0,
    { kind := bits (byteAt e 2) 3 0, dir := bits (byteAt e 2) 4 4, hops := byteAt e 3, first := bits (leAt e 4 2) 8 0,
      last := bits (leAt e 6 2) 8 0, inq := optIdx (leAt e 8 2) 12, outq := optIdx (leAt e 10 2) 12,
      shaper := optIdx (leAt e 12 2) 9, policer := optIdx (leAt e 14 2) 9, bind := leAt e 20 4, refs := leAt e 8 8 })

/-- The reserved fields of a valid tunnel entry are 0 (R127). -/
def tunRsvOk (e : List Byte) : Bool :=
  !bit (leAt e 0 2) 15 ||
    (bits (leAt e 0 2) 14 12 == 0 && bits (byteAt e 2) 7 6 == 0 && bits (leAt e 4 2) 15 9 == 0 && bits (leAt e 6 2) 15 9 == 0
      && bits (leAt e 8 2) 14 13 == 0 && bits (leAt e 10 2) 14 13 == 0 && bits (leAt e 12 2) 14 10 == 0
      && bits (leAt e 14 2) 14 10 == 0 && leAt e 24 8 == 0)

/-- The gate-list port blocks of a record: (port, COUNT given, entries, reserved fields good) (R132). -/
def readGates : (n : Nat) → (bs : List Byte) → Option (List (Nat × Nat × List GateEntry × Bool))
  | 0, bs => if bs.isEmpty then some [] else none
  | n + 1, bs =>
    let c := leAt bs 2 2
    if bs.length < 8 + 8 * c then none
    else
      let es := (List.range c).map (fun i => slice bs (8 + 8 * i) 8)
      let ok := byteAt bs 1 == 0 && leAt bs 4 4 == 0 && es.all (fun e => leAt e 1 3 == 0)
      (readGates n (bs.drop (8 + 8 * c))).map
        (fun t => (byteAt bs 0, c, es.map (fun e => ⟨byteAt e 0, leAt e 4 4⟩), ok) :: t)

/-- The first index at which `bad` holds. -/
def firstBad {α : Type} (xs : List α) (bad : Nat → α → Bool) : Option Nat :=
  ((List.range xs.length).zip xs).findSome? (fun e => if bad e.1 e.2 then some e.1 else none)

/-- A failed check over a record's elements, if any. -/
def failAt {α : Type} (code record : Nat) (xs : List α) (bad : Nat → α → Bool) : Option LoadFail :=
  (firstBad xs bad).map (fun i => ⟨code, record, i⟩)

/-- The first failure of a list. -/
def firstFail (xs : List (Option LoadFail)) : Option LoadFail := xs.findSome? id

/-- An image read under check 0x01 (R121, R122, R134). Log entries 41 (DEDUCED), 42 (DEDUCED). -/
def readSec (img : List Byte) : (Sec × List (Nat × Nat × List GateEntry × Bool) × Nat × Bool) ⊕ LoadFail :=
  let fl := leAt img 6 2
  let len := leAt img 20 4
  let signed := bit fl 2
  let head := img.take 64
  let bad := leAt img 0 4 != 0x09605EC7 || leAt img 4 2 != 1 || bits fl 15 3 != 0 || bits (leAt img 12 2) 15 9 != 0
    || bits (leAt img 14 2) 15 9 != 0 || leAt img 18 2 == 0 || decide (7 < leAt img 18 2) || len % 4 != 0
    || decide (524288 < len) || decide (len < 68) || img.length != len + (if signed then 64 else 0)
    || !(head.drop 32).all (fun b => b == 0)
  if bad then .inr ⟨1, 0, 0⟩
  else
    match readRecs (leAt img 18 2) 0 (slice img 64 (len - 68)) with
    | .inr f => .inr f
    | .inl rs =>
      let pairs := elems rs 1 1
      let tuns := elems rs 3 32
      let shps := elems rs 4 16
      let pows := elems rs 5 4
      let carve := elems rs 7 4
      let gr := match recOf rs 6 with
        | none => some []
        | some r => readGates r.count r.bytes
      match gr with
      | none => .inr ⟨1, 6, 0⟩
      | some gs =>
        let rsv := firstFail [
          failAt 1 1 pairs (fun _ e => bits (byteAt e 0) 7 4 != 0 || bit (byteAt e 0) 2),
          failAt 1 3 tuns (fun _ e => !tunRsvOk e),
          failAt 1 4 shps (fun _ e => bits (byteAt e 3) 7 1 != 0 || leAt e 12 4 != 0),
          failAt 1 5 pows (fun _ e => leAt e 2 2 != 0),
          failAt 1 6 gs (fun _ g => !g.2.2.2),
          failAt 1 7 carve (fun _ e => bits (leAt e 0 4) 31 10 != 0)]
        match rsv with
        | some f => .inr f
        | none =>
          if (recOf rs 1).isNone then .inr ⟨1, 1, 0⟩
          else if crc32c (img.take (len - 4)) ≠ leAt img (len - 4) 4 then .inr ⟨1, 0, 0⟩
          else
            .inl ({ epoch := leAt img 8 4, hubAddr := bits (leAt img 12 2) 8 0, lastNode := bits (leAt img 14 2) 8 0,
                    hyper := byteAt img 16, ring := bit fl 1, head := bit fl 0, planId := leAt img 24 8,
                    crc := leAt img (len - 4) 4,
                    pairs := pairs.map (fun e => byteAt e 0), runs := (elems rs 2 8).map (fun e => leAt e 0 8),
                    tunnels := tuns.foldl (fun t e => match readTun e with
                      | none => t
                      | some (n, u) => Tab.put n u t) [],
                    shapers := shps.map (fun e => ⟨leAt e 0 2, byteAt e 2, bit (byteAt e 3) 0, leAt e 4 4, leAt e 8 4⟩),
                    power := pows.map (fun e => (byteAt e 0, byteAt e 1)),
                    gates := gs.map (fun g => (g.1, g.2.2.1)), gateRec := (recOf rs 6).isSome,
                    carve := (carve.head?).map (fun e => bits (leAt e 0 4) 9 0) }, gs, byteAt img 17, signed)

/-- The domains a section needs (R135). -/
def Sec.needs (c : Sec) : List Nat :=
  let tn (e : Nat × Tun) : List Nat :=
    let t := e.2
    let any := t.inq.isSome || t.outq.isSome
    match t.kind with
    | 1 => if any then [8] else []
    | 2 => if t.outq.isSome then [17, 9 + bits t.bind 0 0] else []
    | 3 =>
      let endOf := bits t.bind 31 30
      if any && endOf != 0 then 18 :: (if 2 ≤ endOf then [5 + bits t.bind 28 28] else []) else []
    | 4 => if t.inq.isSome || (t.outq.isSome && bit t.bind 31) then [19] else []
    | 5 => if t.outq.isSome && bit t.bind 31 then [11] else []
    | _ => []
  (c.tunnels.flatMap tn ++ (if c.gateRec || !c.gates.isEmpty then [8] else [])).eraseDups

/-- The plan-A arc length of a tunnel in a segment of `m` hubs (R112, R134). -/
def Tun.arc (t : Tun) (m : Nat) : Nat := if t.dir = 0 then (t.last + m - t.first) % m else (t.first + m - t.last) % m

/-- The plan-B test of R112: the tunnel's plan-A arc contains hop `b`. -/
def Tun.crosses (t : Tun) (m b : Nat) : Bool :=
  if t.dir = 0 then decide ((b + m - t.first) % m < (t.last + m - t.first) % m)
  else decide ((t.first + 2 * m - 1 - b) % m < (t.first + m - t.last) % m)

/-- The alarm slots reserved on pair `k` leaving by port `o`, at hub `n` with last node N (R107). Log entry 26 (DEDUCED). -/
def alarmSlots (isHead : Bool) (n N k o : Nat) : List Nat :=
  if isHead then
    if k = 0 ∧ o = 1 then [0, 4 * (N + 1) % 1000]
    else if k = 7 ∧ o = 0 then [4 * (256 - N) % 1000, 28] else []
  else if k = 0 then [4 * n % 1000]
  else if k = 7 then [4 * (257 - n) % 1000] else []

/-- Two runs share a slot in some phase (check 0x09). -/
def runsOverlap (a b : Nat) : Bool :=
  rPair a == rPair b && rOut a == rOut b && (rMask a &&& rMask b) != 0 &&
    decide (rStart a < rStart b + rLen b) && decide (rStart b < rStart a + rLen a)

/-- The domains a section may never step (R131). -/
def neverStep (head : Bool) (d : Nat) : Bool :=
  decide (d ≤ 3) || (decide (12 ≤ d) && decide (d ≤ 16)) || d == 20 || d == 21 || d == 23 || (head && d == 22)

/-- Check 0x03 (R134). -/
def Hub.chkAddress (c : Sec) (s : Hub) : Option LoadFail :=
  let bad := c.hubAddr != s.addr || c.head != s.isHead || c.lastNode == 0 || decide (256 < c.lastNode)
    || decide (c.lastNode < c.hubAddr) || c.ring != s.flag Fld.TRK_RING_STATUS_RING
  if bad then some ⟨3, 0, 0⟩ else none

/-- Check 0x04 (R134, R147). -/
def Hub.chkEpoch (c : Sec) (s : Hub) : Option LoadFail :=
  let active := s.getf Fld.PLN_ACTIVE_EPOCH
  if decide (active < c.epoch) || (s.flag Fld.PLN_STATUS_TRANSPARENT && c.epoch == active) then none else some ⟨4, 0, 0⟩

/-- Check 0x05 of one pair (R134). -/
def Hub.pairBad (s : Hub) (c : Sec) (i : Nat) : Bool :=
  let cap := s.getf (Fld.TRK_PAIR_STATUS_CAP i)
  (fixedPair (i % 8) && (c.dir i != r44Dir (i / 8) (i % 8) || c.nrz i)) || c.dir i == 0 || c.dir i == 3
    || (c.hasRuns (i / 8) (i % 8) && (cap == 2 || (cap == 1 && !c.nrz i)))

/-- Check 0x06 of one run (R134). -/
def Sec.rangeBad (c : Sec) (r : Nat) : Bool :=
  !rValid r || rLen r == 0 || bits r 23 16 != 0 || rMask r == 0 || (rMask r / 2 ^ c.h) != 0
    || decide (slotsOf (c.nrz (8 * rPort r + rPair r)) < rStart r + rLen r)

/-- Check 0x07 of one run (R93, R134). -/
def Sec.pairRunBad (c : Sec) (r : Nat) : Bool :=
  let i := 8 * rPort r + rPair r
  let o := 8 * otherPort (rPort r) + rPair r
  if rAction r = acAdd then c.dir i != dirOut
  else c.dir i != dirIn || ((rAction r == acPass || rAction r == acDropAdd) && !(c.dir o == dirOut && c.nrz o == c.nrz i))

/-- Check 0x08 of one run (R126, R134). -/
def Sec.orderBad (c : Sec) (i r : Nat) : Bool :=
  (decide (0 < i) && decide (rKey r < rKey (c.runs.getD (i - 1) 0)))
    || decide (2048 < (c.runs.filter (fun x => rPort x == rPort r && rPair x == rPair r)).length)

/-- Check 0x0B of one tunnel element (R134). -/
def Sec.tunBad (c : Sec) (e : List Byte) : Bool :=
  match readTun e with
  | none => false
  | some (t, u) =>
    let m := c.lastNode + 1
    let arc := u.arc m
    let qBad (q : Option Nat) : Bool := match q with
      | none => false
      | some q => decide (q < 16)
    decide (t < 0x40) || u.kind == 0 || decide (5 < u.kind) || decide (c.lastNode < u.first) || decide (c.lastNode < u.last)
      || qBad u.inq || qBad u.outq || decide (u.hops < arc) || (c.ring && decide (u.hops < max arc (m - arc)))

/-- The BINDING of a BLK tunnel (R278): END, ROLE, PORT, IOQ, PAIR and NSID. -/
def blkEnd (b : Nat) : Nat := bits b 31 30
def blkRole (b : Nat) : Nat := bits b 29 29
def blkPort (b : Nat) : Nat := bits b 28 28
def blkIoq (b : Nat) : Nat := bits b 27 24
def blkPair (b : Nat) : Nat := bits b 23 12
def blkNsid (b : Nat) : Nat := bits b 11 0

/-- The queue a BLK end uses (R279): IN_QUEUE for what it produces and at END 3, OUT_QUEUE for what it consumes. Log entry 94 (DEDUCED). -/
def blkUses (u : Tun) : Option Nat :=
  if blkEnd u.bind = 3 then u.inq
  else if (blkEnd u.bind = 1) = (blkRole u.bind = 0) then u.inq else u.outq

/-- Check 0x0B of a BLK tunnel element (R278). -/
def Hub.blkBad (s : Hub) (c : Sec) (e : List Byte) : Bool :=
  match readTun e with
  | none => false
  | some (_, u) =>
    if u.kind ≠ 3 then false
    else
      let b := u.bind
      let control (q : Option Nat) : Bool := match q with
        | none => false
        | some q => s.qControl q
      let pairBad := match Tab.get? (blkPair b) c.tunnels with
        | none => true
        | some v => v.kind != 3 || blkRole v.bind == blkRole b || blkEnd v.bind != blkEnd b || blkPort v.bind != blkPort b
            || blkIoq v.bind != blkIoq b || blkNsid v.bind != blkNsid b
      control u.inq || control u.outq ||
        (blkEnd b != 0 && (pairBad || (blkUses u).isNone || (blkEnd b == 3 && (u.first != s.addr || u.last != s.addr))))

/-- Check 0x0C of one tunnel element at hub `n` (R134). -/
def Sec.noPlanB (c : Sec) (n : Nat) (e : List Byte) : Bool :=
  match readTun e with
  | none => false
  | some (t, u) =>
    c.ring && (u.first == n || u.last == n) && c.runs.any (fun r => rTunnel r == t && !rPlan r)
      && !c.runs.any (fun r => rTunnel r == t && rPlan r)

/-- Check 0x0D (R134, R166). Log entry 41 (DEDUCED). -/
def Hub.chkQuota (c : Sec) (s : Hub) : Option LoadFail :=
  let u := c.carve.getD (s.pool.carve / 256)
  if decide (640 < u) || decide (262144 < 4096 + u * 256 + s.minSum) then some ⟨13, 7, 0⟩ else none

/-- Check 0x0E of one POWER element (R134). -/
def Sec.powerBad (c : Sec) (i : Nat) (e : Nat × Nat) : Bool :=
  decide (23 < e.1) || neverStep c.head e.1 || e.2 == 0 || decide (4 < e.2)
    || (c.power.take i).any (fun x => x.1 == e.1) || c.needs.contains e.1

/-- Check 0x0F of one port block (R134). -/
def gateBad (gs : List (Nat × Nat × List GateEntry × Bool)) (i : Nat) (g : Nat × Nat × List GateEntry × Bool) : Bool :=
  decide (3 < g.1) || (gs.take i).any (fun x => x.1 == g.1) || g.2.1 == 0 || decide (256 < g.2.1)
    || g.2.2.1.any (fun e => e.interval == 0)

/-- Check 0x10 of one SHAPERS element (R134). -/
def Sec.shaperBad (c : Sec) (i : Nat) (e : ShpElem) : Bool :=
  decide (1023 < e.index) || (decide (64 ≤ e.overhead) && decide (e.overhead < 224))
    || (c.shapers.take i).any (fun x => x.index == e.index) || e.burst == 0

/-- The checks of R134 from 0x03 on, in order, over a section read under 0x01 and passed under 0x02. Log entries 26 (DEDUCED), 41 (DEDUCED). -/
def Hub.checkSec (c : Sec) (gs : List (Nat × Nat × List GateEntry × Bool)) (tuns : List (List Byte)) (s : Hub) :
    Option LoadFail :=
  firstFail [
    s.chkAddress c,
    s.chkEpoch c,
    failAt 5 1 c.pairs (fun i _ => s.pairBad c i),
    if 4 < c.hyper then some ⟨6, 0, 0⟩ else none,
    failAt 6 2 c.runs (fun _ r => c.rangeBad r),
    failAt 7 2 c.runs (fun _ r => c.pairRunBad r),
    failAt 8 2 c.runs c.orderBad,
    failAt 9 2 c.runs (fun i r => (c.runs.take i).any (runsOverlap r)),
    failAt 10 2 c.runs (fun _ r => (alarmSlots s.isHead s.addr c.lastNode (rPair r) (rOut r)).any (rCovers r)),
    failAt 11 2 c.runs (fun _ r => (Tab.get? (rTunnel r) c.tunnels).isNone),
    failAt 11 3 tuns (fun _ e => c.tunBad e || s.blkBad c e),
    failAt 12 3 tuns (fun _ e => c.noPlanB s.addr e),
    s.chkQuota c,
    failAt 14 5 c.power c.powerBad,
    failAt 15 6 gs (gateBad gs),
    failAt 16 4 c.shapers c.shaperBad]

/-- Check 0x02 (R123, R134). -/
def Hub.sigOk (img : List Byte) (keyId : Nat) (signed : Bool) (s : Hub) : Bool :=
  if signed then
    let len := leAt img 20 4
    match (if keyId = 0 ∨ 7 < keyId then none else Tab.get? (16 + keyId) s.sec.keys) with
    | none => false
    | some k => ecdsaVerify k (sha256 (img.take len)) (slice img len 64)
  else keyId == 0 && !(s.flag Fld.PLN_CFG_SIG_REQ || s.deployed)

/-- The local checks of R134 over an image, in order: the section, or the failure. -/
def Hub.loadSec (img : List Byte) (s : Hub) : Sec ⊕ LoadFail :=
  match readSec img with
  | .inr f => .inr f
  | .inl (c, gs, kid, signed) =>
    if !s.sigOk img kid signed then .inr ⟨2, 0, 0⟩
    else
      let tuns := match readRecs (leAt img 18 2) 0 (slice img 64 (leAt img 20 4 - 68)) with
        | .inl rs => elems rs 3 32
        | .inr _ => []
      match s.checkSec c gs tuns with
      | some f => .inr f
      | none => .inl c

/-! Digests (R136, R137). -/

/-- The 16 × slots table of one hop, pair and plan, as a list of tunnel numbers. -/
def Sec.occ (c : Sec) (p k : Nat) (planB : Bool) : List Nat :=
  let n := 8 * p + k
  let slots := slotsOf (c.nrz n)
  let skew := skewOf (c.nrz n)
  let tx := c.dir n == dirOut
  let used := c.runs.filter (fun r => rPlan r == planB && rPair r == k &&
    (if tx then rOut r == p && rAction r != acDrop else rPort r == p))
  used.foldl (fun t r =>
    (List.range 16).foldl (fun t phi =>
      if bit (rMask r) (phi % c.h) then
        (List.range (rLen r)).foldl (fun t i =>
          let j := rStart r + i
          let at' := if tx then phi * slots + j
            else if skew ≤ j then phi * slots + (j - skew)
            else (phi + 15) % 16 * slots + (j + slots - skew)
          t.set at' (rTunnel r)) t
      else t) t) (List.replicate (16 * slots) 0)

/-- A hop digest (R136). -/
def Sec.digest (c : Sec) (p k : Nat) (planB : Bool) : Nat := crc32c ((c.occ p k planB).flatMap (beBytes 2))

/-- The body of HOP_DIGEST for port `p` (R138). -/
def Sec.digestBody (c : Sec) (epoch p : Nat) (answer : Bool) : List Byte :=
  beBytes 4 epoch ++ beBytes 1 (b2n answer * 2 + p) ++ zeros 3 ++
    (List.range 8).flatMap (fun k =>
      beBytes 1 (c.pairs.getD (8 * p + k) 0) ++ zeros 3 ++ beBytes 4 (c.digest p k false) ++ beBytes 4 (c.digest p k true))

/-- The comparison of R137 at port `p`: none when it passes, else the INDEX of R153. -/
def Sec.compare (c : Sec) (p : Nat) (body : List Byte) : Option Nat :=
  (List.range 8).findSome? (fun k =>
    let far := byteAt body (8 + 12 * k)
    let own := c.pairs.getD (8 * p + k) 0
    let d := (bits own 1 0, bits far 1 0)
    if !(d == (1, 2) || d == (2, 1)) || bit own 3 != bit far 3 then some (16 * p + k)
    else if beNat (slice body (12 + 12 * k) 4) ≠ c.digest p k false then some (16 * p + k)
    else if beNat (slice body (16 + 12 * k) 4) ≠ c.digest p k true then some (16 * p + 8 + k)
    else none)

/-! The active and pending section. -/

/-- The pending section's states (R151). -/
def psEmpty : Nat := 0
def psLoading : Nat := 1
def psChecking : Nat := 2
def psPeering : Nat := 3
def psReady : Nat := 4
def psFailed : Nat := 5
def psArmed : Nat := 6
def psArmedT : Nat := 7
def psHeld : Nat := 8

/-- The pending state. -/
def Hub.pend (s : Hub) : Nat := s.getf Fld.PLN_STATUS_PEND_STATE

/-- The pending section, where the pending bank holds one that passed its local checks. -/
def Hub.pendSec (s : Hub) : Option Sec :=
  let st := s.pend
  if st = psPeering ∨ st = psReady ∨ st = psArmed ∨ st = psArmedT then Tab.get? s.pendBank s.plan.banks else none

/-- The last node's address N: the active section's, else the pending one's, else the far hub at the head's U port (R107). Log entry 25 (DEDUCED). -/
def Hub.lastNode (s : Hub) : Nat :=
  match Tab.get? s.actBank s.plan.banks with
  | some c => c.lastNode
  | none =>
    match s.pendSec with
    | some c => c.lastNode
    | none => match (s.port 0).far with
      | some f => f.addr
      | none => 0

/-- Plan B is in force (R111). -/
def Hub.inPlanB (s : Hub) : Bool := s.getf Fld.TRK_RING_STATUS_STATE == 2

/-- A tunnel uses its plan-B runs (R112). -/
def Hub.tunB (s : Hub) (c : Sec) (t : Nat) : Bool :=
  s.inPlanB && match s.ring.brk, Tab.get? t c.tunnels with
    | some b, some u => u.crosses (c.lastNode + 1) b.hop
    | _, _ => false

/-- The run in force for travel key (k, o) at switch slot `j` of tick `t` (R112, R125). -/
def Hub.runAt (s : Hub) (k o j t : Nat) : Option Nat :=
  match s.actSec with
  | none => none
  | some c => c.runs.find? (fun r => rPair r == k && rOut r == o && rCovers r j && bit (rMask r) (t % c.h)
      && rPlan r == s.tunB c (rTunnel r))

/-- The PAIRS elements of the transparent plan: at a switch to `epoch` the mitten's copy of them where it is for that epoch and can be
read, else those in force (R146). -/
def Hub.transparentPairs (s : Hub) (switch : Bool) (epoch : Nat) : List Nat :=
  match s.plan.pairsCopy with
  | some (e, ps) => if switch && e == epoch && !s.entryBad 11 4 1536 then ps else s.pairsNow
  | none => s.pairsNow

end Sys2Proof.Machine
end

