-- ==== Sys2Proof/Machine/LinePower.lean ====
section
/-! DEFINITION. Shared operations of the power channels: conditions, the breaker, samples, trips and retries (R376 to
R399). -/

namespace Sys2Proof.Machine

/-- Channel `c`. -/
def Hub.chan (s : Hub) (c : Nat) : Chan := Tab.getD s.lpw.chans c {}

/-- The state with channel `c` as `C`. -/
def Hub.setChan (c : Nat) (C : Chan) (s : Hub) : Hub :=
  { s with lpw := { s.lpw with chans := Tab.put c C s.lpw.chans } }

/-- Channel states of LPW_CH_STATUS.STATE (R399). -/
def chOff : Nat := 0
def chQualify : Nat := 1
def chRamp : Nat := 2
def chOn : Nat := 3
def chBlocked : Nat := 4
def chCooldown : Nat := 5
def chLatched : Nat := 6

/-- Faults of LPW_CH_STATUS.FAULT (R399). -/
def ftCurrent : Nat := 1
def ftGauntlet : Nat := 2
def ftFast : Nat := 3
def ftShort : Nat := 4
def ftStart : Nat := 5
def ftOverTemp : Nat := 6
def ftOv : Nat := 7

/-- Modes of LPW_CH_CFG.MODE (R379). -/
def mdOff : Nat := 0
def mdFeed : Nat := 1
def mdTake : Nat := 2
def mdPass : Nat := 3

/-- The state of channel `c`. -/
def Hub.chState (s : Hub) (c : Nat) : Nat := s.getf (Fld.LPW_CH_STATUS_STATE c)

/-- The mode of channel `c`. -/
def Hub.chMode (s : Hub) (c : Nat) : Nat := s.getf (Fld.LPW_CH_CFG_MODE c)

/-- A channel of the drop ports, PC2 to PC5. -/
def dropChan (c : Nat) : Bool := decide (2 ≤ c) && decide (c ≤ 5)

/-- The modes R376 allows a channel. -/
def modeAllowed (c m : Nat) : Bool :=
  if c < 2 then decide (m ≤ 3)
  else if dropChan c then decide (m ≤ 1)
  else if c = 6 then m == 0 || m == 2
  else decide (m ≤ 1)

/-- The trunk port of PC0 or PC1 is ATTACHED, the hold of failsafe apart (R39, R376). -/
def Hub.portAttached (s : Hub) (p : Nat) : Bool :=
  s.attach p == atAttached || (s.attach p == atFailsafe && (s.port p).preHold == atAttached)

/-- What must hold beside EN before channel `c` may conduct (R376). -/
def Hub.chCond (s : Hub) (c : Nat) : Bool :=
  if c < 2 then s.portAttached c && !(s.port c).leaving && !(s.port c).departed
  else if dropChan c then (Tab.getD s.tcp.ports (c - 2) {}).vbusReq
  else true

/-- The UV and OV thresholds of channel `c` in mV: its window register, or 10 % about the setpoint for PC2 to PC5 (R387). -/
def Hub.chUv (s : Hub) (c : Nat) : Int :=
  if dropChan c then ((s.chan c).setpoint * 9 / 10 : Nat) else (s.getf (Fld.LPW_CH_WIN_UV c) * 10 : Nat)
/-- The other setpoint of a voltage transition counts from the Accept for 275 ms, and as long as the transition lasts (R382). -/
def Hub.otherSetpoint (s : Hub) (c : Nat) : Nat :=
  let P := Tab.getD s.tcp.ports (c - 2) {}
  if P.moving.isSome || !s.ranFor P.at'.move 275000000 then (s.chan c).oldSetpoint else 0
def Hub.chOv (s : Hub) (c : Nat) : Int :=
  if dropChan c then (max (s.chan c).setpoint (s.otherSetpoint c) * 11 / 10 : Nat)
  else (s.getf (Fld.LPW_CH_WIN_OV c) * 10 : Nat)

/-- How far inside a threshold a side that has left the window must come to be live again, in mV (R384). -/
def Hub.chHyst (s : Hub) (c : Nat) : Int := if dropChan c then ((s.chan c).setpoint * 2 / 100 : Nat) else 500

/-- The trunk port or drop port of channel `c` is detached (R394). -/
def Hub.chDetached (s : Hub) (c : Nat) : Bool :=
  if c < 2 then s.attach c != atAttached else dropChan c && decide (s.getf (Fld.TCP_PORT_STATUS_STATE (c - 2)) ≤ 1)

/-- A side at `v` mV is live, being live or not, and having been in the window before or not (R384). -/
def Hub.sideLive (s : Hub) (c : Nat) (was seen : Bool) (v : Int) : Bool :=
  let h := if was || !seen then 0 else s.chHyst c
  decide (s.chUv c + h ≤ v) && decide (v ≤ s.chOv c - h)

/-- The configured limit ILIM of channel `c` in mA; for PC2 to PC5 the lower of it and 1.25 × the PDO's current (R382). -/
def Hub.chIlim (s : Hub) (c : Nat) : Nat :=
  let r := s.getf (Fld.LPW_CH_ILIM_ILIM c) * 10
  if dropChan c then min r ((s.chan c).pdoMa * 5 / 4) else r

/-- The effective limit of R388, folded back with the outer side's voltage. -/
def Hub.ilimEff (s : Hub) (c : Nat) (vo : Int) : Int :=
  let lim : Int := s.chIlim c
  let uv := s.chUv c
  if 9 * uv ≤ 10 * vo then lim
  else if 10 * vo ≤ 2 * uv then lim / 4
  else (lim * 25 * 7 * uv + lim * 75 * (10 * vo - 2 * uv)) / (100 * 7 * uv)

/-- The limit in force: ILIM_START during a ramp (R385), else the effective limit. -/
def Hub.limitNow (s : Hub) (c : Nat) (vo : Int) : Int :=
  if s.chState c = chRamp then (s.getf (Fld.LPW_CH_ILIM_ILIM_START c) * 10 : Nat) else s.ilimEff c vo

/-- Point `k` of channel `c`'s gauntlet: Ik in mA and tk in µs (R389, R398). -/
def Hub.gntPoint (s : Hub) (c k : Nat) : Nat × Nat :=
  (s.getf (Fld.LPW_GNT_I_IK c k) * 10, s.getf (Fld.LPW_GNT_T_TK c k) * 10)

/-- The reverse-current threshold IREV in mA: 5 % of ILIM, at least 0.1 A (R379). -/
def Hub.chIrev (s : Hub) (c : Nat) : Int := max 100 (s.chIlim c / 20 : Nat)

/-- The source side's voltage of a channel: the inner side for FEED, the outer for TAKE, the higher for PASS (R384). -/
def Hub.srcV (s : Hub) (c : Nat) : Int :=
  let C := s.chan c
  if s.chMode c = mdFeed then C.vi else if s.chMode c = mdTake then C.vo else max C.vi C.vo

/-- The far side's voltage. -/
def Hub.farV (s : Hub) (c : Nat) : Int :=
  let C := s.chan c
  if s.chMode c = mdFeed then C.vo else if s.chMode c = mdTake then C.vi else min C.vi C.vo

/-- The gate goes down and the channel's ramp, limit and gauntlet timers start anew. -/
def Hub.gateOff (c : Nat) (s : Hub) : Hub :=
  (s.setChan c { s.chan c with rampT := 0, startT := 0, limT := none, faultT := 0, gntT := [], deadT := 0, fwdT := 0,
                                ovT := 0, onT := 0, innerT := 0, outerT := 0 })
    |>.setf (Fld.LPW_CH_STATUS_REGULATING c) 0

/-- Channel `c` enters state `st`. -/
def Hub.setChState (c st : Nat) (s : Hub) : Hub := (s.setf (Fld.LPW_CH_STATUS_STATE c) st).maintSweep

/-- The channel opens to OFF, LPW_OFF with cause `cause` (R393, R400). -/
def Hub.chOpen (c cause : Nat) (s : Hub) : Hub :=
  ((s.gateOff c).setChState c chOff).raise Evt.LPW_OFF [c, cause]

/-- The channel is in QUALIFY, RAMP, ON or BLOCKED. -/
def Hub.chActive (s : Hub) (c : Nat) : Bool := decide (1 ≤ s.chState c) && decide (s.chState c ≤ 4)

/-- The standing transitions of R393 by EN and the condition of R376: OFF to QUALIFY, or an active state to OFF. -/
def Hub.chEval (c : Nat) (s : Hub) : Hub :=
  let en := s.flag (Fld.LPW_CH_CFG_EN c)
  if s.chState c = chOff then
    if en && s.chCond c then (s.gateOff c).setChState c chQualify else s
  else if s.chActive c then
    if !en then s.chOpen c 0 else if !s.chCond c then s.chOpen c 1 else s
  else s

/-- The condition of R376 returns: during a cooldown that is recorded (R395), else the channel starts its insertion. -/
def Hub.chReturn (c : Nat) (s : Hub) : Hub :=
  if s.chState c = chCooldown then
    (s.count (Cnt.LPW_CNT_REATTACH c) 1).raise Evt.LPW_REATTACH_COOLDOWN [c, (s.chan c).coolLeft / 1000]
  else s.chEval c

/-- The n-th consecutive trip's cooldown in µs: min(TRETRY × 2^(n − 1), 64 s) (R394). -/
def Hub.cooldownUs (s : Hub) (c n : Nat) : Nat :=
  min (s.getf (Fld.LPW_CH_TFLT_TRETRY c) * 10000 * 2 ^ (n - 1)) 64000000

/-- A trip with `fault` at a current of magnitude `i` mA (R393, R394). -/
def Hub.chTrip (c fault i : Nat) (s : Hub) : Hub :=
  let n := min 15 (s.getf (Fld.LPW_CH_STATUS_TRIPS c) + 1)
  let s1 := (s.gateOff c) |>.setf (Fld.LPW_CH_STATUS_TRIPS c) n |>.setf (Fld.LPW_CH_STATUS_FAULT c) fault
    |>.count (Cnt.LPW_CNT_TRIP c) 1
  let s2 := if s.flag (Fld.LPW_CH_CFG_LATCH c) then s1.setChState c chLatched
    else
      let cool := s.cooldownUs c n
      (s1.setChan c { s1.chan c with coolLeft := cool }).setChState c chCooldown
        |>.setf (Fld.LPW_CH_STATUS_REMAIN c) (cool / 10000)
  let s3 := s2.raise Evt.LPW_TRIP [c, fault, i, n]
  if s.flag (Fld.LPW_CH_CFG_LATCH c) then s3.raise Evt.LPW_LATCHED [c, fault] else s3

/-- The trip history of channel `c` is cleared: n returns to 0 (R394). -/
def Hub.chClearTrips (c : Nat) (s : Hub) : Hub := s.setf (Fld.LPW_CH_STATUS_TRIPS c) 0

/-- A timer that counts up while `run` and down otherwise, never below 0 (R388, R389). -/
def upDown (t step : Nat) (run : Bool) : Nat := if run then t + step else t - step

/-- The sample period of R396 in µs. -/
def sampleUs : Nat := 4

/-- The step of the FET's thermal model over 4 µs, in units of 10^-9 °C (R397). -/
def Hub.thermStep (s : Hub) (c : Nat) (i vi vo : Int) : Int :=
  let C := s.chan c
  let full := s.chState c = chOn ∧ !s.flag (Fld.LPW_CH_STATUS_REGULATING c)
  let p : Int := if full then i * i * s.getf (Fld.LPW_CH_FET0_RDSON c)
    else ((vi - vo).natAbs : Int) * i.natAbs * 10000
  let cth : Int := s.getf (Fld.LPW_CH_FET1_CTH c)
  let rth : Int := s.getf (Fld.LPW_CH_FET1_RTH c)
  let amb : Int := sgn 16 (s.getf Fld.GEN_DIE_TEMP_TEMP) * 100000000
  C.temp + p * 4 / (cth * 100000) - (C.temp - amb) * 4 / (1000 * cth * rth)

/-- A free value's tag: the modelled temperature where RTH or CTH is 0 (R397). -/
def freeTagTherm : Nat := 8

/-- The modelled temperature after a sample; a free value where RTH or CTH is 0, which R397 divides by. Log entry 184 (DESIGN CHOICE). -/
def Hub.nextTemp (c : Nat) (i vi vo : Int) (s : Hub) : Int × Hub :=
  if s.getf (Fld.LPW_CH_FET1_CTH c) = 0 ∨ s.getf (Fld.LPW_CH_FET1_RTH c) = 0 then
    let (t, s1) := s.free freeTagTherm
    (t, s1)
  else (s.thermStep c i vi vo, s)

/-- The FET temperature in force in 0.1 °C: the thermistor with NTC_EN = 1 and a good reading, else the model (R397). -/
def Hub.fetTemp (s : Hub) (c : Nat) : Int :=
  if s.flag (Fld.LPW_CH_CFG_NTC_EN c) && !(s.chan c).ntcBad then (s.chan c).ntc else (s.chan c).temp / 100000000

/-- The band of a FET temperature in 0.1 °C (R430). Log entry 157 (DEDUCED). -/
def fetBand (t : Int) : Nat := if t < 850 then 0 else if t < 1100 then 1 else if t < 1350 then 2 else 3

/-- The thermal history takes a sample of temperature `t` (R430): its time in a band, and a cycle when the temperature has risen by 40 K from its
low and fallen by 40 K from the high that followed. Log entry 157 (DEDUCED). -/
def Chan.history (C : Chan) (t : Int) : Chan :=
  let C1 := { C with bandUs := (List.range 4).map (fun k => C.bandUs.getD k 0 + if k = fetBand t then sampleUs else 0) }
  match C.high with
  | none =>
    let lo := min (C.low.getD t) t
    if lo + 400 ≤ t then { C1 with low := some lo, high := some t } else { C1 with low := some lo }
  | some h =>
    let hi := max h t
    if t + 400 ≤ hi then { C1 with low := some t, high := none, cycles := C.cycles + 1 } else { C1 with high := some hi }

/-- LPW_CH_TFET shows the temperature in force and its source (R397). -/
def Hub.showTemp (c : Nat) (s : Hub) : Hub :=
  s |>.setf (Fld.LPW_CH_TFET_TEMP c) (enc 16 (s.fetTemp c))
    |>.setb (Fld.LPW_CH_TFET_MODELLED c) (!s.flag (Fld.LPW_CH_CFG_NTC_EN c) || (s.chan c).ntcBad)

/-- The thermistor reading `ntc` in 0.1 °C is taken; one outside −50 to +200 °C raises LPW_NTC_FAULT (R397). -/
def Hub.takeNtc (c : Nat) (ntc : Int) (s : Hub) : Hub :=
  if s.flag (Fld.LPW_CH_CFG_NTC_EN c) then
    let bad := decide (ntc < -500) || decide (2000 < ntc)
    let was := (s.chan c).ntcBad
    let s1 := s.setChan c { s.chan c with ntc := ntc, ntcBad := bad }
    if bad && !was then s1.raise Evt.LPW_NTC_FAULT [c, enc 16 ntc] else s1
  else s

/-- One sample of channel `c`: `i` mA outward, `vi` and `vo` mV, and the thermistor in 0.1 °C (R384 to R397). Log entry 128 (DEDUCED). -/
def Hub.lpwSample (c : Nat) (i vi vo ntc : Int) (s0 : Hub) : Hub :=
  let (next, s) := (s0.takeNtc c ntc).nextTemp c i vi vo
  let C := s.chan c
  let st := s.chState c
  let driven := decide (st = chRamp) || decide (st = chOn)
  let inner := s.sideLive c (s.flag (Fld.LPW_CH_STATUS_INNER_LIVE c)) C.innerSeen vi
  let outer := s.sideLive c (s.flag (Fld.LPW_CH_STATUS_OUTER_LIVE c)) C.outerSeen vo
  let eff := s.ilimEff c vo
  let ramp := decide (st = chRamp)
  let atLim := driven && decide (s.limitNow c vo ≤ if ramp then (i.natAbs : Int) else i)
  let far := if s.chMode c = mdFeed then vo else if s.chMode c = mdTake then vi else min vi vo
  let fwd := if s.chMode c = mdFeed then decide (vo + 100 ≤ vi) else decide (vi + 100 ≤ vo)
  let dead := decide (vi < s.chUv c) && decide (vo < s.chUv c)
  let src := if s.chMode c = mdFeed then vi else if s.chMode c = mdTake then vo else max vi vo
  let away := if c = 6 then decide (vo < s.chUv c) else s.chDetached c
  let q := decide (st = chQualify)
  let cool := C.coolLeft - sampleUs
  let gnt := (List.range 8).map (fun k =>
    let (ik, _) := s.gntPoint c k
    if ik = 0 then 0 else upDown (C.gntT.getD k 0) sampleUs (decide (st = chOn) && decide ((ik : Int) < i)))
  let C1 : Chan := { C with
    i := i, vi := vi, vo := vo, innerSeen := C.innerSeen || inner, outerSeen := C.outerSeen || outer,
    innerT := if q && inner then C.innerT + sampleUs else 0,
    outerT := if q && outer then C.outerT + sampleUs else 0,
    rampT := if ramp then C.rampT + sampleUs else 0,
    startT := if ramp then (if atLim then C.startT + sampleUs else C.startT) else 0,
    limT := if ramp then (match C.limT with
      | some t => some (t + sampleUs)
      | none => if atLim then some 0 else none) else none,
    farAtLim := if ramp && C.limT.isNone && atLim then far else C.farAtLim,
    faultT := if st = chOn then upDown C.faultT sampleUs atLim else 0,
    gntT := gnt,
    deadT := if dead then C.deadT + sampleUs else 0,
    fwdT := if decide (st = chBlocked) && fwd then C.fwdT + sampleUs else 0,
    ovT := if decide (st = chOn) && decide (s.chOv c < src) then C.ovT + sampleUs else 0,
    onT := if st = chOn then C.onT + sampleUs else 0,
    awayT := if away then C.awayT + sampleUs else 0,
    coolLeft := cool,
    temp := next,
    energy := C.energy + i * vi * sampleUs,
    sumI := C.sumI + i, sumVi := C.sumVi + vi, sumVo := C.sumVo + vo, sumP := C.sumP + i * vi / 1000,
    samples := C.samples + 1 }
  let s1' := s.setChan c C1
  let s1 := s1'.setChan c (C1.history (s1'.fetTemp c))
  let e := C1.energy / 1000000 % 2 ^ 64
  (s1 |>.setb (Fld.LPW_CH_STATUS_INNER_LIVE c) inner |>.setb (Fld.LPW_CH_STATUS_OUTER_LIVE c) outer
    |>.setb (Fld.LPW_CH_STATUS_REGULATING c) atLim
    |>.setb (Fld.LPW_CH_STATUS_FOLDED c) (decide (eff < (s.chIlim c : Int)))
    |>.setf (Fld.LPW_CH_STATUS_REMAIN c) (cool / 10000)
    |>.setf (Fld.LPW_CH_IPEAK c) (max (s.getf (Fld.LPW_CH_IPEAK c)) i.natAbs)
    |>.set64 (Fld.LPW_CH_E_LO c) (Fld.LPW_CH_E_HI c) e.toNat).showTemp c

/-- The mean of a tick's samples. -/
def meanOf (sum : Int) (n : Nat) : Int := if n = 0 then 0 else sum / n

/-- At a tick boundary the means of the tick's samples are published (R396). Log entry 128 (DEDUCED). -/
def Hub.lpwPublish (c : Nat) (s : Hub) : Hub :=
  let C := s.chan c
  if C.samples = 0 then s
  else
    (s |>.setf (Fld.LPW_CH_I c) (enc 32 (meanOf C.sumI C.samples)) |>.setf (Fld.LPW_CH_VI c) (enc 32 (meanOf C.sumVi C.samples))
      |>.setf (Fld.LPW_CH_VO c) (enc 32 (meanOf C.sumVo C.samples))
      |>.setf (Fld.LPW_CH_P c) (enc 32 (meanOf C.sumP C.samples))).setChan c
      { C with sumI := 0, sumVi := 0, sumVo := 0, sumP := 0, samples := 0 }

/-- The source side has stood in the window long enough: TINS for an outer source, 1 ms for an inner one (R384). -/
def Hub.qualified (s : Hub) (c : Nat) : Bool :=
  let C := s.chan c
  let tins := s.getf (Fld.LPW_CH_TINS_TINS c) * 1000
  let innerOk := s.flag (Fld.LPW_CH_STATUS_INNER_LIVE c) && decide (1000 ≤ C.innerT)
  let outerOk := s.flag (Fld.LPW_CH_STATUS_OUTER_LIVE c) && decide (tins ≤ C.outerT)
  if s.chMode c = mdFeed then innerOk
  else if s.chMode c = mdTake then outerOk
  else if s.chMode c = mdPass then innerOk || outerOk
  else false

/-- A write of LPW_CH_CFG_c (R382, R399): EN always, the other fields outside QUALIFY, RAMP, ON and BLOCKED. -/
def Hub.writeChCfg (c v : Nat) (s : Hub) : Hub :=
  let mode := bits v 30 28
  let latch := bits v 27 27
  let ntc := bits v 26 26
  let modeOk := modeAllowed c mode
  let differs := (modeOk && mode != s.chMode c) || latch != s.getf (Fld.LPW_CH_CFG_LATCH c)
    || ntc != s.getf (Fld.LPW_CH_CFG_NTC_EN c)
  let s1 := s.setb (Fld.LPW_CH_CFG_EN c) (bit v 31)
  let s2 := if s.chActive c then (if differs then s1.lockedWrite (0x0C0100 + 0x80 * c) v else s1)
    else
      (if modeOk then s1.setf (Fld.LPW_CH_CFG_MODE c) mode else s1)
        |>.setf (Fld.LPW_CH_CFG_LATCH c) latch |>.setf (Fld.LPW_CH_CFG_NTC_EN c) ntc
  s2.chEval c

/-- A write of LPW_CH_WIN or LPW_CH_TINS restarts a qualification in progress (R399). -/
def Hub.restartQualify (c : Nat) (s : Hub) : Hub :=
  if s.chState c = chQualify then s.setChan c { s.chan c with innerT := 0, outerT := 0 } else s

/-- LPW_CH_CTL.CLEAR: the trip history is cleared, and LATCHED is left for OFF (R393, R394). -/
def Hub.chClear (c : Nat) (s : Hub) : Hub :=
  let s1 := s.chClearTrips c
  if s.chState c = chLatched then (s1.setChState c chOff).chEval c else s1

/-- Gauntlet points in use rise in current and fall in time (R389). -/
def gntOrder : List (Nat × Nat) → Bool
  | [] => true
  | [_] => true
  | a :: b :: t => decide (a.1 < b.1) && decide (b.2 < a.2) && gntOrder (b :: t)

/-- A gauntlet word as the held set has it, else as committed. Key 2·k is Ik, 2·k + 1 is tk (R398). -/
def Hub.gntHeld (s : Hub) (c k w : Nat) : Nat :=
  Tab.getD (s.chan c).heldGnt (2 * k + w) (if w = 0 then s.getf (Fld.LPW_GNT_I_IK c k) else s.getf (Fld.LPW_GNT_T_TK c k))

/-- A write of a gauntlet word other than word 0 of point 0 is held (R398). -/
def Hub.holdGnt (c k w v : Nat) (s : Hub) : Hub :=
  s.setChan c { s.chan c with heldGnt := Tab.put (2 * k + w) v (s.chan c).heldGnt }

/-- A write of word 0 of point 0 commits all eight points, or is refused with LPW_CFG_REFUSED (R389, R398). -/
def Hub.commitGnt (c v : Nat) (s : Hub) : Hub :=
  let s1 := s.holdGnt c 0 0 (bits v 15 0)
  let pts := (List.range 8).map (fun k => (s1.gntHeld c k 0 % 2 ^ 16, s1.gntHeld c k 1))
  let s2 := s1.setChan c { s1.chan c with heldGnt := [] }
  if gntOrder (pts.filter (fun p => p.1 != 0)) then
    (List.range 8).foldl (fun t k =>
      t |>.setf (Fld.LPW_GNT_I_IK c k) (pts.getD k (0, 0)).1 |>.setf (Fld.LPW_GNT_T_TK c k) (pts.getD k (0, 0)).2) s2
  else s2.raise Evt.LPW_CFG_REFUSED [0x0C1000 + 0x40 * c, v]

end Sys2Proof.Machine
end

