-- ==== Sys2Proof/Machine/Power.lean ====
section
/-! DEFINITION. The ladder arbiter and the power domains: steps, refusals, entries, exits and wakes (R401 to R418). -/

namespace Sys2Proof.Machine

/-- Domain `d`. -/
def Hub.dom (s : Hub) (d : Nat) : Dom := Tab.getD s.pwr.doms d {}

/-- The state with domain `d` as `D`. -/
def Hub.setDom (d : Nat) (D : Dom) (s : Hub) : Hub :=
  { s with pwr := { s.pwr with doms := Tab.put d D s.pwr.doms } }

/-- Domain states of PWR_DOM_STATUS.STATE (R418). -/
def dmStable : Nat := 0
def dmEntering : Nat := 1
def dmExiting : Nat := 2
def dmRetrying : Nat := 3
def dmFailed : Nat := 4

/-- The state, the step in force and the active plan's step of domain `d`. -/
def Hub.domState (s : Hub) (d : Nat) : Nat := s.getf (Fld.PWR_DOM_STATUS_STATE d)
def Hub.domStep (s : Hub) (d : Nat) : Nat := s.getf (Fld.PWR_DOM_STATUS_STEP d)
def Hub.planStep (s : Hub) (d : Nat) : Nat := s.getf (Fld.PWR_DOM_STATUS_PLAN_STEP d)

/-- Domain `d` is at L0 and stable there. Log entry 163 (DEDUCED). -/
def Hub.atL0 (s : Hub) (d : Nat) : Bool := s.domStep d == 0 && s.domState d == dmStable

/-- Domain `d` is FAILED, or retrying out of it (R412). -/
def Hub.domFailed (s : Hub) (d : Nat) : Bool := s.domState d == dmFailed || s.domState d == dmRetrying

/-- A domain index by name (R401). -/
def dPEQ0 : Nat := 4
def dETH : Nat := 8
def dUSBPD : Nat := 11
def dCSW : Nat := 12
def dDSP : Nat := 17
def dBLK : Nat := 18
def dFBR : Nat := 19
def dSVC : Nat := 20
def dCTL : Nat := 21
def dHDMA : Nat := 22
def dSEC : Nat := 23

/-- Entry, exit and wake-timeout times of a step in ns, without save or restore (R403). -/
def entryNs (k : Nat) : Nat := match k with | 1 => 100 | 2 => 1000 | 3 => 5000 | 4 => 50000 | _ => 0
def exitNs (k : Nat) : Nat := match k with | 1 => 200 | 2 => 2000 | 3 => 20000 | 4 => 200000 | _ => 0

/-- Entry and exit times with the save of R405 where it applies. -/
def Hub.entryTime (s : Hub) (k : Nat) : Nat := if k = 3 ∧ s.flag Fld.PWR_CTL_SAVE_EN then 15000 else entryNs k
def Hub.exitTime (s : Hub) (k : Nat) : Nat := if k = 3 ∧ s.flag Fld.PWR_CTL_SAVE_EN then 25000 else exitNs k

/-- The block of an action's domain: FBR for CAN_TX, ETH for the Ethernet actions, DSP for DISP_COMMIT, none for AON (R198). -/
def actionDom (a : Nat) : Option Nat :=
  match a with
  | 0x10 => some dFBR
  | 0x20 => some dETH
  | 0x40 => some dETH
  | 0x30 => some dDSP
  | _ => none

/-- The prep of an action in ns (R198). -/
def actionPrep (a : Nat) : Nat :=
  match a with
  | 0x01 => 1000
  | 0x02 => 1000
  | 0x03 => 1000
  | 0x30 => 10000
  | _ => 20000

/-- A launch that domain `d` executes is pending. -/
def Hub.launchPending (s : Hub) (d : Nat) : Bool :=
  s.time.launches.any (fun e => actionDom e.2.action == some d)

/-- T − prep of the earliest pending launch that domain `d` executes (R409). -/
def Hub.launchUse (s : Hub) (d : Nat) : Option Nat :=
  (s.time.launches.filter (fun e => actionDom e.2.action == some d && !e.2.handed)).foldl
    (fun a e => match a with
      | none => some (e.2.f - actionPrep e.2.action)
      | some u => some (min u (e.2.f - actionPrep e.2.action))) none

/-- Some index below `n` has its one-bit field set. -/
def Hub.anyFlag (s : Hub) (n : Nat) (f : Nat → Fl) : Bool := (List.range n).any (fun i => s.flag (f i))

/-- Alt Mode is CONFIGURED on drop port `n` (R373). -/
def Hub.altMode (s : Hub) (n : Nat) : Bool := s.getf (Fld.TCP_PORT_STATUS_DP n) == 3

/-- The endpoint link on a PCIe quad is up: PEQ0 at a node, every quad at the head (R401). -/
def Hub.quadLinkUp (s : Hub) (d : Nat) : Bool := s.flag Fld.HIF_STATUS_LINK_UP && (s.isHead || d == dPEQ0)

/-- Every quad that carries the endpoint is at L0 (R401, R402, R413). -/
def Hub.quadsAwake (s : Hub) : Bool := (if s.isHead then [4, 5, 6, 7] else [4]).all s.atL0

/-- A ring is enabled: a listed HIF_RING_CFG.EN (R245). -/
def Hub.anyRing (s : Hub) : Bool :=
  s.regs.any (fun e => decide ((Fld.HIF_RING_CFG_EN 0).key ≤ e.1) && decide (e.1 ≤ (Fld.HIF_RING_CFG_EN 1023).key)
    && e.1 % 32 == 31 && e.2 == 1)

/-- Some CAN, chip-select or window enable of the bridge, or a valid signal map entry, holds FBR (R401). -/
def Hub.fbrInUse (s : Hub) : Bool :=
  s.anyFlag 4 Fld.FBR_ZCS_CFG_EN || s.anyFlag 64 Fld.FBR_WIN_CFG_EN || s.anyFlag 4 Fld.FBR_CAN_CFG_EN
    || s.fbr.sigMap.any (fun e => bit (e.2.getD 0 0) 31)

/-- The condition of R401 that holds domain `d` against step `k`, as its refuser code. -/
def Hub.heldBy (s : Hub) (d k : Nat) : Option Nat :=
  if d ≤ 3 then some 0x03
  else if 4 ≤ d ∧ d ≤ 7 then
    if s.quadLinkUp d then some 0x01
    else if (d = 5 ∧ s.flag (Fld.BLK_PORT_CFG_EN 0)) ∨ (d = 6 ∧ s.flag (Fld.BLK_PORT_CFG_EN 1)) then some 0x07
    else none
  else if d = dETH then
    if s.anyFlag 4 Fld.NET_PORT_CFG_EN then some 0x06 else if s.launchPending dETH then some 0x05 else none
  else if d = 9 ∨ d = 10 then
    if s.flag (Fld.DSP_HEAD_CFG_EN (d - 9)) then some 0x08 else if s.altMode (d - 9) then some 0x0B else none
  else if d = dUSBPD then
    if s.anyFlag 4 Fld.TCP_PORT_CFG_EN then some 0x0B
    else if s.flag Fld.TCP_S_STATUS_ATTACHED || s.getf Fld.USB_STATUS_UP != 0 then some 0x0A else none
  else if d = dDSP then
    if s.anyFlag 2 Fld.DSP_HEAD_CFG_EN then some 0x08 else if s.launchPending dDSP then some 0x05 else none
  else if d = dBLK then
    if s.anyFlag 2 Fld.BLK_PORT_CFG_EN || !s.blk.out.isEmpty then some 0x07 else none
  else if d = dFBR then
    if s.fbrInUse then some 0x09 else if s.launchPending dFBR then some 0x05 else none
  else if d = dHDMA then
    if 3 ≤ k ∧ (s.flag Fld.HIF_CTL_DB_EN || s.anyRing) then some 0x01 else none
  else none

/-- The steps that R401 allows control and management requests in service. -/
def serviceStep (d k : Nat) : Bool :=
  if d ≤ 3 then false
  else if d ≤ 11 then decide (1 ≤ k) && decide (k ≤ 4)
  else if d ≤ 16 then false
  else if d ≤ 19 then decide (1 ≤ k) && decide (k ≤ 4)
  else if d ≤ 21 then k == 1
  else if d = dHDMA then decide (1 ≤ k) && decide (k ≤ 4)
  else false

/-- The step is beyond what R401 allows in service with SAVE_EN = 0, or SVC asks for L4 while another domain is not there
(R408 rule 1, R414). -/
def Hub.phaseBars (s : Hub) (d k : Nat) : Bool :=
  if s.flag Fld.PWR_CTL_SAVE_EN then
    d == dSVC && k == 4 && (List.range 24).any (fun e => e != dSVC && s.domStep e != 4)
  else !serviceStep d k

/-- Another domain at L0 needs this one (R402). -/
def Hub.parentBars (s : Hub) (d : Nat) : Bool :=
  if d = dPEQ0 then s.hasHost && s.atL0 dHDMA
  else if 5 ≤ d ∧ d ≤ 7 then
    (s.isHead && s.atL0 dHDMA) || (d == 5 && s.flag (Fld.BLK_PORT_CFG_EN 0)) || (d == 6 && s.flag (Fld.BLK_PORT_CFG_EN 1))
  else if d = dUSBPD then (s.altMode 0 && s.atL0 9) || (s.altMode 1 && s.atL0 10)
  else false

/-- A launch that domain `d` executes has its handover at or after line time `t` (R410). -/
def Hub.launchFrom (s : Hub) (d t : Nat) : Bool :=
  s.time.launches.any (fun e => actionDom e.2.action == some d && !e.2.handed && decide (t ≤ e.2.f - actionPrep e.2.action))

/-- The next known use of domain `d` (R409). -/
def Hub.nextUse (s : Hub) (d : Nat) : Option Nat :=
  let boundary := (s.tick + 1) * tickNs
  let a := if (d = dHDMA ∧ s.flag Fld.HIF_CTL_DB_EN) ∨ d = dSVC ∨ d = dCTL then some boundary else none
  match a, s.launchUse d with
  | none, u => u
  | some b, none => some b
  | some b, some u => some (min b u)

/-- An entry committed now would not be out again by the domain's next use (R409). -/
def Hub.tooSoon (s : Hub) (d k : Nat) : Bool :=
  match s.nextUse d with
  | none => false
  | some u => decide (u < s.now + s.entryTime k + s.exitTime k + 1000)

/-- A request granted earlier in this tick sets the domain to another step (R408 rule 6). -/
def Hub.conflictBars (s : Hub) (d k : Nat) : Bool :=
  match (s.dom d).grant with
  | none => false
  | some (t, k') => t == s.tick && k' != k

/-- The refuser of an entry to step `k`, the first check of R408 that fails. -/
def Hub.entryRefuser (s : Hub) (d k : Nat) : Option Nat :=
  if s.phaseBars d k then some 0x12
  else if s.domFailed d then some 0x13
  else if s.planStep d != 0 || s.plan.needs.contains d then some 0x15
  else match (s.heldBy d k).filter (fun _ => !(s.flag Fld.PWR_CTL_SAVE_EN && decide (d ≤ 3))) with
    | some r => some r
    | none =>
      if s.rel.locks.contains (.dom d) then some 0x0E
      else if s.parentBars d then some 0x14
      else if s.conflictBars d k then some 0x10
      else if s.tooSoon d k then some 0x11
      else none

/-- A refusal or an abort enters the accounting word and its counter (R416); `code` is LAST_ID. -/
def Hub.accountRefusal (d k code : Nat) (abort : Bool) (s : Hub) : Hub :=
  s |>.setf (Fld.PWR_REFUSE_COUNT d) (min 0xFFFF (s.getf (Fld.PWR_REFUSE_COUNT d) + 1))
    |>.setf (Fld.PWR_REFUSE_LAST_ID d) code |>.setf (Fld.PWR_REFUSE_LAST_STEP d) k
    |>.setb (Fld.PWR_REFUSE_LAST_ABORT d) abort |>.setf (Fld.PWR_DOM_STATUS_LAST_REFUSER d) code
    |>.count (if abort then Cnt.PWR_CNT_ABORTED d else Cnt.PWR_CNT_REFUSED d) 1

/-- An entry to step `k` starts for holder `h` (1 plan, 2 control, 3 management). -/
def Hub.startEntry (d k h : Nat) (s : Hub) : Hub :=
  let u := s.nextUse d
  let D := s.dom d
  ((s.setDom d { D with target := k, wakeMet := none, next := none, grant := some (s.tick, k),
                        sched := if h = 1 then none else u.map (fun t => t - s.exitTime k - 1000) })
    |>.setf (Fld.PWR_DOM_STATUS_STATE d) dmEntering |>.setf (Fld.PWR_DOM_STATUS_HOLDER d) h).count (Cnt.PWR_CNT_ENTRIES d) 1
    |>.maintSweep

/-- An exit of domain `d` to L0 starts with wake source `src` (R407); SVC's from L4 waits for the crystal (R414). -/
def Hub.startExit (d src : Nat) (s : Hub) : Hub :=
  let D := s.dom d
  let s1 : Hub := if d = dSVC ∧ s.domStep d = 4 then { s with pwr := { s.pwr with xtalFrom := some s.up } } else s
  (s1.setDom d { D with src := src, from' := s.domStep d, exitAt := s.up, exitTick := s.tick, sched := none, wakeMet := none })
    |>.setf (Fld.PWR_DOM_STATUS_STATE d) dmExiting |>.setf (Fld.PWR_DOM_STATUS_RETRIES d) 0

/-- Armed entries of a domain are aborted by wake source `src` and counted (R407). -/
def Hub.abortArmed (d src : Nat) (s : Hub) : Hub :=
  let D := s.dom d
  let one (a : Option Nat) (t : Hub) : Hub := match a with
    | none => t
    | some k => t.accountRefusal d k (0x40 + src) true
  let s1 := one D.armedMgt (one D.armedCtl s)
  (s1.setDom d { s1.dom d with armedCtl := none, armedMgt := none }).setf (Fld.PWR_DOM_MODE_ARMED d) 0

/-- Failsafe holds domain `d` at L3 (R414). -/
def Hub.failsafeHolds (s : Hub) (d : Nat) : Bool := s.pwr.failsafe.active && d != dSVC

/-- A wake source meets domain `d`: armed entries are aborted, an entry finishes first, a lower step is left, and an entry that would have
followed an exit under way is dropped (R407). Log entry 185 (DEDUCED). -/
def Hub.wakeDom (d src : Nat) (s : Hub) : Hub :=
  if s.failsafeHolds d then s
  else
    let s0 := s.abortArmed d src
    let s1 := s0.setDom d { s0.dom d with next := none }
    if s1.domState d = dmEntering then s1.setDom d { s1.dom d with wakeMet := some src }
    else if s1.domState d = dmStable ∧ s1.domStep d ≠ 0 then s1.startExit d src
    else s1

/-- A wake request is refused only for a FAILED domain, or one the active plan steps and does not need (R408). -/
def Hub.wakeRefuser (s : Hub) (d : Nat) : Option Nat :=
  if s.domFailed d then some 0x13
  else if s.planStep d != 0 && !s.plan.needs.contains d then some 0x15
  else none

/-- A wake request, granted or refused by the arbiter at once (R28, R406, R408). -/
def Hub.requestWake (d src : Nat) (s : Hub) : Hub :=
  match s.wakeRefuser d with
  | some r => s.accountRefusal d 0 r false
  | none => (s.setDom d { s.dom d with grant := some (s.tick, 0) }).wakeDom d src

/-- The wake source of the exit with which holder `h` moves a domain to a shallower step (R407). -/
def holderSrc (h : Nat) : Nat := if h = 1 then 4 else h - 1

/-- A granted move of domain `d` to step `k` for holder `h` (R407): a direct entry to a deeper step, an exit and an entry to a shallower one; while
another move is under way it follows that one. Log entry 185 (DEDUCED). -/
def Hub.moveDom (d k h : Nat) (s : Hub) : Hub :=
  if s.domState d = dmStable ∧ s.domStep d < k then s.startEntry d k h
  else
    let s1 := s.setDom d { s.dom d with grant := some (s.tick, k), next := some (k, h) }
    if s.domState d ≠ dmStable then s1
    else if s.domStep d = k then s1.setDom d { s1.dom d with next := none }
    else s1.startExit d (holderSrc h)

/-- An armed entry is committed: the arbiter grants or refuses it (R406, R408). -/
def Hub.commitEntry (d k h : Nat) (s : Hub) : Hub :=
  if s.failsafeHolds d then s
  else
    match s.entryRefuser d k with
    | some r => s.accountRefusal d k r false
    | none => s.moveDom d k h

/-- The entries armed for domain `d` are committed, control before management (R28, R406). -/
def Hub.commitDom (d : Nat) (s : Hub) : Hub :=
  let D := s.dom d
  let s0 := (s.setDom d { D with armedCtl := none, armedMgt := none }).setf (Fld.PWR_DOM_MODE_ARMED d) 0
  let s1 := match D.armedCtl with
    | none => s0
    | some k => s0.commitEntry d k 2
  match D.armedMgt with
  | none => s1
  | some k => s1.commitEntry d k 3

/-- A core's wait commits the entries of the domains it owns: CTL by the control cores, every other by the service core
(R406). -/
def Hub.commitCore (core : Nat) (s : Hub) : Hub :=
  if core < 2 then s.commitDom dCTL
  else ((List.range 24).filter (fun d => d != dCTL)).foldl (fun t d => t.commitDom d) s

/-- The domain of the cores whose wait commits the entries of domain `d` (R406). -/
def ownerDom (d : Nat) : Nat := if d = dCTL then dCTL else dSVC

/-- A write of PWR_DOM_MODE_d by a control core (`ctl`) or the service core; an entry armed while its owning core is at L1 commits there
(R406, R418). -/
def Hub.writeDomMode (d v : Nat) (ctl : Bool) (s : Hub) : Hub :=
  let k := bits v 2 0
  if 4 < k then s
  else if k = 0 then (s.setf (Fld.PWR_DOM_MODE_TARGET d) 0).requestWake d (if ctl then 1 else 2)
  else
    let D := s.dom d
    let s1 := (s.setDom d (if ctl then { D with armedCtl := some k } else { D with armedMgt := some k }))
      |>.setf (Fld.PWR_DOM_MODE_TARGET d) k |>.setf (Fld.PWR_DOM_MODE_ARMED d) 1
    if s.atL0 (ownerDom d) then s1 else s1.commitDom d

/-- The refuser of a plan step (R410); `swAt` is the line time of the switch. -/
def Hub.planRefuser (s : Hub) (d swAt : Nat) : Option Nat :=
  if s.launchFrom d swAt then some 0x05
  else if decide (4 ≤ d) && decide (d ≤ 7) && s.quadLinkUp d then some 0x01
  else if s.rel.locks.contains (.dom d) then some 0x0E
  else if s.domFailed d then some 0x13
  else none

/-- A plan step of the POWER record at its switch (R410): PLAN_STEP shows the record's step, granted or not. A domain at the step or lower, or on its
way there, passes to plan hold. Log entry 185 (DEDUCED). -/
def Hub.takePlanStep (d k epoch : Nat) (s0 : Hub) : Hub :=
  let s := s0.setf (Fld.PWR_DOM_STATUS_PLAN_STEP d) k
  match s.planRefuser d s.now with
  | some r =>
    let s1 := s.accountRefusal d k r false
    if (s.dom d).refusedSwitch = some s.tick then s1
    else (s1.setDom d { s1.dom d with refusedSwitch := some s.tick }).raise Evt.PWR_STEP_REFUSED [d, k, r, epoch]
  | none =>
    let low := if s.domState d = dmStable then s.domStep d else if s.domState d = dmEntering then (s.dom d).target else 0
    if k ≤ low then
      (s.setDom d { s.dom d with sched := none, wakeMet := none, next := none, grant := some (s.tick, k) }).setf (Fld.PWR_DOM_STATUS_HOLDER d) 1
    else s.moveDom d k 1

/-- A wake record word pair (R415). Log entry 132 (DEDUCED). -/
def Hub.writeWakeRec (d fail src from' retries time startTick : Nat) (s : Hub) : Hub :=
  s |>.setf (Fld.PWR_WAKE_REC_0_TICK d) (startTick % 2 ^ 32) |>.setf (Fld.PWR_WAKE_REC_1_FAIL d) fail
    |>.setf (Fld.PWR_WAKE_REC_1_SOURCE d) src |>.setf (Fld.PWR_WAKE_REC_1_FROM d) from'
    |>.setf (Fld.PWR_WAKE_REC_1_RETRIES d) retries |>.setf (Fld.PWR_WAKE_REC_1_EXIT_TIME d) (min 0xFFFF time)

/-- A domain whose wake failure is fatal (R412). -/
def fatalDom (d : Nat) : Bool := decide (12 ≤ d) && decide (d ≤ 16) || d == dSVC || d == dCTL || d == dSEC

/-- The wake timeout of an exit that takes `exit` ns: twice its exit time plus 10 µs (R403). -/
def wakeTimeout (exit : Nat) : Nat := 2 * exit + 10000

/-- The wake timeout of the exit under way, with the restore of R405 where it applies (R403). -/
def Dom.exitLimit (D : Dom) : Nat := wakeTimeout (if D.from' = 3 ∧ D.saved.isSome then 25000 else exitNs D.from')

/-- The uptime at which retry `n` of a wake that timed out at `failAt` starts (R412). -/
def retryAt (failAt n : Nat) : Nat := failAt + 1000000 * n

/-- The wake timeouts of a retry from L3, and of a trunk lane, in ns (R403, R411, R412). -/
def retryLimit : Nat := wakeTimeout (exitNs 3)
def laneLimit : Nat := wakeTimeout 15000

/-- A FAILED lane of pair `k` at port `p`; its transmitter lane belongs to domain 2·p, its receiver to 2·p + 1 (R411). -/
def Hub.laneFailed (s : Hub) (p k : Nat) : Bool :=
  (Tab.getD s.pwr.laneFails (8 * (2 * p) + k) {}).failed || (Tab.getD s.pwr.laneFails (8 * (2 * p + 1) + k) {}).failed

/-- The block and window offsets a domain holds: the domain of a BAR0 offset, none for the always-on ones (R401, R502). -/
def domainOf (off : Nat) : Option Nat :=
  match off / 0x10000 with
  | 0x01 => some dHDMA
  | 0x02 => some dCSW
  | 0x03 => if off < 0x030040 then some 0 else if off < 0x030080 then some 2
            else if off < 0x030120 ∧ 0x030100 ≤ off then some 0 else if off < 0x030140 ∧ 0x030120 ≤ off then some 2 else none
  | 0x04 => some dCSW
  | 0x06 => some dETH
  | 0x07 => some dBLK
  | 0x08 => some dDSP
  | 0x09 => some dFBR
  | 0x0A => some dUSBPD
  | 0x0B => some dUSBPD
  | 0x0E => some dSVC
  | 0x0F => some dSEC
  | b => if 0x10 ≤ b ∧ b ≤ 0x19 then some dCSW
         else if 0x1A ≤ b ∧ b ≤ 0x1D then some dETH
         else if b = 0x1F then some dFBR else none

/-- Reads and writes at this offset meet a domain that is not at L0 (R404). The service core, which serves them, is awake. -/
def Hub.offAsleep (s : Hub) (off : Nat) : Bool :=
  match domainOf off with
  | none => false
  | some d => d != dSVC && !s.atL0 d

end Sys2Proof.Machine
end

