-- ==== Sys2Proof/Machine/BlockOps.lean ====
section
/-! DEFINITION. Shared operations of the storage tunnel: root ports, the SSD's view of line memory, slots and answers (R273 to
R284). -/

namespace Sys2Proof.Machine

/-- Root port `d`. -/
def Hub.rport (s : Hub) (d : Nat) : BlkPort := Tab.getD s.blk.ports d {}

/-- The state with root port `d` as `P`. -/
def Hub.setRport (d : Nat) (P : BlkPort) (s : Hub) : Hub := { s with blk := { s.blk with ports := Tab.put d P s.blk.ports } }

/-- Port states of BLK_PORT_STATUS.STATE (R286). -/
def bpOff : Nat := 0
def bpLink : Nat := 1
def bpInit : Nat := 2
def bpReady : Nat := 3
def bpResetting : Nat := 4
def bpFailed : Nat := 5

/-- The state, enable, depth and I/O queue pairs of root port `d`. -/
def Hub.bpState (s : Hub) (d : Nat) : Nat := s.getf (Fld.BLK_PORT_STATUS_STATE d)
def Hub.bpEn (s : Hub) (d : Nat) : Bool := s.flag (Fld.BLK_PORT_CFG_EN d)
def Hub.bpDepth (s : Hub) (d : Nat) : Nat := 2 ^ s.getf (Fld.BLK_PORT_CFG_DEPTH d)
def Hub.bpIoq (s : Hub) (d : Nat) : Nat := s.getf (Fld.BLK_PORT_CFG_IOQ d)
def Hub.bpRingq (s : Hub) (d : Nat) : Nat := s.getf (Fld.BLK_PORT_CFG_RINGQ d)
def Hub.bpMdts (s : Hub) (d : Nat) : Nat := s.getf (Fld.BLK_PORT_MDTS d)

/-- The cells RINGQ must hold (R276). Log entry 92 (DESIGN CHOICE). -/
def Hub.ringCells (s : Hub) (d : Nat) : Nat := 10 + s.bpIoq d * 5 * s.bpDepth d / 16

/-- The domain of root port `d`: PEQ1 or PEQ2 (R273). -/
def rootDom (d : Nat) : Nat := 5 + d

/-! Operations (R280, R282). -/
def boRead : Nat := 1
def boWrite : Nat := 2
def boFlush : Nat := 3
def boDeallocate : Nat := 4
def boIdentify : Nat := 5

/-- REASON codes of TUNNEL_FAIL (R283). -/
def tfInitFull : Nat := 1
def tfNoTunnel : Nat := 2
def tfLength : Nat := 3
def tfNotReady : Nat := 4
def tfNoCells : Nat := 5
def tfDataLost : Nat := 6
def tfTimeout : Nat := 7
def tfDevTimeout : Nat := 8
def tfDevReset : Nat := 9
def tfPoison : Nat := 10
def tfGone : Nat := 11

/-- The 32-byte header of a request or response (R282). Log entry 98 (DEDUCED). -/
def blkHeader (type op hub tag kind cns slba len status reason tick : Nat) : List Byte :=
  beBytes 1 type ++ beBytes 1 op ++ beBytes 2 (hub % 512) ++ beBytes 2 tag ++ beBytes 1 kind ++ beBytes 1 cns ++ beBytes 8 slba
    ++ beBytes 4 len ++ beBytes 2 status ++ beBytes 1 reason ++ zeros 1 ++ beBytes 4 (tick % 2 ^ 32) ++ zeros 4

/-- A packet is a block header of this TYPE (R282). -/
def isBlkHeader (type : Nat) (bs : List Byte) : Bool := bs.length == 32 && byteAt bs 0 == type

/-- Fields of a header (R282). -/
def bhOp (h : List Byte) : Nat := byteAt h 1
def bhHub (h : List Byte) : Nat := beNat (slice h 2 2)
def bhTag (h : List Byte) : Nat := beNat (slice h 4 2)
def bhKind (h : List Byte) : Nat := byteAt h 6
def bhCns (h : List Byte) : Nat := byteAt h 7
def bhSlba (h : List Byte) : Nat := beNat (slice h 8 8)
def bhLen (h : List Byte) : Nat := beNat (slice h 16 4)
def bhStatus (h : List Byte) : Nat := beNat (slice h 20 2)
def bhReason (h : List Byte) : Nat := byteAt h 22
def bhTick (h : List Byte) : Nat := beNat (slice h 24 4)

/-! Tunnels (R278, R279). -/

/-- A valid BLK tunnel of the active plan. -/
def Hub.blkTun (s : Hub) (t : Nat) : Option Tun :=
  if s.loadedPlan then (Tab.get? t s.plan.tunnels).filter (fun u => u.kind == 3) else none

/-- The queue an end of BLK tunnel `t` uses here: the device or initiator side of it. -/
def Hub.blkQueue (s : Hub) (t : Nat) : Option Nat :=
  match s.blkTun t with
  | none => none
  | some u => blkUses u

/-! Completing at the initiator end (R283). -/

/-- BLK_STATUS shows the commands outstanding. -/
def Hub.showBlk (s : Hub) : Hub := s.setf Fld.BLK_STATUS_COUNT s.blk.out.length

/-- An outstanding command ends with STATUS and RESULT. -/
def Hub.blkFinish (tag status result : Nat) (s : Hub) : Hub :=
  match Tab.get? tag s.blk.out with
  | none => s
  | some c =>
    let s1 := ({ s with blk := { s.blk with out := Tab.del tag s.blk.out } } : Hub).showBlk
    let s2 := if status = stTunnel then s1.count Cnt.BLK_CNT_TUNNEL_FAIL 1 else s1
    if c.dead then s2
    else s2.complete c.who c.idx c.cookie c.nocomp { ring := (askerRing c.who), hub := s.addr, status := status, result := result }

/-- At a switch, the commands of a pair that is no longer valid end TUNNEL_GONE (R283), and namespaces are learnt anew (R280). -/
def Hub.blkSwitch (s : Hub) : Hub :=
  let gone := s.blk.out.filter (fun (e : Nat × BlkCmd) => (s.blkTun e.2.req).isNone || (s.blkTun e.2.rsp).isNone)
  let s1 := gone.foldl (fun (t : Hub) (e : Nat × BlkCmd) => t.blkFinish e.1 stTunnel tfGone) s
  { s1 with blk := { s1.blk with ports := s1.blk.ports.mapVal (fun _ P => { P with lba := [], asked := [] }) } }

/-! Slots (R276, R281). -/

/-- Slot `i` of root port `d`. -/
def Hub.slot (s : Hub) (d i : Nat) : Option BlkSlot := Tab.get? (1024 * d + i) s.blk.slots

/-- BLK_PORT_INFLIGHT shows the slots in use and the highest count since EN (R285). -/
def Hub.showSlots (d : Nat) (s : Hub) : Hub :=
  let n := (s.blk.slots.filter (fun (e : Nat × BlkSlot) => e.1 / 1024 == d)).length
  (s.setf (Fld.BLK_PORT_INFLIGHT_COUNT d) n).setf (Fld.BLK_PORT_INFLIGHT_HIGH d) (max n (s.getf (Fld.BLK_PORT_INFLIGHT_HIGH d)))

/-- The state with slot `i` of port `d` in use. -/
def Hub.setSlot (d i : Nat) (x : BlkSlot) (s : Hub) : Hub :=
  ({ s with blk := { s.blk with slots := Tab.put (1024 * d + i) x s.blk.slots } } : Hub).showSlots d

/-- Slot `i` of port `d` freed with its cells (R281). -/
def Hub.freeSlotBlk (d i : Nat) (s : Hub) : Hub :=
  match s.slot d i with
  | none => s
  | some x =>
    let s1 := if x.op = boWrite then s.returnCells x.reqQ x.cells
      else match x.rspQ with
        | none => s
        | some q => s.returnCells q (x.hdrCell.toList ++ x.cells)
    ({ s1 with blk := { s1.blk with slots := Tab.del (1024 * d + i) s1.blk.slots } } : Hub).showSlots d

/-- The lowest free slot of port `d`. -/
def Hub.slotFree (s : Hub) (d : Nat) : Option Nat := (List.range 1024).find? (fun i => (s.slot d i).isNone)

/-- Commands issued on I/O queue `q` of port `d` and not completed; an SQ of DEPTH entries holds DEPTH − 1. Log entry 96 (DEDUCED). -/
def Hub.sqUsed (s : Hub) (d q : Nat) : Nat :=
  (s.blk.slots.filter (fun (e : Nat × BlkSlot) => e.1 / 1024 == d && e.2.ioq == q)).length

/-- The response to a request (R281, R282): with the header cell already granted it joins the response queue with, for READ
and IDENTIFY that succeeded, the data packet; else it is produced, and lost where the queue has no cell for it. Log entry 98 (DEDUCED). -/
def Hub.blkRespond (x : BlkSlot) (kind status reason : Nat) (s : Hub) : Hub :=
  let h := blkHeader 2 x.op (bhHub x.hdr) (bhTag x.hdr) kind (bhCns x.hdr) (bhSlba x.hdr) (bhLen x.hdr) status reason (bhTick x.hdr)
  match x.rspQ with
  | none => s.count Cnt.BLK_CNT_RSP_LOST 1
  | some q =>
    match x.hdrCell with
    | some i =>
      let Q := s.queue q
      let n := x.cells.length
      let body := (List.range n).map (fun k => (⟨x.cells.getD k 0, if k + 1 = n then (x.len - 1) % 256 else 255, k == 0,
        k + 1 == n, false, (Q.granted.find? (fun c => c.idx == x.cells.getD k 0)).any (fun c => c.poison), 0⟩ : QCell))
      let hd : QCell := ⟨i, 31, true, true, false, false, 0⟩
      let used := i :: (if kind = 0 then x.cells else [])
      let Q1 := { Q with granted := Q.granted.filter (fun c => !used.contains c.idx),
                         pkts := Q.pkts ++ [[hd]] ++ (if kind = 0 && n != 0 then [body] else []) }
      (s.memStoreEcc (256 * i) h).setQueue q Q1
    | none =>
      if s.allocate q = .granted then s.produce q (.blk x.port) { data := h }
      else (s.produce q (.blk x.port) { data := h }).count Cnt.BLK_CNT_RSP_LOST 1

/-- Slot `i` of port `d` is answered and freed. Log entry 95 (DEDUCED). -/
def Hub.slotAnswer (d i kind status reason : Nat) (s : Hub) : Hub :=
  match s.slot d i with
  | none => s
  | some x =>
    let s1 := if x.answered then s else s.blkRespond x kind status reason
    s1.freeSlotBlk d i

/-- Every command of port `d` is answered DEV_RESET and its slot freed; the number answered (R284). -/
def Hub.failSlots (d : Nat) (s : Hub) : Nat × Hub :=
  let mine := s.blk.slots.filter (fun (e : Nat × BlkSlot) => e.1 / 1024 == d)
  ((mine.filter (fun (e : Nat × BlkSlot) => !e.2.answered)).length,
    mine.foldl (fun (t : Hub) (e : Nat × BlkSlot) => t.slotAnswer d (e.1 % 1024) 2 0 tfDevReset) s)

/-! The SSD's queues in RINGQ's cells (R276): admin SQ, admin CQ, then SQ and CQ of each pair. -/

/-- Byte `o` of the cells `cs`: its line-memory address. Log entry 92 (DESIGN CHOICE). -/
def cellAddr (cs : List Nat) (o : Nat) : Nat := 256 * cs.getD (o / 256) 0 + o % 256

/-- `n` bytes read from a chain of cells at byte `o`. -/
def Hub.chainRead (s : Hub) (cs : List Nat) (o n : Nat) : List Byte := (List.range n).map (fun i => s.memByte (cellAddr cs (o + i)))

/-- Bytes written into a chain of cells at byte `o`. -/
def Hub.chainWrite (cs : List Nat) : (o : Nat) → (bs : List Byte) → (s : Hub) → Hub
  | _, [], s => s
  | o, b :: t, s => Hub.chainWrite cs (o + 1) t (s.memStoreEcc (cellAddr cs o) [b])

/-- Where SQ `q` and CQ `q` of port `d` start within RINGQ's cells; 0 names the admin pair. Log entry 92 (DESIGN CHOICE). -/
def Hub.sqBase (s : Hub) (d q : Nat) : Nat := if q = 0 then 0 else 2560 + (q - 1) * 80 * s.bpDepth d
/-- Where CQ `q` of port `d` starts within RINGQ's cells. Log entry 92 (DESIGN CHOICE). -/
def Hub.cqBase (s : Hub) (d q : Nat) : Nat := if q = 0 then 2048 else s.sqBase d q + 64 * s.bpDepth d

/-- Entries of queue `q`: 32 for the admin pair (R275), else DEPTH. -/
def Hub.nvmeDepth (s : Hub) (d q : Nat) : Nat := if q = 0 then 32 else s.bpDepth d

/-- An entry placed in SQ `q` of port `d`, and the tail doorbell written (R277). Log entry 96 (DEDUCED). -/
def Hub.submit (d q : Nat) (bytes : List Byte) (s : Hub) : Hub :=
  let P := s.rport d
  let n := Tab.getD P.tails q 0
  let dep := s.nvmeDepth d q
  let s1 := s.chainWrite P.ring (s.sqBase d q + 64 * (n % dep)) bytes
  ((s1.setRport d { P with tails := Tab.put q (n + 1) P.tails }).emit (.nvmeEntry d q bytes)).emit
    (.nvmeDoorbell d q false ((n + 1) % dep))

/-- A 64-byte submission entry of NVMe: opcode, command identifier, namespace, PRP1, PRP2 and dwords 10 to 13. Log entry 93 (PRESUMED). -/
def sqEntry (op cid nsid prp1 prp2 dw10 dw11 dw12 dw13 : Nat) : List Byte :=
  leBytes 4 (cid % 65536 * 65536 + op) ++ leBytes 4 nsid ++ zeros 16 ++ leBytes 8 prp1 ++ leBytes 8 prp2 ++ leBytes 4 dw10
    ++ leBytes 4 dw11 ++ leBytes 4 dw12 ++ leBytes 4 dw13 ++ zeros 8

/-- PRP1 and PRP2 of slot `i` for `len` bytes (R277). -/
def slotBase (i : Nat) : Nat := 0x100000000 + 0x10000 * i
def slotPages (len : Nat) : Nat := cdiv len 4096
def slotPrp2 (i len : Nat) : Nat :=
  if slotPages len ≤ 1 then 0 else if slotPages len = 2 then slotBase i + 4096 else 0x200000000 + 0x100 * i

/-! Bring-up (R274). -/

/-- A step of bring-up fails with CAUSE. -/
def Hub.blkFail (d cause : Nat) (s : Hub) : Hub :=
  (s.setRport d { s.rport d with since := s.up } |>.setf (Fld.BLK_PORT_STATUS_STATE d) bpFailed |>.setf (Fld.BLK_PORT_STATUS_CAUSE d) cause
    |>.setf (Fld.BLK_PORT_STATUS_SPEED d) 0 |>.setf (Fld.BLK_PORT_STATUS_WIDTH d) 0).raise Evt.BLK_PORT_DOWN [d, cause]

/-- The SSD's queues start empty. -/
def Hub.clearRings (d : Nat) (s : Hub) : Hub :=
  let P := s.rport d
  (s.setRport d { P with tails := [], heads := [] }).chainWrite P.ring 0 (zeros (256 * P.ring.length))

/-- Step 1: PERST# asserted, the quad woken; a domain that cannot wake is cause 1. -/
def Hub.blkStart (d : Nat) (s : Hub) : Hub :=
  let s1 := (s.setRport d { s.rport d with step := 1, perst := true, since := s.up }).emit (.rootPerst d true)
    |>.setf (Fld.BLK_PORT_STATUS_STATE d) bpLink |>.setf (Fld.BLK_PORT_STATUS_CAUSE d) 0
  if s1.domFailed (rootDom d) || (s1.wakeRefuser (rootDom d)).isSome then s1.blkFail d 1
  else if s1.atL0 (rootDom d) then s1 else s1.requestWake (rootDom d) 2

/-- Step 4 (R274): BAR0 at bus address 0x40_0000_0000, then memory space and bus master enable. Log entry 93 (PRESUMED). -/
def Hub.ssdAssign (d : Nat) (s : Hub) : Hub :=
  ((s.emit (.ssdConfig d 0x10 0)).emit (.ssdConfig d 0x14 0x40)).emit (.ssdConfig d 0x04 6)

/-- Steps 5 and 6 (R274, R276): CC.EN cleared, the queues empty, the admin queue registers, then CC with EN = 1, IOSQES 6 and IOCQES 4. Log entry 93 (PRESUMED). -/
def Hub.nvmeEnable (d : Nat) (s : Hub) : Hub :=
  [(0x24, 31 * 65536 + 31), (0x28, 0), (0x30, 0x800), (0x14, 0x460001)].foldl
    (fun t (e : Nat × Nat) => t.emit (.nvmeReg d e.1 e.2)) ((s.emit (.nvmeReg d 0x14 0)).clearRings d)

/-- An admin command of the hub's own whose completion is taken with it, named by its opcode, PRP1 and dwords 10 and 11. Log entry 93 (PRESUMED). -/
def Hub.adminDo (d op prp dw10 dw11 : Nat) (s : Hub) : Hub :=
  let n := Tab.getD (s.rport d).heads 0 0
  let s1 := s.submit d 0 (sqEntry op (0x3E00 + n % 256) 0 prp 0 dw10 dw11 0 0)
  (s1.setRport d { s1.rport d with heads := Tab.put 0 (n + 1) (s1.rport d).heads }).emit (.nvmeDoorbell d 0 true ((n + 1) % 32))

/-- Step 7 (R274, R275): Identify controller, Number of Queues for IOQ pairs, then a CQ without interrupts and an SQ for each pair. Log entry 93 (PRESUMED). -/
def Hub.nvmeCreate (d : Nat) (s : Hub) : Hub :=
  let n := s.bpIoq d
  let size := (s.bpDepth d - 1) * 65536
  let s1 := (s.adminDo d 0x06 0 1 0).adminDo d 0x09 0 7 ((n - 1) * 65537)
  (List.range n).foldl (fun t q =>
    (t.adminDo d 0x05 (0x40000 + 0x1000 * q) (size + (q + 1)) 1).adminDo d 0x01 (0x10000 + 0x4000 * q) (size + (q + 1))
      ((q + 1) * 65536 + 1)) s1

/-- The I/O queues of a READY port are deleted and CC.EN cleared (R274). Log entry 93 (PRESUMED). -/
def Hub.nvmeDelete (d : Nat) (s : Hub) : Hub :=
  if s.bpState d = bpReady then
    ((List.range (s.bpIoq d)).foldl (fun t q => (t.adminDo d 0x00 0 (q + 1) 0).adminDo d 0x04 0 (q + 1) 0) s).emit (.nvmeReg d 0x14 0)
  else if s.bpState d = bpResetting then s.emit (.nvmeReg d 0x14 0)
  else s

/-- The link of a root port trains to Gen1 to Gen4 and to 1, 2 or 4 lanes (R273, R286). -/
def rootLinkFits (speed width : Nat) : Bool := decide (1 ≤ speed) && decide (speed ≤ 4) && [1, 2, 4].contains width

/-- The CAUSEs with which the bring-up of port `d` can fail where it stands (R274): the domain before PERST# is released, the link 200 ms from
EN, and the controller's steps after that. -/
def Hub.blkCauses (s : Hub) (d : Nat) : List Nat :=
  let P := s.rport d
  if !s.bpEn d then []
  else if s.bpState d = bpLink then (if P.step = 1 then [1] else if P.since + 200000000 ≤ s.up then [2] else [])
  else if s.bpState d = bpInit then [3, 4, 5, 6]
  else if s.bpState d = bpResetting then [4, 5, 6]
  else []

/-- Steps 5 to 8 (R274), from what the SSD shows: the first that fails gives CAUSE. -/
def Hub.nvmeSetup (d : Nat) (cap ready admin : Bool) (mdts : Nat) (s : Hub) : Hub :=
  if !cap then s.blkFail d 4
  else
    let s1 := s.nvmeEnable d
    if !ready then s1.blkFail d 5
    else
      let s2 := s1.nvmeCreate d
      if !admin then s2.blkFail d 6
      else
        ((s2.setf (Fld.BLK_PORT_MDTS d) (if mdts = 0 then 65536 else min 65536 (4096 * 2 ^ mdts))).setf
          (Fld.BLK_PORT_STATUS_STATE d) bpReady).raise Evt.BLK_PORT_UP
          [d, s.getf (Fld.BLK_PORT_STATUS_SPEED d), s.getf (Fld.BLK_PORT_STATUS_WIDTH d)]

/-- Steps 4 to 8 (R274). -/
def Hub.blkSetup (d : Nat) (nvme cap ready admin : Bool) (mdts : Nat) (s : Hub) : Hub :=
  if !nvme then s.blkFail d 3 else (s.ssdAssign d).nvmeSetup d cap ready admin mdts

/-- EN cleared: the port goes down, its commands are answered DEV_RESET, and RINGQ's cells return (R274, R281). -/
def Hub.blkIdle (d : Nat) (s : Hub) : Hub :=
  let s1 := (s.failSlots d).2.nvmeDelete d
  let q := s1.bpRingq d
  let s2 := ((s1.returnCells q (s1.rport d).ring).unbindProd q (.blk d)).unbindCons q (.blk d)
  ((s2.setRport d {}).emit (.rootPerst d true) |>.setf (Fld.BLK_PORT_STATUS_STATE d) bpOff
    |>.setf (Fld.BLK_PORT_STATUS_SPEED d) 0 |>.setf (Fld.BLK_PORT_STATUS_WIDTH d) 0 |>.setf (Fld.BLK_PORT_MDTS d) 0).raise
    Evt.BLK_PORT_DOWN [d, 0]

/-- EN is cleared (R274). -/
def Hub.blkDown (d : Nat) (s : Hub) : Hub := (s.blkIdle d).setf (Fld.BLK_PORT_CFG_EN d) 0

/-- RINGQ suits the port (R274). -/
def Hub.ringqGood (s : Hub) (d : Nat) : Bool :=
  let q := s.bpRingq d
  s.qEnabled q && s.qControl q && s.qMin q == s.ringCells d && s.qMax q == s.ringCells d

/-- EN is set: refused with a CAUSE, or the bring-up starts (R274). -/
def Hub.blkEnable (d : Nat) (s4 : Hub) : Hub :=
  if !s4.ringqGood d then s4.setf (Fld.BLK_PORT_STATUS_CAUSE d) 7
  else
    match s4.grantCells (s4.bpRingq d) (s4.ringCells d) with
    | none => s4.setf (Fld.BLK_PORT_STATUS_CAUSE d) 7
    | some (cs, s5) =>
      let q := s5.bpRingq d
      let s6 := (((s5.bindProd q (.blk d)).bindCons q (.blk d)).setRport d { s5.rport d with ring := cs })
      (s6 |>.setf (Fld.BLK_PORT_CFG_EN d) 1 |>.setf (Fld.BLK_PORT_INFLIGHT_HIGH d) 0).blkStart d

/-- A write of BLK_PORT_CFG_d (R273, R274, R286). Log entry 175 (DESIGN CHOICE). -/
def Hub.writeBlkCfg (d v : Nat) (s : Hub) : Hub :=
  let off := 0x070100 + 0x80 * d
  let ioq := bits v 27 24
  let dep := bits v 23 20
  let rq := bits v 12 0
  let ioqOk := decide (1 ≤ ioq) && decide (ioq ≤ 8)
  let depOk := decide (4 ≤ dep) && decide (dep ≤ 8)
  let rqOk := decide (20 ≤ rq)
  let cur := b2n (s.bpEn d) * 2 ^ 31 + s.bpIoq d * 2 ^ 24 + s.getf (Fld.BLK_PORT_CFG_DEPTH d) * 2 ^ 20 + s.bpRingq d
  let new := bits v 31 31 * 2 ^ 31 + ioq * 2 ^ 24 + dep * 2 ^ 20 + rq
  if s.isHead then (if new = cur then s else s.lockedWrite off v)
  else if s.bpEn d then
    let differs := (ioqOk && ioq != s.bpIoq d) || (depOk && dep != s.getf (Fld.BLK_PORT_CFG_DEPTH d)) || (rqOk && rq != s.bpRingq d)
    let s1 := if differs then s.lockedWrite off v else s
    if bit v 31 then s1 else s1.blkDown d
  else
    let s1 := if ioqOk then s.setf (Fld.BLK_PORT_CFG_IOQ d) ioq else s
    let s2 := if depOk then s1.setf (Fld.BLK_PORT_CFG_DEPTH d) dep else s1
    let s3 := if rqOk then s2.setf (Fld.BLK_PORT_CFG_RINGQ d) rq else s2
    let s4 := s3.setf (Fld.BLK_PORT_RINGCELLS d) (s3.ringCells d)
    if bit v 31 then s4.blkEnable d else s4

end Sys2Proof.Machine
end

