-- ==== Sys2Proof/Machine/Block.lean ====
section
/-! DEFINITION. The storage tunnel's commands (R273 to R284). -/

namespace Sys2Proof.Machine

open Host (Outcome)

/-! The device end (R274 to R277, R281, R284). -/

/-- BLK_PORT_ENABLE (R274): a write of BLK_PORT_CFG_d. -/
def execBlkPortEnable (d : Fin 2) (v : Word) (s : State) : Outcome State Fault Refusal := s.on fun s => (s.writeBlkCfg d v.toNat)

/-- BLK_PORT_DISABLE (R274): EN cleared. Log entry 97 (DEDUCED). -/
def execBlkPortDisable (d : Fin 2) (s : State) : Outcome State Fault Refusal := s.on fun s =>
  if s.bpEn d then (s.blkDown d) else s

/-- BLK_PERST_RELEASE (R274): 100 ms after EN at the earliest, PERST# is released and the link trains. -/
def execBlkPerstRelease (d : Fin 2) (s : State) : Outcome State Fault Refusal := s.on fun s =>
  if s.bpEn d ∧ s.bpState d = bpLink ∧ (s.rport d).step = 1 ∧ (s.rport d).since + 100000000 ≤ s.up then
    ((s.setRport d { s.rport d with step := 2, perst := false }).emit (.rootPerst d false))
  else s

/-- BLK_LINK_UP (R273 to R275): by 200 ms from EN the link comes up at `speed` × `width`; 100 ms later the hub reads what the SSD shows: an NVMe
class code, capabilities that suit, ready in time, admin commands done, and its MDTS field. After a controller reset only the
latter four are read. -/
def execBlkLinkUp (d : Fin 2) (speed width : Fin 16) (nvme cap ready admin : Bool) (mdts : Nat) (s : State) : Outcome State Fault Refusal := s.on fun s =>
  if s.bpEn d ∧ s.bpState d = bpLink ∧ (s.rport d).step = 2 ∧ rootLinkFits speed width ∧ s.up ≤ (s.rport d).since + 200000000 then
    (((s.setRport d { s.rport d with step := 4 }) |>.setf (Fld.BLK_PORT_STATUS_STATE d) bpInit
      |>.setf (Fld.BLK_PORT_STATUS_SPEED d) speed |>.setf (Fld.BLK_PORT_STATUS_WIDTH d) width).blkSetup d nvme cap ready admin mdts)
  else if s.bpEn d ∧ s.bpState d = bpResetting then (s.nvmeSetup d cap ready admin mdts)
  else s

/-- BLK_BRINGUP_FAIL (R274): the step of the sequence that is under way fails with its CAUSE. -/
def execBlkBringupFail (d : Fin 2) (cause : Fin 16) (s : State) : Outcome State Fault Refusal := s.on fun s =>
  if (s.blkCauses d).contains cause.val then (s.blkFail d cause) else s

/-- BLK_BRINGUP_RETRY (R274): 1 s after a failure the sequence starts again. -/
def execBlkBringupRetry (d : Fin 2) (s : State) : Outcome State Fault Refusal := s.on fun s =>
  if s.bpEn d ∧ s.bpState d = bpFailed ∧ (s.rport d).since + 1000000000 ≤ s.up then (s.blkStart d) else s

/-- BLK_CTRL_RESET (R284): a slot answered DEV_TIMEOUT is still in use at 2 × CMD_TIMEOUT. Log entry 97 (DEDUCED). -/
def execBlkCtrlReset (d : Fin 2) (s : State) : Outcome State Fault Refusal := s.on fun s =>
  let lim := 2 * s.getf (Fld.BLK_PORT_TMO_MS d) * 1000000
  if s.bpEn d ∧ s.bpState d = bpReady ∧
      s.blk.slots.any (fun (e : Nat × BlkSlot) => e.1 / 1024 == d.val && e.2.answered && decide (e.2.at' + lim ≤ s.up)) then
    let (n, s1) := s.failSlots d
    ((((s1.setf (Fld.BLK_PORT_STATUS_STATE d) bpResetting).emit (.nvmeReg d 0x14 0)).count Cnt.BLK_CNT_CTRL_RESET 1).raise Evt.BLK_CTRL_RESET [d, n])
  else s

/-- BLK_LINK_DOWN (R284): as a controller reset, with the sequence from step 1. Log entry 97 (DEDUCED). -/
def execBlkLinkDown (d : Fin 2) (s : State) : Outcome State Fault Refusal := s.on fun s =>
  if s.bpEn d ∧ (s.bpState d = bpInit ∨ s.bpState d = bpReady ∨ s.bpState d = bpResetting) then
    let (n, s1) := s.failSlots d
    let s2 := ((s1.count Cnt.BLK_CNT_CTRL_RESET 1).raise Evt.BLK_CTRL_RESET [d, n]).raise Evt.BLK_PORT_DOWN [d, 2]
    ((s2.setf (Fld.BLK_PORT_STATUS_SPEED d) 0 |>.setf (Fld.BLK_PORT_STATUS_WIDTH d) 0).blkStart d)
  else s

/-- BLK_DEV_TIMEOUT (R284): slot `i` has been issued for CMD_TIMEOUT; the command is answered and an Abort sent. -/
def execBlkDevTimeout (d : Fin 2) (i : Fin 1024) (s : State) : Outcome State Fault Refusal := s.on fun s =>
  match s.slot d i with
  | none => s
  | some x =>
    if !x.answered ∧ x.at' + s.getf (Fld.BLK_PORT_TMO_MS d) * 1000000 ≤ s.up then
      let s1 := (s.blkRespond x 2 0 tfDevTimeout).setSlot d i { x with answered := true, hdrCell := none }
      ((s1.submit d 0 (sqEntry 0x08 0x3FFF 0 0 0 (i.val * 65536 + x.ioq) 0 0 0)).raise Evt.BLK_DEV_TIMEOUT [d, i, i])
    else s

/-- NVME_CQE_RECEIVE (R277, R281, R284): the entry at the head of CQ `q`, taken when its phase tag shows it new; `lbads` is the
LBA data size that an Identify Namespace of the hub's own returned, as a power of two. -/
def execNvmeCqeReceive (d : Fin 2) (q : Fin 9) (lbads : Fin 32) (s : State) : Outcome State Fault Refusal := s.on fun s =>
  let P := s.rport d
  let n := Tab.getD P.heads q 0
  let dep := s.nvmeDepth d q
  let e := s.chainRead P.ring (s.cqBase d q + 16 * (n % dep)) 16
  let dw3 := leAt e 12 4
  if P.ring.isEmpty ∨ s.bpState d ≠ bpReady ∨ bit dw3 16 ≠ (n / dep % 2 == 0) then s
  else
    let cid := bits dw3 15 0
    let status := bits dw3 31 17
    let s1 := (s.setRport d { P with heads := Tab.put q (n + 1) P.heads }).emit (.nvmeDoorbell d q true ((n + 1) % dep))
    if 0x4000 ≤ cid ∧ cid < 0x5000 then
      let ns := cid - 0x4000
      let P1 := s1.rport d
      (s1.setRport d { P1 with asked := P1.asked.filter (fun i => i != ns),
                                     lba := if status = 0 then Tab.put ns (2 ^ lbads.val) P1.lba else P1.lba })
    else if cid < 1024 then
      let s2 := if status = 0 then s1 else s1.count Cnt.BLK_CNT_DEV_STATUS 1
      (s2.slotAnswer d cid (if status = 0 then 0 else 1) status 0)
    else s1

/-- The bytes a slot's data offers an SSD read: write data, or the one range of DEALLOCATE (R275, R276). Log entry 93 (PRESUMED). -/
def Hub.slotRead (s : Hub) (x : BlkSlot) (o n : Nat) : Option (List Byte) :=
  if x.op = boWrite ∧ o + n ≤ x.len ∧ !x.cells.isEmpty then some (s.chainRead x.cells o n)
  else if x.op = boDeallocate ∧ o + n ≤ 16 then
    some (slice (zeros 4 ++ leBytes 4 x.len ++ leBytes 8 (bhSlba x.hdr)) o n)
  else none

/-- The PRP list of slot `i` for `len` bytes (R276). Log entry 93 (PRESUMED). -/
def prpList (i len : Nat) : List Byte := ((List.range (slotPages len - 1)).map (fun k => leBytes 8 (slotBase i + 4096 * (k + 1)))).flatten

/-- What an SSD read of `n` bytes at bus address `a` returns, none where it is Unsupported Request (R276). -/
def Hub.ssdRead (s : Hub) (d a n : Nat) : Option (List Byte) :=
  let P := s.rport d
  let dep := s.bpDepth d
  if P.ring.isEmpty then none
  else if a + n ≤ 0x800 then some (s.chainRead P.ring a n)
  else if 0x10000 ≤ a ∧ a < 0x10000 + 0x4000 * s.bpIoq d then
    let q := (a - 0x10000) / 0x4000 + 1
    let o := (a - 0x10000) % 0x4000
    if o + n ≤ 64 * dep then some (s.chainRead P.ring (s.sqBase d q + o) n) else none
  else if 0x100000000 ≤ a ∧ a < 0x100000000 + 0x10000 * 1024 then
    match s.slot d ((a - 0x100000000) / 0x10000) with
    | none => none
    | some x => s.slotRead x ((a - 0x100000000) % 0x10000) n
  else if 0x200000000 ≤ a ∧ a < 0x200000000 + 0x100 * 1024 then
    let i := (a - 0x200000000) / 0x100
    let o := (a - 0x200000000) % 0x100
    match s.slot d i with
    | none => none
    | some x => if o + n ≤ 8 * (slotPages x.len - 1) then some (slice (prpList i x.len) o n) else none
  else none

/-- An SSD write at bus address `a`, none where it is Unsupported Request (R276). -/
def Hub.ssdWrite (d a : Nat) (bs : List Byte) (s : Hub) : Option Hub :=
  let P := s.rport d
  let dep := s.bpDepth d
  let n := bs.length
  if P.ring.isEmpty then none
  else if 0x800 ≤ a ∧ a + n ≤ 0xA00 then some (s.chainWrite P.ring (2048 + (a - 0x800)) bs)
  else if 0x40000 ≤ a ∧ a < 0x40000 + 0x1000 * s.bpIoq d then
    let q := (a - 0x40000) / 0x1000 + 1
    let o := (a - 0x40000) % 0x1000
    if o + n ≤ 16 * dep then some (s.chainWrite P.ring (s.cqBase d q + o) bs) else none
  else if 0x100000000 ≤ a ∧ a < 0x100000000 + 0x10000 * 1024 then
    let o := (a - 0x100000000) % 0x10000
    match s.slot d ((a - 0x100000000) / 0x10000) with
    | none => none
    | some x =>
      if (x.op = boRead ∨ x.op = boIdentify) ∧ o + n ≤ x.len ∧ !x.cells.isEmpty then some (s.chainWrite x.cells o bs) else none
  else none

/-- SSD_INBOUND_ACCESS (R276): the SSD of port `d` reads `len` bytes at bus address `a`, or writes `bytes` there. -/
def execSsdInboundAccess (d : Fin 2) (a : Nat) (write : Bool) (len : Nat) (bytes : List Byte) (s : State) : Outcome State Fault Refusal := s.on fun s =>
  let bad : Hub := ((s.count Cnt.BLK_CNT_BAD_INBOUND 1).raiseLimited Evt.BLK_BAD_INBOUND d [d, a]).emit (.ssdAnswer d none)
  if write then
    match s.ssdWrite d a bytes with
    | some s1 => s1
    | none => bad
  else
    match s.ssdRead d a len with
    | some bs => (s.emit (.ssdAnswer d (some bs)))
    | none => bad

/-! Issuing requests at the device end (R280, R281, R283). -/

/-- A request answered without being issued. Log entry 94 (DEDUCED). -/
def Hub.rejectReq (u : Tun) (h : List Byte) (reason : Nat) (s : Hub) : Hub :=
  let rsp := s.blkQueue (blkPair u.bind)
  s.blkRespond { port := blkPort u.bind, hdr := h, op := bhOp h, len := bhLen h, reqQ := 0, rspQ := rsp, ioq := 0, nsid := 0,
                 at' := s.up } 2 0 reason

/-- The NVMe command of a request in slot `i` (R275, R280). Log entry 93 (PRESUMED). -/
def nvmeCommand (i nsid lba : Nat) (h : List Byte) : List Byte :=
  let len := bhLen h
  let slba := bhSlba h
  let p1 := slotBase i
  let p2 := slotPrp2 i len
  let lo := slba % 2 ^ 32
  let hi := slba / 2 ^ 32
  if bhOp h = boRead then sqEntry 0x02 i nsid p1 p2 lo hi (len / lba - 1) 0
  else if bhOp h = boWrite then sqEntry 0x01 i nsid p1 p2 lo hi (len / lba - 1) 0
  else if bhOp h = boFlush then sqEntry 0x00 i nsid 0 0 0 0 0 0
  else if bhOp h = boDeallocate then sqEntry 0x09 i nsid p1 0 0 4 0 0
  else sqEntry 0x06 i (if bhCns h = 0 then nsid else 0) p1 0 (bhCns h) 0 0 0

/-- The request at the head of the queue is issued in slot `i` with these cells (R281). Log entry 95 (DEDUCED). -/
def Hub.issueReq (u : Tun) (q i lba : Nat) (h : List Byte) (hdrCell : Option Nat) (cells : List Nat) (s : Hub) : Hub :=
  let d := blkPort u.bind
  let ioq := if bhOp h = boIdentify then 0 else blkIoq u.bind
  let x : BlkSlot := { port := d, hdr := h, op := bhOp h, len := bhLen h, reqQ := q, rspQ := s.blkQueue (blkPair u.bind), ioq := ioq,
                       nsid := blkNsid u.bind, hdrCell := hdrCell, cells := cells, at' := s.up }
  ((s.setSlot d i x).submit d ioq (nvmeCommand i (blkNsid u.bind) lba h)).count Cnt.BLK_CNT_CMDS 1

/-- A write request with its data packet `p` behind it (R281, R283). -/
def Hub.issueWrite (u : Tun) (q i lba : Nat) (h : List Byte) (p : List QCell) (s : Hub) : Hub :=
  if pktPoison p then ((s.popPkt q).popPkt q).rejectReq u h tfPoison
  else if (s.pktBytes p).length ≠ bhLen h then ((s.popPkt q).popPkt q).rejectReq u h tfDataLost
  else
    let s1 := (s.popPkt q)
    let Q := s1.queue q
    (s1.setQueue q { Q with pkts := Q.pkts.tail, granted := Q.granted ++ p }).issueReq u q i lba h none (p.map (fun c => c.idx))

/-- A READ or IDENTIFY request: the header cell and the data cells are granted first (R281); with the header cell alone the
request fails NO_CELLS (R283). -/
def Hub.issueRead (u : Tun) (q i lba : Nat) (h : List Byte) (s : Hub) : Hub :=
  match s.blkQueue (blkPair u.bind) with
  | none => (s.popPkt q).rejectReq u h tfNotReady
  | some rq =>
    match s.grantCells rq 1 with
    | none => s
    | some (hc, s1) =>
      match s1.grantCells rq (cdiv (bhLen h) 256) with
      | some (cs, s2) => (s2.popPkt q).issueReq u q i lba h hc.head? cs
      | none =>
        let x : BlkSlot := { port := blkPort u.bind, hdr := h, op := bhOp h, len := bhLen h, reqQ := 0, rspQ := some rq, ioq := 0,
                             nsid := 0, hdrCell := hc.head?, at' := s.up }
        (s1.popPkt q).blkRespond x 2 0 tfNoCells

/-- The request `h` at the head of queue `q` of a tunnel whose port is READY. Log entry 95 (DEDUCED). -/
def Hub.tryIssue (u : Tun) (q : Nat) (h : List Byte) (rest : List (List QCell)) (s : Hub) : Hub :=
  let d := blkPort u.bind
  let P := s.rport d
  let ns := blkNsid u.bind
  let data := bhOp h == boRead || bhOp h == boWrite
  let lba := Tab.getD P.lba ns 0
  let ioq := if bhOp h = boIdentify then 0 else blkIoq u.bind
  if data ∧ lba = 0 then
    if P.asked.contains ns then s
    else (s.setRport d { P with asked := P.asked ++ [ns] }).submit d 0 (sqEntry 0x06 (0x4000 + ns) ns 0 0 0 0 0 0)
  else if data ∧ (s.bpMdts d < bhLen h ∨ bhLen h % lba ≠ 0) then
    let s1 := s.popPkt q
    let s2 := match bhOp h == boWrite, rest.head? with
      | true, some p => if pktGap p || isBlkHeader 1 (s.pktBytes p) then s1 else s1.popPkt q
      | _, _ => s1
    s2.rejectReq u h tfLength
  else if bhOp h = boWrite then
    match rest.head? with
    | none => s
    | some p =>
      if pktGap p || isBlkHeader 1 (s.pktBytes p) then (s.popPkt q).rejectReq u h tfDataLost
      else
        match s.slotFree d with
        | none => s
        | some i => if s.nvmeDepth d ioq ≤ s.sqUsed d ioq + 1 then s else s.issueWrite u q i lba h p
  else
    match s.slotFree d with
    | none => s
    | some i =>
      if s.nvmeDepth d ioq ≤ s.sqUsed d ioq + 1 then s
      else if bhOp h = boRead ∨ bhOp h = boIdentify then s.issueRead u q i lba h
      else (s.popPkt q).issueReq u q i lba h none []

/-- Request tunnel `t` ends here at its device end, and a packet waits in it (R278, R279). -/
def Hub.blkWaits (s : Hub) (t : Nat) : Bool :=
  match s.blkTun t, s.blkQueue t with
  | some u, some q => blkRole u.bind == 0 && decide (2 ≤ blkEnd u.bind) && (s.headPkt q).isSome
  | _, _ => false

/-- The request tunnel whose turn it is: round-robin over those in which a packet waits (R281). -/
def Hub.blkTurn (s : Hub) : Option Nat :=
  let ts := (s.plan.tunnels.map (fun e => e.1)).filter (fun t => s.blkWaits t)
  match ts.find? (fun t => s.blk.turn < t) with
  | some t => some t
  | none => ts.head?

/-- The device end takes what stands at the head of queue `q` of request tunnel `u` (R281, R283). -/
def Hub.blkIssue (u : Tun) (q : Nat) (s : Hub) : Hub :=
  match s.readHead q with
  | (none, s1) => s1
  | (some p, s1) =>
    let h := s1.pktBytes p
    if pktGap p ∨ !isBlkHeader 1 h then (s1.popPkt q)
    else if s1.bpState (blkPort u.bind) ≠ bpReady ∨ s1.domFailed dBLK then
      let rest := (s1.queue q).pkts.tail
      let s2 := s1.popPkt q
      let s3 := match bhOp h == boWrite, rest.head? with
        | true, some w => if pktGap w || isBlkHeader 1 (s1.pktBytes w) then s2 else s2.popPkt q
        | _, _ => s2
      (s3.rejectReq u h tfNotReady)
    else (s1.tryIssue u q h (s1.queue q).pkts.tail)

/-- BLK_COMMAND_ISSUE (R281, R283): the device end takes the packet at the head of request tunnel `t`, whose turn it is. -/
def execBlkCommandIssue (t : Fin 4096) (s : State) : Outcome State Fault Refusal := s.on fun s =>
  match s.blkTun t, s.blkQueue t with
  | some u, some q =>
    if s.blkTurn = some t.val then (({ s with blk := { s.blk with turn := t } } : Hub).blkIssue u q) else s
  | _, _ => s

/-! The initiator end (R280, R281, R283). -/

/-- The opcode of a block operation. -/
def blkOpcode (op : Nat) : Nat := 0x67 + op

/-- The operands of a block descriptor suit its opcode (R227, R280). -/
def blkDescOk (op : Nat) (d : Desc) : Bool :=
  let fl := d.flags &&& 0xF6 == 0
  if op = boRead ∨ op = boWrite then fl && d.len != 0
  else if op = boFlush then fl && d.addr == 0 && d.len == 0 && d.param == 0
  else if op = boDeallocate then fl && d.addr == 0 && d.len != 0
  else fl && d.len == 4096 && decide (d.param ≤ 1)

/-- A block command is taken up: checked, given a TAG and sent (R280, R281, R283, R413); `data` is the write data, none where the
read of host memory failed. Log entry 94 (DEDUCED). -/
def Hub.blkCommand (op : Nat) (w : Asker) (data : Option (List Byte)) (s : Hub) : Hub :=
  match s.jobFor w (blkOpcode op) with
  | none => s
  | some j =>
    let d := j.d
    let own := s.addr
    let fail (r : Nat) : Hub := (s.count Cnt.BLK_CNT_TUNNEL_FAIL 1).finish w j own stTunnel r
    if w = .gadget then s.finish w j own stRefused 0
    else if !blkDescOk op d then s.finish w j own stBadDesc 0
    else if s.domFailed dBLK then fail tfNotReady
    else if 1024 ≤ s.blk.out.length then fail tfInitFull
    else
      match s.blkTun d.qt, s.blkQueue d.qt with
      | some u, some q =>
        if blkRole u.bind ≠ 0 ∨ (blkEnd u.bind ≠ 1 ∧ blkEnd u.bind ≠ 3) then fail tfNoTunnel
        else
          let tag := freeTag s.blk.out (s.blk.out.length + 1) s.blk.nextTag
          let h := blkHeader 1 op own tag 0 (if op = boIdentify then d.param else 0) (if op = boIdentify then 0 else d.param) d.len 0 0 s.tick
          let c : BlkCmd := { who := w, idx := j.idx, cookie := d.cookie, nocomp := bit d.flags 0, addr := d.addr, op := op,
                              len := d.len, req := d.qt, rsp := blkPair u.bind, sent := s.tick }
          let s1 := ((({ s with blk := { s.blk with out := Tab.put tag c s.blk.out, nextTag := (tag + 1) % 65536 } } : Hub).showBlk).takeJob
            w j).produce q (.blk 2) { data := h }
          if op = boWrite then
            match data with
            | none => ((s.count Cnt.HIF_CNT_DMA_ERR 1).raise Evt.HIF_DMA_ERROR [askerRing w, j.idx]).finish w j own stDma 0
            | some bs => s1.producePkt q (.blk 2) (padTo d.len bs)
          else s1
      | _, _ => fail tfNoTunnel
where
  /-- The first TAG from `i` on that no command holds. -/
  freeTag (out : Tab BlkCmd) : (fuel i : Nat) → Nat
    | 0, i => i
    | n + 1, i => if (Tab.get? i out).isSome then freeTag out n ((i + 1) % 65536) else i

/-- BLK_READ (R280). -/
def execBlkRead (w : Asker) (s : State) : Outcome State Fault Refusal := s.on fun s => (s.blkCommand boRead w none)

/-- BLK_WRITE (R280, R281): `data` is what the DMA read of the buffer returned, none where it failed. -/
def execBlkWrite (w : Asker) (data : Option (List Byte)) (s : State) : Outcome State Fault Refusal := s.on fun s =>
  (s.blkCommand boWrite w data)

/-- BLK_FLUSH (R280). -/
def execBlkFlush (w : Asker) (s : State) : Outcome State Fault Refusal := s.on fun s => (s.blkCommand boFlush w none)

/-- BLK_DEALLOCATE (R280). -/
def execBlkDeallocate (w : Asker) (s : State) : Outcome State Fault Refusal := s.on fun s => (s.blkCommand boDeallocate w none)

/-- BLK_IDENTIFY (R280). -/
def execBlkIdentify (w : Asker) (s : State) : Outcome State Fault Refusal := s.on fun s => (s.blkCommand boIdentify w none)

/-- The data packet of a response, taken with its command's completion (R283); `ok` says whether the write to host memory
succeeded. -/
def Hub.takeReadData (tag q : Nat) (c : BlkCmd) (p : List QCell) (ok : Bool) (s : Hub) : Hub :=
  let bs := s.pktBytes p
  let s1 := s.popPkt q
  if c.dead then s1.blkFinish tag stFlushed 0
  else if bs.length ≠ c.len then s1.blkFinish tag stTunnel tfDataLost
  else if pktPoison p then s1.blkFinish tag stTunnel tfPoison
  else if ok then (s1.emit (.hostWrite c.addr bs)).blkFinish tag stOk c.len
  else ((s1.count Cnt.HIF_CNT_DMA_ERR 1).raise Evt.HIF_DMA_ERROR [askerRing c.who, c.idx]).blkFinish tag stDma 0

/-- BLK_RESPONSE_RECEIVE (R283): the initiator end takes the packet at the head of response tunnel `t`. -/
def execBlkResponseReceive (t : Fin 4096) (ok : Bool) (s : State) : Outcome State Fault Refusal := s.on fun s =>
  match s.blkTun t, s.blkQueue t with
  | some u, some q =>
    if blkRole u.bind ≠ 1 ∨ (blkEnd u.bind ≠ 1 ∧ blkEnd u.bind ≠ 3) then s
    else
      match s.readHead q with
      | (none, s1) => s1
      | (some p, s1) =>
        let h := s1.pktBytes p
        if pktGap p ∨ !isBlkHeader 2 h then (s1.popPkt q)
        else
          let tag := bhTag h
          match (Tab.get? tag s1.blk.out).filter (fun c => c.rsp == t.val) with
          | none => ((s1.popPkt q).count Cnt.BLK_CNT_LATE_RSP 1)
          | some c =>
            if bhKind h = 1 then ((s1.popPkt q).blkFinish tag stDev (bhStatus h % 32768))
            else if bhKind h = 2 then ((s1.popPkt q).blkFinish tag stTunnel (bhReason h))
            else if c.op = boRead ∨ c.op = boIdentify then
              match ((s1.queue q).pkts.tail).head? with
              | none => s1
              | some w =>
                if pktGap w || isBlkHeader 2 (s1.pktBytes w) then ((s1.popPkt q).blkFinish tag stTunnel tfDataLost)
                else ((s1.popPkt q).takeReadData tag q c w ok)
            else ((s1.popPkt q).blkFinish tag stOk c.len)
  | _, _ => s

/-- BLK_TUNNEL_TIMEOUT (R283): no response BLK_CFG.TIMEOUT ticks after the request left. -/
def execBlkTunnelTimeout (tag : Fin 65536) (s : State) : Outcome State Fault Refusal := s.on fun s =>
  match Tab.get? tag.val s.blk.out with
  | none => s
  | some c => if c.sent + s.getf Fld.BLK_CFG_TIMEOUT ≤ s.tick then (s.blkFinish tag stTunnel tfTimeout) else s

end Sys2Proof.Machine
end

