-- ==== Sys2Proof/Machine/TypeC.lean ====
section
/-! DEFINITION. Shared operations of the drop ports: attach states, the node budget, VBUS, PD exchanges, VCONN and DisplayPort
Alt Mode (R341 to R360). Powers are exact, in units of 0.5 mW (50 mV × 10 mA). -/

namespace Sys2Proof.Machine

/-- Drop port `n`. -/
def Hub.drop (s : Hub) (n : Nat) : TcpPort := Tab.getD s.tcp.ports n {}

/-- The state with drop port `n` as `P`. -/
def Hub.setDrop (n : Nat) (P : TcpPort) (s : Hub) : Hub := { s with tcp := { s.tcp with ports := Tab.put n P s.tcp.ports } }

/-- A wait of drop port `n` begins now. -/
def Hub.setDropAt (n : Nat) (f : TcpTimes → Nat → TcpTimes) (s : Hub) : Hub :=
  s.setDrop n { s.drop n with at' := f (s.drop n).at' s.up }

/-- Port states of TCP_PORT_STATUS.STATE (R373). -/
def tcDisabled : Nat := 0
def tcUnattached : Nat := 1
def tcWait : Nat := 2
def tcAttached : Nat := 3
def tcRecovery : Nat := 4

/-- PD codes of TCP_PORT_STATUS.PD (R373). -/
def pdNone : Nat := 0
def pdImplicit : Nat := 1
def pdExplicit3 : Nat := 2
def pdExplicit2 : Nat := 3

/-- DP codes of TCP_PORT_STATUS.DP (R373). -/
def dpOff : Nat := 0
def dpEntering : Nat := 1
def dpEntered : Nat := 2
def dpConfigured : Nat := 3
def dpFailed : Nat := 4

/-- STATE, PD and DP of drop port `n`. -/
def Hub.tcState (s : Hub) (n : Nat) : Nat := s.getf (Fld.TCP_PORT_STATUS_STATE n)
def Hub.pdState (s : Hub) (n : Nat) : Nat := s.getf (Fld.TCP_PORT_STATUS_PD n)
def Hub.dpState (s : Hub) (n : Nat) : Nat := s.getf (Fld.TCP_PORT_STATUS_DP n)

/-- An explicit contract is in force. -/
def Hub.contracted (s : Hub) (n : Nat) : Bool := decide (pdExplicit3 ≤ s.pdState n)

/-- The hub sources VCONN on port `n`. -/
def Hub.vconnSrc (s : Hub) (n : Nat) : Bool := s.flag (Fld.TCP_PORT_STATUS_VCONN_SRC n)

/-! The node budget (R349, R350). -/

/-- Units of 0.5 mW in 0.1 W, and the floor of 7.5 W. Log entry 117 (DEDUCED). -/
def unit100mW : Nat := 200
/-- The floor of 7.5 W in units of 0.5 mW. Log entry 117 (DEDUCED). -/
def floorW : Nat := 15000

/-- Held power of port `n` (R349). -/
def Hub.heldPower (s : Hub) (n : Nat) : Nat :=
  if !(s.drop n).vbusReq then 0
  else if s.contracted n then s.getf (Fld.TCP_PORT_CONTRACT_VOLT n) * s.getf (Fld.TCP_PORT_CONTRACT_CUR n)
  else floorW

/-- The sum of held power, without port `n` where one is named. -/
def Hub.heldSum (s : Hub) : Nat := ((List.range 4).map (fun n => s.heldPower n)).foldl (· + ·) 0

/-- TCP_STATUS shows the sum of held power in 0.1 W, fractions dropped (R372). -/
def Hub.showHeld (s : Hub) : Hub := s.setf Fld.TCP_STATUS_HELD (s.heldSum / unit100mW)

/-- The budget B. Log entry 117 (DEDUCED). -/
def Hub.budget (s : Hub) : Nat := s.getf Fld.TCP_BUDGET_B * unit100mW

/-- Ports in ATTACHED, in order of PRIO and then of index (R349). -/
def Hub.attachedPorts (s : Hub) : List Nat :=
  ((List.range 4).map (fun pr => (List.range 4).filter (fun n =>
    s.tcState n == tcAttached && s.getf (Fld.TCP_PORT_CFG_PRIO n) == pr))).flatten

/-- IMAX in 10 mA (R348). -/
def Hub.imax (s : Hub) (n : Nat) : Nat := if s.flag (Fld.TCP_PORT_STATUS_CABLE_5A n) then 500 else 300

/-- What a port with a grant wants (R349). -/
def Hub.wantPower (s : Hub) (n : Nat) : Nat :=
  if !s.contracted n || (s.drop n).mismatch then
    min (s.getf (Fld.TCP_PORT_CFG_MAX_W n) * 2000) (if s.imax n = 300 then 120000 else 200000)
  else s.heldPower n

/-- Grants above the floor dealt out in order (R349). Log entry 117 (DEDUCED). -/
def Hub.dealGrants (s : Hub) : (rest : Nat) → List Nat → List (Nat × Nat)
  | _, [] => []
  | rest, n :: t =>
    let extra := min rest (s.wantPower n - floorW)
    (n, floorW + extra) :: s.dealGrants (rest - extra) t

/-- The grants of R349: the ports the floors fit, in order, then the rest dealt out. Log entry 118 (DEDUCED). -/
def Hub.grants (s : Hub) : List (Nat × Nat) :=
  let ps := s.attachedPorts.take (s.budget / floorW)
  s.dealGrants (s.budget - floorW * ps.length) ps

/-- The grant of port `n` becomes `g`. -/
def Hub.setGrant (n g : Nat) (s : Hub) : Hub :=
  (s.setDrop n { s.drop n with grant := g }).setf (Fld.TCP_PORT_GRANT_GRANT n) (g / unit100mW)

/-! Rp, VBUS, VCONN, contract and the mux. -/

/-- Rp of port `n` (R344). -/
def Hub.setRp (n r : Nat) (s : Hub) : Hub := s.setDrop n { s.drop n with rp := r }

/-- The contract of port `n` is released (R345, R353): held power returns to the floor or to 0, the limit to 1.875 A and the
setpoint to 5 V. -/
def Hub.dropContract (n : Nat) (s : Hub) : Hub :=
  let P := s.drop n
  let C := s.chan (n + 2)
  ((s.setDrop n { P with moving := none, started := false, mismatch := false, vsel := 0 }).setChan (n + 2)
    { C with setpoint := 5000, oldSetpoint := 0, pdoMa := 1500 })
    |>.setf (Fld.TCP_PORT_CONTRACT_VOLT n) 0 |>.setf (Fld.TCP_PORT_CONTRACT_CUR n) 0 |>.setf (Fld.TCP_PORT_CONTRACT_MAX n) 0

/-- VBUS of port `n` requested on or off; its channel follows (R345, R382, R395). -/
def Hub.setVbus (n : Nat) (on : Bool) (s : Hub) : Hub :=
  let s1 := (s.setDrop n { s.drop n with vbusReq := on }).setb (Fld.TCP_PORT_STATUS_VBUS_ON n) on
    |>.setf (Fld.TCP_PORT_STATUS_PD n) (if on then pdImplicit else pdNone)
  if on && !(s.drop n).vbusReq then s1.chReturn (n + 2) else s1.chEval (n + 2)

/-- VCONN on or off (R354, R355). -/
def Hub.setVconn (n : Nat) (on : Bool) (s : Hub) : Hub := s.setb (Fld.TCP_PORT_STATUS_VCONN_SRC n) on

/-- HPD of port `n` as its head sees it (R360), with the time of its last change. -/
def Hub.setHpd (n : Nat) (on : Bool) (s : Hub) : Hub :=
  (if s.flag (Fld.TCP_PORT_STATUS_HPD n) = on then s else s.setDropAt n (fun a t => { a with hpd := t }))
    |>.setb (Fld.TCP_PORT_STATUS_HPD n) on

/-- HPD to the head of port `n` is low, and the mux is safe: every pair high impedance (R359, R360). Log entry 123 (DEDUCED). -/
def Hub.muxSafe (n : Nat) (s : Hub) : Hub :=
  (s.setDrop n { s.drop n with mux := 0, dpStep := 0, dpSent := false, dpBad := 0, dpPin := 0, dpHpd := false, irq := false })
    |>.setf (Fld.TCP_PORT_STATUS_DP n) dpOff |>.setf (Fld.TCP_PORT_STATUS_PIN n) 0 |>.setHpd n false

/-- Alt Mode is left with Exit Mode (R359). -/
def Hub.exitDp (n : Nat) (s : Hub) : Hub :=
  let st := s.dpState n
  let s1 := s.muxSafe n
  if st = dpEntered ∨ st = dpConfigured then s1.emit (.pd n .exitMode) else s1

/-- Grants recomputed (R349): a port that lost its grant while VBUS was on goes off with TCP_NO_BUDGET. Log entry 118 (DEDUCED). -/
def Hub.regrant (s : Hub) : Hub :=
  let gs := s.grants
  ((List.range 4).foldl (fun t n =>
    let g := ((gs.find? (fun e => e.1 == n)).map (fun e => e.2)).getD 0
    let t1 := t.setGrant n g
    if g = 0 && (t1.drop n).vbusReq && t1.tcState n == tcAttached then
      (((t1.muxSafe n).dropContract n).setVbus n false).setf (Fld.TCP_PORT_STATUS_NO_BUDGET n) 1
        |>.raise Evt.TCP_NO_BUDGET [n, 0, t1.getf Fld.TCP_BUDGET_B]
    else t1) s).showHeld

/-- The PDOs of port `n` under its grant (R348): 5 V always, a higher one from V × 1.5 A up. -/
def Hub.pdos (s : Hub) (n : Nat) : List (Nat × Nat) :=
  let g := (s.drop n).grant
  ([100, 180, 300, 400].filter (fun v => v == 100 || decide (v * 150 ≤ g))).map (fun v => (v * 50, min (s.imax n) (g / v)))

/-- Source_Capabilities sent on port `n` (R347, R348). -/
def Hub.sendCaps (n : Nat) (s : Hub) : Hub :=
  let P := s.drop n
  let lower := match P.capsGrant with
    | some g => decide (P.grant < g)
    | none => false
  let a := { P.at' with caps := s.up, offer := if lower then s.up else P.at'.offer }
  (s.setDrop n { P with caps := s.pdos n, capsGrant := some P.grant, reoffer := lower, at' := a }).emit
    (.pd n (.sourceCaps (s.pdos n) { usbComm := s.flag (Fld.TCP_PORT_CFG_USB_EN n) }))

/-- PD runs on port `n`: VBUS is on and PD has not been stopped (R347, R353). -/
def Hub.pdRuns (s : Hub) (n : Nat) : Bool := (s.drop n).vbusReq && !(s.drop n).pdOff && s.tcState n == tcAttached

/-- A re-offer of port `n` is due: its grant is not that of its last capabilities; one that raises the grant waits for every
lowering one and for the budget (R350). -/
def Hub.reofferDue (s : Hub) (n : Nat) : Bool :=
  let P := s.drop n
  let lowers (m : Nat) : Bool := match (s.drop m).capsGrant with
    | some g => s.pdRuns m && decide ((s.drop m).grant < g)
    | none => false
  match P.capsGrant with
  | none => false
  | some g =>
    if P.grant = g then false
    else if P.grant < g then true
    else !(List.range 4).any lowers && decide (s.heldSum - s.heldPower n + P.grant ≤ s.budget)

/-- VBUS of port `n` can be switched on under R350: it has a grant and the floor fits the budget. -/
def Hub.vbusFits (s : Hub) (n : Nat) : Bool :=
  decide (0 < (s.drop n).grant) && decide (s.heldSum + floorW ≤ s.budget)

/-- VBUS on at 5 V (R351, R353): PD starts with an implicit contract. -/
def Hub.vbusUp (n : Nat) (s : Hub) : Hub :=
  let P := s.drop n
  (((s.setDrop n { P with vsel := 0, capsAcked := false, capsTries := 0, capsGrant := none, reoffer := false }).setVbus n true).setf
    (Fld.TCP_PORT_STATUS_NO_BUDGET n) 0).showHeld

/-! Attach and detach (R345). -/

/-- Rd on exactly one pin, the other open or Ra. -/
def oneRd (a b : Cc) : Bool := (a == .rd) != (b == .rd)

/-- Rd on both pins, or Ra on both. -/
def accessoryCc (a b : Cc) : Bool := (a == .rd && b == .rd) || (a == .ra && b == .ra)

/-- What the pins of a port in UNATTACHED do (R345). Log entry 120 (DEDUCED). -/
def Hub.ccEval (n : Nat) (s : Hub) : Hub :=
  let P := s.drop n
  if oneRd P.cc1 P.cc2 then (s.setDrop n { P with accessory := false, at' := { P.at' with cc := s.up } }).setf (Fld.TCP_PORT_STATUS_STATE n) tcWait
  else if accessoryCc P.cc1 P.cc2 then
    if P.accessory then s else (s.setDrop n { P with accessory := true }).raise Evt.TCP_ACCESSORY [n]
  else s.setDrop n { P with accessory := false }

/-- The port is in UNATTACHED. -/
def Hub.toUnattached (n : Nat) (s : Hub) : Hub :=
  ((s.setDrop n { s.drop n with accessory := false }).setf (Fld.TCP_PORT_STATUS_STATE n) tcUnattached).ccEval n

/-- No device is connected to the hub port of drop port `n` (R361): it is not enabled. -/
def Hub.usbGone (n : Nat) (s : Hub) : Hub :=
  s |>.setf (Fld.USB_PORT_STATUS_ENABLED n) 0 |>.setf (Fld.USB_PORT_STATUS_SUSPENDED n) 0 |>.setf (Fld.USB_PORT_STATUS_SPEED n) 0

/-- What every departure from ATTACHED does (R345): mux safe, VCONN and VBUS off, contract, grant and swap released. -/
def Hub.leaveAttached (n : Nat) (s0 : Hub) : Hub :=
  let s := s0.usbGone n
  let s1 := ((((s.muxSafe n).setVconn n false).dropContract n).setVbus n false)
  let P := s1.drop n
  (s1.setDrop n { P with caps := [], capsGrant := none, capsTries := 0, capsAcked := false, reoffer := false, swap := none,
                         swapWait := false, swapWant := false, disc := none, resets := 0, inReset := false, pdOff := false,
                         rev2 := false, absent := false })
    |>.setf (Fld.TCP_PORT_STATUS_FLIPPED n) 0 |>.setf (Fld.TCP_PORT_STATUS_RA n) 0 |>.setf (Fld.TCP_PORT_STATUS_NO_BUDGET n) 0
    |>.setf (Fld.TCP_PORT_STATUS_PD_FAIL n) 0 |>.setf (Fld.TCP_PORT_STATUS_CABLE_5A n) 0 |>.setf (Fld.TCP_PORT_STATUS_CABLE_SS n) 0

/-- A detach (R345). Log entry 124 (DEDUCED). -/
def Hub.tcDetach (n : Nat) (s : Hub) : Hub :=
  ((((s.leaveAttached n).setf (Fld.TCP_PORT_STATUS_STATE n) tcUnattached).setRp n 1).regrant.raise Evt.TCP_DETACH [n]).toUnattached n

/-- The attach at the end of tCCDebounce (R345, R354). Log entry 123 (DEDUCED). -/
def Hub.tcAttach (n : Nat) (s : Hub) : Hub :=
  let P := s.drop n
  let flipped := P.cc2 == .rd
  let ra := P.cc1 == .ra || P.cc2 == .ra
  let vconn := ra && s.flag (Fld.TCP_PORT_CFG_VCONN_EN n)
  let s1 := (s.setDrop n { P with absent := false, disc := if vconn then some 0 else none, at' := { P.at' with att := s.up, vdm := s.up } })
    |>.setf (Fld.TCP_PORT_STATUS_STATE n) tcAttached |>.setb (Fld.TCP_PORT_STATUS_FLIPPED n) flipped
    |>.setb (Fld.TCP_PORT_STATUS_RA n) ra |>.setf (Fld.TCP_PORT_STATUS_CABLE_5A n) 0
    |>.setf (Fld.TCP_PORT_STATUS_CABLE_SS n) 1 |>.setf (Fld.USB_PORT_STATUS_OVER_CURRENT n) 0
  let s2 := ((s1.setVconn n vconn).regrant).raise Evt.TCP_ATTACH [n, b2n flipped, b2n ra]
  if vconn then s2.emit (.pd n (.vdm 0)) else s2

/-- The port is disabled: as for a detach, and Rp removed (R345). -/
def Hub.tcDisable (n : Nat) (s : Hub) : Hub :=
  let s1 := if s.tcState n = tcAttached then (s.leaveAttached n).raise Evt.TCP_DETACH [n] else s
  ((s1.setRp n 0).setf (Fld.TCP_PORT_STATUS_STATE n) tcDisabled).regrant

/-- The port's VBUS channel has tripped (R345). Log entry 119 (DEDUCED). -/
def Hub.tcVbusTrip (n : Nat) (s : Hub) : Hub :=
  if s.tcState n = tcAttached then
    ((((s.leaveAttached n).setDropAt n (fun a t => { a with cc := t })).setRp n 0).setf (Fld.TCP_PORT_STATUS_STATE n) tcRecovery
      |>.setf (Fld.USB_PORT_STATUS_OVER_CURRENT n) 1).regrant
  else s

/-! Swaps and resets (R353 to R357). -/

/-- A swap under way ends as not done, with TCP_SWAP_ABORT (R357); `why` is 0 for a hard reset, 1 for a soft one. -/
def Hub.swapAbort (n why : Nat) (s : Hub) : Hub :=
  let P := s.drop n
  match P.swap with
  | none => s.setDrop n { P with swapWait := false, swapWant := false }
  | some (dir, stage) =>
    ((s.setDrop n { P with swap := none, swapWait := false, swapWant := false }).count (Cnt.TCP_CNT_SWAP_ABORT n) 1).raise
      Evt.TCP_SWAP_ABORT [n, dir, stage, why]

/-- A Hard_Reset sent or received (R353): steps 1 to 3 and the start of the 0.66 s. -/
def Hub.tcHardReset (n : Nat) (sent : Bool) (s : Hub) : Hub :=
  if s.tcState n = tcAttached then
    let s0 := if sent then s.emit (.pd n .hardReset) else s
    let s1 := (((((s0.count (Cnt.TCP_CNT_HARD_RESET n) 1).swapAbort n 0).muxSafe n).setVconn n false).dropContract n).setVbus n false
    let P := s1.drop n
    (s1.setDrop n { P with inReset := true, resets := P.resets + 1, caps := [], capsGrant := none, reoffer := false,
                           disc := none, rp := 1, at' := { P.at' with move := s.up } }).showHeld
  else s

/-- A soft reset sent or received (R347, R357): a swap in stages 1 to 4 ends with the hub as VCONN source. -/
def Hub.tcSoftReset (n : Nat) (s : Hub) : Hub :=
  let s1 := s.count (Cnt.TCP_CNT_SOFT_RESET n) 1
  match (s.drop n).swap with
  | none => s1
  | some _ => (s1.swapAbort n 1).setVconn n true

/-- The hub sends VCONN_Swap (R355, stage 1). -/
def Hub.sendSwap (n : Nat) (s : Hub) : Hub :=
  ((s.setDrop n { s.drop n with swap := some (1, 1), swapWait := false, swapWant := false }).setDropAt n (fun a t => { a with swap := t })).emit
    (.pd n .vconnSwap)

/-- The hub's own swap begins: with SinkTxNG first at revision 3.x (R356). -/
def Hub.startSwap (n : Nat) (s : Hub) : Hub :=
  if s.pdState n = pdExplicit3 then
    ((s.setDrop n { s.drop n with swapWait := true, swapWant := true }).setDropAt n (fun a t => { a with swap := t })).setRp n 1
  else s.sendSwap n

/-- The exchange has ended: Rp returns to SinkTxOk at revision 3.x (R356). -/
def Hub.sinkTxOk (n : Nat) (s : Hub) : Hub := if s.pdState n = pdExplicit3 then s.setRp n 2 else s

/-- The hub's own swap reaches stage `k` (R355); 0 is a Reject or Wait. Log entry 122 (DESIGN CHOICE). -/
def Hub.swapStage (n k : Nat) (s : Hub) : Hub :=
  let s1 := if 3 ≤ k then s.setVconn n true else s
  let s2 := if 4 ≤ k then s1.emit (.pd n .psRdy) else s1
  if k = 0 ∨ 5 ≤ k then (s2.setDrop n { s2.drop n with swap := none }).sinkTxOk n
  else s2.setDrop n { s2.drop n with swap := some (1, k) }

/-! Alt Mode (R358, R359). -/

/-- Entry to Alt Mode may run (R358). -/
def Hub.dpAllowed (s : Hub) (n : Nat) : Bool :=
  decide (n < 2) && s.flag (Fld.TCP_PORT_CFG_DP_EN n) && s.contracted n && s.flag (Fld.TCP_PORT_STATUS_CABLE_SS n)
    && s.getf (Fld.PWR_DOM_STATUS_PLAN_STEP (9 + n)) == 0 && s.getf (Fld.PWR_DOM_STATUS_STATE (9 + n)) != 4

/-- Entry stops: FAILED, and TCP_DP_FAIL with the step (R358). -/
def Hub.dpFail (n : Nat) (s : Hub) : Hub :=
  let step := (s.drop n).dpStep
  ((s.muxSafe n).setf (Fld.TCP_PORT_STATUS_DP n) dpFailed).raise Evt.TCP_DP_FAIL [n, step]

/-- A BUSY or no answer: the third in a row stops entry (R358). -/
def Hub.dpMiss (n : Nat) (s : Hub) : Hub :=
  let P := s.drop n
  if 3 ≤ P.dpBad + 1 then s.dpFail n else s.setDrop n { P with dpBad := P.dpBad + 1, dpSent := false }

/-- The pin assignment taken: C, then E, then D (R359), as its mux code; 0 for none. -/
def choosePin (pins : List Bool) : Nat :=
  if pins.getD 0 false then 1 else if pins.getD 2 false then 3 else if pins.getD 1 false then 2 else 0

/-- DP Configure is acknowledged: the mux switches and HPD passes to the head (R358, step 7). -/
def Hub.dpConfigure (n : Nat) (s : Hub) : Hub :=
  let P := s.drop n
  ((s.setDrop n { P with mux := P.dpPin, dpStep := 7, dpSent := false, dpBad := 0 })
    |>.setf (Fld.TCP_PORT_STATUS_DP n) dpConfigured |>.setf (Fld.TCP_PORT_STATUS_PIN n) P.dpPin
    |>.setHpd n P.dpHpd).raise Evt.TCP_DP_ENTER [n, P.dpPin]

/-- An ACK of the VDM of step `k` (R358). Log entry 121 (DEDUCED). -/
def Hub.dpAck (n : Nat) (good : Bool) (pins : List Bool) (hpd : Bool) (s : Hub) : Hub :=
  let P := s.drop n
  let k := P.dpStep
  if !good || (k == 3 && choosePin pins == 0) then s.dpFail n
  else
    let P1 := { P with dpStep := k + 1, dpSent := false, dpBad := 0 }
    if k = 3 then s.setDrop n { P1 with dpPin := choosePin pins }
    else if k = 4 then (s.setDrop n P1).setf (Fld.TCP_PORT_STATUS_DP n) dpEntered
    else if k = 5 then s.setDrop n { P1 with dpHpd := hpd }
    else if k = 6 then s.dpConfigure n
    else s.setDrop n P1

/-! Cable discovery (R354). -/

/-- Discovery ends: the cable's current handling and USB signalling are recorded, and grants follow IMAX. -/
def Hub.discEnd (n : Nat) (fiveA ss : Bool) (s : Hub) : Hub :=
  ((s.setDrop n { s.drop n with disc := none }) |>.setb (Fld.TCP_PORT_STATUS_CABLE_5A n) fiveA
    |>.setb (Fld.TCP_PORT_STATUS_CABLE_SS n) ss).regrant

/-- An attempt without an answer; the twentieth ends discovery as a 3 A, SuperSpeed-capable cable. -/
def Hub.discMiss (n k : Nat) (s : Hub) : Hub :=
  if 20 ≤ k + 1 then s.discEnd n false true
  else ((s.setDrop n { s.drop n with disc := some (k + 1) }).setDropAt n (fun a t => { a with vdm := t })).emit (.pd n (.vdm 0))

/-! The configuration register (R373). -/

/-- A write of TCP_PORT_CFG_n. A MAX_W outside 15 to 100 is reserved (R11). -/
def Hub.writePortCfg (n v : Nat) (s : Hub) : Hub :=
  let was := s.flag (Fld.TCP_PORT_CFG_EN n)
  let wasDp := s.flag (Fld.TCP_PORT_CFG_DP_EN n)
  let w := bits v 6 0
  let s1 := s |>.setb (Fld.TCP_PORT_CFG_EN n) (bit v 31) |>.setb (Fld.TCP_PORT_CFG_DP_EN n) (bit v 30 && decide (n < 2))
    |>.setf (Fld.TCP_PORT_CFG_PRIO n) (bits v 29 28) |>.setb (Fld.TCP_PORT_CFG_VCONN_EN n) (bit v 27)
    |>.setb (Fld.TCP_PORT_CFG_USB_EN n) (bit v 26)
  let s2' := if 15 ≤ w ∧ w ≤ 100 then s1.setf (Fld.TCP_PORT_CFG_MAX_W n) w else s1
  let s2 := if bit v 26 then s2' else s2'.usbGone n
  let s3 := if wasDp && !bit v 30 then s2.exitDp n
    else if bit v 30 && s2.dpState n == dpFailed then s2.setf (Fld.TCP_PORT_STATUS_DP n) dpOff else s2
  let s4 := if !was && bit v 31 then (s3.setRp n 1).toUnattached n
    else if was && !bit v 31 then s3.tcDisable n else s3
  s4.regrant

end Sys2Proof.Machine
end

