-- ==== Sys2Proof/Machine/Breaker.lean ====
section
/-! DEFINITION. The power channels' commands: qualification, the ramp, trips, blocking, cooldown and samples (R380 to R398).
A command that ends a timer acts only when the channel's own timers, kept by LPW_SAMPLE, say that it has ended. -/

namespace Sys2Proof.Machine

open Host (Outcome)

/-- The magnitude of the channel's latest current in mA. -/
def Hub.chAbs (s : Hub) (c : Nat) : Nat := (s.chan c).i.natAbs

/-- A trip, which on a drop port also takes the port to error recovery (R345, R393). -/
def Hub.trip (c fault i : Nat) (s : Hub) : Hub :=
  let s1 := s.chTrip c fault i
  if dropChan c then s1.tcVbusTrip (c - 2) else s1

/-- LPW_CHANNEL_EN (R382, R399): a write of LPW_CH_CFG_c. -/
def execLpwChannelEn (c : Fin 8) (v : Word) (s : State) : Outcome State Fault Refusal := s.on fun s => (s.writeChCfg c v.toNat)

/-- LPW_QUALIFY_DONE (R384, R385): the source side has qualified; the ramp starts. -/
def execLpwQualifyDone (c : Fin 8) (s : State) : Outcome State Fault Refusal := s.on fun s =>
  if s.chState c = chQualify ∧ s.qualified c then
    (((s.gateOff c).setChState c chRamp).count (Cnt.LPW_CNT_INSERT c) 1)
  else s

/-- LPW_RAMP_DONE (R385): the far side is within VCLOSE of the source. -/
def execLpwRampDone (c : Fin 8) (s : State) : Outcome State Fault Refusal := s.on fun s =>
  if s.chState c = chRamp ∧ s.srcV c - s.farV c ≤ 2000 then
    (((s.gateOff c).setChState c chOn).raise Evt.LPW_ON [c, (s.cnt (Cnt.LPW_CNT_INSERT c)).v])
  else s

/-- START_TIMEOUT (R385, R386): TSTART or 200 ms has run out during the ramp. -/
def execStartTimeout (c : Fin 8) (s : State) : Outcome State Fault Refusal := s.on fun s =>
  if s.chState c = chRamp ∧ (s.getf (Fld.LPW_CH_TINS_TSTART c) * 100 ≤ (s.chan c).startT ∨ 200000 ≤ (s.chan c).rampT) then
    (s.trip c ftStart (s.chAbs c))
  else s

/-- SHORT_AT_START (R386): TSHORT after the current first reached ILIM_START the far side has not risen by 10 % of the source. -/
def execShortAtStart (c : Fin 8) (s : State) : Outcome State Fault Refusal := s.on fun s =>
  match (s.chan c).limT with
  | none => s
  | some t =>
    if s.chState c = chRamp ∧ 1000 ≤ t ∧ s.flag (Fld.LPW_CH_STATUS_REGULATING c) ∧ (s.farV c - (s.chan c).farAtLim) * 10 < s.srcV c then
      (s.trip c ftShort (s.chAbs c))
    else s

/-- CURRENT_LIMIT (R388): the fault timer has reached TFLT. -/
def execCurrentLimit (c : Fin 8) (s : State) : Outcome State Fault Refusal := s.on fun s =>
  if s.chState c = chOn ∧ s.getf (Fld.LPW_CH_TFLT_TFLT c) * 10 ≤ (s.chan c).faultT then (s.trip c ftCurrent (s.chAbs c))
  else s

/-- GAUNTLET (R389): the timer of a point in use has reached its tk. -/
def execGauntlet (c : Fin 8) (s : State) : Outcome State Fault Refusal := s.on fun s =>
  if s.chState c = chOn ∧ (List.range 8).any (fun k =>
      (s.gntPoint c k).1 != 0 && decide ((s.gntPoint c k).2 ≤ (s.chan c).gntT.getD k 0)) then
    (s.trip c ftGauntlet (s.chAbs c))
  else s

/-- FAST_TRIP (R390): a current of `i` mA, of magnitude 2 × ILIM or more, has lasted 200 ns while the gate is driven. -/
def execFastTrip (c : Fin 8) (i : Int) (s : State) : Outcome State Fault Refusal := s.on fun s =>
  if (s.chState c = chRamp ∨ s.chState c = chOn) ∧ 2 * s.chIlim c ≤ i.natAbs then (s.trip c ftFast i.natAbs) else s

/-- OVERTEMP (R391): the FET temperature has reached TMAX. -/
def execOvertemp (c : Fin 8) (s : State) : Outcome State Fault Refusal := s.on fun s =>
  if s.chState c = chOn ∧ (s.getf (Fld.LPW_CH_FET1_TMAX c) * 10 : Nat) ≤ s.fetTemp c then (s.trip c ftOverTemp (s.chAbs c))
  else s

/-- OV (R391): the source side has stood above OV for 10 µs while ON. -/
def execOv (c : Fin 8) (s : State) : Outcome State Fault Refusal := s.on fun s =>
  if s.chState c = chOn ∧ 10 ≤ (s.chan c).ovT then (s.trip c ftOv (s.chAbs c)) else s

/-- REVERSE_CURRENT (R379, R380): `i` mA against the direction of a FEED or TAKE channel exceeds IREV. -/
def execReverseCurrent (c : Fin 8) (i : Int) (s : State) : Outcome State Fault Refusal := s.on fun s =>
  if s.chState c = chOn ∧ ((s.chMode c = mdFeed ∧ i < -s.chIrev c) ∨ (s.chMode c = mdTake ∧ s.chIrev c < i)) then
    ((((s.gateOff c).setChState c chBlocked).count (Cnt.LPW_CNT_REVERSE c) 1).raiseLimited Evt.LPW_REVERSE c [c, s.chMode c])
  else s

/-- FORWARD_RECLOSE (R380): the source side has stood 100 mV above the other for 1 ms. -/
def execForwardReclose (c : Fin 8) (s : State) : Outcome State Fault Refusal := s.on fun s =>
  if s.chState c = chBlocked ∧ 1000 ≤ (s.chan c).fwdT then ((s.gateOff c).setChState c chOn) else s

/-- BOTH_SIDES_DEAD (R392): both sides of a FEED or PASS channel have been below UV for 1 ms. -/
def execBothSidesDead (c : Fin 8) (s : State) : Outcome State Fault Refusal := s.on fun s =>
  if (s.chState c = chOn ∨ s.chState c = chBlocked) ∧ (s.chMode c = mdFeed ∨ s.chMode c = mdPass) ∧ 1000 ≤ (s.chan c).deadT then
    (((s.gateOff c).setChState c chQualify).raise Evt.LPW_OFF [c, 2])
  else s

/-- COOLDOWN_END (R395): a fresh insertion begins, or the channel is OFF. -/
def execCooldownEnd (c : Fin 8) (s : State) : Outcome State Fault Refusal := s.on fun s =>
  if s.chState c = chCooldown ∧ (s.chan c).coolLeft = 0 then (((s.gateOff c).setChState c chOff).chEval c) else s

/-- TRIP_HISTORY_RESET (R394): 60 s ON, or away for TDETACH. -/
def execTripHistoryReset (c : Fin 8) (s : State) : Outcome State Fault Refusal := s.on fun s =>
  if (s.chState c = chOn ∧ 60000000 ≤ (s.chan c).onT)
      ∨ (c.val < 7 ∧ s.getf (Fld.LPW_CH_RAMP_TDETACH c) * 10000 ≤ (s.chan c).awayT) then (s.chClearTrips c)
  else s

/-- LPW_CLEAR (R393, R394): LPW_CH_CTL.CLEAR. -/
def execLpwClear (c : Fin 8) (s : State) : Outcome State Fault Refusal := s.on fun s => (s.chClear c)

/-- LPW_GAUNTLET_COMMIT (R389, R398): a write of word 0 of point 0. -/
def execLpwGauntletCommit (c : Fin 8) (v : Word) (s : State) : Outcome State Fault Refusal := s.on fun s => (s.commitGnt c v.toNat)

/-- LPW_SAMPLE (R396, R397): one sample of channel `c`: current in mA, outward positive, inner and outer voltages in mV, and
the thermistor in 0.1 °C. -/
def execLpwSample (c : Fin 8) (i vi vo ntc : Int) (s : State) : Outcome State Fault Refusal := s.on fun s => (s.lpwSample c i vi vo ntc)

/-- IPEAK_CLEAR (R398). -/
def execIpeakClear (c : Fin 8) (s : State) : Outcome State Fault Refusal := s.on fun s => (s.setf (Fld.LPW_CH_IPEAK c) 0)

end Sys2Proof.Machine
end

