-- ==== Sys2Proof/Machine/FbrOps.lean ====
section
/-! DEFINITION. The bridge engine: windows, accepting requests, parked slots, running bus cycles and answering (R311 to
R324). -/

namespace Sys2Proof.Machine

/-! Windows (R314). -/

/-- Window `w` is enabled and the bridge is at L0 (R311, R314). -/
def Hub.winOn (s : Hub) (w : Nat) : Bool := decide (w < 64) && s.atL0 dFBR && s.flag (Fld.FBR_WIN_CFG_EN w)

/-- The bytes a window maps: 2^SIZE (R314). -/
def Hub.winBytes (s : Hub) (w : Nat) : Nat := 2 ^ s.getf (Fld.FBR_WIN_CFG_SIZE w)

/-- Window `w` is POISONED (R320). -/
def Hub.winPoisoned (s : Hub) (w : Nat) : Bool := s.fbr.poison.contains w

/-- FBR_POISON_LO and FBR_POISON_HI show the poisoned windows (R336). -/
def Hub.showPoison (s : Hub) : Hub :=
  let word (lo : Nat) : Nat := (List.range 32).foldl (fun v i => if s.winPoisoned (lo + i) then v + 2 ^ i else v) 0
  (s.setf Fld.FBR_POISON_LO (word 0)).setf Fld.FBR_POISON_HI (word 32)

/-- The poisoned windows become `ws`. Log entry 106 (DEDUCED). -/
def Hub.setPoison (ws : List Nat) (s : Hub) : Hub := ({ s with fbr := { s.fbr with poison := ws } } : Hub).showPoison

/-- R314 refuses to enable window `w` of SIZE `size`. Log entry 106 (DEDUCED). -/
def Hub.winRefused (s : Hub) (w size : Nat) : Bool :=
  let lo := s.getf (Fld.FBR_WIN_NPLO w)
  let hi := s.getf (Fld.FBR_WIN_NPHI w)
  s.getf (Fld.FBR_WIN_ZBASE w) % 2 ^ size != 0 || lo % 4 != 0 || hi % 4 != 0 || decide (hi < lo) || decide (2 ^ size < hi)

/-- A write of FBR_WIN_CFG_w (R314, R337). -/
def Hub.writeWinCfg (w v : Nat) (s : Hub) : Hub :=
  let off := 0x090100 + 16 * w
  let size := if decide (8 ≤ bits v 25 21) && decide (bits v 25 21 ≤ 26) then bits v 25 21 else s.getf (Fld.FBR_WIN_CFG_SIZE w)
  let pf := if bits v 20 18 ≤ 4 then bits v 20 18 else s.getf (Fld.FBR_WIN_CFG_PF_SIZE w)
  let s1 := s |>.setf (Fld.FBR_WIN_CFG_READ_SENSITIVE w) (bits v 30 30) |>.setf (Fld.FBR_WIN_CFG_PREFETCH w) (bits v 29 29)
    |>.setf (Fld.FBR_WIN_CFG_LOCK_ALLOWED w) (bits v 28 28) |>.setf (Fld.FBR_WIN_CFG_CS w) (bits v 27 26)
    |>.setf (Fld.FBR_WIN_CFG_SIZE w) size |>.setf (Fld.FBR_WIN_CFG_PF_SIZE w) pf
  if s.flag (Fld.FBR_WIN_CFG_EN w) then
    let s2 := if s1.regs = s.regs then s else s.lockedWrite off v
    s2.setf (Fld.FBR_WIN_CFG_EN w) (bits v 31 31)
  else if !bit v 31 then s1
  else if s1.winRefused w size then s1.raise Evt.FBR_CFG_REFUSED [off, v]
  else s1.setf (Fld.FBR_WIN_CFG_EN w) 1

/-- A write of FBR_WIN_CLEAR (R320). -/
def Hub.writeWinClear (v : Nat) (s : Hub) : Hub := s.setPoison (s.fbr.poison.filter (fun w => w != bits v 5 0))

/-! Parked slots (R321 to R323). -/

/-- FBR_STATUS shows the slots in use (R336). -/
def Hub.showParked (s : Hub) : Hub :=
  let n := s.fbr.parked.length
  (s.setf Fld.FBR_STATUS_COUNT n).setf Fld.FBR_STATUS_HIGH (max n (s.getf Fld.FBR_STATUS_HIGH))

/-- Parked slot `i` as `p`. -/
def Hub.setParked (i : Nat) (p : Parked) (s : Hub) : Hub :=
  ({ s with fbr := { s.fbr with parked := Tab.put i p s.fbr.parked } } : Hub).showParked

/-- Parked slot `i` is free again. -/
def Hub.freeParked (i : Nat) (s : Hub) : Hub :=
  ({ s with fbr := { s.fbr with parked := Tab.del i s.fbr.parked } } : Hub).showParked

/-- The lowest free parked slot. -/
def Hub.freeSlotFbr (s : Hub) : Option Nat := (List.range 256).find? (fun i => (Tab.get? i s.fbr.parked).isNone)

/-- The generation after `g`: 1 to 255, skipping 0 (R321). -/
def nextGen (g : Nat) : Nat := if 255 ≤ g then 1 else g + 1

/-- A slot is taken for a read or locked request; its TOKEN and the state (R321). -/
def Hub.park (i : Nat) (p : Parked) (s : Hub) : Nat × Hub :=
  let g := nextGen (Tab.getD s.fbr.gens i 0)
  (256 * i + g, ({ (s.spanEnd 13 (32 * i) (32 * i + 32)) with fbr := { s.fbr with gens := Tab.put i g s.fbr.gens } } : Hub).setParked i ({ p with gen := g } : Parked))

/-- The bytes of a parked result that a request at `off` of `n` words asks for, as words, if it lies wholly within. -/
def Parked.serve (p : Parked) (off n : Nat) : Option (List Nat) :=
  if p.base ≤ off ∧ off + 4 * n ≤ p.base + 4 * p.words.length then some ((p.words.drop ((off - p.base) / 4)).take n) else none

/-! Hops (R102, R322). -/

/-- The hop count between this hub and hub `h` on the path in use (R102). -/
def Hub.hopsTo (s : Hub) (h : Nat) : Nat :=
  if h = s.addr then 0
  else if s.isHead then
    match s.portsFor h with
    | 0 :: _ => s.lastNode + 1 - h
    | _ => h
  else if h = 0 then (if s.headPort = 0 then s.addr else s.lastNode + 1 - s.addr)
  else max (h - s.addr) (s.addr - h)

/-- The tick at whose end an unclaimed result is discarded (R322). -/
def Hub.staleAt (s : Hub) (p : Parked) (ready : Nat) : Nat := ready + 32 + 2 * s.hopsTo p.who.hub

/-- A parked result still stands: a ready one to its deadline (R322), a prefetch line for 16 ticks after its claim (R323). -/
def Hub.standing (s : Hub) (p : Parked) : Bool :=
  match p.ready, p.claimed with
  | some _, some t => decide (s.tick < t + 16)
  | some t, none => decide (s.tick ≤ s.staleAt p t)
  | none, _ => true

/-- A ready prefetched result of window `w`, claimed or not, that holds the words asked for (R323). -/
def Hub.prefetchHit (s : Hub) (w off n : Nat) : Option (List Nat) :=
  s.fbr.parked.foldl (fun (a : Option (List Nat)) (e : Nat × Parked) =>
    if a.isSome || !e.2.prefetch || e.2.win != w || e.2.ready.isNone || e.2.zst != 0 || !s.standing e.2 then a else e.2.serve off n) none

/-- Prefetch lines of window `w` end: a write or locked request to it is accepted (R323). -/
def Hub.dropLines (w : Nat) (s : Hub) : Hub :=
  let ps := s.fbr.parked.filter (fun (e : Nat × Parked) => !(e.2.claimed.isSome && e.2.win == w))
  ({ s with fbr := { s.fbr with parked := ps } } : Hub).showParked

/-! Answers. -/

/-- The answer of a bridge request: STATUS, ZSTATUS, the TOKEN of a RETRY, the values read, words written, and POSTED. -/
structure FbrAns where
  status : Nat
  zst : Nat := 0
  token : Nat := 0
  data : List Nat := []
  written : Nat := 0
  posted : Bool := false

/-- RESULT of a completion (R319, R321, R322). -/
def FbrAns.result (a : FbrAns) (read : Bool) : Nat :=
  if a.status = stOk then (if read then a.data.headD 0 else a.written)
  else if a.status = stRetry then a.token
  else if a.status = stTimeout ∨ a.status = stPoisoned then a.zst
  else 0

/-- The body of FBR_READ_RSP (R317). -/
def FbrAns.readBody (a : FbrAns) (win count : Nat) : List Byte :=
  beBytes 1 win ++ beBytes 1 count ++ beBytes 2 a.token ++ beBytes 1 a.status ++ beBytes 1 a.zst ++ zeros 2
    ++ (if a.status = stOk then a.data.flatMap (fun v => beBytes 4 v) else [])

/-- The body of FBR_WRITE_RSP (R317). -/
def FbrAns.writeBody (a : FbrAns) (win : Nat) : List Byte :=
  beBytes 1 win ++ beBytes 1 a.written ++ beBytes 1 (b2n a.posted) ++ zeros 1 ++ beBytes 1 a.status ++ beBytes 1 a.zst ++ zeros 2

/-- The answer that a response carries (R317). -/
def readAns (read : Bool) (b : List Byte) : FbrAns :=
  let n := (b.length - 8) / 4
  if read then
    { status := byteAt b 4 % 32, zst := byteAt b 5, token := beNat (slice b 2 2),
      data := (List.range n).map (fun i => beNat (slice b (8 + 4 * i) 4)) }
  else { status := byteAt b 4 % 32, zst := byteAt b 5, written := byteAt b 1, posted := bit (byteAt b 2) 0 }

/-! Acceptance (R316, R318 to R324). -/

/-- A request completes BAD_DESC at the bridge: its window or its words are wrong (R316). -/
def Hub.fbrBad (s : Hub) (w off n : Nat) : Bool :=
  !s.winOn w || off % 4 != 0 || n == 0 || decide (56 < n) || decide (s.winBytes w < off + 4 * n)

/-- The chip select of window `w`. -/
def Hub.winCs (s : Hub) (w : Nat) : Nat := s.getf (Fld.FBR_WIN_CFG_CS w)

/-- A locked request of another initiator holds the chip select of window `w` (R324). -/
def Hub.lockedOut (s : Hub) (who : FbrInit) (w : Nat) : Bool :=
  s.fbr.reqs.any (fun r => r.kind == .locked && r.cs == s.winCs w && r.who != who)

/-- A request joins the queue (R318). -/
def Hub.enqueue (r : FbrReq) (s : Hub) : Hub := { s with fbr := { s.fbr with reqs := s.fbr.reqs ++ [r] } }

/-- The request queue is full (R318). -/
def Hub.fbrFull (s : Hub) : Bool := decide (64 ≤ s.fbr.reqs.length)

/-- A claim finds its parked result, unless that was discarded (R322, R420). Log entry 107 (DEDUCED). -/
def Hub.claimFor (s : Hub) (who : FbrInit) (w off n token : Nat) : Option (Nat × Parked) :=
  let i := token / 256
  match Tab.get? i s.fbr.parked with
  | none => none
  | some p =>
    if !s.spanBad 13 (32 * i) (32 * i + 32) ∧ s.standing p ∧ p.gen = token % 256 ∧ p.who = who ∧ p.win = w ∧ p.off = off ∧ p.count = n ∧ p.claimed = none then some (i, p) else none

/-- A claim is served: not ready RETRY, ready OK, TIMEOUT or, for a locked request that its window's poisoning caught, POISONED
(R320, R322). The slot is freed or becomes a prefetch line (R323). Log entry 107 (DEDUCED). -/
def Hub.serveClaim (i token : Nat) (p : Parked) (s : Hub) : FbrAns × Hub :=
  match p.ready with
  | none => ({ status := stRetry, token := token }, s)
  | some _ =>
    if p.zst = 3 then ({ status := stPoisoned, zst := 3 }, s.freeParked i)
    else if p.zst ≠ 0 then ({ status := stTimeout, zst := p.zst }, s.freeParked i)
    else
      let s1 := if p.prefetch then s.setParked i { p with claimed := some s.tick } else s.freeParked i
      ({ status := stOk, data := (p.serve p.off p.count).getD [] }, s1)

/-- The first byte and the number of words a new read fetches (R323). -/
def Hub.fetchSpan (s : Hub) (w off n : Nat) : Nat × Nat × Bool :=
  if s.flag (Fld.FBR_WIN_CFG_PREFETCH w) && !s.flag (Fld.FBR_WIN_CFG_READ_SENSITIVE w) then
    let b := 2 ^ (s.getf (Fld.FBR_WIN_CFG_PF_SIZE w) + 4)
    let lo := off / b * b
    let hi := ((off + 4 * n + b - 1) / b) * b
    (lo, (hi - lo) / 4, true)
  else (off, n, false)

/-- A read or locked request is parked and queued, and answered RETRY (R321, R324). -/
def Hub.parkReq (p : Parked) (r : FbrReq) (s : Hub) : FbrAns × Hub :=
  match (if s.fbrFull then none else s.freeSlotFbr) with
  | none => ({ status := stRetry }, s)
  | some i =>
    let (tok, s1) := s.park i p
    ({ status := stRetry, token := tok }, s1.enqueue { r with slot := i })

/-- An FBR_READ reaches the bridge: a claim, or a new read (R321 to R324); UNAVAILABLE while the domain is FAILED (R413). Log entry 107 (DEDUCED). -/
def Hub.bridgeRead (who : FbrInit) (carrier w off n token : Nat) (s : Hub) : FbrAns × Hub :=
  if s.domFailed dFBR then ({ status := stUnavailable }, s)
  else if token ≠ 0 then
    let bad := s.spanBad 13 (32 * (token / 256)) (32 * (token / 256) + 32)
    let s := if bad then s.spanTouch 13 (32 * (token / 256)) (32 * (token / 256) + 32) else s
    match s.claimFor who w off n token with
    | some (i, p) => if s.lockedOut who w then ({ status := stRetryLocked }, s) else s.serveClaim i token p
    | none => if s.fbrBad w off n then ({ status := stBadDesc }, s) else ({ status := stTimeout, zst := 4 }, s)
  else if s.fbrBad w off n then ({ status := stBadDesc }, s)
  else if s.lockedOut who w then ({ status := stRetryLocked }, s)
  else
    match (if s.flag (Fld.FBR_WIN_CFG_READ_SENSITIVE w) then none else s.prefetchHit w off n) with
    | some ws => ({ status := stOk, data := ws }, s.count Cnt.FBR_CNT_PF_HIT 1)
    | none =>
      let (base, m, pf) := s.fetchSpan w off n
      s.parkReq { gen := 0, who := who, win := w, off := off, count := n, base := base, prefetch := pf }
        { who := who, carrier := carrier, kind := .read, win := w, cs := s.winCs w,
          zone := s.getf (Fld.FBR_WIN_ZBASE w) + base, base := base, count := m }

/-- An FBR_LOCKED reaches the bridge (R320, R324). -/
def Hub.bridgeLocked (who : FbrInit) (carrier w off mask v : Nat) (s : Hub) : FbrAns × Hub :=
  if s.domFailed dFBR then ({ status := stUnavailable }, s)
  else if s.fbrBad w off 1 || !s.flag (Fld.FBR_WIN_CFG_LOCK_ALLOWED w) then ({ status := stBadDesc }, s)
  else if s.lockedOut who w then ({ status := stRetryLocked }, s)
  else if s.winPoisoned w then ({ status := stPoisoned, zst := 3 }, s)
  else
    let (a, s1) := s.parkReq { gen := 0, who := who, win := w, off := off, count := 1, base := off }
      { who := who, carrier := carrier, kind := .locked, win := w, cs := s.winCs w,
        zone := s.getf (Fld.FBR_WIN_ZBASE w) + off, base := off, count := 1, vals := [v], mask := mask }
    (a, if a.token = 0 then s1 else s1.dropLines w)

/-- A write is non-posted: a word lies in the non-posted range (R319). -/
def Hub.nonPosted (s : Hub) (w off n : Nat) : Bool :=
  decide (off < s.getf (Fld.FBR_WIN_NPHI w)) && decide (s.getf (Fld.FBR_WIN_NPLO w) < off + 4 * n)
    && decide (s.getf (Fld.FBR_WIN_NPLO w) < s.getf (Fld.FBR_WIN_NPHI w))

/-- An FBR_WRITE reaches the bridge; no answer yet where it is queued as non-posted (R318 to R320). -/
def Hub.bridgeWrite (who : FbrInit) (carrier w off : Nat) (vals : List Nat) (back : FbrBack) (s : Hub) :
    Option FbrAns × Hub :=
  let n := vals.length
  let np := s.nonPosted w off n
  if s.domFailed dFBR then (some { status := stUnavailable }, s)
  else if s.fbrBad w off n then (some { status := stBadDesc }, s)
  else if s.lockedOut who w then (some { status := stRetryLocked }, s)
  else if s.winPoisoned w then
    if np then (some { status := stPoisoned, zst := 3 }, s)
    else (some { status := stPoisoned, posted := true }, s.count Cnt.FBR_CNT_POISON_DROP 1)
  else if s.fbrFull then (some { status := stRetry }, s)
  else
    let r : FbrReq := { who := who, carrier := carrier, kind := .write, win := w, cs := s.winCs w,
                        zone := s.getf (Fld.FBR_WIN_ZBASE w) + off, base := off, count := n, vals := vals,
                        posted := !np, back := if np then back else .none }
    let s1 := (s.enqueue r).dropLines w
    if np then (none, s1) else (some { status := stOk, written := n, posted := true }, s1)

/-! Cycles (R312, R313, R320, R324). -/

/-- The argument of FBR_STALE from carrier tunnel `tn` (R340). -/
def staleArg (p : Parked) (tn : Nat) : Nat :=
  p.win % 64 * 2 ^ 58 + p.off % 2 ^ 26 * 2 ^ 32 + tn % 4096 * 2 ^ 20 + p.who.hub % 512 * 2 ^ 11 + p.who.src % 1024 * 2

/-- The argument of FBR_POSTED_FAIL for the word at offset `off` (R340). Log entry 105 (DEDUCED). -/
def postedFailArg (r : FbrReq) (off zst : Nat) : Nat :=
  r.win % 64 * 2 ^ 58 + off % 2 ^ 26 * 2 ^ 32 + r.carrier % 4096 * 2 ^ 20 + r.who.hub % 512 * 2 ^ 11
    + bits r.who.src 9 3 * 2 ^ 4 + zst % 8 * 2

/-- The answer of a queued write goes to whoever asked (R317, R319). -/
def Hub.answerBack (back : FbrBack) (win : Nat) (a : FbrAns) (s : Hub) : Hub :=
  match back with
  | .none => s
  | .own w idx cookie nc =>
    s.complete w idx cookie nc { ring := askerRing w, hub := s.addr, status := a.status, result := a.result false }
  | .msg hub id => s.send hub 0x53 id (a.writeBody win)

/-- The result of a read or locked request is parked at its last cycle's end (R321). -/
def Hub.parkResult (r : FbrReq) (words : List Nat) (zst : Nat) (s : Hub) : Hub :=
  match Tab.get? r.slot s.fbr.parked with
  | none => s
  | some p => s.setParked r.slot { p with words := words, zst := zst, ready := some s.tick }

/-- A posted write fails after `done` words (R320): the window is poisoned, the rest of it and every other posted write to the
window are dropped and counted, and queued non-posted writes and locked requests to it will complete POISONED. Log entry 105 (DEDUCED). -/
def Hub.postedFail (r : FbrReq) (done zst : Nat) (s : Hub) : Hub :=
  let hit (x : FbrReq) : Bool := x.win == r.win
  let others := (s.fbr.reqs.filter (fun x => hit x && x.posted)).length
  let kept := (s.fbr.reqs.filter (fun x => !(hit x && x.posted))).map
    (fun x => if hit x && x.kind != .read then { x with poisoned := true } else x)
  let s1 : Hub := { s with fbr := { s.fbr with reqs := kept } }
  ((s1.setPoison (if s1.winPoisoned r.win then s1.fbr.poison else s1.fbr.poison ++ [r.win])).count
    Cnt.FBR_CNT_POISON_DROP (1 + others)).raise Evt.FBR_POSTED_FAIL [postedFailArg r (r.base + 4 * done) zst]

/-- The first `n` bus cycles of a request, as the pins show them (R312). Log entry 108 (DEDUCED). -/
def Hub.driveCycles (r : FbrReq) (n : Nat) (lock : Bool) (s : Hub) : Hub :=
  (List.range n).foldl (fun t i => t.emit (.zoneCycle r.cs (r.zone + 4 * i) (if r.kind = .write then some (r.vals.getD i 0) else none) lock)) s

/-- The value a locked sequence writes: (old and not MASK) or (VALUE and MASK) (R324). -/
def lockedValue (old mask v : Nat) : Nat := (old &&& (mask ^^^ 0xFFFFFFFF)) ||| (v &&& mask)

/-- The cycles a request would run. Log entry 108 (DEDUCED). -/
def FbrReq.cycles (r : FbrReq) : Nat := if r.kind = .locked then 2 else r.count

/-- The cycles run where `good` complete and the next ends with ZSTATUS `zst`: one that times out runs as well (R313). -/
def cyclesRun (good zst : Nat) : Nat := if zst = 1 then good + 1 else good

/-- A request whose turn it is runs: its first `good` cycles complete, reads latching `words`, and the next ends with ZSTATUS
`zst`, 0 when all complete (R312, R313, R319 to R321, R324). Log entry 106 (DEDUCED). -/
def Hub.runReq (r : FbrReq) (good zst : Nat) (words : List Nat) (s : Hub) : Hub :=
  match r.kind with
  | .read => (s.driveCycles r (cyclesRun good zst) false).parkResult r (if zst = 0 then words.take r.count else []) zst
  | .locked =>
    let old := words.headD 0
    let s1 := if 1 ≤ cyclesRun good zst then s.emit (.zoneCycle r.cs r.zone none true) else s
    let s2 := if 2 ≤ cyclesRun good zst then s1.emit (.zoneCycle r.cs r.zone (some (lockedValue old r.mask (r.vals.headD 0))) true) else s1
    s2.parkResult r (if zst = 0 then [old] else []) zst
  | .write =>
    let s1 := s.driveCycles r (cyclesRun good zst) false
    if zst = 0 then s1.answerBack r.back r.win { status := stOk, written := r.count }
    else if r.posted then s1.postedFail r good zst
    else s1.answerBack r.back r.win { status := stTimeout, zst := zst, written := good }

/-- A poll of select `c` waits for the bus, and may have it: no locked request of the select is queued (R318, R324). -/
def Hub.pollReady (s : Hub) (c : Nat) : Bool :=
  s.fbr.pollDue.contains c && !s.fbr.reqs.any (fun r => r.kind == .locked && r.cs == c)

/-- The bus is the oldest request's: no poll runs ahead of it (R311, R318). -/
def Hub.busFree (s : Hub) : Bool := s.atL0 dFBR && (List.range 4).all (fun c => !s.pollReady c)

/-- The oldest request is taken off the queue and runs as `good` and `zst` say; one caught by its window's poisoning completes
POISONED with no cycle, and one whose chip select is disabled ends with ZSTATUS 2 (R313, R320). -/
def Hub.runNext (good zst : Nat) (words : List Nat) (s : Hub) : Hub :=
  match s.fbr.reqs with
  | [] => s
  | r :: rs =>
    let s1 : Hub := { s with fbr := { s.fbr with reqs := rs } }
    if r.poisoned then
      (if r.kind = .locked then s1.parkResult r [] 3 else s1.answerBack r.back r.win { status := stPoisoned, zst := 3 })
    else if !s.flag (Fld.FBR_ZCS_CFG_EN r.cs) then s1.runReq r 0 2 []
    else s1.runReq r good zst words


end Sys2Proof.Machine
end

