-- ==== Sys2Proof/Machine/Usb.lean ====
section
/-! DEFINITION. Port S, the internal USB 2.0 hub and the line gadget (R346, R361 to R371). -/

namespace Sys2Proof.Machine

open Host (Outcome)

/-- The state with gadget `g`. -/
def Hub.setGadget (g : Gadget) (s : Hub) : Hub := { s with tcp := { s.tcp with gadget := g } }

/-- Session codes of USB_STATUS.SESSION (R368). -/
def ssLocked : Nat := 0
def ssUnlocked : Nat := 1
def ssLockout : Nat := 2

/-- The gadget's session is unlocked. -/
def Hub.unlocked (s : Hub) : Bool := s.getf Fld.USB_STATUS_SESSION == ssUnlocked

/-- The session locks (R369). -/
def Hub.lockSession (s : Hub) : Hub :=
  (s.setGadget { s.tcp.gadget with keyId := 0 }).setf Fld.USB_STATUS_SESSION
    (if s.tcp.gadget.lockout then ssLockout else ssLocked)

/-- Steps 2, 4 and 5 of R370: configuration cleared, transfers not yet taken flushed, the session locked. -/
def Hub.gadgetReset (s : Hub) : Hub :=
  let h := s.hif
  (({ s with hif := { h with gdone := [], gdrop := h.gjobs.map (fun (j : Job) => j.idx) } }).setGadget
    { s.tcp.gadget with events := [], driving := false, merged := false, bufs := [], halts := [] }).setf Fld.USB_STATUS_CONFIGURED 0 |>.lockSession

/-- Hub port `k` (0 to 4) and the state with it as `P`. Log entry 124 (DEDUCED). -/
def Hub.hubPort (s : Hub) (k : Nat) : UsbPort := Tab.getD s.tcp.hub k {}
def Hub.setHubPort (k : Nat) (P : UsbPort) (s : Hub) : Hub := { s with tcp := { s.tcp with hub := Tab.put k P s.tcp.hub } }

/-- The upstream face that is attached: 1 port S, 2 the board pair, by UPB_SEL (R346, R361); none unless USBPD is at L0. -/
def Hub.upFace (s : Hub) : Nat :=
  if s.getf (Fld.PWR_DOM_STATUS_STEP 11) != 0 then 0
  else if s.flag Fld.GEN_STRAPS_UPB_SEL then (if s.tcp.upb then 2 else 0)
  else if s.flag Fld.TCP_S_STATUS_ATTACHED then 1 else 0

/-- Something happens on the upstream bus (R362). -/
def Hub.busActs (s : Hub) : Hub := { s with tcp := { s.tcp with busAt := s.up } }

/-- The hub connects to or leaves its upstream face (R361); leaving resets the ports and locks the session (R369). Log entry 183 (DESIGN CHOICE). -/
def Hub.upstream (s : Hub) : Hub :=
  let f := s.upFace
  if f = s.getf Fld.USB_STATUS_UP then s
  else
    let s1 := (s.busActs.setf Fld.USB_STATUS_UP f).setf Fld.USB_STATUS_SUSPENDED 0
    if f = 0 then
      ((List.range 5).foldl (fun t k => t |>.setf (Fld.USB_PORT_STATUS_ENABLED k) 0 |>.setf (Fld.USB_PORT_STATUS_SUSPENDED k) 0)
        (s1.setf Fld.USB_STATUS_SPEED 0)).gadgetReset
    else s1.setf Fld.USB_STATUS_SPEED 2

/-- The gadget is on the bus (R365). -/
def Hub.gadgetOn (s : Hub) : Bool := s.flag Fld.USB_CFG_GADGET_EN && s.getf Fld.USB_STATUS_UP != 0

/-- The gadget takes transfers: it is on the bus, its hub port enabled (R363), and not suspended. -/
def Hub.gadgetLive (s : Hub) : Bool :=
  s.gadgetOn && s.flag (Fld.USB_PORT_STATUS_ENABLED 4) && !s.flag Fld.USB_STATUS_SUSPENDED

/-- A record passes the gadget's filter (R366, R238). -/
def Gadget.passes (g : Gadget) (r : EvRec) (remote : Bool) : Bool :=
  decide (g.minSev ≤ r.sev.code) && bit g.blocks (r.code / 256) && (if remote then g.remote else g.localRecs)

/-- A record reaches the gadget: buffered if its filter passes it, counted once 256 are held (R366). -/
def Hub.gadgetEvent (r : EvRec) (remote : Bool) (s : Hub) : Hub :=
  let g := s.tcp.gadget
  if s.flag Fld.USB_CFG_GADGET_EN && g.passes r remote then
    if g.events.length < 256 then s.setGadget { g with events := g.events ++ [(r, remote)] }
    else s.count Cnt.USB_CNT_EVT_LOST 1
  else s

/-- The 16-byte image of a record with PHASE (R237). -/
def EvRec.image (r : EvRec) (phase : Nat) : List Byte :=
  leBytes 8 (r.code * 2 ^ 48 + r.hub % 512 * 2 ^ 39 + r.sev.code * 2 ^ 36 + phase % 2 * 2 ^ 32 + r.tick % 2 ^ 32) ++ leBytes 8 r.args

/-- The transfer of a command: the descriptor, and the bytes that follow it for REG_WRITE, LAUNCH and FBR_WRITE (R366). -/
def gadgetLen (b : List Byte) : Nat :=
  let op := byteAt b 0
  if (op = 0x41 ∨ op = 0x50 ∨ op = 0x61) ∧ !bit (byteAt b 1) 1 then 32 + leAt b 4 4 else 32

/-- A command of the gadget is queued, to be taken up as one of a CMD ring (R366). -/
def Hub.gadgetTake (b : List Byte) (s : Hub) : Hub :=
  let h := s.hif
  let s1 := s.setGadget { s.tcp.gadget with cmdAt := s.up }
  let j : Job := { idx := h.gcount, d := readDesc b, t0 := s.fetchTick, data := b.drop 32 }
  { s1 with hif := { h with gjobs := h.gjobs ++ [j], gcount := h.gcount + 1 } }

/-- Room for a command: up to 16 outstanding (R366). Log entry 126 (DEDUCED). -/
def Hub.gadgetRoom (s : Hub) : Bool := decide (s.hif.gjobs.length + s.hif.gdone.length < 16)

/-- EP1's packet buffers at high speed (R367). -/
def epBuffers : Nat := 4

/-- The gadget runs at high speed. -/
def Hub.gadgetHs (s : Hub) : Bool := s.getf (Fld.USB_PORT_STATUS_SPEED 4) == 2

/-- The packet buffers of EP1 that hold transfers of `bs`, 512 bytes a packet (R365, R367). Log entry 182 (DESIGN CHOICE). -/
def packetsOf (bs : List (List Byte)) : Nat := bs.foldl (fun n b => n + cdiv b.length 512) 0

/-- Transfers waiting in EP1's buffers become commands as far as there is room (R366, R367). Log entry 182 (DESIGN CHOICE). -/
def Hub.gadgetDrain : (n : Nat) → (s : Hub) → Hub
  | 0, s => s
  | n + 1, s =>
    match s.tcp.gadget.bufs with
    | [] => s
    | b :: t => if s.gadgetRoom then Hub.gadgetDrain n ((s.setGadget { s.tcp.gadget with bufs := t }).gadgetTake b) else s

/-- Endpoint `ep`'s halt feature is set (R367). -/
def Hub.halted (s : Hub) (ep : Nat) : Bool := s.tcp.gadget.halts.contains ep

/-- The host sets or clears the halt feature of bulk endpoint `ep` (R367, R368). Log entry 182 (DESIGN CHOICE). -/
def Hub.setHalt (ep : Nat) (on : Bool) (s : Hub) : Hub :=
  let rest := s.tcp.gadget.halts.filter (fun e => e != ep)
  if ep = 0 then s else s.setGadget { s.tcp.gadget with halts := if on then ep :: rest else rest }

/-- A free value's tag: a random challenge (R368, R459). -/
def freeTagChallenge : Nat := 4

/-- The service key of KEY_ID `i`, 1 to 7 (R456). -/
def Hub.serviceKey (s : Hub) (i : Nat) : Option (List Byte) :=
  if decide (1 ≤ i) && decide (i ≤ 7) then Tab.get? (8 + i) s.sec.keys else none

/-- PORT_S_ATTACH_CHANGE (R346): VBUS_S stands at `mv` and the CC pins show Rp or not, for tCCDebounce. -/
def execPortSAttachChange (mv : Nat) (rp1 rp2 : Bool) (s : State) : Outcome State Fault Refusal := s.on fun s =>
  let was := s.flag Fld.TCP_S_STATUS_ATTACHED
  let att := if mv < 3670 then false else if 4000 < mv ∧ rp1 != rp2 then true else was
  let vb := if mv < 3670 then false else if 4000 < mv then true else s.flag Fld.TCP_S_STATUS_VBUS
  ((s |>.setb Fld.TCP_S_STATUS_VBUS vb |>.setb Fld.TCP_S_STATUS_ATTACHED att
    |>.setb Fld.TCP_S_STATUS_FLIPPED (att && rp2)).upstream)

/-- UPB_VBUS_CHANGE (R361): the board upstream face gains or loses VBUS. -/
def execUpbVbusChange (on : Bool) (s : State) : Outcome State Fault Refusal := s.on fun s =>
  ({ s with tcp := { s.tcp with upb := on } }.upstream)

/-- USB_SOF_RECEIVE (R362): the SOF of frame `frame` whose SYNC ended at line time `t`, or its absence. -/
def execUsbSofReceive (frame : Fin 2048) (t : Nat) (present : Bool) (s : State) : Outcome State Fault Refusal := s.on fun s =>
  let absent := match s.tcp.sofAt with
    | none => false
    | some e => decide (e + 2000 < t)
  if s.getf Fld.USB_STATUS_UP = 0 ∨ (!present && !absent) then s
  else
    let s := s.advance t
    let p := s.tcp.sofAt
    let near := match p with
      | none => true
      | some e => decide (t ≤ e + 2000) && decide (e ≤ t + 2000)
    let next := match p with
      | none => if present then some (t + 1000000) else none
      | some e => if present && near then some (t + 1000000) else some (e + 1000000)
    let s1 := { s with tcp := { s.tcp with sofAt := next } }
    let s2 := if present then (s1.busActs.setf Fld.USB_STATUS_FRAME frame).set64 Fld.USB_SOF_LO Fld.USB_SOF_HI t else s1
    (if present && near then s2 else s2.count Cnt.USB_CNT_SOF_MISS 1)

/-- USB_SUSPEND (R362): 3 ms without bus activity. -/
def execUsbSuspend (s : State) : Outcome State Fault Refusal := s.on fun s =>
  if s.getf Fld.USB_STATUS_UP = 0 ∨ s.flag Fld.USB_STATUS_SUSPENDED ∨ !s.ranFor s.tcp.busAt 3000000 then s
  else
    let s1 := s.setf Fld.USB_STATUS_SUSPENDED 1
    (((List.range 5).foldl (fun t k =>
      if t.flag (Fld.USB_PORT_STATUS_ENABLED k) then t.setf (Fld.USB_PORT_STATUS_SUSPENDED k) 1 else t) s1).setGadget
        { s1.tcp.gadget with driving := false, merged := false })

/-- USB_BABBLE (R363): the device on hub port `k` + 1 still drives the bus at EOF2 of frame `frame`. -/
def execUsbBabble (k : Fin 5) (frame : Fin 2048) (s : State) : Outcome State Fault Refusal := s.on fun s =>
  if s.flag (Fld.USB_PORT_STATUS_ENABLED k) ∧ s.getf Fld.USB_STATUS_FRAME = frame then
    ((((s.setHubPort k { s.hubPort k with cEnable := true }).setf (Fld.USB_PORT_STATUS_ENABLED k) 0
      |>.setf (Fld.USB_PORT_STATUS_BABBLE_CUT k) 1).count Cnt.USB_CNT_BABBLE 1).raise Evt.USB_BABBLE [k + 1, frame])
  else s

/-- HUB_PORT_RESET (R361, R363, R370): the host resets hub port `k` + 1, whose device answers at `speed`; the gadget's speed is that of the hub's
upstream connection. Log entry 183 (DESIGN CHOICE). -/
def execHubPortReset (k : Fin 5) (speed : Fin 3) (s : State) : Outcome State Fault Refusal := s.on fun s =>
  let there := if k.val = 4 then s.gadgetOn
    else s.flag (Fld.TCP_PORT_CFG_USB_EN k) && s.getf (Fld.TCP_PORT_STATUS_STATE k) == 3
  if s.getf Fld.USB_STATUS_UP = 0 then s else
  let speed := if k.val = 4 then max 1 speed.val else if s.getf Fld.USB_STATUS_SPEED = 1 then min 1 speed.val else speed.val
  let s := if k.val = 4 && there then s.busActs.setf Fld.USB_STATUS_SPEED speed else s.busActs
  let s1 := (s.setHubPort k { s.hubPort k with cEnable := false, cSuspend := false }).setf (Fld.USB_PORT_STATUS_BABBLE_CUT k) 0
    |>.setf (Fld.USB_PORT_STATUS_SUSPENDED k) 0 |>.setb (Fld.USB_PORT_STATUS_ENABLED k) there
    |>.setf (Fld.USB_PORT_STATUS_SPEED k) (if there then speed else 0)
  (if k.val = 4 then s1.gadgetReset else s1)

/-- USB_RESUME (R364): resume is signalled upstream; `woke` are the hub ports (0 to 4) whose remote wakeup came within it. -/
def execUsbResume (woke : List (Fin 5)) (s : State) : Outcome State Fault Refusal := s.on fun s =>
  if s.flag Fld.USB_STATUS_SUSPENDED then
    let s1 := (List.range 5).foldl (fun t k =>
      if t.flag (Fld.USB_PORT_STATUS_ENABLED k) && t.flag (Fld.USB_PORT_STATUS_SUSPENDED k) then
        let t1 := (t.setf (Fld.USB_PORT_STATUS_SUSPENDED k) 0).emit (.usbResume (k + 1))
        if woke.any (fun w => w.val == k) then t1.setHubPort k { t1.hubPort k with cSuspend := true } else t1
      else t) (s.busActs.setf Fld.USB_STATUS_SUSPENDED 0)
    let g := s1.tcp.gadget
    (if g.driving then (s1.setGadget { g with driving := false, merged := true }).count Cnt.USB_CNT_RWAKE_MERGED 1 else s1)
  else s

/-- GADGET_REMOTE_WAKE (R364): a suspended gadget with completions or records waiting starts K, once per suspend; `armed` says
whether the host has armed its remote wakeup. Log entry 125 (DEDUCED). -/
def execGadgetRemoteWake (armed : Bool) (s : State) : Outcome State Fault Refusal := s.on fun s =>
  let g := s.tcp.gadget
  if armed ∧ s.gadgetOn ∧ s.flag Fld.USB_STATUS_SUSPENDED ∧ !g.driving ∧ !g.merged ∧ (!g.events.isEmpty ∨ !s.hif.gdone.isEmpty) then
    ((s.setGadget { g with driving := true }).emit (.usbResume 5))
  else s

/-- USB_BUS_RESET (R370): a bus reset, during a control transfer of request `req` in stage `stage` where `inControl`. -/
def execUsbBusReset (inControl : Bool) (req : Fin 256) (stage : Fin 3) (s : State) : Outcome State Fault Refusal := s.on fun s =>
  let s1 := s.busActs.gadgetReset
  (if inControl then (s1.count Cnt.USB_CNT_RESET_IN_CONTROL 1).raise Evt.USB_RESET_IN_CONTROL [req, stage] else s1)

/-- An OUT transfer that waits for room goes into EP1's packet buffers at high speed: NYET where it fills the last, NAK where it does not
fit; at full speed NAK (R366, R367). Log entry 182 (DESIGN CHOICE). -/
def Hub.gadgetWait (b : List Byte) (s : Hub) : Hub :=
  let g := s.tcp.gadget
  let n := packetsOf (g.bufs ++ [b])
  if s.gadgetHs && decide (n ≤ epBuffers) then
    (s.setGadget { g with bufs := g.bufs ++ [b] }).emit (.handshake 1 (if n = epBuffers then .nyet else .ack))
  else s.emit (.handshake 1 .nak)

/-- A PING of bulk OUT endpoint `ep` at high speed, whose buffers hold `used` packets (R367). Log entry 182 (DESIGN CHOICE). -/
def Hub.gadgetPing (ep used : Nat) (s : Hub) : Hub :=
  if s.gadgetHs then s.emit (.handshake ep (if s.halted ep then .stall else if used < epBuffers then .ack else .nak)) else s

/-- GADGET_COMMAND (R366, R367): what the host does at EP1 OUT; an OUT transfer is a command, which waits while 16 are outstanding. Log entries 125 (DEDUCED), 182 (DESIGN CHOICE). -/
def execGadgetCommand (a : EpAct) (s : State) : Outcome State Fault Refusal := s.on fun s =>
  if !s.gadgetLive then s
  else
    match a with
    | .halt ep on => s.setHalt ep on
    | .ping => s.gadgetPing 1 (packetsOf s.tcp.gadget.bufs)
    | .out bytes =>
      if s.halted 1 then s.emit (.handshake 1 .stall)
      else if bytes.length < 32 ∨ bytes.length ≠ gadgetLen bytes then s.emit (.handshake 1 .ack)
      else if s.gadgetRoom ∧ s.tcp.gadget.bufs = [] then
        ((s.gadgetTake bytes).setf Fld.USB_STATUS_CONFIGURED 1).emit (.handshake 1 .ack)
      else (s.gadgetWait bytes).setf Fld.USB_STATUS_CONFIGURED 1

/-- GADGET_FILTER_SET (R366, R367): what the host does at EP3 OUT; an OUT transfer of eight bytes sets the filter. The gadget takes it at
once, so EP3's buffers stay free. Log entry 182 (DESIGN CHOICE). -/
def execGadgetFilterSet (a : EpAct) (s : State) : Outcome State Fault Refusal := s.on fun s =>
  if !s.gadgetLive then s
  else
    match a with
    | .halt ep on => s.setHalt ep on
    | .ping => s.gadgetPing 3 0
    | .out bytes =>
      if s.halted 3 then s.emit (.handshake 3 .stall)
      else if bytes.length ≠ 8 then s.emit (.handshake 3 .ack)
      else
        ((s.setGadget { s.tcp.gadget with minSev := byteAt bytes 0, remote := bit (byteAt bytes 1) 1,
                                            localRecs := bit (byteAt bytes 1) 0, blocks := leAt bytes 2 2 }).setf
          Fld.USB_STATUS_CONFIGURED 1).emit (.handshake 3 .ack)

/-- GADGET_IN_TRANSFER (R366): the host takes one completion from EP2, or up to 32 records from EP4. -/
def execGadgetInTransfer (ep : Fin 5) (s : State) : Outcome State Fault Refusal := s.on fun s =>
  if s.gadgetLive then
    if s.halted ep then s.emit (.handshake ep .stall)
    else if ep.val = 2 then
      match s.hif.gdone with
      | [] => s
      | c :: t => (({ s with hif := { s.hif with gdone := t } }).emit (.gadgetIn 2 c)).gadgetDrain 16
    else if ep.val = 4 then
      let g := s.tcp.gadget
      if g.events.isEmpty then s
      else ((s.setGadget { g with events := g.events.drop 32 }).emit
        (.gadgetIn 4 ((g.events.take 32).map (fun e => e.1.image 1)).flatten))
    else s
  else s

/-- GET_INFO (R368): identity, address, session state, KEY_ID and GEN_ID. Log entry 127 (DEDUCED). -/
def execGetInfo (s : State) : Outcome State Fault Refusal := s.on fun s =>
  if s.gadgetLive then
    (s.emit (.gadgetIn 0 (leBytes 8 (s.getf Fld.GEN_HUB_ID_HI_ID_HI * 2 ^ 32 + s.getf Fld.GEN_HUB_ID_LO_ID_LO)
      ++ leBytes 2 s.addr ++ leBytes 1 (s.getf Fld.USB_STATUS_SESSION) ++ leBytes 1 s.tcp.gadget.keyId
      ++ leBytes 4 (s.getf Fld.GEN_ID_PART * 2 ^ 16 + s.getf Fld.GEN_ID_VARIANT * 2 ^ 8 + s.getf Fld.GEN_ID_REV))))
  else s

/-- GET_CHALLENGE (R368, R369): a fresh random challenge, STALL during lockout. -/
def execGetChallenge (s : State) : Outcome State Fault Refusal := s.on fun s =>
  if s.gadgetLive then
    if s.tcp.gadget.lockout then (s.emit .stall)
    else
      let (c, s1) := s.free freeTagChallenge
      let b := leBytes 16 c
      ((s1.setGadget { s1.tcp.gadget with challenge := some (b, s.up) }).emit (.gadgetIn 0 b))
  else s

/-- SET_PROOF (R369): the CMAC proof over the challenge, the hub identity and eight zero bytes, under the service key named. Log entry 127 (DEDUCED). -/
def execSetProof (bytes : List Byte) (s : State) : Outcome State Fault Refusal := s.on fun s =>
  if s.gadgetLive ∧ bytes.length ≠ 20 then s.emit .stall
  else if s.gadgetLive then
    let g := s.tcp.gadget
    let id := byteAt bytes 0
    let hub := s.getf Fld.GEN_HUB_ID_HI_ID_HI * 2 ^ 32 + s.getf Fld.GEN_HUB_ID_LO_ID_LO
    let good := match g.challenge, s.serviceKey id with
      | some (c, t), some k => decide (s.up ≤ t + 10000000000)
          && (aesCmac k (c ++ beBytes 8 hub ++ zeros 8)).take 16 == bytes.drop 4
      | _, _ => false
    if good then
      (((s.setGadget { g with challenge := none, fails := 0, keyId := id, cmdAt := s.up }).setf Fld.USB_STATUS_SESSION ssUnlocked).raise
        Evt.USB_SESSION_UNLOCK [id])
    else
      let n := g.fails + 1
      let s1 := s.setGadget { g with challenge := none, fails := n, lockout := decide (3 ≤ n), lockAt := if g.lockout then g.lockAt else s.up }
      let s2 := if 3 ≤ n && !s.unlocked then s1.setf Fld.USB_STATUS_SESSION ssLockout else s1
      (((s2.emit .stall).count Cnt.USB_CNT_SESSION_FAIL 1).raise Evt.USB_SESSION_FAIL [id, n])
  else s

/-- LOCK (R369). -/
def execLock (s : State) : Outcome State Fault Refusal := s.on fun s => if s.gadgetLive then s.lockSession else s

/-- EXEC_CMD (R368): a command of 32 to 256 bytes whose status stage has completed. -/
def execExecCmd (bytes : List Byte) (s : State) : Outcome State Fault Refusal := s.on fun s =>
  if s.gadgetLive ∧ s.gadgetRoom ∧ 32 ≤ bytes.length ∧ bytes.length ≤ 256 ∧ gadgetLen bytes ≤ bytes.length then
    (s.gadgetTake (bytes.take (gadgetLen bytes)))
  else if s.gadgetLive ∧ (bytes.length < 32 ∨ 256 < bytes.length ∨ bytes.length < gadgetLen bytes) then s.emit .stall
  else s

/-- GADGET_SESSION_IDLE (R369): USB_CFG.IDLE seconds without a command. -/
def execGadgetSessionIdle (s : State) : Outcome State Fault Refusal := s.on fun s => (if s.unlocked ∧ s.ranFor s.tcp.gadget.cmdAt (s.getf Fld.USB_CFG_IDLE * 1000000000) then s.lockSession else s)

/-- GADGET_LOCKOUT_END (R369): 60 s after the third failure. -/
def execGadgetLockoutEnd (s : State) : Outcome State Fault Refusal := s.on fun s =>
  let g := s.tcp.gadget
  if g.lockout ∧ s.ranFor g.lockAt 60000000000 then
    let s1 := s.setGadget { g with lockout := false, fails := 0 }
    (if s.unlocked then s1 else s1.setf Fld.USB_STATUS_SESSION ssLocked)
  else s

end Sys2Proof.Machine
end

