-- ==== Sys2Proof/Machine/Bridge.lean ====
section
/-! DEFINITION. The commands of the zone bus and the bridge (R311 to R326, R336). -/

namespace Sys2Proof.Machine

open Host (Outcome)

/-! Commands of this hub's hosts and of its gadget (R315, R316). -/

/-- The source of an asker (R315). -/
def askerSource : Asker → Nat
  | .ring r => r
  | .gadget => 0x3FF

/-- The window, the offset and the upper half of a bridge command's PARAM (R316). -/
def Desc.fbrWin (d : Desc) : Nat := bits d.param 31 26
def Desc.fbrOff (d : Desc) : Nat := bits d.param 25 0
def Desc.fbrHigh (d : Desc) : Nat := bits d.param 63 32

/-- A bridge command's descriptor is formed as R316 and R226 say. -/
def fbrDescOk (op : Nat) (d : Desc) : Bool :=
  let inlineOk := !d.inline || (d.len == 4 && (op == 0x60 && d.addr == 0 || op != 0x60 && decide (d.addr < 2 ^ 32)))
  !d.chain && decide (d.flags < 16) && decide (d.qt < 0x1FF) && inlineOk && d.fbrOff % 4 == 0
    && (if op = 0x60 then d.len % 4 == 0 && decide (4 ≤ d.len) && decide (d.len ≤ 224) && decide (d.fbrHigh < 65536)
        else if op = 0x61 then d.len % 4 == 0 && decide (4 ≤ d.len) && decide (d.len ≤ 224) && d.fbrHigh == 0
        else d.inline)

/-- The answer reaches its asker: data to the buffer, then the completion (R228, R231); a failed write of the buffer completes
DMA_ERROR (R230). -/
def Hub.fbrComplete (w : Asker) (idx : Nat) (d : Desc) (hub : Nat) (a : FbrAns) (ok : Bool) (s : Hub) : Hub :=
  let read := d.op != 0x61
  let bytes := a.data.flatMap (fun v => leBytes 4 v)
  let nc := bit d.flags 0
  let give (t : Hub) (data : List Byte) : Hub :=
    t.complete w idx d.cookie nc { ring := askerRing w, hub := hub, status := a.status, result := a.result read, data := data }
  if d.op = 0x60 ∧ a.status = stOk then
    match w with
    | .gadget => give s bytes
    | .ring _ =>
      if d.inline then give s []
      else if ok then give (s.emit (.hostWrite d.addr bytes)) []
      else ((s.count Cnt.HIF_CNT_DMA_ERR 1).raise Evt.HIF_DMA_ERROR [askerRing w, idx]).complete w idx d.cookie nc
        { ring := askerRing w, hub := hub, status := stDma }
  else give s []

/-- The message type and body of a bridge command to another hub (R317). Log entry 104 (DEDUCED). -/
def fbrMessage (d : Desc) (vals : List Nat) : Nat × List Byte :=
  if d.op = 0x60 then (0x50, beBytes 1 d.fbrWin ++ beBytes 1 (d.len / 4) ++ beBytes 2 d.fbrHigh ++ beBytes 4 d.fbrOff)
  else if d.op = 0x61 then
    (0x52, beBytes 1 d.fbrWin ++ beBytes 1 vals.length ++ zeros 2 ++ beBytes 4 d.fbrOff ++ vals.flatMap (fun v => beBytes 4 v))
  else (0x54, beBytes 1 d.fbrWin ++ zeros 3 ++ beBytes 4 d.fbrOff ++ beBytes 4 d.fbrHigh ++ beBytes 4 (d.addr % 2 ^ 32))

/-- The words of a byte string, least significant byte first (R5). -/
def wordsLe : (n : Nat) → (b : List Byte) → List Nat
  | 0, _ => []
  | n + 1, b => leNat (b.take 4) :: wordsLe n (b.drop 4)

/-- A bridge command of an asker is taken up (R315 to R324): `data` is what the read of its buffer returned, none where it
failed; `ok` says whether a write of its buffer succeeds. Log entry 111 (DEDUCED). -/
def Hub.fbrCommand (op : Nat) (w : Asker) (data : Option (List Byte)) (ok : Bool) (s : Hub) : Hub :=
  match s.jobFor w op with
  | none => s
  | some j =>
    let d := j.d
    let who : FbrInit := ⟨s.addr, askerSource w⟩
    let bytes : Option (List Byte) :=
      match w with
      | .gadget => if d.inline then some (leBytes 4 d.addr) else some j.data
      | .ring _ => if d.inline then some (leBytes 4 d.addr) else data
    if s.reqsFull d.qt then s
    else if !fbrDescOk op d then s.finish w j s.addr stBadDesc 0
    else if !s.mayReach w s.unlocked d.qt (op != 0x60) then s.finish w j s.addr stRefused 0
    else if op = 0x61 ∧ bytes.isNone then
      ((s.count Cnt.HIF_CNT_DMA_ERR 1).raise Evt.HIF_DMA_ERROR [askerRing w, j.idx]).finish w j s.addr stDma 0
    else
      let vals := wordsLe (d.len / 4) (bytes.getD [])
      if s.isOwn d.qt then
        if op = 0x60 then
          let (a, s1) := s.bridgeRead who 0 d.fbrWin d.fbrOff (d.len / 4) d.fbrHigh
          s1.fbrComplete w j.idx d s.addr a ok
        else if op = 0x61 then
          match (s.takeJob w j).bridgeWrite who 0 d.fbrWin d.fbrOff vals (.own w j.idx d.cookie (bit d.flags 0)) with
          | (none, s1) => s1
          | (some a, s1) => s1.fbrComplete w j.idx d s.addr a ok
        else
          let (a, s1) := s.bridgeLocked who 0 d.fbrWin d.fbrOff d.fbrHigh (d.addr % 2 ^ 32)
          s1.fbrComplete w j.idx d s.addr a ok
      else if (s.portsFor d.qt).isEmpty then s.finish w j d.qt stNoRoute 0
      else
        let (type, body) := fbrMessage d vals
        let (id, s1) := (s.takeJob w j).newReq { who := w, idx := j.idx, d := d, hub := d.qt, t0 := j.t0 }
        s1.send d.qt type id body

/-- The answer of another hub to a bridge command, with the request's MSG_ID (R317). Log entry 111 (DEDUCED). -/
def Hub.fbrResponse (id hub : Nat) (read : Bool) (body : List Byte) (ok : Bool) (s : Hub) : Hub :=
  match s.req id with
  | none => s.count Cnt.HIF_CNT_LATE_RSP 1
  | some q =>
    if q.dead then s.endReq id
    else (s.endReq id).fbrComplete q.who q.idx q.d hub (readAns read body) ok

/-- FBR_READ (R316, R321 to R323); `ok` says whether a write of its buffer succeeds. -/
def execFbrRead (w : Asker) (ok : Bool) (s : State) : Outcome State Fault Refusal := s.on fun s => (s.fbrCommand 0x60 w none ok)

/-- FBR_WRITE (R316, R319): `data` is what the read of its buffer returned, none where it failed. -/
def execFbrWrite (w : Asker) (data : Option (List Byte)) (s : State) : Outcome State Fault Refusal := s.on fun s =>
  (s.fbrCommand 0x61 w data true)

/-- FBR_LOCKED (R316, R324). -/
def execFbrLocked (w : Asker) (s : State) : Outcome State Fault Refusal := s.on fun s => (s.fbrCommand 0x62 w none true)

/-! Messages of other hubs (R317). -/

/-- The initiator of a bridge message: the hub that sent it, as its firmware (R315); the messages carry no source. Log entry 104 (DEDUCED). -/
def msgInit (m : Msg) : FbrInit := ⟨m.src, 0x3FE⟩

/-- FBR_READ_MSG: a bridge read message is served and answered with FBR_READ_RSP (R317). -/
def execFbrReadMsg (s : State) : Outcome State Fault Refusal := s.on fun s =>
  match s.takeMsg 4 [0x50] with
  | (none, t) => t
  | (some m, t) =>
    let b := m.body
    let (a, u) := t.bridgeRead (msgInit m) 2 (byteAt b 0) (beNat (slice b 4 4)) (byteAt b 1) (beNat (slice b 2 2))
    (u.send m.src 0x51 m.msgId (a.readBody (byteAt b 0) (byteAt b 1)))

/-- FBR_WRITE_MSG: a bridge write message is served; it is answered with FBR_WRITE_RSP at once, or after its last cycle
(R317, R319). -/
def execFbrWriteMsg (s : State) : Outcome State Fault Refusal := s.on fun s =>
  match s.takeMsg 4 [0x52] with
  | (none, t) => t
  | (some m, t) =>
    let b := m.body
    let vals := (List.range (byteAt b 1)).map (fun i => beNat (slice b (8 + 4 * i) 4))
    match t.bridgeWrite (msgInit m) 2 (byteAt b 0) (beNat (slice b 4 4)) vals (.msg m.src m.msgId) with
    | (none, u) => u
    | (some a, u) => (u.send m.src 0x53 m.msgId (a.writeBody (byteAt b 0)))

/-- FBR_LOCKED_MSG: a bridge locked message is served and answered with FBR_READ_RSP (R317, R324). -/
def execFbrLockedMsg (s : State) : Outcome State Fault Refusal := s.on fun s =>
  match s.takeMsg 4 [0x54] with
  | (none, t) => t
  | (some m, t) =>
    let b := m.body
    let (a, u) := t.bridgeLocked (msgInit m) 2 (byteAt b 0) (beNat (slice b 4 4)) (beNat (slice b 8 4)) (beNat (slice b 12 4))
    (u.send m.src 0x51 m.msgId (a.readBody (byteAt b 0) 1))

/-! Bus cycles (R312, R313). -/

/-- ZONE_BUS_CYCLE: the oldest request's cycles run to the end, a read latching `words`, of which there must be as many as it
reads (R312, R318). -/
def execZoneBusCycle (words : List Word) (s : State) : Outcome State Fault Refusal := s.on fun s =>
  match s.fbr.reqs with
  | [] => s
  | r :: _ =>
    let need := if r.kind = .write then 0 else if r.kind = .locked then 1 else r.count
    if s.busFree ∧ need ≤ words.length then (s.runNext r.cycles 0 (words.map (fun w => w.toNat))) else s

/-- ZRDY_TIMEOUT: the oldest request's cycles run, as many complete as `words` has (a read latches them), and in the next ZRDY is
not high in time: it ends with ZSTATUS 1 (R313). -/
def execZrdyTimeout (words : List Word) (s : State) : Outcome State Fault Refusal := s.on fun s =>
  match s.fbr.reqs with
  | [] => s
  | r :: _ =>
    if s.busFree ∧ words.length < r.cycles then (s.runNext words.length 1 (words.map (fun w => w.toNat))) else s

/-- FBR_STALE: the ready result in slot `i`, unclaimed at its deadline, is discarded (R322). -/
def execFbrStale (i : Fin 256) (s : State) : Outcome State Fault Refusal := s.on fun s =>
  match Tab.get? i s.fbr.parked with
  | none => s
  | some p =>
    match p.ready with
    | none => s
    | some t =>
      if p.claimed.isNone ∧ s.staleAt p t < s.tick then
        (((s.freeParked i).count Cnt.FBR_CNT_STALE 1).raise Evt.FBR_STALE [staleArg p (if p.who.hub = s.addr then 0 else 2)])
      else s

/-- FBR_PREFETCH_EXPIRY: the prefetch line in slot `i` ends 16 ticks after its claim (R323). -/
def execFbrPrefetchExpiry (i : Fin 256) (s : State) : Outcome State Fault Refusal := s.on fun s =>
  match (Tab.get? i s.fbr.parked).bind (fun p => p.claimed) with
  | none => s
  | some t => if t + 16 ≤ s.tick then (s.freeParked i) else s

/-- FBR_WIN_CLEAR (R320). -/
def execFbrWinClear (v : Word) (s : State) : Outcome State Fault Refusal := s.on fun s => (s.writeWinClear v.toNat)

/-- FBR_WINDOW_ENABLE: a write of FBR_WIN_CFG_w (R314). -/
def execFbrWindowEnable (w : Fin 64) (v : Word) (s : State) : Outcome State Fault Refusal := s.on fun s => (s.writeWinCfg w v.toNat)

/-! Polling (R325, R326). -/

/-- An input for the signal map arrives (R331). -/
def Hub.mapInput (x : MapIn) (s : Hub) : Hub := { s with fbr := { s.fbr with ins := s.fbr.ins ++ [x] } }

/-- The filtered level of ZINT pin `n` changes to `on` (R325). Log entry 109 (DEDUCED). -/
def Hub.zintChange (n : Nat) (on : Bool) (levels : Nat) (s : Hub) : Hub :=
  let s1 := s.mapInput { kind := 1, sel := n, frame := [BitVec.ofNat 8 levels], time := s.now }
  if bit (s.getf Fld.FBR_ZINT_CFG_EVT) n then s1.raise Evt.FBR_ZINT [n, b2n on] else s1

/-- The filtered levels after a sample: a pin follows when three consecutive samples agree (R325). Log entry 109 (DEDUCED). -/
def zintFilter (old a b c : Nat) : Nat :=
  (List.range 4).foldl (fun v n =>
    let on := if bit a n = bit b n ∧ bit b n = bit c n then bit a n else bit old n
    if on then v + 2 ^ n else v) 0

/-- ZINT_SAMPLE: the pins are sampled at line time `t`, every 1 µs; `levels` is what the four pins show (R325). Log entry 109 (DEDUCED). -/
def execZintSample (t : Nat) (levels : Fin 16) (s : State) : Outcome State Fault Refusal := s.on fun s =>
  if t % 1000 ≠ 0 ∨ t < s.now ∨ s.fbr.zintAt = some t then s else
  let s0 := s.advance t
  if !s0.atL0 dFBR then s0
  else
    let inv := s0.getf Fld.FBR_ZINT_CFG_INV
    let old := s0.getf Fld.FBR_ZINT_LEVEL
    let before := if s0.fbr.zintAt = some (t - 1000) then s0.fbr.zint else []
    let new := match before with
      | [b, c] => zintFilter old (levels.val ^^^ inv) (b ^^^ inv) (c ^^^ inv)
      | _ => old
    let s1 := ({ s0 with fbr := { s0.fbr with zint := (levels.val :: before).take 2, zintAt := some t } } : Hub).setf Fld.FBR_ZINT_LEVEL new
    ((List.range 4).foldl (fun u n => if bit old n = bit new n then u else u.zintChange n (bit new n) new) s1)

/-- A poll of select `c` returns `word` (R326). Log entry 110 (DEDUCED). -/
def Hub.pollGood (c word : Nat) (s : Hub) : Hub :=
  let s1 : Hub := { s with fbr := { s.fbr with polls := Tab.put c ⟨word, false⟩ s.fbr.polls } }
  if (Tab.get? c s.fbr.polls).map (fun p => p.word) = some word then s1
  else s1.mapInput { kind := 2, sel := c, frame := beBytes 4 word, time := s.now }

/-- A poll of select `c` fails with `zst` (R326): the last good word stays, and goes to the map once with ERROR. Log entry 110 (DEDUCED). -/
def Hub.pollBad (c zst : Nat) (s : Hub) : Hub :=
  let s1 := s.raiseLimited Evt.FBR_POLL_FAIL c [c, zst]
  match Tab.get? c s.fbr.polls with
  | none => s1
  | some p =>
    if p.failed then s1
    else ({ s1 with fbr := { s1.fbr with polls := Tab.put c { p with failed := true } s1.fbr.polls } } : Hub).mapInput
      { kind := 2, sel := c, frame := beBytes 4 p.word, time := s.now, err := true }

/-- The control-core loop issues a poll of every select with POLL (R326). -/
def Hub.issuePolls (s : Hub) : Hub :=
  let due := (List.range 4).filter (fun c => s.fbr.pollDue.contains c || s.flag (Fld.FBR_ZCS_CFG_POLL c))
  if s.atL0 dFBR then { s with fbr := { s.fbr with pollDue := due } } else s

/-- FBR_POLL: the poll of select `c` that the control-core loop issued runs through the poll port; `res` is the word read, none when
ZRDY timed out (R318, R326). -/
def execFbrPoll (c : Fin 4) (res : Option Word) (s : State) : Outcome State Fault Refusal := s.on fun s0 =>
  let s : Hub := { s0 with fbr := { s0.fbr with pollDue := s0.fbr.pollDue.filter (fun k => k != c.val) } }
  if !s0.atL0 dFBR ∨ !s0.pollReady c then s0
  else if !s.flag (Fld.FBR_ZCS_CFG_EN c) then (s.pollBad c 2)
  else
    let zone := 4 * s.getf (Fld.FBR_ZCS_POLL_ADDR c)
    match res with
    | none => ((s.emit (.zoneCycle c zone none false)).pollBad c 1)
    | some w => ((s.emit (.zoneCycle c zone none false)).pollGood c w.toNat)

end Sys2Proof.Machine
end

