-- ==== Sys2Proof/Machine/NetOps.lean ====
section
/-! DEFINITION. Shared operations of network tunnels: frames, PTP messages in them, the flow table, policers, shapers and
gate lists (R247 to R267). -/

namespace Sys2Proof.Machine

/-! Frames (R248, R249). -/

/-- The offset of a frame's EtherType after any tag. Log entry 86 (PRESUMED). -/
def typeOff (f : List Byte) : Nat := if tagged f then 16 else 12

/-- The EtherType after any tag. -/
def etherType (f : List Byte) : Nat := beNat (slice f (typeOff f) 2)

/-- PCP and VID of a frame's tag. -/
def framePcp (f : List Byte) : Nat := bits (byteAt f 14) 7 5
def frameVid (f : List Byte) : Nat := beNat (slice f 14 2) % 4096

/-- The FCS of a stored frame as sent (R248). -/
def fcsOf (f : List Byte) : List Byte := leBytes 4 (crc32 f)

/-- A stored frame padded to 60 bytes (R248). -/
def padFrame (f : List Byte) : List Byte := if f.length < 60 then f ++ zeros (60 - f.length) else f

/-- A tagged frame with DEI = 1 (R255). -/
def setDei (f : List Byte) : List Byte :=
  if tagged f && !frameDei f then splice f 14 [BitVec.ofNat 8 (byteAt f 14 + 16)] else f

/-! PTP messages in frames (R264). -/

/-- Where a PTP message lies in a frame, and the offset of its UDP/IPv4 checksum. -/
structure PtpAt where
  off : Nat
  csum : Option Nat := none

/-- The PTP message of a frame in the encapsulations enabled (R264). Log entry 86 (PRESUMED). -/
def ptpFind (l2 u4 u6 : Bool) (f : List Byte) : Option PtpAt :=
  let o := typeOff f + 2
  let t := etherType f
  if t = 0x88F7 then (if l2 then some ⟨o, none⟩ else none)
  else if t = 0x0800 then
    let ihl := 4 * bits (byteAt f o) 3 0
    if u4 && byteAt f (o + 9) == 17 && beNat (slice f (o + ihl + 2) 2) == 319 then some ⟨o + ihl + 8, some (o + ihl + 6)⟩ else none
  else if t = 0x86DD then
    (if u6 && byteAt f (o + 6) == 17 && beNat (slice f (o + 42) 2) == 319 then some ⟨o + 48, none⟩ else none)
  else none

/-- The event message of a frame (R264): messageType 0x0 to 0x3. -/
def ptpEvent (l2 u4 u6 : Bool) (f : List Byte) : Option PtpAt :=
  (ptpFind l2 u4 u6 f).filter (fun a => decide (bits (byteAt f a.off) 3 0 ≤ 3) && decide (a.off + 34 ≤ f.length))

/-- The event message of a frame under the settings of port `p`. -/
def Hub.portEvent (s : Hub) (p : Nat) (f : List Byte) : Option PtpAt :=
  if s.flag (Fld.NET_PTP_CFG_TS_EN p) then
    ptpEvent (s.flag (Fld.NET_PTP_CFG_ENC_L2 p)) (s.flag (Fld.NET_PTP_CFG_ENC_UDP4 p)) (s.flag (Fld.NET_PTP_CFG_ENC_UDP6 p)) f
  else none

/-- `d` added to the correctionField of a message, modulo 2^64, and its UDP/IPv4 checksum zeroed (R267). -/
def addCorrection (a : PtpAt) (d : Int) (f : List Byte) : List Byte :=
  let c := beNat (slice f (a.off + 8) 8)
  let f1 := splice f (a.off + 8) (beBytes 8 (enc 64 ((c : Int) + d)))
  match a.csum with
  | none => f1
  | some o => splice f1 o (zeros 2)

/-- The timestamp record of an event message (R265). -/
def Hub.stampRecord (s : Hub) (p : Nat) (tx oneStep : Bool) (a : PtpAt) (ts : Nat) (f : List Byte) : List Byte :=
  beBytes 8 (ts / fracUnit) ++ beBytes 2 (ts % fracUnit) ++ beBytes 1 (b2n tx * 128 + p) ++ slice f a.off 1
    ++ slice f (a.off + 30) 2 ++ slice f (a.off + 4) 1
    ++ beBytes 1 (b2n oneStep * 4 + b2n (!s.timeLocked) * 2 + b2n s.mapValid)

/-- Port `p` is the head's PTP_PORT in a slave role, whose timestamps go to the control firmware (R265, R268). -/
def Hub.slavePort (s : Hub) (p : Nat) : Bool :=
  s.isHead && s.getf Fld.LTM_GM_CFG_PTP_PORT == p && (s.getf (Fld.NET_PTP_CFG_ROLE p) == 3 || s.getf (Fld.NET_PTP_CFG_ROLE p) == 4)

/-- A timestamp goes to the timestamp queue, or is counted as lost (R265). -/
def Hub.stamp (p : Nat) (tx oneStep : Bool) (a : PtpAt) (ts : Nat) (f : List Byte) (s : Hub) : Hub :=
  let q := s.getf Fld.NET_PTP_TSQ_QUEUE
  if s.slavePort p then s
  else if s.flag Fld.NET_PTP_TSQ_EN && s.qEnabled q && s.qControl q then
    s.produce q .stamp { data := s.stampRecord p tx oneStep a ts f }
  else s.count (Cnt.NET_CNT_TS_DROP p) 1

/-- A pad timestamp with NET_PORT_TSADJ_p, a signed number of ps, added (R264). Log entry 83 (DEDUCED). -/
def Hub.adjStamp (s : Hub) (p ts : Nat) : Nat :=
  ((ts : Int) + sgn 32 (s.getf (Fld.NET_PORT_TSADJ p)) * fracUnit / 1000).toNat

/-! Shapers (R258, R259). -/

/-- Shaper `i` in force. -/
def Hub.shaper (s : Hub) (i : Nat) : Shaper := Tab.getD s.net.shapers i {}

/-- The state with shaper `i` as `h`. -/
def Hub.setShaper (i : Nat) (h : Shaper) (s : Hub) : Hub :=
  { s with net := { s.net with shapers := Tab.put i h s.net.shapers } }

/-- Shaper `i` holds a packet (R258). -/
def Hub.shaperHolds (s : Hub) (i : Nat) : Bool := (s.shaper i).enable && decide ((s.shaper i).bucket ≤ 0)

/-- A packet of `len` stored bytes starts under shaper `i` (R258). -/
def Hub.shaperSpend (i len : Nat) (s : Hub) : Hub :=
  let h := s.shaper i
  if h.enable then s.setShaper i { h with bucket := h.bucket - ((len : Int) + sgn 8 h.overhead) } else s

/-- A configuration comes into force at a shaper: its bucket is kept, clamped to the new BURST, or full when ENABLE rises
(R258, R259). -/
def Shaper.apply (h : Shaper) (enable : Bool) (overhead rate burst : Nat) : Shaper :=
  { enable := enable, overhead := overhead, rate := rate, burst := burst,
    bucket := if enable && !h.enable then burst else min h.bucket burst }

/-- The configuration written in the registers of shaper `i` comes into force. -/
def Hub.applyShaperRegs (i : Nat) (s : Hub) : Hub :=
  s.setShaper i ((s.shaper i).apply (s.flag (Fld.NET_SHP_CTL_ENABLE i)) (s.getf (Fld.NET_SHP_CTL_OVERHEAD i))
    (s.getf (Fld.NET_SHP_RATE i)) (s.getf (Fld.NET_SHP_BURST i)))

/-- A SHAPERS element of a switch tick: the registers and the shaper take it (R142, R259). -/
def Hub.applyShpElem (e : ShpElem) (s : Hub) : Hub :=
  (s |>.setb (Fld.NET_SHP_CTL_ENABLE e.index) e.enable |>.setf (Fld.NET_SHP_CTL_OVERHEAD e.index) e.overhead
    |>.setf (Fld.NET_SHP_RATE e.index) e.rate |>.setf (Fld.NET_SHP_BURST e.index) e.burst).applyShaperRegs e.index

/-- The shapers some register or command ever configured: those listed in force or with a register away from reset. -/
def Hub.shapersInUse (s : Hub) : List Nat :=
  (s.net.shapers.map (fun (e : Nat × Shaper) => e.1) ++ s.regs.filterMap (fun (e : Nat × Nat) =>
    if 32 * 0x064000 ≤ e.1 ∧ e.1 < 32 * 0x068000 then some ((e.1 / 32 - 0x064000) / 16) else none)).eraseDups

/-- The refill of one shaper, with BUCKET shown after it (R258, R271). -/
def Hub.refillShaper (i : Nat) (s : Hub) : Hub :=
  let s1 := s.applyShaperRegs i
  let h := s1.shaper i
  let b := min (h.bucket + h.rate) h.burst
  (s1.setShaper i { h with bucket := b }).setf (Fld.NET_SHP_BUCKET i) (enc 32 b)

/-- SHAPER_REFILL: every shaper applies its staged configuration and refills (R258). -/
def Hub.refillShapers (s : Hub) : Hub := s.shapersInUse.foldl (fun t i => t.refillShaper i) s

/-! Policers (R254, R255). -/

/-- Policer `i` in force. -/
def Hub.policer (s : Hub) (i : Nat) : Policer := Tab.getD s.net.policers i {}

/-- The state with policer `i` as `P`. -/
def Hub.setPolicer (i : Nat) (P : Policer) (s : Hub) : Hub :=
  { s with net := { s.net with policers := Tab.put i P s.net.policers } }

/-- POLICER_REFILL: every policer committed since the last boundary comes into force with full buckets, and every policer
refills both (R254, R271). Log entry 87 (DEDUCED). -/
def Hub.refillPolicers (s : Hub) : Hub :=
  let now := s.net.polNext.foldl (fun t (e : Nat × Policer) => Tab.put e.1 e.2 t) s.net.policers
  let s1 : Hub := { s with net := { s.net with
    polNext := [],
    policers := now.mapVal (fun _ P => { P with tc := min (P.tc + P.cir) P.cbs, tp := min (P.tp + P.pir) P.pbs }) } }
  s1.net.policers.foldl (fun t e => (t.setf (Fld.NET_POL_TC e.1) e.2.tc).setf (Fld.NET_POL_TP e.1) e.2.tp) s1

/-- COLOUR codes of a cell (R74). -/
def colGreen : Nat := 1
def colYellow : Nat := 2
def colRed : Nat := 3

/-- The judgment of R254: a frame of `b` wire bytes, its colour and the policer after it. -/
def Policer.judge (P : Policer) (f : List Byte) (b : Nat) : Nat × Policer :=
  let pcp := framePcp f
  let aware := bit P.ctl 30 && tagged f
  let preRed := aware && bit P.ctl (8 + pcp)
  let preYellow := aware && !preRed && (frameDei f || bit P.ctl pcp)
  if preRed || decide (P.tp < b) then (colRed, P)
  else if preYellow || decide (P.tc < b) then (colYellow, { P with tp := P.tp - b })
  else (colGreen, { P with tc := P.tc - b, tp := P.tp - b })

/-- The counter of a colour at policer `i` (R270). -/
def polCounter (i colour : Nat) : Nat :=
  if colour = colGreen then Cnt.NET_POL_CNT_GREEN i else if colour = colYellow then Cnt.NET_POL_CNT_YELLOW i
  else Cnt.NET_POL_CNT_RED i

/-- A frame judged by policer `i` (R255): its colour (0 unjudged), whether it is dropped, and the frame with DEI set. -/
def Hub.police (i : Nat) (f : List Byte) (s : Hub) : Nat × Bool × List Byte × Hub :=
  let P := s.policer i
  if !bit P.ctl 31 then (0, false, f, s)
  else
    let (c, P1) := P.judge f (f.length + 4)
    let s1 := (s.setPolicer i P1).count (polCounter i c) 1
    (c, c == colRed && bit P.ctl 29, if c ≠ colGreen ∧ bit P.ctl 28 then setDei f else f, s1)

/-! The flow table (R251, R252). -/

/-- Words of flow entry `f`. -/
def Hub.flow (s : Hub) (f : Nat) : List Nat := Tab.getD s.net.flows f (List.replicate 8 0)

/-- A frame received at port `p` matches an entry (R252). -/
def flowMatch (w : List Nat) (p defPcp : Nat) (f : List Byte) : Bool :=
  let w0 := w.getD 0 0
  let w3 := w.getD 3 0
  let mode := bits w0 19 18
  let pcp := if tagged f then framePcp f else defPcp
  bit w0 31 && bit w0 (20 + p)
    && (mode == 0 || (mode == 1 && !tagged f) || (mode == 2 && tagged f && frameVid f == bits w3 27 16) || (mode == 3 && tagged f))
    && (!bit w0 17 || beNat (slice f 0 6) == bits (w.getD 1 0) 15 0 * 2 ^ 32 + w.getD 2 0)
    && (!bit w0 16 || etherType f == bits w3 15 0)
    && bit w0 (8 + pcp)

/-- The lowest-numbered entry a frame matches; an entry with an uncorrectable error matches none (R253, R420). -/
def Hub.classify (s : Hub) (p : Nat) (f : List Byte) : Option (List Nat) :=
  (s.net.flows.find? (fun e => flowMatch e.2 p (s.getf (Fld.NET_PORT_CFG_DEF_PCP p)) f && !s.entryBad 7 4 e.1)).map (fun e => e.2)

/-- A valid NET tunnel of the active plan (R252). -/
def Hub.netTun (s : Hub) (t : Nat) : Option Tun :=
  if s.loadedPlan then (Tab.get? t s.plan.tunnels).filter (fun u => u.kind == 1) else none

/-! Ports and gate lists (R260 to R263). -/

/-- Port `p`. -/
def Hub.eport (s : Hub) (p : Nat) : NetPort := Tab.getD s.net.ports p {}

/-- The state with port `p` as `P`. -/
def Hub.setEport (p : Nat) (P : NetPort) (s : Hub) : Hub :=
  { s with net := { s.net with ports := Tab.put p P s.net.ports } }

/-- Auto-negotiation runs at port `p`: AN = 1 in MODE 5 or 6 (R247, R271). Log entry 179 (DEDUCED). -/
def Hub.ethAn (s : Hub) (p : Nat) : Bool :=
  s.flag (Fld.NET_PORT_CFG_AN p) && (s.getf (Fld.NET_PORT_CFG_MODE p) == 5 || s.getf (Fld.NET_PORT_CFG_MODE p) == 6)

/-- The SPEED codes the mode of port `p` runs at (R247, R271): in MODE 5 that of USX_RATE, or under auto-negotiation any of its four. Log entry 179 (DEDUCED). -/
def Hub.ethSpeeds (s : Hub) (p : Nat) : List Nat :=
  match s.getf (Fld.NET_PORT_CFG_MODE p) with
  | 1 | 2 | 3 => [5]
  | 4 => [4]
  | 5 => if s.ethAn p then [1, 2, 3, 4] else [4 - s.getf (Fld.NET_PORT_CFG_USX_RATE p)]
  | 6 => [1]
  | _ => []

/-- The link of port `p` goes down for a cause of R272. -/
def Hub.ethDown (p cause : Nat) (s : Hub) : Hub :=
  (s |>.setf (Fld.NET_PORT_STATUS_LINK p) 0 |>.setf (Fld.NET_PORT_STATUS_SPEED p) 0
    |>.setf (Fld.NET_PORT_STATUS_AN_DONE p) 0 |>.setb (Fld.NET_PORT_STATUS_LOCAL_FAULT p) (cause == 0)
    |>.setb (Fld.NET_PORT_STATUS_REMOTE_FAULT p) (cause == 1)).raise Evt.NET_LINK_DOWN [p, cause]

/-- Cause 3 of NET_LINK_DOWN: the port was disabled (R272). -/
def ldDisabled : Nat := 3

/-- The link of port `p` goes down where it is up and its port is disabled or its block stops. -/
def Hub.ethOff (p : Nat) (s : Hub) : Hub := if s.flag (Fld.NET_PORT_STATUS_LINK p) then s.ethDown p ldDisabled else s

/-- The rate of port `p` in Mb/s from its SPEED (R271). -/
def Hub.eRate (s : Hub) (p : Nat) : Nat :=
  match s.getf (Fld.NET_PORT_STATUS_SPEED p) with
  | 1 => 1000
  | 2 => 2500
  | 3 => 5000
  | 4 => 10000
  | 5 => 25000
  | _ => 0

/-- The wire time in ns of a stored frame: its padded length plus 24 bytes (R260), rounded up to the ns. -/
def Hub.wireNs (s : Hub) (p len : Nat) : Nat := if s.eRate p = 0 then 0 else cdiv ((max 60 len + 24) * 8 * 1000) (s.eRate p)

/-- The time in ns from a stored frame's start to its last FCS bit, its wire time without the 12 bytes of gap (R260), rounded up to the ns. -/
def Hub.endNs (s : Hub) (p len : Nat) : Nat := if s.eRate p = 0 then 0 else cdiv ((max 60 len + 12) * 8 * 1000) (s.eRate p)

/-- Gate control is in force at port `p` (R262). -/
def Hub.gated (s : Hub) (p : Nat) : Bool := s.flag (Fld.NET_GL_STATUS_ACTIVE p) && !(s.eport p).oper.isEmpty

/-- Nanoseconds, from the start of entry `i`, for which class `c` stays open over consecutive entries; all entries open is
none: the window never closes. -/
def openRun (es : List GateEntry) (c : Nat) : (n i : Nat) → Nat
  | 0, _ => 0
  | n + 1, i =>
    match es[i % es.length]? with
    | none => 0
    | some e => if bit e.gates c then e.interval + openRun es c n (i + 1) else 0

/-- The time left of class `c`'s open window at port `p` now (R262); none where it does not end. -/
def Hub.windowLeft (s : Hub) (p c : Nat) : Option Nat :=
  let P := s.eport p
  if !s.gated p || P.oper.all (fun e => bit e.gates c) then none
  else some (openRun P.oper c P.oper.length P.pos - (s.now - P.posAt))

/-- The longest open window of class `c` (R262); none where it does not end. -/
def Hub.windowMax (s : Hub) (p c : Nat) : Option Nat :=
  let P := s.eport p
  if !s.gated p || P.oper.all (fun e => bit e.gates c) then none
  else some ((List.range P.oper.length).foldl (fun m i => max m (openRun P.oper c P.oper.length i)) 0)

/-- The entry in force, and how far into it, `e` ns after the start of entry `i` of a list; `n` bounds the entries passed (R262). -/
def gateWalk (es : List GateEntry) : (n i e : Nat) → Nat × Nat
  | 0, i, e => (i, e)
  | n + 1, i, e =>
    match es[i]? with
    | none => (i, e)
    | some g => if g.interval ≤ e then gateWalk es n (if i + 1 < es.length then i + 1 else 0) (e - g.interval) else (i, e)

/-- Port `p` shows the entry of its operating list that is in force now (R262). -/
def Hub.gatesNow (p : Nat) (s : Hub) : Hub :=
  let P := s.eport p
  let cycle := (P.oper.map (fun g => g.interval)).foldr (· + ·) 0
  if cycle = 0 then s
  else
    let w := gateWalk P.oper P.oper.length P.pos ((s.now - P.posAt) % cycle)
    (s.setEport p { P with pos := w.1, posAt := s.now - w.2 }).setf (Fld.NET_GL_STATUS_CURRENT p) w.1

/-- A gate list takes over at port `p` with its SOURCE, entry 0 first (R263). -/
def Hub.takeGates (p : Nat) (es : List GateEntry) (source : Nat) (s : Hub) : Hub :=
  ((s.setEport p { s.eport p with oper := es, pos := 0, posAt := s.tick * tickNs })
    |>.setf (Fld.NET_GL_STATUS_SOURCE p) source |>.setf (Fld.NET_GL_STATUS_CURRENT p) 0).raise
      Evt.NET_GL_TAKEOVER [p, s.tick, source]

/-- The pending slot of port `p` empties (R263). -/
def Hub.clearGatePend (p : Nat) (s : Hub) : Hub :=
  s.setEport p { s.eport p with pend := none } |>.setf (Fld.NET_GL_STATUS_PENDING p) 0
    |>.setf (Fld.NET_GL_PEND_TICK_LO p) 0 |>.setf (Fld.NET_GL_PEND_TICK_HI p) 0

/-- A GATELISTS record's list takes over at the switch tick: ENABLE := 1, and a register list due by then is discarded
(R263). -/
def Hub.planGates (p : Nat) (es : List GateEntry) (s : Hub) : Hub :=
  let s1 := match (s.eport p).pend with
    | some (_, t) => if t ≤ s.tick then s.clearGatePend p else s
    | none => s
  (s1.setf (Fld.NET_GL_CTL_ENABLE p) 1 |>.setf (Fld.NET_GL_STATUS_ACTIVE p) 1).takeGates p es 2

/-- A pending list of port `p` takes over by tick `t`. -/
def Hub.gatesDue (s : Hub) (p t : Nat) : Bool :=
  match (s.eport p).pend with
  | none => false
  | some e => decide (e.2 ≤ t)

/-- The pending list of port `p` takes over at the tick boundary line time stands on, if it is due (R263). -/
def Hub.gatesAt (p : Nat) (s : Hub) : Hub :=
  match (s.eport p).pend with
  | none => s
  | some e => if e.2 ≤ s.tick then (s.clearGatePend p).takeGates p e.1 1 else s

/-- Every port's take-over that is due at this tick boundary. -/
def Hub.allGatesAt (s : Hub) : Hub := [0, 1, 2, 3].foldl (fun t p => t.gatesAt p) s

/-! The drop end (R257, R267). -/

/-- Queue `q` is a port queue: a class queue or a release queue drains it at a port's egress (R260, R261, R267). -/
def Hub.portQueue (s : Hub) (q : Nat) : Bool :=
  match (s.queue q).cons with
  | some (.egq _) | some (.relq _ _) => true
  | _ => false

/-- Whether tunnel BINDING.TCLK is 1 (R257). -/
def tunTclk (u : Tun) : Bool := bit u.bind 15

/-- A packet's bytes put back into its cells in line memory. -/
def Hub.rewritePkt : (p : List QCell) → (bs : List Byte) → (s : Hub) → Hub
  | [], _, s => s
  | c :: t, bs, s => Hub.rewritePkt t (bs.drop (c.lenm1 + 1)) (s.memStore (256 * c.idx) (bs.take (c.lenm1 + 1)))

/-- The frame completed last in queue `q` gets the line time of its L cell's drop in its correctionField, where the tunnel is a
transparent clock and the queue is no port queue (R267). No port gives the encapsulations there: any of R264 counts. Log entry 177 (DESIGN CHOICE). -/
def Hub.tclkDrop (q : Nat) (u : Tun) (s : Hub) : Hub :=
  if u.kind = 1 ∧ tunTclk u ∧ !s.portQueue q then
    match (s.queue q).pkts.getLast? with
    | none => s
    | some p =>
      let f := s.pktBytes p
      match ptpEvent true true true f with
      | none => s
      | some a => s.rewritePkt p (addCorrection a ((s.now : Int) * fracUnit) f)
  else s

end Sys2Proof.Machine
end

