-- ==== Sys2Proof/Machine/Slots.lean ====
section
/-! DEFINITION. Cells in slots: receiving into the hop buffer and switching by the runs in force (R74 to R97, R107, R162, R163,
R171, R257 to R259). -/

namespace Sys2Proof.Machine

open Host (Outcome)

/-! The hop buffer (R96). -/

/-- The absolute number of switch slot `j` of tick `t`. -/
def absSlot (t j : Nat) : Nat := 1024 * t + j

/-- The switch slot, and its tick, of a cell received in slot `i` of tick `t` (R92). -/
def switchOf (nrz : Bool) (t i : Nat) : Nat :=
  let n := slotsOf nrz
  let j := i + skewOf nrz
  if j < n then absSlot t j else absSlot (t + 1) (j - n)

/-- Cells in the hop buffer of inbound pair `n` = 8·p + k. -/
def Hub.hopCells (s : Hub) (n : Nat) : List HopCell := Tab.getD s.ring.hop n []

/-- The last 8 of a list: the depth of a hop buffer (R96). Log entry 28 (DESIGN CHOICE). -/
def last8 {α : Type} (xs : List α) : List α := xs.drop (xs.length - 8)

/-- The hop buffer of pair `n` holds these cells. Log entry 28 (DESIGN CHOICE). -/
def Hub.setHop (n : Nat) (cs : List HopCell) (s : Hub) : Hub :=
  { s with ring := { s.ring with hop := Tab.put n cs s.ring.hop } }

/-- Switch slots of pair `n` that passed without their cell. -/
def Hub.lateSlots (s : Hub) (n : Nat) : List Nat := Tab.getD s.ring.late n []

/-- The list of passed switch slots of pair `n` is `xs`. Log entry 28 (DESIGN CHOICE). -/
def Hub.setLate (n : Nat) (xs : List Nat) (s : Hub) : Hub :=
  { s with ring := { s.ring with late := Tab.put n xs s.ring.late } }

/-- Inbound pair `k` of port `p` carries cells: its direction, its lock and its tick framing (R52, R87). -/
def Hub.carriesIn (s : Hub) (p k : Nat) : Bool :=
  s.dir p k == dirIn && s.flag (Fld.TRK_PAIR_STATUS_LOCKED (8 * p + k)) && !s.ring.unframed.contains (8 * p + k)

/-- Outbound pair `k` of port `p` is awake (R54). -/
def Hub.carriesOut (s : Hub) (p k : Nat) : Bool :=
  s.dir p k == dirOut && !s.flag (Fld.TRK_PAIR_STATUS_TX_SLEEP (8 * p + k))

/-- The NRZ rate of pair `k` of port `p`. -/
def Hub.nrz (s : Hub) (p k : Nat) : Bool := s.flag (Fld.TRK_PAIR_STATUS_NRZ (8 * p + k))

/-- What a pair that a loopback holds receives in a slot (R61): MODE 3 sends it on again on DST, and with the cell stream a locked
checker counts the uncorrectable cells of its pair. -/
def Hub.loopSlot (p k slot : Nat) (bytes : List Byte) (s : Hub) : Hub :=
  let mode := s.getf (Fld.TRK_LOOP_CTL_MODE p)
  let src := s.getf (Fld.TRK_LOOP_CTL_SRC p)
  let dst := s.getf (Fld.TRK_LOOP_CTL_DST p)
  if mode = 3 then (if k = src then s.emit (.loopBack p dst slot bytes) else s)
  else if k = (if mode = 4 then dst else src) ∧ s.getf (Fld.TRK_LOOP_CTL_PATTERN p) = 3 ∧ s.flag (Fld.TRK_LOOP_STAT_LOCKED p) ∧
      (cellDecode bytes).2.2.1 then s.count (Cnt.TRK_LOOP_ERRS p) 1
  else s

/-- SLOT_RECEIVE: the 288 bytes received in slot `slot` of pair `k` at port `p` are decoded (R80), counted (R81) and held for
their switch slot; one whose switch slot has passed is discarded as late (R95). A pair without lock or framing discards its
cells (R87). Log entries 49 (DESIGN CHOICE), 164 (DESIGN CHOICE). -/
def execSlotReceive (p : Fin 2) (k : Fin 8) (slot : Nat) (bytes : List Byte) (s : State) : Outcome State Fault Refusal := s.on fun s =>
  if decide (slotsOf (s.nrz p k) ≤ slot) || bytes.length != 288 then s
  else if s.flag (Fld.TRK_PAIR_STATUS_LOOP (8 * p + k)) then s.loopSlot p k slot bytes
  else if !s.carriesIn p k then s
  else
    let n := 8 * p.val + k.val
    let (hdr, pay, bad, fixed) := cellDecode bytes
    let s1 := if bad then s.count (Cnt.TRK_CNT_UNCORR n) 1
      else if 0 < fixed then (s.count (Cnt.TRK_CNT_CORR n) 1).count (Cnt.TRK_CNT_CBYTES n) fixed else s
    let at' := switchOf (s.nrz p k) s.tick slot
    if (s.lateSlots n).contains at' then
      ((s1.setLate n ((s1.lateSlots n).filter (fun x => x != at'))).count (Cnt.TRK_CNT_LATE n) 1)
    else ((s1.entryEnd 12 33 (8 * n + at' % 8)).setHop n (last8 (s1.hopCells n ++ [⟨at', hdr, pay, bad⟩])))

/-! Sending. -/

/-- A cell leaves in slot `j` of outbound pair `k` of port `o` (R75, R92). -/
def Hub.emitCell (o k j hdr : Nat) (pay : List Byte) (s : Hub) : Hub :=
  if s.carriesOut o k && decide (j < slotsOf (s.nrz o k)) then s.emit (.cell o k j (wireCell hdr pay)) else s

/-- A null cell leaves in slot `j` (R75). -/
def Hub.emitNull (o k j : Nat) (s : Hub) : Hub := s.emitCell o k j (nullHdr s.addr) (zeros 256)

/-- A cell of inbound pair `n` is passed in slot `j` (R78, R82): HOPS reduced by one, an uncorrectable cell poisoned; with
HOPS 0 a null cell goes in its place, except in an alarm slot, where HOPS holds at 0. Log entry 171 (DESIGN CHOICE). -/
def Hub.passCell (n o k j : Nat) (c : HopCell) (alarm : Bool) (s : Hub) : Hub :=
  if hTunnel c.hdr = 0 then s.emitNull o k j
  else
    let h := hHops c.hdr
    if h = 0 ∧ !alarm then (s.count (Cnt.TRK_CNT_EXPIRED n) 1).emitNull o k j
    else
      let hdr := setHops c.hdr (h - 1)
      s.emitCell o k j (if c.bad then markPoison hdr else hdr) c.pay

/-! Drops (R83, R94, R163, R171). -/

/-- The entry of tunnel `t` becomes `u`. -/
def Hub.setTun (t : Nat) (u : Tun) (s : Hub) : Hub := { s with plan := { s.plan with tunnels := Tab.put t u s.plan.tunnels } }

/-- What R171 makes of a cell's SEQ. -/
inductive SeqStep where
  | produce
  | resync
  | gap (lost : Nat)
  | old
  deriving DecidableEq, Repr

/-- The row of R171 that a cell of SEQ `seq` falls under. -/
def seqStep (u : Tun) (seq : Nat) (f : Bool) : SeqStep :=
  if !u.expValid then (if f then .produce else .resync)
  else if seq = u.expSeq then .produce
  else if seqGap seq u.expSeq then .gap ((seq + 65536 - u.expSeq) % 65536)
  else .old

/-- A dropped cell as its producer hands it over. -/
def dropPCell (c : HopCell) : PCell :=
  { data := c.pay.take (hLenm1 c.hdr + 1), f := hF c.hdr, l := hL c.hdr, gap := hGap c.hdr, colour := hColour c.hdr }

/-- The drop time of a SIG packet just completed in queue `q`, kept for the AGE of its slots (R334). -/
def Hub.stampSig (q : Nat) (u : Tun) (s : Hub) : Hub :=
  if u.kind = 4 ∧ bit u.bind 31 then
    match (s.queue q).pkts.getLast? with
    | some (c :: _) => { s with fbr := { s.fbr with sigAt := Tab.put c.idx s.now s.fbr.sigAt } }
    | _ => s
  else s

/-- A cell is produced into the tunnel's OUT_QUEUE; a packet it completes may get its transparent-clock correction (R267). -/
def Hub.dropProduce (t q : Nat) (u : Tun) (c : HopCell) (s : Hub) : Hub :=
  let s1 := s.produce q (.trunk t) (dropPCell c)
  if (s.queue q).pkts.length < (s1.queue q).pkts.length then (s1.tclkDrop q u).stampSig q u else s1

/-- A cell without its packet's start is discarded, and cells up to the next F with it (R171). -/
def Hub.dropResync (q : Nat) (s : Hub) : Hub :=
  (s.setQueue q { s.queue q with skip := .untilF }).count Cnt.CPL_CNT_RESYNC 1

/-- Cells were lost before this one (R171): an open packet and any discard in progress end, and the loss is recorded. -/
def Hub.dropGap (q lost : Nat) (s : Hub) : Hub :=
  let Q := s.queue q
  let s1 := (s.setQueue q { Q with part := [], isOpen := false, skip := .none }).claimCheck
  if s.qControl q then s1.setOverrun q else s1.gapLoss q (b2n Q.isOpen) lost 4

/-- The drop of a cell of tunnel `t` under R171, R162 and R163. -/
def Hub.dropSeq (t : Nat) (u : Tun) (c : HopCell) (s : Hub) : Hub :=
  let seq := hSeq c.hdr
  let st := seqStep u seq (hF c.hdr)
  let s1 := if st = .old then s.count Cnt.CPL_CNT_SEQ_OLD 1
    else s.setTun t { u with expSeq := (seq + 1) % 65536, expValid := true }
  let s2 := match st with
    | .gap n => s1.count Cnt.CPL_CNT_SEQ_LOST n
    | .produce | .resync | .old => s1
  if st = .old then s2
  else
    match u.outq with
    | none => s2.count Cnt.CPL_CNT_DISABLED 1
    | some q =>
      if !s2.qEnabled q then s2.count Cnt.CPL_CNT_DISABLED 1
      else if (s2.queue q).prod ≠ some (.trunk t) then s2.count Cnt.CPL_CNT_BINDING 1
      else
        match st with
        | .produce => s2.dropProduce t q u c
        | .resync => s2.dropResync q
        | .gap n => if hF c.hdr then (s2.dropGap q n).dropProduce t q u c else (s2.dropGap q n).dropResync q
        | .old => s2

/-- A cell reaches a drop of tunnel `t` from inbound pair `n` (R83, R94). A null cell carries nothing to deliver. -/
def Hub.dropCell (n t : Nat) (c : HopCell) (s : Hub) : Hub :=
  if c.bad || hPoison c.hdr then s.count (Cnt.TRK_CNT_POISON n) 1
  else if hTunnel c.hdr = 0 then s
  else
    match Tab.get? t s.plan.tunnels with
    | none => s.count (Cnt.TRK_CNT_MISROUTE n) 1
    | some u =>
      if hTunnel c.hdr ≠ t ∨ hKind c.hdr ≠ u.kind ∨ 255 < hLenm1 c.hdr then s.count (Cnt.TRK_CNT_MISROUTE n) 1
      else s.dropSeq t u c

/-! Adds (R76 to R78, R84, R172, R259). -/

/-- The first cell of queue `q`'s oldest packet leaves the queue. -/
def Hub.popCell (q : Nat) (s : Hub) : Hub :=
  let Q := s.queue q
  match Q.pkts with
  | [] => s
  | p :: ps => if p.length ≤ 1 then s.popPkt q else (s.setQueue q { Q with pkts := p.tail :: ps }).claimCheck

/-- The next cell tunnel `t` adds, as header and payload, with the state after it (R78, R84, R172); none sends a null cell. The
tunnel must hold its IN_QUEUE's consumer binding (R162), and a shaper may hold the packet (R259). A frame that gains its tag here
moves on by 4 bytes, and may take a cell more (R256, R257). -/
def Hub.addCell (t : Nat) (s : Hub) : Option (Nat × List Byte) × Hub :=
  match Tab.get? t s.plan.tunnels with
  | none => (none, s)
  | some u =>
    match u.inq, u.owed with
    | none, _ => (none, s)
    | some _, some (colour, poison) =>
      let hdr := mkHdr t u.nextSeq s.addr (u.carry.length - 1) false true false poison (if u.kind = 1 then colour else 0) u.kind u.hops
      (some (hdr, u.carry), s.setTun t { u with nextSeq := (u.nextSeq + 1) % 65536, carry := [], owed := none })
    | some q, none =>
      if (s.queue q).cons ≠ some (.trunk t) then (none, s)
      else
        match s.headPkt q with
        | none => (none, s)
        | some [] => (none, s)
        | some (c :: rest) =>
          let held := match u.shaper with
            | none => false
            | some i => c.f && !c.gap && s.shaperHolds i
          if held then (none, s)
          else
            let s1 := s.pktTouch [c]
            if s.linkBad [c] then (none, s1.flushLink q)
            else
              let s2 := match u.shaper with
                | none => s1
                | some i => if c.f && !c.gap then s1.shaperSpend i ((c :: rest).foldr (fun (x : QCell) n => x.lenm1 + 1 + n) 0) else s1
              let bad := c.poison || s.memBad (256 * c.idx) (c.lenm1 + 1)
              let bs := s.memRead (256 * c.idx) (c.lenm1 + 1)
              let out := if c.gap then bs else if c.f then s.leaveTag q bs else u.carry ++ bs
              let pay := out.take 256
              let more := out.drop 256
              let last := c.l && more.isEmpty
              let hdr := mkHdr t u.nextSeq s.addr (pay.length - 1) c.f last c.gap bad (if u.kind = 1 then c.colour else 0) u.kind u.hops
              let due := if c.l && !more.isEmpty then some (c.colour, bad) else none
              (some (hdr, pay), (s2.setTun t { u with nextSeq := (u.nextSeq + 1) % 65536, carry := more, owed := due }).popCell q)

/-- An add in slot `j` of outbound pair `k` of port `o`. -/
def Hub.addOut (t o k j : Nat) (s : Hub) : Hub :=
  match s.addCell t with
  | (some (hdr, pay), s1) => s1.emitCell o k j hdr pay
  | (none, s1) => s1.emitNull o k j

/-- A received cell without an active run, or displaced by an add, is discarded and counted unless null (R92, R94). -/
def Hub.unplanned (n : Nat) (c : Option HopCell) (s : Hub) : Hub :=
  match c with
  | none => s
  | some c => if hTunnel c.hdr = 0 then s else s.count (Cnt.TRK_CNT_UNPLANNED n) 1

/-! Alarm slots (R107, R108). -/

/-- This hub has an address of the segment. -/
def Hub.hasAddr (s : Hub) : Bool := s.isHead || s.addr != 0x1FE

/-- Slot `j` of travel key (k, o) is a slot in which this hub sends its own alarms out of port `o` (R107). -/
def Hub.alarmOutSlot (s : Hub) (o k j : Nat) : Bool :=
  s.hasAddr && k == outFixed o &&
    (if s.isHead then (if o = 1 then j == 0 else j == 4 * (256 - s.lastNode) % 1000)
     else (alarmSlots false s.addr s.lastNode k o).contains j)

/-- Slot `j` of travel key (k, o) is one in which this hub reads alarms from the other port (R107). -/
def Hub.alarmInSlot (s : Hub) (o k j : Nat) : Bool :=
  s.hasAddr && k == outFixed o &&
    (if s.isHead then (if o = 1 then j == 4 * (s.lastNode + 1) % 1000 else j == 28)
     else (alarmSlots false s.addr s.lastNode k o).contains j)

/-- A cell is a ring alarm whose header can be acted on (R108). -/
def isAlarm (c : HopCell) : Bool := hTunnel c.hdr == tnAlarm && !c.bad && !hPoison c.hdr

/-- An alarm that R100 accepts is passing (R108). -/
def Hub.alarmPassing (s : Hub) (c : Option HopCell) : Bool :=
  match c with
  | none => false
  | some c => isAlarm c && s.checkCell c.hdr c.pay == .accepted

/-- An alarm cell is kept for RING_ALARM_RECEIVE. -/
def Hub.noteAlarm (p : Nat) (c : Option HopCell) (s : Hub) : Hub :=
  match c with
  | none => s
  | some c => if isAlarm c then { s with ring := { s.ring with alarmIn := Tab.put p c s.ring.alarmIn } } else s

/-- The alarm slot of travel key (k, o): a node passes what passes, or sends the alarm it has staged when no accepted alarm is
passing; the head takes at its inbound slot and sends staged relays at its outbound slot, and passes none (R108). -/
def Hub.alarmSlot (o k j : Nat) (c : Option HopCell) (s : Hub) : Hub :=
  let p := otherPort o
  let n := 8 * p + k
  let s1 := if s.alarmInSlot o k j then s.noteAlarm p c else s.unplanned n c
  let staged := if s.alarmOutSlot o k j then Tab.get? o s.ring.alarmOut else none
  let passes := !s.isHead && s.alarmPassing c
  match staged with
  | some a =>
    if passes then
      match c with
      | some c => s1.passCell n o k j c true
      | none => s1
    else ({ s1 with ring := { s1.ring with alarmOut := Tab.del o s1.ring.alarmOut } } : Hub).emitCell o k j a.hdr a.pay
  | none =>
    if s.isHead then s1.emitNull o k j
    else
      match c with
      | some c => s1.passCell n o k j c true
      | none => s1.emitNull o k j

/-! Switching (R92 to R96, R146). -/

/-- The transparent plan at a switch slot (R146). -/
def Hub.slotTransparent (o k j : Nat) (c : Option HopCell) (s : Hub) : Hub :=
  let p := otherPort o
  let n := 8 * p + k
  if canPass s.pairsNow k && s.dir p k == dirIn then
    match c with
    | some c => s.passCell n o k j c false
    | none => s.emitNull o k j
  else (s.unplanned n c).emitNull o k j

/-- The run in force at a switch slot, or none (R92, R94). Log entry 27 (DEDUCED). -/
def Hub.slotPlanned (o k j : Nat) (c : Option HopCell) (s : Hub) : Hub :=
  let n := 8 * otherPort o + k
  match s.runAt k o j s.tick with
  | none => (s.unplanned n c).emitNull o k j
  | some r =>
    let drop (t : Hub) : Hub := match c with
      | some c => t.dropCell n (rTunnel r) c
      | none => t
    if rAction r = acPass then
      match c with
      | some c => s.passCell n o k j c false
      | none => s.emitNull o k j
    else if rAction r = acDrop then (drop s).emitNull o k j
    else if rAction r = acAdd then (s.unplanned n c).addOut (rTunnel r) o k j
    else (drop s).addOut (rTunnel r) o k j

/-- The cell waiting for the absolute switch slot `a` of inbound pair `n`, taken out; a slot that passes without its cell is
remembered, so that the cell is discarded when it comes (R95). Slot `a` uses hop-buffer entry `a` mod 8; an uncorrectable one
makes the cell bad (R420). Log entry 27 (DEDUCED). -/
def Hub.takeHop (p k a : Nat) (s : Hub) : Option HopCell × Hub :=
  let n := 8 * p + k
  match (s.hopCells n).find? (fun c => c.j == a) with
  | some c =>
    let e := 8 * n + a % 8
    let lost := s.entryBad 12 33 e
    (some { c with bad := c.bad || lost }, (s.entryTouch 12 33 e).setHop n ((s.hopCells n).filter (fun x => x.j != a)))
  | none => (none, if s.carriesIn p k then s.setLate n (last8 (s.lateSlots n ++ [a])) else s)

/-- The switch slots of a pair for cells that come in at port `p`, or leave by it: its slots where it has that direction (R85, R92). -/
def Hub.slotsAt (s : Hub) (p k d : Nat) : Nat := if s.dir p k = d then slotsOf (s.nrz p k) else 0

/-- SWITCH_SLOT: switch slot `j` of the current tick on travel key (k, o): cells that came in on pair `k` of the other port,
and what leaves on pair `k` of port `o` (R92). Each side has the slots of its own rate. Log entries 8 (DESIGN CHOICE), 164 (DESIGN CHOICE). -/
def execSwitchSlot (o : Fin 2) (k : Fin 8) (j : Nat) (s : State) : Outcome State Fault Refusal := s.on fun s =>
  let p := otherPort o
  let outs := s.slotsAt o k dirOut
  let ins := s.slotsAt p k dirIn
  if max outs ins ≤ j then s
  else
    let nrz := if j < outs then s.nrz o k else s.nrz p k
    let s0 := s.advance (s.tick * tickNs + (if nrz then 90 else 60) * j)
    let (c, s1) := if j < ins then s0.takeHop p k (absSlot s0.tick j) else (none, s0)
    if s1.alarmInSlot o k j || s1.alarmOutSlot o k j then (s1.alarmSlot o k j c)
    else if s1.loadedPlan then (s1.slotPlanned o k j c)
    else (s1.slotTransparent o k j c)

end Sys2Proof.Machine
end

