-- ==== Sys2Proof/Machine/PlanFlow.lean ====
section
/-! DEFINITION. The states of the pending section: reports, failures, arming and disarming (R137 to R141, R145, R149). -/

namespace Sys2Proof.Machine

/-- TYPE codes of the plan messages (R240). -/
def mtPlanLoad : Nat := 0x10
def mtPlanQuery : Nat := 0x11
def mtPlanStatus : Nat := 0x12
def mtHopDigest : Nat := 0x13
def mtPlanArm : Nat := 0x14
def mtPlanArmAck : Nat := 0x15
def mtPlanDisarm : Nat := 0x16

/-- PEND_STATE becomes `st`. -/
def Hub.setPend (st : Nat) (s : Hub) : Hub := s.setf Fld.PLN_STATUS_PEND_STATE st

/-- PLN_FAIL (R153). -/
def Hub.setPlanFail (f : LoadFail) (s : Hub) : Hub :=
  s |>.setf Fld.PLN_FAIL_REASON f.code |>.setf Fld.PLN_FAIL_RECORD f.record |>.setf Fld.PLN_FAIL_INDEX f.index

/-- The offset the next fragment must have (R139). -/
def Hub.nextOffset (s : Hub) : Nat := if s.pend = psLoading then s.plan.image.length else 0

/-- The body of PLAN_STATUS with REASON `reason` (R138). -/
def Hub.planStatusBody (s : Hub) (reason : Nat) : List Byte :=
  let failed := s.pend == psFailed
  beBytes 4 (s.getf Fld.PLN_PEND_EPOCH) ++ beBytes 1 s.pend ++ beBytes 1 reason
    ++ beBytes 2 (if failed then s.getf Fld.PLN_FAIL_RECORD else 0) ++ beBytes 2 (if failed then s.getf Fld.PLN_FAIL_INDEX else 0)
    ++ beBytes 4 s.nextOffset ++ beBytes 4 (s.getf Fld.PLN_SECTION_CRC)

/-- REASON as PLAN_STATUS reports it: the failure's code while FAILED (R138). -/
def Hub.planReason (s : Hub) : Nat := if s.pend = psFailed then s.getf Fld.PLN_FAIL_REASON else 0

/-- A node sends PLAN_STATUS to the head with MSG_ID `msgId` (R138, R139). -/
def Hub.sendPlanStatus (msgId reason : Nat) (s : Hub) : Hub :=
  if s.isHead then s else s.send 0 mtPlanStatus msgId (s.planStatusBody reason)

/-- The local PLAN_LOAD commands at the head that wait for READY or FAILED. -/
def Hub.localLoads (s : Hub) : List Nat :=
  (s.hif.reqs.filter (fun e => e.2.d.op == 0x48 && e.2.hub == s.addr)).map (fun e => e.1)

/-- READY or FAILED is reported: PLAN_STATUS from a node (R139), the PLAN_LOAD command's completion at the head (R227). -/
def Hub.reportPlan (s : Hub) : Hub :=
  if s.isHead then s.localLoads.foldl (fun t id => t.answer id t.addr (planSt (s.pend == psReady)) (s.pend + 256 * s.planReason)) s
  else s.sendPlanStatus 0 s.planReason

/-- The pending section enters FAILED for `f`; PLN_LOAD_FAIL (R140, R155). -/
def Hub.planFail (f : LoadFail) (s : Hub) : Hub :=
  let s1 : Hub := { s with plan := { s.plan with invalid := f.code } }
  ((((s1.setPend psFailed).setPlanFail f).raise Evt.PLN_LOAD_FAIL [s.getf Fld.PLN_PEND_EPOCH, f.code, f.record, f.index])).reportPlan

/-- The pending section enters READY; PLN_READY (R140, R149). -/
def Hub.planReady (s : Hub) : Hub :=
  ((({ s with plan := { s.plan with ready := true } } : Hub).setPend psReady).raise Evt.PLN_READY [s.getf Fld.PLN_PEND_EPOCH, s.getf Fld.PLN_SECTION_CRC]).reportPlan

/-- Any pending section is discarded (R139). -/
def Hub.planDiscard (s : Hub) : Hub :=
  { s with plan := { s.plan with banks := Tab.del s.pendBank s.plan.banks, image := [], invalid := 0, ready := false, matched := [],
                                 pendUnits := 0 } }

/-- The pending bank holds a section that passed its local checks and has not become invalid (R140). -/
def Hub.secValid (s : Hub) : Bool := (Tab.get? s.pendBank s.plan.banks).isSome && s.plan.invalid == 0

/-- A pending section that leaves ARMED or ARMED_T without switching: READY if it is valid, else FAILED with the reason
recorded (R140); one that was not yet READY when a transparent switch was armed goes back to PEERING. The fence of a claim is lifted
(R174). Log entry 169 (DEDUCED). -/
def Hub.planUnarm (s : Hub) : Hub :=
  let s1 : Hub := { s with plan := { s.plan with armed := none } }.liftFence
  if s.secValid then (if s.plan.ready then s1.planReady else s1.setPend psPeering)
  else s1.planFail ⟨s.getf Fld.PLN_FAIL_REASON, s.getf Fld.PLN_FAIL_RECORD, s.getf Fld.PLN_FAIL_INDEX⟩

/-- A disarm is accepted (R140): PLN_DISARMED, and the section is READY or FAILED. -/
def Hub.disarm (s : Hub) : Hub :=
  match s.plan.armed with
  | none => s
  | some a => (s.raise Evt.PLN_DISARMED [a.epoch, a.at']).planUnarm

/-- A switch armed for S ≥ D is cancelled (R114): PLN_ARM_CANCELLED, and the section is READY or FAILED. -/
def Hub.cancelArm (d : Nat) (s : Hub) : Hub :=
  match s.plan.armed with
  | none => s
  | some a =>
    if d ≤ a.at' then (s.raise Evt.PLN_ARM_CANCELLED [a.epoch + 2 ^ 32 * (a.at' % 2 ^ 31)]).planUnarm else s

/-- The hub learns that it will leave its epoch other than at a planned switch: the domains its plan steps start their exits
(R144). Log entry 43 (DEDUCED). -/
def Hub.leaveSteps (s : Hub) : Hub :=
  (List.range 24).foldl (fun t d => if t.planStep d = 0 then t else t.wakeDom d 5) s

/-- An uncorrectable error in a section that is held (R140, check 0x14). -/
def Hub.planMemError (s : Hub) : Hub :=
  let f : LoadFail := ⟨0x14, 0, 0⟩
  if s.pend = psArmed ∨ s.pend = psArmedT then
    let arm := s.plan.armed.map (fun a => { a with reason := 4 })
    ((({ s with plan := { s.plan with invalid := 0x14, armed := arm } } : Hub).setPlanFail f).setPend psArmedT).liftFence.leaveSteps
  else if s.pend = psEmpty ∨ s.pend = psFailed ∨ s.pend = psHeld then s
  else s.planFail f

/-- The words of a gate-table bank in memory 5 (R420). Log entry 90 (DESIGN CHOICE). -/
def gateWords : Nat := 32768

/-- The words of memory 10 in which a pending section is staged: room for an image and its signature (R121, R420). Log entry 90 (DESIGN CHOICE). -/
def stageLo : Nat := 4194304
def stageHi : Nat := stageLo + 65544

/-- The reads of the gate and tunnel tables in a tick (R420, R423): an uncorrectable error of the active gate bank or of the
tunnel table takes the hub to the transparent plan at the next tick boundary, one of the pending bank or of the staged section fails the section. -/
def Hub.tableReads (s : Hub) : Hub :=
  let s1 := (s.touchAll 5).touchAll 6
  let act := s1.spanBad 5 (gateWords * s1.actBank) (gateWords * (s1.actBank + 1)) || s1.spanBad 6 0 (2 ^ 23)
  let s2 := if act && s1.loadedPlan && s1.plan.entryDue.isNone then
      ({ s1 with plan := { s1.plan with entryDue := some (4, s1.getf Fld.PLN_ACTIVE_EPOCH) } } : Hub).leaveSteps
    else s1
  let held := s2.spanBad 5 (gateWords * s2.pendBank) (gateWords * (s2.pendBank + 1)) || s2.spanBad 10 stageLo stageHi
  if held && s2.plan.invalid == 0 then s2.planMemError else s2

/-! The comparison of R137. -/

/-- HOP_DIGEST of the pending section out of port `p` (R137). -/
def Hub.sendDigest (p : Nat) (s : Hub) : Hub :=
  match s.pendSec with
  | none => s
  | some c => s.sendHop p mtHopDigest (c.digestBody c.epoch p false)

/-- A comparison at port `p` fails with INDEX `i` (R140). -/
def Hub.digestFail (i : Nat) (s : Hub) : Hub :=
  let f : LoadFail := ⟨0x11, 1, i⟩
  if s.pend = psPeering ∨ s.pend = psReady then s.planFail f
  else if s.pend = psArmed then
    match s.plan.armed with
    | none => s
    | some a =>
      let s1 : Hub := { s with plan := { s.plan with invalid := 0x11, armed := some { a with reason := 5 } } }
      let s2 := ((s1.setPlanFail f).setPend psArmedT).liftFence.leaveSteps
      if s.isHead then s2
      else s2.send 0 mtPlanArmAck 0 (beBytes 4 a.epoch ++ beBytes 1 2 ++ zeros 3 ++ beBytes 8 a.acceptedAt)
  else s

/-- Every up port that was not skipped has compared and matched: READY (R140). -/
def Hub.peerCheck (s : Hub) : Hub :=
  let want := [0, 1].filter (fun p => s.linkUp p &&
    !s.flag (if p = 0 then Fld.PLN_STATUS_PEER_SKIP_U else Fld.PLN_STATUS_PEER_SKIP_D))
  if s.pend = psPeering ∧ want.all (fun p => s.plan.matched.contains p) then s.planReady else s

/-- The latest HOP_DIGEST of port `p` is compared with the pending section (R137). Log entry 174 (DESIGN CHOICE). -/
def Hub.compareDigest (p : Nat) (s : Hub) : Hub :=
  match s.pendSec, Tab.get? p s.plan.digests with
  | some c, some body =>
    if beNat (slice body 0 4) ≠ c.epoch ∨ s.pend = psArmedT then s
    else
      match c.compare p body with
      | some i => s.digestFail i
      | none =>
        let m := if s.plan.matched.contains p then s.plan.matched else s.plan.matched ++ [p]
        ({ s with plan := { s.plan with matched := m } } : Hub).peerCheck
  | _, _ => s

/-- The local checks pass (R140): the section is stored, PAIRS is copied to the mitten, HOP_DIGEST goes out of every port
whose link is up, the other ports are skipped (R137), and digests already received are compared. -/
def Hub.checksPass (c : Sec) (s : Hub) : Hub :=
  let s1 : Hub := { s with plan := { s.plan with
    banks := Tab.put s.pendBank c s.plan.banks, checkAt := s.tick, invalid := 0, matched := [],
    pairsCopy := some (c.epoch, c.pairs), pendUnits := c.carve.getD (s.pool.carve / 256) } }
  let s2 := s1 |>.setPend psPeering |>.setb Fld.PLN_STATUS_PEER_SKIP_U (!s.linkUp 0)
    |>.setb Fld.PLN_STATUS_PEER_SKIP_D (!s.linkUp 1)
  let s3 := (s2.spanEnd 5 (gateWords * s.pendBank) (gateWords * (s.pendBank + 1))).entryEnd 11 4 1536
  let s4 := [0, 1].foldl (fun t p => if t.linkUp p then t.sendDigest p else t) s3
  ([0, 1].foldl (fun t p => t.compareDigest p) s4).peerCheck

/-- A link that comes up while a section is in PEERING, READY or ARMED gets a HOP_DIGEST (R137). -/
def Hub.digestOnLink (p : Nat) (s : Hub) : Hub :=
  if s.pend = psPeering ∨ s.pend = psReady ∨ s.pend = psArmed then s.sendDigest p else s

/-! Loading (R139, R140). -/

/-- A new load of `epoch` starts. -/
def Hub.startLoad (epoch total : Nat) (s : Hub) : Hub :=
  let s1 := s.planDiscard
  ({ s1.spanEnd 10 stageLo stageHi with plan := { s1.plan with total := total, loadEpoch := epoch, fragAt := s.tick } } : Hub)
    |>.setPend psLoading |>.setf Fld.PLN_PEND_EPOCH epoch |>.setf Fld.PLN_SECTION_CRC 0

/-- The CRC trailer of a section image, whose LENGTH covers it (R121, R123); 0 where LENGTH reaches beyond the image. -/
def crcOf (img : List Byte) : Nat :=
  let len := leAt img 20 4
  if 68 ≤ len ∧ len ≤ img.length then leAt img (len - 4) 4 else 0

/-- Section bytes join the load; the last byte of TOTAL starts the local checks (R140). -/
def Hub.addFragment (bs : List Byte) (s : Hub) : Hub :=
  let img := (s.plan.image ++ bs).take s.plan.total
  let s1 : Hub := { s with plan := { s.plan with image := img, fragAt := s.tick } }
  if img.length = s.plan.total then (s1.setPend psChecking).setf Fld.PLN_SECTION_CRC (crcOf img) else s1

/-- A discarded fragment is counted, and PLAN_STATUS goes out at most once per tick (R139). -/
def Hub.discardFragment (s : Hub) : Hub :=
  let s1 := s.count Cnt.PLN_CNT_FRAG_DISCARD 1
  if s.plan.fragTick = some s.tick then s1
  else ({ s1 with plan := { s1.plan with fragTick := some s.tick } } : Hub).sendPlanStatus 0 s.planReason

/-- Whether a fragment at OFFSET 0 of `epoch` starts a new load (R139). -/
def Hub.startsLoad (s : Hub) (epoch : Nat) : Bool :=
  let st := s.pend
  st != psArmed && st != psArmedT && st != psHeld &&
    (epoch != s.getf Fld.PLN_PEND_EPOCH || st == psEmpty || st == psReady || st == psFailed)

/-- A PLAN_LOAD fragment (R139, R140). -/
def Hub.takeFragment (epoch offset total : Nat) (bs : List Byte) (s : Hub) : Hub :=
  if s.pend = psArmed ∨ s.pend = psArmedT ∨ s.pend = psHeld then s.sendPlanStatus 0 0
  else if offset = 0 ∧ s.startsLoad epoch then (s.startLoad epoch total).addFragment bs
  else if s.pend = psLoading ∧ epoch = s.plan.loadEpoch ∧ offset = s.plan.image.length ∧ total = s.plan.total then s.addFragment bs
  else s.discardFragment

/-- The local checks of a loaded section end (R134, R140). Log entry 173 (DESIGN CHOICE). -/
def Hub.checkDone (s : Hub) : Hub :=
  if s.pend ≠ psChecking then s
  else
    match s.loadSec s.plan.image with
    | .inr f => s.planFail f
    | .inl c => if c.epoch = s.getf Fld.PLN_PEND_EPOCH then s.checksPass c else s.planFail ⟨4, 0, 0⟩

/-! Arming (R141). -/

/-- The pending section is armed for the tick `at'` as `st` (ARMED or ARMED_T), with the reason of R145 a transparent switch
reports. -/
def Hub.arm (st epoch at' reason : Nat) (rejoin : Bool) (s : Hub) : Hub :=
  let s1 : Hub := { s with plan := { s.plan with armed := some ⟨epoch, at', rejoin, reason, s.tick⟩ } }
  let s2 := s1 |>.setPend st |>.setf Fld.PLN_ARM_TICK_LO (at' % 2 ^ 32) |>.setf Fld.PLN_ARM_TICK_HI (at' / 2 ^ 32)
  if st = psArmed then (s2.fenceCarve (256 * s.plan.pendUnits)).maintSweep else s2.leaveSteps

/-- The rejoin of R147 applies: transparent, pending READY for the active epoch, addressed to this hub alone. -/
def Hub.rejoins (s : Hub) (epoch : Nat) (alone : Bool) : Bool :=
  alone && !s.loadedPlan && (s.pend == psReady || s.pend == psArmed) && epoch == s.getf Fld.PLN_ACTIVE_EPOCH
    && epoch == s.getf Fld.PLN_PEND_EPOCH

/-- The status of a PLAN_ARM and the state it leaves (R141), with the transparent entry of a late one owed at the next tick
boundary. -/
def Hub.takeArm (epoch at' : Nat) (alone : Bool) (s : Hub) : Nat × Hub :=
  let active := s.getf Fld.PLN_ACTIVE_EPOCH
  let rejoin := s.rejoins epoch alone
  let refuse (st : Nat) : Nat × Hub := (st, s.raise Evt.PLN_ARM_REFUSED [epoch, st])
  let late (t : Hub) : Hub := t.raise Evt.PLN_ARM_LATE [epoch, enc 32 ((s.tick : Int) - at')]
  if epoch ≤ active ∧ !rejoin then refuse 3
  else
    match s.plan.armed with
    | some a =>
      if a.epoch ≠ epoch ∨ a.at' ≠ at' then refuse 6
      else if s.pend = psArmed then (0, s)
      else if at' < s.tick + 64 then (1, late s)
      else (2, s)
    | none =>
      let scheduled := s.getf Fld.TRK_RING_STATUS_STATE == 1
      let d8 := match s.ring.brk with
        | some b => b.detect + 8
        | none => 0
      if scheduled ∧ at' ≤ d8 then refuse 4
      else if at' ≤ s.tick then
        (5, late ({ s with plan := { s.plan with entryDue := some (3, epoch) } } : Hub).leaveSteps)
      else if at' < s.tick + 64 then (1, late (s.arm psArmedT epoch at' 2 false))
      else if s.pend ≠ psReady ∨ s.getf Fld.PLN_PEND_EPOCH ≠ epoch then (2, s.arm psArmedT epoch at' 1 false)
      else (0, (s.arm psArmed epoch at' 0 (rejoin && decide (epoch ≤ active))).raise Evt.PLN_ARMED [epoch, at'])

/-- A PLAN_DISARM for this EPOCH and S arriving by S − 1 (R140): whether it disarmed. Log entry 46 (DEDUCED). -/
def Hub.takeDisarm (epoch at' : Nat) (s : Hub) : Bool × Hub :=
  match s.plan.armed with
  | none => (false, s)
  | some a => if a.epoch = epoch ∧ a.at' = at' ∧ s.tick + 1 ≤ at' then (true, s.disarm) else (false, s)

end Sys2Proof.Machine
end

