-- ==== Sys2Proof/Machine/TimeOps.lean ====
section
/-! DEFINITION. Shared operations of line time, launches and TIO pins (R181 to R208). -/

namespace Sys2Proof.Machine

/-- A value in 2^-16 ns as ps, and back. -/
def toPs (x : Int) : Int := x * 1000 / fracUnit
def ofPs (x : Int) : Int := x * fracUnit / 1000

/-! Launch completions (R204). -/

/-- Launch statuses (R204). -/
def lsOk : Nat := 0
def lsLateExec : Nat := 1
def lsLate : Nat := 2
def lsNoSlot : Nat := 3
def lsConflict : Nat := 4
def lsBadTarget : Nat := 5
def lsUnavailable : Nat := 6
def lsEmpty : Nat := 7
def lsCancelled : Nat := 8
def lsTimeLost : Nat := 9
def lsCancelRefused : Nat := 10

/-- LTM_LAUNCH_STATUS follows the launch table (R209). -/
def Hub.showLaunches (s : Hub) : Hub :=
  let n := s.time.launches.length
  (s.setf Fld.LTM_LAUNCH_STATUS_COUNT n).setf Fld.LTM_LAUNCH_STATUS_HIGH (max n (s.getf Fld.LTM_LAUNCH_STATUS_HIGH))

/-- A completion is held until queue 7 accepts it (R204). -/
def Hub.holdDone (d : LaunchDone) (s : Hub) : Hub := { s with time := { s.time with held := s.time.held ++ [d] } }

/-- The counter of a launch status (R209). -/
def Hub.countLaunch (status : Nat) (s : Hub) : Hub :=
  if status ≤ 1 then s.count Cnt.LTM_CNT_FIRED 1
  else if status = 2 then s.count Cnt.LTM_CNT_LATE 1
  else if status = 8 then s
  else s.count Cnt.LTM_CNT_REFUSED 1

/-- The launch in SLOT `slot` completes with `status` at line time `f`, and its slot is freed (R204). -/
def Hub.launchDone (slot status f : Nat) (s : Hub) : Hub :=
  match Tab.get? slot s.time.launches with
  | none => s
  | some l =>
    let s1 : Hub := { s with time := { s.time with launches := Tab.del slot s.time.launches } }
    ((s1.countLaunch status).holdDone
      { status := status, slot := slot, cookie := l.cookie, f := f, src := l.src, silent := bit l.flags 1 && status == 0 }).showLaunches

/-- A launch that executed: OK, or LATE_EXEC under R200. -/
def Hub.launchRan (slot f : Nat) (s : Hub) : Hub :=
  match Tab.get? slot s.time.launches with
  | none => s
  | some l => s.launchDone slot (if l.late then lsLateExec else lsOk) f

/-- A launch refused at admission (R199). -/
def Hub.launchRefused (l : Launch) (status : Nat) (s : Hub) : Hub :=
  (s.countLaunch status).holdDone { status := status, slot := 0, cookie := l.cookie, f := 0, src := l.src }

/-- The state with the launch in SLOT `slot` as `l`. -/
def Hub.setLaunch (slot : Nat) (l : Launch) (s : Hub) : Hub :=
  { s with time := { s.time with launches := Tab.put slot l s.time.launches } }

/-! Launch records (R197, R198). -/

/-- A launch read from its 32 bytes, most significant byte first (R197). -/
def readLaunch (b : List Byte) (src : LaunchSrc) : Launch :=
  { time := beNat (slice b 0 8), dst := beNat (slice b 8 2), action := byteAt b 10, flags := byteAt b 11,
    target := beNat (slice b 12 2), arg := beNat (slice b 16 8), cookie := beNat (slice b 24 8), src := src }

/-- The 8 bytes of ARG turned between the two byte orders, field by field as the action lays them out (R197, R198). -/
def flipArg (action : Nat) (b : List Byte) : List Byte :=
  if action = 0x20 then b
  else if action = 0x40 then b.take 2 ++ (slice b 2 2).reverse ++ (slice b 4 4).reverse
  else (b.take 4).reverse ++ (slice b 4 4).reverse

/-- A record turned between its little-endian and its most-significant-byte-first form (R197). -/
def flipRecord (b : List Byte) : List Byte :=
  (slice b 0 8).reverse ++ (slice b 8 2).reverse ++ slice b 10 2 ++ (slice b 12 2).reverse ++ (slice b 14 2).reverse
    ++ flipArg (byteAt b 10) (slice b 16 8) ++ (slice b 24 8).reverse

/-- ARG fields: WIDTH or COMMIT_ID, port, FORMAT, OFFSET and DELTA (R198). -/
def Launch.width (l : Launch) : Nat := bits l.arg 63 32
def Launch.port (l : Launch) : Nat := bits l.arg 63 56
def Launch.format (l : Launch) : Nat := bits l.arg 55 48
def Launch.offset (l : Launch) : Nat := bits l.arg 47 32
/-- DELTA of a launch's ARG. Log entry 63 (DEDUCED). -/
def Launch.delta (l : Launch) : Nat := bits l.arg 31 0
def Launch.pin (l : Launch) : Nat := bits l.target 4 0
def Launch.queue (l : Launch) : Nat := bits l.target 12 0
def Launch.ctrl (l : Launch) : Nat := bits l.target 15 8
def Launch.mbox (l : Launch) : Nat := bits l.target 7 0

/-- The line time of handover: F − prep, or at once for LATE_EXEC (R198, R201). -/
def Launch.handAt (l : Launch) : Nat := if l.late then 0 else l.f - actionPrep l.action

/-- Queue `q` is a release queue of port `p` (R261). -/
def Hub.isRelq (s : Hub) (p q : Nat) : Bool :=
  (List.range 8).any (fun j => s.flag (Fld.NET_PORT_RELQ_VALID p j) && s.getf (Fld.NET_PORT_RELQ_QUEUE p j) == q)

/-- The target of an action is wrong, whatever the record's other fields (check 1 of R199). -/
def Hub.badTarget (s : Hub) (l : Launch) : Bool :=
  match l.action with
  | 0x01 | 0x02 => l.arg != 0 || decide (31 < l.target) || s.getf (Fld.LTM_TIO_CFG_MODE l.pin) != 1
  | 0x03 => bits l.arg 31 0 != 0 || decide (l.width < 16) || decide (31 < l.target) || s.getf (Fld.LTM_TIO_CFG_MODE l.pin) != 1
  | 0x10 => l.arg != 0 || decide (3 < l.ctrl) || decide (63 < l.mbox) || !s.flag (Fld.FBR_CAN_CFG_EN l.ctrl)
  | 0x20 => bits l.arg 55 0 != 0 || decide (3 < l.port) || decide (0x1FFF < l.target) || !s.flag (Fld.NET_PORT_CFG_EN l.port)
      || !s.qEnabled l.queue || !s.isRelq l.port l.queue
  | 0x30 => bits l.arg 31 0 != 0 || decide (1 < l.target)
  | 0x40 => decide (3 < l.port) || decide (1 < l.format) || decide (0x1FFF < l.target) || !s.flag (Fld.NET_PORT_CFG_EN l.port)
      || !s.qEnabled l.queue || !s.isRelq l.port l.queue || (l.format == 1 && !s.mapValid)
      || decide (s.getf (Fld.NET_PORT_CFG_MTU l.port) - 4 < l.offset + (if l.format = 0 then 8 else 10))
  | _ => true

/-- A launch that names its source's own hub only: one of a node's host or of the gadget (R197, R199). Log entry 161 (DEDUCED). -/
def Hub.ownOnly (s : Hub) (src : LaunchSrc) : Bool :=
  match src with
  | .msg _ _ => false
  | .own id => !s.isHead || (match s.req id with
    | some q => q.who == .gadget
    | none => false)

/-- Check 1 of R199. Log entry 161 (DEDUCED). -/
def Hub.check1 (s : Hub) (l : Launch) : Bool :=
  decide (511 < l.dst) || decide (3 < l.flags) || (l.dst != s.addr && l.dst != 0x1FF)
    || (s.ownOnly l.src && l.dst != s.addr) || s.badTarget l

/-- Check 2 of R199: the action's domain is FAILED or the active plan steps it. -/
def Hub.check2 (s : Hub) (l : Launch) : Bool :=
  match actionDom l.action with
  | none => false
  | some d => s.domFailed d || (match s.actSec with
    | some c => c.power.any (fun e => e.1 == d)
    | none => false)

/-- The edges of a TIO launch (R202). -/
def Launch.edges (l : Launch) : List Nat := if l.action = 0x03 then [l.f, l.f + l.width] else [l.f]

/-- A TIO action. -/
def tioAction (a : Nat) : Bool := a == 1 || a == 2 || a == 3

/-- Two line times differ by less than 16 ns. -/
def near16 (a b : Nat) : Bool := decide (a < b + 16) && decide (b < a + 16)

/-- A new launch conflicts with a pending one (R202). -/
def conflicts (l m : Launch) : Bool :=
  if tioAction l.action then tioAction m.action && l.pin == m.pin && l.edges.any (fun a => m.edges.any (near16 a))
  else if l.action = 0x10 then m.action == 0x10 && l.target == m.target
  else if l.action = 0x30 then m.action == 0x30 && l.target == m.target && l.width == m.width
  else false

/-- The lowest free SLOT. -/
def Hub.freeSlot (s : Hub) : Option Nat := (List.range 1024).find? (fun i => (Tab.get? i s.time.launches).isNone)

/-- Admission of a launch at line time A = now (R199, R200). -/
def Hub.admitLaunch (l : Launch) (s : Hub) : Hub :=
  let lead : Int := (l.time : Int) - s.now
  let inTime := decide (125000 ≤ lead)
  let lateOk := bit l.flags 0 && decide (-1000000 ≤ lead)
  let m := { l with late := !inTime, f := if inTime then l.time else max l.time (s.now + actionPrep l.action) }
  if s.check1 l then s.launchRefused l lsBadTarget
  else if s.check2 l then s.launchRefused l lsUnavailable
  else if !inTime && !lateOk then s.launchRefused l lsLate
  else if s.time.launches.any (fun e => conflicts m e.2) then s.launchRefused l lsConflict
  else
    match s.freeSlot with
    | none => s.launchRefused l lsNoSlot
    | some i =>
      let s1 := (s.entryEnd 8 4 i).setLaunch i { m with order := s.time.order }
      ({ s1 with time := { s1.time with order := s.time.order + 1 } } : Hub).showLaunches

/-- What else fails check 1 at handover: a DISP_COMMIT to a head without EN (R302), and a CAN_TX to a controller that is bus-off
or to a mailbox with DIR = 0 (R328). -/
def Hub.handoverBad (s : Hub) (l : Launch) : Bool :=
  (l.action == 0x30 && !s.flag (Fld.DSP_HEAD_CFG_EN l.target))
    || (l.action == 0x10 && (decide (2 ≤ s.getf (Fld.FBR_CAN_STATUS_STATE l.ctrl)) || !s.flag (Fld.FBR_MB_CFG_DIR l.ctrl l.mbox)))

/-- Handover of the launch in SLOT `slot`: checks 1 and 2 again, with what R302 and R328 add (R201). -/
def Hub.handover (slot : Nat) (s : Hub) : Hub :=
  match Tab.get? slot s.time.launches with
  | none => s
  | some l =>
    if l.handed then s
    else if s.check1 l || s.handoverBad l then s.launchDone slot lsBadTarget 0
    else if s.check2 l then s.launchDone slot lsUnavailable 0
    else if s.entryBad 8 4 slot then
      let s1 := s.entryTouch 8 4 slot
      (s1.setLaunch slot { l with cookie := 0 }).launchDone slot lsUnavailable 0
    else
      let s1 := s.setLaunch slot { l with handed := true }
      match actionDom l.action with
      | none => s1
      | some d => s1.wakeDom d 6

/-- Launches whose T is earlier than the new line time plus their prep complete TIME_LOST at a step (R205). -/
def Hub.launchesStep (t : Nat) (s : Hub) : Hub :=
  s.time.launches.foldl (fun u e => if e.2.time < t + actionPrep e.2.action then u.launchDone e.1 lsTimeLost 0 else u) s

/-- Pending launches are discarded without completion (R205). -/
def Hub.dropLaunches (s : Hub) : Hub :=
  ({ s with time := { s.time with launches := [], toPost := [] } } : Hub).showLaunches

/-! TIO pins (R194 to R196). -/

/-- TIO pin `n`. -/
def Hub.pin (s : Hub) (n : Nat) : TioPin := Tab.getD s.time.pins n {}

/-- The state with TIO pin `n` as `P`. -/
def Hub.setPin (n : Nat) (P : TioPin) (s : Hub) : Hub := { s with time := { s.time with pins := Tab.put n P s.time.pins } }

/-- A pin is an output. -/
def Hub.pinOut (s : Hub) (n : Nat) : Bool := s.getf (Fld.LTM_TIO_CFG_MODE n) == 1

/-- LTM_TIO_LEVEL: the logical level of every output pin (R195). -/
def Hub.tioLevel (s : Hub) : Nat :=
  (List.range 32).foldl (fun v n => if s.pinOut n && (s.pin n).level then v + 2 ^ n else v) 0

/-- Output pin `n` is driven to logical level `on` (R195). -/
def Hub.driveTio (n : Nat) (on : Bool) (s : Hub) : Hub :=
  (s.setPin n { s.pin n with level := on }).emit (.tio n (some (on != s.flag (Fld.LTM_TIO_CFG_POL n))))

/-- A write of LTM_TIO_CFG_n (R195, R196): a reserved MODE keeps the old one; a pin entering MODE 1 drives IDLE, one leaving it
stops driving, and one leaving MODE 2 loses nothing but its capture. -/
def Hub.writeTioCfg (n v : Nat) (s : Hub) : Hub :=
  let old := s.getf (Fld.LTM_TIO_CFG_MODE n)
  let new := if bits v 1 0 = 3 then old else bits v 1 0
  let s1 := s |>.setf (Fld.LTM_TIO_CFG_SIGMAP n) (bits v 26 16) |>.setf (Fld.LTM_TIO_CFG_DEST n) (bits v 15 14)
    |>.setf (Fld.LTM_TIO_CFG_EDGES n) (bits v 13 12) |>.setf (Fld.LTM_TIO_CFG_FILTER n) (bits v 11 10)
    |>.setf (Fld.LTM_TIO_CFG_POL n) (bits v 9 9) |>.setf (Fld.LTM_TIO_CFG_IDLE n) (bits v 8 8)
    |>.setf (Fld.LTM_TIO_CFG_MODE n) new
  if old ≠ 1 ∧ new = 1 then s1.driveTio n (bit v 8)
  else if old = 1 ∧ new ≠ 1 then
    let ls := s1.time.launches.mapVal (fun _ l => if tioAction l.action && l.pin == n && l.handed then { l with dead := true } else l)
    ({ s1 with time := { s1.time with launches := ls } } : Hub).emit (.tio n none)
  else if new = 1 then s1.driveTio n (s1.pin n).level
  else s1

/-- A launch edge takes output pin `n` to logical level `on` at line time `f` (R198). -/
def Hub.launchEdge (n : Nat) (on : Bool) (f : Nat) (s : Hub) : Hub :=
  let s1 := s.driveTio n on
  s1.setPin n { s1.pin n with edgeAt := some f }

/-- A launch edge less than 16 ns before now stands on pin `n`. -/
def Hub.edgeNear (s : Hub) (n : Nat) : Bool :=
  match (s.pin n).edgeAt with
  | none => false
  | some e => decide (s.now < e + 16)

/-- A write of LTM_TIO_LEVEL sets output pins; a launch edge within 16 ns of it is applied after it (R195). -/
def Hub.writeTioLevel (v : Nat) (s : Hub) : Hub :=
  (List.range 32).foldl (fun t n =>
    if !t.pinOut n then t
    else
      let u := t.driveTio n (bit v n)
      if t.edgeNear n then u.driveTio n (t.pin n).level else u) s

/-! The time path (R182, R188 to R191). -/

/-- A head's frame timing and its commits' presentations move with line time; in line-locked mode the head resynchronises (R291, R304). -/
def Hub.moveHead (mv : Option Nat → Option Nat) (s : Hub) (h : Nat) (H : DspHead) : DspHead :=
  let commits := H.commits.map (fun c => { c with own := mv c.own, eff := mv c.eff })
  { H with start := mv H.start, blank := mv H.blank, commits := commits,
           relock := H.relock || (s.flag (Fld.DSP_HEAD_CFG_EN h) && s.flag (Fld.DSP_HEAD_CFG_LINE_LOCK h)) }

/-- The times of the last captured and launch edges, of what the Ethernet ports have in hand and of the display heads' frames move
with line time, so that spacings and durations hold across a step (R195, R206, R260, R291). -/
def Hub.moveStamps (d : Int) (s : Hub) : Hub :=
  let mv (x : Option Nat) : Option Nat := x.map (fun t => ((t : Int) + d / fracUnit).toNat)
  let to' (t : Nat) : Nat := ((t : Int) + d / fracUnit).toNat
  { s with
    time := { s.time with pins := s.time.pins.mapVal (fun _ P => { P with lastEdge := mv P.lastEdge, edgeAt := mv P.edgeAt }) },
    net := { s.net with ports := s.net.ports.mapVal (fun _ P => { P with busy := to' P.busy, posAt := to' P.posAt }) },
    tcp := { s.tcp with sofAt := mv s.tcp.sofAt },
    dsp := { s.dsp with heads := s.dsp.heads.mapVal (fun h H => s.moveHead mv h H) } }

/-- A node steps its line time by `d` in units of 2^-16 ns (R182, R205): LTM_STEP in ns, other trunk links drop, an armed switch is disarmed, and
launches fail. Measurements across the step are not used. -/
def Hub.stepTime (path : Nat) (d : Int) (s : Hub) : Hub :=
  let x := ((s.now * fracUnit + s.nowFrac : Nat) + d).toNat
  let t := x / fracUnit
  let o := otherPort path
  let s1 := ((s.setLine x).moveStamps d).raise Evt.LTM_STEP [enc 64 (d / fracUnit)]
  let s2 := if s1.linkUp o then (s1.dropLink o).startBringup o else s1
  let s3 := (s2.disarm).launchesStep t
  let wiped := s3.time.ports.mapVal (fun _ T => { T with rxs := [], txs := [], measured := false })
  { s3 with time := { s3.time with ports := wiped, stepRun := 0, lockRun := 0 } }

/-- The port whose offer is lowest, U on a tie (R189). -/
def Hub.bestPort (s : Hub) : Option Nat :=
  if s.offers 0 && (!s.offers 1 || decide ((s.tport 0).hops ≤ (s.tport 1).hops)) then some 0
  else if s.offers 1 then some 1 else none

/-- LOCKED is entered; LTM_LOCKED (R212). -/
def Hub.lockTime (s : Hub) : Hub :=
  if s.timeLocked then s
  else (s.setTimeState tmLocked).raise Evt.LTM_LOCKED [s.getf Fld.LTM_STATUS_PATH, s.getf Fld.LTM_STATUS_HOPS_GM]

/-- The node takes its time from port `p` (R189): the new path, and a step at once after FREE, or after HOLDOVER with an
offset above 1 µs (R182). -/
def Hub.takePath (p : Nat) (s : Hub) : Hub :=
  let theta := (s.tport p).theta
  let was := s.timeState
  let s1 := s.switchPath p
  if was = tmFree ∨ (was = tmHoldover ∧ 1000 * fracUnit < theta.natAbs) then s1.stepTime p (-theta) else s1

/-- R189 at a node: a path that stops offering time is left at once; without a path, one that offers time and has been measured
is taken. -/
def Hub.pathCheck (s : Hub) : Hub :=
  if s.isHead then s
  else
    match s.timePath with
    | some p =>
      if s.offers p then s.showPath p else s.leavePath p
    | none =>
      match s.bestPort with
      | none => s
      | some p => if (s.tport p).measured then s.takePath p else s

/-- The θ a node steers to (R190): CLOSURE / (N + 1) on path U, else 0. -/
def Hub.thetaTarget (s : Hub) : Int :=
  if s.timePath = some 0 then ofPs (sgn 32 (s.getf Fld.LTM_CLOSURE) / (s.lastNode + 1)) else 0

/-- A new θ of the time path: locking, alarms, and the step of R182 (R191). Log entry 57 (DEDUCED). -/
def Hub.judgeTheta (p : Nat) (theta : Int) (s : Hub) : Hub :=
  let e := (theta - s.thetaTarget).natAbs
  let lockRun := if e ≤ 20 * fracUnit then s.time.lockRun + 1 else 0
  let stepRun := if 1000 * fracUnit < theta.natAbs then s.time.stepRun + 1 else 0
  let s1 : Hub := { s with time := { s.time with lockRun := lockRun, stepRun := stepRun } }
  if 16 ≤ stepRun then (s1.stepTime p (-theta)).setTimeState tmAcquiring
  else if s1.timeLocked then
    (if 25 * fracUnit < e then s1.raiseLimited Evt.LTM_OFFSET_ALARM p [p, enc 32 (toPs theta)] else s1)
  else if 16 ≤ lockRun then s1.lockTime
  else s1

/-- Sum of a list. -/
def sumInt (xs : List Int) : Int := xs.foldl (· + ·) 0

/-- A raw delay is rejected (R188). -/
def rawBad (T : TimePort) (raw : Int) : Bool :=
  decide (raw < 0) || decide (200 * fracUnit < raw) || (decide (64 ≤ T.taken) && decide (5 * fracUnit < (raw - T.delay).natAbs))

/-- TIME_MEASUREMENT at port `p` once brim `k` + 1 = `m` is received (R188). Log entry 57 (DEDUCED). -/
def Hub.measure (p m t4 : Nat) (s : Hub) : Hub :=
  let T := s.tport p
  match T.rxs.find? (fun r => r.tick + 2 == m), T.txs.find? (fun x => x.tick + 1 == m) with
  | some r, some x =>
    if !(r.ok && x.ok) then s
    else
      let raw : Int := (((r.t2 : Int) - r.t1) + ((t4 : Int) - x.t3)) / 2
      if rawBad T raw then s.count Cnt.LTM_CNT_REJECT 1
      else
        let raws := (raw :: T.raws).take 64
        let delay := sumInt raws / raws.length
        let theta := ((r.t2 : Int) - r.t1) - delay - ofPs (sgn 32 (s.getf (Fld.LTM_ASYM p))) / 2
        let s1 := (s.setTport p { T with raws := raws, taken := T.taken + 1, delay := delay, theta := theta, measured := true })
          |>.setf (Fld.LTM_DELAY p) (enc 32 (toPs delay)) |>.setf (Fld.LTM_OFFSET p) (enc 32 (toPs theta))
        if s1.isHead then s1
        else if s1.timePath = some p then s1.judgeTheta p theta
        else s1.pathCheck
  | _, _ => s

/-- LTM_PATH_SWITCH: the node moves to the other port once it has offered at least 2 hops fewer for 16 consecutive ticks
(R189). -/
def Hub.pathBetter (s : Hub) : Hub :=
  match (if s.isHead then none else s.timePath) with
  | none => s
  | some p =>
    let o := otherPort p
    let T := s.tport o
    let n := if s.offers o && decide (T.hops + 2 ≤ (s.tport p).hops) then T.better + 1 else 0
    let s1 := s.setTport o { T with better := n }
    if 16 ≤ n then (s1.setTport o { T with better := 0 }).takePath o else s1

/-! What this hub tells its neighbours of time (R89, R189, R191). -/

/-- The code of a time state in GM_STATE [3:0], in the order locked, holdover, acquiring. -/
def Hub.ownGm (s : Hub) : Nat :=
  if s.timeLocked then 0 else if s.timeState = tmHoldover ∨ s.timeState = tmHoldLimit then 1 else 2

/-- GM_STATE of the sync frame. -/
def Hub.gmState (s : Hub) : Nat :=
  if s.isHead then s.getf Fld.LTM_STATUS_GM_SRC * 16 + s.ownGm
  else
    match s.timePath with
    | none => s.ownGm
    | some p => (s.tport p).gmState / 16 * 16 + max s.ownGm ((s.tport p).gmState % 16)

/-- HOPS_GM sent out of port `p` (R189). -/
def Hub.hopsSent (s : Hub) (p : Nat) : Nat :=
  if s.isHead then (if p = 1 then 0 else if s.ringWhole then 0xFFFF else 0)
  else
    match s.timePath with
    | none => 0xFFFF
    | some q => if p = q then 0xFFFF else (s.tport q).hops + 1

/-! The head's source (R184 to R187). -/

/-- SOURCE of LTM_GM_CFG. -/
def Hub.gmSource (s : Hub) : Nat := s.getf Fld.LTM_GM_CFG_SOURCE

/-- Tag of the free values of a servo's rate word, which the spec bounds and does not fix. Log entry 58 (DESIGN CHOICE). -/
def freeTagRate : Nat := 2

/-- The servo sets the rate word: a free value within ± `max` ppb of nominal (R181, R186, R191). Log entry 58 (DESIGN CHOICE). -/
def Hub.servoRate (max : Nat) (s : Hub) : Hub :=
  let (v, s1) := s.free freeTagRate
  s1.setf Fld.LTM_RATE (enc 32 ((v % (2 * max + 1) : Nat) - (max : Int)))

/-- ORIGIN becomes `ns` nanoseconds. Log entry 56 (DEDUCED). -/
def Hub.setOrigin (ns : Nat) (s : Hub) : Hub :=
  let sec := ns / 1000000000
  s |>.setf Fld.LTM_ORIGIN_SEC_LO (sec % 2 ^ 32) |>.setf Fld.LTM_ORIGIN_SEC_HI (sec / 2 ^ 32 % 65536)
    |>.setf Fld.LTM_ORIGIN_NS_NS (ns % 1000000000)

/-- The head's phase error `e` in ns is removed: by rate, or by remapping above 1 ms (R186). -/
def Hub.removeError (e : Int) (s : Hub) : Hub :=
  let s1 := s.setf Fld.LTM_SRC_ERR (enc 32 e)
  if e.natAbs ≤ 1000000 then s1.servoRate 100000
  else (s1.setOrigin (((s1.originNs : Int) + e) % (2 ^ 48 * 1000000000 : Nat)).toNat).raise Evt.LTM_REMAP [enc 64 e]

/-- A valid source measurement of error `e`; `origin` is the ORIGIN the source gives at its first lock (R185 to R187). -/
def Hub.sourceMeasure (e : Int) (origin : Nat) (mapIt : Bool) (s : Hub) : Hub :=
  let s1 : Hub := { (s.removeError e) with time := { (s.removeError e).time with lastMeas := s.up } }
  let st := s.timeState
  if st = tmHoldover ∨ st = tmHoldLimit then
    ({ s1 with time := { s1.time with lockRun := 0 } } : Hub).setTimeState tmAcquiring
  else if st = tmAcquiring then
    let n := if e.natAbs ≤ 50 then s.time.lockRun + 1 else 0
    let s2 : Hub := { s1 with time := { s1.time with lockRun := n } }
    if n < 16 then s2
    else
      let s3 := s2.lockTime
      if s.time.srcLocked then s3
      else
        let s4 : Hub := { s3 with time := { s3.time with srcLocked := true } }
        let s5 := s4.setOrigin origin
        if mapIt then s5.setf Fld.LTM_ORIGIN_NS_MAP_VALID 1 |>.setf Fld.LTM_STATUS_MAP_VALID 1 else s5
  else s1

/-- SOURCE is taken: LOCKED with a nominal rate for free-run, else ACQUIRING (R187). Log entry 56 (DEDUCED). -/
def Hub.takeSource (s : Hub) : Hub :=
  let s0 : Hub := { s with time := { s.time with lockRun := 0, srcLocked := false, lastMeas := s.up } }
  let s1 := s0.setf Fld.LTM_STATUS_GM_SRC s.gmSource |>.setf Fld.LTM_SRC_ERR 0
  if s.gmSource = 3 then (s1.setf Fld.LTM_RATE 0).lockTime else s1.setTimeState tmAcquiring

/-- The head's time engine starts: line time from 0, SOURCE as it stands (R182, R187). Log entry 59 (DESIGN CHOICE). -/
def Hub.startTime (s : Hub) : Hub :=
  let s0 := s.setLine 0
  let s1 : Hub := { s0 with time := { s0.time with started := true } }
  ((s1.setf Fld.LTM_STATUS_PATH 3).setHopsGm 0 |>.setf Fld.LTM_RATE 0).takeSource

/-- PTP is the source and has locked once: the ORIGIN registers ignore writes (R185). -/
def Hub.originHeld (s : Hub) : Bool := s.gmSource == 1 && s.time.srcLocked

/-- A write of an ORIGIN register at the head (R185); `i` is 0 for SEC_LO, 1 for SEC_HI, 2 for NS. -/
def Hub.writeOrigin (i v : Nat) (s : Hub) : Hub :=
  if !s.isHead then s
  else if s.originHeld then
    let cur := if i = 0 then s.getf Fld.LTM_ORIGIN_SEC_LO else if i = 1 then s.getf Fld.LTM_ORIGIN_SEC_HI
      else b2n s.mapValid * 2 ^ 31 + s.getf Fld.LTM_ORIGIN_NS_NS
    let new := if i = 0 then v else if i = 1 then v % 65536 else bits v 31 31 * 2 ^ 31 + bits v 29 0
    if new = cur then s else s.lockedWrite (0x05001C + 4 * i) v
  else if i = 0 then s.setf Fld.LTM_ORIGIN_SEC_LO v
  else if i = 1 then s.setf Fld.LTM_ORIGIN_SEC_HI v
  else s |>.setf Fld.LTM_ORIGIN_NS_NS v |>.setf Fld.LTM_ORIGIN_NS_MAP_VALID (bits v 31 31)
    |>.setf Fld.LTM_STATUS_MAP_VALID (bits v 31 31)

/-- A write of LTM_GM_CFG at the head (R187, R211): reserved encodings keep the old field. -/
def Hub.writeGmCfg (v : Nat) (s : Hub) : Hub :=
  if !s.isHead then s
  else
    let hold := if bits v 31 16 = 0 then s.getf Fld.LTM_GM_CFG_HOLD_MAX else bits v 31 16
    let s1 := s |>.setf Fld.LTM_GM_CFG_HOLD_MAX hold |>.setf Fld.LTM_GM_CFG_PTP_PORT (bits v 5 4)
    if bits v 1 0 = 0 then s1
    else
      let s2 := s1.setf Fld.LTM_GM_CFG_SOURCE (bits v 1 0)
      if s.time.started then s2.takeSource else s2

/-! The time announcement (R193). -/

/-- FLAGS of TIME_ANNOUNCE. -/
def Hub.annFlags (s : Hub) : Nat :=
  s.getf Fld.LTM_UTC_TRACEABLE * 16 + s.getf Fld.LTM_UTC_LEAP59 * 8 + s.getf Fld.LTM_UTC_LEAP61 * 4
    + s.getf Fld.LTM_UTC_UTC_VALID * 2 + b2n s.mapValid

/-- The body of TIME_ANNOUNCE after SEQUENCE (R193); `clock` is the grandmaster's identity. -/
def Hub.annBody (s : Hub) : List Byte :=
  let hold := if s.timeState = tmHoldover ∨ s.timeState = tmHoldLimit then (s.up - s.time.holdSince) / 1000000000 else 0
  beBytes 1 s.gmState ++ beBytes 1 s.annFlags
    ++ beBytes 6 (s.getf Fld.LTM_ORIGIN_SEC_HI * 2 ^ 32 + s.getf Fld.LTM_ORIGIN_SEC_LO) ++ beBytes 4 (s.getf Fld.LTM_ORIGIN_NS_NS)
    ++ beBytes 2 (s.getf Fld.LTM_UTC_UTC_OFFSET) ++ beBytes 8 (if s.gmSource = 1 then s.time.clock else 0)
    ++ beBytes 4 (s.getf Fld.LTM_CLOSURE) ++ beBytes 4 hold

/-- A node keeps the latest accepted announcement, its 32 bytes, and shows its fields (R193). -/
def Hub.takeAnnounce (b : List Byte) (s : Hub) : Hub :=
  let fl := byteAt b 3
  let s : Hub := { s with time := { s.time with ann := b } }
  s |>.setf Fld.LTM_ORIGIN_SEC_LO (beNat (slice b 6 4)) |>.setf Fld.LTM_ORIGIN_SEC_HI (beNat (slice b 4 2))
    |>.setf Fld.LTM_ORIGIN_NS_NS (beNat (slice b 10 4)) |>.setf Fld.LTM_ORIGIN_NS_MAP_VALID (bits fl 0 0)
    |>.setf Fld.LTM_STATUS_MAP_VALID (bits fl 0 0) |>.setf Fld.LTM_UTC_TRACEABLE (bits fl 4 4)
    |>.setf Fld.LTM_UTC_LEAP59 (bits fl 3 3) |>.setf Fld.LTM_UTC_LEAP61 (bits fl 2 2) |>.setf Fld.LTM_UTC_UTC_VALID (bits fl 1 1)
    |>.setf Fld.LTM_UTC_UTC_OFFSET (beNat (slice b 14 2)) |>.setf Fld.LTM_CLOSURE (beNat (slice b 24 4))

end Sys2Proof.Machine
end

