-- ==== Sys2Proof/Machine/RingOps.lean ====
section
/-! DEFINITION. Breaks and ring alarms: what a hub does when it declares or learns of a break (R104 to R115). -/

namespace Sys2Proof.Machine

/-- TRK_RING_STATUS.STATE (R117). -/
def rgPlanA : Nat := 0
def rgScheduled : Nat := 1
def rgPlanB : Nat := 2
def rgChain : Nat := 3
def rgBroken : Nat := 4

/-- The ring state. -/
def Hub.ringState' (s : Hub) : Nat := s.getf Fld.TRK_RING_STATUS_STATE

/-- The broken hop that a break at port `p` of this hub means (R105). -/
def Hub.hopAt (s : Hub) (p : Nat) : Nat := if p = 1 then s.addr else if s.isHead then s.lastNode else s.addr - 1

/-- BROKEN_HOP and the detection tick in force (R117). Log entry 36 (DEDUCED). -/
def Hub.showBreak (b d : Nat) (s : Hub) : Hub :=
  s |>.setf Fld.TRK_RING_STATUS_BROKEN_HOP b |>.setf Fld.TRK_RING_DETECT_LO (d % 2 ^ 32) |>.setf Fld.TRK_RING_DETECT_HI (d / 2 ^ 32)

/-- The break known becomes this one; CLOSURE is 0 from then on (R190). Log entries 36 (DEDUCED), 168 (DESIGN CHOICE). -/
def Hub.setBreak (b d rep entry : Nat) (s : Hub) : Hub :=
  (({ s with ring := { s.ring with brk := some ⟨b, d, rep, entry⟩ } } : Hub).showBreak b d).setf Fld.LTM_CLOSURE 0

/-- A node that learns of a break reaches the head by the side away from the broken hop (R102). -/
def Hub.turnHeadPort (b : Nat) (s : Hub) : Hub :=
  if s.isHead then s else { s with ring := { s.ring with headPort := some (if s.addr ≤ b then 0 else 1) } }

/-- The switch at S ≥ D that the hub has made and is to revert, if there is one (R114). -/
def Hub.revertFor (s : Hub) (d : Nat) : Option PrevEpoch := s.plan.prev.filter (fun v => decide (d ≤ v.at'))

/-- What a scheduled D means for switches: one armed for S ≥ D is cancelled (R114), and where one already made is to be reverted the
domains start their exits (R144). -/
def Hub.breakCancels (d : Nat) (s : Hub) : Hub :=
  let s1 := s.cancelArm d
  if (s.revertFor d).isSome then s1.leaveSteps else s1

/-- Plan B is scheduled for D + 8, or for the next boundary when that is not in the future (R111). -/
def Hub.schedule (b d rep : Nat) (s : Hub) : Hub :=
  let late := decide (d + 8 ≤ s.tick)
  let entry := if late then s.tick + 1 else d + 8
  let s1 := ((s.setBreak b d rep entry).setf Fld.TRK_RING_STATUS_STATE rgScheduled).breakCancels d
  if late then (s1.setf Fld.TRK_RING_STATUS_LATE 1).raise Evt.TRK_ALARM_LATE [b, entry - (d + 8)] else s1

/-- The first accepted alarm or sync report of a broken hop raises TRK_RING_ALARM (R116). -/
def Hub.noteReport (b d rep : Nat) (s : Hub) : Hub :=
  if s.ring.alarmed.contains b then s
  else ({ s with ring := { s.ring with alarmed := s.ring.alarmed ++ [b] } } : Hub).raise Evt.TRK_RING_ALARM [b, rep, d]

/-- A ring hub in a loaded plan learns of a break (R111): the first schedules plan B, an earlier D of the same hop moves it, another
hop changes nothing. -/
def Hub.ringBreak (b d rep : Nat) (note : Hub → Hub) (s : Hub) : Hub :=
  let st := s.ringState'
  if st = rgScheduled ∨ st = rgPlanB then
    match s.ring.brk with
    | none => s
    | some k =>
      if k.hop ≠ b then (s.setf Fld.TRK_RING_STATUS_SECOND 1).raise Evt.TRK_SECOND_BREAK [b, rep]
      else if st = rgScheduled ∧ d < k.detect then note ((s.setBreak b d rep (max (d + 8) (s.tick + 1))).breakCancels d)
      else note s
  else note (s.schedule b d rep)

/-- A hub in the transparent plan learns of a break. It has no plan B of its own (R146), but in a ring a switch armed for S ≥ D is
cancelled, and one made from a ring's loaded plan is reverted at D + 8 (R114). -/
def Hub.transparentBreak (b d rep : Nat) (s : Hub) : Hub :=
  let newer := match s.ring.brk with
    | none => true
    | some k => k.hop == b && decide (d < k.detect)
  let back := match s.revertFor d with
    | none => false
    | some v => !v.transparent && (match Tab.get? v.bank s.plan.banks with
      | some c => c.ring
      | none => false)
  if newer && back then s.schedule b d rep
  else
    let s1 := if s.ring.brk.isNone then s.setBreak b d rep 0 else s
    if s.flag Fld.TRK_RING_STATUS_RING then s1.cancelArm d else s1

/-- The hub learns of a break of hop `b` detected in tick `d` by `rep`; `own` when it declared it itself (R111, R114, R115). In a chain
the first break known is the one shown. Log entries 36 (DEDUCED), 168 (DESIGN CHOICE). -/
def Hub.learnBreak (b d rep : Nat) (own : Bool) (s : Hub) : Hub :=
  let note (t : Hub) : Hub := if own then t else t.noteReport b d rep
  match s.actSec with
  | some c =>
    if c.ring then s.ringBreak b d rep note
    else if s.ring.brk.isNone then
      note (((s.setBreak b d rep 0).setf Fld.TRK_RING_STATUS_STATE rgBroken).turnHeadPort b)
    else note s
  | none => note (s.transparentBreak b d rep)

/-! Alarms (R108, R109). -/

/-- The epoch active in tick D − 1 (R109). -/
def Hub.epochBefore (s : Hub) (d : Nat) : Nat :=
  match s.plan.prev with
  | some v => if d ≤ v.at' then v.epoch else s.getf Fld.PLN_ACTIVE_EPOCH
  | none => s.getf Fld.PLN_ACTIVE_EPOCH

/-- The payload of a ring alarm before its TAG (R109). -/
def alarmBody (a : OwnAlarm) (rep kid cnt : Nat) : List Byte :=
  padTo 248 (beBytes 2 rep ++ beBytes 1 a.brkPort ++ beBytes 1 kid ++ beBytes 4 cnt ++ beBytes 8 a.detect ++ beBytes 2 a.hop
    ++ beBytes 2 a.copy ++ beBytes 4 a.epoch)

/-- A copy of an own alarm as a cell (R109). -/
def Hub.alarmCell (a : OwnAlarm) (s : Hub) : HopCell × Hub :=
  let (q, cnt, s1) := s.nextSeq tnAlarm
  let (kid, key) := s1.txKey
  let hdr := mkHdr tnAlarm q s1.addr 255 true true false false 0 6 255
  let pay := alarmBody a s1.addr kid cnt
  (⟨0, hdr, pay ++ padTo 8 (cellTag key hdr pay), false⟩, s1)

/-- An alarm cell is staged for port `o`'s outbound alarm slot. -/
def Hub.stageAlarm (o : Nat) (c : HopCell) (s : Hub) : Hub :=
  { s with ring := { s.ring with alarmOut := Tab.put o c s.ring.alarmOut } }

/-- A hub that declares a break at port `p` in tick D has an alarm to send out of the other port (R108). -/
def Hub.queueAlarm (p : Nat) (s : Hub) : Hub :=
  if s.hasAddr then
    let a : OwnAlarm := ⟨otherPort p, p, s.hopAt p, s.tick, s.epochBefore s.tick, 0⟩
    { s with ring := { s.ring with own := s.ring.own ++ [a] } }
  else s

/-- The next copy of an own alarm for port `o`, staged; after COPY 2 the alarm is done (R108). Log entry 31 (DEDUCED). -/
def Hub.sendAlarm (o : Nat) (s : Hub) : Hub :=
  if (Tab.get? o s.ring.alarmOut).isSome then s
  else
    match s.ring.own.find? (fun a => a.port == o) with
    | none => s
    | some a =>
      let (c, s1) := s.alarmCell a
      let own := if 2 ≤ a.copy then s.ring.own.erase a
        else s.ring.own.map (fun x => if x = a then { x with copy := x.copy + 1 } else x)
      ({ s1 with ring := { s1.ring with own := own } } : Hub).stageAlarm o c

/-- An accepted alarm is acted on: the break is learnt, and the head queues each (reporter, D) once for relay (R108, R111). Log entry 31 (DEDUCED). -/
def Hub.takeAlarm (p : Nat) (c : HopCell) (s : Hub) : Hub :=
  let rep := bits (beNat (slice c.pay 0 2)) 8 0
  let d := beNat (slice c.pay 8 8)
  let b := bits (beNat (slice c.pay 16 2)) 8 0
  let s1 := s.learnBreak b d rep false
  if s.isHead ∧ !s1.ring.relayed.contains (rep, d) then
    { s1 with ring := { s1.ring with relayed := s1.ring.relayed ++ [(rep, d)],
                                     relays := s1.ring.relays ++ [⟨otherPort p, c.hdr, c.pay, s.tick⟩] } }
  else s1

/-- The head stages the oldest relay for port `o` taken before this tick, HOPS reduced by one (R78, R108). -/
def Hub.relayAlarm (o : Nat) (s : Hub) : Hub :=
  if (Tab.get? o s.ring.alarmOut).isSome then s
  else
    match s.ring.relays.find? (fun r => r.port == o && decide (r.taken < s.tick)) with
    | none => s
    | some r =>
      ({ s with ring := { s.ring with relays := s.ring.relays.erase r } } : Hub).stageAlarm o
        ⟨0, setHops r.hdr (hHops r.hdr - 1), r.pay, false⟩

end Sys2Proof.Machine
end

