-- ==== Sys2Proof/Machine/LineTime.lean ====
section
/-! DEFINITION. The commands of line time, launches and captures, apart from those another block executes (R181 to R209). -/

namespace Sys2Proof.Machine

open Host (Outcome)

/-! Line time and the grandmaster. -/

/-- LTM_NOW_LO read at line time `t` with fraction `frac`: the other time registers latch the same instant (R183). Log entry 19 (DEDUCED). -/
def Hub.latchTime (t frac : Nat) (s : Hub) : Hub :=
  s |>.setf Fld.LTM_NOW_LO (t % 2 ^ 32) |>.setf Fld.LTM_NOW_HI (t / 2 ^ 32) |>.setf Fld.LTM_NOW_FRAC_FRAC frac
    |>.setf Fld.LTM_TICK_LO (t / tickNs % 2 ^ 32) |>.setf Fld.LTM_TICK_HI (t / tickNs / 2 ^ 32)

/-- LINE_TIME_READ: line time has reached `t` ns and `frac` / 2^16 ns when the read is served (R183). -/
def execLineTimeRead (t frac : Nat) (s : State) : Outcome State Fault Refusal := s.on fun s =>
  let s1 := s.advanceFrac (t * fracUnit + frac)
  ((s1.latchTime s1.now s1.nowFrac).emit (.readData 0x050004 (s1.now % 2 ^ 32)))

/-- GM_SOURCE_MEASURE: the head, with PTP as its source, measures the error `e` in ns while the time of the source, whose
grandmaster has clock identity `clock`, is `ptp` ns (R184 to R187, R193). Log entry 56 (DEDUCED). -/
def execGmSourceMeasure (e : Int) (ptp : Nat) (clock : BitVec 64) (s : State) : Outcome State Fault Refusal := s.on fun s =>
  if s.isHead ∧ s.time.started ∧ s.gmSource = 1 then
    let s1 := s.sourceMeasure e (ptp - s.now) true
    { s1 with time := { s1.time with clock := clock.toNat } }
  else s

/-- The phase error of mapped time at a PPS edge: the distance to the nearest whole second (R184). -/
def Hub.ppsError (s : Hub) (t : Nat) : Int :=
  let m := s.mapped t % 1000000000
  if m ≤ 500000000 then -(m : Int) else 1000000000 - (m : Int)

/-- PPS_IN_EDGE: a rising edge at line time `t` marks a whole second of mapped time (R184); at the first lock ORIGIN_NS makes it
so (R185). -/
def execPpsInEdge (t : Nat) (s : State) : Outcome State Fault Refusal := s.on fun s =>
  let s1 := s.advance t
  if s1.isHead ∧ s1.time.started ∧ s1.gmSource = 2 then
    let secs := s1.getf Fld.LTM_ORIGIN_SEC_HI * 2 ^ 32 + s1.getf Fld.LTM_ORIGIN_SEC_LO
    (s1.sourceMeasure (s1.ppsError t) (secs * 1000000000 + (1000000000 - t % 1000000000) % 1000000000) false)
  else s1

/-- GM_HOLDOVER_TIMEOUT: 3 s without a valid source measurement (R187). -/
def execGmHoldoverTimeout (s : State) : Outcome State Fault Refusal := s.on fun s =>
  if s.isHead ∧ s.timeLocked ∧ s.gmSource ≠ 3 ∧ s.time.lastMeas + 3000000000 ≤ s.up then
    let s1 := (s.setTimeState tmHoldover).raise Evt.LTM_HOLDOVER [s.gmSource]
    { s1 with time := { s1.time with holdSince := s.up } }
  else s

/-- GM_HOLDOVER_LIMIT: HOLD_MAX seconds in HOLDOVER (R187). -/
def execGmHoldoverLimit (s : State) : Outcome State Fault Refusal := s.on fun s =>
  let sec := (s.up - s.time.holdSince) / 1000000000
  if s.isHead ∧ s.timeState = tmHoldover ∧ s.getf Fld.LTM_GM_CFG_HOLD_MAX ≤ sec then
    ((s.setTimeState tmHoldLimit).raise Evt.LTM_HOLDOVER_LIMIT [sec])
  else s

/-- GM_SOURCE_WRITE: a write of LTM_GM_CFG (R187, R211). -/
def execGmSourceWrite (v : Word) (s : State) : Outcome State Fault Refusal := s.on fun s => (s.writeGmCfg v.toNat)

/-- ORIGIN_WRITE: a write of LTM_ORIGIN_SEC_LO (0), _SEC_HI (1) or _NS (2) (R185). -/
def execOriginWrite (i : Fin 3) (v : Word) (s : State) : Outcome State Fault Refusal := s.on fun s => (s.writeOrigin i v.toNat)

/-- Tag of the free values of the head's filtered U-port θ. Log entry 170 (DESIGN CHOICE). -/
def freeTagClosure : Nat := 7

/-- CLOSURE_UPDATE: once per second in an unbroken ring the head adds its filtered U-port θ, in ps; at any other time CLOSURE is 0 (R190).
The spec states no filter, so the filtered θ is a free value. Log entry 170 (DESIGN CHOICE). -/
def execClosureUpdate (s : State) : Outcome State Fault Refusal := s.on fun s =>
  if !s.isHead then s
  else if s.ringWhole then
    let (theta, s1) := s.free freeTagClosure
    (s1.setf Fld.LTM_CLOSURE (enc 32 (sgn 32 (s1.getf Fld.LTM_CLOSURE) + sgn 32 theta)))
  else (s.setf Fld.LTM_CLOSURE 0)

/-- TIME_ANNOUNCE_RECEIVE: a node takes the announcement waiting in queue 5 (R161, R193). -/
def execTimeAnnounceReceive (s : State) : Outcome State Fault Refusal := s.on fun s =>
  match s.takeMsg 5 [1] with
  | (none, t) => t
  | (some m, t) => if t.isHead then t else (t.takeAnnounce (padTo 32 m.body))

/-! TIO pins. -/

/-- TIO_LEVEL_WRITE: a write of LTM_TIO_LEVEL (R195). -/
def execTioLevelWrite (v : Word) (s : State) : Outcome State Fault Refusal := s.on fun s => (s.writeTioLevel v.toNat)

/-- TIO_MODE_CHANGE: a write of LTM_TIO_CFG_n (R195, R196). -/
def execTioModeChange (n : Fin 32) (v : Word) (s : State) : Outcome State Fault Refusal := s.on fun s => (s.writeTioCfg n v.toNat)

/-- The flags of a capture record (R206). -/
def Hub.captureFlags (s : Hub) (P : TioPin) (level : Bool) : Nat :=
  b2n (s.timeState == tmFree) * 16 + b2n (s.gmState % 16 != 0) * 8 + b2n P.missed * 4 + b2n level * 2 + b2n level

/-- The record of an edge of pin `n` at `t` (R206). -/
def Hub.captureRecord (s : Hub) (n t : Nat) (level : Bool) : List Byte :=
  let P := s.pin n
  beBytes 8 t ++ beBytes 1 n ++ beBytes 1 (s.captureFlags P level) ++ beBytes 2 P.seq ++ zeros 4

/-- How long an input must hold, in ns (R196). -/
def filterNs (code : Nat) : Nat :=
  match code with
  | 1 => 8
  | 2 => 100
  | 3 => 1000
  | _ => 0

/-- TIO_CAPTURE: the ball of pin `n` changed to level `high` at line time `t` and has held for FILTER since (R196, R206). -/
def execTioCapture (n : Fin 32) (high : Bool) (t : Nat) (s : State) : Outcome State Fault Refusal := s.on fun s =>
  let s0 := s.advance (t + filterNs (s.getf (Fld.LTM_TIO_CFG_FILTER n)))
  let level := high != s.flag (Fld.LTM_TIO_CFG_POL n)
  let P := s0.pin n
  let s1 := s0.setPin n { P with ball := high }
  let sel := s.getf (Fld.LTM_TIO_CFG_EDGES n)
  if s.getf (Fld.LTM_TIO_CFG_MODE n) ≠ 2 ∨ P.ball = high ∨ !(if level then bit sel 0 else bit sel 1) then s1
  else if (match P.lastEdge with | none => false | some e => decide (t < e + 8)) then
    (s1.setPin n { P with ball := high, missed := true })
  else
    let q := 16 + n.val / 8
    let s2 := s1.produce q .capture { data := s1.captureRecord n t level }
    let took := decide ((s1.queue q).occ < (s2.queue q).occ)
    let s3 := s2.setPin n { P with ball := high, lastEdge := some t, missed := false, seq := (P.seq + 1) % 65536 }
    (if took then s3.count Cnt.LTM_CNT_CAPTURES 1 else s3)

/-! Launches. -/

/-- A launch record or cancel as it lies in queue 6, marked with its source. Log entry 55 (DESIGN CHOICE). -/
def postBytes (p : LaunchPost) : List Byte :=
  let src := match p.src with
    | .own id => beBytes 1 0 ++ beBytes 2 0 ++ beBytes 2 id
    | .msg h id => beBytes 1 1 ++ beBytes 2 h ++ beBytes 2 id
  beBytes 1 (b2n p.cancel) ++ src ++ zeros 2 ++ p.bytes

/-- What `postBytes` wrote, read back. Log entry 55 (DESIGN CHOICE). -/
def readPost (b : List Byte) : LaunchPost :=
  let id := beNat (slice b 4 2)
  { src := if byteAt b 1 = 0 then .own id else .msg (beNat (slice b 2 2)) id, bytes := b.drop 8, cancel := byteAt b 0 == 1, at' := 0 }

/-- The oldest record waiting to be posted in this tick's loop goes into queue 6; a launch record that queue 6 refuses completes
NO_SLOT, and a cancel CANCEL_REFUSED (R199). -/
def Hub.postLaunch (s : Hub) : Hub :=
  match s.time.toPost with
  | [] => s
  | p :: ps =>
    if s.tick < p.at' then s
    else
      let s1 : Hub := { s with time := { s.time with toPost := ps } }
      let s2 := s1.produce 6 .fw { data := postBytes p }
      if (s1.queue 6).pkts.length < (s2.queue 6).pkts.length then s2
      else if p.cancel then
        s2.holdDone { cancel := true, status := lsCancelRefused, slot := beNat (slice p.bytes 0 2),
                      cookie := beNat (slice p.bytes 8 8), f := 0, src := p.src }
      else s2.launchRefused (readLaunch p.bytes p.src) lsNoSlot

/-- LAUNCH_RECORD_POST (R199). -/
def execLaunchRecordPost (s : State) : Outcome State Fault Refusal := s.on fun s => s.postLaunch

/-- The record at the head of queue 6. -/
def Hub.queue6 (s : Hub) : Option LaunchPost := (s.headPkt 6).map (fun p => readPost (s.pktBytes p))

/-- LAUNCH_ADMIT: the launch engine takes a launch record from queue 6 and admits it at line time `t` (R199, R200). -/
def execLaunchAdmit (t : Nat) (s : State) : Outcome State Fault Refusal := s.on fun s =>
  let s1 := s.advance t
  match s1.queue6 with
  | none => s1
  | some p => if p.cancel then s1 else ((s1.popPkt 6).admitLaunch (readLaunch p.bytes p.src))

/-- A cancel of SLOT `slot` with COOKIE `cookie` (R203). -/
def Hub.cancelLaunch (slot cookie : Nat) (src : LaunchSrc) (s : Hub) : Hub :=
  let ok := match Tab.get? slot s.time.launches with
    | none => false
    | some l => l.cookie == cookie && !l.handed
  let s1 := if ok then s.launchDone slot lsCancelled 0 else s
  s1.holdDone { cancel := true, status := if ok then lsOk else lsCancelRefused, slot := slot, cookie := cookie, f := 0, src := src }

/-- LAUNCH_CANCEL_ADMIT: the launch engine takes a LAUNCH_CANCEL from queue 6 (R203). -/
def execLaunchCancelAdmit (s : State) : Outcome State Fault Refusal := s.on fun s =>
  match s.queue6 with
  | none => s
  | some p =>
    if p.cancel then ((s.popPkt 6).cancelLaunch (beNat (slice p.bytes 0 2)) (beNat (slice p.bytes 8 8)) p.src) else s

/-- LAUNCH_HANDOVER: at F − prep the launch in SLOT `slot` is checked again and handed to its unit (R201). -/
def execLaunchHandover (slot : Fin 1024) (s : State) : Outcome State Fault Refusal := s.on fun s =>
  match Tab.get? slot s.time.launches with
  | none => s
  | some l => ((s.advance l.handAt).handover slot)

/-- The launch in SLOT `slot`, handed over, when its action is `a`. -/
def Hub.due (s : Hub) (slot a : Nat) : Option Launch :=
  (Tab.get? slot s.time.launches).filter (fun l => l.handed && l.action == a)

/-- A launch on Ethernet port `p` with the same F was admitted before `l` and is still pending: `l` leaves after it (R201). -/
def Hub.ethBefore (s : Hub) (l : Launch) : Bool :=
  s.time.launches.any (fun e => (e.2.action == 0x20 || e.2.action == 0x40) && e.2.port == l.port && e.2.f == l.f
    && decide (e.2.order < l.order))

/-- A TIO launch's edge: the pin goes to `on`, or the launch fails because the pin has left MODE 1 (R195). -/
def Hub.tioEdge (slot : Nat) (l : Launch) (on : Bool) (s : Hub) : Hub :=
  let s1 := s.advance l.f
  if s1.pinOut l.pin && !l.dead then (s1.launchEdge l.pin on l.f).launchRan slot l.f else s1.launchDone slot lsBadTarget l.f

/-- TIO_SET: at T the pin goes active (R198). -/
def execTioSet (slot : Fin 1024) (s : State) : Outcome State Fault Refusal := s.on fun s =>
  match s.due slot 0x01 with
  | none => s
  | some l => (s.tioEdge slot l true)

/-- TIO_CLEAR: at T the pin goes inactive (R198). -/
def execTioClear (slot : Fin 1024) (s : State) : Outcome State Fault Refusal := s.on fun s =>
  match s.due slot 0x02 with
  | none => s
  | some l => (s.tioEdge slot l false)

/-- TIO_PULSE: at T the pin goes active for WIDTH (R198). -/
def execTioPulse (slot : Fin 1024) (s : State) : Outcome State Fault Refusal := s.on fun s =>
  match s.due slot 0x03 with
  | none => s
  | some l =>
    if l.fired then s
    else
      let s1 := s.advance l.f
      if s1.pinOut l.pin && !l.dead then ((s1.launchEdge l.pin true l.f).setLaunch slot { l with fired := true })
      else (s1.launchDone slot lsBadTarget l.f)

/-- TIO_PULSE_END: at T + WIDTH the pin goes inactive and the launch completes (R195, R198). -/
def execTioPulseEnd (slot : Fin 1024) (s : State) : Outcome State Fault Refusal := s.on fun s =>
  match s.due slot 0x03 with
  | none => s
  | some l =>
    if !l.fired then s
    else
      let s1 := s.advance (l.f + l.width)
      if s1.pinOut l.pin && !l.dead then ((s1.launchEdge l.pin false (l.f + l.width)).launchRan slot l.f) else (s1.launchDone slot lsBadTarget l.f)

/-- A completion as it lies in queue 7. Log entry 55 (DESIGN CHOICE). -/
def doneBytes (d : LaunchDone) : List Byte :=
  let src := match d.src with
    | .own id => beBytes 1 0 ++ beBytes 2 0 ++ beBytes 2 id
    | .msg h id => beBytes 1 1 ++ beBytes 2 h ++ beBytes 2 id
  beBytes 1 (b2n d.cancel * 2 + b2n d.silent) ++ src ++ beBytes 2 d.slot ++ beBytes 8 d.cookie ++ beBytes 8 d.f ++ beBytes 1 d.status

/-- What `doneBytes` wrote, read back. Log entry 55 (DESIGN CHOICE). -/
def readDone (b : List Byte) : LaunchDone :=
  let id := beNat (slice b 4 2)
  { cancel := bit (byteAt b 0) 1, silent := bit (byteAt b 0) 0,
    src := if byteAt b 1 = 0 then .own id else .msg (beNat (slice b 2 2)) id,
    slot := beNat (slice b 6 2), cookie := beNat (slice b 8 8), f := beNat (slice b 16 8), status := byteAt b 24 }

/-- LAUNCH_COMPLETION_POST: the oldest completion the launch engine holds goes into queue 7, once that queue accepts it (R204).
It asks only while the queue has room, so that nothing is refused. -/
def execLaunchCompletionPost (s : State) : Outcome State Fault Refusal := s.on fun s =>
  match s.time.held with
  | [] => s
  | d :: ds =>
    if s.allocate 7 = .granted ∧ !(s.queue 7).full ∧ s.qEnabled 7 then
      (({ s with time := { s.time with held := ds } } : Hub).produce 7 .launch { data := doneBytes d })
    else s

/-- The service core takes a completion from queue 7 (R203, R204): an own launch or cancel goes to its request, one of another
hub goes back in LAUNCH_DONE or LAUNCH_CANCEL_RSP; an OK under QUIET is sent to nobody. -/
def Hub.deliverDone (d : LaunchDone) (s : Hub) : Hub :=
  match d.src with
  | .own id =>
    if d.cancel then s.answer id s.addr d.status d.slot
    else s.answerLaunch id s.addr d.status d.slot d.cookie d.f d.silent
  | .msg h id =>
    if d.cancel then s.send h 0x23 id (beBytes 2 d.slot ++ beBytes 1 d.status ++ zeros 5 ++ beBytes 8 d.cookie)
    else if d.silent then s
    else s.send h 0x22 id (beBytes 1 1 ++ zeros 7 ++ beBytes 8 d.cookie ++ beBytes 8 d.f ++ beBytes 2 d.slot
      ++ beBytes 1 d.status ++ zeros 5)

/-- The oldest completion in queue 7 is delivered. -/
def Hub.takeDone (s : Hub) : Hub :=
  match s.readHead 7 with
  | (none, t) => t
  | (some p, t) => (t.popPkt 7).deliverDone (readDone (t.pktBytes p))

/-- The service loop takes every completion waiting in queue 7. -/
def Hub.drainDone (s : Hub) : Hub := (s.queue 7).pkts.foldl (fun t _ => t.takeDone) s

end Sys2Proof.Machine
end

