-- ==== Sys2Proof/Machine/Can.lean ====
section
/-! DEFINITION. CAN controllers and their mailboxes (R327 to R330, R336 to R338). -/

namespace Sys2Proof.Machine

open Host (Outcome)

/-! Mailboxes (R338). -/

/-- Controller states of FBR_CAN_STATUS (R336). -/
def canActive : Nat := 0
def canPassive : Nat := 1
def canOff : Nat := 2
def canRecovering : Nat := 3

/-- The bytes a DLC stands for: to 8, and in CAN FD on to 64 (R327). -/
def dlcBytes (fdf : Bool) (dlc : Nat) : Nat :=
  if dlc ≤ 8 then dlc
  else if !fdf then 8
  else [12, 16, 20, 24, 32, 48, 64].getD (dlc - 9) 64

/-- The released state of mailbox `m` of controller `c` (R328). -/
def Hub.mbReleased (s : Hub) (c m : Nat) : Bool :=
  if m < 32 then bit (s.getf (Fld.FBR_CAN_TXREQ_LO c)) m else bit (s.getf (Fld.FBR_CAN_TXREQ_HI c)) (m - 32)

/-- The released state of mailbox `m` becomes `on`; PENDING shows it (R336, R338). -/
def Hub.setReleased (c m : Nat) (on : Bool) (s : Hub) : Hub :=
  let f := if m < 32 then Fld.FBR_CAN_TXREQ_LO c else Fld.FBR_CAN_TXREQ_HI c
  let v := s.getf f
  let b := 2 ^ (m % 32)
  let v1 := if bit v (m % 32) = on then v else if on then v + b else v - b
  (s.setf f v1).setb (Fld.FBR_MB_STAT_PENDING c m) on

/-- The data field of mailbox `m`: 64 bytes, the first in the top of word 8 (R338); zeros where its content was discarded
(R420). -/
def Hub.mbData (s : Hub) (c m : Nat) : List Byte :=
  if s.spanBad 13 (8192 + 16 * (64 * c + m)) (8192 + 16 * (64 * c + m + 1)) then zeros 64
  else (List.range 16).flatMap (fun j => beBytes 4 (s.getf (Fld.FBR_MB_DATA c m j)))

/-- The read path passes over the data field of mailbox `m` (R420). -/
def Hub.mbTouch (c m : Nat) (s : Hub) : Hub := s.spanTouch 13 (8192 + 16 * (64 * c + m)) (8192 + 16 * (64 * c + m + 1))

/-- The data field of mailbox `m` begins with `bs`; the rest is unchanged. -/
def Hub.setMbData (c m : Nat) (bs : List Byte) (s : Hub) : Hub :=
  let all := splice (s.mbData c m) 0 (bs.take 64)
  (List.range 16).foldl (fun t j => t.setf (Fld.FBR_MB_DATA c m j) (beNat (slice all (4 * j) 4)))
    (s.spanEnd 13 (8192 + 16 * (64 * c + m)) (8192 + 16 * (64 * c + m + 1)))

/-- The data bytes that the DLC of mailbox `m` gives (R333). -/
def Hub.mbLen (s : Hub) (c m : Nat) : Nat :=
  dlcBytes (s.flag (Fld.FBR_MB_CTL_FDF c m)) (s.getf (Fld.FBR_MB_CTL_DLC c m))

/-- The frame a TX mailbox holds now (R328, R338). -/
def Hub.mbFrame (s : Hub) (c m : Nat) : CanFrame :=
  let fdf := s.flag (Fld.FBR_MB_CTL_FDF c m)
  let rtr := s.flag (Fld.FBR_MB_CTL_RTR c m) && !fdf
  { ide := s.flag (Fld.FBR_MB_CFG_IDE c m), fdf := fdf, brs := s.flag (Fld.FBR_MB_CTL_BRS c m), rtr := rtr,
    id := s.getf (Fld.FBR_MB_CFG_ID c m), dlc := s.getf (Fld.FBR_MB_CTL_DLC c m),
    data := if rtr then [] else (s.mbData c m).take (s.mbLen c m) }

/-! Sending (R328). -/

/-- The key of mailbox `m` of controller `c` in the bridge's tables. Log entry 113 (DEDUCED). -/
def mbKey (c m : Nat) : Nat := 64 * c + m

/-- The arbitration field of a frame as a number: the lower wins (R328). -/
def canArb (f : CanFrame) : Nat :=
  if f.ide then bits f.id 28 18 * 2 ^ 21 + 2 ^ 20 + 2 ^ 19 + bits f.id 17 0 * 2 + b2n f.rtr
  else f.id % 2 ^ 11 * 2 ^ 21 + b2n f.rtr * 2 ^ 20

/-- The frame mailbox `m` offers: the one latched, else the one it holds (R328). Log entry 113 (DEDUCED). -/
def Hub.offered (s : Hub) (c m : Nat) : CanFrame := Tab.getD s.fbr.latched (mbKey c m) (s.mbFrame c m)

/-- Controller `c` may send: enabled, not listening only, and neither bus-off nor recovering (R330, R337). Log entry 113 (DEDUCED). -/
def Hub.canSends (s : Hub) (c : Nat) : Bool :=
  s.atL0 dFBR && s.flag (Fld.FBR_CAN_CFG_EN c) && !s.flag (Fld.FBR_CAN_CFG_LISTEN_ONLY c)
    && decide (s.getf (Fld.FBR_CAN_STATUS_STATE c) < canOff)

/-- Mailbox `m` takes part in arbitration. Log entry 113 (DEDUCED). -/
def Hub.mbReady (s : Hub) (c m : Nat) : Bool :=
  s.mbReleased c m && s.flag (Fld.FBR_MB_CFG_EN c m) && s.flag (Fld.FBR_MB_CFG_DIR c m)
    && (!(s.offered c m).fdf || s.flag (Fld.FBR_CAN_CFG_FD_EN c))

/-- Among released mailboxes the one whose frame would win arbitration, the lower on a tie (R328). -/
def Hub.canWinner (s : Hub) (c : Nat) : Option Nat :=
  ((List.range 64).filter (fun m => s.mbReady c m)).foldl (fun (a : Option Nat) m =>
    match a with
    | none => some m
    | some b => if canArb (s.offered c m) < canArb (s.offered c b) then some m else a) none

/-- A free controller starts an attempt: the winner's frame is latched at its first (R328). Log entry 114 (DEDUCED). -/
def Hub.canStart (c : Nat) (s : Hub) : Hub :=
  if !s.canSends c || (Tab.get? c s.fbr.canNow).isSome then s
  else
    match s.canWinner c with
    | none => s
    | some m =>
      let f := s.offered c m
      let s1 := s.mbTouch c m
      ({ s1 with fbr := { s1.fbr with canNow := Tab.put c m s1.fbr.canNow, latched := Tab.put (mbKey c m) f s1.fbr.latched } }
        : Hub).setf (Fld.FBR_MB_STAT_BUSY c m) 1

/-- A TX mailbox is released; one released already changes nothing (R328). Log entry 114 (DEDUCED). -/
def Hub.mbRelease (c m : Nat) (s : Hub) : Hub :=
  if s.flag (Fld.FBR_MB_CFG_DIR c m) ∧ !s.mbReleased c m then (s.setReleased c m true).canStart c else s

/-- A release of mailbox `m` ends: nothing is latched or released there. Log entry 115 (DEDUCED). -/
def Hub.mbEnd (c m : Nat) (s : Hub) : Hub :=
  (({ s with fbr := { s.fbr with latched := Tab.del (mbKey c m) s.fbr.latched } } : Hub).setReleased c m false)

/-- The CAN_TX launches waiting on mailbox `m`. -/
def Hub.canWaits (s : Hub) (c m : Nat) : List Nat := Tab.getD s.fbr.launched (mbKey c m) []

/-- The CAN_TX launches waiting on mailbox `m` end as `f` says. Log entry 115 (DEDUCED). -/
def Hub.canLaunch (c m : Nat) (f : Nat → Hub → Hub) (s : Hub) : Hub :=
  let s1 : Hub := { s with fbr := { s.fbr with launched := Tab.del (mbKey c m) s.fbr.launched } }
  (s.canWaits c m).foldl (fun t slot => f slot t) s1

/-- The controller's attempt is over. -/
def Hub.canIdle (c m : Nat) (s : Hub) : Hub :=
  ({ s with fbr := { s.fbr with canNow := Tab.del c s.fbr.canNow } } : Hub).setf (Fld.FBR_MB_STAT_BUSY c m) 0

/-- The line time of a mailbox's frame (R338). -/
def Hub.setMbTime (c m t : Nat) (s : Hub) : Hub := s.set64 (Fld.FBR_MB_TIME_LO c m) (Fld.FBR_MB_TIME_HI c m) t

/-- An error counter's register holds at 255 (R336). Log entry 112 (PRESUMED). -/
def hold255 (n : Nat) : Nat := min 255 n

/-- CAN_TX_DONE: the attempt of controller `c` ends: 0 sent without error, its start-of-frame bit at line time `sof`; 1 an error;
2 arbitration lost (R328). Log entry 112 (PRESUMED). -/
def execCanTxDone (c : Fin 4) (res : Fin 3) (sof : Nat) (s : State) : Outcome State Fault Refusal := s.on fun s =>
  match Tab.get? c s.fbr.canNow with
  | none => s
  | some m =>
    let s1 := (s.advance sof).canIdle c m
    let tec := s.getf (Fld.FBR_CAN_STATUS_TEC c)
    if res.val = 0 then
      let s2 := (((s1.emit (.canFrame c (s.offered c m) sof)).mbEnd c m).setMbTime c m sof).setf (Fld.FBR_CAN_STATUS_TEC c) (tec - 1)
      ((s2.canLaunch c m (fun slot t => t.launchRan slot sof)).canStart c)
    else
      let s2 := if res.val = 1 then s1.setf (Fld.FBR_CAN_STATUS_TEC c) (hold255 (tec + 8)) else s1
      if s.flag (Fld.FBR_CAN_CFG_ONE_SHOT c) then
        ((((s2.mbEnd c m).count Cnt.FBR_CNT_CAN_TX_FAIL 1).canLaunch c m
          (fun slot t => t.launchDone slot lsUnavailable 0)).canStart c)
      else (s2.canStart c)

/-- CAN_TXREQ: a write of FBR_CAN_TXREQ_LO_c or _HI_c releases mailboxes (R328, R336). -/
def Hub.writeTxreq (c : Nat) (hi : Bool) (v : Nat) (s : Hub) : Hub :=
  (List.range 32).foldl (fun t i => if bit v i then t.mbRelease c (if hi then 32 + i else i) else t) s

/-- CAN_TXREQ (R328). -/
def execCanTxreq (c : Fin 4) (hi : Bool) (v : Word) (s : State) : Outcome State Fault Refusal := s.on fun s =>
  (s.writeTxreq c hi v.toNat)

/-- CAN_TX: at T the launch in SLOT `slot` releases its mailbox; a controller that is bus-off withdraws it (R198, R328). -/
def execCanTx (slot : Fin 1024) (s : State) : Outcome State Fault Refusal := s.on fun s =>
  match s.due slot 0x10 with
  | none => s
  | some l =>
    if l.fired then s
    else
      let s1 := s.advance l.f
      if canOff ≤ s1.getf (Fld.FBR_CAN_STATUS_STATE l.ctrl) then (s1.launchDone slot lsUnavailable 0)
      else
        let s2 := s1.setLaunch slot { l with fired := true }
        (({ s2 with fbr := { s2.fbr with launched := Tab.put (mbKey l.ctrl l.mbox) (s2.canWaits l.ctrl l.mbox ++ [slot.val]) s2.fbr.launched } }
          : Hub).mbRelease l.ctrl l.mbox)

/-! Receiving (R329). -/

/-- A frame suits an RX mailbox (R329). -/
def Hub.mbTakes (s : Hub) (c m : Nat) (f : CanFrame) : Bool :=
  let k := s.getf (Fld.FBR_MB_MASK_MASK c m)
  s.flag (Fld.FBR_MB_CFG_EN c m) && !s.flag (Fld.FBR_MB_CFG_DIR c m) && s.flag (Fld.FBR_MB_CFG_IDE c m) == f.ide
    && (f.id &&& k) == (s.getf (Fld.FBR_MB_CFG_ID c m) &&& k) && s.flag (Fld.FBR_MB_CTL_FDF c m) == f.fdf

/-- The packet of a frame for a receive queue (R329). -/
def rxqPacket (f : CanFrame) (m t : Nat) : List Byte :=
  beBytes 8 t ++ beBytes 4 (b2n f.ide * 2 ^ 31 + b2n f.fdf * 2 ^ 30 + b2n f.brs * 2 ^ 29 + f.id % 2 ^ 29) ++ beBytes 1 f.dlc
    ++ beBytes 1 m ++ beBytes 1 (b2n f.rtr * 128 + b2n f.esi * 64) ++ zeros 1

/-- A frame is stored in mailbox `m` (R329). Log entry 116 (DEDUCED). -/
def Hub.canStore (c m t : Nat) (f : CanFrame) (bs : List Byte) (s : Hub) : Hub :=
  let s1 := ((s.setMbData c m bs).setMbTime c m t).setf (Fld.FBR_MB_STAT_LOST c m)
    (if s.flag (Fld.FBR_MB_STAT_NEW c m) then 1 else s.getf (Fld.FBR_MB_STAT_LOST c m))
  let s2 := (s1.setf (Fld.FBR_MB_STAT_NEW c m) 1).mapInput { kind := 3, sel := mbKey c m, frame := bs, time := s.now }
  if s.flag (Fld.FBR_MB_CTL_RXQ c m) && s.flag (Fld.FBR_CAN_CFG_RXQ_EN c) then
    s2.produce (s.getf (Fld.FBR_CAN_CFG_RXQ c)) (.can c) { data := rxqPacket f m t ++ bs }
  else s2

/-- CAN_FRAME_RECEIVE: a frame is received without error on CANc, its start-of-frame bit at line time `sof` (R329). -/
def execCanFrameReceive (c : Fin 4) (frame : CanFrame) (sof : Nat) (s : State) : Outcome State Fault Refusal := s.on fun s0 =>
  let s := s0.advance sof
  let st := s.getf (Fld.FBR_CAN_STATUS_STATE c)
  if !s.atL0 dFBR ∨ !s.flag (Fld.FBR_CAN_CFG_EN c) ∨ canOff ≤ st ∨ (frame.fdf ∧ !s.flag (Fld.FBR_CAN_CFG_FD_EN c)) then s
  else
    let n := if frame.rtr && !frame.fdf then 0 else dlcBytes frame.fdf frame.dlc
    let bs := padTo n frame.data
    let rc := s.getf (Fld.FBR_CAN_STATUS_REC c)
    let s1 := s.setf (Fld.FBR_CAN_STATUS_REC c) (if 127 < rc then 127 else rc - 1)
    match (List.range 64).find? (fun m => s1.mbTakes c m frame) with
    | none => (s1.count Cnt.FBR_CNT_CAN_NO_MB 1)
    | some m => (s1.canStore c m sof frame bs)

/-! Error states (R330). -/

/-- The releases that CAN_TX launches made at controller `c` are withdrawn, and the launches complete UNAVAILABLE (R328). Log entry 115 (DEDUCED). -/
def Hub.withdrawLaunches (c : Nat) (s : Hub) : Hub :=
  (List.range 64).foldl (fun t m =>
    if t.canWaits c m ≠ [] then
      (t.mbEnd c m).canLaunch c m (fun slot u => u.launchDone slot lsUnavailable 0)
    else t) s

/-- Controller `c` sends nothing now. -/
def Hub.canStop (c : Nat) (s : Hub) : Hub :=
  match Tab.get? c s.fbr.canNow with
  | none => s
  | some m => s.canIdle c m

/-- The error counts that go with an error state: above 127 error-passive, a TEC above 255 bus-off (R330). Log entry 112 (PRESUMED). -/
def canStateOf (tec rec' : Nat) : Nat := if 255 < tec then canOff else if 127 < tec ∨ 127 < rec' then canPassive else canActive

/-- CAN_ERROR_STATE_CHANGE: controller `c` goes to error-active (0), error-passive (1) or bus-off (2), with these error counts
(R330). Log entry 112 (PRESUMED). -/
def execCanErrorStateChange (c : Fin 4) (st : Fin 3) (tec rec' : Nat) (s : State) : Outcome State Fault Refusal := s.on fun s =>
  let was := s.getf (Fld.FBR_CAN_STATUS_STATE c)
  if !s.atL0 dFBR ∨ !s.flag (Fld.FBR_CAN_CFG_EN c) ∨ canOff ≤ was ∨ was = st.val ∨ canStateOf tec rec' ≠ st.val then s
  else
    let s1 := (s |>.setf (Fld.FBR_CAN_STATUS_TEC c) (hold255 tec) |>.setf (Fld.FBR_CAN_STATUS_REC c) (hold255 rec')).setf
      (Fld.FBR_CAN_STATUS_STATE c) st
    if st.val = canPassive then (s1.raise Evt.FBR_CAN_ERR_PASSIVE [c, hold255 tec, hold255 rec'])
    else if st.val = canOff then
      let s2 := ((s1.canStop c).withdrawLaunches c).raise Evt.FBR_CAN_BUS_OFF [c, hold255 tec]
      (if s.flag (Fld.FBR_CAN_CFG_AUTO_RECOVER c) then s2.setf (Fld.FBR_CAN_STATUS_STATE c) canRecovering else s2)
    else s1

/-- CAN_BUS_ON: recovery ends after 128 occurrences of 11 recessive bits (R330). -/
def execCanBusOn (c : Fin 4) (s : State) : Outcome State Fault Refusal := s.on fun s =>
  if s.atL0 dFBR ∧ s.flag (Fld.FBR_CAN_CFG_EN c) ∧ s.getf (Fld.FBR_CAN_STATUS_STATE c) = canRecovering then
    (((s |>.setf (Fld.FBR_CAN_STATUS_STATE c) canActive |>.setf (Fld.FBR_CAN_STATUS_TEC c) 0
      |>.setf (Fld.FBR_CAN_STATUS_REC c) 0).raise Evt.FBR_CAN_BUS_ON [c]).canStart c)
  else s

/-- A write of FBR_CAN_CFG_c (R330, R337). -/
def Hub.writeCanCfg (c v : Nat) (s : Hub) : Hub :=
  let sA := s.setf (Fld.FBR_CAN_CFG_AUTO_RECOVER c) (bits v 28 28)
  let s1 := sA |>.setf (Fld.FBR_CAN_CFG_FD_EN c) (bits v 30 30) |>.setf (Fld.FBR_CAN_CFG_ONE_SHOT c) (bits v 29 29)
    |>.setf (Fld.FBR_CAN_CFG_LISTEN_ONLY c) (bits v 27 27) |>.setf (Fld.FBR_CAN_CFG_TDC_EN c) (bits v 26 26)
    |>.setf (Fld.FBR_CAN_CFG_TDCO c) (bits v 23 16) |>.setf (Fld.FBR_CAN_CFG_RXQ_EN c) (bits v 13 13)
    |>.setf (Fld.FBR_CAN_CFG_RXQ c) (bits v 12 0)
  if s.flag (Fld.FBR_CAN_CFG_EN c) then
    let s2 := if s1.regs = sA.regs then sA else sA.lockedWrite (0x091000 + 0x20 * c) v
    if bit v 31 then s2 else (s2.setf (Fld.FBR_CAN_CFG_EN c) 0).canStop c
  else if !bit v 31 then s1
  else
    let s2 := s1.setf (Fld.FBR_CAN_CFG_EN c) 1
    if s.getf (Fld.FBR_CAN_STATUS_STATE c) = canOff then s2.setf (Fld.FBR_CAN_STATUS_STATE c) canRecovering else s2.canStart c

/-- CAN_ENABLE: a write of FBR_CAN_CFG_c (R330). -/
def execCanEnable (c : Fin 4) (v : Word) (s : State) : Outcome State Fault Refusal := s.on fun s => (s.writeCanCfg c v.toNat)

end Sys2Proof.Machine
end

