-- ==== Sys2Proof/Machine/CellPool.lean ====
section
/-! DEFINITION. The commands of "Cell pool and queues" (R156 to R180, R509). -/

namespace Sys2Proof.Machine

open Host (Outcome)

/-- CPL_QUOTA_REFUSED for a write of `v` at `off` (R166). -/
def Hub.quotaRefused (off v : Nat) (s : Hub) : Hub := s.raise Evt.CPL_QUOTA_REFUSED [off, v]

/-- The BAR0 offset of CPL_QCFG_q. -/
def qcfgOff (q : Nat) : Nat := 0x048000 + 4 * q

/-- The minimum a queue would take from profile `i` (R166). -/
def Hub.profMin (s : Hub) (i : Nat) : Nat := s.getf (Fld.CPL_QPROF_MIN_MIN i)

/-- EN of a queue cleared: it is flushed as CPL_QCTL.FLUSH does, and its read-port and implicit producer bindings are
released (R180). -/
def Hub.disableQ (q : Nat) (s : Hub) : Hub :=
  let s1 := s.flushClear q
  let s2 := match (s1.queue q).cons with
    | some (.port p) => s1.portRelease p
    | _ => s1
  let Q := s2.queue q
  (s2.setQueue q (if Q.prodImplicit then { Q with prod := none, prodImplicit := false } else Q)).setf (Fld.CPL_QCFG_EN q) 0

/-- A write of CPL_QCFG_q (R166, R180). -/
def Hub.writeQcfg (q : Nat) (v : Nat) (s : Hub) : Hub :=
  if q < 20 then s
  else
    let en := bit v 31
    let kind := bits v 30 30
    let prof := bits v 23 16
    if s.qEnabled q then
      let differs := kind != s.getf (Fld.CPL_QCFG_KIND q) || prof != s.getf (Fld.CPL_QCFG_PROFILE q)
      let s1 := if en then s else s.disableQ q
      if differs then s1.lockedWrite (qcfgOff q) v else s1
    else if en then
      if poolCondition s.pool.carve s.pendCarve (s.minSum + s.profMin prof) then
        let s1 := s |>.setf (Fld.CPL_QCFG_EN q) 1 |>.setf (Fld.CPL_QCFG_KIND q) kind |>.setf (Fld.CPL_QCFG_PROFILE q) prof
        s1.poolWatch s.genShared
      else s.quotaRefused (qcfgOff q) v
    else s |>.setf (Fld.CPL_QCFG_KIND q) kind |>.setf (Fld.CPL_QCFG_PROFILE q) prof

/-- A write of CPL_QPROF_i MIN is held (R179). -/
def Hub.writeProfMin (i v : Nat) (s : Hub) : Hub :=
  { s with pool := { s.pool with heldMin := Tab.put i (bits v 17 0) s.pool.heldMin } }

/-- The sum of minimums with profile `i` at minimum `m` (R166). -/
def Hub.minSumWith (s : Hub) (i m : Nat) : Nat :=
  s.generalQs.foldl
    (fun n q => n + if decide (20 ≤ q) && s.getf (Fld.CPL_QCFG_PROFILE q) == i then m else s.qMin q) 0

/-- A write of CPL_QPROF_i MAX commits MIN and MAX together, or is refused as a whole (R166, R179). -/
def Hub.writeProfMax (i v : Nat) (s : Hub) : Hub :=
  let mx := bits v 17 0
  let mn := Tab.getD s.pool.heldMin i (s.profMin i)
  let s1 : Hub := { s with pool := { s.pool with heldMin := Tab.del i s.pool.heldMin } }
  if mn ≤ mx ∧ 1 ≤ mx ∧ mx ≤ 258048 ∧ poolCondition s.pool.carve s.pendCarve (s.minSumWith i mn) then
    (s1 |>.setf (Fld.CPL_QPROF_MIN_MIN i) mn |>.setf (Fld.CPL_QPROF_MAX_MAX i) mx).poolWatch s.genShared
  else s1.quotaRefused (0x041004 + 8 * i) v

/-- A write of CPL_QRP_SEL_p: the old binding is released first, and the queue is bound or BAD set (R173). -/
def Hub.writeQrpSel (p v : Nat) (s : Hub) : Hub :=
  let q := bits v 12 0
  let s0 := (s.portRelease p).setf (Fld.CPL_QRP_SEL_QUEUE p) q
  if s0.portRefused q then s0 |>.setf (Fld.CPL_QRP_SEL_BAD p) 1 |>.setf (Fld.CPL_QRP_SEL_BOUND p) 0
  else
    ((s0.bindCons q (.port p)).setReadPort p { s0.readPort p with queue := some q, pos := 0 })
      |>.setf (Fld.CPL_QRP_SEL_BAD p) 0 |>.setf (Fld.CPL_QRP_SEL_BOUND p) 1

/-- A write of CPL_QCTL: FLUSH flushes the selected queue, ignored for queues 0 to 7 (R178). -/
def Hub.writeQctl (v : Nat) (s : Hub) : Hub :=
  let q := s.getf Fld.CPL_QSEL_QUEUE
  if bit v 0 && decide (8 ≤ q) then s.flushClear q else s

/-- A write of CPL_GEN_LOW: bit 0 reloads it with the current gen_free (R178). -/
def Hub.writeGenLow (v : Nat) (s : Hub) : Hub := if bit v 0 then s.setf Fld.CPL_GEN_LOW s.genFree else s

/-- CELL_PRODUCE: producer `w` writes cell `c` into queue `q` (R158, R162 to R170). -/
def execCellProduce (q : Fin 8192) (w : Who) (c : PCell) (s : State) : Outcome State Fault Refusal := s.on fun s =>
  (s.produce q w c)

/-- GAP_MARKER_WRITE: a queue with a pending gap tries its marker (R168). -/
def execGapMarkerWrite (q : Fin 8192) (s : State) : Outcome State Fault Refusal := s.on fun s => (s.writeMarker q)

/-- PACKET_CONSUME: the consumer takes the oldest complete packet and frees its cells (R172, R420). -/
def execPacketConsume (q : Fin 8192) (s : State) : Outcome State Fault Refusal := s.on fun s =>
  match s.readHead q with
  | (none, t) => t
  | (some _, t) => (t.popPkt q)

/-- CARVE_CLAIM_DEADLINE: at S + 64 queues that still hold claim cells are flushed (R175). -/
def execCarveClaimDeadline (s : State) : Outcome State Fault Refusal := s.on fun s => s.carveDeadline

/-- QUEUE_FLUSH: a write `v` of CPL_QCTL (R178, R509). -/
def execQueueFlush (v : Word) (s : State) : Outcome State Fault Refusal := s.on fun s => (s.writeQctl v.toNat)

/-- QUEUE_ENABLE: a write `v` of CPL_QCFG_q that sets EN (R166). -/
def execQueueEnable (q : Fin 8192) (v : Word) (s : State) : Outcome State Fault Refusal := s.on fun s => (s.writeQcfg q v.toNat)

/-- QUEUE_DISABLE: a write `v` of CPL_QCFG_q that clears EN (R180). -/
def execQueueDisable (q : Fin 8192) (v : Word) (s : State) : Outcome State Fault Refusal := s.on fun s => (s.writeQcfg q v.toNat)

/-- QUOTA_PROFILE_MIN_WRITE: a write of CPL_QPROF_i MIN is held (R179). -/
def execQuotaProfileMinWrite (i : Fin 256) (v : Word) (s : State) : Outcome State Fault Refusal := s.on fun s =>
  (s.writeProfMin i v.toNat)

/-- QUOTA_PROFILE_COMMIT: a write of CPL_QPROF_i MAX (R166, R179). -/
def execQuotaProfileCommit (i : Fin 256) (v : Word) (s : State) : Outcome State Fault Refusal := s.on fun s =>
  (s.writeProfMax i v.toNat)

/-- POOL_LOW_RELOAD: a write of CPL_GEN_LOW (R178). -/
def execPoolLowReload (v : Word) (s : State) : Outcome State Fault Refusal := s.on fun s => (s.writeGenLow v.toNat)

/-- READ_PORT_BIND: a write of CPL_QRP_SEL_p (R173). -/
def execReadPortBind (p : Fin 16) (v : Word) (s : State) : Outcome State Fault Refusal := s.on fun s => (s.writeQrpSel p v.toNat)

/-- The BAR0 offset of CPL_QRP_DATA_p. -/
def qrpDataOff (p : Nat) : Nat := 0x040208 + 16 * p

/-- A read of CPL_QRP_DATA_p: 64 bits at once, or the low half with the high half held (R173). -/
def Hub.readQrpLow (p : Nat) (wide : Bool) (s : Hub) : Nat × Hub :=
  let (w, t) := s.portTake p
  if wide then (w, t)
  else if w = emptyWord then (w % 2 ^ 32, t)
  else (w % 2 ^ 32, t.setReadPort p { t.readPort p with high := some (w / 2 ^ 32) })

/-- A 32-bit read at DATA + 4: the held half, or the high half of the empty word (R173). -/
def Hub.readQrpHigh (p : Nat) (s : Hub) : Nat × Hub :=
  let r := s.readPort p
  match r.high with
  | none => (0x7FFFFFFF, s)
  | some h => (h, s.setReadPort p { r with high := none })

/-- READ_PORT_DATA_READ: a read of CPL_QRP_DATA_p, of 64 bits where `wide`, else of its low half (R173). -/
def execReadPortDataRead (p : Fin 16) (wide : Bool) (s : State) : Outcome State Fault Refusal := s.on fun s =>
  let (w, t) := s.readQrpLow p wide
  (t.emit (.readData (qrpDataOff p) w))

/-- READ_PORT_DATA_HIGH_READ: a 32-bit read at DATA + 4 (R173). -/
def execReadPortDataHighRead (p : Fin 16) (s : State) : Outcome State Fault Refusal := s.on fun s =>
  let (w, t) := s.readQrpHigh p
  (t.emit (.readData (qrpDataOff p + 4) w))

end Sys2Proof.Machine
end

