-- ==== Sys2Proof/Machine/DisplayOps.lean ====
section
/-! DEFINITION. Shared operations of the display heads: geometry, enabling, staging, commits, apply, the freeze detector and
link training (R288 to R306). -/

namespace Sys2Proof.Machine

/-- Head `h`. -/
def Hub.dhead (s : Hub) (h : Nat) : DspHead := Tab.getD s.dsp.heads h {}

/-- The state with head `h` as `H`, its list and staging use shown in the registers (R307, R308). -/
def Hub.setDhead (h : Nat) (H : DspHead) (s : Hub) : Hub :=
  ({ s with dsp := { s.dsp with heads := Tab.put h H s.dsp.heads } } : Hub)
    |>.setf (Fld.DSP_HEAD_STATUS_PEND h) H.commits.length
    |>.setf (Fld.DSP_HEAD_STATUS_HELD h) (H.commits.filter (fun c => c.own.isNone)).length
    |>.setf (Fld.DSP_STAGE_USED h) H.used

/-- Head states of DSP_HEAD_STATUS.STATE (R308). -/
def dsOff : Nat := 0
def dsWaitSink : Nat := 1
def dsTraining : Nat := 2
def dsScanout : Nat := 3
def dsNoBandwidth : Nat := 4
def dsNoMemory : Nat := 5

/-- The state of head `h`. -/
def Hub.dspState (s : Hub) (h : Nat) : Nat := s.getf (Fld.DSP_HEAD_STATUS_STATE h)

/-! Geometry (R291 to R295). -/

def Hub.hact (s : Hub) (h : Nat) : Nat := s.getf (Fld.DSP_H_TIMING_HACT h)
def Hub.htotal (s : Hub) (h : Nat) : Nat := s.getf (Fld.DSP_H_TIMING_HTOTAL h)
def Hub.vact (s : Hub) (h : Nat) : Nat := s.getf (Fld.DSP_V_TIMING_VACT h)
def Hub.vtotal (s : Hub) (h : Nat) : Nat := s.getf (Fld.DSP_V_TIMING_VTOTAL h)
def Hub.pclk (s : Hub) (h : Nat) : Nat := s.getf (Fld.DSP_PCLK_PCLK h)
def Hub.dspFormat (s : Hub) (h : Nat) : Nat := s.getf (Fld.DSP_HEAD_CFG_FORMAT h)
def Hub.lockK (s : Hub) (h : Nat) : Nat := s.getf (Fld.DSP_LOCK_K h)
def Hub.lockPhase (s : Hub) (h : Nat) : Nat := s.getf (Fld.DSP_LOCK_PHASE h)
def Hub.lineLocked (s : Hub) (h : Nat) : Bool := s.flag (Fld.DSP_HEAD_CFG_LINE_LOCK h)

/-- Bytes per pixel of a FORMAT (R295). -/
def bppOf (f : Nat) : Nat := if f < 2 then 2 else if f < 4 then 3 else 4

/-- Pixel clocks of K ticks in 10^-6 clock (R304). -/
def Hub.lockClocks (s : Hub) (h : Nat) : Nat := s.lockK h * tickNs * s.pclk h

/-- V' of R304. -/
def Hub.vPrime (s : Hub) (h : Nat) : Nat := if s.htotal h = 0 then 0 else s.lockClocks h / (1000000 * s.htotal h)

/-- STRIDE (R292). -/
def Hub.stride (s : Hub) (h : Nat) : Nat := cdiv (s.hact h * bppOf (s.dspFormat h)) 64 * 64

/-- The frame buffer and staging regions as (first unit, units) (R292, R293). -/
def Hub.fbUnits (s : Hub) (h : Nat) : Nat × Nat := (s.getf (Fld.DSP_FB_UNIT h), cdiv (s.stride h * s.vact h) 65536)
def Hub.stUnits (s : Hub) (h : Nat) : Nat × Nat := (s.getf (Fld.DSP_STAGE_UNIT h), s.getf (Fld.DSP_STAGE_STAGE_SIZE h))

/-- The first bytes of the regions, and the staging area's size. -/
def Hub.fbBase (s : Hub) (h : Nat) : Nat := (s.fbUnits h).1 * 65536
def Hub.stBase (s : Hub) (h : Nat) : Nat := (s.stUnits h).1 * 65536
def Hub.stSize (s : Hub) (h : Nat) : Nat := (s.stUnits h).2 * 65536

/-- Two ranges of units overlap. -/
def overlaps (a b : Nat × Nat) : Bool := decide (a.1 < b.1 + b.2) && decide (b.1 < a.1 + a.2)

/-- A range lies within the first `u` units. -/
def within (u : Nat) (a : Nat × Nat) : Bool := decide (a.1 + a.2 ≤ u)

/-- The checks of R292, as the CAUSE of the first that refuses; 0 for none. -/
def Hub.dspRefuser (s : Hub) (h : Nat) : Nat :=
  let ha := s.hact h
  let va := s.vact h
  let ht := s.htotal h
  let vt := s.vtotal h
  let hs := s.getf (Fld.DSP_H_SYNC_HSYNC_START h)
  let hw := s.getf (Fld.DSP_H_SYNC_HSYNC_WIDTH h)
  let vs := s.getf (Fld.DSP_V_SYNC_VSYNC_START h)
  let vw := s.getf (Fld.DSP_V_SYNC_VSYNC_WIDTH h)
  let pc := s.pclk h
  let v' := s.vPrime h
  let lock := s.lineLocked h
  let vb := if lock then min vt v' else vt
  let units := s.pool.carve / 256
  let fb := s.fbUnits h
  let st := s.stUnits h
  let o := 1 - h
  let otherOn := s.flag (Fld.DSP_HEAD_CFG_EN o)
  let q := s.getf (Fld.DSP_HEAD_CFG_INQ h)
  let timing := decide (ha < 64) || decide (3840 < ha) || decide (va < 64) || decide (2160 < va) || decide (8192 < ht)
    || decide (4096 < vt) || decide (hs < ha) || decide (ht < hs + hw) || decide (vs < va) || decide (vt < vs + vw) || hw == 0
    || vw == 0 || decide (pc < 25000) || decide (300000 < pc) || decide (250000000 * (ht * vt) < ha * va * pc * 1000)
  let blanking := decide ((vb - va) * ht * 1000000 < pc * (st.2 * 4096 + 20000))
  let lockBad := lock && (s.lockK h == 0 || decide (s.lockK h ≤ s.lockPhase h) || decide (16 < v' - vt) || decide (16 < vt - v')
    || decide (v' < vs + vw + 2))
  let memory := !within units fb || !within units st || overlaps fb st || st.2 == 0 || decide (64 < st.2)
    || (otherOn && (overlaps fb (s.fbUnits o) || overlaps fb (s.stUnits o) || overlaps st (s.fbUnits o) || overlaps st (s.stUnits o)))
  let queue := decide (q < 20) || !s.qEnabled q || s.qControl q || s.consTaken q
  let domain := s.domFailed dDSP || s.domFailed (9 + h) || s.planStep dDSP != 0 || s.planStep (9 + h) != 0
  if timing then 1 else if blanking then 2 else if lockBad then 3 else if memory then 4 else if s.pool.claim.isSome then 5
  else if queue then 6 else if domain then 7 else 0

/-- Alt Mode is configured on the head's port, and its HPD is high (R289, R360). -/
def Hub.sinkThere (s : Hub) (h : Nat) : Bool := s.altMode h && s.flag (Fld.TCP_PORT_STATUS_HPD h)

/-- Staged tiles and the commit list are discarded (R294, R308). -/
def Hub.dspClear (h : Nat) (s : Hub) : Hub :=
  let H := { s.dhead h with commits := [], cur := {}, applying := [], head := 0, used := 0 }
  s.setDhead h { H with start := none, blank := none, live := false, filled := false }

/-- A head acts as with EN cleared: everything staged is discarded and INQ's binding released (R308, R410). -/
def Hub.dspIdle (h : Nat) (s : Hub) : Hub :=
  let q := s.getf (Fld.DSP_HEAD_CFG_INQ h)
  ((s.dspClear h).setDhead h {}).unbindCons q (.disp h)
    |>.setf (Fld.DSP_HEAD_STATUS_STATE h) dsOff |>.setf (Fld.DSP_HEAD_STATUS_LANES h) 0 |>.setf (Fld.DSP_HEAD_STATUS_RATE h) 0

/-- EN is cleared (R308). -/
def Hub.dspDisable (h : Nat) (s : Hub) : Hub := (s.dspIdle h).setf (Fld.DSP_HEAD_CFG_EN h) 0

/-- EN is set: the head is refused, or starts (R292, R307). -/
def Hub.dspStart (h : Nat) (s : Hub) : Hub :=
  let cause := s.dspRefuser h
  if cause ≠ 0 then s.setf (Fld.DSP_HEAD_STATUS_CAUSE h) cause
  else
    let s4 := s |>.setf (Fld.DSP_HEAD_CFG_EN h) 1 |>.setf (Fld.DSP_HEAD_STATUS_CAUSE h) 0
      |>.setf (Fld.DSP_HEAD_STATUS_STATE h) (if s.sinkThere h then dsTraining else dsWaitSink)
    (s4.bindCons (s4.getf (Fld.DSP_HEAD_CFG_INQ h)) (.disp h)).setDhead h { relock := s4.lineLocked h }

/-- A write of DSP_HEAD_CFG_h (R292, R307, R308). -/
def Hub.writeHeadCfg (h v : Nat) (s : Hub) : Hub :=
  let off := 0x080100 + 0x100 * h
  let fmt := bits v 29 27
  let lanes := bits v 24 23
  let fmtOk := decide (fmt < 6)
  let lanesOk := decide (lanes < 3)
  if s.flag (Fld.DSP_HEAD_CFG_EN h) then
    let differs := bits v 30 30 != s.getf (Fld.DSP_HEAD_CFG_LINE_LOCK h) || (fmtOk && fmt != s.dspFormat h)
      || bits v 26 25 != s.getf (Fld.DSP_HEAD_CFG_MAX_RATE h) || (lanesOk && lanes != s.getf (Fld.DSP_HEAD_CFG_MAX_LANES h))
      || bits v 12 0 != s.getf (Fld.DSP_HEAD_CFG_INQ h)
    let s1 := if differs then s.lockedWrite off v else s
    if bit v 31 then s1 else s1.dspDisable h
  else
    let s1 := s |>.setf (Fld.DSP_HEAD_CFG_LINE_LOCK h) (bits v 30 30) |>.setf (Fld.DSP_HEAD_CFG_MAX_RATE h) (bits v 26 25)
      |>.setf (Fld.DSP_HEAD_CFG_INQ h) (bits v 12 0)
    let s2 := if fmtOk then s1.setf (Fld.DSP_HEAD_CFG_FORMAT h) fmt else s1
    let s3 := if lanesOk then s2.setf (Fld.DSP_HEAD_CFG_MAX_LANES h) lanes else s2
    if !bit v 31 then s3
    else if s3.dspRefuser h ≠ 0 then (s3.dspStart h).raise Evt.DSP_CFG_REFUSED [off, v]
    else s3.dspStart h

/-- A smaller carve-out takes effect: a head whose regions end beyond it loses them (R294). -/
def Hub.dspCarve (s : Hub) : Hub :=
  [0, 1].foldl (fun t h =>
    if t.flag (Fld.DSP_HEAD_CFG_EN h) && t.dspState h != dsNoMemory
        && !(within (t.pool.carve / 256) (t.fbUnits h) && within (t.pool.carve / 256) (t.stUnits h)) then
      ((t.dspClear h).setf (Fld.DSP_HEAD_STATUS_STATE h) dsNoMemory).raise Evt.DSP_CARVE_LOST [h, t.pool.carve / 256]
    else t) s

/-! The staging ring and commits (R298 to R303). -/

/-- Bytes put into the staging ring from offset `o`. Log entry 99 (DESIGN CHOICE). -/
def Hub.stagePut (h : Nat) : (o : Nat) → (bs : List Byte) → (s : Hub) → Hub
  | _, [], s => s
  | o, b :: t, s =>
    Hub.stagePut h (o + 1) t (s.memStoreEcc (s.stBase h + (if s.stSize h = 0 then 0 else o % s.stSize h)) [b])

/-- `n` bytes of the staging ring from offset `o`. Log entry 99 (DESIGN CHOICE). -/
def Hub.stageGet (s : Hub) (h o n : Nat) : List Byte :=
  (List.range n).map (fun i => s.memByte (s.stBase h + (if s.stSize h = 0 then 0 else (o + i) % s.stSize h)))

/-- The staging bytes of a packet of `n` bytes (R293). -/
def recSize (n : Nat) : Nat := cdiv n 64 * 64

/-- The staging bytes of a set. -/
def DspSet.size (c : DspSet) (bpp : Nat) : Nat := c.tiles.foldl (fun n t => n + recSize (16 + t.w * t.h * bpp)) 0

/-- The next multiple of 8. -/
def ceil8 (n : Nat) : Nat := cdiv n 8 * 8

/-- A tile's header fields (R298). -/
def tileX (b : List Byte) : Nat := beNat (slice b 4 2)
def tileY (b : List Byte) : Nat := beNat (slice b 6 2)
def tileW (b : List Byte) : Nat := beNat (slice b 8 2)
def tileH (b : List Byte) : Nat := beNat (slice b 10 2)

/-- A tile packet the head accepts (R299). -/
def Hub.tileGood (s : Hub) (h : Nat) (b : List Byte) : Bool :=
  byteAt b 1 == s.dspFormat h && b.length == 16 + tileW b * tileH b * bppOf (s.dspFormat h)
    && decide (tileX b + tileW b ≤ ceil8 (s.hact h)) && decide (tileY b + tileH b ≤ ceil8 (s.vact h))

/-- Effective presentations in list order: the later of a commit's own and its predecessor's (R302). -/
def effOf : (prev : Option Nat) → List DspCommit → List DspCommit
  | _, [] => []
  | prev, c :: t =>
    let e := match prev, c.own with
      | some p, some o => some (max p o)
      | _, _ => none
    { c with eff := e } :: effOf e t

/-- The list with effective presentations found anew. A commit that becomes presented between a frame start and the end of its
blanking is late (R303). -/
def Hub.present (h : Nat) (cs : List DspCommit) (s : Hub) : Hub :=
  let H := s.dhead h
  let new := effOf (some 0) cs
  let late := (cs.zip new).filterMap (fun (e : DspCommit × DspCommit) => match H.blank, e.1.eff, e.2.eff with
    | some f, none, some p => if f ≤ p then some (e.2.id, p - f) else none
    | _, _, _ => none)
  late.foldl (fun (t : Hub) (e : Nat × Nat) =>
    (t.count (Cnt.DSP_CNT_COMMIT_LATE h) 1).raise Evt.DSP_COMMIT_LATE [h, e.1, e.2]) (s.setDhead h { H with commits := new })

/-- A commit packet taken at line time `t`: it closes the open set and joins the list (R300, R302). Log entry 102 (DEDUCED). -/
def Hub.takeCommit (h t : Nat) (b : List Byte) (s : Hub) : Hub :=
  let H := s.dhead h
  let c : DspCommit := { id := beNat (slice b 4 4), own := if bit (byteAt b 1) 0 then none else some t, eff := none, set := H.cur }
  let s1 := s.setDhead h { H with cur := {} }
  let s2 := if H.cur.dropping then s1.raise Evt.DSP_STAGE_OVERFLOW [h, H.cur.dropped] else s1
  s2.present h (H.commits ++ [c])

/-- A good tile joins the open set; none where the engine waits for an apply (R300). Log entry 102 (DEDUCED). -/
def Hub.takeTile (h : Nat) (b : List Byte) (s : Hub) : Option Hub :=
  let H := s.dhead h
  let n := recSize b.length
  if H.cur.dropping then
    some ((s.setDhead h { H with cur := { H.cur with dropped := H.cur.dropped + 1 } }).count (Cnt.DSP_CNT_STAGE_OVF h) 1)
  else if H.used + n ≤ s.stSize h then
    let t : DspTile := ⟨H.head, tileX b, tileY b, tileW b, tileH b⟩
    let s1 := s.stagePut h H.head b
    some ((s1.setDhead h { H with head := (H.head + n) % s.stSize h, used := H.used + n,
                                  cur := { H.cur with tiles := H.cur.tiles ++ [t] } }).count (Cnt.DSP_CNT_TILES h) 1)
  else if n ≤ s.stSize h && (!H.commits.isEmpty || !H.applying.isEmpty) then none
  else
    let k := H.cur.tiles.length + 1
    let own := H.cur.size (bppOf (s.dspFormat h))
    let back := match H.cur.tiles with
      | [] => H.head
      | t :: _ => t.at'
    some ((s.setDhead h { H with used := H.used - own, head := back,
                                 cur := { H.cur with tiles := [], dropping := true, dropped := k } }).count (Cnt.DSP_CNT_STAGE_OVF h) k)

/-! Frame timing (R290, R291, R303, R304). -/

/-- The frame start after the one at `f` by the pixel clock: its line time and the fraction of a ns, in units of 1/PCLK (R291). -/
def Hub.frameAfter (s : Hub) (h f : Nat) : Nat × Nat :=
  let x := f * s.pclk h + (s.dhead h).frac + s.vtotal h * s.htotal h * 1000000
  (x / s.pclk h, x % s.pclk h)

/-- A frame of head `h` starts at line time `t` (R291, R304): by the pixel clock a whole frame after the last start; in
line-locked mode on a qualifying boundary, K ticks after the last start, or the next one where the head resynchronises. Log entry 180 (DESIGN CHOICE). -/
def Hub.frameDue (s : Hub) (h t : Nat) : Bool :=
  let H := s.dhead h
  if s.lineLocked h then
    t % tickNs == 0 && s.lockK h != 0 && t / tickNs % s.lockK h == s.lockPhase h &&
      (match H.relock, H.start with
      | false, some f => t == f + s.lockK h * tickNs
      | _, _ => decide (s.now ≤ t) && decide (t < s.now + s.lockK h * tickNs))
  else
    match H.start with
    | none => decide (s.now ≤ t)
    | some f => t == (s.frameAfter h f).1

/-- The end of the blanking that began at the frame start `f` (R303, R304). -/
def Hub.blankEnd (s : Hub) (h f : Nat) : Nat :=
  let clocks := if s.lineLocked h then (s.vPrime h - s.vact h) * s.htotal h + (s.dhead h).extra
    else (s.vtotal h - s.vact h) * s.htotal h
  f + clocks * 1000000 / s.pclk h

/-- One row of a tile's pixels written into the frame buffer, those inside HACT (R293, R299). -/
def Hub.putRow (h : Nat) (t : DspTile) (bpp r : Nat) (s : Hub) : Hub :=
  if t.y + r < s.vact h then
    let px := min t.w (s.hact h - t.x)
    s.memStoreEcc (s.fbBase h + s.stride h * (t.y + r) + bpp * t.x) (s.stageGet h (t.at' + 16 + r * t.w * bpp) (px * bpp))
  else s

/-- A tile applied (R303). -/
def Hub.putTile (h : Nat) (t : DspTile) (s : Hub) : Hub :=
  let bpp := bppOf (s.dspFormat h)
  (List.range t.h).foldl (fun u r => u.putRow h t bpp r) s

/-! Pixels and the freeze detector (R295, R305). -/

/-- A 5-bit and a 6-bit component widened to 8 bits. -/
def wide5 (c : Nat) : Nat := c * 8 + c / 4
def wide6 (g : Nat) : Nat := g * 4 + g / 16

/-- A pixel word as R, G, B (R295). -/
def rgbOf (f w : Nat) : List Nat :=
  match f with
  | 0 => [wide5 (bits w 15 11), wide6 (bits w 10 5), wide5 (bits w 4 0)]
  | 1 => [wide5 (bits w 4 0), wide6 (bits w 10 5), wide5 (bits w 15 11)]
  | 2 => [bits w 23 16, bits w 15 8, bits w 7 0]
  | 3 => [bits w 7 0, bits w 15 8, bits w 23 16]
  | 4 => [bits w 23 16, bits w 15 8, bits w 7 0]
  | _ => [bits w 7 0, bits w 15 8, bits w 23 16]

/-- The output bytes of `w` pixels from (x, y) of the frame buffer; a pixel in an uncorrectable word is black (R420). -/
def Hub.pixels (s : Hub) (h x y w : Nat) : List Byte :=
  let bpp := bppOf (s.dspFormat h)
  ((List.range w).map (fun i =>
    let a := s.fbBase h + s.stride h * y + bpp * (x + i)
    if s.memBad a bpp then zeros 3 else (rgbOf (s.dspFormat h) (leNat (s.memRead a bpp))).map (fun c => BitVec.ofNat 8 c))).flatten

/-- Scan-out reads rows `y` up to `y + n - 1` of the frame buffer. -/
def Hub.rowTouch (h y n : Nat) (s : Hub) : Hub := s.memSweep (s.fbBase h + s.stride h * y) (s.stride h * n)

/-- The signature of the watched region (R305). -/
def Hub.signature (s : Hub) (h : Nat) : Nat :=
  let x := s.getf (Fld.DSP_FRZ_XY_X h)
  let y := s.getf (Fld.DSP_FRZ_XY_Y h)
  crc32 (((List.range (s.getf (Fld.DSP_FRZ_WH_H h))).map (fun r => s.pixels h x (y + r) (s.getf (Fld.DSP_FRZ_WH_W h)))).flatten)

/-- A tile intersects the watched region. -/
def Hub.watches (s : Hub) (h : Nat) (t : DspTile) : Bool :=
  overlaps (t.x, t.w) (s.getf (Fld.DSP_FRZ_XY_X h), s.getf (Fld.DSP_FRZ_WH_W h))
    && overlaps (t.y, t.h) (s.getf (Fld.DSP_FRZ_XY_Y h), s.getf (Fld.DSP_FRZ_WH_H h))

/-- The freeze detector's update at a frame start (R305). Log entry 101 (DEDUCED). -/
def Hub.freezeStep (h : Nat) (s : Hub) : Hub :=
  let H := s.dhead h
  if s.flag (Fld.DSP_FRZ_CFG_EN h) then
    let g := s.signature h
    let un := s.getf (Fld.DSP_FRZ_STATUS_UNCHANGED h)
    let frozen := s.flag (Fld.DSP_FRZ_STATUS_FROZEN h)
    let s1 := (s.setDhead h { H with sig := some g }).setf (Fld.DSP_FRZ_SIG h) g
    match H.sig with
    | none => s1
    | some old =>
      if old ≠ g then
        let s2 := (s1.setf (Fld.DSP_FRZ_STATUS_UNCHANGED h) 0).setf (Fld.DSP_FRZ_STATUS_FROZEN h) 0
        if frozen then s2.raise Evt.DSP_FREEZE_CLEAR [h, g] else s2
      else if s.flag (Fld.DSP_FRZ_CFG_HEARTBEAT h) || H.expect then
        let n := min 255 (un + 1)
        let s2 := s1.setf (Fld.DSP_FRZ_STATUS_UNCHANGED h) n
        if s.getf (Fld.DSP_FRZ_CFG_N h) ≤ n && !frozen then
          ((s2.setf (Fld.DSP_FRZ_STATUS_FROZEN h) 1).count (Cnt.DSP_CNT_FREEZE h) 1).raise Evt.DSP_FREEZE [h, g, n]
        else s2
      else s1
  else s.setDhead h { H with sig := none }

/-- UNCHANGED and FROZEN cleared (R305). -/
def Hub.freezeClear (h : Nat) (s : Hub) : Hub :=
  (s.setDhead h { s.dhead h with sig := none }) |>.setf (Fld.DSP_FRZ_STATUS_UNCHANGED h) 0 |>.setf (Fld.DSP_FRZ_STATUS_FROZEN h) 0

/-- A write of a freeze register: 0 DSP_FRZ_XY, 1 DSP_FRZ_WH, 2 DSP_FRZ_CFG (R305, R307). -/
def Hub.writeFrz (h r v : Nat) (s : Hub) : Hub :=
  if r = 0 then ((s.setf (Fld.DSP_FRZ_XY_X h) (bits v 15 0)).setf (Fld.DSP_FRZ_XY_Y h) (bits v 31 16)).freezeClear h
  else if r = 1 then ((s.setf (Fld.DSP_FRZ_WH_W h) (bits v 15 0)).setf (Fld.DSP_FRZ_WH_H h) (bits v 31 16)).freezeClear h
  else
    let was := s.flag (Fld.DSP_FRZ_CFG_EN h)
    let s1 := (s.setf (Fld.DSP_FRZ_CFG_EN h) (bits v 31 31)).setf (Fld.DSP_FRZ_CFG_HEARTBEAT h) (bits v 30 30)
    let s2 := if bits v 7 0 = 0 then s1 else s1.setf (Fld.DSP_FRZ_CFG_N h) (bits v 7 0)
    if bit v 31 && !was then s2.freezeClear h else s2

/-! Link training (R289). -/

/-- The rate code of a DPCD maximum link rate. Log entry 103 (DEDUCED). -/
def dpcdRate (b : Nat) : Nat := if 0x1E ≤ b then 3 else if 0x14 ≤ b then 2 else if 0x0A ≤ b then 1 else 0

/-- The rate of a code in kb/s per lane. -/
def rateKbps (r : Nat) : Nat := match r with | 0 => 1620000 | 1 => 2700000 | 2 => 5400000 | _ => 8100000

/-- The configurations tried, as (rate, lane code): rates down at the first lane count, then at RBR the lanes halved. Log entry 100 (DEDUCED). -/
def trainPlan (rate lanes : Nat) : List (Nat × Nat) :=
  ((List.range (rate + 1)).reverse.map (fun r => (r, lanes))) ++ ((List.range lanes).reverse.map (fun l => (0, l)))

/-- Whether a configuration has the capacity: rate × lanes × 0.8 against PCLK × 24 bits. -/
def Hub.carries (s : Hub) (h : Nat) (c : Nat × Nat) : Bool := decide (s.pclk h * 24 * 10 ≤ rateKbps c.1 * 2 ^ c.2 * 8)

/-- The first configuration with capacity whose attempt succeeds; `ok` gives the outcomes of the attempts in order. Log entry 100 (DEDUCED). -/
def trainPick (cap : Nat × Nat → Bool) : (cs : List (Nat × Nat)) → (ok : List Bool) → Option (Nat × Nat)
  | [], _ => none
  | c :: t, ok => if !cap c then trainPick cap t ok else if ok.headD false then some c else trainPick cap t ok.tail

/-- Head `h` trains its link; the attempts have the outcomes `ok` (R289). -/
def Hub.dspTrain (h : Nat) (ok : List Bool) (s : Hub) : Hub :=
  let sink := s.getf (Fld.DSP_SINK_LANES h)
  let sinkCode := if 4 ≤ sink then 2 else if 2 ≤ sink then 1 else 0
  let alt := if s.getf (Fld.TCP_PORT_STATUS_PIN h) = 2 then 1 else 2
  let lanes := min (s.getf (Fld.DSP_HEAD_CFG_MAX_LANES h)) (min alt sinkCode)
  let rate := min (s.getf (Fld.DSP_HEAD_CFG_MAX_RATE h)) (dpcdRate (s.getf (Fld.DSP_SINK_RATE h)))
  let plan := trainPlan rate lanes
  match trainPick (s.carries h) plan ok with
  | some (r, l) =>
    (s.setDhead h { s.dhead h with failAt := none } |>.setf (Fld.DSP_HEAD_STATUS_STATE h) dsScanout |>.setf (Fld.DSP_HEAD_STATUS_RATE h) r
      |>.setf (Fld.DSP_HEAD_STATUS_LANES h) l).raise Evt.DSP_LINK_UP [h, r, l]
  | none =>
    let st := if plan.any (fun c => !s.carries h c) then dsNoBandwidth else dsWaitSink
    (s.setDhead h { s.dhead h with failAt := some s.up } |>.setf (Fld.DSP_HEAD_STATUS_STATE h) st
      |>.setf (Fld.DSP_HEAD_STATUS_LANES h) 0 |>.setf (Fld.DSP_HEAD_STATUS_RATE h) 0).raise Evt.DSP_LINK_FAIL [h, st]

/-- The head may train: enabled, with its memory, and a sink there. -/
def Hub.mayTrain (s : Hub) (h : Nat) : Bool :=
  s.flag (Fld.DSP_HEAD_CFG_EN h) && s.dspState h != dsNoMemory && s.dspState h != dsOff && s.sinkThere h
    && s.flag (Fld.DSP_HEAD_STATUS_HPD h)

/-- The head of failed training waits 1 s (R289). -/
def Hub.retryDue (s : Hub) (h : Nat) : Bool :=
  s.mayTrain h && match (s.dhead h).failAt with
    | none => false
    | some f => decide (f + 1000000000 ≤ s.up)

/-! Sink data (R306). -/

/-- Words of captured sink data: byte 4·w in bits [31:24]. -/
def Hub.putWords (f : Nat → Fl) (n : Nat) (b : List Byte) (s : Hub) : Hub :=
  (List.range n).foldl (fun t w => t.setf (f w) (beNat (padTo 4 (slice b (4 * w) 4)))) s

/-- The blocks of an EDID read: the base block's extension count and itself, up to 4. -/
def edidBlocks (b : List Byte) : Nat := min 4 (1 + byteAt b 126)

/-- A block's checksum passes. -/
def edidSum (b : List Byte) (i : Nat) : Bool :=
  (slice b (128 * i) 128).length == 128 && (slice b (128 * i) 128).foldl (fun n x => n + x.toNat) 0 % 256 == 0

end Sys2Proof.Machine
end

