-- ==== Sys2Proof/Machine/Display.lean ====
section
/-! DEFINITION. The display heads' commands (R289 to R306), and DISP_COMMIT (R302). -/

namespace Sys2Proof.Machine

open Host (Outcome)

/-- DSP_HEAD_ENABLE (R292): a write of DSP_HEAD_CFG_h. -/
def execDspHeadEnable (h : Fin 2) (v : Word) (s : State) : Outcome State Fault Refusal := s.on fun s => (s.writeHeadCfg h v.toNat)

/-- DSP_HEAD_DISABLE (R308): EN cleared. -/
def execDspHeadDisable (h : Fin 2) (s : State) : Outcome State Fault Refusal := s.on fun s =>
  if s.flag (Fld.DSP_HEAD_CFG_EN h) then (s.dspDisable h) else s

/-- DSP_LINK_TRAIN (R289): a head in TRAINING trains; `ok` gives the outcomes of its attempts in order. -/
def execDspLinkTrain (h : Fin 2) (ok : List Bool) (s : State) : Outcome State Fault Refusal := s.on fun s =>
  if s.mayTrain h ∧ s.dspState h = dsTraining then (s.dspTrain h ok) else s

/-- DSP_TRAIN_RETRY (R289): 1 s after a failed training the head tries again. -/
def execDspTrainRetry (h : Fin 2) (ok : List Bool) (s : State) : Outcome State Fault Refusal := s.on fun s =>
  if s.retryDue h then (s.dspTrain h ok) else s

/-- DSP_IRQ_HPD (R289): a pulse of R360 makes the head read the link status and retrain where a lane has lost lock. -/
def execDspIrqHpd (h : Fin 2) (lost : Bool) (ok : List Bool) (s : State) : Outcome State Fault Refusal := s.on fun s0 =>
  let s := s0.setDrop h { s0.drop h with irq := false }
  if (s0.drop h).irq ∧ s.mayTrain h then
    if s.dspState h = dsScanout then
      if lost then (((s.count (Cnt.DSP_CNT_RETRAIN h) 1).setf (Fld.DSP_HEAD_STATUS_STATE h) dsTraining).dspTrain h ok)
      else s
    else (s.dspTrain h ok)
  else s

/-- DSP_HPD_RISE (R306): the head reads its sink's DPCD and EDID. Log entry 103 (DEDUCED). -/
def execDspHpdRise (h : Fin 2) (dpcd edid : List Byte) (s : State) : Outcome State Fault Refusal := s.on fun s =>
  if !s.sinkThere h || s.flag (Fld.DSP_HEAD_STATUS_HPD h) then s else
  let n := edidBlocks edid
  let good := (List.range n).all (fun i => edidSum edid i)
  let s1 := ((s.putWords (Fld.DSP_DPCD h) 4 (dpcd.take 16)).putWords (Fld.DSP_EDID h) 128 (edid.take (128 * n)))
    |>.setb (Fld.DSP_SINK_EDID_VALID h) good |>.setf (Fld.DSP_SINK_BLOCKS h) n |>.setf (Fld.DSP_SINK_RATE h) (byteAt dpcd 1)
    |>.setf (Fld.DSP_SINK_LANES h) (byteAt dpcd 2 % 32) |>.setf (Fld.DSP_HEAD_STATUS_HPD h) 1
  let s2 := if s1.mayTrain h then s1.setf (Fld.DSP_HEAD_STATUS_STATE h) dsTraining else s1
  (s2.raise Evt.DSP_HOTPLUG [h, 1])

/-- DSP_HPD_LOSS (R306): HPD has been low for more than 2 ms. -/
def execDspHpdLoss (h : Fin 2) (s : State) : Outcome State Fault Refusal := s.on fun s =>
  if s.sinkThere h || !s.flag (Fld.DSP_HEAD_STATUS_HPD h) || !s.ranFor (s.drop h).at'.hpd 2000001 then s else
  let s1 := ((s.putWords (Fld.DSP_DPCD h) 4 []).putWords (Fld.DSP_EDID h) 128 [])
    |>.setf (Fld.DSP_SINK_EDID_VALID h) 0 |>.setf (Fld.DSP_SINK_BLOCKS h) 0 |>.setf (Fld.DSP_SINK_RATE h) 0
    |>.setf (Fld.DSP_SINK_LANES h) 0 |>.setf (Fld.DSP_HEAD_STATUS_HPD h) 0
  let s2 := if s.dspState h = dsOff ∨ s.dspState h = dsNoMemory then s1
    else s1 |>.setf (Fld.DSP_HEAD_STATUS_STATE h) dsWaitSink |>.setf (Fld.DSP_HEAD_STATUS_LANES h) 0
      |>.setf (Fld.DSP_HEAD_STATUS_RATE h) 0
  (s2.raise Evt.DSP_HOTPLUG [h, 0])

/-- DSP_PACKET_TAKE (R294, R299 to R302): the engine takes the packet at the head of INQ at line time `t`. -/
def execDspPacketTake (h : Fin 2) (t : Nat) (s0 : State) : Outcome State Fault Refusal := s0.on fun s0 =>
  let s := s0.advance t
  let q := s.getf (Fld.DSP_HEAD_CFG_INQ h)
  if s.dspState h = dsOff ∨ 16 ≤ (s.dhead h).commits.length then s
  else
    match s.readHead q with
    | (none, s1) => s1
    | (some p, s1) =>
      let b := s1.pktBytes p
      let type := byteAt b 0
      let s2 := s1.popPkt q
      if s.dspState h = dsNoMemory then
        (if !pktGap p && type == 1 then s2.count (Cnt.DSP_CNT_DISCARD h) 1 else s2)
      else if pktGap p then
        let g := GapPend.ofBytes b
        let H := s2.dhead h
        (((s2.setDhead h { H with cur := { H.cur with loss := true } }).count (Cnt.DSP_CNT_TILE_LOST h) g.pkts).raiseLimited
          Evt.DSP_TILE_LOSS h [h, g.pkts])
      else if pktPoison p then (s2.count (Cnt.DSP_CNT_TILE_BAD h) 1)
      else if type = 1 then
        if !s2.tileGood h b then (s2.count (Cnt.DSP_CNT_TILE_BAD h) 1)
        else
          match s2.takeTile h b with
          | some s3 => s3
          | none => s1
      else if type = 2 then (s2.takeCommit h s.now b)
      else (s2.count (Cnt.DSP_CNT_TILE_BAD h) 1)

/-- DSP_FRAME_START (R290, R291, R303 to R305): step 1 at line time `t`, where a frame starts then. Log entry 180 (DESIGN CHOICE). -/
def execDspFrameStart (h : Fin 2) (t : Nat) (s0 : State) : Outcome State Fault Refusal := s0.on fun s0 =>
  let s := s0.advance t
  if s0.dspState h = dsOff ∨ s0.dspState h = dsNoMemory ∨ !s0.frameDue h t then s
  else
    let s1 := s.freezeStep h
    let H := s1.dhead h
    let ready := H.commits.takeWhile (fun c => match c.eff with
      | some e => decide (e < t)
      | none => false)
    let touched := ready.any (fun c => !c.set.dropping && c.set.tiles.any (fun x => s1.watches h x))
    let line := 1000000 * s1.htotal h
    let acc := if line = 0 then 0 else s1.lockClocks h % line + H.frac
    let free := match H.start with
      | none => 0
      | some f => (s1.frameAfter h f).2
    let n := s1.getf (Fld.DSP_FRAME_HI h) * 2 ^ 32 + s1.getf (Fld.DSP_FRAME_LO h) + 1
    let s2 := (s1.setDhead h { H with commits := H.commits.drop ready.length, applying := H.applying ++ ready, start := some t,
                                      blank := some t, live := s1.dspState h == dsScanout, filled := false, expect := touched,
                                      relock := false, extra := if s1.lineLocked h then acc / 1000000 else 0,
                                      frac := if s1.lineLocked h then acc % 1000000 else free })
      |>.set64 (Fld.DSP_FRAME_LO h) (Fld.DSP_FRAME_HI h) (n % 2 ^ 64)
      |>.set64 (Fld.DSP_VB_TIME_LO h) (Fld.DSP_VB_TIME_HI h) (t % 2 ^ 64)
    (if H.relock then s2.raise Evt.DSP_RELOCK [h, t / tickNs] else s2)

/-- DSP_APPLY_DONE (R303): the taken sets are in the frame buffer, their records freed and the commits counted. Log entry 102 (DEDUCED). -/
def execDspApplyDone (h : Fin 2) (s : State) : Outcome State Fault Refusal := s.on fun s =>
  let H := s.dhead h
  if H.applying.isEmpty then s
  else
    let bytes := (H.applying.filter (fun c => !c.set.dropping)).foldl (fun k c => k + c.set.size (bppOf (s.dspFormat h))) 0
    let s := s.advance (H.start.getD 0 + cdiv bytes 16)
    let tiles := (H.applying.filter (fun c => !c.set.dropping)).flatMap (fun c => c.set.tiles)
    let s1 := tiles.foldl (fun u t => u.putTile h t) s
    let n := H.applying.foldl (fun k c => k + c.set.size (bppOf (s.dspFormat h))) 0
    ((s1.setDhead h { H with applying := [], used := H.used - n }).count (Cnt.DSP_CNT_COMMITS h) H.applying.length)

/-- DSP_PREFILL (R303): 20 µs before blanking ends, after the apply, the line buffer takes lines 0 to 3 of the frame buffer. -/
def execDspPrefill (h : Fin 2) (s : State) : Outcome State Fault Refusal := s.on fun s =>
  match (s.dhead h).blank with
  | none => s
  | some f =>
    if s.dspState h = dsOff ∨ s.dspState h = dsNoMemory ∨ !(s.dhead h).applying.isEmpty then s
    else
    let s := s.advance (s.blankEnd h f - 20000)
    let s1 := (s.rowTouch h 0 (min 4 (s.vact h))).spanEnd 13 (32768 + 4096 * h) (36864 + 4096 * h)
    (s1.setDhead h { s.dhead h with filled := true, lines := ([0, 1, 2, 3].map (fun y => s.pixels h 0 y (s.hact h))).flatten })

/-- The words of line `y` of head `h` in the line buffer. Log entry 90 (DESIGN CHOICE). -/
def lineWord (h y : Nat) : Nat := 32768 + 4096 * h + 1024 * y

/-- The pixels of a frame: lines 0 to 3 from the line buffer, a line black where it is uncorrectable (R420), the rest from the frame buffer (R303). Log entry 180 (DESIGN CHOICE). -/
def Hub.framePixels (s : Hub) (h : Nat) : List Byte :=
  let w := 3 * s.hact h
  ((List.range (min 4 (s.vact h))).map (fun y =>
    if s.spanBad 13 (lineWord h y) (lineWord h (y + 1)) then zeros w else slice (s.dhead h).lines (w * y) w)).flatten
    ++ ((List.range (s.vact h - 4)).map (fun i => s.pixels h 0 (4 + i) (s.hact h))).flatten

/-- DSP_SCANOUT_START (R290, R303): blanking ends; line 0 leaves the pin and the lines of the frame follow it, where the link was up at
the frame start. Log entry 180 (DESIGN CHOICE). -/
def execDspScanoutStart (h : Fin 2) (s : State) : Outcome State Fault Refusal := s.on fun s =>
  let H := s.dhead h
  match H.blank with
  | none => s
  | some f =>
    if !H.filled then s
    else
    let s1 := (s.advance (s.blankEnd h f)).setDhead h { H with blank := none, filled := false }
    (if s.dspState h = dsScanout ∧ H.live then
        ((s1.spanTouch 13 (lineWord h 0) (lineWord h 4)).rowTouch h 4 (s.vact h - 4)).emit (.scanFrame h (s.framePixels h))
      else s1)

/-- DSP_FRZ_WRITE (R305): a write of DSP_FRZ_XY (0), DSP_FRZ_WH (1) or DSP_FRZ_CFG (2). -/
def execDspFrzWrite (h : Fin 2) (r : Fin 3) (v : Word) (s : State) : Outcome State Fault Refusal := s.on fun s => (s.writeFrz h r v.toNat)

/-- DISP_COMMIT (R302): at T the oldest held commit of the head with the COMMIT_ID is presented. -/
def execDispCommit (slot : Fin 1024) (s : State) : Outcome State Fault Refusal := s.on fun s =>
  match s.due slot 0x30 with
  | none => s
  | some l =>
    let s0 := s.advance l.f
    let h := l.target
    let cs := (s0.dhead h).commits
    match cs.findIdx? (fun c => c.own.isNone && c.id == l.width) with
    | none => (s0.launchDone slot lsEmpty l.f)
    | some i => ((s0.present h (cs.modify i (fun c => { c with own := some l.f }))).launchRan slot l.f)

end Sys2Proof.Machine
end

