-- ==== Sys2Proof/Machine/Drop.lean ====
section
/-! DEFINITION. The drop ports' commands: attach, the node budget, power delivery, VCONN swaps and DisplayPort Alt Mode (R345
to R360). A command that is a PD message, or the end of a PD timer, does nothing on a port in no state to meet it. -/

namespace Sys2Proof.Machine

open Host (Outcome)

/-- TCP_PORT_ENABLE (R345, R349, R359): a write of TCP_PORT_CFG_n. -/
def execTcpPortEnable (n : Fin 4) (v : Word) (s : State) : Outcome State Fault Refusal := s.on fun s => (s.writePortCfg n v.toNat)

/-- CC_CHANGE (R345): the CC pins of port `n` now read as `cc1` and `cc2`. Log entry 120 (DEDUCED). -/
def execCcChange (n : Fin 4) (cc1 cc2 : Cc) (s : State) : Outcome State Fault Refusal := s.on fun s =>
  let old := s.drop n
  let s1 := s.setDrop n { old with cc1 := cc1, cc2 := cc2 }
  if s.tcState n = tcUnattached then (s1.ccEval n)
  else if s.tcState n = tcWait then
    (if old.cc1 = cc1 ∧ old.cc2 = cc2 then s1 else s1.toUnattached n)
  else if s.tcState n = tcAttached then
    let cc := if s.flag (Fld.TCP_PORT_STATUS_FLIPPED n) then cc2 else cc1
    let s2 := if (s1.drop n).absent then s1 else s1.setDropAt n (fun a t => { a with absent := t })
    (s2.setDrop n { s2.drop n with absent := cc != .rd })
  else s1

/-- TCP_CC_DEBOUNCE (R345, R349, R354): tCCDebounce has ended; with VBUS below vSafe0V the port attaches. -/
def execTcpCcDebounce (n : Fin 4) (s : State) : Outcome State Fault Refusal := s.on fun s =>
  if s.tcState n = tcWait ∧ s.ranFor (s.drop n).at'.cc 150000000 ∧ (s.chan (n + 2)).vo < 800 then (s.tcAttach n) else s

/-- TCP_DETACH_DEBOUNCE (R345): Rd has been absent for tPDDebounce. -/
def execTcpDetachDebounce (n : Fin 4) (s : State) : Outcome State Fault Refusal := s.on fun s =>
  if s.tcState n = tcAttached ∧ (s.drop n).absent ∧ s.ranFor (s.drop n).at'.absent 15000000 then (s.tcDetach n) else s

/-- TCP_ERROR_RECOVERY_END (R345): tErrorRecovery has ended. -/
def execTcpErrorRecoveryEnd (n : Fin 4) (s : State) : Outcome State Fault Refusal := s.on fun s =>
  if s.tcState n = tcRecovery ∧ s.ranFor (s.drop n).at'.cc 25000000 then ((s.setRp n 1).toUnattached n) else s

/-- VBUS_ENABLE (R350, R351): VBUS of an attached port goes on at 5 V once its grant and the budget allow. -/
def execVbusEnable (n : Fin 4) (s : State) : Outcome State Fault Refusal := s.on fun s =>
  if s.tcState n = tcAttached ∧ !(s.drop n).vbusReq ∧ !(s.drop n).inReset ∧ s.vbusFits n then (s.vbusUp n)
  else s

/-- TCP_NO_BUDGET (R351): VBUS of an attached port has waited more than 275 ms. Log entry 118 (DEDUCED). -/
def execTcpNoBudget (n : Fin 4) (s : State) : Outcome State Fault Refusal := s.on fun s =>
  if s.tcState n = tcAttached ∧ !(s.drop n).vbusReq ∧ !(s.drop n).inReset ∧ !s.flag (Fld.TCP_PORT_STATUS_NO_BUDGET n) ∧
      s.ranFor (s.drop n).at'.att 275000001 then
    ((s.setf (Fld.TCP_PORT_STATUS_NO_BUDGET n) 1).raise Evt.TCP_NO_BUDGET
      [n, s.getf (Fld.TCP_PORT_GRANT_GRANT n), s.getf Fld.TCP_BUDGET_B])
  else s

/-- SOURCE_CAPABILITIES_SEND (R347, R350): the next of up to 50 sendings until GoodCRC, or a re-offer that is due; `goodCrc`
says whether the partner acknowledged it. VBUS is at vSafe5V, the sendings are 150 ms apart, and discovery of the cable comes first (R354). Log entry 181 (PRESUMED). -/
def execSourceCapabilitiesSend (n : Fin 4) (goodCrc : Bool) (s : State) : Outcome State Fault Refusal := s.on fun s =>
  let P := s.drop n
  if s.pdRuns n ∧ P.disc.isNone ∧ 4750 ≤ (s.chan (n + 2)).vo then
    if !P.capsAcked then
      if P.capsTries < 50 ∧ (P.capsTries = 0 ∨ s.ranFor P.at'.caps 150000000) then
        let s1 := s.sendCaps n
        (s1.setDrop n { s1.drop n with capsTries := P.capsTries + 1, capsAcked := goodCrc })
      else s
    else if s.reofferDue n then
      let s1 := s.sendCaps n
      (s1.setDrop n { s1.drop n with capsTries := 1, capsAcked := goodCrc })
    else s
  else s

/-- PD_REQUEST (R352, R349): a Request for object position `pos` at `op` × 10 mA, with its Capability Mismatch flag, from a
partner that speaks revision 2.0 or 3.x. -/
def execPdRequest (n : Fin 4) (pos : Fin 8) (op : Fin 1024) (mismatch rev2 : Bool) (s : State) : Outcome State Fault Refusal := s.on fun s =>
  if s.pdRuns n then
    let P := s.drop n
    let pdo := if pos.val = 0 then none else P.caps[pos.val - 1]?
    match pdo with
    | none => ((s.setDrop n { P with rev2 := rev2, capsAcked := true }).emit (.pd n .reject))
    | some (mv, max) =>
      if max < op.val then ((s.setDrop n { P with rev2 := rev2, capsAcked := true }).emit (.pd n .reject))
      else
        let s0 := s.setChan (n + 2) { s.chan (n + 2) with oldSetpoint := mv }
        let a := { P.at' with move := s.up }
        let P1 := { P with rev2 := rev2, capsAcked := true, mismatch := mismatch, moving := some (mv, op, max), started := false }
        let s1 := (s0.setDrop n { P1 with at' := a }).emit (.pd n .accept)
        (if mismatch then s1.regrant else s1)
  else s

/-- PD_TRANSITION_START (R352, R342, R382): 30 ms after Accept, DnVSEL takes the new voltage; the OV check keeps the higher of
the two setpoints meanwhile. -/
def execPdTransitionStart (n : Fin 4) (s : State) : Outcome State Fault Refusal := s.on fun s =>
  let P := s.drop n
  match P.moving with
  | none => s
  | some (mv, _, _) =>
    if P.started ∨ !s.ranFor P.at'.move 30000000 then s
    else
      let C := s.chan (n + 2)
      let sel := if mv = 5000 then 0 else if mv = 9000 then 1 else if mv = 15000 then 2 else 3
      ((s.setDrop n { P with vsel := sel, started := true }).setChan (n + 2)
        { C with setpoint := mv, oldSetpoint := C.setpoint })

/-- PD_VBUS_REACHED (R352): VBUS stands within 5 % of the new voltage; PS_RDY goes out and the contract takes effect. -/
def execPdVbusReached (n : Fin 4) (s : State) : Outcome State Fault Refusal := s.on fun s =>
  let P := s.drop n
  match P.moving with
  | none => s
  | some (mv, op, max) =>
    let C := s.chan (n + 2)
    if P.started ∧ s.up ≤ P.at'.move + 275000000 ∧ ((C.vo - mv) * 20).natAbs ≤ mv then
      let s1 := ((s.setDrop n { P with moving := none, started := false, resets := 0, reoffer := false,
                                       rp := if P.rev2 then 1 else 2 }).setChan (n + 2)
          { C with pdoMa := max * 10 }) |>.emit (.pd n .psRdy)
        |>.setf (Fld.TCP_PORT_CONTRACT_VOLT n) (mv / 50) |>.setf (Fld.TCP_PORT_CONTRACT_CUR n) op
        |>.setf (Fld.TCP_PORT_CONTRACT_MAX n) max
        |>.setf (Fld.TCP_PORT_STATUS_PD n) (if P.rev2 then pdExplicit2 else pdExplicit3)
      (s1.regrant.raise Evt.TCP_CONTRACT [n, mv, op * 10])
    else s

/-- PD_TRANSITION_TIMEOUT (R352): the voltage was not reached 275 ms after Accept. -/
def execPdTransitionTimeout (n : Fin 4) (s : State) : Outcome State Fault Refusal := s.on fun s =>
  match (s.drop n).moving with
  | none => s
  | some _ => if !s.ranFor (s.drop n).at'.move 275000000 then s else ((s.tcHardReset n true).raise Evt.TCP_VBUS_FAULT [n, (s.chan (n + 2)).vo.toNat])

/-- PD_REOFFER_TIMEOUT (R350): 200 ms after a re-offer downward the port has no contract within its grant. -/
def execPdReofferTimeout (n : Fin 4) (s : State) : Outcome State Fault Refusal := s.on fun s =>
  if (s.drop n).reoffer ∧ s.ranFor (s.drop n).at'.offer 200000000 ∧ (s.drop n).grant < s.heldPower n then (s.tcHardReset n true) else s

/-- PD_GET_SOURCE_CAP (R347): answered with Source_Capabilities. -/
def execPdGetSourceCap (n : Fin 4) (s : State) : Outcome State Fault Refusal := s.on fun s =>
  if s.pdRuns n then (s.sendCaps n) else s

/-- PD_UNSUPPORTED_MESSAGE (R347): answered Not_Supported, Reject at revision 2.0; a structured VDM request is answered NAK. -/
def execPdUnsupportedMessage (n : Fin 4) (vdm : Bool) (s : State) : Outcome State Fault Refusal := s.on fun s =>
  if s.pdRuns n then
    (s.emit (.pd n (if vdm then .nak else if (s.drop n).rev2 then .reject else .notSupported)))
  else s

/-- PD_SOFT_RESET (R347, R357): a Soft_Reset is accepted and Source_Capabilities follow. -/
def execPdSoftReset (n : Fin 4) (s : State) : Outcome State Fault Refusal := s.on fun s =>
  if s.pdRuns n then (((s.tcSoftReset n).emit (.pd n .accept)).sendCaps n) else s

/-- PD_MESSAGE_FAIL (R347): no GoodCRC after nRetryCount retries; the hub sends Soft_Reset, then Source_Capabilities. -/
def execPdMessageFail (n : Fin 4) (s : State) : Outcome State Fault Refusal := s.on fun s =>
  if s.pdRuns n then
    let s1 := ((s.count (Cnt.TCP_CNT_MSG_FAIL n) 1).tcSoftReset n).emit (.pd n .softReset)
    (s1.setDrop n { s1.drop n with capsAcked := false, capsTries := 0 })
  else s

/-- HARD_RESET (R353, R357): sent by TCP_PORT_CTL.HARD_RESET (`sent`) or received. -/
def execHardReset (n : Fin 4) (sent : Bool) (s : State) : Outcome State Fault Refusal := s.on fun s => (s.tcHardReset n sent)

/-- HARD_RESET_END (R353): 0.66 s after the reset began, steps 5 to 7; the third reset in a row stops PD instead of step 7. -/
def execHardResetEnd (n : Fin 4) (s : State) : Outcome State Fault Refusal := s.on fun s =>
  let P := s.drop n
  if P.inReset ∧ s.tcState n = tcAttached ∧ s.ranFor P.at'.move 660000000 then
    let fail := decide (3 ≤ P.resets)
    let ra := s.flag (Fld.TCP_PORT_STATUS_RA n) && s.flag (Fld.TCP_PORT_CFG_VCONN_EN n)
    let s1 := (s.setDrop n { P with inReset := false, pdOff := fail }).regrant
    let s2 := if s1.vbusFits n then s1.vbusUp n else s1
    let s3 := if ra then s2.setVconn n true else s2
    (if fail then (s3.setf (Fld.TCP_PORT_STATUS_PD_FAIL n) 1).raise Evt.TCP_PD_FAIL [n] else s3)
  else s

/-- TCP_PORT_CTL.RECAPS (R373). -/
def Hub.recaps (n : Nat) (s : Hub) : Hub := if s.pdRuns n then s.sendCaps n else s

/-- RECAPS (R373): TCP_PORT_CTL.RECAPS sends Source_Capabilities again. -/
def execRecaps (n : Fin 4) (s : State) : Outcome State Fault Refusal := s.on fun s => (s.recaps n)

/-- TCP_PORT_CTL.VCONN_TAKE (R355). -/
def Hub.vconnTake (n : Nat) (s : Hub) : Hub :=
  let P := s.drop n
  if s.pdRuns n && s.flag (Fld.TCP_PORT_STATUS_RA n) && !s.vconnSrc n && P.swap.isNone && !P.swapWant then s.startSwap n else s

/-- VCONN_TAKE (R355, R356): the hub wants to become VCONN source again. -/
def execVconnTake (n : Fin 4) (s : State) : Outcome State Fault Refusal := s.on fun s => (s.vconnTake n)

/-- VCONN_SWAP_RECEIVE (R355, R356): the partner's VCONN_Swap. -/
def execVconnSwapReceive (n : Fin 4) (s : State) : Outcome State Fault Refusal := s.on fun s =>
  let P := s.drop n
  if s.pdRuns n then
    if P.swap.isSome ∨ P.disc.isSome then (s.emit (.pd n .wait))
    else
      let s0 := (s.setDrop n { P with swapWait := false, at' := { P.at' with swap := s.up } }).sinkTxOk n
      if s.vconnSrc n then ((s0.setDrop n { s0.drop n with swap := some (0, 3) }).emit (.pd n .accept))
      else if !s.flag (Fld.TCP_PORT_CFG_VCONN_EN n) then (s0.emit (.pd n .reject))
      else ((((s0.emit (.pd n .accept)).setVconn n true).emit (.pd n .psRdy)))
  else s

/-- SINKTXNG_WAIT_END (R355, R356): the 16 ms after SinkTxNG, or the 100 ms before a new try, have ended; `msg` says that a
partner message came first, and `stage` how far the hub's own swap gets before the next command (0: answered Reject or Wait;
1 sent, 2 Accept received, 3 VCONN on, 4 PS_RDY sent, 5 done). A swap left in stage 1 to 4 goes on from there. Log entry 122 (DESIGN CHOICE). -/
def execSinktxngWaitEnd (n : Fin 4) (msg : Bool) (stage : Fin 6) (s : State) : Outcome State Fault Refusal := s.on fun s =>
  let P := s.drop n
  match P.swap with
  | some (1, k) => if k ≤ stage.val ∨ stage.val = 0 then (s.swapStage n stage) else s
  | some _ => s
  | none =>
    if P.swapWait then
      if msg then ((s.setDrop n { P with swapWait := false, at' := { P.at' with swap := s.up } }).sinkTxOk n)
      else if s.ranFor P.at'.swap 16000000 then ((s.sendSwap n).swapStage n stage)
      else s
    else if P.swapWant ∧ !s.vconnSrc n ∧ s.pdRuns n ∧ s.ranFor P.at'.swap 100000000 then (s.startSwap n)
    else s

/-- PD_PS_RDY (R355): the partner's PS_RDY lets the hub turn VCONN off. Log entry 122 (DESIGN CHOICE). -/
def execPdPsRdy (n : Fin 4) (s : State) : Outcome State Fault Refusal := s.on fun s =>
  match (s.drop n).swap with
  | some (0, _) => ((s.setDrop n { s.drop n with swap := none }).setVconn n false)
  | _ => s

/-- VCONN_SWAP_TIMEOUT (R355): the partner's PS_RDY did not come within 100 ms. -/
def execVconnSwapTimeout (n : Fin 4) (s : State) : Outcome State Fault Refusal := s.on fun s =>
  match (s.drop n).swap with
  | some (0, _) => if s.ranFor (s.drop n).at'.swap 100000000 then (s.tcHardReset n true) else s
  | _ => s

/-- DP_ALT_MODE_ENTRY (R358): the hub sends the next VDM of the entry sequence. -/
def execDpAltModeEntry (n : Fin 4) (s : State) : Outcome State Fault Refusal := s.on fun s =>
  let P := s.drop n
  let st := s.dpState n
  if s.dpAllowed n ∧ st ≤ dpEntered ∧ !P.dpSent then
    let k := if st = dpOff then 1 else P.dpStep
    let s1 := s.setDrop n { P with dpStep := k, dpSent := true, at' := { P.at' with vdm := s.up } }
    let s2 := if st = dpOff then s1.setf (Fld.TCP_PORT_STATUS_DP n) dpEntering else s1
    (s2.emit (.pd n (.vdm k)))
  else s

/-- PD_VDM_RESPONSE (R354, R358, R359): the answer to the VDM that is out. Log entry 121 (DEDUCED). -/
def execPdVdmResponse (n : Fin 4) (ans : VdmAns) (s : State) : Outcome State Fault Refusal := s.on fun s =>
  let P := s.drop n
  match P.disc, ans with
  | some _, .cable fiveA ss => (s.discEnd n fiveA ss)
  | some k, _ => (s.discMiss n k)
  | none, .cable _ _ => s
  | none, .ack good pins hpd => (if P.dpSent then s.dpAck n good pins hpd else s)
  | none, .nak => (if P.dpSent then s.dpFail n else s)
  | none, .busy => (if P.dpSent then s.dpMiss n else s)

/-- VDM_RESPONSE_TIMEOUT (R354, R358): no answer within the VDM's timer, 50 ms for Enter Mode and 30 ms for the others. -/
def execVdmResponseTimeout (n : Fin 4) (s : State) : Outcome State Fault Refusal := s.on fun s =>
  let P := s.drop n
  if !s.ranFor P.at'.vdm (if P.disc.isNone && P.dpStep == 4 then 50000000 else 30000000) then s
  else
    match P.disc with
    | some k => (s.discMiss n k)
    | none => (if P.dpSent then s.dpMiss n else s)

/-- TCP_PORT_CTL.DP_EXIT (R359). -/
def Hub.dpExit (n : Nat) (s : Hub) : Hub :=
  let st := s.dpState n
  if st = dpEntering ∨ st = dpEntered ∨ st = dpConfigured then s.exitDp n else s

/-- DP_EXIT (R359): TCP_PORT_CTL.DP_EXIT switches the mux to safe and sends Exit Mode. -/
def execDpExit (n : Fin 4) (s : State) : Outcome State Fault Refusal := s.on fun s => (s.dpExit n)

/-- PD_ATTENTION (R360): an Attention or DP Status Update gives HPD State, and may carry IRQ_HPD. -/
def execPdAttention (n : Fin 4) (hpd irq : Bool) (s : State) : Outcome State Fault Refusal := s.on fun s =>
  if s.dpState n = dpConfigured then
    let s1 := s.setHpd n hpd
    (if irq && hpd then (s1.setDrop n { s1.drop n with irq := true }).emit (.irqHpd n) else s1)
  else s

end Sys2Proof.Machine
end

