-- ==== Sys2Proof/Machine/HostOps.lean ====
section
/-! DEFINITION. Shared operations of the host port: ring enabling and disabling, resets, doorbells and interrupts
(R219 to R225, R231 to R236). -/

namespace Sys2Proof.Machine

/-! Interrupts (R236). -/

/-- The PBA bit of vector `v`: its register is kept whole. -/
def Hub.pbaPending (s : Hub) (v : Nat) : Bool := bit (s.getf (Fld.HIF_PBA_PENDING (v / 32))) (v % 32)

/-- The state with the PBA bit of vector `v` at `on`. -/
def Hub.setPba (v : Nat) (on : Bool) (s : Hub) : Hub :=
  let w := s.getf (Fld.HIF_PBA_PENDING (v / 32))
  s.setf (Fld.HIF_PBA_PENDING (v / 32)) (if on then w ||| 2 ^ (v % 32) else w &&& (2 ^ 32 - 1 - 2 ^ (v % 32)))

/-- The message of vector `v` leaves. -/
def Hub.msixOut (v : Nat) (s : Hub) : Hub :=
  s.emit (.msix (s.getf (Fld.HIF_MSIX_ADDR_HI v) * 2 ^ 32 + s.getf (Fld.HIF_MSIX_ADDR_LO v)) (s.getf (Fld.HIF_MSIX_DATA v)))

/-- The message of vector `v` is sent, or its pending bit set while it is masked (R236). -/
def Hub.msixSend (v : Nat) (s : Hub) : Hub := if s.flag (Fld.HIF_MSIX_CTL_MASK v) then s.setPba v true else s.msixOut v

/-- A write of the vector control word of vector `v`: unmasking sends what is pending (R236). -/
def Hub.writeMsixCtl (v w : Nat) (s : Hub) : Hub :=
  if s.vectors ≤ v then s
  else
    let s1 := s.setf (Fld.HIF_MSIX_CTL_MASK v) w
    if !bit w 0 && s.pbaPending v then (s1.setPba v false).msixOut v else s1

/-- A CQ or EVQ that may send messages holds unreported entries (R236). -/
def Hub.mayMessage (s : Hub) (r : Nat) : Bool :=
  s.ringEn r && !descRing (s.ringType r) && s.flag (Fld.HIF_RING_AUX_IRQ_EN r) && (s.hring r).unreported != 0

/-- It owes its message at once: TICKS is 0, or its unreported entries have come to COUNT (R236). -/
def Hub.messageDue (s : Hub) (r : Nat) : Bool :=
  let count := s.getf (Fld.HIF_RING_AUX_COUNT r)
  s.mayMessage r && (s.getf (Fld.HIF_RING_AUX_TICKS r) == 0 || (count != 0 && decide (count ≤ (s.hring r).unreported)))

/-- It owes its message at this tick boundary, TICKS or more after its last, and its host has not consumed every entry (R236). -/
def Hub.tickDue (s : Hub) (r : Nat) : Bool :=
  let R := s.hring r
  s.mayMessage r && decide (R.lastMsg + s.getf (Fld.HIF_RING_AUX_TICKS r) ≤ s.tick) && R.taken != R.count

/-- The message of ring `r` is sent, and reports what is unreported. -/
def Hub.message (r : Nat) (s : Hub) : Hub :=
  (s.setRing r { s.hring r with unreported := 0, lastMsg := s.tick }).msixSend (s.getf (Fld.HIF_RING_AUX_VECTOR r))

/-- A message of ring `r` is sent if one is due at once. -/
def Hub.moderate (r : Nat) (s : Hub) : Hub := if s.messageDue r then s.message r else s

/-- The messages due at a tick boundary leave (R236). -/
def Hub.tickMessages (s : Hub) : Hub :=
  s.enabledRings.foldl (fun t r => if t.tickDue r then t.message r else t) s

/-! Rings (R223, R224). -/

/-- HIF_STATUS.DUMP_ARMED shows whether a dump buffer is posted (R243). -/
def Hub.showDump (s : Hub) : Hub :=
  s.setb Fld.HIF_STATUS_DUMP_ARMED (s.hif.rings.any (fun e => s.ringIs e.1 5 && e.2.jobs.any (fun j => j.sent)))

/-- The requests, block commands and queued bridge writes of ring `r` are answered to nobody (R224). -/
def Hub.forgetAsker (r : Nat) (s : Hub) : Hub :=
  { s with
    hif := { s.hif with reqs := s.hif.reqs.mapVal (fun _ q => if q.who = .ring r then { q with dead := true } else q) },
    blk := { s.blk with out := s.blk.out.mapVal (fun _ c => if c.who = .ring r then { c with dead := true } else c) },
    fbr := { s.fbr with reqs := s.fbr.reqs.map (fun q =>
      match q.back with
      | .own (.ring r') _ _ _ => if r' = r then { q with back := .none } else q
      | _ => q) } }

/-- The binding of ring `r` is released (R224). -/
def Hub.unbindRing (r : Nat) (s : Hub) : Hub :=
  if s.ringType r = 0 then s.unbindProd (s.ringQueue r) (.ring r)
  else if s.ringType r = 1 then s.unbindCons (s.ringQueue r) (.ring r)
  else s

/-- The HUB of the FINAL completion of job `j`: 0x1FF for a broadcast in flight, else this hub (R228). -/
def Hub.finalHub (s : Hub) (w : Asker) (j : Job) : Nat :=
  if s.hif.reqs.any (fun e => e.2.who == w && e.2.idx == j.idx && e.2.hub == 0x1FF) then 0x1FF else s.addr

/-- EN of an enabled ring is cleared (R224). -/
def Hub.ringOff (r : Nat) (s : Hub) : Hub :=
  let s1 := (s.hring r).jobs.foldl (fun t j => t.finish (.ring r) j (t.finalHub (.ring r) j) stFlushed 0) s
  let s2 := ((s1.forgetAsker r).unbindRing r).setRing r {}
  (s2 |>.setf (Fld.HIF_RING_CFG_EN r) 0 |>.setf (Fld.HIF_RING_STATUS_STATE r) rsDraining).showDump

/-- A CQ that an enabled ring names (R224). -/
def Hub.cqNamed (s : Hub) (r : Nat) : Bool :=
  s.ringIs r 3 && s.enabledRings.any (fun x => x != r && descRing (s.ringType x) && s.ringCqOf x == r)

/-- Why a write that sets EN is refused (R223): the CAUSE of R245, 0 when it is not. BASE holds no bit below 4 KiB. -/
def Hub.ringCause (s : Hub) (r typ size : Nat) : Nat :=
  let q := s.ringQueue r
  if 5 < typ ∨ 12 < size then 2
  else if descRing typ && !s.ringIs (s.ringCqOf r) 3 then 3
  else if (typ == 0 && (decide (q < 20) || s.prodTaken q)) || (typ == 1 && (decide (q < 20) || s.consTaken q)) then 4
  else if typ == 5 && s.enabledRings.any (fun x => s.ringType x == 5) then 5
  else if !descRing typ && decide (s.vectors ≤ s.getf (Fld.HIF_RING_AUX_VECTOR r)) then 6
  else 0

/-- Ring `r` starts (R222, R223). -/
def Hub.ringStart (r : Nat) (s : Hub) : Hub :=
  let s1 := (s.setRing r { lastMsg := s.tick }) |>.setf (Fld.HIF_RING_CFG_EN r) 1 |>.setf (Fld.HIF_RING_STATUS_STATE r) rsActive
    |>.setf (Fld.HIF_RING_STATUS_CAUSE r) 0 |>.setf (Fld.HIF_RING_STATUS_COUNT r) 0
  if s.ringType r = 0 then s1.bindProd (s.ringQueue r) (.ring r)
  else if s.ringType r = 1 then s1.bindCons (s.ringQueue r) (.ring r)
  else s1

/-- The fields of HIF_RING_CFG_r other than EN take a write made with EN = 0; a reserved encoding keeps the old value (R11). -/
def Hub.ringFields (r v : Nat) (s : Hub) : Hub :=
  let typ := bits v 30 28
  let size := bits v 27 24
  let s1 := if typ < 6 then s.setf (Fld.HIF_RING_CFG_TYPE r) typ else s
  let s2 := if size < 13 then s1.setf (Fld.HIF_RING_CFG_SIZE r) size else s1
  s2 |>.setf (Fld.HIF_RING_CFG_CQ r) (bits v 23 14) |>.setf (Fld.HIF_RING_CFG_QUEUE r) (bits v 12 0)

/-- The value HIF_RING_CFG_r reads. -/
def Hub.ringCfg (s : Hub) (r : Nat) : Nat :=
  b2n (s.ringEn r) * 2 ^ 31 + s.ringType r * 2 ^ 28 + s.getf (Fld.HIF_RING_CFG_SIZE r) * 2 ^ 24 + s.ringCqOf r * 2 ^ 14 + s.ringQueue r

/-- A write of HIF_RING_CFG_r (R223, R224, R245). -/
def Hub.writeRingCfg (r v : Nat) (s : Hub) : Hub :=
  if s.vectors = 0 then s
  else if s.ringEn r then
    let fixed := decide (s.ringCfg r % 2 ^ 31 ≠ v % 2 ^ 31 - (if bit v 13 then 2 ^ 13 else 0))
    if !bit v 31 && s.cqNamed r then s.lockedWrite (0x013000 + 4 * r) v
    else
      let s1 := if fixed then s.lockedWrite (0x013000 + 4 * r) v else s
      if bit v 31 then s1 else s1.ringOff r
  else
    let s1 := s.ringFields r v
    if !bit v 31 then (if s1.ringState r = rsDraining then s1 else s1.setf (Fld.HIF_RING_STATUS_STATE r) rsIdle)
    else
      let c := s1.ringCause r (bits v 30 28) (bits v 27 24)
      if c = 0 then s1.ringStart r
      else
        (s1 |>.setf (Fld.HIF_RING_STATUS_STATE r) rsRefused |>.setf (Fld.HIF_RING_STATUS_CAUSE r) c).raise Evt.HIF_RING_ERROR [r, c]

/-! Resets (R219). -/

/-- Ring `r` stops in a host-port reset: disabled, writing no completion. -/
def Hub.ringDrop (r : Nat) (s : Hub) : Hub :=
  ((s.forgetAsker r).unbindRing r) |>.setf (Fld.HIF_RING_CFG_EN r) 0 |>.setf (Fld.HIF_RING_STATUS_STATE r) rsIdle
    |>.setf (Fld.HIF_RING_STATUS_CAUSE r) 0

/-- Every ring is disabled (R219). -/
def Hub.ringsOff (s : Hub) : Hub :=
  let s1 := s.enabledRings.foldl (fun t r => t.ringDrop r) s
  { s1 with hif := { s1.hif with rings := [], inFlight := [], again := [], pageAt := none } }

/-- The endpoint link goes down. Log entry 74 (DEDUCED). -/
def Hub.linkLost (s : Hub) : Hub :=
  if s.flag Fld.HIF_STATUS_LINK_UP then
    (s |>.setf Fld.HIF_STATUS_LINK_UP 0 |>.setf Fld.HIF_STATUS_SPEED 0 |>.setf Fld.HIF_STATUS_WIDTH 0).raise Evt.HIF_LINK_DOWN []
  else s

/-- A host-port reset with the cause of R246: 0 PERST_N, 1 hot reset, 2 link down, 3 FLR, 4 D3hot exit (R219). Log entry 74 (DEDUCED). -/
def Hub.hostReset (cause : Nat) (s : Hub) : Hub :=
  let s1 := s.ringsOff |>.setf Fld.HIF_CTL_DB_EN 0 |>.setf Fld.HIF_STATUS_BME 0 |>.setf Fld.HIF_STATUS_DUMP_ARMED 0
  let s2 := s1.resetFields (Fld.HIF_PBA_PENDING 0).key (32 * 0x020000)
  let s3 := if cause = 0 ∨ cause = 2 then s2.linkLost else s2
  let s4 := if cause = 0 then ({ s3 with hif := { s3.hif with perst := true } } : Hub).emit (.clkreqN false) else s3
  s4.raise Evt.HIF_HOST_RESET [cause]

/-! Doorbells (R222, R232 to R234). -/

/-- Host memory can be read and written: the link is up, bus mastering is enabled and the DMA domain is at L0. -/
def Hub.dmaOk (s : Hub) : Bool := s.flag Fld.HIF_STATUS_LINK_UP && s.flag Fld.HIF_STATUS_BME && s.atL0 dHDMA

/-- The address of the doorbell page (R232). -/
def Hub.dbBase (s : Hub) : Nat := s.getf Fld.HIF_DB_BASE_HI_ADDR * 2 ^ 32 + s.getf Fld.HIF_DB_BASE_LO_ADDR * 4096

/-- Word `w` of the doorbell page is being read; 1,024 stands for the whole page. -/
def Hub.wordInFlight (s : Hub) (w : Nat) : Bool :=
  s.hif.pageAt.isSome || s.hif.inFlight.contains 1024 || s.hif.inFlight.contains w

/-- A nudge of word `w`, or of the whole page: its read is issued, or follows the one in flight (R234). Log entry 76 (DEDUCED). -/
def Hub.nudge (w : Nat) (s : Hub) : Hub :=
  if !s.dmaOk then s
  else if s.wordInFlight w then
    (if s.hif.again.contains w then s else { s with hif := { s.hif with again := s.hif.again ++ [w] } })
  else
    (({ s with hif := { s.hif with inFlight := s.hif.inFlight ++ [w] } } : Hub).count Cnt.HIF_CNT_NUDGE 1).emit
      (.hostRead (s.dbBase + if w = 1024 then 0 else 4 * w) (if w = 1024 then 4096 else 4))

/-- A write of HIF_NUDGE (R234). Log entry 76 (DEDUCED). -/
def Hub.writeNudge (v : Nat) (s : Hub) : Hub := s.nudge (if bit v 31 then 1024 else bits v 9 0)

/-- Reads that waited for one in flight are issued (R234). Log entry 76 (DEDUCED). -/
def Hub.reissue (s : Hub) : Hub :=
  s.hif.again.foldl (fun t w => t.nudge w) { s with hif := { s.hif with again := [] } }

/-- The page read at a boundary that arrives now comes by 30 µs from that boundary (R233). -/
def Hub.pageInTime (s : Hub) : Bool :=
  match s.hif.pageAt with
  | none => false
  | some p => decide (s.up ≤ p.1 + 30000)

/-- The page that has not arrived by 30 µs from its boundary is discarded, counted, and reported at most once per second
(R233). -/
def Hub.pageLate (s : Hub) : Hub :=
  match s.hif.pageAt with
  | none => s
  | some p =>
    (((({ s with hif := { s.hif with pageAt := none } } : Hub).setf Fld.HIF_STATUS_DB_LATE 1).count Cnt.HIF_CNT_DB_LATE
      1).raiseLimited Evt.HIF_DB_LATE 0 [p.2 % 2 ^ 32]).reissue

/-- The page read of a tick boundary is issued (R233); one still missing from the boundary before is late. Log entry 76 (DEDUCED). -/
def Hub.pageRead (s : Hub) : Hub :=
  let s1 := s.pageLate
  if s1.flag Fld.HIF_CTL_DB_EN && s1.dmaOk then
    ({ s1 with hif := { s1.hif with pageAt := some (s1.up, s1.tick) } } : Hub).emit (.hostRead s1.dbBase 4096)
  else s1

/-- Doorbell value `v` of ring `r` is taken (R222, R233). Log entry 77 (DEDUCED). -/
def Hub.takeWord (r v : Nat) (s : Hub) : Hub :=
  let R := s.hring r
  let d := cntDiff v R.taken
  if !s.ringEn r || s.ringState r != rsActive || d == 0 || decide (2 ^ 31 ≤ d) then s
  else if s.ringSize r < (if descRing (s.ringType r) then cntDiff v R.count else cntDiff R.count v) then s.ringError r 8
  else s.setRing r { R with taken := v }

/-- A read of the whole page (`none`) or of one ring's word ends with its words (R233, R234). -/
def Hub.pageArrive (r : Option Nat) (words : List (Nat × Nat)) (s : Hub) : Hub :=
  let take (t : Hub) : Hub := (words.foldl (fun u e => u.takeWord e.1 e.2) t).reissue
  match r with
  | none =>
    if s.hif.pageAt.isSome && !s.pageInTime then s.pageLate
    else if s.hif.pageAt.isSome then
      take ((({ s with hif := { s.hif with pageAt := none } } : Hub).count Cnt.HIF_CNT_DB_FETCH 1).setf Fld.HIF_STATUS_DB_LATE 0)
    else if s.hif.inFlight.contains 1024 then
      take (({ s with hif := { s.hif with inFlight := s.hif.inFlight.filter (fun w => w != 1024) } } : Hub).count
        Cnt.HIF_CNT_DB_FETCH 1)
    else s
  | some w =>
    if s.hif.inFlight.contains w then
      let s1 : Hub := { s with hif := { s.hif with inFlight := s.hif.inFlight.filter (fun x => x != w) } }
      ((words.filter (fun (e : Nat × Nat) => e.1 == w)).foldl (fun (u : Hub) e => u.takeWord e.1 e.2) s1).reissue
    else s

/-! Descriptors (R226, R227, R231). -/

/-- Opcodes a ring type takes (R227). -/
def opAllowed (type op : Nat) : Bool :=
  if type = rtTx then decide (1 ≤ op) && decide (op ≤ 3)
  else if type = rtRx then op == 0x20
  else if type = rtCmd then
    (decide (0x40 ≤ op) && decide (op ≤ 0x43)) || (decide (0x48 ≤ op) && decide (op ≤ 0x4B)) || op == 0x50 || op == 0x51 || op == 0x58
      || (decide (0x60 ≤ op) && decide (op ≤ 0x62)) || (decide (0x68 ≤ op) && decide (op ≤ 0x6C)) || op == 0x7F
  else if type = rtDump then op == 0x70
  else false

/-- The word entry of memory 14 that caches descriptor `i` of ring `r` (R420). Log entry 91 (DEDUCED). -/
def descEntry (r i : Nat) : Nat := 16 * r + i % 16

/-- A descriptor of DUMP ring `r` waits for its completion behind a buffer that stays posted: a DUMP ring completes in descriptor
order (R231, R243). -/
def Hub.behindDump (s : Hub) (r : Nat) : Bool := s.ringType r == rtDump && (s.hring r).jobs.any (fun j => j.sent)

/-- Jobs at the front of ring `r` whose opcode its type does not take complete BAD_DESC (R227), and one whose cached descriptor
is uncorrectable DMA_ERROR (R420); a chain they stand in is bad. -/
def Hub.sweep (r : Nat) : (fuel : Nat) → (s : Hub) → Hub
  | 0, s => s
  | n + 1, s =>
    match (s.hring r).jobs.find? (fun j => !j.sent) with
    | none => s
    | some j =>
    let lost := s.entryBad 14 4 (descEntry r j.idx)
    if (opAllowed (s.ringType r) j.d.op && !lost) || s.behindDump r then s
      else
        let st := if lost then stDma else stBadDesc
        let s1 := ((if lost then s.entryTouch 14 4 (descEntry r j.idx) else s).finish (.ring r) j s.addr st 0).entryEnd 14 4
          (descEntry r j.idx)
        let R := s1.hring r
        (s1.setRing r { R with chainBad := if R.chained = 0 then 0 else st }).sweep r n

/-- The descriptors of one read, from ring entry `i` (R226). -/
def descsOf (t0 : Nat) : (n i : Nat) → List Byte → List Job
  | 0, _, _ => []
  | n + 1, i, b => { idx := i, d := readDesc b, t0 := t0 } :: descsOf t0 n ((i + 1) % 2 ^ 32) (b.drop 32)

/-- Commands fetched and not taken up, of every CMD ring and of the line gadget. -/
def Hub.cmdsWaiting (s : Hub) : Nat :=
  let waiting (js : List Job) : Nat := (js.filter (fun j => !j.sent)).length
  s.hif.rings.foldl (fun n e => if s.ringType e.1 = rtCmd then n + waiting e.2.jobs else n) (waiting s.hif.gjobs)

/-- How many descriptors of ring `r` a read of `len` bytes gives: up to 16, those the host has written, those a CQ entry can be
reserved for, and for commands those the 512 requests leave room for beside the commands that may still open one (R231, R233,
R242). -/
def Hub.fetchCount (s : Hub) (r len : Nat) : Nat :=
  let R := s.hring r
  let q := s.ringCqOf r
  let room := s.ringSize q - (s.ringHeld q + s.cqReserved q)
  let n := min 16 (min (cntDiff R.taken R.count) (min room (len / 32)))
  if s.ringType r = rtCmd then min n (512 - (s.reqsOut + s.cmdsWaiting)) else n

/-- Ring `r` has descriptors to fetch: it is enabled, ACTIVE, and R231 and R242 leave room. -/
def Hub.fetchable (s : Hub) (r : Nat) : Bool :=
  s.ringEn r && descRing (s.ringType r) && s.ringState r == rsActive && s.fetchCount r 512 != 0

/-- The ring whose turn it is: the first after the last one served, in round-robin order, that has descriptors to fetch (R233). -/
def Hub.nextTurn (s : Hub) : Option Nat :=
  match s.enabledRings.find? (fun r => s.hif.turn < r && s.fetchable r) with
  | some r => some r
  | none => s.enabledRings.find? (fun r => s.fetchable r)

/-- The reads of ring `r`'s next `n` descriptors: entry k lies at BASE + k mod SIZE times 32 (R222). -/
def Hub.descReads (r n : Nat) (s : Hub) : Hub :=
  let k := (s.hring r).count % s.ringSize r
  let a := min n (s.ringSize r - k)
  let s1 := s.emit (.hostRead (s.ringBase r + 32 * k) (32 * a))
  if a < n then s1.emit (.hostRead (s.ringBase r) (32 * (n - a))) else s1

/-- Descriptors of ring `r` arrive (R226, R231, R233). -/
def Hub.fetchDescs (r : Nat) (data : List Byte) (s : Hub) : Hub :=
  let n := s.fetchCount r data.length
  let R := s.hring r
  let cnt := (R.count + n) % 2 ^ 32
  let s := (List.range n).foldl (fun t k => t.entryEnd 14 4 (descEntry r (R.count + k))) s
  (((s.setRing r { R with count := cnt, jobs := R.jobs ++ descsOf s.fetchTick n R.count data }).setf (Fld.HIF_RING_STATUS_COUNT r)
    (cnt % 65536)).count Cnt.HIF_CNT_DESC n).sweep r 16

/-- A buffer access of a job fails on PCIe (R230, R246): the event; the completion is DMA_ERROR. Log entry 79 (DEDUCED). -/
def Hub.dmaFail (w : Asker) (j : Job) (s : Hub) : Hub :=
  (s.count Cnt.HIF_CNT_DMA_ERR 1).raise Evt.HIF_DMA_ERROR [askerRing w, j.idx]

/-- The next job of ring `r` when its opcode is `op` and its ring is of type `t`. -/
def Hub.ringJob (s : Hub) (r t op : Nat) : Option Job := if s.ringIs r t && s.dmaOk then s.nextIs (.ring r) op else none

/-- A job of ring `r` ends and the ring goes on (R231). -/
def Hub.endJob (r : Nat) (j : Job) (status result : Nat) (s : Hub) : Hub :=
  (s.finish (.ring r) j s.addr status result).sweep r 16

end Sys2Proof.Machine
end

