-- ==== Sys2Proof/Machine/HostPort.lean ====
section
/-! DEFINITION. The commands of the host port: its link, its rings, doorbells, descriptors, interrupts and events (R214,
R219 to R238, R243, R297, R371). -/

namespace Sys2Proof.Machine

open Host (Outcome)

/-! The port and its rings. -/

/-- HOST_PORT_RESET (R219), with the cause of R246. Log entry 74 (DEDUCED). -/
def execHostPortReset (cause : Fin 5) (s : State) : Outcome State Fault Refusal := s.on fun s => (s.hostReset cause)

/-- The endpoint trains at speed `speed` and to `width` lanes: Gen1 to Gen5 and 1 to 16 lanes at a head, Gen1 to Gen4 and up to 4
lanes at a node (R21, R22, R213, R214, R245). Log entry 75 (DEDUCED). -/
def Hub.linkFits (s : Hub) (speed width : Nat) : Bool :=
  decide (1 ≤ speed) && decide (speed ≤ if s.isHead then 5 else 4) && [1, 2, 4, 8, 16].contains width
    && decide (width ≤ if s.isHead then 16 else 4)

/-- HIF_LINK_UP (R214): the endpoint link comes up at `speed` and `width`, or its host changes the bus-master enable of an up
link; nothing at a hub without a host, while PERST_N is asserted, before step 5 of start-up (R443), or at a speed and width that the role does not train to. Log entry 75 (DEDUCED). -/
def execHifLinkUp (speed : Fin 6) (width : Fin 17) (bme : Bool) (s : State) : Outcome State Fault Refusal := s.on fun s =>
  if !s.hasHost ∨ s.hif.perst ∨ s.sec.stage < sgRom ∨ !s.quadsAwake ∨ !s.linkFits speed width then s
  else
    let s1 := (s |>.setf Fld.HIF_STATUS_LINK_UP 1 |>.setf Fld.HIF_STATUS_SPEED speed |>.setf Fld.HIF_STATUS_WIDTH width).setb
      Fld.HIF_STATUS_BME bme
    (if s.flag Fld.HIF_STATUS_LINK_UP then s1 else s1.raise Evt.HIF_LINK_UP [speed, width])

/-- PERST_N_RELEASE (R443): link training may begin, and CLKREQ_N is asserted (R214). -/
def execPerstNRelease (s : State) : Outcome State Fault Refusal := s.on fun s =>
  ({ s with hif := { s.hif with perst := false } }.emit (.clkreqN true))

/-- What the function's configuration space gives (R215). Log entry 176 (DESIGN CHOICE). -/
inductive CfgItem where
  | vendor | device | revision | classCode | subsystem | powerManagement | pciExpress | msiX | aer | serialNumber
  | maxPayload | maxReadRequest | tenBitTags | outstandingReads (tenBit : Bool) | functionReset | intx | msi | virtualFunctions
  deriving DecidableEq, Repr

/-- The value of an item of the configuration space; a capability or property reads 1 where the function has it (R215). Log entry
176 (DESIGN CHOICE). Log entry 176 (DESIGN CHOICE). -/
def Hub.cfgItem (s : Hub) : CfgItem → Nat
  | .vendor => 0x1FB3
  | .device => 0x0960
  | .revision => s.getf Fld.GEN_ID_REV
  | .classCode => 0x028000
  | .subsystem => s.sec.subsys
  | .serialNumber => s.getf Fld.GEN_HUB_ID_HI_ID_HI * 2 ^ 32 + s.getf Fld.GEN_HUB_ID_LO_ID_LO
  | .maxPayload => 512
  | .maxReadRequest => 4096
  | .outstandingReads tenBit => if tenBit then 768 else 256
  | .powerManagement | .pciExpress | .msiX | .aer | .tenBitTags | .functionReset => 1
  | .intx | .msi | .virtualFunctions => 0

/-- MSIX_VECTOR_UNMASK (R236): a write of the vector control word of vector `v`. -/
def execMsixVectorUnmask (v : Fin 2048) (w : Word) (s : State) : Outcome State Fault Refusal := s.on fun s => (s.writeMsixCtl v w.toNat)

/-- RING_ENABLE (R223): a write of HIF_RING_CFG_r that sets EN. -/
def execRingEnable (r : Fin 1024) (v : Word) (s : State) : Outcome State Fault Refusal := s.on fun s => (s.writeRingCfg r v.toNat)

/-- RING_DISABLE (R224): a write of HIF_RING_CFG_r that clears EN. -/
def execRingDisable (r : Fin 1024) (v : Word) (s : State) : Outcome State Fault Refusal := s.on fun s => (s.writeRingCfg r v.toNat)

/-- RING_DRAIN_DONE (R224): the steps of a disable end. -/
def execRingDrainDone (r : Fin 1024) (s : State) : Outcome State Fault Refusal := s.on fun s =>
  (if s.ringState r = rsDraining then s.setf (Fld.HIF_RING_STATUS_STATE r) rsIdle else s)

/-! Doorbells and descriptors. -/

/-- DOORBELL_PAGE_ARRIVE (R233, R234): the words of the page, or of ring `r`'s read, arrive. -/
def execDoorbellPageArrive (r : Option (Fin 1024)) (words : List (Fin 1024 × Word)) (s : State) : Outcome State Fault Refusal := s.on fun s =>
  (s.pageArrive (r.map (fun x => x.val)) (words.map (fun e => (e.1.val, e.2.toNat))))

/-- DOORBELL_LATE (R233): 30 µs after the boundary the page has not arrived. -/
def execDoorbellLate (s : State) : Outcome State Fault Refusal := s.on fun s =>
  match s.hif.pageAt with
  | none => s
  | some p => if p.1 + 30000 ≤ s.up then s.pageLate else s

/-- HIF_NUDGE (R234): a write of HIF_NUDGE. -/
def execHifNudge (v : Word) (s : State) : Outcome State Fault Refusal := s.on fun s => (s.writeNudge v.toNat)

/-- DESCRIPTOR_FETCH (R222, R225, R226, R233): the ring whose turn it is, `r`, has its descriptors read; `data` is what the read returned, none
where it failed. -/
def execDescriptorFetch (r : Fin 1024) (data : Option (List Byte)) (s : State) : Outcome State Fault Refusal := s.on fun s =>
  if s.dmaOk ∧ s.nextTurn = some r.val then
    let s1 := ({ s with hif := { s.hif with turn := r } } : Hub).descReads r (s.fetchCount r 512)
    match data with
    | none => ((s1.count Cnt.HIF_CNT_DMA_ERR 1).ringError r 7)
    | some bs => (s1.fetchDescs r bs)
  else s

/-! TX rings (R227, R255, R297). -/

/-- The colour of a frame written into queue `q` of a NET tunnel, whether it is dropped, and the frame (R255). -/
def Hub.txPolice (q : Nat) (f : List Byte) (s : Hub) : Nat × Bool × List Byte × Hub :=
  match s.plan.tunnels.find? (fun e => s.loadedPlan && e.2.kind == 1 && e.2.inq == some q) with
  | none => (0, false, f, s)
  | some (_, u) =>
    match u.policer with
    | none => (0, false, f, s)
    | some i => s.police i f

/-- A packet produced into ring `r`'s queue, and whether it entered (R227). -/
def Hub.txProduce (r colour : Nat) (bs : List Byte) (s : Hub) : Bool × Hub :=
  let q := s.ringQueue r
  let s1 := (packetCells bs).foldl (fun t c => t.produce q (.ring r) { c with colour := colour }) s
  let last := ((s1.queue q).pkts.getLast?).getD []
  (s1.qEnabled q && decide ((s.queue q).pkts.length < (s1.queue q).pkts.length) && !pktGap last, s1)

/-- A packet of ring `r` goes to its queue and job `j` completes (R227, R230). -/
def Hub.txPacket (r : Nat) (j : Job) (bs : List Byte) (s : Hub) : Hub :=
  let (colour, drop, f, s1) := s.txPolice (s.ringQueue r) bs
  if drop then s1.endJob r j stDropped bs.length
  else
    let (ok, s2) := s1.txProduce r colour f
    s2.endJob r j (if ok then stOk else stDropped) bs.length

/-- The operands of a TX_PKT descriptor are in range (R226, R227). -/
def txPktOk (d : Desc) : Bool :=
  d.flags &&& 0xFA == 0 && d.qt == 0 && d.param == 0 && decide (1 ≤ d.len) && decide (d.len ≤ 65536)

/-- A descriptor of a TX packet joins ring `r`'s chain: its bytes, or the status that spoils the packet (R226). Log entry 78 (DEDUCED). -/
def Hub.txJoin (r bad : Nat) (bs : List Byte) (s : Hub) : Hub :=
  let R := s.hring r
  let n := R.chained + 1
  let all := R.chain ++ bs
  let tooBig := decide (16 < n) || decide (65536 < all.length)
  let b := if R.chainBad ≠ 0 then R.chainBad else if bad ≠ 0 then bad else if tooBig then stBadDesc else 0
  s.setRing r { R with chain := if b = 0 then all else [], chained := n, chainBad := b }

/-- TX_PKT (R226, R227, R255): the next descriptor of TX ring `r`; `data` is its buffer's bytes, none where the read failed. Log entry 78 (DEDUCED). -/
def execTxPkt (r : Fin 1024) (data : Option (List Byte)) (s : State) : Outcome State Fault Refusal := s.on fun s =>
  match s.ringJob r rtTx 1 with
  | none => s
  | some j =>
    let bad := if !txPktOk j.d then stBadDesc else if data.isNone then stDma else 0
    let s1 := if bad = stDma then s.dmaFail (.ring r) j else s
    let s2 := s1.txJoin r bad (padTo j.d.len (data.getD []))
    let R := s2.hring r
    if bit j.d.flags 2 then ((s2.setRing r { R with jobs := R.jobs.filter (fun x => x.idx != j.idx) }).sweep r 16)
    else
      let s3 := s2.setRing r { R with chain := [], chained := 0, chainBad := 0 }
      (if R.chainBad = 0 then s3.txPacket r j R.chain else s3.endJob r j R.chainBad 0)

/-- The operands of a TX_TILE descriptor are in range (R295, R297). -/
def txTileOk (d : Desc) : Bool :=
  let w := bits d.param 47 32
  let h := bits d.param 63 48
  d.flags &&& 0xFE == 0 && decide (d.qt ≤ 5) && bits d.param 15 0 % 8 == 0 && bits d.param 31 16 % 8 == 0 && w % 8 == 0 && h % 8 == 0
    && decide (8 ≤ w) && decide (8 ≤ h) && d.len == w * h * bppOf d.qt && decide (d.len ≤ 65520)

/-- The header of a tile packet (R298). -/
def tileHeader (d : Desc) : List Byte :=
  beBytes 1 1 ++ beBytes 1 d.qt ++ zeros 2 ++ beBytes 2 (bits d.param 15 0) ++ beBytes 2 (bits d.param 31 16)
    ++ beBytes 2 (bits d.param 47 32) ++ beBytes 2 (bits d.param 63 48) ++ zeros 4

/-- The operands of a TX_COMMIT descriptor are in range (R297). -/
def txCommitOk (d : Desc) : Bool :=
  d.flags &&& 0xFE == 0 && d.qt == 0 && d.addr == 0 && d.len == 0 && decide (d.param < 2 ^ 33)

/-- The packet of a commit (R298). -/
def commitPacket (d : Desc) : List Byte :=
  beBytes 1 2 ++ beBytes 1 (b2n (bit d.param 32)) ++ zeros 2 ++ beBytes 4 (bits d.param 31 0) ++ zeros 8

/-- A display packet of ring `r` goes to its queue and job `j` completes (R297). -/
def Hub.txDisplay (r : Nat) (j : Job) (bs : List Byte) (s : Hub) : Hub :=
  let (ok, s1) := s.txProduce r 0 bs
  s1.endJob r j (if ok then stOk else stDropped) bs.length

/-- TX_TILE (R297, R298): the next descriptor of TX ring `r`; `data` is the tile's pixels, none where the read failed. -/
def execTxTile (r : Fin 1024) (data : Option (List Byte)) (s : State) : Outcome State Fault Refusal := s.on fun s =>
  match s.ringJob r rtTx 2 with
  | none => s
  | some j =>
    if !txTileOk j.d then (s.endJob r j stBadDesc 0)
    else
      match data with
      | none => ((s.dmaFail (.ring r) j).endJob r j stDma 0)
      | some bs => (s.txDisplay r j (tileHeader j.d ++ padTo j.d.len bs))

/-- TX_COMMIT (R297, R298): the next descriptor of TX ring `r`. -/
def execTxCommit (r : Fin 1024) (s : State) : Outcome State Fault Refusal := s.on fun s =>
  match s.ringJob r rtTx 3 with
  | none => s
  | some j => (if txCommitOk j.d then s.txDisplay r j (commitPacket j.d) else s.endJob r j stBadDesc 0)

/-! RX and DUMP rings, NOP (R227, R229, R243). -/

/-- The operands of an RX_BUF descriptor are in range (R227). -/
def rxBufOk (d : Desc) : Bool :=
  d.flags &&& 0xFE == 0 && d.qt == 0 && d.param == 0 && d.addr % 64 == 0 && d.len % 64 == 0 && decide (256 ≤ d.len)
    && decide (d.len ≤ 65536)

/-- The first cell of a packet: its index in line memory. -/
def pktFirst (p : List QCell) : Nat := (p.head?.map (fun c => c.idx)).getD 0

/-- Buffer `j` of ring `r` takes the next bytes of packet `p` from `pos` on (R229). Log entry 79 (DEDUCED). -/
def Hub.rxFill (r : Nat) (j : Job) (p : List QCell) (pos : Nat) (ok : Bool) (s : Hub) : Hub :=
  let bs := s.leaveBytes (s.ringQueue r) p
  let part := slice bs pos j.d.len
  let last := decide (bs.length ≤ pos + part.length)
  let s1 := if ok then s.emit (.hostWrite j.d.addr part) else s.dmaFail (.ring r) j
  let s2 := if last then s1.popPkt (s.ringQueue r) else s1
  let s3 := s2.setRing r { s2.hring r with rxPos := if last then 0 else pos + part.length, rxHead := pktFirst p }
  let c : Compl :=
    if ok then
      { f := pos == 0, l := last, gap := pktGap p, poison := pktPoison p, colour := (p.head?.map (fun c => c.colour)).getD 0, ring := r,
        hub := s.addr, status := stOk, result := part.length }
    else { ring := r, hub := s.addr, status := stDma }
  (s3.complete (.ring r) j.idx j.d.cookie (bit j.d.flags 0) c).sweep r 16

/-- RX_BUF (R229): the oldest buffer of RX ring `r` takes bytes from its queue; `ok` says whether the write succeeds. Log entry 79 (DEDUCED). -/
def execRxBuf (r : Fin 1024) (ok : Bool) (s : State) : Outcome State Fault Refusal := s.on fun s =>
  match s.ringJob r rtRx 0x20 with
  | none => s
  | some j =>
    if !rxBufOk j.d then (s.endJob r j stBadDesc 0)
    else
      let q := s.ringQueue r
      let R := s.hring r
      match s.headPkt q with
      | none => s
      | some p =>
        if R.rxPos ≠ 0 ∧ R.rxHead = pktFirst p then (s.rxFill r j p R.rxPos ok)
        else
          match s.readHead q with
          | (none, t) => t
          | (some p', t) => (t.rxFill r j p' 0 ok)

/-- The operands of a DUMP_BUF descriptor are in range (R227). -/
def dumpBufOk (d : Desc) : Bool :=
  d.flags &&& 0xFE == 0 && d.qt == 0 && d.param == 0 && d.addr % 4096 == 0 && decide (262144 ≤ d.len)

/-- DUMP_BUF (R231, R243): the next descriptor of DUMP ring `r` is posted as a dump target; one that is not formed completes in its
order, behind a buffer that is posted. -/
def execDumpBuf (r : Fin 1024) (s : State) : Outcome State Fault Refusal := s.on fun s =>
  match s.ringJob r rtDump 0x70 with
  | none => s
  | some j =>
    (if dumpBufOk j.d then (s.takeJob (.ring r) j).showDump
      else if s.behindDump r then s
      else s.endJob r j stBadDesc 0)

/-- NOP (R227): completes at once. -/
def execNop (w : Asker) (s : State) : Outcome State Fault Refusal := s.on fun s =>
  match s.jobFor w 0x7F with
  | none => s
  | some j =>
    let d := j.d
    let good := d.flags &&& 0xF6 == 0 && d.qt == 0 && d.addr == 0 && d.len == 0 && d.param == 0
    (s.finish w j s.addr (if good then stOk else stBadDesc) 0)

/-! Events (R237, R238, R371). -/

/-- A record passes the filter of EVQ `r` (R238). -/
def Hub.evqPasses (s : Hub) (r : Nat) (e : EvRec) (remote : Bool) : Bool :=
  decide (s.getf (Fld.HIF_RING_FILT_MIN_SEV r) ≤ e.sev.code) && bit (s.getf (Fld.HIF_RING_FILT_BLOCKS r)) (e.code / 256)
    && s.flag (if remote then Fld.HIF_RING_FILT_REMOTE r else Fld.HIF_RING_FILT_LOCAL r)

/-- An EVQ has room for an entry (R222). -/
def Hub.evqRoom (s : Hub) (r : Nat) : Bool := decide (s.ringHeld r < s.ringSize r)

/-- A record written into EVQ `r` (R237). -/
def Hub.evqPut (r : Nat) (e : EvRec) (s : Hub) : Hub :=
  let b := e.image (s.ringPhase r)
  s.writeEntry r (leNat (b.take 8)) (leNat (b.drop 8))

/-- A record for EVQ `r`: records lost before it are reported first, and one without room is lost (R238). -/
def Hub.evqGive (r : Nat) (e : EvRec) (s : Hub) : Hub :=
  let R := s.hring r
  let lose (t : Hub) : Hub :=
    (t.setRing r { t.hring r with lost := (t.hring r).lost + 1 }).count Cnt.HIF_CNT_EVQ_DROP 1
  let s1 := if s.evqRoom r && R.lost != 0 then
      (s.setRing r { R with lost := 0 }).evqPut r (s.evRec Evt.HIF_EVQ_OVERFLOW .warning [r, R.lost])
    else s
  if s1.evqRoom r then s1.evqPut r e else lose s1

/-- The enabled EVQs. -/
def Hub.evqs (s : Hub) : List Nat := s.enabledRings.filter (fun r => s.ringType r == rtEvq)

/-- The GADGET tunnels whose add end is here: number, IN_QUEUE and MIN_SEV (R371). -/
def Hub.gadgetAdds (s : Hub) : List (Nat × Nat × Nat) :=
  if s.isHead && s.loadedPlan then
    s.plan.tunnels.filterMap (fun e => if e.2.kind = 5 then e.2.inq.map (fun q => (e.1, q, bits e.2.bind 2 0)) else none)
  else []

/-- The records collected for GADGET tunnel `t` leave as one cell into queue `q` (R371). Log entry 81 (DEDUCED). -/
def Hub.gadgetSend (t q : Nat) (s : Hub) : Hub :=
  match Tab.getD s.hif.gtun t [] with
  | [] => s
  | bs => ({ s with hif := { s.hif with gtun := Tab.del t s.hif.gtun } } : Hub).produce q .fw { data := bs }

/-- A record the head writes to its own EVQs joins the cells of the GADGET tunnels that carry it, 16 to a cell (R371). -/
def Hub.gadgetCollect (e : EvRec) (s : Hub) : Hub :=
  s.gadgetAdds.foldl (fun t g =>
    if g.2.2 ≤ e.sev.code then
      let bs := Tab.getD t.hif.gtun g.1 [] ++ e.image 1
      let t1 : Hub := { t with hif := { t.hif with gtun := Tab.put g.1 bs t.hif.gtun } }
      if 256 ≤ bs.length then t1.gadgetSend g.1 g.2.1 else t1
    else t) s

/-- At a tick boundary a cell that is not full leaves too, and the gadget takes commands waiting in its buffers. Log entry 81 (DEDUCED). -/
def Hub.gadgetFlush (s : Hub) : Hub := (s.gadgetAdds.foldl (fun t g => t.gadgetSend g.1 g.2.1) s).gadgetDrain 16

/-- A record goes to the EVQs of this hub's host and to GADGET tunnels (R238, R371). -/
def Hub.tellHost (e : EvRec) (remote : Bool) (s : Hub) : Hub :=
  ((s.evqs.filter (fun r => s.evqPasses r e remote)).foldl (fun t r => t.evqGive r e) s).gadgetCollect e

/-- The record of a 16-byte image (R237). -/
def recOfImage (b : List Byte) : EvRec :=
  let lo := leAt b 0 8
  let sev : Sev := match bits lo 38 36 with
    | 0 => .info
    | 1 => .notice
    | 2 => .warning
    | 3 => .error
    | _ => .fatal
  { code := bits lo 63 48, hub := bits lo 47 39, sev := sev, tick := bits lo 31 0, args := leAt b 8 8 }

/-- The records of an event image list. -/
def recsOf : (n : Nat) → List Byte → List EvRec
  | 0, _ => []
  | n + 1, b => recOfImage (b.take 16) :: recsOf n (b.drop 16)

/-- A packet of a GADGET tunnel's OUT_QUEUE at its drop end reaches the gadget (R371). -/
def Hub.gadgetPkt (q : Nat) (s : Hub) : Hub :=
  match s.readHead q with
  | (none, t) => t
  | (some p, t) =>
    let bs := t.pktBytes p
    let u := t.popPkt q
    if pktGap p then u.count Cnt.USB_CNT_EVT_LOST ((GapPend.ofBytes bs).pkts * 16)
    else if pktPoison p then u
    else (recsOf (bs.length / 16) bs).foldl (fun v e => v.gadgetEvent e true) u

/-- The OUT_QUEUEs the gadget consumes (R371). -/
def Hub.gadgetQueues (s : Hub) : List Nat :=
  if s.loadedPlan && s.atL0 dUSBPD then
    s.plan.tunnels.filterMap (fun e => if e.2.kind = 5 ∧ bit e.2.bind 31 then e.2.outq else none)
  else []

/-- The gadget takes what waits in its tunnels. -/
def Hub.gadgetTakeTunnels (s : Hub) : Hub :=
  s.gadgetQueues.foldl (fun t q => (t.queue q).pkts.foldl (fun u _ => u.gadgetPkt q) t) s

/-- A record of the event ring has gone everywhere it has to (R29, R238, R239, R366). -/
def Hub.recDone (s : Hub) (e : EvRec) : Bool :=
  (e.told || !s.hasHost) && (e.fed || !s.flag Fld.USB_CFG_GADGET_EN)
    && (e.sent || s.isHead || s.isHeld || decide (e.sev.code < s.getf Fld.HIF_RELAY_CFG_MIN_SEV))

/-- Records that are done leave the event ring. -/
def Hub.trimEvents (s : Hub) : Hub :=
  let recs := s.ev.recs.filter (fun e => !s.recDone e)
  { s with ev := { s.ev with recs := recs, dropped := s.ev.dropped && !recs.isEmpty } }

/-- The first record that satisfies `p`, with `f` applied to it in the list. -/
def markFirst (p : EvRec → Bool) (f : EvRec → EvRec) : List EvRec → Option EvRec × List EvRec
  | [] => (none, [])
  | e :: t => if p e then (some e, f e :: t) else ((markFirst p f t).1, e :: (markFirst p f t).2)

/-- The oldest record not yet given to the gadget is given to it. Log entry 80 (DEDUCED). -/
def Hub.feedGadget (s : Hub) : Hub :=
  match markFirst (fun e => !e.fed) (fun e => { e with fed := true }) s.ev.recs with
  | (some e, recs) => ({ s with ev := { s.ev with recs := recs } } : Hub).gadgetEvent e false
  | (none, _) => s

/-- The oldest record not yet given to the host is written into its EVQs; records wait while none is enabled (R219). Log entry 80 (DEDUCED). -/
def Hub.feedHost (s : Hub) : Hub :=
  if s.evqs.isEmpty then s
  else
    match markFirst (fun e => !e.told) (fun e => { e with told := true }) s.ev.recs with
    | (some e, recs) => ({ s with ev := { s.ev with recs := recs } } : Hub).tellHost e false
    | (none, _) => s

/-- EVENT_DELIVER (R238): the oldest record that waits is written into the EVQs whose filters pass it and given to the gadget,
and the gadget takes what its tunnels hold. Log entry 80 (DEDUCED). -/
def execEventDeliver (s : State) : Outcome State Fault Refusal := s.on fun s => (s.feedGadget.feedHost.gadgetTakeTunnels.trimEvents)

/-- INTERRUPT_MODERATION (R236): ring `r` sends its message if one is due. -/
def execInterruptModeration (r : Fin 1024) (s : State) : Outcome State Fault Refusal := s.on fun s => (s.moderate r)

end Sys2Proof.Machine
end

