-- ==== Sys2Proof/Machine/NetLink.lean ====
section
/-! DEFINITION. The commands of network tunnels (R247 to R272) and the launch actions that send frames (R198, R261). -/

namespace Sys2Proof.Machine

open Host (Outcome)

/-! Reception (R248 to R256, R264, R267). -/

/-- The cells of a frame with its colour (R255, R256). -/
def frameCells (f : List Byte) (colour : Nat) : List PCell := (packetCells f).map (fun c => { c with colour := colour })

/-- A frame written into queue `q` by the Ethernet engine; one the queue does not take whole counts in RX_QUEUE_DROP (R269). -/
def Hub.writeFrame (p q : Nat) (f : List Byte) (colour : Nat) (s : Hub) : Hub :=
  let s1 := (frameCells f colour).foldl (fun t c => t.produce q .eth c) s
  let took := decide ((s.queue q).pkts.length < (s1.queue q).pkts.length) && (match (s1.queue q).pkts.getLast? with
    | some k => !pktGap k
    | none => false)
  if took then s1 else s1.count (Cnt.NET_CNT_RX_QUEUE_DROP p) 1

/-- A classified frame is policed and written (R254, R255). -/
def Hub.policeFrame (p q : Nat) (pol : Option Nat) (f : List Byte) (s : Hub) : Hub :=
  match pol with
  | none => s.writeFrame p q f 0
  | some i =>
    let (c, drop, f1, s1) := s.police i f
    if drop then s1.count (Cnt.NET_CNT_RX_RED_DROP p) 1 else s1.writeFrame p q f1 c

/-- A frame for the flow entry it matches (R252, R255, R267). -/
def Hub.flowFrame (p ts : Nat) (w : List Nat) (f : List Byte) (s : Hub) : Hub :=
  let w4 := w.getD 4 0
  let w5 := w.getD 5 0
  let w6 := w.getD 6 0
  let q := bits w5 12 0
  let own := if bit w6 31 then some (bits w6 9 0) else none
  if bit w5 31 then s.count (Cnt.NET_CNT_RX_NO_MATCH p) 1
  else if bit w4 31 then
    match (s.netTun (bits w4 11 0)).filter (fun u => u.inq == some q) with
    | none => s.count (Cnt.NET_CNT_RX_NO_TUNNEL p) 1
    | some u =>
      let f1 := match (if tunTclk u then s.portEvent p f else none) with
        | none => f
        | some a => addCorrection a (-(ts : Int)) f
      s.policeFrame p q (match own with | some i => some i | none => u.policer) f1
  else s.policeFrame p q own f

/-- A delay request of the port's domain that its role answers is kept with its timestamp (R268). Log entry 178 (DEDUCED). -/
def Hub.noteRequest (p ts : Nat) (a : PtpAt) (f : List Byte) (s : Hub) : Hub :=
  let kind := bits (byteAt f a.off) 3 0
  let role := s.getf (Fld.NET_PTP_CFG_ROLE p)
  if byteAt f (a.off + 4) = s.getf (Fld.NET_PTP_CFG_DOMAIN p) ∧ ((role = 1 ∧ kind = 1) ∨ (role = 2 ∧ kind = 2)) then
    s.setEport p { s.eport p with reqStamp := ts, reqOpen := true }
  else s

/-- A good frame, stored without FCS, whose timestamp is `ts`: MAC Control frames, timestamps, then the flow table. Log entry 84 (DEDUCED). -/
def Hub.goodFrame (p ts : Nat) (f : List Byte) (s : Hub) : Hub :=
  let s1 := (s.count (Cnt.NET_CNT_RX_FRAMES p) 1).count (Cnt.NET_CNT_RX_BYTES p) (f.length + 4)
  if etherType f = 0x8808 then s1.count (Cnt.NET_CNT_RX_PAUSE p) 1
  else
    let s2 := match s1.portEvent p f with
      | none => s1
      | some a =>
        (s1.stamp p false false a ts f).noteRequest p ts a f
    match (s2.touchAll 7).classify p f with
    | some w => (s2.touchAll 7).flowFrame p ts w f
    | none =>
      let s2 := s2.touchAll 7
      if s2.flag (Fld.NET_PORT_DEF_EN p) then s2.writeFrame p (s2.getf (Fld.NET_PORT_DEF_QUEUE p)) f 0
      else s2.count (Cnt.NET_CNT_RX_NO_MATCH p) 1

/-- The words of port `p`'s receive FIFO in the engine buffers; its transmit FIFO's are those of port 4 + p (R420). Log entry 90 (DESIGN CHOICE). -/
def fifoWord (p : Nat) : Nat := 16384 + 1152 * p

/-- A frame passes through the FIFO at word `w`: the read path finds the errors its write left there, and it is gone from there. -/
def Hub.fifoPass (w : Nat) (s : Hub) : Hub := (s.spanTouch 13 w (w + 1152)).spanEnd 13 w (w + 1152)

/-- A frame with an uncorrectable error in the FIFO at word `w` is discarded (R420). -/
def Hub.fifoDrop (w : Nat) (s : Hub) : Hub := s.fifoPass w

/-- ETH_FRAME_RECEIVE: a frame with its FCS arrives at port `p`; `ts` is its pad timestamp in 2^-16 ns after the mode's fixed
correction (R248, R252, R264). Log entry 84 (DEDUCED). -/
def execEthFrameReceive (p : Fin 4) (frame : List Byte) (ts : Nat) (s : State) : Outcome State Fault Refusal := s.on fun s =>
  let f := frame.take (frame.length - 4)
  if !s.flag (Fld.NET_PORT_CFG_EN p) || s.getf (Fld.NET_PORT_CFG_MODE p) == 0 || s.offAsleep 0x060000 then s
  else if fcsOf f ≠ frame.drop (frame.length - 4) then (s.count (Cnt.NET_CNT_RX_FCS p) 1)
  else if frame.length < 64 ∨ s.getf (Fld.NET_PORT_CFG_MTU p) < frame.length then (s.count (Cnt.NET_CNT_RX_LENGTH p) 1)
  else if s.spanBad 13 (fifoWord p) (fifoWord (p + 1)) then s.fifoDrop (fifoWord p)
  else ((s.fifoPass (fifoWord p)).goodFrame p (s.adjStamp p ts) f)

/-! Transmission (R257, R260 to R266). -/

/-- A Sync message with twoStepFlag = 0 (R266). Log entry 86 (PRESUMED). -/
def oneStepSync (a : PtpAt) (f : List Byte) : Bool := bits (byteAt f a.off) 3 0 == 0 && !bit (byteAt f (a.off + 6)) 1

/-- originTimestamp and the fraction written into a one-step Sync (R266). -/
def Hub.writeOneStep (s : Hub) (a : PtpAt) (ts : Nat) (f : List Byte) : List Byte :=
  addCorrection a (ts % fracUnit : Nat) (splice f (a.off + 34) (ptpStamp (s.mapped (ts / fracUnit))))

/-- A frame as it leaves queue `q`: the tunnel's VLAN tag (R257), the transparent clock's addition (R267), one-step Sync
(R266) and padding (R248); with whether ONE_STEP was written. -/
def Hub.dressFrame (s : Hub) (p q ts : Nat) (f : List Byte) : List Byte × Bool :=
  let f1 := s.leaveTag q f
  let f2 := match (match s.tunOf 1 q with | none => none | some u => if tunTclk u then s.portEvent p f1 else none) with
    | none => f1
    | some a => addCorrection a ts f1
  match s.portEvent p f2 with
  | none => (padFrame f2, false)
  | some a =>
    if s.flag (Fld.NET_PTP_CFG_ONE_STEP p) && oneStepSync a f2 then (padFrame (s.writeOneStep a ts f2), true)
    else (padFrame f2, false)

/-- Frame `f` from queue `q` leaves port `p` from line time `t`, with transmit timestamp `ts`. -/
def Hub.sendFrame (p q t ts : Nat) (f : List Byte) (s : Hub) : Hub :=
  let (g, one) := s.dressFrame p q ts f
  if s.spanBad 13 (fifoWord (4 + p)) (fifoWord (5 + p)) then s.fifoDrop (fifoWord (4 + p)) else
  let s0 := s.fifoPass (fifoWord (4 + p))
  let s1 := ((s0.emit (.ethFrame p t (g ++ fcsOf g))).count (Cnt.NET_CNT_TX_FRAMES p) 1).count (Cnt.NET_CNT_TX_BYTES p) (g.length + 4)
  let s2 := s1.setEport p { s1.eport p with busy := t + s.wireNs p g.length }
  match s.portEvent p g with
  | none => s2
  | some a =>
    let s3 := s2.stamp p true one a ts g
    let kind := bits (byteAt g a.off) 3 0
    if kind = 0 then s3.setEport p { s3.eport p with syncStamp := ts }
    else if kind = 3 then s3.setEport p { s3.eport p with respStamp := ts }
    else s3

/-- The head packet of queue `q` is a gap marker or poisoned: the port takes it out unsent (R257). -/
def Hub.dropHead (p q : Nat) (k : List QCell) (s : Hub) : Hub :=
  let g := GapPend.ofBytes (s.pktBytes k)
  if pktGap k then
    ((s.popPkt q).count (Cnt.NET_CNT_TX_GAP_FRAMES p) g.pkts).raiseLimited Evt.NET_TX_GAP p [p, g.pkts]
  else (s.popPkt q).count (Cnt.NET_CNT_TX_POISON p) 1

/-- The earliest T of a launch handed over to port `p` (R260). -/
def Hub.launchT (s : Hub) (p : Nat) : Option Nat :=
  (s.time.launches.filter (fun e => e.2.handed && (e.2.action == 0x20 || e.2.action == 0x40) && e.2.port == p)).foldl
    (fun a e => match a with
      | none => some e.2.f
      | some u => some (min u e.2.f)) none

/-- The frame would not end by T of a launch handed over (R260). -/
def Hub.guardHolds (s : Hub) (p wire : Nat) : Bool :=
  match s.launchT p with
  | none => false
  | some t => decide (t < s.now + wire)

/-- What a class's queue offers a port at a start point (R260, R262). -/
inductive Pick where
  | consume (k : List QCell)
  | oversize (gate : Bool)
  | skip
  | send (k : List QCell)

/-- Class `c`'s choice at port `p` (R260): a frame too long for the port, or for every open window of its class, is freed whatever its
gate (R262, R269). -/
def Hub.pick (s : Hub) (p c : Nat) (k : Option (List QCell)) : Pick :=
  match k with
  | none => .skip
  | some k =>
    let len := (s.pktBytes k).length
    let wire := s.wireNs p len
    let fin := s.endNs p len
    let closed := s.windowLeft p c == some 0
    let sh := if s.flag (Fld.NET_PORT_TCSHP_VALID p c) then some (s.getf (Fld.NET_PORT_TCSHP_SHAPER p c)) else none
    if pktGap k || pktPoison k then (if closed then .skip else .consume k)
    else if s.getf (Fld.NET_PORT_CFG_MTU p) - 4 < len then .oversize false
    else if (match s.windowMax p c with | none => false | some m => decide (m < wire)) then .oversize true
    else if closed || (match sh with | none => false | some i => s.shaperHolds i) then .skip
    else if (match s.windowLeft p c with | none => false | some m => decide (m < fin)) then .skip
    else if s.guardHolds p wire then .skip
    else .send k

/-- The search of R260 from class `c` down; `n` bounds the packets taken out on the way. -/
def Hub.egress (p ts : Nat) : (n c : Nat) → (s : Hub) → Hub
  | 0, _, s => s
  | n + 1, c, s =>
    let q := s.getf (Fld.NET_PORT_EGQ_BASE p) + c
    let (k, s1) := s.readHead q
    match s1.pick p c k with
    | .skip => if c = 0 then s1 else Hub.egress p ts n (c - 1) s1
    | .consume k => Hub.egress p ts n c (s1.dropHead p q k)
    | .oversize gate =>
      let s2 := (s1.popPkt q).count (Cnt.NET_CNT_TX_OVERSIZE p) 1
      Hub.egress p ts n c (if gate then s2.raiseLimited Evt.NET_GATE_OVERSIZE p [p, c] else s2)
    | .send k =>
      let f := s1.pktBytes k
      let s2 := if s1.flag (Fld.NET_PORT_TCSHP_VALID p c) then s1.shaperSpend (s1.getf (Fld.NET_PORT_TCSHP_SHAPER p c)) f.length
        else s1
      (s2.popPkt q).sendFrame p q s2.now ts f

/-- Packets waiting in the class queues of port `p`. -/
def Hub.egressDepth (s : Hub) (p : Nat) : Nat :=
  (List.range 8).foldl (fun n c => n + (s.queue (s.getf (Fld.NET_PORT_EGQ_BASE p) + c)).pkts.length) 0

/-- ETH_TRANSMIT_START: at line time `t` port `p` could start a frame, whose transmit timestamp would be `ts` (R260). -/
def execEthTransmitStart (p : Fin 4) (t ts : Nat) (s : State) : Outcome State Fault Refusal := s.on fun s =>
  let s1 := (s.advance t).gatesNow p
  if s1.flag (Fld.NET_PORT_CFG_EN p) && s1.flag (Fld.NET_PORT_EGQ_EN p) && s1.flag (Fld.NET_PORT_STATUS_LINK p)
      && decide ((s1.eport p).busy ≤ s1.now) && !s1.offAsleep 0x060000 then
    (Hub.egress p (s1.adjStamp p ts) (s1.egressDepth p + 9) 7 s1)
  else s1

/-- ETH_LINK_CHANGE: port `p`'s link comes up at SPEED code `speed`, one its MODE runs at, with auto-negotiation complete where it
runs; or goes down for `cause` (R247, R271, R272). Log entry 179 (DEDUCED). -/
def execEthLinkChange (p : Fin 4) (up : Bool) (speed : Fin 8) (an : Bool) (cause : Fin 4) (s : State) : Outcome State Fault Refusal := s.on fun s =>
  if up then
    if s.flag (Fld.NET_PORT_CFG_EN p) && (s.ethSpeeds p).contains speed.val && an == s.ethAn p && !s.offAsleep 0x060000 then
      ((s |>.setf (Fld.NET_PORT_STATUS_LINK p) 1 |>.setf (Fld.NET_PORT_STATUS_SPEED p) speed
        |>.setb (Fld.NET_PORT_STATUS_AN_DONE p) an |>.setf (Fld.NET_PORT_STATUS_LOCAL_FAULT p) 0
        |>.setf (Fld.NET_PORT_STATUS_REMOTE_FAULT p) 0).raise Evt.NET_LINK_UP [p, speed])
    else s
  else
    s.ethDown p cause

/-! The flow table and policers (R253, R271). -/

/-- A write of word `w` (1 to 7) of flow entry `f` is held. -/
def Hub.holdFlow (f w v : Nat) (s : Hub) : Hub :=
  let h := Tab.getD s.net.heldFlow f []
  { s with net := { s.net with heldFlow := Tab.put f (Tab.put w v h) s.net.heldFlow } }

/-- The bits of flow-entry words that hold fields (R251); the others are reserved and read 0. -/
def flowMask (w : Nat) : Nat :=
  match w with
  | 0 => 0x80FFFF00
  | 1 => 0x0000FFFF
  | 2 => 0xFFFFFFFF
  | 3 => 0x0FFFFFFF
  | 4 => 0x80000FFF
  | 5 => 0x80001FFF
  | 6 => 0x800003FF
  | _ => 0

/-- A write of word 0 commits the entry with its held words (R253). -/
def Hub.commitFlow (f v : Nat) (s : Hub) : Hub :=
  let h := Tab.getD s.net.heldFlow f []
  let old := s.flow f
  let ws := (List.range 8).map (fun w => if w = 0 then v &&& flowMask 0 else (Tab.getD h w (old.getD w 0)) &&& flowMask w)
  { (s.entryEnd 7 4 f) with net := { s.net with
    flows := if ws.all (· == 0) then Tab.del f s.net.flows else Tab.put f ws s.net.flows } }

/-- FLOW_ENTRY_HOLD: a write of word `w` of entry `f`, 1 to 7, is held (R253). -/
def execFlowEntryHold (f : Fin 8192) (w : Fin 8) (v : Word) (s : State) : Outcome State Fault Refusal := s.on fun s =>
  if w.val = 0 then s else (s.holdFlow f w v.toNat)

/-- FLOW_ENTRY_COMMIT: a write of word 0 of entry `f` (R253). -/
def execFlowEntryCommit (f : Fin 8192) (v : Word) (s : State) : Outcome State Fault Refusal := s.on fun s => (s.commitFlow f v.toNat)

/-- The held value of word `w` of policer `i`, 1 CIR to 4 PBS. -/
def Hub.heldPolWord (s : Hub) (i w : Nat) : Nat :=
  Tab.getD (Tab.getD s.net.heldPol i []) w (s.getf (if w = 1 then Fld.NET_POL_CIR i else if w = 2 then Fld.NET_POL_CBS i
    else if w = 3 then Fld.NET_POL_PIR i else Fld.NET_POL_PBS i))

/-- A write of word `w` of policer `i` is held (R271). -/
def Hub.holdPol (i w v : Nat) (s : Hub) : Hub :=
  { s with net := { s.net with heldPol := Tab.put i (Tab.put w v (Tab.getD s.net.heldPol i [])) s.net.heldPol } }

/-- A write of word 0 of policer `i`: refused, or committed with full buckets to come into force at the next tick boundary
(R254, R271). Log entry 87 (DEDUCED). -/
def Hub.commitPol (i v : Nat) (s : Hub) : Hub :=
  let cir := s.heldPolWord i 1
  let cbs := s.heldPolWord i 2
  let pir := s.heldPolWord i 3
  let pbs := s.heldPolWord i 4
  if bit v 31 && (decide (pir < cir) || decide (pbs < cbs) || cbs == 0) then
    s.raise Evt.NET_CFG_REFUSED [0x068000 + 32 * i, v]
  else
    ({ s with net := { s.net with polNext := Tab.put i ⟨v &&& 0xF000FFFF, cir, cbs, pir, pbs, cbs, pbs⟩ s.net.polNext } } : Hub)
      |>.setf (Fld.NET_POL_CTL_EN i) (bits v 31 31) |>.setf (Fld.NET_POL_CTL_AWARE i) (bits v 30 30)
      |>.setf (Fld.NET_POL_CTL_DROP_RED i) (bits v 29 29) |>.setf (Fld.NET_POL_CTL_SET_DEI i) (bits v 28 28)
      |>.setf (Fld.NET_POL_CTL_PCP_RED i) (bits v 15 8) |>.setf (Fld.NET_POL_CTL_PCP_YELLOW i) (bits v 7 0)
      |>.setf (Fld.NET_POL_CIR i) cir |>.setf (Fld.NET_POL_CBS i) cbs |>.setf (Fld.NET_POL_PIR i) pir
      |>.setf (Fld.NET_POL_PBS i) pbs

/-- POLICER_COMMIT: a write of NET_POL_i word 0 (R271). -/
def execPolicerCommit (i : Fin 1024) (v : Word) (s : State) : Outcome State Fault Refusal := s.on fun s => (s.commitPol i v.toNat)

/-! Egress and release queues (R260, R261). -/

/-- The eight class queues from `base`. -/
def classQs (base : Nat) : List Nat := (List.range 8).map (fun c => base + c)

/-- A write of NET_PORT_EGQ_p (R260, R270). Log entry 175 (DESIGN CHOICE). -/
def Hub.writeEgq (p v : Nat) (s : Hub) : Hub :=
  let en := s.flag (Fld.NET_PORT_EGQ_EN p)
  let b := bits v 12 0
  let old := s.getf (Fld.NET_PORT_EGQ_BASE p)
  let ok := decide (b % 8 = 0) && decide (24 ≤ b) && decide (b ≤ 8184)
  if en then
    let s1 := if bit v 31 then s
      else ((classQs old).foldl (fun t q => t.unbindCons q (.egq p)) s).setf (Fld.NET_PORT_EGQ_EN p) 0
    if b ≠ old then s1.lockedWrite (0x06010C + 0x100 * p) v else s1
  else
    let s1 := if ok then s.setf (Fld.NET_PORT_EGQ_BASE p) b else s
    let base := s1.getf (Fld.NET_PORT_EGQ_BASE p)
    if !bit v 31 then s1
    else if base < 24 ∨ (classQs base).any (fun q => s1.consTaken q) then s1.raise Evt.NET_CFG_REFUSED [0x06010C + 0x100 * p, v]
    else ((classQs base).foldl (fun t q => t.bindCons q (.egq p)) s1).setf (Fld.NET_PORT_EGQ_EN p) 1

/-- EGQ_ENABLE: a write of NET_PORT_EGQ_p (R260). -/
def execEgqEnable (p : Fin 4) (v : Word) (s : State) : Outcome State Fault Refusal := s.on fun s => (s.writeEgq p v.toNat)

/-- A write of NET_PORT_RELQ_p_j: the old binding is released, and a new one is made or refused (R261). -/
def Hub.writeRelq (p j v : Nat) (s : Hub) : Hub :=
  let s1 := if s.flag (Fld.NET_PORT_RELQ_VALID p j) then s.unbindCons (s.getf (Fld.NET_PORT_RELQ_QUEUE p j)) (.relq p j) else s
  let q := bits v 12 0
  if !bit v 31 then s1 |>.setf (Fld.NET_PORT_RELQ_VALID p j) 0 |>.setf (Fld.NET_PORT_RELQ_QUEUE p j) q
  else if q < 20 ∨ s1.consTaken q then s.raise Evt.NET_CFG_REFUSED [0x060160 + 0x100 * p + 4 * j, v]
  else (s1.bindCons q (.relq p j)) |>.setf (Fld.NET_PORT_RELQ_VALID p j) 1 |>.setf (Fld.NET_PORT_RELQ_QUEUE p j) q

/-- RELQ_BIND: a write of NET_PORT_RELQ_p_j (R261). -/
def execRelqBind (p : Fin 4) (j : Fin 8) (v : Word) (s : State) : Outcome State Fault Refusal := s.on fun s => (s.writeRelq p j v.toNat)

/-! Gate lists (R262, R263). -/

/-- The admin list of port `p`, `n` entries. -/
def Hub.adminList (s : Hub) (p n : Nat) : List GateEntry :=
  (List.range n).map (fun i => ⟨s.getf (Fld.NET_GL_ADMIN_GATES_GATES p i), s.getf (Fld.NET_GL_ADMIN_INT_INTERVAL p i)⟩)

/-- NET_GL_CTL_p.COMMIT (R263); `v` is the value written. -/
def Hub.commitGates (p v : Nat) (s : Hub) : Hub :=
  let n := s.getf (Fld.NET_GL_COUNT_COUNT p)
  let es := s.adminList p (min n 256)
  if n = 0 ∨ 256 < n ∨ es.any (fun e => e.interval == 0) then s.raise Evt.NET_CFG_REFUSED [0x060118 + 0x100 * p, v]
  else
    let start := s.getf (Fld.NET_GL_START_HI p) * 2 ^ 32 + s.getf (Fld.NET_GL_START_LO p)
    let want := cdiv start tickNs
    let late := decide (want ≤ s.tick)
    let t := if late then s.tick + 1 else want
    let s1 := (s.setEport p { s.eport p with pend := some (es, t) }) |>.setf (Fld.NET_GL_STATUS_PENDING p) 1
      |>.setf (Fld.NET_GL_PEND_TICK_LO p) (t % 2 ^ 32) |>.setf (Fld.NET_GL_PEND_TICK_HI p) (t / 2 ^ 32)
    if late then s1.raise Evt.NET_GL_LATE [p, want] else s1

/-- GATE_LIST_COMMIT (R263). -/
def execGateListCommit (p : Fin 4) (v : Word) (s : State) : Outcome State Fault Refusal := s.on fun s => (s.commitGates p v.toNat)

/-- GATE_LIST_CANCEL: NET_GL_CTL_p.CANCEL empties the pending slot (R263). -/
def execGateListCancel (p : Fin 4) (s : State) : Outcome State Fault Refusal := s.on fun s => (s.clearGatePend p)

/-- GATE_LIST_TAKEOVER: the pending list of port `p` takes over at the boundary of its tick (R34, R263). Log entry 8 (DESIGN CHOICE). -/
def execGateListTakeover (p : Fin 4) (s : State) : Outcome State Fault Refusal := s.on fun s =>
  s.atBoundary (fun t => t.gatesDue p t.tick) (Hub.gatesAt p)

/-- GATE_LIST_ENTRY_ADVANCE: the entry in force at port `p` has lasted its INTERVAL (R262). -/
def execGateListEntryAdvance (p : Fin 4) (s : State) : Outcome State Fault Refusal := s.on fun s =>
  let P := s.eport p
  match P.oper[P.pos]? with
  | none => s
  | some e =>
    let s1 := s.advance (P.posAt + e.interval)
    let i := if P.pos + 1 < P.oper.length then P.pos + 1 else 0
    ((s1.setEport p { P with pos := i, posAt := P.posAt + e.interval }).setf (Fld.NET_GL_STATUS_CURRENT p) i)

/-! Launch actions that send frames (R198, R201, R261). -/

/-- A launched frame leaves port `p` at T, or when the port is free again, and the launch completes with that time. -/
def Hub.launchFrame (slot p q ts : Nat) (l : Launch) (f : List Byte) (s : Hub) : Hub :=
  let t := max l.f (s.eport p).busy
  (s.sendFrame p q t ts f).launchRan slot t

/-- A launch that is due to send a frame, none while one admitted before it for the same T on the port is pending (R201, R261). -/
def Hub.ethDue (s : Hub) (slot action : Nat) : Option Launch := (s.due slot action).filter (fun l => !s.ethBefore l)

/-- ETH_RELEASE: at T the oldest complete packet of the release queue is sent (R198, R261). Log entry 85 (DEDUCED). -/
def execEthRelease (slot : Fin 1024) (ts : Nat) (s : State) : Outcome State Fault Refusal := s.on fun s =>
  match s.ethDue slot 0x20 with
  | none => s
  | some l =>
    let s0 := s.advance l.f
    let p := l.port
    let (k, s1) := s0.readHead l.queue
    match k with
    | none => (s1.launchDone slot lsEmpty l.f)
    | some k =>
      let f := s1.pktBytes k
      if pktGap k || pktPoison k then ((s1.dropHead p l.queue k).launchDone slot lsEmpty l.f)
      else if s1.getf (Fld.NET_PORT_CFG_MTU p) - 4 < f.length then
        (((s1.popPkt l.queue).count (Cnt.NET_CNT_TX_OVERSIZE p) 1).launchDone slot lsEmpty l.f)
      else ((s1.popPkt l.queue).launchFrame slot p l.queue (s1.adjStamp p ts) l f)

/-- The field a CAM_TRIGGER writes: T + DELTA as line time or as a PTP timestamp of mapped time (R198). -/
def Hub.camField (s : Hub) (l : Launch) : List Byte :=
  if l.format = 0 then beBytes 8 (l.time + l.delta) else ptpStamp (s.mapped (l.time + l.delta))

/-- CAM_TRIGGER: at T a copy of the template packet with T + DELTA written is sent; a template too long for the port is freed unsent
(R198, R261, R269). Log entry 85 (DEDUCED). -/
def execCamTrigger (slot : Fin 1024) (ts : Nat) (s : State) : Outcome State Fault Refusal := s.on fun s =>
  match s.ethDue slot 0x40 with
  | none => s
  | some l =>
    let s0 := s.advance l.f
    let p := l.port
    let (k, s1) := s0.readHead l.queue
    match k with
    | none => (s1.launchDone slot lsEmpty l.f)
    | some k =>
      if pktGap k || pktPoison k then ((s1.dropHead p l.queue k).launchDone slot lsEmpty l.f)
      else if s1.getf (Fld.NET_PORT_CFG_MTU p) - 4 < (s1.pktBytes k).length then
        (((s1.popPkt l.queue).count (Cnt.NET_CNT_TX_OVERSIZE p) 1).launchDone slot lsEmpty l.f)
      else
        let f := padFrame (s1.pktBytes k)
        let fld := s1.camField l
        if f.length < l.offset + fld.length then (s1.launchDone slot lsBadTarget l.f)
        else (s1.launchFrame slot p l.queue (s1.adjStamp p ts) l (splice f l.offset fld))

/-! PTP roles (R268). -/

/-- The message types a role sends (R268). -/
def ptpKinds (role : Nat) (oneStep : Bool) : List Nat :=
  match role with
  | 1 => [0x0, 0xB, 0x9] ++ (if oneStep then [] else [0x8])
  | 2 => [0x0, 0xB, 0x2, 0x3, 0xA] ++ (if oneStep then [] else [0x8])
  | 3 => [0x1]
  | 4 => [0x2]
  | _ => []

/-- clockClass of a master (R268). -/
def Hub.clockClass (s : Hub) : Nat :=
  match s.gmState % 16 with
  | 0 => if s.flag Fld.LTM_UTC_TRACEABLE then 6 else 248
  | 1 => 7
  | _ => 248

/-- The fields the rules fix, written into a PTP message (R268): DOMAIN; twoStepFlag and the interval of a Sync; mapped time in
Sync, Follow_Up and responses; priorities and clockClass in Announce. Log entry 86 (PRESUMED). -/
def Hub.fillPtp (s : Hub) (p kind : Nat) (a : PtpAt) (f : List Byte) : List Byte :=
  let o := a.off
  let stampAt (ts : Nat) (g : List Byte) : List Byte := splice g (o + 34) (ptpStamp (s.mapped (ts / fracUnit)))
  let f1 := splice f (o + 4) (beBytes 1 (s.getf (Fld.NET_PTP_CFG_DOMAIN p)))
  let b6 := byteAt f1 (o + 6)
  if kind = 0x0 then
    let b := if s.flag (Fld.NET_PTP_CFG_ONE_STEP p) then b6 - (b6 / 2 % 2) * 2 else b6 - (b6 / 2 % 2) * 2 + 2
    splice (splice (stampAt (s.now * fracUnit) f1) (o + 6) (beBytes 1 b)) (o + 33) (beBytes 1 (enc 8 (sgn 4 (s.getf (Fld.NET_PTP_CFG_LOG_SYNC p)))))
  else if kind = 0x8 then stampAt (s.eport p).syncStamp f1
  else if kind = 0x9 ∨ kind = 0x3 then stampAt (s.eport p).reqStamp f1
  else if kind = 0xA then stampAt (s.eport p).respStamp f1
  else if kind = 0xB then
    splice (splice (stampAt (s.now * fracUnit) f1) (o + 47)
      (beBytes 1 (s.getf (Fld.NET_PTP_CFG_PRIORITY1 p)) ++ beBytes 1 s.clockClass)) (o + 52) (beBytes 1 128)
  else f1

/-- The time between Syncs in ns: 2^LOG_SYNC s, LOG_SYNC being −7 to 0 (R268, R271). Log entry 178 (DEDUCED). -/
def Hub.syncEvery (s : Hub) (p : Nat) : Nat := 1000000000 / 2 ^ ((16 - s.getf (Fld.NET_PTP_CFG_LOG_SYNC p)) % 16)

/-- Port `p` sends a message of type `kind` now (R268): a Sync or Announce when its interval has passed, a Follow_Up that is owed, an
answer to a request that has none; the others at any time. Log entry 178 (DEDUCED). -/
def Hub.ptpTime (s : Hub) (p kind : Nat) : Bool :=
  let P := s.eport p
  let passed (at' : Option Nat) (ns : Nat) : Bool := match at' with
    | none => true
    | some t => decide (t + ns ≤ s.up)
  match kind with
  | 0x0 => passed P.syncAt (s.syncEvery p)
  | 0xB => passed P.annAt 1000000000
  | 0x8 => P.syncOpen
  | 0x9 | 0x3 => P.reqOpen
  | 0xA => P.respOpen
  | _ => true

/-- What port `p`'s role keeps of a message of type `kind` that it sends (R268). Log entry 178 (DEDUCED). -/
def Hub.ptpSent (p kind : Nat) (s : Hub) : Hub :=
  let P := s.eport p
  s.setEport p (match kind with
    | 0x0 => { P with syncAt := some s.up, syncOpen := true }
    | 0xB => { P with annAt := some s.up }
    | 0x8 => { P with syncOpen := false }
    | 0x9 => { P with reqOpen := false }
    | 0x3 => { P with reqOpen := false, respOpen := true }
    | 0xA => { P with respOpen := false }
    | _ => P)

/-- PTP_MESSAGE_SEND: the control firmware of port `p` sends a message of its role when it is due; `frame` gives the frame as stored with
its addresses and the fields PTP itself fixes, and `ts` its transmit timestamp (R268). Log entry 178 (DEDUCED). -/
def execPtpMessageSend (p : Fin 4) (frame : List Byte) (ts : Nat) (s : State) : Outcome State Fault Refusal := s.on fun s =>
  match ptpFind true true true frame with
  | none => s
  | some a =>
    let kind := bits (byteAt frame a.off) 3 0
    if s.flag (Fld.NET_PORT_CFG_EN p) && s.flag (Fld.NET_PORT_STATUS_LINK p)
        && (ptpKinds (s.getf (Fld.NET_PTP_CFG_ROLE p)) (s.flag (Fld.NET_PTP_CFG_ONE_STEP p))).contains kind
        && s.ptpTime p kind then
      ((s.ptpSent p kind).sendFrame p 8192 (max s.now (s.eport p).busy) (s.adjStamp p ts) (s.fillPtp p kind a frame))
    else s

end Sys2Proof.Machine
end

