-- ==== Sys2Proof/Machine/Trunk.lean ====
section
/-! DEFINITION. The commands of "Trunk pairs and cable" (R35 to R73). -/

namespace Sys2Proof.Machine

open Host (Outcome)

/-! Attach (R38 to R42). -/

/-- SENSE_DEPARTURE: the comparator of an ATTACHED port signals, and the port's power channel opens (R38, R382). -/
def execSenseDeparture (p : Fin 2) (s : State) : Outcome State Fault Refusal := s.on fun s =>
  if s.attach p = atAttached then ((s.setPort p { s.port p with departed := true }).chEval p) else s

/-- The attach state machine follows new bands (R39). -/
def Hub.attachStep (p : Nat) (a b : Band) (s : Hub) : Hub :=
  let P := s.port p
  let s1 := s.setPort p { P with band1 := a, band2 := b }
  let changed := decide (a ≠ P.band1) || decide (b ≠ P.band2)
  if s.attach p = atDetached then
    if senseFound p a b || dToD p a b then s1.setf (Fld.TRK_PORT_STATUS_ATTACH p) atDebounce else s1
  else if s.attach p = atDebounce then
    if changed then s1.setf (Fld.TRK_PORT_STATUS_ATTACH p) atDetached else s1
  else if s.attach p = atAttached then
    let sense := if s.flag (Fld.TRK_PORT_STATUS_FLIPPED p) then b else a
    let away := sense != .sense
    let s2 := s1.setPort p { s1.port p with leaving := away, departed := away }
    if away then s2.chEval p else if P.leaving || P.departed then s2.chReturn p else s2
  else if s.attach p = atMiscabled then s1.setPort p { s1.port p with leaving := (a, b) != P.misBands }
  else s1

/-- CFG_PIN_SAMPLE: the CFG pins at `mv1` and `mv2` mV are classified (R38) and the attach state machine steps (R39). Once
a port is ATTACHED only its sense pin is classified. -/
def execCfgPinSample (p : Fin 2) (mv1 mv2 : Nat) (s : State) : Outcome State Fault Refusal := s.on fun s =>
  let P := s.port p
  let att := s.attach p == atAttached
  let flip := s.flag (Fld.TRK_PORT_STATUS_FLIPPED p)
  let a := if att && flip then P.band1 else classify P.band1 mv1
  let b := if att && !flip then P.band2 else classify P.band2 mv2
  (s.attachStep p a b)

/-- The port becomes ATTACHED: orientation, TRK_ATTACH, CSUP at D, the power channel's condition, bring-up (R39, R40, R42). -/
def Hub.attachPort (p : Nat) (flip : Bool) (s : Hub) : Hub :=
  let P := s.port p
  let s1 := (s.setb (Fld.TRK_PORT_STATUS_FLIPPED p) flip |>.setf (Fld.TRK_PORT_STATUS_ATTACH p) atAttached
    |>.setf (Fld.TRK_PORT_STATUS_ATTEMPTS p) 0).setPort p
    { P with leaving := false, departed := false, csupFault := false, recDone := false, record := [], recOwn := false, step := 0,
             far := none, ackRx := false }
  let s2 := (s1.orientPairs p).raise Evt.TRK_ATTACH [p, b2n flip]
  ((s2.startCsup p).chReturn p).startBringup p

/-- ATTACH_DEBOUNCE_EXPIRY: tCFGDB expires (R39). -/
def execAttachDebounceExpiry (p : Fin 2) (s : State) : Outcome State Fault Refusal := s.on fun s =>
  let P := s.port p
  if s.attach p ≠ atDebounce then s
  else if senseFound p P.band1 P.band2 then (s.attachPort p (P.band1 != .sense))
  else if dToD p P.band1 P.band2 then
    (((s.setf (Fld.TRK_PORT_STATUS_ATTACH p) atMiscabled).setPort p
      { P with leaving := false, misBands := (P.band1, P.band2) }).raise Evt.TRK_MISCABLED [p])
  else (s.setf (Fld.TRK_PORT_STATUS_ATTACH p) atDetached)

/-- An ATTACHED port is left: the link drops, CSUP goes, TRK_DETACH (R39). No ID record is in force then, and a head conflict holds
the port no longer. Log entries 35 (DEDUCED), 166 (DESIGN CHOICE). -/
def Hub.detachPort (p : Nat) (s : Hub) : Hub :=
  let s1 := s.dropLink p
  ((((s1.setf (Fld.TRK_PORT_STATUS_CSUP p) csOff).setf (Fld.TRK_PORT_STATUS_ATTACH p) atDetached).setPort p
    { s1.port p with leaving := false, departed := false, conflict := false, record := [], recDone := false, recOwn := false,
                     csupFault := false }).showRecord p [])
    |>.setf (Fld.TRK_PORT_STATUS_ID_VALID p) 0 |>.raise Evt.TRK_DETACH [p] |>.chEval p

/-- DETACH_DEBOUNCE_EXPIRY: tCFGDET expires with the sense pin out of SENSE, or a MISCABLED port's bands changed (R39). -/
def execDetachDebounceExpiry (p : Fin 2) (s : State) : Outcome State Fault Refusal := s.on fun s =>
  let P := s.port p
  if !P.leaving then s
  else if s.attach p = atAttached then (s.detachPort p)
  else if s.attach p = atMiscabled then
    ((s.setf (Fld.TRK_PORT_STATUS_ATTACH p) atDetached).setPort p { P with leaving := false })
  else s

/-- CABLE_ID_READ: the reads of both ID chips complete with these 32-byte records (R36, R37). Log entry 49 (DESIGN CHOICE). -/
def execCableIdRead (p : Fin 2) (rec0 rec1 : List Byte) (s : State) : Outcome State Fault Refusal := s.on fun s =>
  if s.csup p = csOurs then (s.decideRecord p rec0 rec1) else s

/-- CSUP_TAKEOVER: a U port, attached, its link down and CSUP low for 20 ms, supplies CSUP (R42). -/
def execCsupTakeover (p : Fin 2) (s : State) : Outcome State Fault Refusal := s.on fun s =>
  if p.val = 0 ∧ s.attach p = atAttached ∧ !s.linkUp p ∧ !(s.port p).csupFault ∧ s.flag (Fld.TRK_PORT_CTL_EN p) ∧ s.io33 then
    ((s.supplyCsup p).raise Evt.TRK_CSUP_TAKEOVER [p])
  else s

/-- CSUP_RELEASE: 1 ms after the ACK the U port stops supplying CSUP, which the far hub then supplies (R42). Log entry 167 (DEDUCED). -/
def execCsupRelease (p : Fin 2) (s : State) : Outcome State Fault Refusal := s.on fun s =>
  if p.val = 0 ∧ s.csup p = csOurs ∧ (s.port p).ackRx then (s.setf (Fld.TRK_PORT_STATUS_CSUP p) csFar) else s

/-- CSUP_RESUME: the D port supplies CSUP once its pin has been below 2.8 V for 100 µs (R42). -/
def execCsupResume (p : Fin 2) (s : State) : Outcome State Fault Refusal := s.on fun s =>
  if p.val = 1 ∧ s.attach p = atAttached ∧ s.flag (Fld.TRK_PORT_CTL_EN p) then (s.supplyCsup p) else s

/-- CSUP_FAULT: CSUP above its limit for 1 ms is cut off until the next attach (R37, R42). -/
def execCsupFault (p : Fin 2) (s : State) : Outcome State Fault Refusal := s.on fun s =>
  if s.csup p = csOurs then
    let s1 := ((s.setf (Fld.TRK_PORT_STATUS_CSUP p) csFault).setPort p { s.port p with csupFault := true }).raise
      Evt.TRK_CSUP_FAULT [p]
    (if (s.port p).recDone then s1 else s1.decideRecord p [] [])
  else s

/-! Bring-up (R64 to R67). -/

/-- LOW_SPEED_LOCK: the low-speed receiver locks onto the far end's idle; attach counts from here when later (R64). -/
def execLowSpeedLock (p : Fin 2) (s : State) : Outcome State Fault Refusal := s.on fun s =>
  if s.link p = lkLowSpeed ∧ (s.port p).step ≤ 1 then
    (s.setPort p { s.port p with step := 2, attachAt := s.up })
  else s

/-- HELLO_SEND: step 4 sends HELLO until the far HELLO comes (R64, R65). -/
def execHelloSend (p : Fin 2) (s : State) : Outcome State Fault Refusal := s.on fun s =>
  let P := s.port p
  if (s.link p = lkLowSpeed ∨ s.link p = lkHandshake) ∧ 2 ≤ P.step ∧ P.far.isNone ∧ (s.csup p ≠ csOurs ∨ P.recDone) then
    let f := if P.hello.isEmpty then s.helloFrame p else P.hello
    (((s.setf (Fld.TRK_PORT_STATUS_LINK p) lkHandshake).setPort p { P with step := 4, hello := f }).emit (.lowSpeed p f))
  else s

/-- HELLO_RECEIVE: a good HELLO is taken and answered with ACK (R65); a head facing a head holds the port down (R19). Log entry 49 (DESIGN CHOICE). -/
def execHelloReceive (p : Fin 2) (frame : List Byte) (s : State) : Outcome State Fault Refusal := s.on fun s =>
  if frameGood 1 frame ∧ (s.link p = lkLowSpeed ∨ s.link p = lkHandshake) then
    let f := farOf frame
    if s.isHead ∧ f.head then (s.headConflict p f.hubId)
    else
      let s1 := s.setPort p { s.port p with far := some f, step := 4 }
      let s2 := s1.setf (Fld.TRK_PORT_STATUS_LINK p) lkHandshake |>.farRows p f.rows
      let s3 := if f.csupOwner ∧ s2.csup p ≠ csOurs ∧ s2.csup p ≠ csFault then s2.setf (Fld.TRK_PORT_STATUS_CSUP p) csFar else s2
      let s4 := if s3.csup p ≠ csOurs ∧ bit (byteAt frame 3) 4 then s3.takeRecord p (slice frame 16 32) true false
        else if s3.csup p ≠ csOurs ∧ !(s3.port p).recDone then s3.takeRecord p [] false false else s3
      (s4.emit (.lowSpeed p (s.ackFrame p)))
  else s

/-- ACK_RECEIVE: a good ACK completes the handshake (R65). -/
def execAckReceive (p : Fin 2) (frame : List Byte) (s : State) : Outcome State Fault Refusal := s.on fun s =>
  if frameGood 2 frame ∧ s.link p = lkHandshake ∧ (s.port p).far.isSome then
    (s.setPort p { s.port p with ackRx := true })
  else s

/-- The fixed pairs go to PAM3 with the rows in force and send the lock pattern (R64 step 5). -/
def Hub.fixedStart (p : Nat) (s : Hub) : Hub :=
  let s1 := [0, 7].foldl (fun t k => t.wakePair p k) s
  ((s1.setf (Fld.TRK_PORT_STATUS_LINK p) lkPam3).setPort p { s1.port p with step := 5 }).emit (.lockPattern p (outFixed p))

/-- TRK_LINK_FAIL is raised, once in an attempt, with the step reached (R64). -/
def Hub.linkFail (p step : Nat) (s : Hub) : Hub :=
  if (s.port p).failRaised then s
  else ((s.setPort p { s.port p with failRaised := true }).setf (Fld.TRK_PORT_STATUS_FAIL_STEP p) step).raise Evt.TRK_LINK_FAIL [p, step]

/-- An attempt of bring-up fails at `step`: the link drops and the port waits for the next attempt (R64, R67). -/
def Hub.bringupFail (p step : Nat) (s : Hub) : Hub :=
  ((s.dropLink p).setf (Fld.TRK_PORT_STATUS_LINK p) lkFailed).linkFail p step

/-- PAM3_SWITCH: at ACK + 1 ms (R59, R64); a port without a usable fixed pair stays down (R58). -/
def execPam3Switch (p : Fin 2) (s : State) : Outcome State Fault Refusal := s.on fun s =>
  let P := s.port p
  if s.link p = lkHandshake ∧ P.ackRx ∧ P.far.isSome then
    if s.fixedUsable p then
      (([0, 7].foldl (fun t k => t.setRow p k (t.bringupRow p k)) s).fixedStart p)
    else (s.bringupFail p 5)
  else s

/-- The rows of the far end's fixed pairs can all have been tried after `n` retries: its tables give at most 8 rows (R57, R67). Log entry 167 (DEDUCED). -/
def Hub.farTried (s : Hub) (p n : Nat) : Bool :=
  [0, 7].all (fun k => decide (7 ≤ s.getf (Fld.TRK_PAIR_STATUS_FAR_ROW (8 * p + k)) + n))

/-- FIXED_PAIR_RETRY: the fixed pairs are retried from step 5 on the next higher row of both ends; where the last row at both ends
has failed the port stays down (R67). Log entry 32 (DEDUCED). -/
def execFixedPairRetry (p : Fin 2) (s : State) : Outcome State Fault Refusal := s.on fun s =>
  if s.link p = lkPam3 ∧ !s.flag (Fld.TRK_PAIR_STATUS_LOCKED (8 * p + inFixed p)) then
    let P := s.port p
    let row (k : Nat) := s.getf (Fld.TRK_PAIR_STATUS_ROW (8 * p + k))
    if s.lastRow p 0 ≤ row 0 ∧ s.lastRow p 7 ≤ row 7 ∧ s.farTried p P.tries then (s.bringupFail p 6)
    else (([0, 7].foldl (fun t k => t.setRow p k (min (row k + 1) (s.lastRow p k)))
      (s.setPort p { P with tries := P.tries + 1 })).fixedStart p)
  else s

/-- A pair's test ends: it is tested no more, with CAP `cap` (R66). -/
def Hub.testEnd (p k cap : Nat) (s : Hub) : Hub :=
  let s1 := (s.setf (Fld.TRK_PAIR_STATUS_CAP (8 * p + k)) cap).setPort p
    { s.port p with testLeft := (s.port p).testLeft.filter (fun x => x != k) }
  if cap = 2 then (s1.sleepPair p k).raise Evt.TRK_PAIR_FAULT [p, k] else s1

/-- PAIR_TEST_DONE: 32 ticks of PRBS31 end; `locked` within 16 ticks and `errors` bit errors (R66). Log entry 49 (DESIGN CHOICE). -/
def execPairTestDone (p : Fin 2) (k : Fin 8) (locked : Bool) (errors : Nat) (s : State) : Outcome State Fault Refusal := s.on fun s =>
  if s.link p = lkPairTest ∧ (s.port p).testLeft.contains k.val then
    let L := s.lane p k
    let s1 := s.setb (Fld.TRK_PAIR_STATUS_LOCKED (8 * p + k)) locked
    let row := s.getf (Fld.TRK_PAIR_STATUS_ROW (8 * p + k))
    if locked ∧ errors ≤ 76 then ((s1.testEnd p k (b2n L.testNrz)).setLane p k { L with testNrz := false })
    else if L.testNrz then ((s1.testEnd p k 2).setLane p k { L with testNrz := false })
    else if row < s.lastRow p k then (s1.setRow p k (row + 1))
    else (s1.setLane p k { L with testNrz := true })
  else s

/-- LINK_FAIL_TIMEOUT: a link not up 50 ms from attach, which counts from the first far idle (R64). The retries of fixed pairs go on
(R67); at another step the attempt ends. Log entry 167 (DEDUCED). -/
def execLinkFailTimeout (p : Fin 2) (s : State) : Outcome State Fault Refusal := s.on fun s =>
  let P := s.port p
  if s.attach p = atAttached ∧ s.link p ≠ lkUp ∧ s.link p ≠ lkFailed ∧ s.link p ≠ lkDown ∧ 2 ≤ P.step ∧
      P.attachAt + 50000000 ≤ s.up then
    (if P.step = 5 ∨ P.step = 6 then s.linkFail p P.step else s.bringupFail p P.step)
  else s

/-- BRINGUP_RETRY: every 10 s a port that stays ATTACHED with its link down starts again (R67). -/
def execBringupRetry (p : Fin 2) (s : State) : Outcome State Fault Refusal := s.on fun s =>
  if s.attach p = atAttached ∧ (s.link p = lkFailed ∨ s.link p = lkDown) ∧ (s.port p).startAt + 10000000000 ≤ s.up then
    (s.startBringup p) else s

/-- RELINK drops the link and restarts bring-up at step 1 (R67, R69). -/
def Hub.relink (p : Nat) (s : Hub) : Hub := (s.dropLink p).startBringup p

/-- PORT_RELINK: TRK_PORT_CTL.RELINK (R69). -/
def execPortRelink (p : Fin 2) (s : State) : Outcome State Fault Refusal := s.on fun s => (s.relink p)

/-- A write of TRK_PORT_CTL_p (R69): EN holds the port down with CSUP off, or releases it; RELINK restarts bring-up. -/
def Hub.writePortCtl (p v : Nat) (s : Hub) : Hub :=
  let was := s.flag (Fld.TRK_PORT_CTL_EN p)
  let en := bit v 0
  let s1 := s.setb (Fld.TRK_PORT_CTL_EN p) en
  let s2 := if was && !en then
      let t := s1.dropLink p
      if t.csup p = csOurs then t.setf (Fld.TRK_PORT_STATUS_CSUP p) csOff else t
    else if !was && en && s1.attach p == atAttached then
      (s1.startCsup p).startBringup p
    else s1
  if bit v 1 then s2.relink p else s2

/-- PORT_EN_WRITE: a write `v` of TRK_PORT_CTL_p (R69). -/
def execPortEnWrite (p : Fin 2) (v : Word) (s : State) : Outcome State Fault Refusal := s.on fun s => (s.writePortCtl p v.toNat)

/-! Loopbacks (R61 to R63). -/

/-- The pairs a loopback names: SRC, and DST for MODE 3 and 4 (R61). -/
def Hub.loopPairs (s : Hub) (p : Nat) : List Nat :=
  let src := s.getf (Fld.TRK_LOOP_CTL_SRC p)
  let dst := s.getf (Fld.TRK_LOOP_CTL_DST p)
  if 3 ≤ s.getf (Fld.TRK_LOOP_CTL_MODE p) then [src, dst] else [src]

/-- Pair `k` of port `p` has runs in the active epoch; in the transparent plan a turnable pair that can pass is used too
(R44, R146), so it counts as having runs. -/
def Hub.pairRuns (s : Hub) (p k : Nat) : Bool :=
  match s.actSec with
  | none => false
  | some c => c.hasRuns p k

/-- The refusal of a START (R62): RESULT 5 pair, 6 lock, 7 wake. -/
def Hub.loopRefusal (s : Hub) (p : Nat) : Option Nat :=
  let mode := s.getf (Fld.TRK_LOOP_CTL_MODE p)
  let src := s.getf (Fld.TRK_LOOP_CTL_SRC p)
  let dst := s.getf (Fld.TRK_LOOP_CTL_DST p)
  let ps := s.loopPairs p
  let roles := if mode = 3 then s.dir p src == dirIn && s.dir p dst == dirOut
    else if mode = 4 then s.dir p src == dirOut && s.dir p dst == dirIn else true
  if ps.any fixedPair || (decide (3 ≤ mode) && src == dst) || ps.any (s.pairRuns p) || !roles then some 5
  else if (s.lockRefusal mtLoop (ps.map (fun k => .pair (8 * p + k)))).isSome then some 6
  else if ps.any (fun k => s.laneFailed p k) || !s.linkUp p then some 7
  else none

/-- A loopback holds pair `k` of port `p` awake: the lane of its direction, and for MODE 1 and 2 both its lanes (R61). -/
def Hub.holdPair (p k : Nat) (s : Hub) : Hub :=
  let s1 := (s.wakePair p k).setf (Fld.TRK_PAIR_STATUS_LOOP (8 * p + k)) 1
  if s.getf (Fld.TRK_LOOP_CTL_MODE p) ≤ 2 then
    s1 |>.setf (Fld.TRK_PAIR_STATUS_TX_SLEEP (8 * p + k)) 0 |>.setf (Fld.TRK_PAIR_STATUS_RX_SLEEP (8 * p + k)) 0
  else s1

/-- The generator of a loopback drives the chosen pattern on SRC; MODE 3 has none (R61). -/
def Hub.startPattern (p : Nat) (s : Hub) : Hub :=
  if s.getf (Fld.TRK_LOOP_CTL_MODE p) = 3 then s
  else s.emit (.loopPattern p (s.getf (Fld.TRK_LOOP_CTL_SRC p)) (s.getf (Fld.TRK_LOOP_CTL_PATTERN p)))

/-- A write of TRK_LOOP_CTL_p (R61 to R63, R70): the parameters unless one runs, then STOP, then START. A START with MODE 0 starts
nothing and leaves RESULT. Log entries 166 (DESIGN CHOICE), 167 (DEDUCED). -/
def Hub.writeLoopCtl (p v : Nat) (s : Hub) : Hub :=
  let run := s.loopRunning p
  let put (f : Fl) (x : Nat) (bad : Bool) (t : Hub) : Hub := if bad then t else t.setf f x
  let s1 := if run then s else
    (((s.setf (Fld.TRK_LOOP_CTL_SRC p) (bits v 18 16)).setf (Fld.TRK_LOOP_CTL_DST p) (bits v 6 4))
      |> put (Fld.TRK_LOOP_CTL_PATTERN p) (bits v 10 8) (decide (4 ≤ bits v 10 8)))
      |> put (Fld.TRK_LOOP_CTL_MODE p) (bits v 2 0) (decide (5 ≤ bits v 2 0))
  let s2 := if bit v 14 && run then
      (s1.loopEnd p 2).raise Evt.TRK_LOOP_DONE [p, (s1.cnt (Cnt.TRK_LOOP_ERRS p)).v]
    else s1
  if bit v 15 && !s2.loopRunning p && s2.getf (Fld.TRK_LOOP_CTL_MODE p) != 0 then
    match s2.loopRefusal p with
    | some r => s2.setf (Fld.TRK_LOOP_STAT_RESULT p) r
    | none =>
      ((s2.loopPairs p).foldl (fun t k => t.holdPair p k) (((s2.startAct mtLoop (16 * p + s2.getf (Fld.TRK_LOOP_CTL_SRC p)) 2 ((s2.loopPairs p).map (fun k => .pair (8 * p + k)))).2.clearCnt
          (Cnt.TRK_LOOP_ERRS p)).setf (Fld.TRK_LOOP_STAT_RESULT p) 1)).startPattern p
  else s2

/-- LOOP_START: a write `v` of TRK_LOOP_CTL_p with START (R62). -/
def execLoopStart (p : Fin 2) (v : Word) (s : State) : Outcome State Fault Refusal := s.on fun s => (s.writeLoopCtl p v.toNat)

/-- LOOP_STOP: STOP of a running loopback (R63). -/
def execLoopStop (p : Fin 2) (s : State) : Outcome State Fault Refusal := s.on fun s => (s.writeLoopCtl p (2 ^ 14 +
  s.getf (Fld.TRK_LOOP_CTL_SRC p) * 2 ^ 16 + s.getf (Fld.TRK_LOOP_CTL_PATTERN p) * 2 ^ 8
  + s.getf (Fld.TRK_LOOP_CTL_DST p) * 16 + s.getf (Fld.TRK_LOOP_CTL_MODE p)))

/-! The knuckle and lane sleep (R50 to R55). -/

/-- What the pairs do from the next tick: the PAIRS elements in force then, whether a pair carries runs or passes, and whether
plan B is entered (R114). -/
structure NextPairs where
  pairs : List Nat
  runs : Nat → Nat → Bool
  planB : Bool := false

/-- The pairs in the transparent plan. -/
def passing (ps : List Nat) : NextPairs := { pairs := ps, runs := fun _ k => canPass ps k }

/-- The change due at the next tick boundary, if there is one: an armed switch (R142), a transparent switch or entry (R145, R146), or
an entry into plan B, with or without a revert (R114). -/
def Hub.nextPairs (s : Hub) : Option NextPairs :=
  let t := s.tick + 1
  let armed := s.plan.armed.filter (fun a => a.at' == t)
  let inB (c : Sec) : NextPairs := { pairs := c.pairs, runs := fun p k => c.hasRuns p k, planB := true }
  match armed, s.plan.entryDue, s.ring.brk with
  | some a, _, _ =>
    if s.pend = psArmed then
      (Tab.get? s.pendBank s.plan.banks).map (fun c => { pairs := c.pairs, runs := fun p k => c.hasRuns p k })
    else some (passing (s.transparentPairs true a.epoch))
  | none, some (reason, e), _ => some (passing (s.transparentPairs (reason == 3) e))
  | none, none, some b =>
    if b.entry ≠ t ∨ s.getf Fld.TRK_RING_STATUS_STATE ≠ 1 then none
    else
      match s.plan.prev.filter (fun v => decide (b.detect ≤ v.at')) with
      | some v =>
        match (if v.transparent then none else Tab.get? v.bank s.plan.banks) with
        | some c => some { (inB c) with pairs := v.pairs }
        | none => some (passing v.pairs)
      | none => s.actSec.map inB
  | none, none, none => none

/-- Every (port, pair). -/
def allPairs : List (Nat × Nat) := [0, 1].flatMap (fun p => (List.range 8).map (fun k => (p, k)))

/-- Pair `k` of port `p` is asleep. -/
def Hub.pairAsleep (s : Hub) (p k : Nat) : Bool :=
  s.flag (Fld.TRK_PAIR_STATUS_TX_SLEEP (8 * p + k)) && s.flag (Fld.TRK_PAIR_STATUS_RX_SLEEP (8 * p + k))

/-- What earlier wakes of pair `k`'s lanes at port `p` failed with is forgotten (R412). -/
def Hub.clearFails (p k : Nat) (s : Hub) : Hub :=
  { s with pwr := { s.pwr with laneFails := Tab.del (8 * (2 * p) + k) (Tab.del (8 * (2 * p + 1) + k) s.pwr.laneFails) } }

/-- LANE_WAKE_START: at 40 µs into tick T − 1, lanes that carry runs from T start waking (R55), and loopbacks on such pairs
abort (R63). -/
def execLaneWakeStart (s : State) : Outcome State Fault Refusal := s.on fun s =>
  match s.nextPairs.filter (fun _ => decide (s.now ≤ s.tick * tickNs + 40000)) with
  | none => s
  | some n =>
    let s := s.advance (s.tick * tickNs + 40000)
    (allPairs.foldl (fun t (p, k) =>
      if n.runs p k then
        let t1 := if t.flag (Fld.TRK_PAIR_STATUS_LOOP (8 * p + k)) then t.loopAbort p 3 else t
        let newDir := bits (n.pairs.getD (8 * p + k) 0) 1 0
        if t1.pairAsleep p k || newDir != t1.dir p k then
          (t1.clearFails p k).setLane p k { t1.lane p k with waking := true, wakeAt := s.up, slept := t1.pairAsleep p k }
        else t1
      else t) s)

/-- LANE_WAKE_DONE: a lane's wake completes (R55), within its wake timeout (R411). -/
def execLaneWakeDone (p : Fin 2) (k : Fin 8) (s : State) : Outcome State Fault Refusal := s.on fun s =>
  if (s.lane p k).waking ∧ s.up ≤ (s.lane p k).wakeAt + laneLimit ∧ s.laneFailed p k = false then
    let d := match s.nextPairs with
      | none => s.dir p k
      | some n => bits (n.pairs.getD (8 * p + k) 0) 1 0
    let s1 := s.setLane p k { s.lane p k with waking := false }
    (if d = dirOut then s1.setf (Fld.TRK_PAIR_STATUS_TX_SLEEP (8 * p + k)) 0
      else s1.setf (Fld.TRK_PAIR_STATUS_RX_SLEEP (8 * p + k)) 0)
  else s

/-- A pair meets a condition of R51 for the lock pattern: it turns, was asleep, or changes rate; at any entry into plan B every
turnable pair that carries runs does (R114). -/
def Hub.needsPattern (s : Hub) (n : NextPairs) (p k : Nat) : Bool :=
  let el := n.pairs.getD (8 * p + k) 0
  n.runs p k && !fixedPair k &&
    (bits el 1 0 != s.dir p k || s.pairAsleep p k || (s.lane p k).slept
      || bits el 3 3 != s.getf (Fld.TRK_PAIR_STATUS_NRZ (8 * p + k)) || n.planB)

/-- KNUCKLE_START: at 61.3 µs into tick T − 1 turning pairs turn and the lock pattern is sent (R50, R51); receivers of pairs
(by 8·p + k) in `unlocked` have not locked by the boundary of T and go on seeking (R52). Log entry 164 (DESIGN CHOICE). -/
def execKnuckleStart (unlocked : List (Fin 16)) (s : State) : Outcome State Fault Refusal := s.on fun s =>
  match s.nextPairs.filter (fun _ => decide (s.now ≤ s.tick * tickNs + 61300)) with
  | none => s
  | some n =>
    let s := s.advance (s.tick * tickNs + 61300)
    (allPairs.foldl (fun t (p, k) =>
      if s.needsPattern n p k then
        if bits (n.pairs.getD (8 * p + k) 0) 1 0 = dirOut then
          (t.setf (Fld.TRK_PAIR_STATUS_LOCKED (8 * p + k)) 0).emit (.lockPattern p k)
        else
          let miss := unlocked.any (fun x => x.val == 8 * p + k)
          (t.setb (Fld.TRK_PAIR_STATUS_LOCKED (8 * p + k)) (!miss)).setLane p k
            { t.lane p k with seekFrom := if miss then some (s.tick + 1) else none }
      else t) s)

/-- PAIR_LOCK_TIMEOUT: a pair not locked within 16 ticks of T is FAULTY for the epoch, and the far end is told (R52). -/
def execPairLockTimeout (p : Fin 2) (k : Fin 8) (s : State) : Outcome State Fault Refusal := s.on fun s =>
  match (s.lane p k).seekFrom with
  | none => s
  | some t =>
    if t + 16 ≤ s.tick ∧ !s.flag (Fld.TRK_PAIR_STATUS_LOCKED (8 * p + k)) then
      let e := s.getf Fld.PLN_ACTIVE_EPOCH
      ((((s.setLane p k { s.lane p k with seekFrom := none }).setf (Fld.TRK_PAIR_STATUS_FAULTY (8 * p + k)) 1).raise
        Evt.TRK_PAIR_LOCK_FAIL [p, k, e]).sendHop p 0x31 (beBytes 1 k ++ zeros 3 ++ beBytes 4 e))
    else s

/-- ROW_REQUEST_RECEIVE: a ROW_REQUEST stages this end's transmit row for the first switch in time (R60). Log entry 24 (DEDUCED). -/
def execRowRequestReceive (s : State) : Outcome State Fault Refusal := s.on fun s =>
  match s.takeMsg 4 [0x30] with
  | (none, t) => t
  | (some m, t) =>
    let k := byteAt m.body 0 % 8
    let row := byteAt m.body 1
    let far := t.getf (Fld.TRK_PAIR_STATUS_FAR_ROW (8 * m.port + k))
    let x : StagedRow := ⟨min row (t.lastRow m.port k), min 7 (far + 1), m.tick⟩
    t.setLane m.port k { t.lane m.port k with staged := (t.lane m.port k).staged ++ [x] }

/-- PAIR_LOCK_FAIL_RECEIVE: the message is taken; this end keeps transmitting as planned (R52). Log entry 48 (DEDUCED). -/
def execPairLockFailReceive (s : State) : Outcome State Fault Refusal := s.on fun s => (s.takeMsg 4 [0x31]).2

end Sys2Proof.Machine
end

