-- ==== Sys2Proof/Machine/PowerOps.lean ====
section
/-! DEFINITION. What a domain loses and what its units do when it leaves L0, and the fatal path's entry (R343, R404, R410, R413,
R460). -/

namespace Sys2Proof.Machine

/-! The fatal path (R460, R508). -/

/-- FAULT_N is asserted or released. Log entry 135 (DEDUCED). -/
def Hub.setFaultN (on : Bool) (s : Hub) : Hub :=
  if s.sec.faultN = on then s else ({ s with sec := { s.sec with faultN := on } } : Hub).emit (.faultN on)

/-- A fatal cause whose event is `r`: FAULT_N, the firmware loops stopped, a dump marker, and the event; a second cause only sets its flag (R460). -/
def Hub.fatalWith (cause : Nat) (r : EvRec) (s : Hub) : Hub :=
  match s.sec.fatal with
  | some f => { s with sec := { s.sec with fatal := some { f with second := true } } }
  | none =>
    let f : Fatal := { cause := cause, code := r.code, args := r.args, tick := s.tick, since := s.up }
    ((({ s with sec := { s.sec with fatal := some f }, loops := [] } : Hub).setFaultN true)
      |>.setf Fld.GEN_DUMP_STATUS_TARGET 0 |>.setf Fld.GEN_DUMP_STATUS_COMPLETE 0 |>.setf Fld.GEN_DUMP_STATUS_CAUSE cause
      |>.setf Fld.GEN_DUMP_STATUS_LENGTH_KB 0).post r

/-- GEN_FATAL of causes 1, 2, 3 and 5 (R508). -/
def Hub.fatalPath (cause detail : Nat) (s : Hub) : Hub :=
  s.fatalWith cause (s.evRec Evt.GEN_FATAL .fatal [cause, detail])

/-! Reset of a domain (R404, R495). -/

/-- The register blocks whose registers a domain holds, as GEN_SETUP bits. -/
def domSetup (d : Nat) : Nat :=
  (List.range 16).foldl (fun v b => if domainOf (0x10000 * b) = some d then v ||| 2 ^ b else v) 0

/-- The blocks of a domain are in set-up again (R495). -/
def Hub.openSetup (d : Nat) (s : Hub) : Hub := s.setf Fld.GEN_SETUP_OPEN (s.getf Fld.GEN_SETUP_OPEN ||| domSetup d)

/-- Line memory of bank `b` reads 0 (R156, R404). -/
def Hub.wipeBank (b : Nat) (s : Hub) : Hub :=
  { s with lineMem := Tab.delIf (fun a => decide (16777216 * b ≤ a) && decide (a < 16777216 * (b + 1))) s.lineMem }

/-- The domain whose unit holds a binding by its own enable. -/
def whoDom : Who → Option Nat
  | .eth | .stamp | .egq _ | .relq _ _ => some dETH
  | .disp _ => some dDSP
  | .blk _ => some dBLK
  | .can _ => some dFBR
  | .ring _ => some dHDMA
  | .trunk _ | .sigMap | .capture | .launch | .gadget | .fw | .port _ => none

/-- A domain's units hold no queue: their bindings are released, and cells granted to the block engine return (R162). -/
def Hub.dropBindings (d : Nat) (s : Hub) : Hub :=
  let keep (w : Option Who) : Option Who := w.filter (fun x => whoDom x != some d)
  let qs := s.pool.queues.mapVal (fun _ Q =>
    { Q with prod := keep Q.prod, cons := keep Q.cons, granted := if d = dBLK then [] else Q.granted })
  ({ s with pool := { s.pool with queues := qs } } : Hub).claimCheck

/-- What the units of a domain held besides registers starts from reset. -/
def Hub.domRecords (d : Nat) (s : Hub) : Hub :=
  if d = dETH then { s with net := {} }
  else if d = dUSBPD then
    { s with tcp := { upb := s.tcp.upb }, hif := { s.hif with gjobs := [], gdone := [], gdrop := [] } }
  else if d = dDSP then { s with dsp := {} }
  else if d = dBLK then { s with blk := {} }
  else if d = dFBR then { s with fbr := {} }
  else if d = dHDMA then s.ringsOff
  else if d = dCSW then { s with pool := { withheld := s.pool.withheld }, plan := {} }
  else if 13 ≤ d ∧ d ≤ 16 then s.wipeBank (d - 13)
  else if d = dSVC then { s with rel := s.rel.afterReset }
  else s

/-- A domain starts from reset (R404): registers at their reset values, tables, memories and counters at 0, its blocks in set-up. Log entry 134 (DEDUCED). -/
def Hub.domReset (d : Nat) (s : Hub) : Hub :=
  let s1 := (s.domRecords d).dropBindings d
  let mine (off : Nat) : Bool := domainOf off == some d
  (({ s1 with regs := Tab.delIf (fun k => mine (k / 32)) s1.regs, cnts := Tab.delIf mine s1.cnts,
              cntSnap := Tab.delIf mine s1.cntSnap } : Hub)).openSetup d

/-! Units without their domain (R343, R410, R413). -/

/-- A controller whose domain sleeps sends nothing. -/
def Hub.canQuiet (c : Nat) (s : Hub) : Hub :=
  match Tab.get? c s.fbr.canNow with
  | none => s
  | some m => ({ s with fbr := { s.fbr with canNow := Tab.del c s.fbr.canNow } } : Hub).setf (Fld.FBR_MB_STAT_BUSY c m) 0

/-- The units of a domain act as with their enables cleared, which the registers keep. -/
def Hub.unitsDown (d : Nat) (s : Hub) : Hub :=
  if d = dUSBPD then
    let s1 := (List.range 4).foldl (fun t n => t.tcDisable n) s
    let s2 := (List.range 5).foldl (fun t k => t.usbGone k) s1
    (((s2 |>.setf Fld.TCP_S_STATUS_ATTACHED 0).setf Fld.USB_STATUS_UP 0).setf Fld.USB_STATUS_SPEED 0).gadgetReset
  else if d = 9 ∨ d = 10 then
    let n := d - 9
    if s.altMode n then s.exitDp n else s
  else if d = dDSP then (List.range 2).foldl (fun t h => if t.flag (Fld.DSP_HEAD_CFG_EN h) then t.dspIdle h else t) s
  else if d = dBLK then (List.range 2).foldl (fun t r => if t.flag (Fld.BLK_PORT_CFG_EN r) then t.blkIdle r else t) s
  else if d = dFBR then (List.range 4).foldl (fun t c => t.canQuiet c) s
  else if d = dETH then (List.range 4).foldl (fun t p => t.ethOff p) s
  else if 4 ≤ d ∧ d ≤ 7 then
    let s1 := if s.quadLinkUp d then s.hostReset 2 else s
    if !s.isHead && (d == 5 || d == 6) && s.flag (Fld.BLK_PORT_CFG_EN (d - 5)) then (s1.failSlots (d - 5)).2.blkFail (d - 5) 1 else s1
  else s

/-- A domain whose state was kept is back at L0 (R343, R410): enables that its registers kept act again, as if they were set now. Log entry 185 (DEDUCED). -/
def Hub.unitsUp (d : Nat) (s : Hub) : Hub :=
  if d = dUSBPD then
    ((List.range 4).foldl (fun t n => if t.flag (Fld.TCP_PORT_CFG_EN n) && t.tcState n == tcDisabled then (t.setRp n 1).toUnattached n else t) s).regrant
  else if d = dDSP then
    (List.range 2).foldl (fun t h =>
      if t.flag (Fld.DSP_HEAD_CFG_EN h) && t.dspState h == dsOff then (t.setf (Fld.DSP_HEAD_CFG_EN h) 0).dspStart h else t) s
  else if d = dBLK then
    (List.range 2).foldl (fun t r =>
      if t.flag (Fld.BLK_PORT_CFG_EN r) && t.bpState r == bpOff then (t.setf (Fld.BLK_PORT_CFG_EN r) 0).blkEnable r else t) s
  else s

/-- A plan step of the POWER record at its switch, with what its domain's units then do (R410). -/
def Hub.planStepAt (d k epoch : Nat) (s : Hub) : Hub :=
  let s1 := s.takePlanStep d k epoch
  if (s.planRefuser d s.now).isNone then s1.unitsDown d else s1

/-! Saves (R405). -/

/-- The RW and RWL fields a save keeps: the listed fields of the domain's registers. Log entry 131 (DEDUCED). -/
def Hub.savedFields (s : Hub) (d : Nat) : Tab Nat := s.regs.filter (fun e => domainOf (e.1 / 32) == some d && decide (e.1 / 32 < 0x100000))

/-- The saved fields put back (R405). Log entry 131 (DEDUCED). -/
def Hub.restoreFields (fs : Tab Nat) (s : Hub) : Hub := { s with regs := fs.foldl (fun t e => Tab.put e.1 e.2 t) s.regs }

/-! Failures (R412). -/

/-- A wake fails (R412): the domain is FAILED at L3, with the wake record and, for a fatal domain, the fatal path. -/
def Hub.wakeFail (d : Nat) (s : Hub) : Hub :=
  let D := s.dom d
  let s1 := (s |>.setf (Fld.PWR_DOM_STATUS_STATE d) dmFailed |>.setf (Fld.PWR_DOM_STATUS_STEP d) 3
    |>.setf (Fld.PWR_DOM_STATUS_HOLDER d) 0 |>.setf (Fld.PWR_DOM_STATUS_RETRIES d) 0).writeWakeRec d 1 D.src D.from' 0 0 D.exitTick
  let s1' := s1.setDom d { D with target := 0, next := none, failAt := D.exitAt + D.exitLimit }
  let s2' := (s1'.count (Cnt.PWR_CNT_WAKE_FAIL d) 1).unitsDown d
  let s2 := if d = dETH then (List.range 4).foldl (fun t p => t.raise Evt.NET_LINK_DOWN [p, ldDisabled]) s2' else s2'
  if fatalDom d then
    let r := s2.evRec Evt.PWR_WAKE_FAIL .fatal [d, 0xFF, D.from', 0]
    if s2.sec.fatal.isSome then (s2.fatalWith 4 r).post r else s2.fatalWith 4 r
  else s2

/-- Firmware reapplies what the signed board configuration gives a domain that starts from reset (R404, R454): TCP_PORT_CFG and TCP_BUDGET, or
the BAR2 enable. -/
def Hub.reapply (d : Nat) (s : Hub) : Hub :=
  if d = dUSBPD then
    match s.sec.boardTcp with
    | none => s
    | some bs =>
      let s1 := (List.range 4).foldl (fun t n => t.writePortCfg n (beNat (slice bs (4 * n) 4))) s
      let b := bits (beNat (slice bs 16 4)) 11 0
      (if b ≤ 4000 then s1.setf Fld.TCP_BUDGET_B b else s1).regrant
  else if d = dHDMA then s.setb Fld.HIF_STATUS_BAR2 s.sec.boardBar2
  else s

/-- A domain reaches L0 (R403, R404): the watchdog counts anew for the service core's, and from L3 or L4 a domain starts from reset, with what was saved put back, or what the board configuration
gives it. -/
def Hub.reachL0 (d : Nat) (s : Hub) : Hub :=
  let D := s.dom d
  let lost := decide (3 ≤ D.from')
  let s0 : Hub := if d = dSVC then { s with sec := { s.sec with lastKick := s.upTick } } else s
  let s1 := if lost then s0.domReset d else s0
  let s2 := (s1.setDom d { s1.dom d with saved := none }) |>.setf (Fld.PWR_DOM_STATUS_STATE d) dmStable
    |>.setf (Fld.PWR_DOM_STATUS_STEP d) 0 |>.setf (Fld.PWR_DOM_STATUS_HOLDER d) 0
  if !lost then (if (s.dom d).next.isSome then s2 else s2.unitsUp d)
  else
    match D.saved with
    | some fs => if s.spanBad 11 (256 * d) (256 * (d + 1)) then s2.reapply d else s2.restoreFields fs
    | none => s2.reapply d

end Sys2Proof.Machine
end

