-- ==== Sys2Proof/Machine/ResetOps.lean ====
section
/-! DEFINITION. Shared operations of start-up and resets: straps, the held state, device resets, failsafe, rails and the flash
(R20 to R23, R383, R414, R442 to R448, R451, R464, R477 to R479). -/

namespace Sys2Proof.Machine

/-- The state at stage `n` of start-up. -/
def Hub.setStage (n : Nat) (s : Hub) : Hub := { s with sec := { s.sec with stage := n } }

/-! Straps (R20 to R24). -/

/-- The role a MODE strap value selects on this variant (R21). Log entry 2 (DESIGN CHOICE). -/
def roleOf (variant mode : Nat) : Nat := if mode = 2 ∧ variant ≠ 0x0A then 1 else mode

/-- HIF_STATUS.MODE of a role (R213). Log entry 2 (DESIGN CHOICE). -/
def hifMode (role : Nat) : Nat := if role = 1 then 1 else if role = 2 then 2 else 0

/-- The straps are sampled (R20, R21). -/
def Hub.sampleStraps (mode : Nat) (upb : Bool) (s : Hub) : Hub :=
  let role := roleOf (s.getf Fld.GEN_ID_VARIANT) mode
  s |>.setf Fld.GEN_STRAPS_MODE mode |>.setb Fld.GEN_STRAPS_UPB_SEL upb |>.setf Fld.GEN_STRAPS_ROLE role
    |>.setb Fld.GEN_STRAPS_FUSED (decide (mode = 2) && decide (role = 1)) |>.setf Fld.HIF_STATUS_MODE (hifMode role)

/-! The held state (R23, R383, R444). -/

/-- A channel that firmware had changed returns to its reset mode (R383, R444). Log entry 130 (DEDUCED). -/
def Hub.restoreChan (c : Nat) (s : Hub) : Hub :=
  let f := Fld.LPW_CH_CFG_MODE c
  let s1 := s |>.setf (Fld.LPW_CH_CFG_EN c) (Fld.LPW_CH_CFG_EN c).rst |>.setf f f.rst
  let s2 := if s.chMode c ≠ f.rst ∧ s.chActive c then (s1.gateOff c).setChState c chOff else s1
  s2.chEval c

/-- The hub holds itself: ports down, pass-through kept, FAULT_N asserted (R23, R455). Log entry 18 (DEDUCED). -/
def Hub.holdHub (s : Hub) : Hub :=
  let s1 := (List.range 8).foldl (fun t c => t.restoreChan c) ((s.dropLink 0).dropLink 1)
  (s1.setFaultN true).setStage sgHeld

/-- A hub strapped 0b11 is held with PCIe off, and records STRAP_INVALID (R23). -/
def Hub.strapHeld (s : Hub) : Hub :=
  if s.getf Fld.GEN_STRAPS_ROLE = 3 then
    let s1 := s.linkLost.holdHub
    { s1 with sec := { s1.sec with strapInvalid := true } }
  else s

/-! Device resets (R444). -/

/-- Whether a register at `off` keeps its value through a device reset: the LPW block, identity and straps, the address where the
class keeps it, the reset cause, what the mitten and the fuses give, and the attach sensing of the always-on domain. -/
def keepsReg (cls off : Nat) (link : Bool) : Bool :=
  (decide (0x0C0000 ≤ off) && decide (off < 0x0D0000)) || off == 0 || off == 4 || (off == 8 && cls != 2) || off == 0x10 || off == 0x14
    || off == 0x108 || off == 0x10C || (link && off == 0x010000)
    || off == 0x0D0000 || (decide (0x0D0400 ≤ off) && decide (off < 0x0D04C0)) || (decide (0x0E0500 ≤ off) && decide (off < 0x0E0600))
    || off == 0x0E000C || off == 0x0E0010
    || off == 0x0F0000 || off == 0x0F0008 || (decide (0x030000 ≤ off) && decide (off < 0x031000) && trunkStatus off)
where
  /-- TRK_PORT_STATUS and TRK_PAIR_STATUS. -/
  trunkStatus (off : Nat) : Bool :=
    let k := 32 * off
    (List.range 2).any (fun p => (Fld.TRK_PORT_STATUS_ATTACH p).key / 32 == k / 32)
      || (List.range 16).any (fun i => (Fld.TRK_PAIR_STATUS_DIR i).key / 32 == k / 32)

/-- The cells of the preserved region (R464). Log entry 138 (DEDUCED). -/
def regionLo : Nat := 253952
/-- The cell after the preserved region (R464). Log entry 138 (DEDUCED). -/
def regionHi : Nat := 258048

/-- The preserved region is withheld. Log entry 138 (DEDUCED). -/
def Hub.preserved (s : Hub) : Bool := s.flag Fld.GEN_DUMP_STATUS_PRESERVED

/-- A device reset of class `cls` with DETAIL `detail` (R444): what it wipes, and what the mitten, LPW, the fuses and the flash keep.
Start-up goes on at step 5. Log entries 59 (DESIGN CHOICE), 135 (DEDUCED), 159 (DEDUCED). -/
def Hub.deviceReset (cls detail : Nat) (s : Hub) : Hub :=
  let link := cls != 2 && !(cls == 3 && detail == 2)
  let keep := cls == 7 && s.preserved
  let pins := (List.range 32).filter (fun n => s.pinOut n)
  let s0 := pins.foldl (fun t n => t.emit (.tio n none)) (((s.dropLink 0).dropLink 1).ringsOff)
  let s1 := if link then s0 else s0.linkLost
  let inRegion (a : Nat) : Bool := decide (256 * regionLo ≤ a) && decide (a < 256 * regionHi)
  let cause := s1.getf Fld.GEN_RESET_CAUSE_COUNT
  let x := s1.sec
  let s2 : Hub :=
    { ({} : Hub) with
      out := s1.out, fresh := s1.fresh, now := s1.now, nowFrac := s1.nowFrac, worked := s1.worked, stepped := s1.stepped,
      regs := s1.regs.filter (fun e => keepsReg cls (e.1 / 32) link),
      cnts := s1.cnts.filter (fun e => decide (0x0C0000 ≤ e.1) && decide (e.1 < 0x0D0000)),
      cntSnap := s1.cntSnap.filter (fun e => decide (0x0C0000 ≤ e.1) && decide (e.1 < 0x0D0000)),
      lineMem := if keep then s1.lineMem.filter (fun e => inRegion e.1) else [],
      pool := { withheld := if keep then [(regionLo, regionHi)] else [] },
      trunk := { ports := s1.trunk.ports, rowRecs := s1.trunk.rowRecs },
      plan := { pairsCopy := s1.plan.pairsCopy },
      lpw := s1.lpw, tcp := { upb := s1.tcp.upb },
      rel := s1.rel.afterReset,
      pwr := { failsafe := s1.pwr.failsafe, xtalFrom := s1.pwr.xtalFrom },
      hif := { perst := s1.hif.perst },
      sec := { x with keys := [], noKeyRaised := false, stage := sgPowered, flashOp := none, dues := [], chal := none, dbgScope := 0,
                      dbgFails := 0, dbgLockout := false, fatal := none, areaReady := false, runKey := none, lastKick := s1.upTick, stage1 := none } }
  let s3 := (s2 |>.setf Fld.GEN_RESET_CAUSE_CLASS cls |>.setf Fld.GEN_RESET_CAUSE_DETAIL detail
    |>.setf Fld.GEN_RESET_CAUSE_COUNT (min 0xFFFF (cause + 1)) |>.setb Fld.GEN_DUMP_STATUS_PRESERVED keep
    |>.setf Fld.REL_AVS_STAGED (s1.getf Fld.REL_AVS_FORCE) |>.setf Fld.REL_ASSIST_STAGED (s1.getf Fld.REL_ASSIST)
    |>.setf Fld.HIF_STATUS_DUMP_ARMED 0 |>.setf Fld.HIF_STATUS_DB_LATE 0 |>.setf Fld.HIF_STATUS_BAR2 0).setFaultN false
  let s4 := if link then s3 else s3.setf Fld.HIF_STATUS_MODE (hifMode (s.getf Fld.GEN_STRAPS_ROLE))
  if s4.isHeld then s4.holdHub else s4

/-! Failsafe (R39, R414). -/

/-- The hub enters failsafe. -/
def Hub.enterFailsafe (s : Hub) : Hub :=
  if s.pwr.failsafe.active then s
  else
    let port (p : Nat) (t : Hub) : Hub :=
      let u := (t.dropLink p).stopCsup p
      (u.setPort p { u.port p with preHold := u.attach p }).setf (Fld.TRK_PORT_STATUS_ATTACH p) atFailsafe
    let pins := (List.range 32).filter (fun n => s.pinOut n)
    let s1 := (List.range 24).foldl (fun t d => t.unitsDown d)
      (pins.foldl (fun t n => t.driveTio n (t.flag (Fld.LTM_TIO_CFG_IDLE n))) (port 1 (port 0 s)))
    let s2 : Hub := { s1 with
      time := { pins := s1.time.pins },
      pwr := { s1.pwr with failsafe := { active := true, since := s1.up, owed := false, seconds := 0 }, xtalFrom := none } }
    let s3 := (List.range 24).foldl (fun t d =>
      if d = dSVC then (t.setf (Fld.PWR_DOM_STATUS_STATE d) dmStable).setf (Fld.PWR_DOM_STATUS_STEP d) 0
      else ((t.setDom d {}).setf (Fld.PWR_DOM_STATUS_STATE d) dmStable).setf (Fld.PWR_DOM_STATUS_STEP d) 3) s2
    let s4 := (s3 |>.setf Fld.LTM_STATUS_STATE tmFree |>.setf Fld.PWR_STATUS_FAILSAFE_SEEN 1
      |>.setf Fld.PWR_STATUS_XTAL_FAILS (min 255 (s.getf Fld.PWR_STATUS_XTAL_FAILS + 1))).setFaultN true
    ((List.range 8).foldl (fun t c => t.restoreChan c) s4).maintSweep

/-- Failsafe ends with a crystal that is ready: the hub starts again as after a watchdog reset (R414). -/
def Hub.leaveFailsafe (s : Hub) : Hub :=
  let port (p : Nat) (t : Hub) : Hub :=
    if t.attach p = atFailsafe then t.setf (Fld.TRK_PORT_STATUS_ATTACH p) (t.port p).preHold else t
  let f := s.pwr.failsafe
  let s1 : Hub := { (port 1 (port 0 s)) with
    pwr := { s.pwr with failsafe := { f with active := false, owed := true, seconds := (s.up - f.since) / 1000000000 } } }
  s1.deviceReset 3 3

/-! Rails (R377, R378, R448, R477 to R479). -/

/-- RAIL_EN0 to RAIL_EN(n − 1) are driven; LPW_STATUS shows them and the power-good levels. Without VDD_IO33 no port supplies CSUP (R487). -/
def Hub.driveRails (n : Nat) (s : Hub) : Hub :=
  let s1 : Hub := { s with sec := { s.sec with railUp := n } }
  let up := (List.range 6).filter (fun i => decide (s.sec.railUp ≤ i) && decide (i < n))
  let dn := (List.range 6).filter (fun i => decide (n ≤ i) && decide (i < s.sec.railUp))
  let s2 := dn.foldl (fun t i => t.emit (.railEn i false)) (up.foldl (fun t i => t.emit (.railEn i true)) s1)
  let s3 := s2 |>.setf Fld.LPW_STATUS_RAIL_EN (2 ^ n - 1) |>.setf Fld.LPW_STATUS_PG (if n = 0 then 0 else s.getf Fld.LPW_STATUS_PG)
  if s3.io33 then s3 else (s3.stopCsup 0).stopCsup 1

/-- Rail `i` fails (R448): every RAIL_EN goes down, and the next attempt comes after 1 s, or 60 s after three in 60 s. -/
def Hub.railFail (i : Nat) (s : Hub) : Hub :=
  let recent := s.sec.railFails.filter (fun t => decide (s.up < t + 60000000000)) ++ [s.up]
  let wait := if 3 ≤ recent.length then 60000000000 else 1000000000
  let s1 := (s.raise Evt.LPW_RAIL_FAIL [i, s.getf Fld.LPW_STATUS_PG]).driveRails 0
  ({ s1 with sec := { s1.sec with railFails := recent, railWait := some (s.up + wait), stage := sgAon } } : Hub).setFaultN true

/-- The AVS setpoint in force in mV (R439, R479). Log entry 136 (DESIGN CHOICE). -/
def Hub.avsSetpoint (s : Hub) : Nat := s.getf Fld.REL_AVS_FORCE

/-! The flash (R451, R466). -/

/-- What an erased byte of the flash reads as. -/
def flashBlank : Byte := 0xFF

/-- Byte `a` of the flash. -/
def Hub.flashByte (s : Hub) (a : Nat) : Byte := Tab.getD s.sec.flash a flashBlank

/-- `n` bytes of the flash from `a`. -/
def Hub.flashRead (s : Hub) (a n : Nat) : List Byte := (List.range n).map (fun i => s.flashByte (a + i))

/-- The bytes from `lo` up to `hi - 1` are erased. Log entry 137 (DEDUCED). -/
def Hub.flashErase (lo hi : Nat) (s : Hub) : Hub :=
  { s with sec := { s.sec with flash := Tab.delIf (fun a => decide (lo ≤ a) && decide (a < hi)) s.sec.flash } }

/-- Bytes programmed from `a` up: bits only fall from 1 to 0. -/
def flashProgram : (a : Nat) → (bs : List Byte) → (m : Tab Byte) → Tab Byte
  | _, [], m => m
  | a, b :: t, m =>
    let v := (Tab.getD m a flashBlank) &&& b
    flashProgram (a + 1) t (if v = flashBlank then Tab.del a m else Tab.put a v m)

/-- The state with bytes programmed into the flash. -/
def Hub.flashWrite (a : Nat) (bs : List Byte) (s : Hub) : Hub :=
  { s with sec := { s.sec with flash := flashProgram a bs s.sec.flash } }

/-! The preserved region (R464). -/

/-- The region is withheld from allocation and the queues that hold its cells are flushed (R464, R175). Log entry 138 (DEDUCED). -/
def Hub.takeRegion (s : Hub) : Hub :=
  let s1 := s.fence regionLo regionHi
  let inR (i : Nat) : Bool := decide (regionLo ≤ i) && decide (i < regionHi)
  let qs := (s.pool.queues.filter (fun e => e.2.cells.any (fun c => inR (QCell.idx c)))).map (fun e => e.1)
  let freed := qs.foldl (fun n q => n + (s.queue q).occ) 0
  (qs.foldl (fun t q => t.flushLossy q 8) s1).count Cnt.CPL_CNT_CARVE_FLUSH freed

/-- The region is zeroed and its cells return (R464). -/
def Hub.releaseRegion (s : Hub) : Hub :=
  if s.preserved then
    { s with
      lineMem := Tab.delIf (fun a => decide (256 * regionLo ≤ a) && decide (a < 256 * regionHi)) s.lineMem }.unfence regionLo regionHi
      |>.setf Fld.GEN_DUMP_STATUS_PRESERVED 0
  else s

end Sys2Proof.Machine
end

