-- ==== Sys2Proof/Machine/MaintOps.lean ====
section
/-! DEFINITION. Ageing records, margin re-plan and the checks of maintenance requests (R425 to R437). -/

namespace Sys2Proof.Machine

/-! The flip mask (R425). -/

/-- A write of REL_FLIP_CTL: in DEPLOYED, ARM needs an unlocked debug session. -/
def Hub.writeFlipCtl (v : Nat) (s : Hub) : Hub :=
  let arm := bit v 31
  if arm && s.deployed && !(s.flag Fld.SEC_DBG_CTL_OPEN && bit s.sec.dbgScope 1) then s.lockedWrite 0x0E002C v
  else
    let s1 := if bits v 3 0 = 15 then s else s.setf Fld.REL_FLIP_CTL_MEM (bits v 3 0)
    s1.setb Fld.REL_FLIP_CTL_ARM arm

/-- A write of word `i` of the mask, ignored while ARM = 1. -/
def Hub.writeFlipMask (i v : Nat) (s : Hub) : Hub :=
  if s.flag Fld.REL_FLIP_CTL_ARM then s
  else match i with
    | 0 => s.setf Fld.REL_FLIP_LO v
    | 1 => s.setf Fld.REL_FLIP_MID v
    | _ => s.setf Fld.REL_FLIP_HI (v % 256)

/-- The 72-bit mask. -/
def Hub.flipMask (s : Hub) : Nat :=
  s.getf Fld.REL_FLIP_LO + 2 ^ 32 * s.getf Fld.REL_FLIP_MID + 2 ^ 64 * s.getf Fld.REL_FLIP_HI

/-- The next write into the armed memory, at word `w`, stores its codeword XORed with the mask. Log entry 146 (DEDUCED). -/
def Hub.applyFlip (w : Nat) (s : Hub) : Hub :=
  if s.flag Fld.REL_FLIP_CTL_ARM then
    let mem := s.getf Fld.REL_FLIP_CTL_MEM
    let s1 := s.eccEnd mem w
    let s2 : Hub := if s.flipMask = 0 then s1 else { s1 with rel := { s1.rel with flips := Tab.put (eccKey mem w) s.flipMask s1.rel.flips } }
    (s2.setf Fld.REL_FLIP_CTL_ARM 0).count Cnt.REL_CNT_FLIPS 1
  else s

/-- A write of REL_ECC_LOG_CLR (R424). -/
def Hub.clearLog (s : Hub) : Hub :=
  (List.range 16).foldl (fun t e => t.resetFields (32 * (0x0E0040 + 16 * e)) (32 * (0x0E0050 + 16 * e))) s

/-! Advice (R433). -/

/-- Reasons of REPLAN_ADVICE (R433). -/
def raPairNrz : Nat := 1
def raFixed : Nat := 2
def raAvs : Nat := 3
def raAssist : Nat := 4
def raSwitch : Nat := 5
def raRetire : Nat := 6

/-- The severity of an advice (R433). -/
def adviceSev (reason : Nat) : Sev :=
  if reason = raSwitch then .notice else if reason = raFixed ∨ reason = raAvs then .error else .warning

/-- The 8 argument bytes of an advice as a number, byte 0 lowest (R433). -/
def Hub.adviceArg (s : Hub) (reason target : Nat) : Nat :=
  let n := target / 16 * 8 + target % 8
  let pair := reason = raPairNrz ∨ reason = raFixed ∨ reason = raRetire
  let proposal := if reason = raPairNrz then 1 else if reason = raRetire then 2 else if reason = raFixed then 3 else 0
  let row := if pair then s.getf (Fld.TRK_PAIR_STATUS_ROW n) else 0
  let mh := if pair then s.getf (Fld.REL_MARGIN_MH n) else if reason = raAvs then s.avsSetpoint else 0
  let mv := if pair then s.getf (Fld.REL_MARGIN_MV n) else 0
  reason + 2 ^ 8 * target + 2 ^ 16 * proposal + 2 ^ 24 * row + 2 ^ 32 * mh + 2 ^ 48 * mv

/-- REPLAN_ADVICE (R433). Log entry 156 (DEDUCED). -/
def Hub.advise (reason target : Nat) (s : Hub) : Hub :=
  s.raiseSev Evt.REPLAN_ADVICE (adviceSev reason) [s.adviceArg reason target]

/-- REPLAN_ADVICE for a condition newly found; it then repeats at each switch while the condition holds (R433). Log entry 156 (DEDUCED). -/
def Hub.adviseNew (reason target : Nat) (s : Hub) : Hub :=
  if s.rel.advised.contains (reason, target) then s
  else
    let s1 := s.advise reason target
    { s1 with rel := { s1.rel with advised := s1.rel.advised ++ [(reason, target)] } }

/-! Margins (R428 to R431). -/

/-- TARGET of a pair (R433, R440). Log entry 149 (DEDUCED). -/
def pairTarget (p k : Nat) : Nat := 16 * p + k

/-- The domains that R403 supplies from VDD_CORE: all but the PHY domains. Log entry 154 (DEDUCED). -/
def coreDoms : List Nat := [8, 11, 12, 13, 14, 15, 16, 17, 18, 19, 20, 21, 22, 23]

/-- The domains that hold memory `m` (R401, R420); the always-on domain's memories have none. Log entry 154 (DEDUCED). -/
def memDoms (m : Nat) : List Nat :=
  match m with
  | 0 => [13] | 1 => [14] | 2 => [15] | 3 => [16]
  | 4 => [12] | 5 => [12] | 6 => [12] | 12 => [12]
  | 7 => [8] | 9 => [19] | 10 => [20] | 13 => [8, 17, 19] | 14 => [22]
  | _ => []

/-- The worst DELTA in the ageing record of some domains, 0 or below (R428, R431). -/
def Hub.worstDelta (s : Hub) (ds : List Nat) : Int :=
  (ds.flatMap (fun d => [2 * d, 2 * d + 1])).foldl (fun w n =>
    match Tab.get? n s.rel.roRec with
    | some v => min w (sgn 16 v)
    | none => w) 0

/-- The AVS base fused at test, in mV. Log entry 136 (DESIGN CHOICE). -/
def avsBase : Nat := 750

/-- The highest AVS setpoint in mV (R431). -/
def avsMax : Nat := 880

/-- The uplift R431 requires in mV. -/
def Hub.needUplift (s : Hub) : Nat :=
  5 * (((-(s.worstDelta coreDoms) - 100).toNat + 49) / 50) + min 20 (5 * s.rel.droopHours)

/-- A change enters the epoch gate: the wait of R432 runs from the first. -/
def Hub.noteStaged (kind target value : Nat) (s : Hub) : Hub :=
  let s1 : Hub := { s with rel := { s.rel with waitFrom := some (s.rel.waitFrom.getD s.upTick) } }
  s1.raise Evt.REL_MARGIN_STAGED [kind, target, value]

/-- The AVS setpoint R431 derives is staged, at most 10 mV above the one in force, or advised at its limit. Log entry 155 (DEDUCED). -/
def Hub.deriveAvs (s : Hub) : Hub :=
  let cur := s.avsSetpoint
  let need := avsBase + s.needUplift
  if need ≤ cur then s
  else if avsMax ≤ cur then s.adviseNew raAvs 0
  else
    let next := min avsMax (min need (cur + 10))
    if s.getf Fld.REL_AVS_STAGED < next then
      let s1 := (s.setf Fld.REL_AVS_STAGED next).noteStaged 0 0 next
      { s1 with rel := { s1.rel with avsAt := some s1.tick } }
    else s

/-- The setpoint that a sensor's first sample since the mitten was wiped gives takes effect at once (R430, R431). Log entry 186 (DEDUCED). -/
def Hub.avsFresh (s : Hub) : Hub :=
  let v := min avsMax (avsBase + s.needUplift)
  if v ≤ s.avsSetpoint then s
  else
    let s1 : Hub := if s.getf Fld.REL_AVS_STAGED ≤ v then { s with rel := { s.rel with avsAt := none } } else s
    ((s1.setf Fld.REL_AVS_FORCE v).setf Fld.REL_AVS_STAGED (max v (s.getf Fld.REL_AVS_STAGED))).emit (.pmbus v)

/-- The assist level of memory `m` in a register of R439. -/
def assistOf (v m : Nat) : Nat := bits v (2 * m + 1) (2 * m)

/-- The condition of R431 for memory `m`'s assist level. -/
def Hub.assistNeeded (s : Hub) (m : Nat) : Bool :=
  let ces := (Tab.getD s.rel.ceTimes m []).filter (fun t => decide (s.upTick < t + ticksPerDay))
  decide (s.getf Fld.REL_CFG_CE_LIMIT < ces.length) || decide (s.worstDelta (memDoms m) < -200)

/-- The assist level of memory `m` is staged one up, or advised at level 3 (R431). Log entry 155 (DEDUCED). -/
def Hub.deriveAssist (m : Nat) (s : Hub) : Hub :=
  let cur := assistOf (s.getf Fld.REL_ASSIST) m
  if !s.assistNeeded m then s
  else if cur = 3 then s.adviseNew raAssist m
  else if assistOf (s.getf Fld.REL_ASSIST_STAGED) m = cur then
    let s1 := (s.setf Fld.REL_ASSIST_STAGED (s.getf Fld.REL_ASSIST_STAGED + 4 ^ m)).noteStaged 1 m (cur + 1)
    { s1 with rel := { s1.rel with assistAt := Tab.put m s1.tick s1.rel.assistAt } }
  else s

/-- The control firmware derives the AVS and assist margins (R431). Log entry 61 (DEDUCED). -/
def Hub.deriveMargins (s : Hub) : Hub := (List.range 15).foldl (fun t m => t.deriveAssist m) s.deriveAvs

/-- The length of the longest run of `true`. -/
def longestRun (bs : List Bool) : Nat :=
  (bs.foldl (fun (a : Nat × Nat) b => if b then (a.1 + 1, max a.2 (a.1 + 1)) else (0, a.2)) (0, 0)).2

/-- The reason an exhausted EQ row is advised with (R431). -/
def Hub.rowReason (s : Hub) (p k : Nat) : Nat :=
  if fixedPair k then raFixed else if s.flag (Fld.TRK_PAIR_STATUS_NRZ (8 * p + k)) then raRetire else raPairNrz

/-- Two consecutive short scans stage the next row and ask the far end for it, or advise on the last row (R431). -/
def Hub.deriveRow (p k : Nat) (s : Hub) : Hub :=
  let n := 8 * p + k
  let row := s.getf (Fld.TRK_PAIR_STATUS_ROW n)
  if s.getf (Fld.REL_MARGIN_SHORT n) < 2 then s
  else if row < s.lastRow p k then
    if !(s.lane p k).staged.isEmpty then s
    else
      let far := min 7 (s.getf (Fld.TRK_PAIR_STATUS_FAR_ROW n) + 1)
      ((s.setLane p k { s.lane p k with staged := [⟨row + 1, far, s.tick⟩] }).sendHop p 0x30 [bv8 k, bv8 far, 0, 0]).noteStaged
        2 (pairTarget p k) (row + 1)
  else s.adviseNew (s.rowReason p k) (pairTarget p k)
where
  bv8 (x : Nat) : Byte := BitVec.ofNat 8 x

/-- A routine scan ends with its 96 points: 64 in phase, 32 in voltage (R429). -/
def Hub.scanEnd (p k : Nat) (pts : List Bool) (s : Hub) : Hub :=
  let n := 8 * p + k
  let mh := longestRun (pts.take 64)
  let mv := 4 * longestRun (pts.drop 64)
  let short := mh < s.getf Fld.REL_CFG_MH_REQ ∨ mv < s.getf Fld.REL_CFG_MV_REQ
  let s1 := s |>.setf (Fld.REL_MARGIN_MH n) mh |>.setf (Fld.REL_MARGIN_MV n) mv |>.setf (Fld.REL_MARGIN_VALID n) 1
    |>.setf (Fld.REL_MARGIN_SHORT n) (if short then min 255 (s.getf (Fld.REL_MARGIN_SHORT n) + 1) else 0)
  let s2 : Hub := { s1 with rel := { s1.rel with scans := Tab.del n s1.rel.scans, scanAt := Tab.put n s1.upTick s1.rel.scanAt } }
  s2.deriveRow p k

/-- A change still waits for a switch (R432). -/
def Hub.anyStaged (s : Hub) : Bool :=
  s.getf Fld.REL_AVS_STAGED != s.avsSetpoint || s.getf Fld.REL_ASSIST_STAGED != s.getf Fld.REL_ASSIST
    || s.trunk.lanes.any (fun (e : Nat × Lane) => !e.2.staged.isEmpty)

/-- Ticks in one hour. -/
def ticksPerHour : Nat := 57600000

/-! Staged changes at a switch (R28, R432). -/

/-- A change staged in tick `t` is in time for the switch at tick `S` (R431). -/
def inTime (t S : Nat) : Bool := decide (t + 64 ≤ S)

/-- The staged AVS setpoint takes effect (R432). Log entry 155 (DEDUCED). -/
def Hub.applyAvs (S : Nat) (s : Hub) : Hub :=
  match s.rel.avsAt with
  | some t =>
    if inTime t S then
      let v := s.getf Fld.REL_AVS_STAGED
      let s1 : Hub := { s with rel := { s.rel with avsAt := none } }
      (s1.setf Fld.REL_AVS_FORCE v).emit (.pmbus v)
    else s
  | none => s

/-- The staged assist levels take effect (R432). Log entry 155 (DEDUCED). -/
def Hub.applyAssist (S : Nat) (s : Hub) : Hub :=
  s.rel.assistAt.foldl (fun u (m, t) =>
    if inTime t S then
      let old := u.getf Fld.REL_ASSIST
      let v := old + 4 ^ m * (assistOf (u.getf Fld.REL_ASSIST_STAGED) m - assistOf old m)
      let u1 : Hub := { u with rel := { u.rel with assistAt := Tab.del m u.rel.assistAt } }
      u1.setf Fld.REL_ASSIST v
    else u) s

/-- The staged EQ rows that are in time take effect, this end's and the far end's, and the count of short scans restarts (R60,
R431). -/
def Hub.applyRows (S : Nat) (s : Hub) : Hub :=
  s.trunk.lanes.foldl (fun u (n, (_ : Lane)) =>
    let p := n / 8
    let k := n % 8
    let L := u.lane p k
    let top (cur : Nat) (f : StagedRow → Nat) : Nat := ((L.staged.filter (fun x => inTime x.tick S)).map f).foldl max cur
    if L.staged.any (fun x => inTime x.tick S) then
      (((u.setLane p k { L with staged := L.staged.filter (fun x => !inTime x.tick S) }).setRow p k
        (top (u.getf (Fld.TRK_PAIR_STATUS_ROW n)) StagedRow.row)).setf (Fld.REL_MARGIN_SHORT n) 0
          |>.setf (Fld.TRK_PAIR_STATUS_FAR_ROW n) (top (u.getf (Fld.TRK_PAIR_STATUS_FAR_ROW n)) StagedRow.far)).dropScan n
    else u) s

/-- The condition of an advice still holds (R433). Log entry 156 (DEDUCED). -/
def Hub.adviceHolds (s : Hub) (reason target : Nat) : Bool :=
  let n := target / 16 * 8 + target % 8
  if reason = raAvs then decide (avsMax ≤ s.avsSetpoint) && decide (s.avsSetpoint < avsBase + s.needUplift)
  else if reason = raAssist then assistOf (s.getf Fld.REL_ASSIST) target == 3 && s.assistNeeded target
  else decide (2 ≤ s.getf (Fld.REL_MARGIN_SHORT n)) && s.rowReason (n / 8) (n % 8) == reason

/-- Every staged change in time takes effect, with step 7 of R142, and the advices whose condition holds repeat (R432, R433). -/
def Hub.applyMargins (S : Nat) (s : Hub) : Hub :=
  let s1 := ((s.applyAvs S).applyAssist S).applyRows S
  let keep := s1.rel.advised.filter (fun a => s1.adviceHolds a.1 a.2)
  let s2 := keep.foldl (fun t a => t.advise a.1 a.2) s1
  { s2 with rel := { s2.rel with advised := keep, waitFrom := if s2.anyStaged then s2.rel.waitFrom else none } }

/-! Maintenance requests (R427, R434 to R436). -/

/-- The word index of the first word of row `r` (R426). -/
def rowWord (r : Nat) : Nat := 256 * r

/-- Row `r` of bank `b` has an uncorrectable entry in the error log. Log entry 150 (DEDUCED). -/
def Hub.rowFails (s : Hub) (b r : Nat) : Bool :=
  (List.range 16).any (fun e => s.logValid e && s.flag (Fld.REL_ECC_LOG_0_UE e) && s.getf (Fld.REL_ECC_LOG_0_MEM e) == b
    && s.getf (Fld.REL_ECC_LOG_0_WORD e) / 256 == r)

/-- Field repairs of bank `b`. Log entry 150 (DEDUCED). -/
def Hub.fieldRepairs (s : Hub) (b : Nat) : Nat := (s.rel.repairs.filter (fun x => x.1 == b)).length

/-- The next spare of bank `b`: the ones used at test come first, then field repairs (R426). Log entry 150 (DEDUCED). -/
def Hub.nextSpare (s : Hub) (b : Nat) : Nat := s.getf (Fld.REL_LM_STATUS_TEST b) + s.fieldRepairs b

/-- A repair of row `r` of bank `b` may start (R427). Log entry 150 (DEDUCED). -/
def Hub.repairAllowed (s : Hub) (b r : Nat) : Bool :=
  let lc := s.getf Fld.SEC_LC_STATE
  (lc == 1 || lc == 2) && decide (s.nextSpare b < 64) && decide (s.fieldRepairs b < 32)
    && !(s.rel.repairs.any (fun x => x.1 == b && x.2.1 == r) && !s.rowFails b r)
    && poolCondition s.pool.carve s.pendCarve (s.minSum + 8)

/-- A BIST of bank `b` may start (R436). -/
def Hub.bistAllowed (s : Hub) (b : Nat) : Bool :=
  b != 3 && decide (max s.pool.carve s.pendCarve ≤ 65536 * b) && poolCondition s.pool.carve s.pendCarve (s.minSum + 65536)

/-- The lock a request asks for, and whether its target is in range and in the state its rule requires (R434). Log entry 149 (DEDUCED). -/
def Hub.maintTarget (s : Hub) (t target : Nat) : Option (LockOn × Bool) :=
  if t = mtEye then
    let n := 8 * bits target 4 4 + bits target 2 0
    some (.pair n, decide (target < 32) && !bit target 3 && !s.flag (Fld.TRK_PAIR_STATUS_RX_SLEEP n)
      && s.getf (Fld.TRK_PAIR_STATUS_DIR n) == dirIn)
  else if t = mtBist then some (.bank (target % 4), decide (target < 4) && s.bistAllowed (target % 4))
  else if t = mtRepair then
    let b := bits target 17 16
    let r := bits target 12 0
    some (.row b r, bits target 15 13 == 0 && s.repairAllowed b r)
  else if t = mtAgeing then
    if bit target 17 then
      let c := bits target 2 0
      some (.chan c, decide (bits target 16 0 < 8) && s.getf (Fld.LPW_CH_STATUS_STATE c) == chOn)
    else
      let d := bits target 4 0
      some (.dom d, decide (target < 24) && s.atL0 d)
  else if t = mtFuse then some (.fuses, target == 0)
  else none

/-- The outcome of a request (R435, R440). -/
def Hub.maintResult (code tag id : Nat) (excl : Bool) (s : Hub) : Hub :=
  s |>.setf Fld.REL_MAINT_RESULT_CODE code |>.setf Fld.REL_MAINT_RESULT_TAG tag |>.setb Fld.REL_MAINT_RESULT_EXCL excl
    |>.setf Fld.REL_MAINT_RESULT_ID id

/-- An activity that starts takes hold of its resource (R427, R436). -/
def Hub.beginAct (l : LockOn) (s : Hub) : Hub :=
  match l with
  | .bank b => s.fence (bankCells b).1 (bankCells b).2
  | .row b r => s.outRow b r
  | _ => s

/-- A maintenance request (R435). Log entry 148 (DEDUCED). -/
def Hub.request (t tag target : Nat) (s : Hub) : Hub :=
  match s.maintTarget t target with
  | none =>
    if 4 ≤ s.rel.acts.length then s.maintResult 2 tag 0 false else s.maintResult 3 tag 0 false
  | some (l, ok) =>
    match s.lockRefusal t [l] with
    | some (code, id, excl) => s.maintResult code tag id excl
    | none =>
      if ok then
        let (id, s1) := s.startAct t target (if t = mtBist then 1 else 2) [l]
        (s1.beginAct l).maintResult 0 tag id false
      else s.maintResult 3 tag 0 false

/-- A write of REL_MAINT_REQ (R435, R440). -/
def Hub.writeMaintReq (v : Nat) (s : Hub) : Hub :=
  let t := bits v 30 27
  let s1 := if 1 ≤ t ∧ t ≤ 6 then s.setf Fld.REL_MAINT_REQ_TYPE t else s
  let s2 := (s1.setf Fld.REL_MAINT_REQ_TAG (bits v 26 19)).setf Fld.REL_MAINT_REQ_TARGET (bits v 17 0)
  if bit v 31 then s2.request t (bits v 26 19) (bits v 17 0) else s2

/-- A write of REL_MAINT_STOP: the named activity is aborted, a loopback apart (R437). Log entry 147 (DEDUCED). -/
def Hub.writeMaintStop (v : Nat) (s : Hub) : Hub :=
  match s.actBy (v % 65536) with
  | some a => if a.type = mtLoop then s else s.abortAct a 1
  | none => s

end Sys2Proof.Machine
end

