-- ==== Sys2Proof/Machine/Maint.lean ====
section
/-! DEFINITION. The commands of memory integrity, ageing and maintenance (R420 to R437). -/

namespace Sys2Proof.Machine

open Host (Outcome)

/-! Protected memories (R420, R424, R425). -/

/-- LINK_RAM_AUDIT_DONE (R420): the cells no link reaches return to their free lists. Log entry 52 (DEDUCED). -/
def execLinkRamAuditDone (s : State) : Outcome State Fault Refusal := s.on fun s =>
  ({ s with pool := { s.pool with lost := [] } } : Hub).claimCheck

/-- FLIP_ARM (R425): a write of REL_FLIP_CTL. -/
def execFlipArm (v : Word) (s : State) : Outcome State Fault Refusal := s.on fun s => (s.writeFlipCtl v.toNat)

/-- FLIP_APPLY (R425): the next write into the armed memory, at word index `word`. Log entry 146 (DEDUCED). -/
def execFlipApply (word : Fin 8388608) (s : State) : Outcome State Fault Refusal := s.on fun s => (s.applyFlip word)

/-- ECC_LOG_CLEAR (R424): a write of REL_ECC_LOG_CLR with CLEAR = 1. -/
def execEccLogClear (s : State) : Outcome State Fault Refusal := s.on fun s => s.clearLog

/-! Ageing measurements (R428 to R430). -/

/-- A sample of sensor `n` (R428, R439); a first one gives the setpoint at once (R431). Log entry 186 (DEDUCED). -/
def Hub.roSample (n delta temp : Nat) (s : Hub) : Hub :=
  let s0 : Hub := { s with rel := { s.rel with roAt := Tab.put n s.upTick s.rel.roAt, roRec := Tab.put n delta s.rel.roRec } }
  let s1 := if (Tab.get? n s.rel.roRec).isNone then s0.avsFresh else s0
  s1 |>.setf (Fld.REL_RO_DELTA n) delta |>.setf (Fld.REL_RO_TEMP n) temp |>.setf (Fld.REL_RO_VALID n) 1

/-- RO_SAMPLE (R428): once in an hour the control firmware samples a sensor whose domain is at L0 and that no activity holds. Log entries 153 (DESIGN CHOICE), 165 (DESIGN CHOICE), 186 (DEDUCED). -/
def execRoSample (n : Fin 48) (delta : BitVec 16) (temp : Byte) (s : State) : Outcome State Fault Refusal := s.on fun s =>
  if s.atL0 (n / 2) && !s.rel.locks.contains (.dom (n / 2))
      && (Tab.get? n.val s.rel.roAt).all (fun t => t / ticksPerHour != s.upTick / ticksPerHour) then
    (s.roSample n delta.toNat temp.toNat).deriveMargins
  else s

/-- The routine scan of a pair pauses while an activity holds it or a loopback runs at its port (R434). -/
def Hub.scanPaused (s : Hub) (p k : Nat) : Bool := s.rel.locks.contains (.pair (8 * p + k)) || s.loopRunning p

/-- EYE_SCAN_ROUTINE (R429): the scan of an awake receiver lane starts, 60 s after its last one did. -/
def execEyeScanRoutine (p : Fin 2) (k : Fin 8) (s : State) : Outcome State Fault Refusal := s.on fun s =>
  let n := 8 * p.val + k.val
  if s.linkUp p && s.dir p k == dirIn && !s.flag (Fld.TRK_PAIR_STATUS_RX_SLEEP n) && !s.scanPaused p k
      && (Tab.get? n s.rel.scans).isNone && (Tab.get? n s.rel.scanFrom).all (fun t => decide (t + 60 * ticksPerSec ≤ s.upTick)) then
    { s with rel := { s.rel with scans := Tab.put n [] s.rel.scans, scanFrom := Tab.put n s.upTick s.rel.scanFrom } }
  else s

/-- EYE_SCAN_POINT (R429): the brim of a tick measures one point, open or not; none in the last tick of an epoch, and the 96th ends the
scan. -/
def execEyeScanPoint (p : Fin 2) (k : Fin 8) (clear : Bool) (s : State) : Outcome State Fault Refusal := s.on fun s =>
  let n := 8 * p.val + k.val
  match Tab.get? n s.rel.scans with
  | none => s
  | some pts =>
    if s.scanPaused p k || s.nextPairs.isSome || Tab.get? n s.rel.scanPt == some s.upTick then s
    else
      let s1 : Hub := { s with rel := { s.rel with scans := Tab.put n (pts ++ [clear]) s.rel.scans, scanPt := Tab.put n s.upTick s.rel.scanPt } }
      if pts.length + 1 < 96 then s1 else s1.scanEnd p k (pts ++ [clear])

/-- REPLAN_WAIT_EXPIRY (R432): a change has waited WAIT_H hours without a switch; the advice repeats as long again later. -/
def execReplanWaitExpiry (s : State) : Outcome State Fault Refusal := s.on fun s =>
  match s.rel.waitFrom with
  | none => s
  | some t =>
    if s.anyStaged && decide (t + s.getf Fld.REL_CFG_WAIT_H * ticksPerHour ≤ s.upTick) then
      let s1 := s.advise raSwitch 0
      { s1 with rel := { s1.rel with waitFrom := some s1.upTick } }
    else s

/-- FET_HISTORY_UPDATE (R430): row `b` of channel `c`'s thermal history takes what its samples have added: the whole hours in band `b`, or
for 4 the cycles of 40 K or more. Log entry 157 (DEDUCED). -/
def execFetHistoryUpdate (c : Fin 8) (b : Fin 5) (s : State) : Outcome State Fault Refusal := s.on fun s =>
  let C := s.chan c
  let n := s.getf (Fld.REL_FET_HIST c b)
  let more := if b.val = 4 then C.cycles else C.bandUs.getD b 0 / 3600000000
  let s1 := (s.setf (Fld.REL_FET_HIST c b) (min 0xFFFFFFFF (n + more))).setChan c
    (if b.val = 4 then { C with cycles := 0 } else { C with bandUs := C.bandUs.modify b (fun u => u % 3600000000) })
  (if b.val = 3 ∧ n ≤ 1000 ∧ 1000 < n + more then s1.raise Evt.REL_FET_WEAR [c, 3]
   else if b.val = 4 ∧ n ≤ 100000 ∧ 100000 < n + more then s1.raise Evt.REL_FET_WEAR [c, n + more]
   else s1)

/-- VOLTAGE_DROOP (R430, R431): an excursion of supply `r` is counted; an hour in which VDD_CORE's pass the limit adds to the
required uplift. Log entries 153 (DESIGN CHOICE), 158 (DEDUCED). -/
def execVoltageDroop (r : Fin 4) (s : State) : Outcome State Fault Refusal := s.on fun s =>
  let s1 := s.count (Cnt.REL_CNT_DROOP r) 1
  if r.val = 0 then
    let hour := s1.upTick / ticksPerHour
    let n := if s1.rel.droopHour.1 = hour then s1.rel.droopHour.2 + 1 else 1
    let more := if n = s1.getf Fld.REL_CFG2_DROOP_LIMIT + 1 then 1 else 0
    ({ s1 with rel := { s1.rel with droopHour := (hour, n), droopHours := s1.rel.droopHours + more } } : Hub).deriveAvs
  else s1

/-! Maintenance activities (R434 to R437). -/

/-- EYE_SCAN (R434): a request of TYPE 1. -/
def execEyeScan (tag : Byte) (target : Fin 262144) (s : State) : Outcome State Fault Refusal := s.on fun s =>
  (s.writeMaintReq (2 ^ 31 + mtEye * 2 ^ 27 + tag.toNat * 2 ^ 19 + target))

/-- BIST (R436): a request of TYPE 3. -/
def execBist (tag : Byte) (target : Fin 262144) (s : State) : Outcome State Fault Refusal := s.on fun s =>
  (s.writeMaintReq (2 ^ 31 + mtBist * 2 ^ 27 + tag.toNat * 2 ^ 19 + target))

/-- ROW_REPAIR (R427): a request of TYPE 4. -/
def execRowRepair (tag : Byte) (target : Fin 262144) (s : State) : Outcome State Fault Refusal := s.on fun s =>
  (s.writeMaintReq (2 ^ 31 + mtRepair * 2 ^ 27 + tag.toNat * 2 ^ 19 + target))

/-- AGEING_SAMPLE (R434): a request of TYPE 5. -/
def execAgeingSample (tag : Byte) (target : Fin 262144) (s : State) : Outcome State Fault Refusal := s.on fun s =>
  (s.writeMaintReq (2 ^ 31 + mtAgeing * 2 ^ 27 + tag.toNat * 2 ^ 19 + target))

/-- FUSE_TEST (R434): a request of TYPE 6. -/
def execFuseTest (tag : Byte) (target : Fin 262144) (s : State) : Outcome State Fault Refusal := s.on fun s =>
  (s.writeMaintReq (2 ^ 31 + mtFuse * 2 ^ 27 + tag.toNat * 2 ^ 19 + target))

/-- Nothing holds a cell of bank `b`. -/
def Hub.bankClear (s : Hub) (b : Nat) : Bool :=
  s.heldIdx.all (fun c => decide (c < (bankCells b).1) || decide ((bankCells b).2 ≤ c))

/-- The fence wait of a BIST has run out (R436). -/
def Hub.fenceOver (s : Hub) (a : Act) : Bool := s.ranFor a.at' (s.getf Fld.REL_CFG2_BIST_WAIT * tickNs)

/-- BIST_TEST_START (R436): every cell of the fenced bank is withheld within the fence wait. -/
def execBistTestStart (id : Fin 65536) (s : State) : Outcome State Fault Refusal := s.on fun s =>
  match s.actBy id with
  | none => s
  | some a =>
    match a.locks with
    | [.bank b] =>
      if !a.testing && s.bankClear b && !s.fenceOver a then
        let acts := s.rel.acts.map (fun (x : Act) => if x.id = a.id then { x with testing := true } else x)
        (({ s with rel := { s.rel with acts := acts } } : Hub).setf (Fld.REL_MAINT_STAT_0_STATE a.slot) 2)
      else s
    | _ => s

/-- BIST_FENCE_TIMEOUT (R436): the fence is not complete within BIST_WAIT ticks. -/
def execBistFenceTimeout (id : Fin 65536) (s : State) : Outcome State Fault Refusal := s.on fun s =>
  match s.actBy id with
  | none => s
  | some a =>
    if a.type = mtBist ∧ !a.testing ∧ s.fenceOver a then (s.abortAct a 5) else s

/-- MAINT_STOP (R437): a write of REL_MAINT_STOP. -/
def execMaintStop (id : Fin 65536) (s : State) : Outcome State Fault Refusal := s.on fun s => (s.writeMaintStop id)

/-- Tag of the free value that is the SYNDROME of a row that failed a BIST: the spec states none. Log entry 151 (DESIGN CHOICE). -/
def freeTagBist : Nat := 5

/-- A failing row of a BIST enters the error log and stays withheld; a failing spare, at 8,192 up, does so as the row a field repair gave it
to, if one did (R426, R436). Log entry 151 (DESIGN CHOICE). -/
def Hub.failRow (b x : Nat) (s : Hub) : Hub :=
  let (v, s1) := s.free freeTagBist
  let row := if x < 8192 then some x else (s.rel.repairs.find? (fun y => y.1 == b && 8192 + y.2.2 == x)).map (fun y => y.2.1)
  let s2 := s1.logError b (rowWord (row.getD x)) (v % 256) true
  match row with
  | some r => s2.outRow b r
  | none => s2

/-- An activity ends DONE with RESULT and PROGRESS (R437, R440). -/
def Hub.doneAct (a : Act) (progress result : Nat) (s : Hub) : Hub :=
  (((s.setf (Fld.REL_MAINT_STAT_2_PROGRESS a.slot) progress).setf (Fld.REL_MAINT_STAT_3_RESULT a.slot) result).raise
    Evt.REL_MAINT_DONE [a.id, result]).endAct a 3 0

/-- Points of a full eye scan (R434). -/
def eyePoints : Nat := 2048

/-- MH and MV of an eye map (R429, R434): the longest runs of open phase points at the centre voltage and of open voltage points at the
centre phase. Log entry 186 (DEDUCED). -/
def eyeMh (m : List Nat) : Nat := longestRun ((List.range 64).map (fun ph => m.getD (32 * ph + 16) 0 == 0))
/-- The vertical margin of an eye map. Log entry 186 (DEDUCED). -/
def eyeMv (m : List Nat) : Nat := 4 * longestRun ((List.range 32).map (fun v => m.getD (32 * 32 + v) 0 == 0))

/-- The length in ns of an activity that has a stated one; 0 where R434 bounds it from above only. -/
def Act.length (a : Act) : Nat :=
  if a.type = mtEye then eyePoints * tickNs
  else match a.locks with
    | [.dom _] => 1000000
    | [.chan _] => 1000000000
    | [.fuses] => 20000000
    | _ => 0

/-- Rows a BIST tests: those of the bank and its spares (R426, R434). -/
def bistRows : Nat := 8192 + 64

/-- The work of an activity is complete with `r` (R427, R434, R436, R437). Log entry 153 (DESIGN CHOICE). -/
def Hub.finishAct (a : Act) (r : MaintRes) (s : Hub) : Hub :=
  match a.locks, r with
  | [.pair _], .eye map =>
    let m := (map.take eyePoints).map (fun x => min 0xFFFF x)
    let s1 : Hub := { s with rel := { s.rel with eyeMaps := Tab.put a.slot m s.rel.eyeMaps } }
    if a.type = mtEye then s1.doneAct a eyePoints (eyeMh m * 2 ^ 24 + eyeMv m * 2 ^ 16) else s
  | [.bank b], .bist rows =>
    if a.testing then
      let lo := (bankCells b).1
      let hi := (bankCells b).2
      let bad := (rows.filter (fun x => decide (x < bistRows))).eraseDups
      ((bad.foldl (fun t x => t.failRow b x) (s.zeroCells lo hi)).unfence lo hi).doneAct a bistRows bad.length
    else s
  | [.row b x], .repair =>
    let spare := s.nextSpare b
    let s1 : Hub := { s with rel := { s.rel with repairs := s.rel.repairs ++ [(b, x, spare)] } }
    (s1.raise Evt.REL_ROW_REPAIRED [b, x, spare]).doneAct a 0 spare
  | [.dom d], .deltas u v temp =>
    (((s.roSample (2 * d) u.toNat temp.toNat).roSample (2 * d + 1) v.toNat temp.toNat).deriveMargins).doneAct a 0
      (u.toNat * 2 ^ 16 + v.toNat)
  | [.chan c], .rdson x => if (s.chan c).i.natAbs < 1000 then s else (s.setf (Fld.REL_FET_HIST c 5) x).doneAct a 0 (x % 2 ^ 32)
  | [.fuses], .fuses weak failed =>
    let s1 := if 0 < weak then s.raise Evt.REL_FUSE_WEAK [weak] else s
    let s2 := if 0 < failed then s1.raise Evt.REL_FUSE_FAIL [failed] else s1
    s2.doneAct a 0 (min 0xFFFF weak * 2 ^ 16 + min 0xFFFF failed)
  | _, _ => s

/-- MAINT_DONE (R437): the work of the activity with this ID is complete, not before its length has passed (R434). Log entry 153 (DESIGN CHOICE). -/
def execMaintDone (id : Fin 65536) (r : MaintRes) (s : State) : Outcome State Fault Refusal := s.on fun s =>
  match s.actBy id with
  | some a => (if s.ranFor a.at' a.length then s.finishAct a r else s)
  | none => s

end Sys2Proof.Machine
end

