-- ==== Sys2Proof/Machine/SwitchOps.lean ====
section
/-! DEFINITION. Epoch switches, reverts and the transparent plan (R114, R128, R142 to R148). -/

namespace Sys2Proof.Machine

/-! Tunnel bindings and the tunnel table (R128, R162). -/

/-- The bindings a tunnel entry makes at its switch, as (queue, producer side, holder): the trunk takes from IN_QUEUE and
produces into OUT_QUEUE; BLK ends bind the block engine (2 the initiator end), a mapped SIG drop the signal map, a GADGET drop
the gadget (R162, R279, R334, R371). -/
def tunBinds (t : Nat) (u : Tun) : List (Nat × Bool × Who) :=
  let side (q : Option Nat) (prod : Bool) (w : Who) : List (Nat × Bool × Who) := match q with
    | none => []
    | some q => [(q, prod, w)]
  let e := if u.kind = 3 then blkEnd u.bind else 0
  let first := blkRole u.bind = 0
  let port : Who := .blk (blkPort u.bind)
  let trunk := (if e = 3 then [] else side u.inq false (.trunk t)) ++ side u.outq true (.trunk t)
  let own : List (Nat × Bool × Who) :=
    if u.kind = 3 then
      match e with
      | 1 => if first then side u.inq true (.blk 2) else side u.outq false (.blk 2)
      | 2 => if first then side u.outq false port else side u.inq true port
      | 3 => if first then side u.inq true (.blk 2) ++ side u.inq false port else side u.inq true port ++ side u.inq false (.blk 2)
      | _ => []
    else if u.kind = 4 ∧ bit u.bind 31 then side u.outq false .sigMap
    else if u.kind = 5 ∧ bit u.bind 31 then side u.outq false .gadget
    else []
  trunk ++ own

/-- A tunnel's bindings end. -/
def Hub.unbindTun (t : Nat) (u : Tun) (s : Hub) : Hub :=
  (tunBinds t u).foldl (fun x (q, prod, w) => if prod then x.unbindProd q w else x.unbindCons q w) s

/-- A tunnel's bindings are made where no lower-numbered entry or other act holds them, and on no queue whose bindings are fixed
(R161, R162). -/
def Hub.bindTun (t : Nat) (u : Tun) (s : Hub) : Hub :=
  (tunBinds t u).foldl (fun x (q, prod, w) =>
    if q < 20 then x
    else if prod then (if x.prodTaken q then x else x.bindProd q w) else (if x.consTaken q then x else x.bindCons q w)) s

/-- A tunnel entry of a new table: its state fields carry over where KIND, DIR and the ends are the same (R128). -/
def carryTun (old : Tab Tun) (t : Nat) (u : Tun) : Tun :=
  match Tab.get? t old with
  | none => { u with nextSeq := 0, expSeq := 0, expValid := false }
  | some o =>
    if o.kind = u.kind ∧ o.dir = u.dir ∧ o.first = u.first ∧ o.last = u.last then
      { u with nextSeq := o.nextSeq, expSeq := o.expSeq, expValid := o.expValid, carry := o.carry, owed := o.owed }
    else { u with nextSeq := 0, expSeq := 0, expValid := false }

/-- The IN_QUEUEs of a table. -/
def inQueues (ts : Tab Tun) : List Nat := (ts.filterMap (fun (e : Nat × Tun) => e.2.inq)).eraseDups

/-- The OUT_QUEUEs of a table. -/
def outQueues (ts : Tab Tun) : List Nat := (ts.filterMap (fun (e : Nat × Tun) => e.2.outq)).eraseDups

/-- A new tunnel table takes effect: IN_QUEUEs it no longer names are flushed, and their cells counted; a queue it names as an OUT_QUEUE
is not flushed (R128). -/
def Hub.installTunnels (new : Tab Tun) (s : Hub) : Hub :=
  let old := s.plan.tunnels
  let keep := inQueues new ++ outQueues new
  let gone := (inQueues old).filter (fun q => !keep.contains q)
  let cells := gone.foldl (fun n q => n + (s.queue q).occ) 0
  let s1 := old.foldl (fun x (t, u) => x.unbindTun t u) s
  let s2 := (gone.foldl (fun x q => x.flushQ q) s1).count Cnt.PLN_CNT_FLUSHED cells
  let tab := new.mapVal (carryTun old)
  let s3 : Hub := { (s2.spanEnd 6 0 (2 ^ 23)) with plan := { s2.plan with tunnels := tab, flushed := cells } }
  tab.foldl (fun x (t, u) => x.bindTun t u) s3

/-! Pairs and lanes (R44, R54, R142 step 7). -/

/-- A turnable pair takes its element `el` and its place in the epoch that starts now: awake where it is used, unless its lane still
wakes (R55), else asleep unless a loopback holds it (R54). A receiver in use without a lock starts to seek it (R52). Log entry 167 (DEDUCED). -/
def Hub.setPair (p k el : Nat) (use : Bool) (s : Hub) : Hub :=
  let n := 8 * p + k
  let s1 := (s.setf (Fld.TRK_PAIR_STATUS_DIR n) (bits el 1 0)).setf (Fld.TRK_PAIR_STATUS_NRZ n) (bits el 3 3)
  let s2 := if s1.getf (Fld.TRK_PAIR_STATUS_CAP n) = 2 then s1 else s1.setf (Fld.TRK_PAIR_STATUS_FAULTY n) 0
  let L := s2.lane p k
  let s3 := s2.setLane p k { L with slept := false, seekFrom := none, waking := L.waking && use }
  if use then
    let s4 := if L.waking then s3 else (s3.wakePair p k).clearFails p k
    if bits el 1 0 ≠ dirIn then s4.setf (Fld.TRK_PAIR_STATUS_LOCKED n) 0
    else if s4.linkUp p && !s4.flag (Fld.TRK_PAIR_STATUS_LOCKED n) then s4.seekLock p k s4.tick
    else s4
  else if s3.flag (Fld.TRK_PAIR_STATUS_LOOP n) then s3
  else (s3.sleepPair p k).clearFails p k

/-- A pair of port `p` is under the pair test of bring-up (R66). -/
def Hub.underTest (s : Hub) (p : Nat) : Bool := s.link p == lkPairTest

/-- The PAIRS elements of a new epoch take effect; the fixed pairs stay as they are (R43, R54), and the pairs of a port whose bring-up
tests them take theirs when its link is up (R66). Log entries 40 (DEDUCED), 167 (DEDUCED). -/
def Hub.setPairs (pairs : List Nat) (use : Nat → Nat → Bool) (s : Hub) : Hub :=
  allPairs.foldl (fun t (p, k) => if fixedPair k || t.underTest p then t else t.setPair p k (pairs.getD (8 * p + k) 0) (use p k))
    { s with plan := { s.plan with live := some pairs } }

/-- The turnable pairs of a port whose link has come up return to what the plan in force gives them (R54, R106); until the first
switch they stay in their bring-up directions (R44). A receiver whose direction or rate its test did not use has its lock to find
(R52). -/
def Hub.livePairs (p : Nat) (s : Hub) : Hub :=
  match s.plan.live with
  | none => s
  | some ps =>
    [1, 2, 3, 4, 5, 6].foldl (fun t k =>
      let n := 8 * p + k
      let el := ps.getD n 0
      let same := bits el 1 0 == t.dir p k && bits el 3 3 == t.getf (Fld.TRK_PAIR_STATUS_CAP n)
      let u := if same then t else t.setf (Fld.TRK_PAIR_STATUS_LOCKED n) 0
      let faulty := t.getf (Fld.TRK_PAIR_STATUS_FAULTY n)
      (u.setPair p k el (t.pairUsed p k && t.getf (Fld.TRK_PAIR_STATUS_CAP n) != 2)).setf (Fld.TRK_PAIR_STATUS_FAULTY n) faulty) s

/-! Power steps (R142 step 11, R410). -/

/-- The plan steps in force become these: a domain stepped no more starts its exit with source `src`. -/
def Hub.setSteps (steps : List (Nat × Nat)) (epoch src : Nat) (s : Hub) : Hub :=
  let held := (List.range 24).filter (fun d => s.planStep d != 0)
  let s1 := held.foldl (fun t d => t.setf (Fld.PWR_DOM_STATUS_PLAN_STEP d) 0) s
  let s2 := (held.filter (fun d => !steps.any (fun e => e.1 == d))).foldl (fun t d => t.wakeDom d src) s1
  steps.foldl (fun t (d, k) => t.planStepAt d k epoch) s2

/-! What a switch keeps for a revert (R114). -/

/-- The epoch in force is kept until the end of tick S + 15. -/
def Hub.keepPrev (at' : Nat) (s : Hub) : Hub :=
  let v : PrevEpoch :=
    { at' := at', epoch := s.getf Fld.PLN_ACTIVE_EPOCH, transparent := !s.loadedPlan, reason := s.getf Fld.PLN_STATUS_TRANSP_REASON,
      bank := s.actBank, tunnels := s.plan.tunnels, pairs := s.pairsNow, carve := s.pool.carve,
      power := (s.actSec.map (fun c => c.power)).getD [], hyper := s.getf Fld.PLN_STATUS_HYPER }
  { s with plan := { s.plan with prev := some v },
           net := { s.net with prevShp := s.net.shapers,
                               prevGl := [0, 1, 2, 3].map (fun p => (p, (s.eport p).oper, s.flag (Fld.NET_GL_STATUS_ACTIVE p))) } }

/-- TRK_RING_STATUS clears at an epoch switch (R117); in a chain STATE is chain. Log entry 40 (DEDUCED). -/
def Hub.clearRing (chain : Bool) (s : Hub) : Hub :=
  ({ s with ring := { s.ring with brk := none, alarmed := [] } } : Hub)
    |>.setf Fld.TRK_RING_STATUS_STATE (if chain then rgChain else rgPlanA) |>.setf Fld.TRK_RING_STATUS_REVERTED 0
    |>.setf Fld.TRK_RING_STATUS_LATE 0 |>.setf Fld.TRK_RING_STATUS_SECOND 0 |>.setf Fld.TRK_RING_STATUS_BREAK_U 0
    |>.setf Fld.TRK_RING_STATUS_BREAK_D 0 |>.setf Fld.TRK_RING_DETECT_LO 0 |>.setf Fld.TRK_RING_DETECT_HI 0

/-- PLN_LAST_SWITCH and PLN_CNT_SWITCHES (R145, R154). Log entry 163 (DEDUCED). -/
def Hub.countSwitch (at' : Nat) (s : Hub) : Hub :=
  (s.set64 Fld.PLN_LAST_SWITCH_LO Fld.PLN_LAST_SWITCH_HI at').count Cnt.PLN_CNT_SWITCHES 1

/-- PLN_STATUS of the epoch in force. Log entry 44 (DEDUCED). -/
def Hub.showPlan (epoch bank hyper reason : Nat) (transparent : Bool) (s : Hub) : Hub :=
  s |>.setf Fld.PLN_ACTIVE_EPOCH epoch |>.setf Fld.PLN_STATUS_ACTIVE_BANK bank |>.setf Fld.PLN_STATUS_HYPER hyper
    |>.setf Fld.PLN_STATUS_TRANSP_REASON reason |>.setb Fld.PLN_STATUS_TRANSPARENT transparent

/-- The carve-out of `cells` takes effect (R133, R174, R294). -/
def Hub.setCarve (cells : Nat) (s : Hub) : Hub := (s.applyCarve cells).dspCarve

/-- What other units see of a change of epoch: block commands whose tunnels are gone, maintenance on lanes that sleep. -/
def Hub.afterChange (s : Hub) : Hub :=
  ({ s.blkSwitch with plan := { s.blkSwitch.plan with newer := [] } } : Hub).maintSweep

/-! The switch into a loaded plan (R142). -/

/-- The pending section `c`, armed as `a`, switches into force. -/
def Hub.switchInto (c : Sec) (a : Armed) (s : Hub) : Hub :=
  let s1 := s.keepPrev a.at'
  let s2 := ({ s1 with plan := { s1.plan with armed := none, needs := c.needs, invalid := 0, switchOwed := true } } : Hub)
    |>.showPlan c.epoch s.pendBank c.hyper 0 false |>.setPend psHeld
  let s3 := (s2.installTunnels c.tunnels).setPairs c.pairs (fun p k => c.hasRuns p k)
  let s4 := c.shapers.foldl (fun t e => t.applyShpElem e) (s3.applyMargins a.at')
  let s5 := c.gates.foldl (fun t (p, es) => t.planGates p es) s4
  let s6 := match c.carve with
    | none => s5.liftFence
    | some u => s5.setCarve (256 * u)
  let s7 := (s6.setSteps c.power c.epoch 4).clearRing (!c.ring)
  let s8 := c.needs.foldl (fun t d => t.wakeDom d 4) s7
  let s9 := (s8.countSwitch a.at').setf Fld.GEN_SETUP_OPEN 0
  (if a.rejoin then s9.raise Evt.PLN_REJOIN [c.epoch, a.at'] else s9).afterChange

/-- The exits that begin at the boundary of S − 8, and the wakes of needed domains (R142 step 2, R410). -/
def Hub.prepareSwitch (c : Sec) (s : Hub) : Hub :=
  let s1 := (List.range 24).foldl (fun t d =>
    let now : Nat := t.planStep d
    let new : Nat := ((c.power.find? (fun (e : Nat × Nat) => e.1 == d)).map (fun (e : Nat × Nat) => e.2)).getD 0
    if now ≠ 0 ∧ new < now then t.wakeDom d 4 else t) s
  c.needs.foldl (fun t d => t.wakeDom d 4) s1

/-! The transparent plan (R145, R146). -/

/-- The hub enters the transparent plan for `reason` with `epoch`; `switch` says whether the entry is tied to an arm for tick
`at'`. Log entry 44 (DEDUCED). -/
def Hub.goTransparent (reason epoch at' : Nat) (switch : Bool) (s : Hub) : Hub :=
  let s1 := if switch then s.keepPrev at' else s
  let pairs := s.transparentPairs switch epoch
  let s2 := (({ s1 with plan := { s1.plan with needs := [] } } : Hub).showPlan epoch s.actBank 0 reason true).setPairs pairs
    (fun _ k => canPass pairs k)
  let s3 := s2.setSteps [] epoch 5
  let s4 := if switch then ((s3.clearRing false).countSwitch at').applyMargins at' else s3
  ((s4.count Cnt.PLN_CNT_TRANSPARENT 1).raise Evt.PLN_TRANSPARENT [epoch, reason]).afterChange

/-- After a transparent switch the pending section stays READY if it is valid, else the bank is EMPTY (R140). -/
def Hub.keepPending (s : Hub) : Hub :=
  let s1 : Hub := { s with plan := { s.plan with armed := none } }.liftFence
  if s1.secValid && s1.plan.ready then s1.setPend psReady else s1.planDiscard.setPend psEmpty

/-! Reverts (R114, R149). -/

/-- A shaper configuration as an element of a switch. Log entry 45 (DEDUCED). -/
def shpElemOf (i : Nat) (h : Shaper) : ShpElem := ⟨i, h.overhead, h.enable, h.rate, h.burst⟩

/-- The shapers and gate lists that section `c` changed return to what they were before its switch, a list with its ENABLE and SOURCE 3
(R114, R149, R259, R263). Log entry 45 (DEDUCED). -/
def Hub.revertNet (c : Sec) (s : Hub) : Hub :=
  let s1 := c.shapers.foldl (fun t e => t.applyShpElem (shpElemOf e.index (Tab.getD s.net.prevShp e.index {}))) s
  c.gates.foldl (fun t (p, _) =>
    let g := Tab.getD s.net.prevGl p ([], false)
    (t.setb (Fld.NET_GL_CTL_ENABLE p) g.2 |>.setb (Fld.NET_GL_STATUS_ACTIVE p) g.2).takeGates p g.1 3) s1

/-- A switch at S ≥ D is reverted to the epoch kept; the section it left is READY again (R114, R149). Log entry 45 (DEDUCED). -/
def Hub.revert (v : PrevEpoch) (s : Hub) : Hub :=
  let left := s.getf Fld.PLN_ACTIVE_EPOCH
  let now := s.actSec
  let back := if v.transparent then none else Tab.get? v.bank s.plan.banks
  let s1 := match now with
    | some c => s.revertNet c
    | none => s
  let s2 := ({ s1 with plan := { s1.plan with
      prev := none, invalid := 0, needs := (back.map Sec.needs).getD [],
      pendUnits := ((now.bind (fun c => c.carve)).getD (s1.pool.carve / 256)) } } : Hub)
    |>.showPlan v.epoch v.bank v.hyper v.reason v.transparent
  let s3 := (s2.installTunnels v.tunnels).setPairs v.pairs (fun p k => match back with
    | some c => c.hasRuns p k
    | none => canPass v.pairs k)
  let s4 := ((s3.setCarve v.carve).setSteps v.power v.epoch 5).setf Fld.TRK_RING_STATUS_REVERTED 1
  (s4.raise Evt.PLN_ARM_CANCELLED [left + 2 ^ 32 * (v.at' % 2 ^ 31) + 2 ^ 63]).planReady.afterChange

end Sys2Proof.Machine
end

