-- ==== Sys2Proof/Machine/Plans.lean ====
section
/-! DEFINITION. The commands of plans and epochs (R111, R114, R134 to R149). -/

namespace Sys2Proof.Machine

open Host (Outcome)

/-! Loading (R134, R137 to R140). -/

/-- The head's plan messages are taken by a node; others are ignored (R138). Log entry 72 (DEDUCED). -/
def Hub.planMsg (s : Hub) (m : Msg) : Bool := m.src == 0 && !s.isHead

/-- PLAN_LOAD_FRAGMENT: a PLAN_LOAD message gives a fragment of the hub's section (R139, R140). -/
def execPlanLoadFragment (s : State) : Outcome State Fault Refusal := s.on fun s =>
  match s.takeMsg 4 [mtPlanLoad] with
  | (none, t) => t
  | (some m, t) =>
    if t.planMsg m then
      let total := beNat (slice m.body 8 4)
      let offset := beNat (slice m.body 4 4)
      (t.takeFragment (beNat (slice m.body 0 4)) offset total (slice m.body 12 (min 220 (total - offset))))
    else t

/-- PLAN_CHECK_DONE: the local checks of a section loaded in full end (R134, R140). -/
def execPlanCheckDone (s : State) : Outcome State Fault Refusal := s.on fun s => s.checkDone

/-- A HOP_DIGEST with ANSWER = 0 for the active epoch is answered from the active section (R147). -/
def Hub.answerDigest (p : Nat) (body : List Byte) (s : Hub) : Hub :=
  let e := beNat (slice body 0 4)
  let st := s.pend
  let busy := (st == psPeering || st == psReady || st == psArmed || st == psArmedT) && s.getf Fld.PLN_PEND_EPOCH == e
  match s.actSec with
  | none => s
  | some c =>
    if !bit (byteAt body 4) 1 && e == s.getf Fld.PLN_ACTIVE_EPOCH && !busy then s.sendHop p mtHopDigest (c.digestBody e p true)
    else s

/-- HOP_DIGEST_RECEIVE: a neighbour's digests are kept and compared, and answered under R147 (R137). -/
def execHopDigestReceive (s : State) : Outcome State Fault Refusal := s.on fun s =>
  match s.takeMsg 4 [mtHopDigest] with
  | (none, t) => t
  | (some m, t) =>
    let t1 : Hub := { t with plan := { t.plan with digests := Tab.put m.port m.body t.plan.digests } }
    ((t1.compareDigest m.port).answerDigest m.port m.body)

/-- PLAN_LOAD_TIMEOUT: 256 whole ticks without a fragment fail the load (R140). Log entry 160 (DEDUCED). -/
def execPlanLoadTimeout (s : State) : Outcome State Fault Refusal := s.on fun s =>
  (if s.pend = psLoading ∧ s.plan.fragAt + 257 ≤ s.tick then s.planFail ⟨0x13, 0, 0⟩ else s)

/-- PLAN_PEER_TIMEOUT: 512 whole ticks without every up port matched fail the section (R140). -/
def execPlanPeerTimeout (s : State) : Outcome State Fault Refusal := s.on fun s =>
  (if s.pend = psPeering ∧ s.plan.checkAt + 513 ≤ s.tick then s.planFail ⟨0x12, 0, 0⟩ else s)

/-- PLAN_QUERY_MSG: answered with PLAN_STATUS (R139). -/
def execPlanQueryMsg (s : State) : Outcome State Fault Refusal := s.on fun s =>
  match s.takeMsg 4 [mtPlanQuery] with
  | (none, t) => t
  | (some m, t) => (if t.planMsg m then t.sendPlanStatus m.msgId t.planReason else t)

/-- The tick PLAN_ARM_ACK gives: that at which the arm that stands was accepted, for the statuses that accept one, else this one
(R138, R141). -/
def Hub.ackTick (s : Hub) (st : Nat) : Nat :=
  match s.plan.armed with
  | some a => if st ≤ 2 then a.acceptedAt else s.tick
  | none => s.tick

/-- The body of PLAN_ARM_ACK (R138). -/
def Hub.armAck (s : Hub) (epoch st : Nat) : List Byte := beBytes 4 epoch ++ beBytes 1 st ++ zeros 3 ++ beBytes 8 (s.ackTick st)

/-- PLAN_ARM_MSG: handled by the first row of R141 that fits, and acknowledged. -/
def execPlanArmMsg (s : State) : Outcome State Fault Refusal := s.on fun s =>
  match s.takeMsg 4 [mtPlanArm] with
  | (none, t) => t
  | (some m, t) =>
    if t.planMsg m then
      let e := beNat (slice m.body 0 4)
      let (st, u) := t.takeArm e (beNat (slice m.body 4 8)) (m.dst != 0x1FF)
      (u.send 0 mtPlanArmAck m.msgId (u.armAck e st))
    else t

/-- PLAN_DISARM_MSG: the arm it names is dropped, and the reply says whether it was (R140, R240). Log entry 46 (DEDUCED). -/
def execPlanDisarmMsg (s : State) : Outcome State Fault Refusal := s.on fun s =>
  match s.takeMsg 4 [mtPlanDisarm] with
  | (none, t) => t
  | (some m, t) =>
    if t.planMsg m then
      let e := beNat (slice m.body 0 4)
      let (ok, u) := t.takeDisarm e (beNat (slice m.body 4 8))
      (u.send 0 mtPlanArmAck m.msgId (u.armAck e (if ok then 7 else 8)))
    else t

/-! Switches (R142, R145, R146). -/

/-- The boundary of S − 8 has come for the armed switch (R142 step 2, R410). -/
def Hub.prepareAt (s : Hub) : Hub :=
  match s.plan.armed, s.pendSec with
  | some a, some c => if s.pend = psArmed ∧ a.at' ≤ s.tick + 8 ∧ s.tick < a.at' then s.prepareSwitch c else s
  | _, _ => s

/-- The boundary of S has come for an ARMED section: it switches into force (R142). -/
def Hub.switchAt (s : Hub) : Hub :=
  match s.plan.armed, s.pendSec with
  | some a, some c => if s.pend = psArmed ∧ a.at' ≤ s.tick then s.switchInto c a else s
  | _, _ => s

/-- The boundary of S has come for a hub in ARMED_T: the transparent switch (R145, R146). -/
def Hub.transparentAt (s : Hub) : Hub :=
  match s.plan.armed with
  | some a => if s.pend = psArmedT ∧ a.at' ≤ s.tick then (s.goTransparent a.reason a.epoch a.at' true).keepPending else s
  | none => s

/-- The boundary of a transparent entry that is due for reason 3, 4 or 6 (R145, R148); reason 3 is a switch. Log entry 43 (DEDUCED). -/
def Hub.entryAt (s : Hub) : Hub :=
  match s.plan.entryDue with
  | none => s
  | some (reason, epoch) =>
    ({ s with plan := { s.plan with entryDue := none } } : Hub).goTransparent reason epoch s.tick (reason == 3)

/-- The boundary of D + 8, or the one after it that a late report leaves: a switch made at S ≥ D is reverted first, and a hub whose
loaded plan is a ring's enters plan B (R111, R114), its cells for the head turning away from the broken hop (R102). A revert into the
transparent plan has no plan B to enter (R146). -/
def Hub.planBAt (s : Hub) : Hub :=
  match s.ring.brk with
  | none => s
  | some b =>
    let back := s.revertFor b.detect
    if s.ringState' = rgScheduled ∧ b.entry ≤ s.tick ∧ (s.loadedPlan || back.isSome) then
      let s1 := match back with
        | some v => s.revert v
        | none => s
      match s1.actSec with
      | none => s1.setf Fld.TRK_RING_STATUS_STATE rgPlanA
      | some c =>
        if c.ring then ((s1.setf Fld.TRK_RING_STATUS_STATE rgPlanB).turnHeadPort b.hop).raise Evt.PLN_PLAN_B [b.hop, s1.tick]
        else (s1.setf Fld.TRK_RING_STATUS_STATE rgBroken).turnHeadPort b.hop
    else s

/-- What takes effect at the tick boundary line time stands on, before the rest of its work (R31, R34). -/
def Hub.changesAt (s : Hub) : Hub := s.prepareAt.planBAt.entryAt.switchAt.transparentAt

/-- The armed switch as (S, ARMED_T), where one is armed. -/
def Hub.armedFor (s : Hub) (t : Nat) (st : Nat) : Bool :=
  match s.plan.armed with
  | some a => s.pend == st && decide (a.at' ≤ t)
  | none => false

/-- SWITCH_PREPARE: the boundary of S − 8 (R142 step 2, R410). Log entry 8 (DESIGN CHOICE). -/
def execSwitchPrepare (s : State) : Outcome State Fault Refusal := s.on fun s =>
  s.atBoundary (fun t => t.armedFor (t.tick + 8) psArmed && !t.armedFor t.tick psArmed) Hub.prepareAt

/-- EPOCH_SWITCH: the boundary of the armed tick S (R34, R142). Log entry 8 (DESIGN CHOICE). -/
def execEpochSwitch (s : State) : Outcome State Fault Refusal := s.on fun s =>
  s.atBoundary (fun t => t.armedFor t.tick psArmed) Hub.switchAt

/-- TRANSPARENT_SWITCH: the boundary of S of a hub in ARMED_T (R34, R145, R146). Log entry 8 (DESIGN CHOICE). -/
def execTransparentSwitch (s : State) : Outcome State Fault Refusal := s.on fun s =>
  s.atBoundary (fun t => t.armedFor t.tick psArmedT) Hub.transparentAt

/-- TRANSPARENT_ENTRY: the next tick boundary after an entry became due (R34, R145, R148). Log entries 8 (DESIGN CHOICE), 43 (DEDUCED). -/
def execTransparentEntry (s : State) : Outcome State Fault Refusal := s.on fun s =>
  s.atBoundary (fun t => t.plan.entryDue.isSome) Hub.entryAt

/-- HELD_BANK_RELEASE: the end of tick S + 15: the retired bank is EMPTY (R114, R140). -/
def execHeldBankRelease (s : State) : Outcome State Fault Refusal := s.on fun s =>
  match s.plan.prev with
  | none => s
  | some v =>
    if s.tick < v.at' + 16 then s
    else
      let s1 : Hub := { s with plan := { s.plan with prev := none } }
      (if s1.pend = psHeld then s1.planDiscard.setPend psEmpty else s1)

/-! Epochs seen (R147, R148). -/

/-- The newer EPOCH that 16 consecutive brims of port `p` have shown. -/
def Hub.newerSeen (s : Hub) (p : Nat) : Option Nat :=
  match Tab.get? p s.plan.newer with
  | none => none
  | some (e, n) => if 16 ≤ n ∧ s.getf Fld.PLN_ACTIVE_EPOCH < e then some e else none

/-- EPOCH_ADOPT: a hub in the transparent plan takes the newer EPOCH as its own (R147). -/
def execEpochAdopt (p : Fin 2) (s : State) : Outcome State Fault Refusal := s.on fun s =>
  match s.newerSeen p with
  | none => s
  | some e =>
    (if s.loadedPlan then s
      else ({ s with plan := { s.plan with newer := [] } } : Hub).setf Fld.PLN_ACTIVE_EPOCH e)

/-- EPOCH_MISMATCH: a hub on a loaded plan with no break scheduled or in force is to enter the transparent plan (R148). -/
def execEpochMismatch (p : Fin 2) (s : State) : Outcome State Fault Refusal := s.on fun s =>
  match s.newerSeen p with
  | none => s
  | some e =>
    if s.loadedPlan && s.ring.brk.isNone then
      let s1 := s.raise Evt.PLN_EPOCH_MISMATCH [p, e]
      (({ s1 with plan := { s1.plan with newer := [], entryDue := some (6, e) } } : Hub).leaveSteps)
    else s

/-! Plan B (R111, R114). -/

/-- Plan B is scheduled for tick `t` or an earlier one. -/
def Hub.planBDue (s : Hub) (t : Nat) : Bool :=
  match s.ring.brk with
  | none => false
  | some b => s.ringState' == rgScheduled && decide (b.entry ≤ t)

/-- PLAN_B_ENTRY: the boundary of D + 8 or the one after (R34, R111, R114). Log entry 8 (DESIGN CHOICE). -/
def execPlanBEntry (s : State) : Outcome State Fault Refusal := s.on fun s =>
  s.atBoundary (fun t => t.planBDue t.tick) Hub.planBAt

end Sys2Proof.Machine
end

