-- ==== Sys2Proof/Machine/PowerFlow.lean ====
section
/-! DEFINITION. The commands of the ladder: entries, exits, wakes and wake failures (R403 to R412, R416). -/

namespace Sys2Proof.Machine

open Host (Outcome)

/-- PWR_ENTRY_ARM (R406): a write `v` of PWR_DOM_MODE_d with TARGET 1 to 4, by a control core (`ctl`) or the service core. -/
def execPwrEntryArm (d : Fin 24) (v : Word) (ctl : Bool) (s : State) : Outcome State Fault Refusal := s.on fun s =>
  (s.writeDomMode d v.toNat ctl)

/-- PWR_WAKE_REQUEST (R406, R408): a write of PWR_DOM_MODE_d with TARGET 0. -/
def execPwrWakeRequest (d : Fin 24) (ctl : Bool) (s : State) : Outcome State Fault Refusal := s.on fun s => (s.writeDomMode d 0 ctl)

/-- An entry of domain `d` ends (R403, R405, R407): its fields are saved at L3 under SAVE_EN, and a wake source met on the way
starts the exit. -/
def Hub.entryDone (d : Nat) (s : Hub) : Hub :=
  let D := s.dom d
  let save := decide (D.target = 3) && s.flag Fld.PWR_CTL_SAVE_EN
  let s1 := (s.setDom d { D with target := 0, wakeMet := none, saved := if save then some (s.savedFields d) else if 3 ≤ D.target then none else D.saved })
    |>.setf (Fld.PWR_DOM_STATUS_STATE d) dmStable |>.setf (Fld.PWR_DOM_STATUS_STEP d) D.target
  let s1 := if save then s1.spanEnd 11 (256 * d) (256 * (d + 1)) else s1
  let s1 := if d = dSVC ∧ D.target = 4 then { s1 with pwr := { s1.pwr with parkAt := s1.up } } else s1
  match D.wakeMet, D.next with
  | some src, _ => s1.startExit d src
  | none, some (k, h) => (s1.setDom d { s1.dom d with next := none }).moveDom d k h
  | none, none => s1

/-- PWR_ENTRY_DONE (R403): a domain's entry to a lower step completes, at some point within its entry time. -/
def execPwrEntryDone (d : Fin 24) (s : State) : Outcome State Fault Refusal := s.on fun s =>
  (if s.domState d = dmEntering then s.entryDone d else s)

/-- An exit of domain `d` reaches L0 after `t` × 0.1 µs: the wake record (R415), and the entry that a move to a shallower step
still owes (R407). -/
def Hub.exitDone (d t : Nat) (s : Hub) : Hub :=
  let D := s.dom d
  let s1 := (s.reachL0 d).writeWakeRec d 0 D.src D.from' 0 t D.exitTick
  match D.next with
  | some (k, h) => s1.startEntry d k h
  | none => s1

/-- PWR_EXIT_DONE (R403, R415): an exit reaches L0 `t` × 0.1 µs after it started, which is within its wake timeout (R412). Log entry 185 (DEDUCED). -/
def execPwrExitDone (d : Fin 24) (t : Nat) (s : State) : Outcome State Fault Refusal := s.on fun s =>
  let D := s.dom d
  (if s.domState d = dmExiting ∧ s.up ≤ D.exitAt + 100 * t ∧ 100 * t ≤ D.exitLimit then (s.upTo (D.exitAt + 100 * t)).exitDone d t else s)

/-- The line time at which the arbiter starts the exit of domain `d` (R409): as its entry was granted, or earlier for a launch that has come since. -/
def Hub.wakeDue (s : Hub) (d : Nat) : Option Nat :=
  let k := if s.domState d = dmEntering then (s.dom d).target else s.domStep d
  let held := decide (2 ≤ s.getf (Fld.PWR_DOM_STATUS_HOLDER d)) && decide (1 ≤ k)
  match (s.dom d).sched, (if held then s.launchUse d else none).map (fun u => u - s.exitTime k - 1000) with
  | none, u => u
  | some a, none => some a
  | some a, some b => some (min a b)

/-- PWR_SCHEDULED_WAKE (R409): the arbiter starts the exit of domain `d` ahead of its next use. -/
def execPwrScheduledWake (d : Fin 24) (s : State) : Outcome State Fault Refusal := s.on fun s =>
  match s.wakeDue d with
  | none => s
  | some u =>
    let s1 := s.advance u
    (s1.setDom d { s1.dom d with sched := none }).wakeDom d 3

/-- PWR_HW_WAKE (R407): an event on the pins of PEQ0 or USBPD, as a wake request with source 9. -/
def execPwrHwWake (d : Fin 24) (s : State) : Outcome State Fault Refusal := s.on fun s =>
  (if d.val = dPEQ0 ∨ d.val = dUSBPD then s.requestWake d 9 else s)

/-- The failure record of lane `k` of trunk domain `d`. Log entry 132 (DEDUCED). -/
def Hub.laneFail (s : Hub) (d k : Nat) : LaneFail := Tab.getD s.pwr.laneFails (8 * d + k) {}
/-- The state with the failure record of lane `k` of trunk domain `d` as `x`. Log entry 132 (DEDUCED). -/
def Hub.setLaneFail (d k : Nat) (x : LaneFail) (s : Hub) : Hub :=
  { s with pwr := { s.pwr with laneFails := Tab.put (8 * d + k) x s.pwr.laneFails } }

/-- PWR_WAKE_TIMEOUT (R412): an exit of domain `d`, or the wake of lane `lane` of a trunk domain, missed its wake timeout. -/
def execPwrWakeTimeout (d : Fin 24) (lane : Option (Fin 8)) (s : State) : Outcome State Fault Refusal := s.on fun s =>
  match lane with
  | none => (if s.domState d = dmExiting then (s.upTo ((s.dom d).exitAt + (s.dom d).exitLimit)).wakeFail d else s)
  | some k =>
    let L := s.lane (d / 2) k
    if d.val ≤ 3 ∧ L.waking ∧ (s.laneFail d k).failed = false then
      let from' := L.wakeAt / tickNs
      let s1 := s.upTo (L.wakeAt + laneLimit)
      let x : LaneFail := { failed := true, failAt := L.wakeAt + laneLimit, startTick := s.tick - (s.upTick - from') }
      (((s1.setLaneFail d k x).count (Cnt.PWR_CNT_WAKE_FAIL d) 1).writeWakeRec d 1 4 1 0 0 x.startTick)
    else s

/-- A retry of a lane ends (R412): it wakes after `t` × 0.1 µs, or after the third it stays FAILED for the epoch and its pair follows R52. -/
def Hub.laneRetry (d k : Nat) (t : Option Nat) (s0 : Hub) : Hub :=
  let x := s0.laneFail d k
  let at' := retryAt x.failAt (x.retries + 1)
  let bad := match t with | some y => decide (laneLimit < 100 * y) || decide (at' + 100 * y < s0.up) | none => false
  if !x.failed || decide (3 ≤ x.retries) || bad then s0
  else
    let n := x.retries + 1
    let i := 8 * (d / 2) + k
    let s := (s0.upTo (at' + (match t with | some y => 100 * y | none => laneLimit))).writeWakeRec d 1 4 1 n (t.getD 0) x.startTick
    if t.isSome then
      ((({ s with pwr := { s.pwr with laneFails := Tab.del (8 * d + k) s.pwr.laneFails } } : Hub).setLane (d / 2) k
        { s.lane (d / 2) k with waking := false }).setf
          (if d % 2 = 0 then Fld.TRK_PAIR_STATUS_TX_SLEEP i else Fld.TRK_PAIR_STATUS_RX_SLEEP i) 0).raise Evt.PWR_WAKE_RECOVERED [d, n]
    else
      let s1 := (s.setLaneFail d k { x with retries := n }).count (Cnt.PWR_CNT_WAKE_FAIL d) 1
      if n < 3 then s1
      else
        let e := s1.getf Fld.PLN_ACTIVE_EPOCH
        ((((s1.raise Evt.PWR_WAKE_FAIL [d, k, 1, 3]).setLane (d / 2) k { s1.lane (d / 2) k with waking := false }).setf
          (Fld.TRK_PAIR_STATUS_FAULTY i) 1).raise Evt.TRK_PAIR_LOCK_FAIL [d / 2, k, e]).sendHop (d / 2) 0x31
            (beBytes 1 k ++ zeros 3 ++ beBytes 4 e)

/-- A retry of domain `d` ends (R412, R415): at L0 from reset after `t` × 0.1 µs, or timed out. -/
def Hub.domRetry (d : Nat) (t : Option Nat) (s : Hub) : Hub :=
  let D := s.dom d
  let n := s.getf (Fld.PWR_DOM_STATUS_RETRIES d) + 1
  match t with
  | some x =>
    (((s.setDom d { D with from' := 3, saved := none }).reachL0 d |>.setf (Fld.PWR_DOM_STATUS_RETRIES d) 0).writeWakeRec d 1 D.src D.from' n x
      D.exitTick).raise Evt.PWR_WAKE_RECOVERED [d, n]
  | none =>
    let s1 := ((s.setf (Fld.PWR_DOM_STATUS_RETRIES d) n).writeWakeRec d 1 D.src D.from' n 0 D.exitTick).count
      (Cnt.PWR_CNT_WAKE_FAIL d) 1
    if n < 3 then s1 else s1.raise Evt.PWR_WAKE_FAIL [d, 0xFF, D.from', 3]

/-- Whether domain `d` has a retry to come (R412): RETRIES counts those used, and the third is the last. -/
def Hub.retryLeft (s : Hub) (d : Nat) : Bool := s.domFailed d && decide (s.getf (Fld.PWR_DOM_STATUS_RETRIES d) < 3)

/-- The next retry of domain `d` ends where a retry that reaches L0 after `t` × 0.1 µs, or times out, does; none where it cannot (R412). -/
def Hub.retryEnd (s : Hub) (d : Nat) (t : Option Nat) : Option Nat :=
  let at' := retryAt (s.dom d).failAt (s.getf (Fld.PWR_DOM_STATUS_RETRIES d) + 1)
  if !s.retryLeft d then none
  else
    match t with
    | some x => if retryLimit < 100 * x ∨ at' + 100 * x < s.up then none else some (at' + 100 * x)
    | none => some (at' + retryLimit)

/-- PWR_WAKE_RETRY (R412): a retry from L3 of a domain, or of a lane, 1, 2 or 3 ms after the timeout reaches L0 after `t` × 0.1 µs, or times
out. Log entry 185 (DEDUCED). -/
def execPwrWakeRetry (d : Fin 24) (lane : Option (Fin 8)) (t : Option Nat) (s : State) : Outcome State Fault Refusal := s.on fun s =>
  match lane with
  | some k => (if d.val ≤ 3 then s.laneRetry d k t else s)
  | none =>
    match s.retryEnd d t with
    | none => s
    | some u => (s.upTo u).domRetry d t

/-- A write of PWR_DOM_CTL_d: RETRY starts a new exit of a domain that has failed for good, followed by up to three retries
(R412). -/
def Hub.writeDomCtl (d v : Nat) (s : Hub) : Hub :=
  if bit v 0 && s.domState d == dmFailed && decide (3 ≤ s.getf (Fld.PWR_DOM_STATUS_RETRIES d)) then
    (s.setDom d { s.dom d with src := 7, from' := 3, exitAt := s.up, exitTick := s.tick, saved := none }) |>.setf (Fld.PWR_DOM_STATUS_STATE d) dmExiting
      |>.setf (Fld.PWR_DOM_STATUS_RETRIES d) 0
  else s

/-- PWR_DOM_RETRY (R412): a write of PWR_DOM_CTL_d. -/
def execPwrDomRetry (d : Fin 24) (v : Word) (s : State) : Outcome State Fault Refusal := s.on fun s => (s.writeDomCtl d v.toNat)

/-- A write of PWR_REFUSE_d clears the word (R416). -/
def Hub.clearRefuse (d : Nat) (s : Hub) : Hub :=
  s |>.setf (Fld.PWR_REFUSE_COUNT d) 0 |>.setf (Fld.PWR_REFUSE_LAST_ID d) 0 |>.setf (Fld.PWR_REFUSE_LAST_STEP d) 0
    |>.setf (Fld.PWR_REFUSE_LAST_ABORT d) 0

/-- PWR_REFUSE_CLEAR (R416): a write of PWR_REFUSE_d. -/
def execPwrRefuseClear (d : Fin 24) (s : State) : Outcome State Fault Refusal := s.on fun s => (s.clearRefuse d)

/-- Whether a retry of domain `d` is under way now (R412). -/
def Hub.retrying (s : Hub) (d : Nat) : Bool :=
  let at' := retryAt (s.dom d).failAt (s.getf (Fld.PWR_DOM_STATUS_RETRIES d) + 1)
  s.retryLeft d && decide (at' ≤ s.up) && decide (s.up < at' + retryLimit)

/-- PWR_DOM_STATUS_d as read (R418): STATE is RETRYING while a retry runs, and FAILED between retries. -/
def Hub.readDomStatus (s : Hub) (d : Nat) : Nat :=
  (if s.retrying d then dmRetrying else s.domState d) * 2 ^ 29 + s.domStep d * 2 ^ 26 + s.planStep d * 2 ^ 23
    + s.getf (Fld.PWR_DOM_STATUS_HOLDER d) * 2 ^ 20 + s.getf (Fld.PWR_DOM_STATUS_RETRIES d) * 2 ^ 16
    + s.getf (Fld.PWR_DOM_STATUS_LAST_REFUSER d) * 2 ^ 8

end Sys2Proof.Machine
end

