-- ==== Sys2Proof/Machine/RegMap.lean ====
section
/-! DEFINITION. The register map of R491 as data: every register of the sixteen blocks with its fields, access codes (R9),
reset values and reserved encodings (R11), and the statistics counters (R118). One list per block. -/

namespace Sys2Proof.Machine

/-- The registers of block GEN. -/
def regMapGen : List Reg := [
  -- GEN_ID (R3)
  ⟨0x000000, [], [⟨31, 16, .ro, [2400], []⟩, ⟨15, 8, .ro, [10], []⟩, ⟨7, 0, .ro, [32], []⟩]⟩,
  -- GEN_STRAPS (R24)
  ⟨0x000004, [], [⟨8, 8, .ro, [0], []⟩, ⟨5, 4, .ro, [0], []⟩, ⟨3, 3, .ro, [0], []⟩, ⟨1, 0, .ro, [0], []⟩]⟩,
  -- GEN_HUB_ADDR (R25)
  ⟨0x000008, [], [⟨8, 0, (.locked .hubAddr), [510], [(257, 511)]⟩]⟩,
  -- GEN_SETUP (R493)
  ⟨0x00000C, [], [⟨15, 0, .w1c, [65535], []⟩]⟩,
  -- GEN_HUB_ID_LO (R493)
  ⟨0x000010, [], [⟨31, 0, .ro, [0], []⟩]⟩,
  -- GEN_HUB_ID_HI (R493)
  ⟨0x000014, [], [⟨27, 0, .ro, [0], []⟩]⟩,
  -- GEN_EVT_STATUS (R493)
  ⟨0x000018, [], [⟨31, 31, .w1c, [0], []⟩, ⟨27, 16, .ro, [0], []⟩, ⟨4, 0, .ro, [0], []⟩]⟩,
  -- GEN_DIE_TEMP (R493)
  ⟨0x00001C, [], [⟨15, 0, .ro, [0], []⟩]⟩,
  -- GEN_TBL_VIEW (R493)
  ⟨0x000020, [], [⟨1, 1, .rw, [0], []⟩, ⟨0, 0, .rw, [0], []⟩]⟩,
  -- GEN_BOOT_STATUS (R466)
  ⟨0x000100, [], [⟨31, 31, .ro, [0], []⟩, ⟨30, 30, .ro, [0], []⟩, ⟨29, 29, .ro, [0], []⟩, ⟨28, 28, .ro, [0], []⟩, ⟨27, 24, .ro, [0], []⟩, ⟨23, 20, .ro, [0], []⟩, ⟨19, 16, .ro, [0], []⟩]⟩,
  -- GEN_RESET (R465)
  ⟨0x000104, [], [⟨31, 16, .wo, [0], []⟩, ⟨7, 0, .wo, [0], []⟩]⟩,
  -- GEN_RESET_CAUSE (R466)
  ⟨0x000108, [], [⟨31, 28, .ro, [1], []⟩, ⟨27, 24, .ro, [0], []⟩, ⟨15, 0, .ro, [0], []⟩]⟩,
  -- GEN_DUMP_STATUS (R466)
  ⟨0x00010C, [], [⟨31, 30, .ro, [0], []⟩, ⟨29, 29, .ro, [0], []⟩, ⟨28, 28, .ro, [0], []⟩, ⟨27, 26, .ro, [0], []⟩, ⟨25, 22, .ro, [0], []⟩, ⟨17, 0, .ro, [0], []⟩]⟩,
  -- GEN_RD_WIN_SEL (R465)
  ⟨0x000110, [], [⟨31, 31, .rw, [0], []⟩, ⟨7, 0, .rw, [0], []⟩]⟩,
  -- GEN_DUMP_CTL (R465)
  ⟨0x000114, [], [⟨0, 0, .wo, [0], []⟩]⟩]

/-- The registers of block HIF. Log entry 175 (DESIGN CHOICE). -/
def regMapHif : List Reg := [
  -- HIF_STATUS (R245)
  ⟨0x010000, [], [⟨16, 16, .ro, [0], []⟩, ⟨15, 12, .ro, [0], []⟩, ⟨11, 7, .ro, [0], []⟩, ⟨6, 5, .ro, [0], []⟩, ⟨4, 4, .ro, [0], []⟩, ⟨3, 3, .ro, [0], []⟩, ⟨2, 2, .ro, [0], []⟩, ⟨0, 0, .ro, [0], []⟩]⟩,
  -- HIF_CTL (R244)
  ⟨0x010004, [], [⟨0, 0, .rw, [0], []⟩]⟩,
  -- HIF_DB_BASE_LO (R244)
  ⟨0x010008, [], [⟨31, 12, (.locked .dbBase), [0], []⟩]⟩,
  -- HIF_DB_BASE_HI (R244)
  ⟨0x01000C, [], [⟨31, 0, (.locked .dbBase), [0], []⟩]⟩,
  -- HIF_NUDGE (R244)
  ⟨0x010010, [], [⟨31, 31, .wo, [0], []⟩, ⟨9, 0, .wo, [0], []⟩]⟩,
  -- HIF_MGMT_TIMEOUT (R244)
  ⟨0x010014, [], [⟨15, 0, .rw, [1024], [(0, 63)]⟩]⟩,
  -- HIF_RELAY_CFG (R244)
  ⟨0x010018, [], [⟨11, 8, (.locked .atNode), [4], [(0, 0), (9, 15)]⟩, ⟨2, 0, (.locked .atNode), [0], []⟩]⟩,
  -- HIF_RING_BASE_LO (R244)
  ⟨0x011000, [(1024, 0x8)], [⟨31, 12, (.locked .ring), [0], []⟩]⟩,
  -- HIF_RING_BASE_HI (R244)
  ⟨0x011004, [(1024, 0x8)], [⟨31, 0, (.locked .ring), [0], []⟩]⟩,
  -- HIF_RING_CFG (R245)
  ⟨0x013000, [(1024, 0x4)], [⟨31, 31, .rw, [0], []⟩, ⟨30, 28, (.locked .ring), [0], [(6, 7)]⟩, ⟨27, 24, (.locked .ring), [0], [(13, 15)]⟩, ⟨23, 14, (.locked .ring), [0], []⟩, ⟨12, 0, (.locked .ring), [0], []⟩]⟩,
  -- HIF_RING_AUX (R245)
  ⟨0x014000, [(1024, 0x4)], [⟨31, 31, .rw, [0], []⟩, ⟨30, 20, (.locked .ring), [0], []⟩, ⟨19, 12, .rw, [0], []⟩, ⟨11, 0, .rw, [0], []⟩]⟩,
  -- HIF_RING_FILT (R245)
  ⟨0x015000, [(1024, 0x4)], [⟨31, 16, (.locked .ring), [65535], []⟩, ⟨15, 15, (.locked .ring), [1], []⟩, ⟨14, 14, (.locked .ring), [1], []⟩, ⟨2, 0, (.locked .ring), [0], []⟩]⟩,
  -- HIF_RING_STATUS (R245)
  ⟨0x016000, [(1024, 0x4)], [⟨31, 29, .ro, [0], []⟩, ⟨28, 25, .ro, [0], []⟩, ⟨15, 0, .ro, [0], []⟩]⟩,
  -- HIF_PBA (R216)
  ⟨0x017F00, [(64, 0x4)], [⟨31, 0, .ro, [0], []⟩]⟩,
  -- HIF_MSIX_ADDR_LO (R216)
  ⟨0x018000, [(2048, 0x10)], [⟨31, 0, (.locked .msix), [0], []⟩]⟩,
  -- HIF_MSIX_ADDR_HI (R216)
  ⟨0x018004, [(2048, 0x10)], [⟨31, 0, (.locked .msix), [0], []⟩]⟩,
  -- HIF_MSIX_DATA (R216)
  ⟨0x018008, [(2048, 0x10)], [⟨31, 0, (.locked .msix), [0], []⟩]⟩,
  -- HIF_MSIX_CTL (R216)
  ⟨0x01800C, [(2048, 0x10)], [⟨0, 0, (.locked .msix), [1], []⟩]⟩]

/-- The registers of block PLN. -/
def regMapPln : List Reg := [
  -- PLN_STATUS (R151)
  ⟨0x020000, [], [⟨19, 16, .ro, [0], []⟩, ⟨12, 12, .ro, [1], []⟩, ⟨11, 11, .ro, [0], []⟩, ⟨10, 10, .ro, [0], []⟩, ⟨9, 7, .ro, [0], []⟩, ⟨4, 4, .ro, [0], []⟩, ⟨3, 0, .ro, [0], []⟩]⟩,
  -- PLN_ACTIVE_EPOCH (R152)
  ⟨0x020004, [], [⟨31, 0, .ro, [0], []⟩]⟩,
  -- PLN_PEND_EPOCH (R152)
  ⟨0x020008, [], [⟨31, 0, .ro, [0], []⟩]⟩,
  -- PLN_ARM_TICK_LO (R152)
  ⟨0x02000C, [], [⟨31, 0, .ro, [0], []⟩]⟩,
  -- PLN_ARM_TICK_HI (R152)
  ⟨0x020010, [], [⟨31, 0, .ro, [0], []⟩]⟩,
  -- PLN_LAST_SWITCH_LO (R152)
  ⟨0x020014, [], [⟨31, 0, .ro, [0], []⟩]⟩,
  -- PLN_LAST_SWITCH_HI (R152)
  ⟨0x020018, [], [⟨31, 0, .ro, [0], []⟩]⟩,
  -- PLN_FAIL (R153)
  ⟨0x02001C, [], [⟨31, 24, .ro, [0], []⟩, ⟨23, 20, .ro, [0], []⟩, ⟨15, 0, .ro, [0], []⟩]⟩,
  -- PLN_SECTION_CRC (R152)
  ⟨0x020020, [], [⟨31, 0, .ro, [0], []⟩]⟩,
  -- PLN_CFG (R153)
  ⟨0x020024, [], [⟨0, 0, (.locked .sigReq), [0], []⟩]⟩]

/-- The registers of block TRK. -/
def regMapTrk : List Reg := [
  -- TRK_PORT_STATUS (R68)
  ⟨0x030000, [(2, 0x40)], [⟨23, 20, .ro, [0], []⟩, ⟨19, 16, .ro, [0], []⟩, ⟨12, 10, .ro, [0], []⟩, ⟨9, 8, .ro, [0], []⟩, ⟨6, 6, .ro, [0], []⟩, ⟨5, 5, .ro, [0], []⟩, ⟨4, 4, .ro, [0], []⟩, ⟨2, 0, .ro, [0], []⟩]⟩,
  -- TRK_PORT_CTL (R69)
  ⟨0x030004, [(2, 0x40)], [⟨1, 1, .wo, [0], []⟩, ⟨0, 0, .rw, [1], []⟩]⟩,
  -- TRK_LOOP_CTL (R70)
  ⟨0x030008, [(2, 0x40)], [⟨18, 16, (.locked .loopRun), [0], []⟩, ⟨15, 15, .wo, [0], []⟩, ⟨14, 14, .wo, [0], []⟩, ⟨10, 8, (.locked .loopRun), [0], [(4, 7)]⟩, ⟨6, 4, (.locked .loopRun), [0], []⟩, ⟨2, 0, (.locked .loopRun), [0], [(5, 7)]⟩]⟩,
  -- TRK_LOOP_STAT (R71)
  ⟨0x03000C, [(2, 0x40)], [⟨7, 4, .ro, [0], []⟩, ⟨0, 0, .ro, [0], []⟩]⟩,
  -- TRK_CABLE_ID (R72)
  ⟨0x030010, [(2, 0x40), (8, 0x4)], [⟨31, 0, .ro, [0], []⟩]⟩,
  -- TRK_PAIR_STATUS (R73)
  ⟨0x030100, [(16, 0x4)], [⟨18, 16, .ro, [0], []⟩, ⟨15, 13, .ro, [0, 1, 2, 3, 4, 5, 6, 7, 0, 1, 2, 3, 4, 5, 6, 7], []⟩, ⟨12, 11, .ro, [0], []⟩, ⟨10, 10, .ro, [0], []⟩, ⟨9, 9, .ro, [0], []⟩, ⟨8, 8, .ro, [1], []⟩, ⟨7, 7, .ro, [1], []⟩, ⟨6, 6, .ro, [0], []⟩, ⟨5, 3, .ro, [0], []⟩, ⟨2, 2, .ro, [0], []⟩, ⟨1, 0, .ro, [0], []⟩]⟩,
  -- TRK_RING_STATUS (R117)
  ⟨0x030200, [], [⟨28, 20, .ro, [0], []⟩, ⟨18, 16, .ro, [0], []⟩, ⟨8, 8, .ro, [0], []⟩, ⟨7, 7, .ro, [0], []⟩, ⟨6, 6, .ro, [0], []⟩, ⟨5, 5, .ro, [0], []⟩, ⟨4, 4, .ro, [0], []⟩, ⟨0, 0, .ro, [0], []⟩]⟩,
  -- TRK_RING_DETECT_LO (R117)
  ⟨0x030204, [], [⟨31, 0, .ro, [0], []⟩]⟩,
  -- TRK_RING_DETECT_HI (R117)
  ⟨0x030208, [], [⟨31, 0, .ro, [0], []⟩]⟩]

/-- The registers of block CPL. -/
def regMapCpl : List Reg := [
  -- CPL_STATUS (R179)
  ⟨0x040000, [], [⟨25, 16, .ro, [0], []⟩, ⟨1, 1, .ro, [0], []⟩, ⟨0, 0, .ro, [0], []⟩]⟩,
  -- CPL_GEN_SIZE (R178)
  ⟨0x040004, [], [⟨31, 0, .ro, [258048], []⟩]⟩,
  -- CPL_GEN_FREE (R178)
  ⟨0x040008, [], [⟨31, 0, .ro, [258048], []⟩]⟩,
  -- CPL_GEN_RESERVED (R178)
  ⟨0x04000C, [], [⟨31, 0, .ro, [256], []⟩]⟩,
  -- CPL_GEN_LOW (R178)
  ⟨0x040010, [], [⟨31, 0, .ro, [258048], []⟩]⟩,
  -- CPL_QSEL (R178)
  ⟨0x040014, [], [⟨12, 0, .rw, [0], []⟩]⟩,
  -- CPL_QSTAT_OCC (R178)
  ⟨0x040018, [], [⟨17, 0, .ro, [0], []⟩]⟩,
  -- CPL_QSTAT_PKTS (R178)
  ⟨0x04001C, [], [⟨17, 0, .ro, [0], []⟩]⟩,
  -- CPL_QSTAT_FLAGS (R179)
  ⟨0x040020, [], [⟨3, 3, .ro, [0], []⟩, ⟨2, 2, .ro, [0], []⟩, ⟨1, 1, .w1c, [0], []⟩, ⟨0, 0, .ro, [0], []⟩]⟩,
  -- CPL_QSTAT_GAP_PKTS (R178)
  ⟨0x040024, [], [⟨31, 0, .ro, [0], []⟩]⟩,
  -- CPL_QSTAT_GAP_CELLS (R178)
  ⟨0x040028, [], [⟨31, 0, .ro, [0], []⟩]⟩,
  -- CPL_QCTL (R178)
  ⟨0x04002C, [], [⟨0, 0, .wo, [0], []⟩]⟩,
  -- CPL_QRP_SEL (R179)
  ⟨0x040200, [(16, 0x10)], [⟨31, 31, .ro, [0], []⟩, ⟨30, 30, .ro, [0], []⟩, ⟨12, 0, .rw, [0], []⟩]⟩,
  -- CPL_QRP_DATA_LO (R178)
  ⟨0x040208, [(16, 0x10)], [⟨31, 0, .ro, [4294967295], []⟩]⟩,
  -- CPL_QRP_DATA_HI (R178)
  ⟨0x04020C, [(16, 0x10)], [⟨31, 0, .ro, [2147483647], []⟩]⟩,
  -- CPL_QPROF_MIN (R179)
  ⟨0x041000, [(256, 0x8)], [⟨17, 0, .rw, [0], []⟩]⟩,
  -- CPL_QPROF_MAX (R179)
  ⟨0x041004, [(256, 0x8)], [⟨17, 0, .rw, [0], []⟩]⟩,
  -- CPL_OVR (R178)
  ⟨0x042000, [(256, 0x4)], [⟨31, 0, .w1c, [0], []⟩]⟩,
  -- CPL_FULL (R178)
  ⟨0x042400, [(256, 0x4)], [⟨31, 0, .ro, [0], []⟩]⟩,
  -- CPL_QCFG (R180)
  ⟨0x048000, [(8192, 0x4)], [⟨31, 31, (.locked .qfix), [1, 1, 1, 1, 1, 1, 1, 1, 0, 0, 0, 0, 0, 0, 0, 0, 1, 1, 1, 1, 0], []⟩, ⟨30, 30, (.locked .qEn), [1, 1, 1, 1, 1, 1, 1, 1, 1, 1, 1, 1, 1, 1, 1, 1, 1, 1, 1, 1, 0], []⟩, ⟨29, 27, .ro, [1, 4, 1, 4, 1, 1, 4, 3, 0, 0, 0, 0, 0, 0, 0, 0, 3, 3, 3, 3, 0], []⟩, ⟨26, 24, .ro, [1, 1, 1, 1, 4, 4, 3, 4, 0, 0, 0, 0, 0, 0, 0, 0, 3, 3, 3, 3, 0], []⟩, ⟨23, 16, (.locked .qEn), [0], []⟩]⟩]

/-- The registers of block LTM. -/
def regMapLtm : List Reg := [
  -- LTM_STATUS (R210)
  ⟨0x050000, [], [⟨25, 17, .ro, [511], []⟩, ⟨16, 16, .ro, [0], []⟩, ⟨11, 8, .ro, [0], []⟩, ⟨5, 4, .ro, [0], []⟩, ⟨2, 0, .ro, [0], []⟩]⟩,
  -- LTM_NOW_LO (R209)
  ⟨0x050004, [], [⟨31, 0, .ro, [0], []⟩]⟩,
  -- LTM_NOW_HI (R209)
  ⟨0x050008, [], [⟨31, 0, .ro, [0], []⟩]⟩,
  -- LTM_NOW_FRAC (R209)
  ⟨0x05000C, [], [⟨15, 0, .ro, [0], []⟩]⟩,
  -- LTM_TICK_LO (R209)
  ⟨0x050010, [], [⟨31, 0, .ro, [0], []⟩]⟩,
  -- LTM_TICK_HI (R209)
  ⟨0x050014, [], [⟨31, 0, .ro, [0], []⟩]⟩,
  -- LTM_GM_CFG (R211)
  ⟨0x050018, [], [⟨31, 16, (.locked .atHead), [60], [(0, 0)]⟩, ⟨5, 4, (.locked .atHead), [0], []⟩, ⟨1, 0, (.locked .atHead), [3], [(0, 0)]⟩]⟩,
  -- LTM_ORIGIN_SEC_LO (R209)
  ⟨0x05001C, [], [⟨31, 0, (.locked .origin), [0], []⟩]⟩,
  -- LTM_ORIGIN_SEC_HI (R209)
  ⟨0x050020, [], [⟨15, 0, (.locked .origin), [0], []⟩]⟩,
  -- LTM_ORIGIN_NS (R209)
  ⟨0x050024, [], [⟨31, 31, (.locked .origin), [0], []⟩, ⟨29, 0, (.locked .origin), [0], []⟩]⟩,
  -- LTM_UTC (R209)
  ⟨0x050028, [], [⟨19, 19, (.locked .origin), [0], []⟩, ⟨18, 18, (.locked .origin), [0], []⟩, ⟨17, 17, (.locked .origin), [0], []⟩, ⟨16, 16, (.locked .origin), [0], []⟩, ⟨15, 0, (.locked .origin), [0], []⟩]⟩,
  -- LTM_CLOSURE (R209)
  ⟨0x05002C, [], [⟨31, 0, .ro, [0], []⟩]⟩,
  -- LTM_ASYM (R209)
  ⟨0x050030, [(2, 0x4)], [⟨31, 0, .rw, [0], []⟩]⟩,
  -- LTM_DELAY (R209)
  ⟨0x050038, [(2, 0x4)], [⟨31, 0, .ro, [0], []⟩]⟩,
  -- LTM_OFFSET (R209)
  ⟨0x050040, [(2, 0x4)], [⟨31, 0, .ro, [0], []⟩]⟩,
  -- LTM_RATE (R209)
  ⟨0x050048, [], [⟨31, 0, .ro, [0], []⟩]⟩,
  -- LTM_SRC_ERR (R209)
  ⟨0x05004C, [], [⟨31, 0, .ro, [0], []⟩]⟩,
  -- LTM_LAUNCH_STATUS (R209)
  ⟨0x050050, [], [⟨26, 16, .ro, [0], []⟩, ⟨10, 0, .ro, [0], []⟩]⟩,
  -- LTM_TIO_CFG (R196)
  ⟨0x050100, [(32, 0x4)], [⟨26, 16, .rw, [0], []⟩, ⟨15, 14, .rw, [0], []⟩, ⟨13, 12, .rw, [0], []⟩, ⟨11, 10, .rw, [0], []⟩, ⟨9, 9, .rw, [0], []⟩, ⟨8, 8, .rw, [0], []⟩, ⟨1, 0, .rw, [0], [(3, 3)]⟩]⟩,
  -- LTM_TIO_LEVEL (R209)
  ⟨0x050180, [], [⟨31, 0, .rw, [0], []⟩]⟩,
  -- LTM_TIO_IN (R209)
  ⟨0x050184, [], [⟨31, 0, .ro, [0], []⟩]⟩]

/-- The registers of block NET. -/
def regMapNet : List Reg := [
  -- NET_PTP_TSQ (R270)
  ⟨0x060000, [], [⟨31, 31, .rw, [0], []⟩, ⟨12, 0, .rw, [0], []⟩]⟩,
  -- NET_PORT_CFG (R271)
  ⟨0x060100, [(4, 0x100)], [⟨31, 31, .rw, [0], []⟩, ⟨30, 28, (.locked .selfEn), [0], [(7, 7)]⟩, ⟨27, 26, (.locked .selfEn), [0], []⟩, ⟨25, 25, (.locked .selfEn), [0], []⟩, ⟨18, 16, .rw, [0], []⟩, ⟨13, 0, .rw, [1522], [(0, 63), (9217, 16383)]⟩]⟩,
  -- NET_PORT_STATUS (R271)
  ⟨0x060104, [(4, 0x100)], [⟨6, 4, .ro, [0], []⟩, ⟨3, 3, .ro, [0], []⟩, ⟨2, 2, .ro, [0], []⟩, ⟨1, 1, .ro, [0], []⟩, ⟨0, 0, .ro, [0], []⟩]⟩,
  -- NET_PORT_DEF (R270)
  ⟨0x060108, [(4, 0x100)], [⟨31, 31, .rw, [0], []⟩, ⟨12, 0, .rw, [0], []⟩]⟩,
  -- NET_PORT_EGQ (R270)
  ⟨0x06010C, [(4, 0x100)], [⟨31, 31, .rw, [0], []⟩, ⟨12, 0, (.locked .selfEn), [0], []⟩]⟩,
  -- NET_PTP_CFG (R271)
  ⟨0x060110, [(4, 0x100)], [⟨31, 31, .rw, [0], []⟩, ⟨30, 30, .rw, [0], []⟩, ⟨29, 29, .rw, [0], []⟩, ⟨28, 28, .rw, [0], []⟩, ⟨27, 27, .rw, [0], []⟩, ⟨26, 24, (.locked .ptpRole), [0], [(5, 7)]⟩, ⟨23, 20, .rw, [0], [(1, 8)]⟩, ⟨15, 8, .rw, [0], []⟩, ⟨7, 0, .rw, [128], []⟩]⟩,
  -- NET_PORT_TSADJ (R270)
  ⟨0x060114, [(4, 0x100)], [⟨31, 0, .rw, [0], []⟩]⟩,
  -- NET_GL_CTL (R271)
  ⟨0x060118, [(4, 0x100)], [⟨31, 31, .rw, [0], []⟩, ⟨1, 1, .wo, [0], []⟩, ⟨0, 0, .wo, [0], []⟩]⟩,
  -- NET_GL_COUNT (R270)
  ⟨0x06011C, [(4, 0x100)], [⟨8, 0, .rw, [1], []⟩]⟩,
  -- NET_GL_START_LO (R270)
  ⟨0x060120, [(4, 0x100)], [⟨31, 0, .rw, [0], []⟩]⟩,
  -- NET_GL_START_HI (R270)
  ⟨0x060124, [(4, 0x100)], [⟨31, 0, .rw, [0], []⟩]⟩,
  -- NET_GL_STATUS (R271)
  ⟨0x060128, [(4, 0x100)], [⟨31, 31, .ro, [0], []⟩, ⟨30, 30, .ro, [0], []⟩, ⟨29, 28, .ro, [0], []⟩, ⟨15, 8, .ro, [0], []⟩]⟩,
  -- NET_GL_PEND_TICK_LO (R270)
  ⟨0x06012C, [(4, 0x100)], [⟨31, 0, .ro, [0], []⟩]⟩,
  -- NET_GL_PEND_TICK_HI (R270)
  ⟨0x060130, [(4, 0x100)], [⟨31, 0, .ro, [0], []⟩]⟩,
  -- NET_PORT_TCSHP (R270)
  ⟨0x060140, [(4, 0x100), (8, 0x4)], [⟨31, 31, .rw, [0], []⟩, ⟨9, 0, .rw, [0], []⟩]⟩,
  -- NET_PORT_RELQ (R270)
  ⟨0x060160, [(4, 0x100), (8, 0x4)], [⟨31, 31, .rw, [0], []⟩, ⟨12, 0, .rw, [0], []⟩]⟩,
  -- NET_GL_ADMIN_GATES (R270)
  ⟨0x061000, [(4, 0x800), (256, 0x8)], [⟨7, 0, .rw, [0], []⟩]⟩,
  -- NET_GL_ADMIN_INT (R270)
  ⟨0x061004, [(4, 0x800), (256, 0x8)], [⟨31, 0, .rw, [0], []⟩]⟩,
  -- NET_POL_SEL (R270)
  ⟨0x063000, [], [⟨9, 0, .rw, [0], []⟩]⟩,
  -- NET_SHP_CTL (R271)
  ⟨0x064000, [(1024, 0x10)], [⟨31, 31, .rw, [0], []⟩, ⟨7, 0, .rw, [0], [(64, 223)]⟩]⟩,
  -- NET_SHP_RATE (R271)
  ⟨0x064004, [(1024, 0x10)], [⟨31, 0, .rw, [0], []⟩]⟩,
  -- NET_SHP_BURST (R271)
  ⟨0x064008, [(1024, 0x10)], [⟨31, 0, .rw, [0], [(0, 0)]⟩]⟩,
  -- NET_SHP_BUCKET (R271)
  ⟨0x06400C, [(1024, 0x10)], [⟨31, 0, .ro, [0], []⟩]⟩,
  -- NET_POL_CTL (R271)
  ⟨0x068000, [(1024, 0x20)], [⟨31, 31, .rw, [0], []⟩, ⟨30, 30, .rw, [0], []⟩, ⟨29, 29, .rw, [0], []⟩, ⟨28, 28, .rw, [0], []⟩, ⟨15, 8, .rw, [0], []⟩, ⟨7, 0, .rw, [0], []⟩]⟩,
  -- NET_POL_CIR (R271)
  ⟨0x068004, [(1024, 0x20)], [⟨31, 0, .rw, [0], []⟩]⟩,
  -- NET_POL_CBS (R271)
  ⟨0x068008, [(1024, 0x20)], [⟨31, 0, .rw, [0], []⟩]⟩,
  -- NET_POL_PIR (R271)
  ⟨0x06800C, [(1024, 0x20)], [⟨31, 0, .rw, [0], []⟩]⟩,
  -- NET_POL_PBS (R271)
  ⟨0x068010, [(1024, 0x20)], [⟨31, 0, .rw, [0], []⟩]⟩,
  -- NET_POL_TC (R271)
  ⟨0x068014, [(1024, 0x20)], [⟨31, 0, .ro, [0], []⟩]⟩,
  -- NET_POL_TP (R271)
  ⟨0x068018, [(1024, 0x20)], [⟨31, 0, .ro, [0], []⟩]⟩]

/-- The registers of block BLK. -/
def regMapBlk : List Reg := [
  -- BLK_CFG (R285)
  ⟨0x070000, [], [⟨15, 0, .rw, [16000], [(0, 159)]⟩]⟩,
  -- BLK_STATUS (R285)
  ⟨0x070004, [], [⟨10, 0, .ro, [0], []⟩]⟩,
  -- BLK_PORT_CFG (R286)
  ⟨0x070100, [(2, 0x80)], [⟨31, 31, (.locked .blkHead), [0], []⟩, ⟨27, 24, (.locked .blkEn), [1], [(0, 0), (9, 15)]⟩, ⟨23, 20, (.locked .blkEn), [4], [(0, 3), (9, 15)]⟩, ⟨12, 0, (.locked .blkEn), [0], []⟩]⟩,
  -- BLK_PORT_TMO (R285)
  ⟨0x070104, [(2, 0x80)], [⟨15, 0, .rw, [5000], [(0, 9)]⟩]⟩,
  -- BLK_PORT_STATUS (R286)
  ⟨0x070108, [(2, 0x80)], [⟨15, 12, .ro, [0], []⟩, ⟨11, 8, .ro, [0], []⟩, ⟨7, 4, .ro, [0], []⟩, ⟨2, 0, .ro, [0], []⟩]⟩,
  -- BLK_PORT_INFLIGHT (R285)
  ⟨0x07010C, [(2, 0x80)], [⟨26, 16, .ro, [0], []⟩, ⟨10, 0, .ro, [0], []⟩]⟩,
  -- BLK_PORT_MDTS (R285)
  ⟨0x070110, [(2, 0x80)], [⟨31, 0, .ro, [0], []⟩]⟩,
  -- BLK_PORT_RINGCELLS (R285)
  ⟨0x070114, [(2, 0x80)], [⟨31, 0, .ro, [15], []⟩]⟩]

/-- The registers of block DSP. -/
def regMapDsp : List Reg := [
  -- DSP_HEAD_CFG (R308)
  ⟨0x080100, [(2, 0x100)], [⟨31, 31, .rw, [0], []⟩, ⟨30, 30, (.locked .selfEn), [0], []⟩, ⟨29, 27, (.locked .selfEn), [4], [(6, 7)]⟩, ⟨26, 25, (.locked .selfEn), [3], []⟩, ⟨24, 23, (.locked .selfEn), [2], [(3, 3)]⟩, ⟨12, 0, (.locked .selfEn), [0], []⟩]⟩,
  -- DSP_HEAD_STATUS (R308)
  ⟨0x080104, [(2, 0x100)], [⟨31, 29, .ro, [0], []⟩, ⟨28, 25, .ro, [0], []⟩, ⟨24, 24, .ro, [0], []⟩, ⟨23, 22, .ro, [0], []⟩, ⟨21, 20, .ro, [0], []⟩, ⟨12, 8, .ro, [0], []⟩, ⟨4, 0, .ro, [0], []⟩]⟩,
  -- DSP_H_TIMING (R307)
  ⟨0x080108, [(2, 0x100)], [⟨31, 16, (.locked .dsp), [0], []⟩, ⟨15, 0, (.locked .dsp), [0], []⟩]⟩,
  -- DSP_H_SYNC (R307)
  ⟨0x08010C, [(2, 0x100)], [⟨31, 31, (.locked .dsp), [0], []⟩, ⟨30, 16, (.locked .dsp), [0], []⟩, ⟨15, 0, (.locked .dsp), [0], []⟩]⟩,
  -- DSP_V_TIMING (R307)
  ⟨0x080110, [(2, 0x100)], [⟨31, 16, (.locked .dsp), [0], []⟩, ⟨15, 0, (.locked .dsp), [0], []⟩]⟩,
  -- DSP_V_SYNC (R307)
  ⟨0x080114, [(2, 0x100)], [⟨31, 31, (.locked .dsp), [0], []⟩, ⟨30, 16, (.locked .dsp), [0], []⟩, ⟨15, 0, (.locked .dsp), [0], []⟩]⟩,
  -- DSP_PCLK (R307)
  ⟨0x080118, [(2, 0x100)], [⟨18, 0, (.locked .dsp), [0], []⟩]⟩,
  -- DSP_FB (R307)
  ⟨0x08011C, [(2, 0x100)], [⟨9, 0, (.locked .dsp), [0], []⟩]⟩,
  -- DSP_STAGE (R307)
  ⟨0x080120, [(2, 0x100)], [⟨25, 16, (.locked .dsp), [0], []⟩, ⟨6, 0, (.locked .dsp), [0], []⟩]⟩,
  -- DSP_LOCK (R307)
  ⟨0x080124, [(2, 0x100)], [⟨31, 16, (.locked .dsp), [0], []⟩, ⟨15, 0, (.locked .dsp), [0], []⟩]⟩,
  -- DSP_FRZ_XY (R307)
  ⟨0x080128, [(2, 0x100)], [⟨31, 16, .rw, [0], []⟩, ⟨15, 0, .rw, [0], []⟩]⟩,
  -- DSP_FRZ_WH (R307)
  ⟨0x08012C, [(2, 0x100)], [⟨31, 16, .rw, [0], []⟩, ⟨15, 0, .rw, [0], []⟩]⟩,
  -- DSP_FRZ_CFG (R307)
  ⟨0x080130, [(2, 0x100)], [⟨31, 31, .rw, [0], []⟩, ⟨30, 30, .rw, [0], []⟩, ⟨7, 0, .rw, [0], [(0, 0)]⟩]⟩,
  -- DSP_FRZ_SIG (R307)
  ⟨0x080134, [(2, 0x100)], [⟨31, 0, .ro, [0], []⟩]⟩,
  -- DSP_FRZ_STATUS (R307)
  ⟨0x080138, [(2, 0x100)], [⟨31, 31, .ro, [0], []⟩, ⟨7, 0, .ro, [0], []⟩]⟩,
  -- DSP_FRAME_LO (R307)
  ⟨0x08013C, [(2, 0x100)], [⟨31, 0, .ro, [0], []⟩]⟩,
  -- DSP_FRAME_HI (R307)
  ⟨0x080140, [(2, 0x100)], [⟨31, 0, .ro, [0], []⟩]⟩,
  -- DSP_VB_TIME_LO (R307)
  ⟨0x080144, [(2, 0x100)], [⟨31, 0, .ro, [0], []⟩]⟩,
  -- DSP_VB_TIME_HI (R307)
  ⟨0x080148, [(2, 0x100)], [⟨31, 0, .ro, [0], []⟩]⟩,
  -- DSP_SINK (R307)
  ⟨0x08014C, [(2, 0x100)], [⟨31, 31, .ro, [0], []⟩, ⟨18, 16, .ro, [0], []⟩, ⟨15, 8, .ro, [0], []⟩, ⟨4, 0, .ro, [0], []⟩]⟩,
  -- DSP_STAGE_USED (R307)
  ⟨0x080150, [(2, 0x100)], [⟨31, 0, .ro, [0], []⟩]⟩,
  -- DSP_EDID (R307)
  ⟨0x081000, [(2, 0x200), (128, 0x4)], [⟨31, 0, .ro, [0], []⟩]⟩,
  -- DSP_DPCD (R307)
  ⟨0x081400, [(2, 0x10), (4, 0x4)], [⟨31, 0, .ro, [0], []⟩]⟩]

/-- The registers of block FBR. -/
def regMapFbr : List Reg := [
  -- FBR_STATUS (R336)
  ⟨0x090000, [], [⟨24, 16, .ro, [0], []⟩, ⟨8, 0, .ro, [0], []⟩]⟩,
  -- FBR_WIN_CLEAR (R336)
  ⟨0x090004, [], [⟨5, 0, .wo, [0], []⟩]⟩,
  -- FBR_POISON_LO (R336)
  ⟨0x090008, [], [⟨31, 0, .ro, [0], []⟩]⟩,
  -- FBR_POISON_HI (R336)
  ⟨0x09000C, [], [⟨31, 0, .ro, [0], []⟩]⟩,
  -- FBR_ZINT_CFG (R336)
  ⟨0x090010, [], [⟨7, 4, .rw, [0], []⟩, ⟨3, 0, .rw, [0], []⟩]⟩,
  -- FBR_ZINT_LEVEL (R336)
  ⟨0x090014, [], [⟨3, 0, .ro, [0], []⟩]⟩,
  -- FBR_ZCS_CFG (R337)
  ⟨0x090020, [(4, 0x4)], [⟨31, 31, .rw, [0], []⟩, ⟨30, 30, .rw, [0], []⟩, ⟨29, 26, .rw, [0], []⟩, ⟨25, 23, .rw, [1], [(0, 0)]⟩, ⟨11, 0, .rw, [250], [(0, 15)]⟩]⟩,
  -- FBR_ZCS_POLL (R336)
  ⟨0x090030, [(4, 0x4)], [⟨31, 2, .rw, [0], []⟩]⟩,
  -- FBR_WIN_CFG (R337)
  ⟨0x090100, [(64, 0x10)], [⟨31, 31, .rw, [0], []⟩, ⟨30, 30, (.locked .selfEn), [0], []⟩, ⟨29, 29, (.locked .selfEn), [0], []⟩, ⟨28, 28, (.locked .selfEn), [0], []⟩, ⟨27, 26, (.locked .selfEn), [0], []⟩, ⟨25, 21, (.locked .selfEn), [8], [(0, 7), (27, 31)]⟩, ⟨20, 18, (.locked .selfEn), [0], [(5, 7)]⟩]⟩,
  -- FBR_WIN_ZBASE (R336)
  ⟨0x090104, [(64, 0x10)], [⟨31, 0, (.locked .winEn), [0], []⟩]⟩,
  -- FBR_WIN_NPLO (R336)
  ⟨0x090108, [(64, 0x10)], [⟨25, 0, (.locked .winEn), [0], []⟩]⟩,
  -- FBR_WIN_NPHI (R336)
  ⟨0x09010C, [(64, 0x10)], [⟨26, 0, (.locked .winEn), [67108864], []⟩]⟩,
  -- FBR_CAN_CFG (R337)
  ⟨0x091000, [(4, 0x20)], [⟨31, 31, .rw, [0], []⟩, ⟨30, 30, (.locked .selfEn), [0], []⟩, ⟨29, 29, (.locked .selfEn), [0], []⟩, ⟨28, 28, .rw, [1], []⟩, ⟨27, 27, (.locked .selfEn), [0], []⟩, ⟨26, 26, (.locked .selfEn), [0], []⟩, ⟨23, 16, (.locked .selfEn), [0], []⟩, ⟨13, 13, (.locked .selfEn), [0], []⟩, ⟨12, 0, (.locked .selfEn), [0], []⟩]⟩,
  -- FBR_CAN_NBT (R336)
  ⟨0x091004, [(4, 0x20)], [⟨31, 27, (.locked .canEn), [0], []⟩, ⟨26, 19, (.locked .canEn), [0], []⟩, ⟨18, 12, (.locked .canEn), [0], []⟩, ⟨11, 5, (.locked .canEn), [0], []⟩]⟩,
  -- FBR_CAN_DBT (R336)
  ⟨0x091008, [(4, 0x20)], [⟨31, 27, (.locked .canEn), [0], []⟩, ⟨20, 16, (.locked .canEn), [0], []⟩, ⟨11, 8, (.locked .canEn), [0], []⟩, ⟨3, 0, (.locked .canEn), [0], []⟩]⟩,
  -- FBR_CAN_STATUS (R336)
  ⟨0x09100C, [(4, 0x20)], [⟨31, 24, .ro, [0], []⟩, ⟨23, 16, .ro, [0], []⟩, ⟨15, 14, .ro, [0], []⟩]⟩,
  -- FBR_CAN_TXREQ_LO (R336)
  ⟨0x091010, [(4, 0x20)], [⟨31, 0, .w1s, [0], []⟩]⟩,
  -- FBR_CAN_TXREQ_HI (R336)
  ⟨0x091014, [(4, 0x20)], [⟨31, 0, .w1s, [0], []⟩]⟩,
  -- FBR_MB_CFG (R338)
  ⟨0x092000, [(4, 0x2000), (64, 0x80)], [⟨31, 31, .rw, [0], []⟩, ⟨30, 30, .rw, [0], []⟩, ⟨29, 29, .rw, [0], []⟩, ⟨28, 0, .rw, [0], []⟩]⟩,
  -- FBR_MB_CTL (R338)
  ⟨0x092004, [(4, 0x2000), (64, 0x80)], [⟨31, 31, .rw, [0], []⟩, ⟨30, 30, .rw, [0], []⟩, ⟨29, 29, .rw, [0], []⟩, ⟨28, 28, .rw, [0], []⟩, ⟨19, 16, .rw, [0], []⟩]⟩,
  -- FBR_MB_MASK (R338)
  ⟨0x092008, [(4, 0x2000), (64, 0x80)], [⟨28, 0, .rw, [0], []⟩]⟩,
  -- FBR_MB_STAT (R338)
  ⟨0x09200C, [(4, 0x2000), (64, 0x80)], [⟨31, 31, .ro, [0], []⟩, ⟨30, 30, .ro, [0], []⟩, ⟨29, 29, .w1c, [0], []⟩, ⟨28, 28, .w1c, [0], []⟩]⟩,
  -- FBR_MB_TIME_LO (R338)
  ⟨0x092010, [(4, 0x2000), (64, 0x80)], [⟨31, 0, .ro, [0], []⟩]⟩,
  -- FBR_MB_TIME_HI (R338)
  ⟨0x092014, [(4, 0x2000), (64, 0x80)], [⟨31, 0, .ro, [0], []⟩]⟩,
  -- FBR_MB_DATA (R338)
  ⟨0x092020, [(4, 0x2000), (64, 0x80), (16, 0x4)], [⟨31, 0, .rw, [0], []⟩]⟩]

/-- The registers of block USB. -/
def regMapUsb : List Reg := [
  -- USB_CFG (R374)
  ⟨0x0A0000, [], [⟨31, 31, .rw, [1], []⟩, ⟨15, 0, .rw, [900], [(0, 59)]⟩]⟩,
  -- USB_STATUS (R374)
  ⟨0x0A0004, [], [⟨31, 30, .ro, [0], []⟩, ⟨29, 28, .ro, [0], []⟩, ⟨27, 27, .ro, [0], []⟩, ⟨26, 26, .ro, [0], []⟩, ⟨25, 24, .ro, [0], []⟩, ⟨10, 0, .ro, [0], []⟩]⟩,
  -- USB_SOF_LO (R374)
  ⟨0x0A0008, [], [⟨31, 0, .ro, [0], []⟩]⟩,
  -- USB_SOF_HI (R374)
  ⟨0x0A000C, [], [⟨31, 0, .ro, [0], []⟩]⟩,
  -- USB_PORT_STATUS (R374)
  ⟨0x0A0010, [(5, 0x4)], [⟨5, 5, .ro, [0], []⟩, ⟨4, 4, .ro, [0], []⟩, ⟨3, 2, .ro, [0], []⟩, ⟨1, 1, .ro, [0], []⟩, ⟨0, 0, .ro, [0], []⟩]⟩]

/-- The registers of block TCP. -/
def regMapTcp : List Reg := [
  -- TCP_BUDGET (R372)
  ⟨0x0B0000, [], [⟨11, 0, .rw, [600], [(4001, 4095)]⟩]⟩,
  -- TCP_STATUS (R372)
  ⟨0x0B0004, [], [⟨11, 0, .ro, [0], []⟩]⟩,
  -- TCP_S_STATUS (R372)
  ⟨0x0B0080, [], [⟨2, 2, .ro, [0], []⟩, ⟨1, 1, .ro, [0], []⟩, ⟨0, 0, .ro, [0], []⟩]⟩,
  -- TCP_PORT_CFG (R373)
  ⟨0x0B0100, [(4, 0x40)], [⟨31, 31, .rw, [0], []⟩, ⟨30, 30, .rw, [0], []⟩, ⟨29, 28, .rw, [0], []⟩, ⟨27, 27, .rw, [0], []⟩, ⟨26, 26, .rw, [0], []⟩, ⟨6, 0, .rw, [0], [(0, 14), (101, 127)]⟩]⟩,
  -- TCP_PORT_CTL (R373)
  ⟨0x0B0104, [(4, 0x40)], [⟨3, 3, .wo, [0], []⟩, ⟨2, 2, .wo, [0], []⟩, ⟨1, 1, .wo, [0], []⟩, ⟨0, 0, .wo, [0], []⟩]⟩,
  -- TCP_PORT_STATUS (R373)
  ⟨0x0B0108, [(4, 0x40)], [⟨31, 29, .ro, [0], []⟩, ⟨28, 28, .ro, [0], []⟩, ⟨27, 27, .ro, [0], []⟩, ⟨26, 26, .ro, [0], []⟩, ⟨25, 25, .ro, [0], []⟩, ⟨24, 24, .ro, [0], []⟩, ⟨23, 22, .ro, [0], []⟩, ⟨21, 21, .ro, [0], []⟩, ⟨20, 20, .ro, [0], []⟩, ⟨19, 17, .ro, [0], []⟩, ⟨16, 15, .ro, [0], []⟩, ⟨14, 14, .ro, [0], []⟩, ⟨13, 13, .ro, [0], []⟩]⟩,
  -- TCP_PORT_CONTRACT (R372)
  ⟨0x0B010C, [(4, 0x40)], [⟨29, 20, .ro, [0], []⟩, ⟨19, 10, .ro, [0], []⟩, ⟨9, 0, .ro, [0], []⟩]⟩,
  -- TCP_PORT_GRANT (R372)
  ⟨0x0B0110, [(4, 0x40)], [⟨11, 0, .ro, [0], []⟩]⟩]

/-- The registers of block LPW. -/
def regMapLpw : List Reg := [
  -- LPW_STATUS (R398)
  ⟨0x0C0000, [], [⟨29, 24, .ro, [0], []⟩, ⟨23, 18, .ro, [0], []⟩, ⟨15, 0, .ro, [0], []⟩]⟩,
  -- LPW_CH_CFG (R399)
  ⟨0x0C0100, [(8, 0x80)], [⟨31, 31, .rw, [1, 1, 0, 0, 0, 0, 1, 0], []⟩, ⟨30, 28, (.locked .lpwMode), [3, 3, 1, 1, 1, 1, 2, 1], [(4, 7)]⟩, ⟨27, 27, (.locked .lpwMode), [0], []⟩, ⟨26, 26, (.locked .lpwMode), [0], []⟩]⟩,
  -- LPW_CH_CTL (R398)
  ⟨0x0C0104, [(8, 0x80)], [⟨0, 0, .wo, [0], []⟩]⟩,
  -- LPW_CH_STATUS (R399)
  ⟨0x0C0108, [(8, 0x80)], [⟨31, 28, .ro, [0], []⟩, ⟨27, 24, .ro, [0], []⟩, ⟨23, 20, .ro, [0], []⟩, ⟨19, 19, .ro, [0], []⟩, ⟨18, 18, .ro, [0], []⟩, ⟨17, 17, .ro, [0], []⟩, ⟨16, 16, .ro, [0], []⟩, ⟨15, 0, .ro, [0], []⟩]⟩,
  -- LPW_CH_WIN (R398)
  ⟨0x0C010C, [(8, 0x80)], [⟨31, 16, (.locked .lpwWin), [5800, 5800, 0, 0, 0, 0, 5800, 2640], []⟩, ⟨15, 0, (.locked .lpwWin), [3400, 3400, 0, 0, 0, 0, 3400, 2160], []⟩]⟩,
  -- LPW_CH_ILIM (R398)
  ⟨0x0C0110, [(8, 0x80)], [⟨31, 16, .rw, [200, 200, 100, 100, 100, 100, 200, 100], []⟩, ⟨15, 0, .rw, [800, 800, 300, 300, 300, 300, 1000, 300], []⟩]⟩,
  -- LPW_CH_TINS (R398)
  ⟨0x0C0114, [(8, 0x80)], [⟨31, 16, .rw, [200], []⟩, ⟨15, 0, .rw, [200, 200, 0, 0, 0, 0, 200, 0], []⟩]⟩,
  -- LPW_CH_TFLT (R398)
  ⟨0x0C0118, [(8, 0x80)], [⟨31, 16, .rw, [100], []⟩, ⟨15, 0, .rw, [200], []⟩]⟩,
  -- LPW_CH_RAMP (R398)
  ⟨0x0C011C, [(8, 0x80)], [⟨31, 16, .rw, [200, 200, 200, 200, 200, 200, 200, 0], []⟩, ⟨15, 0, .rw, [250, 250, 100, 100, 100, 100, 250, 250], []⟩]⟩,
  -- LPW_CH_FET0 (R398)
  ⟨0x0C0120, [(8, 0x80)], [⟨31, 16, .rw, [16], []⟩, ⟨15, 0, .rw, [1000], []⟩]⟩,
  -- LPW_CH_FET1 (R398)
  ⟨0x0C0124, [(8, 0x80)], [⟨31, 24, .rw, [150], []⟩, ⟨23, 12, .rw, [800], []⟩, ⟨11, 0, .rw, [200], []⟩]⟩,
  -- LPW_CH_I (R398)
  ⟨0x0C0140, [(8, 0x80)], [⟨31, 0, .ro, [0], []⟩]⟩,
  -- LPW_CH_VO (R398)
  ⟨0x0C0144, [(8, 0x80)], [⟨31, 0, .ro, [0], []⟩]⟩,
  -- LPW_CH_VI (R398)
  ⟨0x0C0148, [(8, 0x80)], [⟨31, 0, .ro, [0], []⟩]⟩,
  -- LPW_CH_P (R398)
  ⟨0x0C014C, [(8, 0x80)], [⟨31, 0, .ro, [0], []⟩]⟩,
  -- LPW_CH_E_LO (R398)
  ⟨0x0C0150, [(8, 0x80)], [⟨31, 0, .ro, [0], []⟩]⟩,
  -- LPW_CH_E_HI (R398)
  ⟨0x0C0154, [(8, 0x80)], [⟨31, 0, .ro, [0], []⟩]⟩,
  -- LPW_CH_TFET (R398)
  ⟨0x0C0158, [(8, 0x80)], [⟨16, 16, .ro, [0], []⟩, ⟨15, 0, .ro, [0], []⟩]⟩,
  -- LPW_CH_IPEAK (R398)
  ⟨0x0C015C, [(8, 0x80)], [⟨31, 0, .ro, [0], []⟩]⟩,
  -- LPW_GNT_I (R398)
  ⟨0x0C1000, [(8, 0x40), (8, 0x8)], [⟨15, 0, .rw, [0], []⟩]⟩,
  -- LPW_GNT_T (R398)
  ⟨0x0C1004, [(8, 0x40), (8, 0x8)], [⟨31, 0, .rw, [0], []⟩]⟩]

/-- The registers of block PWR. -/
def regMapPwr : List Reg := [
  -- PWR_STATUS (R418)
  ⟨0x0D0000, [], [⟨15, 8, .ro, [0], []⟩, ⟨0, 0, .ro, [0], []⟩]⟩,
  -- PWR_CTL (R418)
  ⟨0x0D0004, [], [⟨31, 16, .rw, [0], [(0, 0)]⟩, ⟨0, 0, .rw, [0], []⟩]⟩,
  -- PWR_FAILED (R417)
  ⟨0x0D0008, [], [⟨23, 0, .ro, [0], []⟩]⟩,
  -- PWR_AT_L0 (R417)
  ⟨0x0D000C, [], [⟨23, 0, .ro, [16777215], []⟩]⟩,
  -- PWR_DOM_MODE (R418)
  ⟨0x0D0100, [(24, 0x4)], [⟨8, 8, .ro, [0], []⟩, ⟨2, 0, .rw, [0], [(5, 7)]⟩]⟩,
  -- PWR_DOM_STATUS (R418)
  ⟨0x0D0200, [(24, 0x4)], [⟨31, 29, .ro, [0], []⟩, ⟨28, 26, .ro, [0], []⟩, ⟨25, 23, .ro, [0], []⟩, ⟨22, 20, .ro, [0], []⟩, ⟨19, 16, .ro, [0], []⟩, ⟨15, 8, .ro, [0], []⟩]⟩,
  -- PWR_DOM_CTL (R417)
  ⟨0x0D0300, [(24, 0x4)], [⟨0, 0, .wo, [0], []⟩]⟩,
  -- PWR_WAKE_REC_0 (R415)
  ⟨0x0D0400, [(24, 0x8)], [⟨31, 0, .ro, [0], []⟩]⟩,
  -- PWR_WAKE_REC_1 (R415)
  ⟨0x0D0404, [(24, 0x8)], [⟨31, 31, .ro, [0], []⟩, ⟨30, 27, .ro, [0], []⟩, ⟨26, 24, .ro, [0], []⟩, ⟨23, 16, .ro, [0], []⟩, ⟨15, 0, .ro, [0], []⟩]⟩,
  -- PWR_REFUSE (R416)
  ⟨0x0D0600, [(24, 0x4)], [⟨31, 24, .ro, [0], []⟩, ⟨23, 21, .ro, [0], []⟩, ⟨20, 20, .ro, [0], []⟩, ⟨15, 0, .ro, [0], []⟩]⟩]

/-- The registers of block REL. Log entry 175 (DESIGN CHOICE). -/
def regMapRel : List Reg := [
  -- REL_STATUS (R440)
  ⟨0x0E0000, [], [⟨26, 24, .ro, [0], []⟩, ⟨12, 8, .ro, [0], []⟩, ⟨2, 0, .ro, [0], []⟩]⟩,
  -- REL_CFG (R440)
  ⟨0x0E0004, [], [⟨31, 24, .rw, [16], [(0, 0), (64, 255)]⟩, ⟨23, 16, .rw, [24], [(0, 3), (129, 255)]⟩, ⟨15, 8, .rw, [16], [(0, 0)]⟩, ⟨7, 0, .rw, [24], [(0, 0)]⟩]⟩,
  -- REL_CFG2 (R440)
  ⟨0x0E0008, [], [⟨31, 16, .rw, [16000], [(0, 15)]⟩, ⟨15, 0, .rw, [1000], []⟩]⟩,
  -- REL_AVS (R439)
  ⟨0x0E000C, [], [⟨31, 16, .ro, [750], []⟩, ⟨15, 0, .ro, [750], []⟩]⟩,
  -- REL_ASSIST (R439)
  ⟨0x0E0010, [], [⟨31, 0, .ro, [0], []⟩]⟩,
  -- REL_ASSIST_STAGED (R439)
  ⟨0x0E0014, [], [⟨31, 0, .ro, [0], []⟩]⟩,
  -- REL_FLIP_LO (R439)
  ⟨0x0E0020, [], [⟨31, 0, (.locked .flip), [0], []⟩]⟩,
  -- REL_FLIP_MID (R439)
  ⟨0x0E0024, [], [⟨31, 0, (.locked .flip), [0], []⟩]⟩,
  -- REL_FLIP_HI (R439)
  ⟨0x0E0028, [], [⟨7, 0, (.locked .flip), [0], []⟩]⟩,
  -- REL_FLIP_CTL (R439)
  ⟨0x0E002C, [], [⟨31, 31, (.locked .flipArm), [0], []⟩, ⟨3, 0, .rw, [0], []⟩]⟩,
  -- REL_ECC_LOG_CLR (R439)
  ⟨0x0E0030, [], [⟨0, 0, .wo, [0], []⟩]⟩,
  -- REL_ECC_LOG_0 (R440)
  ⟨0x0E0040, [(16, 0x10)], [⟨31, 31, .ro, [0], []⟩, ⟨30, 30, .ro, [0], []⟩, ⟨29, 26, .ro, [0], []⟩, ⟨22, 0, .ro, [0], []⟩]⟩,
  -- REL_ECC_LOG_1 (R440)
  ⟨0x0E0044, [(16, 0x10)], [⟨31, 24, .ro, [0], []⟩, ⟨15, 0, .ro, [0], []⟩]⟩,
  -- REL_ECC_LOG_2 (R440)
  ⟨0x0E0048, [(16, 0x10)], [⟨31, 0, .ro, [0], []⟩]⟩,
  -- REL_ECC_LOG_3 (R440)
  ⟨0x0E004C, [(16, 0x10)], [⟨31, 0, .ro, [0], []⟩]⟩,
  -- REL_MAINT_REQ (R440)
  ⟨0x0E0200, [], [⟨31, 31, .wo, [0], []⟩, ⟨30, 27, .rw, [0], []⟩, ⟨26, 19, .rw, [0], []⟩, ⟨17, 0, .rw, [0], []⟩]⟩,
  -- REL_MAINT_RESULT (R440)
  ⟨0x0E0204, [], [⟨31, 28, .ro, [0], []⟩, ⟨27, 20, .ro, [0], []⟩, ⟨19, 19, .ro, [0], []⟩, ⟨15, 0, .ro, [0], []⟩]⟩,
  -- REL_MAINT_STOP (R439)
  ⟨0x0E0208, [], [⟨15, 0, .wo, [0], []⟩]⟩,
  -- REL_MAINT_STAT_0 (R440)
  ⟨0x0E0210, [(4, 0x10)], [⟨31, 16, .ro, [0], []⟩, ⟨15, 12, .ro, [0], []⟩, ⟨11, 8, .ro, [0], []⟩]⟩,
  -- REL_MAINT_STAT_1 (R440)
  ⟨0x0E0214, [(4, 0x10)], [⟨31, 0, .ro, [0], []⟩]⟩,
  -- REL_MAINT_STAT_2 (R440)
  ⟨0x0E0218, [(4, 0x10)], [⟨31, 0, .ro, [0], []⟩]⟩,
  -- REL_MAINT_STAT_3 (R440)
  ⟨0x0E021C, [(4, 0x10)], [⟨31, 0, .ro, [0], []⟩]⟩,
  -- REL_RO (R439)
  ⟨0x0E0300, [(48, 0x4)], [⟨31, 16, .ro, [0], []⟩, ⟨15, 8, .ro, [0], []⟩, ⟨7, 7, .ro, [0], []⟩, ⟨6, 0, .ro, [0], []⟩]⟩,
  -- REL_MARGIN (R439)
  ⟨0x0E0400, [(16, 0x4)], [⟨31, 24, .ro, [0], []⟩, ⟨23, 16, .ro, [0], []⟩, ⟨15, 8, .ro, [0], []⟩, ⟨7, 7, .ro, [0], []⟩, ⟨6, 0, .ro, [0], []⟩]⟩,
  -- REL_LM_STATUS (R439)
  ⟨0x0E0440, [(4, 0x4)], [⟨31, 24, .ro, [0], []⟩, ⟨23, 16, .ro, [0], []⟩, ⟨15, 0, .ro, [0], []⟩]⟩,
  -- REL_FET_HIST (R439)
  ⟨0x0E0500, [(8, 0x20), (8, 0x4)], [⟨31, 0, .ro, [0], []⟩]⟩]

/-- The registers of block SEC. -/
def regMapSec : List Reg := [
  -- SEC_LC (R465)
  ⟨0x0F0000, [], [⟨2, 0, .ro, [0], []⟩]⟩,
  -- SEC_LC_CTL (R465)
  ⟨0x0F0004, [], [⟨31, 16, .wo, [0], []⟩, ⟨2, 0, .wo, [0], []⟩]⟩,
  -- SEC_BOOT (R466)
  ⟨0x0F0008, [], [⟨31, 24, .ro, [0], []⟩, ⟨23, 16, .ro, [0], []⟩, ⟨15, 15, .ro, [0], []⟩]⟩,
  -- SEC_BOOT_CTL (R465)
  ⟨0x0F000C, [], [⟨2, 2, .wo, [0], []⟩, ⟨1, 1, .wo, [0], []⟩, ⟨0, 0, .wo, [0], []⟩]⟩,
  -- SEC_KHASH_CTL (R465)
  ⟨0x0F0010, [], [⟨31, 31, .wo, [0], []⟩, ⟨30, 30, .wo, [0], []⟩, ⟨6, 4, .wo, [0], []⟩, ⟨1, 0, .wo, [0], []⟩]⟩,
  -- SEC_FW_VERSION (R465)
  ⟨0x0F0014, [], [⟨31, 0, .ro, [0], []⟩]⟩,
  -- SEC_KHASH (R465)
  ⟨0x0F0020, [(8, 0x4)], [⟨31, 0, .rw, [0], []⟩]⟩,
  -- SEC_KEY_CTL (R465)
  ⟨0x0F0040, [], [⟨31, 31, .wo, [0], []⟩, ⟨30, 30, .wo, [0], []⟩, ⟨25, 24, .wo, [0], []⟩, ⟨18, 16, .wo, [0], []⟩, ⟨9, 8, .wo, [0], []⟩, ⟨2, 0, .wo, [0], []⟩]⟩,
  -- SEC_KEY_STATUS (R465)
  ⟨0x0F0044, [], [⟨31, 0, .ro, [0], []⟩]⟩,
  -- SEC_KEY_TX (R465)
  ⟨0x0F0048, [], [⟨2, 0, .rw, [0], []⟩]⟩,
  -- SEC_KEY_BLOB (R465)
  ⟨0x0F0080, [(18, 0x4)], [⟨31, 0, .wok, [0], []⟩]⟩,
  -- SEC_DBG_CTL (R466)
  ⟨0x0F0100, [], [⟨31, 31, .wo, [0], []⟩, ⟨30, 30, .wo, [0], []⟩, ⟨29, 29, .wo, [0], []⟩, ⟨28, 28, .ro, [0], []⟩, ⟨9, 8, .rw, [0], []⟩, ⟨7, 0, .rw, [0], []⟩]⟩,
  -- SEC_DBG_CHAL (R465)
  ⟨0x0F0120, [(8, 0x4)], [⟨31, 0, .ro, [0], []⟩]⟩,
  -- SEC_DBG_KEY (R465)
  ⟨0x0F0140, [(16, 0x4)], [⟨31, 0, .wok, [0], []⟩]⟩,
  -- SEC_DBG_RESP (R465)
  ⟨0x0F0180, [(16, 0x4)], [⟨31, 0, .wok, [0], []⟩]⟩,
  -- SEC_FLASH_ADDR (R465)
  ⟨0x0F0200, [], [⟨31, 0, .rw, [0], []⟩]⟩,
  -- SEC_FLASH_CMD (R466)
  ⟨0x0F0204, [], [⟨31, 31, .ro, [0], []⟩, ⟨30, 28, .ro, [0], []⟩, ⟨1, 0, .wo, [0], []⟩]⟩,
  -- SEC_FLASH_DATA (R465)
  ⟨0x0F0400, [(64, 0x4)], [⟨31, 0, .rw, [0], []⟩]⟩]

/-- The register list of the block with index `b` (R8). -/
def regMapOf (b : Nat) : List Reg :=
  match b with
  | 0 => regMapGen
  | 1 => regMapHif
  | 2 => regMapPln
  | 3 => regMapTrk
  | 4 => regMapCpl
  | 5 => regMapLtm
  | 6 => regMapNet
  | 7 => regMapBlk
  | 8 => regMapDsp
  | 9 => regMapFbr
  | 10 => regMapUsb
  | 11 => regMapTcp
  | 12 => regMapLpw
  | 13 => regMapPwr
  | 14 => regMapRel
  | 15 => regMapSec
  | _ => []

/-- The statistics counters: offset of the LO word, and dimensions. -/
def cntMapGen : List (Nat × List (Nat × Nat)) := [(0x000200, []),
  (0x000208, []),
  (0x000210, [])]
def cntMapHif : List (Nat × List (Nat × Nat)) := [(0x010100, []),
  (0x010108, []),
  (0x010110, []),
  (0x010118, []),
  (0x010120, []),
  (0x010128, []),
  (0x010130, []),
  (0x010138, [])]
def cntMapPln : List (Nat × List (Nat × Nat)) := [(0x020100, []),
  (0x020108, []),
  (0x020110, []),
  (0x020118, [])]
def cntMapTrk : List (Nat × List (Nat × Nat)) := [(0x030030, [(2, 0x40)]),
  (0x030400, [(16, 0x40)]),
  (0x030408, [(16, 0x40)]),
  (0x030410, [(16, 0x40)]),
  (0x030418, [(16, 0x40)]),
  (0x030420, [(16, 0x40)]),
  (0x030428, [(16, 0x40)]),
  (0x030430, [(16, 0x40)]),
  (0x030438, [(16, 0x40)]),
  (0x030800, [(2, 0x40)]),
  (0x030808, [(2, 0x40)]),
  (0x030810, [(2, 0x40)]),
  (0x030818, [(2, 0x40)]),
  (0x030820, [(2, 0x40)])]
def cntMapCpl : List (Nat × List (Nat × Nat)) := [(0x040100, []),
  (0x040108, []),
  (0x040110, []),
  (0x040118, []),
  (0x040120, []),
  (0x040128, []),
  (0x040130, []),
  (0x040138, []),
  (0x040140, []),
  (0x040148, []),
  (0x040150, [])]
def cntMapLtm : List (Nat × List (Nat × Nat)) := [(0x050200, []),
  (0x050208, []),
  (0x050210, []),
  (0x050218, []),
  (0x050220, []),
  (0x050228, [])]
def cntMapNet : List (Nat × List (Nat × Nat)) := [(0x060800, [(4, 0x100)]),
  (0x060808, [(4, 0x100)]),
  (0x060810, [(4, 0x100)]),
  (0x060818, [(4, 0x100)]),
  (0x060820, [(4, 0x100)]),
  (0x060828, [(4, 0x100)]),
  (0x060830, [(4, 0x100)]),
  (0x060838, [(4, 0x100)]),
  (0x060840, [(4, 0x100)]),
  (0x060848, [(4, 0x100)]),
  (0x060850, [(4, 0x100)]),
  (0x060858, [(4, 0x100)]),
  (0x060860, [(4, 0x100)]),
  (0x060868, [(4, 0x100)]),
  (0x060870, [(4, 0x100)])]
def cntMapBlk : List (Nat × List (Nat × Nat)) := [(0x070400, []),
  (0x070408, []),
  (0x070410, []),
  (0x070418, []),
  (0x070420, []),
  (0x070428, []),
  (0x070430, [])]
def cntMapDsp : List (Nat × List (Nat × Nat)) := [(0x080800, [(2, 0x80)]),
  (0x080808, [(2, 0x80)]),
  (0x080810, [(2, 0x80)]),
  (0x080818, [(2, 0x80)]),
  (0x080820, [(2, 0x80)]),
  (0x080828, [(2, 0x80)]),
  (0x080830, [(2, 0x80)]),
  (0x080838, [(2, 0x80)]),
  (0x080840, [(2, 0x80)])]
def cntMapFbr : List (Nat × List (Nat × Nat)) := [(0x091800, []),
  (0x091808, []),
  (0x091810, []),
  (0x091818, []),
  (0x091820, []),
  (0x091828, []),
  (0x091830, []),
  (0x091838, []),
  (0x091840, []),
  (0x091848, []),
  (0x091850, [])]
def cntMapUsb : List (Nat × List (Nat × Nat)) := [(0x0A0100, []),
  (0x0A0108, []),
  (0x0A0110, []),
  (0x0A0118, []),
  (0x0A0120, []),
  (0x0A0128, [])]
def cntMapTcp : List (Nat × List (Nat × Nat)) := [(0x0B0400, [(4, 0x40)]),
  (0x0B0408, [(4, 0x40)]),
  (0x0B0410, [(4, 0x40)]),
  (0x0B0418, [(4, 0x40)])]
def cntMapLpw : List (Nat × List (Nat × Nat)) := [(0x0C0800, [(8, 0x40)]),
  (0x0C0808, [(8, 0x40)]),
  (0x0C0810, [(8, 0x40)]),
  (0x0C0818, [(8, 0x40)])]
def cntMapPwr : List (Nat × List (Nat × Nat)) := [(0x0D0800, [(24, 0x20)]),
  (0x0D0808, [(24, 0x20)]),
  (0x0D0810, [(24, 0x20)]),
  (0x0D0818, [(24, 0x20)])]
def cntMapRel : List (Nat × List (Nat × Nat)) := [(0x0E0800, [(16, 0x10)]),
  (0x0E0808, [(16, 0x10)]),
  (0x0E0900, []),
  (0x0E0908, []),
  (0x0E0910, [(4, 0x8)])]
def cntMapSec : List (Nat × List (Nat × Nat)) := [(0x0F0800, [])]

/-- The counter list of the block with index `b`. -/
def cntMapOf (b : Nat) : List (Nat × List (Nat × Nat)) :=
  match b with
  | 0 => cntMapGen
  | 1 => cntMapHif
  | 2 => cntMapPln
  | 3 => cntMapTrk
  | 4 => cntMapCpl
  | 5 => cntMapLtm
  | 6 => cntMapNet
  | 7 => cntMapBlk
  | 8 => cntMapDsp
  | 9 => cntMapFbr
  | 10 => cntMapUsb
  | 11 => cntMapTcp
  | 12 => cntMapLpw
  | 13 => cntMapPwr
  | 14 => cntMapRel
  | 15 => cntMapSec
  | _ => []

end Sys2Proof.Machine
end

