-- ==== Sys2Proof/Machine/Startup.lean ====
section
/-! DEFINITION. The commands of start-up, rails, failsafe, resets and the dump (R20 to R23, R377, R378, R414, R442 to R448,
R453, R460 to R464, R477 to R479). -/

namespace Sys2Proof.Machine

open Host (Outcome)

/-! Power-on (R377, R442). -/

/-- What survives the always-on domain's stop: the fuses, the flash, and the model's own records. -/
def Hub.afterPower (s : Hub) : Hub :=
  let fused (off : Nat) : Bool := off == 0 || off == 0x10 || off == 0x14 || off == 0x0F0000 || off == 0x0F0008
  { ({} : Hub) with
    out := s.out, fresh := s.fresh, regs := s.regs.filter (fun e => fused (e.1 / 32)),
    rel := s.rel.afterPower,
    sec := { khash := s.sec.khash, svn := s.sec.svn, flash := s.sec.flash, blob0 := s.sec.blob0, blob1 := s.sec.blob1,
             nextArea := s.sec.nextArea } }

/-- POR (R442): VHV rises above 30 V; the straps read `mode` and `upb` as POR ends. -/
def execPor (mode : Fin 4) (upb : Bool) (s : State) : Outcome State Fault Refusal := s.on fun s =>
  ((s.afterPower.sampleStraps mode upb).strapHeld)

/-- AON_STOP (R377): VHV falls below 24 V and the whole hub goes down, its channels open. -/
def execAonStop (s : State) : Outcome State Fault Refusal := s.on fun s =>
  let s1 := (s.driveRails 0).afterPower
  { s1 with sec := { s1.sec with aonOff := true } }

/-- XTAL_READY_TIMEOUT (R414): the crystal is not ready 10 ms after POR or after SVC left L4. -/
def execXtalReadyTimeout (s : State) : Outcome State Fault Refusal := s.on fun s =>
  match s.pwr.xtalFrom with
  | none => s
  | some t => (if s.up ≤ t + 10000000 then (s.upTo (t + 10000000)).enterFailsafe else s)

/-- FAILSAFE_XTAL_RETRY (R414): the crystal is tried again, 1 s after the last try began; a try without success ends 10 ms on. -/
def execFailsafeXtalRetry (ok : Bool) (s : State) : Outcome State Fault Refusal := s.on fun s =>
  let f := s.pwr.failsafe
  let at' := f.since + 1000000000 * (f.tries + 1)
  if !f.active then s
  else if ok then (s.upTo at').leaveFailsafe
  else
    let s1 := s.upTo (at' + 10000000)
    { s1 with pwr := { s1.pwr with failsafe := { f with tries := f.tries + 1 } } }

/-- SVC_PARK_EXPIRY (R414): the AON timer of PWR_CTL.PARK_S expires while SVC is at L4, PARK_S seconds after it got there. Log entry 133 (DEDUCED). -/
def execSvcParkExpiry (s : State) : Outcome State Fault Refusal := s.on fun s =>
  (if s.domStep dSVC = 4 ∧ s.domState dSVC = dmStable ∧ s.getf Fld.PWR_CTL_PARK_S ≠ 0 then
    (s.upTo (s.pwr.parkAt + s.getf Fld.PWR_CTL_PARK_S * 1000000000)).startExit dSVC 8 else s)

/-! Rails (R378, R477, R478). -/

/-- A rail is enabled; its PG reading high at that moment is a rail failure (R478). -/
def Hub.enableRail (n : Nat) (pgHigh : Bool) (s : Hub) : Hub :=
  let s0 := s.driveRails (n + 1)
  let s1 : Hub := { s0 with sec := { s0.sec with railAt := s0.up } }
  if pgHigh then (s1.setf Fld.LPW_STATUS_PG (s1.getf Fld.LPW_STATUS_PG ||| 2 ^ n)).railFail n else s1

/-- A channel that feeds the line bus has been ON for 1 ms (R378). Log entry 129 (DEDUCED). -/
def Hub.busFed (s : Hub) : Bool := [0, 1, 6].any (fun c => s.chState c == chOn && decide (1000 ≤ (s.chan c).onT))

/-- LINE_BUS_GOOD (R378): the line bus has been above UV for 1 ms; `pg` is what PG0 reads as RAIL_EN0 is asserted. -/
def execLineBusGood (pg : Bool) (s : State) : Outcome State Fault Refusal := s.on fun s =>
  if s.sec.stage = sgAon ∧ s.sec.railUp = 0 ∧ s.sec.railWait.isNone ∧ s.busFed ∧ !s.isHeld then
    ((s.setStage sgRails).enableRail 0 pg)
  else s

/-- RAIL_SEQUENCE_STEP (R477): the PG of the last rail enabled rose within 5 ms and has been high for 1 ms; `pg` is what the next PG reads as its
RAIL_EN is asserted. After the last rail, VDD_IO33, CSUP starts (R487) and the setpoint goes
out by PMBus (R479). Log entry 165 (DESIGN CHOICE). -/
def execRailSequenceStep (pg : Bool) (s : State) : Outcome State Fault Refusal := s.on fun s =>
  if s.sec.stage = sgRails ∧ 1 ≤ s.sec.railUp ∧ s.ranFor s.sec.railAt 1000000 ∧ s.up ≤ s.sec.railAt + 6000000 then
    let n := s.sec.railUp
    let s1 := s.setf Fld.LPW_STATUS_PG (s.getf Fld.LPW_STATUS_PG ||| 2 ^ (n - 1))
    (if n < 6 then s1.enableRail n pg else (((s1.setStage sgPowered).startCsup 0).startCsup 1).emit (.pmbus s.avsSetpoint))
  else s

/-- PG_TIMEOUT (R477): the PG of the last rail enabled did not rise within 5 ms. Log entry 165 (DESIGN CHOICE). -/
def execPgTimeout (s : State) : Outcome State Fault Refusal := s.on fun s =>
  (if s.sec.stage = sgRails ∧ 1 ≤ s.sec.railUp ∧ s.ranFor s.sec.railAt 5000000 then s.railFail (s.sec.railUp - 1) else s)

/-- PG_FALL (R378): PG `n` falls while its RAIL_EN is asserted. Log entry 165 (DESIGN CHOICE). -/
def execPgFall (n : Fin 6) (s : State) : Outcome State Fault Refusal := s.on fun s =>
  if n.val < s.sec.railUp ∧ bit (s.getf Fld.LPW_STATUS_PG) n then
    ((s.setf Fld.LPW_STATUS_PG (s.getf Fld.LPW_STATUS_PG - 2 ^ n.val)).railFail n)
  else s

/-- RAIL_FAIL_RECOVER (R448): the wait after a rail failure ends and the hub resumes at step 4 as class WATCHDOG. -/
def execRailFailRecover (s : State) : Outcome State Fault Refusal := s.on fun s =>
  match s.sec.railWait with
  | none => s
  | some t =>
    if t ≤ s.up then
      let s1 := s.deviceReset 3 2
      ({ s1 with sec := { s1.sec with railWait := none, stage := if s1.isHeld then sgHeld else sgAon } })
    else s

/-! Boot (R442, R453, R455). -/

/-- BOOT_ROM_START (R442 step 5): the ROM reads fuses and life-cycle, applies the fuse map, and memories are wiped. -/
def execBootRomStart (s : State) : Outcome State Fault Refusal := s.on fun s =>
  if s.sec.stage = sgPowered ∧ !s.sec.inReset then
    let s1 := if s.preserved then s else { s with lineMem := [] }
    (if s1.isHeld then s1.holdHub else s1.setStage sgRom)
  else s

/-- Why a firmware slot, or a board configuration copy, does not verify (R452 to R454): 0 it does; 1 format, 2 key slot,
3 signature, 4 body hash, 5 SVN. `use` is the USE bit its key slot needs. Log entry 23 (PRESUMED). -/
def Hub.imageFault (s : Hub) (base magic maxBody use : Nat) (svn : Bool) : Nat :=
  let h := s.flashRead base 256
  let len := beNat (slice h 16 4)
  if beNat (slice h 0 4) ≠ magic ∨ beNat (slice h 4 2) ≠ 1 ∨ len = 0 ∨ maxBody < len then 1
  else
    match Tab.get? (byteAt h 13) s.sec.khash with
    | none => 2
    | some k =>
      if !bit k.use use || k.revoked || k.hash != sha256 (slice h 56 64) then 2
      else if !ecdsaVerify (slice h 56 64) (sha256 (h.take 192)) (slice h 192 64) then 3
      else if slice h 24 32 ≠ sha256 (s.flashRead (base + 256) len) then 4
      else if svn && decide (byteAt h 12 < s.sec.svn) then 5
      else 0

/-- The base of a firmware slot, and why the slot does not verify. -/
def slotBase' (i : Nat) : Nat := 0x400000 * i
def Hub.slotFault (s : Hub) (i : Nat) : Nat := s.imageFault (slotBase' i) 0x0960B007 2097152 0 true

/-- SEQ of the image at `base`. Log entry 142 (DEDUCED). -/
def Hub.imageSeq (s : Hub) (base : Nat) : Nat := beNat (s.flashRead (base + 8) 4)

/-- The slot tried first (R453). Log entry 142 (DEDUCED). -/
def Hub.firstSlot (s : Hub) : Nat :=
  match s.sec.nextSlot with
  | some i => i
  | none => if s.imageSeq (slotBase' 0) < s.imageSeq (slotBase' 1) then 1 else 0

/-- The image of slot `i` runs (R453): its SVN and version, and the dump area the firmware erases as it starts (R461). -/
def Hub.runSlot (i first : Nat) (s : Hub) : Hub :=
  let h := s.flashRead (slotBase' i) 256
  let a := 0xA00000 + 0x40000 * s.sec.nextArea
  let s1 := (s |>.setf Fld.GEN_BOOT_STATUS_SLOT i |>.setb Fld.GEN_BOOT_STATUS_FALLBACK (i != first) |>.setf Fld.SEC_BOOT_SLOT i
    |>.setf Fld.SEC_BOOT_SVN (byteAt h 12) |>.setf Fld.SEC_BOOT_SVN_FUSED s.sec.svn
    |>.setf Fld.SEC_FW_VERSION (beNat (slice h 20 4))).flashErase a (a + 0x40000)
  { s1 with sec := { s1.sec with stage := sgFirmware, runKey := some (byteAt h 13), areaReady := true, lastKick := s1.upTick, stage1 := none } }

/-- FIRMWARE_VERIFY (R453, R455): the ROM verifies the slots in order and starts the first that passes, or holds the hub. -/
def execFirmwareVerify (s : State) : Outcome State Fault Refusal := s.on fun s =>
  if s.sec.stage = sgRom then
    let first := s.firstSlot
    let second := 1 - first
    let blank := s.getf Fld.SEC_LC_STATE == 0
    let s0 : Hub := { s with sec := { s.sec with nextSlot := none } }
    let fail (i : Nat) (c : Nat) (t : Hub) : Hub :=
      t.setf (if i = 0 then Fld.GEN_BOOT_STATUS_FAIL_A else Fld.GEN_BOOT_STATUS_FAIL_B) c
    if blank then ((s0.setf Fld.GEN_BOOT_STATUS_HELD 1).holdHub)
    else if s.slotFault first = 0 then (s0.runSlot first first)
    else
      let s1 := fail first (s.slotFault first) s0
      if s.slotFault second = 0 then (s1.runSlot second first)
      else (((fail second (s.slotFault second) s1).setf Fld.GEN_BOOT_STATUS_HELD 1).holdHub)
  else s

/-- The value GEN_RESET_CAUSE reads. Log entry 134 (DEDUCED). -/
def Hub.resetCause (s : Hub) : Nat :=
  s.getf Fld.GEN_RESET_CAUSE_CLASS * 2 ^ 28 + s.getf Fld.GEN_RESET_CAUSE_DETAIL * 2 ^ 24 + s.getf Fld.GEN_RESET_CAUSE_COUNT

/-- Every attached trunk port's bring-up has ended (R442 step 8). Log entry 140 (DEDUCED). -/
def Hub.linksSettled (s : Hub) : Bool :=
  [0, 1].all (fun p => s.attach p != atAttached || s.link p == lkUp || s.link p == lkFailed || s.link p == lkDown)

/-- The PCIe quads whose lanes the role turns off, which a node's firmware holds at L4 (R213, R401). Log entry 185 (DEDUCED). -/
def Hub.offQuads (s : Hub) : List Nat :=
  if s.isHead then [] else if s.getf Fld.GEN_STRAPS_ROLE = 1 then [dPEQ0 + 3] else [dPEQ0, dPEQ0 + 3]

/-- GEN_READY (R442 step 8): the hub reaches service, a head's time engine starts (R182), and a node's firmware arms L4 on the quads it does not use (R401, log entry 185, DEDUCED); GEN_DUMP_TAKEN and PWR_XTAL_FAIL follow where owed (R464, R414). Log entry 140 (DEDUCED). -/
def execGenReady (s : State) : Outcome State Fault Refusal := s.on fun s =>
  if s.sec.stage = sgBoard ∧ s.linksSettled then
    let s0 := s.offQuads.foldl (fun t d => t.writeDomMode d 4 false) (if s.isHead then s.startTime else s)
    let s1 := (((s0.setStage sgService).setf Fld.GEN_BOOT_STATUS_READY 1).raise Evt.GEN_READY
      [s.resetCause, s.getf Fld.GEN_BOOT_STATUS_SLOT])
    let s2 := if s.sec.dumpOwed then
        ({ s1 with sec := { s1.sec with dumpOwed := false } } : Hub).raise Evt.GEN_DUMP_TAKEN
          [s.getf Fld.GEN_DUMP_STATUS_TARGET, s.getf Fld.GEN_DUMP_STATUS_LENGTH_KB * 1024, s.getf Fld.GEN_DUMP_STATUS_CAUSE]
      else s1
    let f := s.pwr.failsafe
    (if f.owed then
        ({ s2 with pwr := { s2.pwr with failsafe := { f with owed := false } } } : Hub).raise Evt.PWR_XTAL_FAIL
          [s.getf Fld.PWR_STATUS_XTAL_FAILS, f.seconds]
      else s2)
  else s

/-! Resets (R444 to R448). -/

/-- RST_N_ASSERT (R444): RST_N has been low for 1 µs; the hub stays in reset while it is low. -/
def execRstNAssert (s : State) : Outcome State Fault Refusal := s.on fun s =>
  let s1 := s.deviceReset 2 0
  ({ s1 with sec := { s1.sec with inReset := true } })

/-- RST_N_RELEASE (R20, R444): the rising edge of RST_N samples the straps and start-up goes on at step 5. -/
def execRstNRelease (mode : Fin 4) (upb : Bool) (s : State) : Outcome State Fault Refusal := s.on fun s =>
  if s.sec.inReset then
    let s1 : Hub := { s with sec := { s.sec with inReset := false, stage := if s.sec.railUp = 6 then sgPowered else s.sec.stage } }
    ((s1.sampleStraps mode upb).strapHeld)
  else s

/-- A domain reset is refused (R447). -/
def Hub.domResetRefused (s : Hub) (d : Nat) : Bool :=
  decide (d ≤ 3) || decide (24 ≤ d) || (decide (12 ≤ d) && decide (d ≤ 16)) || d == dSVC || d == dCTL || d == dSEC || s.planStep d != 0
    || s.rel.locks.contains (.dom d) || s.domFailed d

/-- A reset class byte a request may carry (R445). -/
def resetByteOk (b : Nat) : Bool := b == 0x05 || (decide (0x20 ≤ b) && decide (b ≤ 0x37))

/-- A reset asked for with class byte `b` is taken, to be executed from tick `at'` on (R445); false where it is refused. Log entries 73 (DEDUCED), 82 (DEDUCED). -/
def Hub.askReset (b cls detail at' : Nat) (s : Hub) : Bool × Hub :=
  let add (x : ResetDue) : Hub := { s with sec := { s.sec with dues := s.sec.dues ++ [x] } }
  if b = 5 then (true, add ⟨cls, detail, at'⟩)
  else if s.domResetRefused (b - 0x20) then (false, s)
  else (true, add ⟨6, b - 0x20, at'⟩)

/-- A write of GEN_RESET (R445). -/
def Hub.writeReset (v : Nat) (s : Hub) : Hub :=
  let b := bits v 7 0
  if bits v 31 16 = 0xA5C3 ∧ bits v 15 8 = 0 ∧ resetByteOk b then (s.askReset b 5 1 (s.tick + 1)).2 else s

/-- GEN_RESET (R445): a write of GEN_RESET. Log entry 73 (DEDUCED). -/
def execGenReset (v : Word) (s : State) : Outcome State Fault Refusal := s.on fun s => (s.writeReset v.toNat)

/-- RESET_EXECUTE (R444, R445): the oldest device reset asked for executes, at the boundary it is due at. -/
def execResetExecute (s : State) : Outcome State Fault Refusal := s.on fun s =>
  match s.sec.dues.find? (fun x => x.cls != 6) with
  | none => s
  | some x => ((s.advance (x.at' * tickNs)).deviceReset x.cls x.detail)

/-- A domain reset starts (R447): L3 without a save, and straight back with source 2. -/
def Hub.startDomReset (d : Nat) (s : Hub) : Hub :=
  let s1 := if d = dHDMA then s.hostReset 3 else s
  let s2 := s1.unitsDown d
  (((s2.setDom d { s2.dom d with saved := none, armedCtl := none, armedMgt := none, target := 0, next := none }).setf (Fld.PWR_DOM_STATUS_STEP d) 3).startExit
    d 2).setf Fld.GEN_RESET_CAUSE_CLASS 6

/-- DOMAIN_RESET (R447): a domain reset that is due, once the domain is not part-way through an entry or an exit. -/
def execDomainReset (d : Fin 24) (s : State) : Outcome State Fault Refusal := s.on fun s =>
  match s.sec.dues.find? (fun x => x.cls == 6 && x.detail == d.val) with
  | none => s
  | some x =>
    let s := s.advance (x.at' * tickNs)
    if s.domState d = dmEntering ∨ s.domState d = dmExiting then s
    else
      let s1 : Hub := { s with sec := { s.sec with dues := s.sec.dues.filter (fun y => y != x) } }
      (if s.domResetRefused d then s1 else s1.startDomReset d)

/-- The watchdog watches a service core that has firmware to run and is not parked (R414, R448). Log entry 187 (DEDUCED). -/
def Hub.watched (s : Hub) : Bool :=
  decide (sgFirmware ≤ s.sec.stage) && !s.isHeld && !s.sec.inReset && !s.sec.aonOff && decide (s.domStep dSVC ≤ 1)

/-- WATCHDOG_STAGE1 (R448): 1,600 ticks without a kick start the fatal path with cause 2. Log entry 187 (DEDUCED). -/
def execWatchdogStage1 (s : State) : Outcome State Fault Refusal := s.on fun s =>
  (if s.watched ∧ s.sec.lastKick + 1600 ≤ s.upTick ∧ s.sec.stage1 = none then
    let s1 : Hub := { s with sec := { s.sec with stage1 := some s.up } }
    s1.fatalPath 2 0
  else s)

/-- WATCHDOG_STAGE2 (R448): no DUMP reset has begun 2 s after stage 1. Log entry 187 (DEDUCED). -/
def execWatchdogStage2 (s : State) : Outcome State Fault Refusal := s.on fun s =>
  match s.sec.stage1 with
  | none => s
  | some t => (if s.ranFor t 2000000000 then s.deviceReset 3 1 else s)

/-! The fatal path and the dump (R460 to R464). -/

/-- The target the record goes to next (R461): 1 the DUMP ring, 2 the flash, 3 the preserved region. -/
def Hub.dumpTarget (s : Hub) (f : Fatal) : Nat :=
  if s.flag Fld.HIF_STATUS_DUMP_ARMED && s.dmaOk && !f.failed.contains 1 then 1
  else if s.sec.areaReady && !f.failed.contains 2 then 2 else 3

/-- The preserved region is taken out of use once it is the target (R464). -/
def Hub.dumpPrepare (s : Hub) : Hub :=
  match s.sec.fatal with
  | none => s
  | some f =>
    if s.dumpTarget f = 3 ∧ !s.pool.withheld.contains (regionLo, regionHi) then s.takeRegion else s

/-- FATAL_PATH (R460): a firmware assertion (1), an uncorrectable error in firmware memory (3) or a core exception (5), with the
detail of R508. -/
def execFatalPath (cause : Fin 6) (detail : Nat) (s : State) : Outcome State Fault Refusal := s.on fun s =>
  (if cause.val = 1 ∨ cause.val = 3 ∨ cause.val = 5 then (s.fatalPath cause detail).dumpPrepare else s.dumpPrepare)

/-- DUMP_RELEASE (R464): a write of GEN_DUMP_CTL. -/
def execDumpRelease (v : Word) (s : State) : Outcome State Fault Refusal := s.on fun s =>
  (if bit v.toNat 0 then s.releaseRegion else s)

end Sys2Proof.Machine
end

