-- ==== Sys2Proof/Machine/Security.lean ====
section
/-! DEFINITION. Life-cycle, boot control, keys, debug unlock and the flash (R218, R449 to R459, R465, R466). -/

namespace Sys2Proof.Machine

open Host (Outcome)

/-! Life-cycle (R449, R450). -/

/-- A debug session is open whose scope has bit `i` (R459). -/
def Hub.dbgGrants (s : Hub) (i : Nat) : Bool := s.flag Fld.SEC_DBG_CTL_OPEN && bit s.sec.dbgScope i

/-- The hub allows the transition (R450). -/
def Hub.lcAllowed (s : Hub) (dest : Nat) : Bool :=
  let from' := s.getf Fld.SEC_LC_STATE
  let grant := s.dbgGrants 3
  if from' = 0 ∧ dest = 1 then s.sec.khash.any (fun e => bit e.2.use 0)
  else if from' = 1 ∧ dest = 2 then true
  else if from' = 1 ∧ dest = 3 then true
  else if from' = 2 ∧ dest = 3 then grant
  else if dest = 4 ∧ from' ≠ 4 then from' == 3 || grant
  else false

/-- The mitten is wiped (R430, R450). -/
def Hub.wipeMitten (s : Hub) : Hub :=
  let s1 := s.resetFields (32 * 0x0D0400) (32 * 0x0D04C0)
  let s2 := s1.resetFields (32 * 0x0E0500) (32 * 0x0E0600)
  let s3 := ((s2.resetFields (32 * 0x00010C) (32 * 0x00010D)).resetFields (32 * 0x0E000C) (32 * 0x0E0018))
  { s3 with rel := s3.rel.afterPower, trunk := { s3.trunk with rowRecs := [] }, plan := { s3.plan with pairsCopy := none },
            lpw := { s3.lpw with chans := s3.lpw.chans.mapVal (fun _ C => { C with bandUs := [0, 0, 0, 0], low := none, high := none, cycles := 0 }) },
            sec := { s3.sec with strapInvalid := false, dumpOwed := false } }

/-- A write of SEC_LC_CTL (R450). -/
def Hub.writeLcCtl (v : Nat) (s : Hub) : Hub :=
  let dest := bits v 2 0
  if bits v 31 16 ≠ 0x1C5A then s
  else if s.lcAllowed dest then
    let s1 := ((s.setf Fld.SEC_LC_STATE dest).wipeMitten).setf Fld.PWR_STATUS_FAILSAFE_SEEN 0
    let s2 : Hub := { s1 with sec := { s1.sec with keys := [], blob0 := none, blob1 := none, keysDirty := false } }
    (s2.lockSession).deviceReset 5 3
  else s.raise Evt.SEC_LC_REFUSED [s.getf Fld.SEC_LC_STATE, dest]

/-- LC_TRANSITION (R450): a write of SEC_LC_CTL. -/
def execLcTransition (v : Word) (s : State) : Outcome State Fault Refusal := s.on fun s => (s.writeLcCtl v.toNat)

/-! Boot control and key hashes (R453, R465). -/

/-- A write of SEC_BOOT_CTL: COMMIT burns the anti-rollback counter, NEXT_EN names the next slot (R453). -/
def Hub.writeBootCtl (v : Nat) (s : Hub) : Hub :=
  let svn := max s.sec.svn (s.getf Fld.SEC_BOOT_SVN)
  let s1 := if bit v 2 then ({ s with sec := { s.sec with svn := svn } } : Hub).setf Fld.SEC_BOOT_SVN_FUSED svn else s
  if bit v 1 then { s1 with sec := { s1.sec with nextSlot := some (bits v 0 0) } } else s1

/-- BOOT_COMMIT (R453): a write of SEC_BOOT_CTL. -/
def execBootCommit (v : Word) (s : State) : Outcome State Fault Refusal := s.on fun s => (s.writeBootCtl v.toNat)

/-- BOOT_NEXT_SLOT (R453): a write of SEC_BOOT_CTL. -/
def execBootNextSlot (v : Word) (s : State) : Outcome State Fault Refusal := s.on fun s => (s.writeBootCtl v.toNat)

/-- A write of SEC_KHASH_CTL (R465). -/
def Hub.writeKhashCtl (v : Nat) (s : Hub) : Hub :=
  let i := bits v 1 0
  let s1 :=
    if bit v 31 && decide (s.getf Fld.SEC_LC_STATE ≤ 1) && (Tab.get? i s.sec.khash).isNone then
      let h := (List.range 8).flatMap (fun w => beBytes 4 (s.getf (Fld.SEC_KHASH w)))
      { s with sec := { s.sec with khash := Tab.put i { hash := h, use := bits v 6 4 } s.sec.khash } }
    else s
  if bit v 30 && s1.sec.runKey != some i then
    match Tab.get? i s1.sec.khash with
    | none => s1
    | some k => { s1 with sec := { s1.sec with khash := Tab.put i { k with revoked := true } s1.sec.khash } }
  else s1

/-- KHASH_BURN (R465): a write of SEC_KHASH_CTL. -/
def execKhashBurn (v : Word) (s : State) : Outcome State Fault Refusal := s.on fun s => (s.writeKhashCtl v.toNat)

/-- KHASH_REVOKE (R465): a write of SEC_KHASH_CTL. -/
def execKhashRevoke (v : Word) (s : State) : Outcome State Fault Refusal := s.on fun s => (s.writeKhashCtl v.toNat)

/-! Keys (R456 to R458). -/

/-- SEC_KEY_STATUS shows the keys held (R465). -/
def Hub.showKeys (s : Hub) : Hub := s.setf Fld.SEC_KEY_STATUS (s.sec.keys.foldl (fun v e => v + 2 ^ e.1) 0)

/-- The KEK that (KIND, ID) names, where it may serve (R449, R457, R458): a segment or service key held, or the null key. Log entry 144 (DEDUCED). -/
def Hub.kek (s : Hub) (kind id target : Nat) : Option (List Byte) :=
  if 1 < kind then none
  else if id ≠ 0 then Tab.get? (8 * kind + id) s.sec.keys
  else if kind ≠ 0 then none
  else if s.deployed then (if s.lowestKey.isNone && target == 0 then some nullKey else none)
  else some nullKey

/-- The wrapped key in SEC_KEY_BLOB (R457). -/
def Hub.keyBlob (s : Hub) (kind : Nat) : List Byte :=
  ((List.range 18).flatMap (fun w => beBytes 4 (s.getf (Fld.SEC_KEY_BLOB w)))).take (if kind = 2 then 72 else 24)

/-- A write of SEC_KEY_CTL: LOAD unwraps a key or is refused, ERASE removes one (R457). -/
def Hub.writeKeyCtl (v : Nat) (s : Hub) : Hub :=
  let kind := bits v 25 24
  let id := bits v 18 16
  let slot := 8 * kind + id
  let put (t : Hub) (ks : Tab (List Byte)) : Hub :=
    ({ t with sec := { t.sec with keys := ks, keysDirty := true } } : Hub).showKeys
  let refuse : Hub := (s.count Cnt.SEC_CNT_KEY_REFUSED 1).raise Evt.SEC_KEY_REFUSED [kind, id, bits v 9 8 * 256 + bits v 2 0]
  if bit v 31 then
    if kind = 3 ∨ id = 0 then refuse
    else
      match (s.kek (bits v 9 8) (bits v 2 0) kind).bind (fun k => keyUnwrap k (s.keyBlob kind)) with
      | none => refuse
      | some k => put s (Tab.put slot k s.sec.keys)
  else if bit v 30 then (if (Tab.get? slot s.sec.keys).isSome then put s (Tab.del slot s.sec.keys) else s)
  else s

/-- KEY_LOAD (R457): a write of SEC_KEY_CTL. -/
def execKeyLoad (v : Word) (s : State) : Outcome State Fault Refusal := s.on fun s => (s.writeKeyCtl v.toNat)

/-- KEY_ERASE (R457): a write of SEC_KEY_CTL. -/
def execKeyErase (v : Word) (s : State) : Outcome State Fault Refusal := s.on fun s => (s.writeKeyCtl v.toNat)

/-- KEY_BLOB_REWRITE (R457): copy 0 and then copy 1 of the key blob area take the keys held. Log entry 141 (DEDUCED). -/
def execKeyBlobRewrite (s : State) : Outcome State Fault Refusal := s.on fun s =>
  if s.sec.keysDirty then
    let b := some (s.getf Fld.SEC_LC_STATE, s.sec.keys)
    { s with sec := { s.sec with blob0 := b, blob1 := b, keysDirty := false } }
  else s

/-- The keys of the valid blob copy are loaded (R442 step 7, R457). Log entry 141 (DEDUCED). -/
def Hub.loadBlobs (s : Hub) : Hub :=
  let good (b : Option (Nat × Tab (List Byte))) : Option (Tab (List Byte)) :=
    (b.filter (fun e => e.1 == s.getf Fld.SEC_LC_STATE)).map (fun e => e.2)
  match (good s.sec.blob0).orElse (fun _ => good s.sec.blob1) with
  | none => s
  | some ks => ({ s with sec := { s.sec with keys := ks } } : Hub).showKeys

/-- SEC_NO_KEY once per boot while a DEPLOYED hub holds no segment key (R458). -/
def Hub.noKeyCheck (s : Hub) : Hub :=
  if s.deployed && s.lowestKey.isNone && !s.sec.noKeyRaised then
    ({ s with sec := { s.sec with noKeyRaised := true } } : Hub).raise Evt.SEC_NO_KEY [s.getf Fld.SEC_LC_STATE]
  else s

/-! Debug unlock (R459). -/

/-- The debug session ends. -/
def Hub.dbgEnd (s : Hub) : Hub := ({ s with sec := { s.sec with dbgScope := 0 } } : Hub).setf Fld.SEC_DBG_CTL_OPEN 0

/-- A fresh challenge, valid for 60 s and one proof. -/
def Hub.dbgChallenge (s : Hub) : Hub :=
  if s.sec.dbgLockout then s
  else
    let (c, s1) := s.free freeTagChallenge
    let b := leBytes 32 c
    (List.range 8).foldl (fun t w => t.setf (Fld.SEC_DBG_CHAL w) (beNat (slice b (4 * w) 4)))
      { s1 with sec := { s1.sec with chal := some (b, s1.up) } }

/-- The words of a register array as bytes, most significant first. -/
def Hub.regBytes (s : Hub) (f : Nat → Fl) (n : Nat) : List Byte := (List.range n).flatMap (fun w => beBytes 4 (s.getf (f w)))

/-- The proof in SEC_DBG_KEY and SEC_DBG_RESP holds (R459). -/
def Hub.dbgProofGood (s : Hub) : Bool :=
  let key := s.regBytes Fld.SEC_DBG_KEY 16
  match s.sec.chal, Tab.get? (s.getf Fld.SEC_DBG_CTL_KEY_SLOT) s.sec.khash with
  | some (c, t), some k =>
    decide (s.up ≤ t + 60000000000) && bit k.use 2 && !k.revoked && k.hash == sha256 key
      && ecdsaVerify key (sha256 (c ++ beBytes 8 s.hubId ++ beBytes 1 (s.getf Fld.SEC_DBG_CTL_SCOPE)
          ++ beBytes 1 (s.getf Fld.SEC_LC_STATE))) (s.regBytes Fld.SEC_DBG_RESP 16)
  | _, _ => false

/-- A proof is checked: it opens a session, or counts as wrong (R459). -/
def Hub.dbgProve (s : Hub) : Hub :=
  let scope := s.getf Fld.SEC_DBG_CTL_SCOPE
  if s.dbgProofGood then
    (({ s with sec := { s.sec with chal := none, dbgScope := scope, dbgFails := 0 } } : Hub).setf Fld.SEC_DBG_CTL_OPEN 1).raise
      Evt.SEC_DEBUG_UNLOCK [scope, s.getf Fld.SEC_DBG_CTL_KEY_SLOT]
  else
    let n := s.sec.dbgFails + 1
    ({ s with sec := { s.sec with chal := none, dbgFails := n, dbgLockout := decide (3 ≤ n), dbgLockAt := s.up } } : Hub).raise Evt.SEC_DEBUG_FAIL [n]

/-- A write of SEC_DBG_CTL (R459, R466). -/
def Hub.writeDbgCtl (v : Nat) (s : Hub) : Hub :=
  let s1 := s |>.setf Fld.SEC_DBG_CTL_KEY_SLOT (bits v 9 8) |>.setf Fld.SEC_DBG_CTL_SCOPE (bits v 7 0)
  let s2 := if bit v 31 then s1.dbgChallenge else s1
  let s3 := if bit v 30 then s2.dbgProve else s2
  if bit v 29 then s3.dbgEnd else s3

/-- DBG_CHALLENGE (R459): a write of SEC_DBG_CTL. -/
def execDbgChallenge (v : Word) (s : State) : Outcome State Fault Refusal := s.on fun s => (s.writeDbgCtl v.toNat)

/-- DBG_PROVE (R459): a write of SEC_DBG_CTL. -/
def execDbgProve (v : Word) (s : State) : Outcome State Fault Refusal := s.on fun s => (s.writeDbgCtl v.toNat)

/-- DBG_LOCK (R459): a write of SEC_DBG_CTL. -/
def execDbgLock (v : Word) (s : State) : Outcome State Fault Refusal := s.on fun s => (s.writeDbgCtl v.toNat)

/-- DBG_LOCKOUT_END (R459): 60 s after three wrong proofs CHAL is accepted again. -/
def execDbgLockoutEnd (s : State) : Outcome State Fault Refusal := s.on fun s =>
  (if s.sec.dbgLockout ∧ s.ranFor s.sec.dbgLockAt 60000000000 then { s with sec := { s.sec with dbgLockout := false, dbgFails := 0 } } else s)

/-! The flash (R466). -/

/-- An operation may touch the bytes from `lo` to `hi - 1` (R466): the slot not booted, the board configuration copy not in force,
and the dump partition. -/
def Hub.flashAllowed (s : Hub) (lo hi : Nat) : Bool :=
  let inside (a n : Nat) : Bool := decide (a ≤ lo) && decide (hi ≤ a + n)
  let slot := s.getf Fld.SEC_BOOT_SLOT
  let copy := s.getf Fld.GEN_BOOT_STATUS_CFG_COPY
  let held := s.flag Fld.GEN_BOOT_STATUS_HELD
  ((held || slot == 1) && inside 0 0x400000) || ((held || slot == 0) && inside 0x400000 0x400000)
    || ((held || copy != 0) && inside 0x800000 0x40000) || ((held || copy != 1) && inside 0x840000 0x40000) || inside 0xA00000 0x100000

/-- A write of SEC_FLASH_CMD (R466); ADDR is taken down to its sector or page. Log entry 137 (DEDUCED). -/
def Hub.writeFlashCmd (v : Nat) (s : Hub) : Hub :=
  let op := bits v 1 0
  if s.flag Fld.SEC_FLASH_CMD_BUSY || op == 0 || op == 3 then s
  else
    let n := if op = 1 then 65536 else 256
    let a := s.getf Fld.SEC_FLASH_ADDR / n * n
    if s.flashAllowed a (a + n) then
      ({ s with sec := { s.sec with flashOp := some (op, a) } } : Hub) |>.setf Fld.SEC_FLASH_CMD_BUSY 1
    else s.setf Fld.SEC_FLASH_CMD_RESULT 1

/-- FLASH_ERASE (R466): a write of SEC_FLASH_CMD. -/
def execFlashErase (v : Word) (s : State) : Outcome State Fault Refusal := s.on fun s => (s.writeFlashCmd v.toNat)

/-- FLASH_PROGRAM (R466): a write of SEC_FLASH_CMD. -/
def execFlashProgram (v : Word) (s : State) : Outcome State Fault Refusal := s.on fun s => (s.writeFlashCmd v.toNat)

/-- FLASH_OP_DONE (R466): the running operation ends, with success or not. -/
def execFlashOpDone (ok : Bool) (s : State) : Outcome State Fault Refusal := s.on fun s =>
  match s.sec.flashOp with
  | none => s
  | some (op, a) =>
    let s1 := if !ok then s else if op = 1 then s.flashErase a (a + 65536)
      else s.flashWrite a ((List.range 64).flatMap (fun w => leBytes 4 (s.getf (Fld.SEC_FLASH_DATA w))))
    (({ s1 with sec := { s1.sec with flashOp := none } } : Hub) |>.setf Fld.SEC_FLASH_CMD_BUSY 0
      |>.setf Fld.SEC_FLASH_CMD_RESULT (if ok then 0 else 2))

/-! BAR2 (R218). -/

/-- BAR2_READ (R218): `n` bytes of line memory from offset `a`, zeros in DEPLOYED without a session that grants BAR2, poisoned
where a word is uncorrectable; nothing where BAR2 is unimplemented (R216). -/
def execBar2Read (a : Fin 67108864) (n : Fin 4097) (s : State) : Outcome State Fault Refusal := s.on fun s =>
  if !s.flag Fld.HIF_STATUS_BAR2 then s
  else if !s.flag Fld.GEN_BOOT_STATUS_READY then s.emit (.unsupported a)
  else if s.deployed && !s.dbgGrants 2 then (s.emit (.bar2 (zeros n) false))
  else (s.emit (.bar2 (s.memRead a n) (s.memBad a n)))

end Sys2Proof.Machine
end

