-- ==== Sys2Proof/Machine/SignalMap.lean ====
section
/-! DEFINITION. The capture router and the signal map (R207, R331 to R335). -/

namespace Sys2Proof.Machine

open Host (Outcome)

/-! The capture router (R207). -/

/-- A capture record goes where its pin's DEST says (R207): 0 the event path, 1 the signal map entry SIGMAP, 2 both, 3 neither. Log entry 64 (DEDUCED). -/
def Hub.routeCapture (rec' : List Byte) (s : Hub) : Hub :=
  let t := beNat (slice rec' 0 8)
  let n := byteAt rec' 8 % 32
  let flags := byteAt rec' 9
  let dest := s.getf (Fld.LTM_TIO_CFG_DEST n)
  let s1 := if dest = 0 ∨ dest = 2 then s.raise Evt.LTM_CAPTURE [t % 2 ^ 48 + n * 2 ^ 48 + flags * 2 ^ 56] else s
  let s2 := if dest = 1 ∨ dest = 2 then
      s1.mapInput { kind := 0, sel := n, frame := rec', time := t, hold := bit flags 4 || bit flags 3,
                    only := some (s.getf (Fld.LTM_TIO_CFG_SIGMAP n)) } else s1
  if dest = 3 then s2.count Cnt.LTM_CNT_CAPTURE_DROP 1 else s2

/-- The router takes queue `q`'s oldest record unless its TIME lies in the current tick (R207). -/
def Hub.routeOne (q : Nat) (s : Hub) : Hub :=
  match s.readHead q with
  | (none, t) => t
  | (some p, t) =>
    let bs := t.pktBytes p
    if t.tick = beNat (slice bs 0 8) / tickNs then t else (t.popPkt q).routeCapture bs

/-- The router drains capture queue `q`, unless a read port has it (R173, R207). -/
def Hub.routeQueue (q : Nat) (s : Hub) : Hub :=
  match (s.queue q).cons with
  | some (.port _) => s
  | _ => (s.queue q).pkts.foldl (fun t _ => t.routeOne q) s

/-- CAPTURE_ROUTE: 1 µs after a tick boundary every record of the tick before is handed on (R207). Log entry 64 (DEDUCED). -/
def execCaptureRoute (s : State) : Outcome State Fault Refusal := s.on fun s =>
  let s0 := s.advance (s.tick * tickNs + 1000)
  ([16, 17, 18, 19].foldl (fun t q => t.routeQueue q) s0)

/-! Entries (R332). -/

/-- The committed words of entry `i`. -/
def Hub.sigEntry (s : Hub) (i : Nat) : List Nat := Tab.getD s.fbr.sigMap i [0, 0, 0, 0]

/-- The bits of word `w` of an entry that are not reserved, by its kinds (R332). -/
def sigMask (w0 w1 w : Nat) : Nat :=
  match w with
  | 0 => if bits w0 30 28 = 4 then 0xFF00FFFF else 0xFFFFFFFF
  | 1 => 0xFFFFFF00
  | 2 => 0xFFFFFFFF
  | _ => if bit w1 11 then 0xFFFFFC00 else 0xFFF0FFFF

/-- A write of word `w` of entry `i`, 1 to 3, is held (R332). -/
def Hub.holdSig (i w v : Nat) (s : Hub) : Hub :=
  { s with fbr := { s.fbr with sigHeld := Tab.put i (Tab.put w v (Tab.getD s.fbr.sigHeld i [])) s.fbr.sigHeld } }

/-- A write of word 0 commits entry `i` with its held words (R332); its next firing counts as a change (R331). -/
def Hub.commitSig (i v : Nat) (s : Hub) : Hub :=
  let h := Tab.getD s.fbr.sigHeld i []
  let old := s.sigEntry i
  let raw := (List.range 4).map (fun w => if w = 0 then v else Tab.getD h w (old.getD w 0))
  let ws := (List.range 4).map (fun w => raw.getD w 0 &&& sigMask (raw.getD 0 0) (raw.getD 1 0) w)
  { (s.entryEnd 9 2 i) with fbr := { s.fbr with
    sigMap := if ws.all (· == 0) then Tab.del i s.fbr.sigMap else Tab.put i ws s.fbr.sigMap,
    fired := Tab.del i s.fbr.fired } }

/-- SIGNAL_MAP_HOLD (R332). -/
def execSignalMapHold (i : Fin 2048) (w : Fin 4) (v : Word) (s : State) : Outcome State Fault Refusal := s.on fun s =>
  if w.val = 0 then s else (s.holdSig i w v.toNat)

/-- SIGNAL_MAP_COMMIT (R332). -/
def execSignalMapCommit (i : Fin 2048) (v : Word) (s : State) : Outcome State Fault Refusal := s.on fun s => (s.commitSig i v.toNat)

/-! Fields of a frame (R333). -/

/-- `n` steps of the big-endian bit walk from frame bit `k`. -/
def bitWalk : (n k : Nat) → Nat
  | 0, k => k
  | n + 1, k => bitWalk n (if k % 8 = 0 then k + 15 else k - 1)

/-- The frame bit of field bit `i` (R333). -/
def bitpos (start i len : Nat) (big : Bool) : Nat := if big then bitWalk (len - 1 - i) start else start + i

/-- Every bit of a field lies within `n` bytes. -/
def fieldFits (start len : Nat) (big : Bool) (n : Nat) : Bool :=
  (List.range len).all (fun i => decide (bitpos start i len big < 8 * n))

/-- A field's value, unsigned (R333). -/
def unpackField (frame : List Byte) (start len : Nat) (big : Bool) : Nat :=
  (List.range len).foldl (fun v i =>
    let k := bitpos start i len big
    if bit (byteAt frame (k / 8)) (k % 8) then v + 2 ^ i else v) 0

/-- A frame with the field's bits replaced by those of `v` (R333). -/
def packField (frame : List Byte) (start len : Nat) (big : Bool) (v : Nat) : List Byte :=
  (List.range len).foldl (fun f i =>
    let k := bitpos start i len big
    let b := byteAt f (k / 8)
    let b1 := if bit b (k % 8) = bit v i then b else if bit v i then b + 2 ^ (k % 8) else b - 2 ^ (k % 8)
    f.set (k / 8) (BitVec.ofNat 8 b1)) frame

/-- Entry `i`, of word 0 `w0`, matches an input (R331); a capture goes to the entry SIGMAP alone (R207). Log entries 64 (DEDUCED), 65 (DEDUCED). -/
def sigMatches (i w0 : Nat) (x : MapIn) : Bool :=
  (x.only.isNone || x.only == some i) && bit w0 31 && bits w0 30 28 == x.kind &&
    (match x.kind with
     | 0 => bits w0 4 0 == x.sel
     | 1 => true
     | 2 => bits w0 1 0 == x.sel
     | 3 => bits w0 7 0 == x.sel
     | 4 => bits w0 15 0 == x.sel
     | _ => false)

/-- The value an entry unpacks from an input, none where its field reaches past the frame's end (R333). -/
def sigUnpack (w0 : Nat) (x : MapIn) : Option Int :=
  let signed := bit w0 26
  if x.kind = 4 then
    let v := beNat x.frame
    some (if signed then sgn 32 v else v)
  else
    let len := bits w0 15 11 + 1
    let start := bits w0 24 16
    let big := bit w0 25
    if fieldFits start len big x.frame.length then
      let v := unpackField x.frame start len big
      some (if signed then sgn len v else v)
    else none

/-- The value an entry computes: ((v · M) >> S) + B (R333). -/
def sigCompute (w1 w2 : Nat) (v : Int) : Int := v * sgn 16 (bits w1 31 16) / (2 ^ bits w1 15 12 : Nat) + sgn 32 w2

/-- A value held within `lo` to `hi`, and whether it was clamped. -/
def clampTo (lo hi x : Int) : Int × Bool := if x < lo then (lo, true) else if hi < x then (hi, true) else (x, false)

/-! A pass (R331, R334, R335). -/

/-- A slot a pass has written: its tunnel and signal ID, VALUE, FLAGS [6:0] and AGE (R334). -/
structure SigOut where
  tunnel : Nat
  id : Nat
  value : Int
  flags : Nat
  age : Nat

/-- What a pass has done so far: the hub, entries fired, slots in order of first write, and mailboxes to release at its end. -/
structure MapPass where
  st : Hub
  count : Nat := 0
  outs : List SigOut := []
  rel : List (Nat × Nat) := []

/-- A slot is written (R334, R335): a second write sets MULTI; a tunnel's 257th slot is dropped and counted. -/
def MapPass.put (P : MapPass) (o : SigOut) : MapPass :=
  if P.outs.any (fun x => x.tunnel == o.tunnel && x.id == o.id) then
    { P with outs := P.outs.map (fun x =>
        if x.tunnel == o.tunnel && x.id == o.id then { o with flags := o.flags ||| 0x20 } else x) }
  else if 256 ≤ (P.outs.filter (fun x => x.tunnel == o.tunnel)).length then { P with st := P.st.count Cnt.FBR_CNT_SIG_DROP 1 }
  else { P with outs := P.outs ++ [o] }

/-- FLAGS and AGE of a slot built from input `x` in this pass (R334). -/
def MapPass.flags (x : MapIn) (sat : Bool) : Nat := b2n sat * 0x40 + b2n x.err * 0x10 + b2n x.hold * 8

/-- AGE in the pass of tick `t` (R334). -/
def sigAge (x : MapIn) (t : Nat) : Nat := min 255 (x.age + (t - x.time / tickNs))

/-- Entry `i`, of words `e`, fires on input `x` with value `v` (R333 to R335). -/
def MapPass.fire (P : MapPass) (x : MapIn) (i : Nat) (e : List Nat) (v : Int) : MapPass :=
  let w1 := e.getD 1 0
  let w3 := e.getD 3 0
  let y := sigCompute w1 (e.getD 2 0) v
  let noted (s : Hub) : Hub := { s with fbr := { s.fbr with fired := Tab.put i v s.fbr.fired } }
  if bit w1 11 then
    let c := bits w3 31 30
    let m := bits w3 29 24
    let len := bits w3 14 10 + 1
    let start := bits w3 23 15
    if !fieldFits start len (bit w1 9) (P.st.mbLen c m) then { P with st := P.st.count Cnt.FBR_CNT_MAP_RANGE 1 }
    else
      let (z, sat) := if bit w1 10 then clampTo (-(2 ^ (len - 1) : Nat)) ((2 ^ (len - 1) : Nat) - 1) y
        else clampTo 0 ((2 ^ len : Nat) - 1) y
      let s1 := P.st.setMbData c m (packField (P.st.mbData c m) start len (bit w1 9) (enc len z))
      let s2 := if sat then s1.count Cnt.FBR_CNT_MAP_SAT 1 else s1
      { P with st := noted s2, count := P.count + 1, rel := if bit w1 8 then P.rel ++ [(c, m)] else P.rel }
  else
    let (z, sat) := clampTo (-(2 ^ 31)) (2 ^ 31 - 1) y
    let P1 := P.put ⟨bits w3 31 20, bits w3 15 0, z, MapPass.flags x sat, sigAge x P.st.tick⟩
    { P1 with st := noted P1.st, count := P.count + 1 }

/-- The largest number of entries a pass fires (R331). Log entry 65 (DEDUCED). -/
def mapLimit : Nat := 4096

/-- An entry is tried on an input (R331, R333). Log entry 65 (DEDUCED). -/
def MapPass.try' (P : MapPass) (x : MapIn) (i : Nat) (e : List Nat) : MapPass :=
  match sigUnpack (e.getD 0 0) x with
  | none => { P with st := P.st.count Cnt.FBR_CNT_MAP_RANGE 1 }
  | some v => if bit (e.getD 0 0) 27 && Tab.get? i P.st.fbr.fired == some v then P else P.fire x i e v

/-- The entries are tried on input `x` in increasing index, those with an uncorrectable error not (R420); the index at which the pass's limit stops it, if it does. -/
def mapEntries (x : MapIn) : (es : List (Nat × List Nat)) → (P : MapPass) → MapPass × Option Nat
  | [], P => (P, none)
  | (i, e) :: t, P =>
    if i < x.next || !sigMatches i (e.getD 0 0) x || P.st.entryBad 9 2 i then mapEntries x t P
    else if mapLimit ≤ P.count then (P, some i)
    else mapEntries x t (P.try' x i e)

/-- The inputs are taken in order; those left over wait for the next pass (R331). -/
def mapInputs (es : List (Nat × List Nat)) : (xs : List MapIn) → (P : MapPass) → MapPass × List MapIn
  | [], P => (P, [])
  | x :: xs, P =>
    let (P1, stop) := mapEntries x es P
    let (P2, rest) := mapInputs es xs P1
    match stop with
    | none => (P2, rest)
    | some i => (P2, { x with next := i } :: rest)

/-- An input placed in a list by its line time, after those of the same time (R331). -/
def insertIn (x : MapIn) : List MapIn → List MapIn
  | [] => [x]
  | y :: ys => if y.time ≤ x.time then y :: insertIn x ys else x :: y :: ys

/-- The 8 bytes of a slot (R334). -/
def slotBytes (o : SigOut) : List Byte :=
  beBytes 2 o.id ++ beBytes 4 (enc 32 o.value) ++ beBytes 1 (0x80 + o.flags) ++ beBytes 1 o.age

/-- The packet of tunnel `t`'s slots goes into its IN_QUEUE, or is counted as dropped where that is not an enabled CONTROL queue
(R335). -/
def Hub.sendSig (t : Nat) (os : List SigOut) (s : Hub) : Hub :=
  match ((Tab.get? t s.plan.tunnels).filter (fun u => u.kind == 4)).bind (fun u => u.inq) with
  | none => s.count Cnt.FBR_CNT_SIG_DROP os.length
  | some q =>
    if s.qEnabled q && s.qControl q then s.producePkt q .sigMap (os.flatMap slotBytes)
    else s.count Cnt.FBR_CNT_SIG_DROP os.length

/-- The tunnels of a pass's slots, in order of first write. -/
def sigTunnels (os : List SigOut) : List Nat := os.foldl (fun l o => if l.contains o.tunnel then l else l ++ [o.tunnel]) []

/-- The slots of a SIG packet dropped at line time `at'` as inputs: those with VALID (R331, R334). -/
def slotInputs (at' : Nat) : (fuel : Nat) → (bs : List Byte) → List MapIn
  | 0, _ => []
  | n + 1, bs =>
    let f := byteAt bs 6
    let rest := slotInputs at' n (bs.drop 8)
    if bit f 7 then
      { kind := 4, sel := beNat (slice bs 0 2), frame := slice bs 2 4, time := at', age := byteAt bs 7, err := bit f 4,
        hold := bit f 3 } :: rest
    else rest

/-- The oldest packet of a queue the map consumes, when it was dropped before this tick, becomes inputs; one whose length is not
a multiple of 8 is discarded and counted (R335). -/
def Hub.takeSig (q : Nat) (s : Hub) : Hub :=
  match s.readHead q with
  | (none, t) => t
  | (some p, t) =>
    let i := match p with
      | c :: _ => c.idx
      | [] => 0
    let at' := Tab.getD t.fbr.sigAt i 0
    if t.tick = at' / tickNs then t
    else
      let bs := t.pktBytes p
      let u := t.popPkt q
      let u1 : Hub := { u with fbr := { u.fbr with sigAt := Tab.del i u.fbr.sigAt } }
      if bs.length % 8 ≠ 0 then u1.count Cnt.FBR_CNT_SIG_BAD 1
      else { u1 with fbr := { u1.fbr with ins := u1.fbr.ins ++ slotInputs at' (bs.length / 8) bs } }

/-- The queues the signal map consumes (R335). -/
def Hub.sigQueues (s : Hub) : List Nat :=
  (s.pool.queues.filter (fun (e : Nat × Queue) => e.2.cons == some .sigMap)).map (fun e => e.1)

/-- Every SIG packet dropped before this tick becomes inputs. -/
def Hub.takeSigs (s : Hub) : Hub :=
  s.sigQueues.foldl (fun t q => (t.queue q).pkts.foldl (fun u _ => u.takeSig q) t) s

/-- SIGNAL_MAP_PASS: 1 µs into a tick, once in it, the map fires its entries on what arrived before the tick, builds its SIG packets and
releases mailboxes (R331 to R335). Log entry 65 (DEDUCED). -/
def execSignalMapPass (s : State) : Outcome State Fault Refusal := s.on fun s =>
  if !s.atL0 dFBR ∨ s.fbr.passed = some s.tick then s
  else
    let s0 := (({ s with fbr := { s.fbr with passed := some s.tick } } : Hub).advance (s.tick * tickNs + 1000)).takeSigs.touchAll 9
    let due := s0.fbr.ins.filter (fun x => decide (x.time / tickNs ≠ s0.tick))
    let later := s0.fbr.ins.filter (fun x => decide (x.time / tickNs = s0.tick))
    let xs := due.foldl (fun l x => insertIn x l) []
    let (P, rest) := mapInputs s0.fbr.sigMap xs { st := s0 }
    let s1 : Hub := { P.st with fbr := { P.st.fbr with ins := rest ++ later } }
    let s2 := s1.count Cnt.FBR_CNT_MAP_DEFER rest.length
    let s3 := (sigTunnels P.outs).foldl (fun t n => t.sendSig n (P.outs.filter (fun o => o.tunnel == n))) s2
    (P.rel.foldl (fun t r => t.mbRelease r.1 r.2) s3)

end Sys2Proof.Machine
end

