-- ==== Sys2Proof/Machine/Router.lean ====
section
/-! DEFINITION. Register accesses from every source (R9 to R12, R217, R438, R491 to R503): what a word at a BAR0 offset reads
as, and what a write of it does. -/

namespace Sys2Proof.Machine

open Host (Outcome)

/-! Finding a register. -/

/-- The element of an array of `n` words at `stride` from `base` that `off` is. -/
def arr (base n stride off : Nat) : Option Nat :=
  if base ≤ off ∧ off < base + n * stride ∧ (off - base) % stride = 0 then some ((off - base) / stride) else none

/-- The register at `off` and its indices (R491). -/
def regAt (off : Nat) : Option (Reg × List Nat) :=
  (regMapOf (off / 0x10000)).findSome? (fun r =>
    if r.off ≤ off then (dimIdx r.dims (off - r.off)).map (fun ix => (r, ix)) else none)

/-- The statistics counter whose LO word `lo` is (R118). -/
def isCounter (lo : Nat) : Bool :=
  (cntMapOf (lo / 0x10000)).any (fun c => decide (c.1 ≤ lo) && (dimIdx c.2 (lo - c.1)).isSome)

/-- The counter one of whose words lies at `off`, with whether it is the HI word: the maps, and the counters of the selected
queue and policer (R178, R270, R438). -/
def Hub.counterAt (s : Hub) (off : Nat) : Option (Nat × Bool) :=
  let lo := off / 8 * 8
  let q := s.getf Fld.CPL_QSEL_QUEUE
  let i := s.getf Fld.NET_POL_SEL_SEL
  if off % 4 ≠ 0 then none
  else if lo = 0x040030 then some (Cnt.CPL_QSTAT_DROPS q, off % 8 == 4)
  else if lo = 0x063008 then some (Cnt.NET_POL_CNT_GREEN i, off % 8 == 4)
  else if lo = 0x063010 then some (Cnt.NET_POL_CNT_YELLOW i, off % 8 == 4)
  else if lo = 0x063018 then some (Cnt.NET_POL_CNT_RED i, off % 8 == 4)
  else if isCounter lo then some (lo, off % 8 == 4)
  else none

/-- The field of a register instance. -/
def Fd.at' (f : Fd) (off : Nat) (ix : List Nat) : Fl := ⟨32 * off + f.lo, f.hi + 1 - f.lo, rstAt f.rst (ix.headD 0)⟩

/-- A field whose value a read returns (R9). -/
def Acc.shows : Acc → Bool
  | .wo => false
  | .wok => false
  | .rsv => false
  | _ => true

/-- What the fields of a register read as. -/
def Hub.regValue (s : Hub) (r : Reg) (off : Nat) (ix : List Nat) : Nat :=
  (r.fields.filter (fun f => f.acc.shows)).foldl (fun v f => v + s.getf (f.at' off ix) * 2 ^ f.lo) 0

/-! Values a read computes. -/

/-- PROD and CONS of CPL_QCFG_q by binding (R180). -/
def bindClass (w : Option Who) : Nat := (w.map Who.cls).getD 0

/-- CPL_QCFG_q (R180): of queues 0 to 19 the fixed bindings of R161, a capture queue's read port apart. -/
def Hub.readQcfg (s : Hub) (q : Nat) : Nat :=
  let prod := if q < 20 then s.getf (Fld.CPL_QCFG_PROD q) else bindClass (s.queue q).prod
  let cons := if q < 20 then (if bindClass (s.queue q).cons = 5 then 5 else s.getf (Fld.CPL_QCFG_CONS q))
    else bindClass (s.queue q).cons
  s.getf (Fld.CPL_QCFG_EN q) * 2 ^ 31 + s.getf (Fld.CPL_QCFG_KIND q) * 2 ^ 30 + prod * 2 ^ 27 + cons * 2 ^ 24
    + s.getf (Fld.CPL_QCFG_PROFILE q) * 2 ^ 16

/-- The snapshot of the selected queue (R176). -/
def Hub.selSnap (s : Hub) : QSnap := Tab.getD s.pool.snaps (s.getf Fld.CPL_QSEL_QUEUE) {}

/-- One bit per queue from queue 32·w up. -/
def Hub.queueBits (s : Hub) (w : Nat) (f : Queue → Bool) : Nat :=
  (List.range 32).foldl (fun v j => if f (s.queue (32 * w + j)) then v + 2 ^ j else v) 0

/-- One bit per switched domain. -/
def Hub.domBits (f : Nat → Bool) : Nat := (List.range 24).foldl (fun v d => if f d then v + 2 ^ d else v) 0

/-- VHV in 10 mV (R377): the highest of the outer sides of PC0, PC1 and PC6 and the line bus. Log entry 21 (DEDUCED). -/
def Hub.readVhv (s : Hub) : Nat :=
  ([0, 1, 6].foldl (fun (m : Int) c => max m (max (s.chan c).vo (s.chan c).vi)) 0 / 10).toNat % 65536

/-- REL_STATUS (R440). Log entry 53 (DEDUCED). -/
def Hub.readRelStatus (s : Hub) : Nat :=
  let log := ((List.range 16).filter (fun i => s.flag (Fld.REL_ECC_LOG_0_VALID i))).length
  let eq := s.trunk.lanes.any (fun (e : Nat × Lane) => !e.2.staged.isEmpty)
  s.rel.acts.length * 2 ^ 24 + log * 2 ^ 8 + b2n eq * 4 + b2n (!s.rel.assistAt.isEmpty) * 2 + b2n s.rel.avsAt.isSome

/-- REL_LM_STATUS_b (R439): cells withheld are those of the bank that allocation does not use. Log entry 89 (DEDUCED). -/
def Hub.readBank (s : Hub) (b : Nat) : Nat :=
  s.getf (Fld.REL_LM_STATUS_TEST b) * 2 ^ 24 + s.fieldRepairs b * 2 ^ 16 + s.withheldIn (65536 * b) (65536 * b + 65536) % 65536

/-- PROGRESS of slot `i` (R440): points scanned or cells withheld while an activity runs, else as it ended. -/
def Hub.readProgress (s : Hub) (i : Nat) : Nat :=
  match s.rel.acts.find? (fun a => a.slot == i) with
  | none => s.getf (Fld.REL_MAINT_STAT_2_PROGRESS i)
  | some a =>
    if a.id / 4096 = mtEye then min 2048 ((s.up - a.at') / tickNs)
    else if a.id / 4096 = mtBist ∧ !a.testing then s.withheldIn (65536 * a.target) (65536 * a.target + 65536)
    else s.getf (Fld.REL_MAINT_STAT_2_PROGRESS i)

/-- LTM_TIO_IN (R209): an input's filtered level, and the level an output drives. Log entry 20 (DEDUCED). -/
def Hub.readTioIn (s : Hub) : Nat :=
  (List.range 32).foldl (fun v n => if (if s.pinOut n then (s.pin n).level else (s.pin n).ball != s.flag (Fld.LTM_TIO_CFG_POL n)) then v + 2 ^ n else v) 0

/-- The mailbox, by 64·c + m, whose data field holds offset `off` (R338). -/
def mbDataAt (off : Nat) : Option Nat :=
  let o := off - 0x092000
  if 0x092000 ≤ off ∧ o / 0x2000 < 4 ∧ 0x20 ≤ o % 0x80 ∧ o % 0x80 < 0x60 then some (64 * (o / 0x2000) + o % 0x2000 / 0x80) else none

/-- A read of a mailbox's data passes over its words in the engine buffers; discarded content reads 0 (R420). -/
def Hub.readMbData (off : Nat) (s : Hub) : Nat × Hub :=
  let o := off - 0x092000
  let c := o / 0x2000
  let m := o % 0x2000 / 0x80
  (beNat (slice (s.mbData c m) (o % 0x80 - 0x20) 4), s.mbTouch c m)

/-- Values of registers that no field holds; `none` where the fields are the value. Log entry 53 (DEDUCED). -/
def Hub.computed (s : Hub) (off : Nat) : Option Nat :=
  match off / 0x10000 with
  | 0x00 =>
    if off = 0x000008 ∧ s.isHead then some 0
    else if off = 0x000018 then some (s.getf Fld.GEN_EVT_STATUS_OVERRUN * 2 ^ 31 + s.ev.used * 2 ^ 16 + s.ev.keptUsed) else none
  | 0x01 =>
    if off = 0x010018 ∧ s.isHead then some 0
    else if (match arr 0x014000 1024 4 off with | some r => s.ringType r != 3 && s.ringType r != 4 | none => false) then some 0
    else if (match arr 0x015000 1024 4 off with | some r => s.ringType r != 4 | none => false) then some 0
    else if 0x018000 + 16 * s.vectors ≤ off ∧ !s.isHead then some 0
    else none
  | 0x02 => if off = 0x020024 ∧ s.deployed then some 1 else none
  | 0x04 =>
    let z := s.selSnap
    if off = 0x040000 then
      some (s.pool.carve / 256 * 2 ^ 16 + b2n (decide (s.pool.carve < s.pool.carveEff)) * 2 + b2n s.pool.claim.isSome)
    else if off = 0x040018 then some z.occ
    else if off = 0x04001C then some z.pkts
    else if off = 0x040020 then
      some (b2n (z.gap.cause != 0) * 8 + b2n (bit z.gap.cause 2) * 4 + b2n (s.queue (s.getf Fld.CPL_QSEL_QUEUE)).overrun * 2
        + b2n z.full)
    else if off = 0x040024 then some z.gap.pkts
    else if off = 0x040028 then some z.gap.cells
    else match arr 0x042000 256 4 off, arr 0x042400 256 4 off, arr 0x048000 8192 4 off with
      | some w, _, _ => some (s.queueBits w (fun q => q.overrun))
      | _, some w, _ => some (s.queueBits w (fun q => q.full))
      | _, _, some q => some (s.readQcfg q)
      | _, _, _ => none
  | 0x05 =>
    if off = 0x050018 ∧ !s.isHead then some 0
    else if off = 0x050180 then some s.tioLevel
    else if off = 0x050184 then some s.readTioIn
    else none
  | 0x0C =>
    if off = 0x0C0000 then
      some (s.getf Fld.LPW_STATUS_PG * 2 ^ 24 + s.getf Fld.LPW_STATUS_RAIL_EN * 2 ^ 18 + s.readVhv)
    else none
  | 0x0D =>
    if off = 0x0D0008 then some (Hub.domBits s.domFailed)
    else if off = 0x0D000C then some (Hub.domBits s.atL0)
    else match arr 0x0D0100 24 4 off, arr 0x0D0200 24 4 off with
      | some d, _ => some (b2n (s.dom d).armedMgt.isSome * 256 + s.getf (Fld.PWR_DOM_MODE_TARGET d))
      | _, some d => some (s.readDomStatus d)
      | _, _ => none
  | 0x0E =>
    if off = 0x0E0000 then some s.readRelStatus
    else match arr 0x0E0440 4 4 off, arr 0x0E0218 4 16 off, arr 0x0E0300 48 4 off, arr 0x0E0400 16 4 off with
      | some b, _, _, _ => some (s.readBank b)
      | _, some i, _, _ => some (s.readProgress i)
      | _, _, some n, _ =>
        some (s.getf (Fld.REL_RO_DELTA n) * 2 ^ 16 + s.getf (Fld.REL_RO_TEMP n) * 2 ^ 8 + s.getf (Fld.REL_RO_VALID n) * 2 ^ 7
          + (if s.flag (Fld.REL_RO_VALID n) then min 127 ((s.upTick - Tab.getD s.rel.roAt n 0) / (3600 * ticksPerSec)) else 0))
      | _, _, _, some n =>
        some (s.getf (Fld.REL_MARGIN_MH n) * 2 ^ 24 + s.getf (Fld.REL_MARGIN_MV n) * 2 ^ 16 + s.getf (Fld.REL_MARGIN_SHORT n) * 2 ^ 8
          + s.getf (Fld.REL_MARGIN_VALID n) * 2 ^ 7
          + (if s.flag (Fld.REL_MARGIN_VALID n) then min 127 ((s.upTick - Tab.getD s.rel.scanAt n 0) / (60 * ticksPerSec)) else 0))
      | _, _, _, _ => none
  | 0x0F =>
    if off = 0x0F0100 ∧ s.flag Fld.SEC_DBG_CTL_OPEN then
      some (2 ^ 28 + s.getf Fld.SEC_DBG_CTL_KEY_SLOT * 2 ^ 8 + s.sec.dbgScope)
    else none
  | _ => none

/-! Table windows (R150, R209, R439, R464, R502, R503). -/

/-- A tunnel entry in the layout of R127. -/
def tunBytes (t : Nat) (u : Tun) : List Byte :=
  leBytes 2 (2 ^ 15 + t) ++ leBytes 1 (b2n u.expValid * 32 + u.dir * 16 + u.kind) ++ leBytes 1 u.hops ++ leBytes 2 u.first
    ++ leBytes 2 u.last ++ leBytes 8 u.refs ++ leBytes 2 u.nextSeq ++ leBytes 2 u.expSeq ++ leBytes 4 u.bind ++ zeros 8

/-- A launch record in host layout, with its STATE (R197, R209). -/
def launchBytes (slot : Nat) (l : Launch) : List Byte :=
  leBytes 8 l.time ++ leBytes 2 l.dst ++ leBytes 1 l.action ++ leBytes 1 l.flags ++ leBytes 2 l.target ++ leBytes 2 (2 ^ 15 + slot)
    ++ flipArg l.action (beBytes 8 l.arg) ++ leBytes 8 l.cookie

/-- A word of the dump read window at byte `o` of the page (R464). Log entry 22 (DESIGN CHOICE). -/
def Hub.dumpWord (s : Hub) (o : Nat) : Nat :=
  let page := s.getf Fld.GEN_RD_WIN_SEL_PAGE
  let a := page * 0x20000 + o
  if s.flag Fld.GEN_RD_WIN_SEL_SRC then
    (if s.preserved && decide (page < 8) then leNat (s.memRead (256 * regionLo + a) 4) else 0)
  else if 128 ≤ page ∨ (0x880000 ≤ a ∧ a < 0x8A0000) then 0
  else leNat (s.flashRead a 4)

/-- The eye-map view covers `off` (R503). -/
def Hub.eyeView (s : Hub) (off : Nat) : Bool :=
  s.flag Fld.GEN_TBL_VIEW_EYE && decide (0x1B0000 ≤ off) && decide (off < 0x1B4000)

/-- The read-window view covers `off` (R503). Log entry 22 (DESIGN CHOICE). -/
def Hub.dumpView (s : Hub) (off : Nat) : Bool :=
  s.flag Fld.GEN_TBL_VIEW_RD && decide (0x1C0000 ≤ off) && decide (off < 0x1E0000)

/-- A word of the table windows. Log entry 22 (DESIGN CHOICE). -/
def Hub.windowWord (s : Hub) (off : Nat) : Nat :=
  if off < 0x180000 then
    let e := (off - 0x100000) / 8
    let run := match Tab.get? (e / 32768) s.plan.banks with
      | none => 0
      | some c => c.entry (e % 32768)
    if off % 8 = 0 then run % 2 ^ 32 else run / 2 ^ 32
  else if off < 0x1A0000 then
    let t := (off - 0x180000) / 32
    match Tab.get? t s.plan.tunnels with
    | none => 0
    | some u => leAt (tunBytes t u) (off % 32) 4
  else if s.eyeView off then
    let m := Tab.getD s.rel.eyeMaps ((off - 0x1B0000) / 0x1000) []
    let i := off % 0x1000 / 2
    m.getD i 0 + 2 ^ 16 * m.getD (i + 1) 0
  else if s.dumpView off then s.dumpWord (off - 0x1C0000)
  else if off < 0x1E0000 then (s.flow ((off - 0x1A0000) / 32)).getD (off % 32 / 4) 0
  else if off < 0x1E8000 then
    let i := (off - 0x1E0000) / 32
    match Tab.get? i s.time.launches with
    | none => 0
    | some l => leAt (launchBytes i l) (off % 32) 4
  else if 0x1F0000 ≤ off ∧ off < 0x1F8000 then (s.sigEntry ((off - 0x1F0000) / 16)).getD (off % 16 / 4) 0
  else 0

/-! Reads. -/

/-- An access to `off` reaches a block that answers nothing: its domain is not at L0 (R404), or the hub is held and serves only
GEN_ID, GEN_BOOT_STATUS and the SEC registers (R455). A view over the flow table is not the sleeping table's. Log entry 145 (DEDUCED). -/
def Hub.offDead (s : Hub) (off : Nat) : Bool :=
  (s.isHeld && off != 0x000000 && off != 0x000100 && off / 0x10000 != 0x0F)
    || (s.offAsleep off && !s.eyeView off && !s.dumpView off)

/-- The word at `off` is read: its value and the state after it (R9, R173, R183, R217, R438). Log entries 12 (DESIGN CHOICE), 18 (DEDUCED). -/
def Hub.readWord (off : Nat) (s : Hub) : Nat × Hub :=
  if s.offDead off then (0, s)
  else if (mbDataAt off).isSome then s.readMbData off
  else if 0x100000 ≤ off then (s.windowWord off, s)
  else if off = 0x050004 then
    (s.now % 2 ^ 32, s.latchTime s.now s.nowFrac)
  else match arr 0x040208 16 16 off, arr 0x04020C 16 16 off, s.counterAt off, s.computed off, regAt off with
    | some p, _, _, _, _ => s.readQrpLow p false
    | _, some p, _, _, _ => s.readQrpHigh p
    | _, _, some (c, hi), _, _ =>
      let v := Tab.getD s.cntSnap c {}
      (if hi then v.v / 2 ^ 32 + b2n v.sat * 2 ^ 31 else v.v % 2 ^ 32, s)
    | _, _, _, some v, _ => (v, s)
    | _, _, _, _, some (r, ix) => (s.regValue r off ix, s)
    | _, _, _, _, none => (0, s)

/-! Writes. -/

/-- The index that offset `off` has in an array of registers that starts at `base` with stride `st`. -/
def ixOf (off base st : Nat) : Nat := (off - base) / st

/-- Whether a locked field of the register at `off` takes a write now (R497, and the owning rules). -/
def Hub.lockOpen (s : Hub) (k : LockKind) (off : Nat) : Bool :=
  match k with
  | .hubAddr => !s.isHead && bit (s.getf Fld.GEN_SETUP_OPEN) 0
  | .dbBase => !s.flag Fld.HIF_CTL_DB_EN
  | .atNode => !s.isHead
  | .ring =>
    !s.ringEn (if off < 0x013000 then ixOf off 0x011000 8 else if off < 0x014000 then ixOf off 0x013000 4
      else if off < 0x015000 then ixOf off 0x014000 4 else ixOf off 0x015000 4)
  | .msix => decide (ixOf off 0x018000 16 < s.vectors)
  | .sigReq => bit (s.getf Fld.GEN_SETUP_OPEN) 2 && !s.deployed
  | .origin => s.isHead && s.gmSource != 1
  | .selfEn => !s.flag ⟨32 * off + 31, 1, 0⟩
  | .dsp => !s.flag (Fld.DSP_HEAD_CFG_EN (ixOf off 0x080100 0x100))
  | .winEn => !s.flag (Fld.FBR_WIN_CFG_EN (ixOf off 0x090100 16))
  | .canEn => !s.flag (Fld.FBR_CAN_CFG_EN (ixOf off 0x091000 0x20))
  | .lpwWin => !([2, 3, 4, 5].contains (ixOf off 0x0C0100 0x80))
  | .ptpRole => true
  | .loopRun => true
  | .qfix => true
  | .qEn => true
  | .atHead => true
  | .blkHead => true
  | .blkEn => true
  | .lpwMode => true
  | .flip => true
  | .flipArm => true

/-- A lock that ignores a write without GEN_LOCKED_WRITE: the field is RO then (R9). Log entry 16 (DEDUCED). -/
def LockKind.silent : LockKind → Bool
  | .atNode => true
  | .msix => true
  | .origin => true
  | .lpwWin => true
  | _ => false

/-- An encoding the field's rule lists as reserved, or that lies outside the range it states (R11); address 0x000, which a fused node never takes (R22); the PTP slave roles are valid only at the head's PTP port (R268). Log entries 15 (DEDUCED), 175 (DESIGN CHOICE). -/
def Hub.badEncoding (s : Hub) (f : Fd) (off v : Nat) : Bool :=
  f.bad.any (fun b => decide (b.1 ≤ v) && decide (v ≤ b.2))
    || (f.acc == .locked .hubAddr && v == 0 && s.flag Fld.GEN_STRAPS_FUSED)
    || (f.acc == .locked .ptpRole && (v == 3 || v == 4)
        && !(s.isHead && s.getf Fld.LTM_GM_CFG_PTP_PORT == ixOf off 0x060110 0x100))

/-- One field of the register at `off` takes its part of the write `v` (R9 to R12); the Bool says whether the field ignored a
value that differs from its own under a lock. Log entries 13 (DEDUCED), 16 (DEDUCED). -/
def Hub.writeField (off : Nat) (ix : List Nat) (v : Nat) (f : Fd) (s : Hub) : Bool × Hub :=
  let l := f.at' off ix
  let x := bits v f.hi f.lo
  match f.acc with
  | .rw => if s.badEncoding f off x then (false, s) else (false, s.setf l x)
  | .wok => (false, s.setf l x)
  | .w1c => (false, s.setf l (s.getf l &&& (2 ^ l.width - 1 - x)))
  | .w1s => (false, s.setf l (s.getf l ||| x))
  | .locked k =>
    if s.badEncoding f off x && !(k == .hubAddr && s.isHead) then (false, s)
    else if s.lockOpen k off then (false, s.setf l x)
    else (!k.silent && x != (if k == .hubAddr && s.isHead then 0 else s.getf l), s)
  | .ro => (false, s)
  | .wo => (false, s)
  | .rsv => (false, s)

/-- The fields of a register take a write in turn, all under the locks as they stood; GEN_LOCKED_WRITE is raised once if one
ignored a value (R10, R12). Fields are written from bit 0 up, so that an EN in bit 31 comes last. Log entries 13 (DEDUCED), 15 (DEDUCED). -/
def Hub.writeFields (r : Reg) (off : Nat) (ix : List Nat) (v : Nat) (s : Hub) : Hub :=
  let step (a : Bool × Hub) (f : Fd) : Bool × Hub :=
    let b := a.2.writeField off ix v f
    (a.1 || b.1, b.2)
  let out := r.fields.reverse.foldl step (false, s)
  if out.1 then out.2.lockedWrite off v else out.2

/-- Registers of GEN, HIF, PLN, TRK and CPL whose writes act (R9); `none` where the fields take the write as they stand. -/
def Hub.writeLow (off v : Nat) (s : Hub) : Option Hub :=
  match off / 0x10000 with
  | 0x00 =>
    if off = 0x000104 then some (s.writeReset v)
    else if off = 0x000110 then
      some (s |>.setf Fld.GEN_RD_WIN_SEL_SRC (bits v 31 31) |>.setf Fld.GEN_RD_WIN_SEL_PAGE (bits v 7 0)
        |>.setf Fld.GEN_TBL_VIEW_RD 1)
    else if off = 0x000114 then some (if bit v 0 then s.releaseRegion else s)
    else none
  | 0x01 =>
    if off = 0x010010 then some (s.writeNudge v)
    else match arr 0x011000 2048 4 off, arr 0x013000 1024 4 off, arr 0x014000 1024 4 off, arr 0x015000 1024 4 off,
        arr 0x01800C 2048 16 off with
      | some _, _, _, _, _ => if s.vectors = 0 then some s else none
      | _, some r, _, _, _ => some (s.writeRingCfg r v)
      | _, _, some r, _, _ => if s.vectors = 0 ∨ (s.ringType r ≠ 3 ∧ s.ringType r ≠ 4) then some s else none
      | _, _, _, some r, _ => if s.vectors = 0 ∨ s.ringType r ≠ 4 then some s else none
      | _, _, _, _, some x => some (s.writeMsixCtl x v)
      | _, _, _, _, _ => none
  | 0x03 =>
    match arr 0x030004 2 0x40 off, arr 0x030008 2 0x40 off with
    | some p, _ => some (s.writePortCtl p v)
    | _, some p => some (s.writeLoopCtl p v)
    | _, _ => none
  | 0x04 =>
    let unset (q : Nat) (t : Hub) : Hub := t.setQueue q { t.queue q with overrun := false }
    if off = 0x040010 then some (s.writeGenLow v)
    else if off = 0x040020 then some (if bit v 1 then unset (s.getf Fld.CPL_QSEL_QUEUE) s else s)
    else if off = 0x04002C then some (s.writeQctl v)
    else match arr 0x040200 16 16 off, arr 0x041000 256 8 off, arr 0x041004 256 8 off, arr 0x042000 256 4 off,
        arr 0x048000 8192 4 off with
      | some p, _, _, _, _ => some (s.writeQrpSel p v)
      | _, some i, _, _, _ => some (s.writeProfMin i v)
      | _, _, some i, _, _ => some (s.writeProfMax i v)
      | _, _, _, some w, _ => some ((List.range 32).foldl (fun t j => if bit v j then unset (32 * w + j) t else t) s)
      | _, _, _, _, some q => some (s.writeQcfg q v)
      | _, _, _, _, _ => none
  | _ => none

/-- Registers of LTM, NET, BLK, DSP and FBR whose writes act. -/
def Hub.writeMid (off v : Nat) (s : Hub) : Option Hub :=
  match off / 0x10000 with
  | 0x05 =>
    if off = 0x050018 then some (s.writeGmCfg v)
    else if off = 0x050180 then some (s.writeTioLevel v)
    else match arr 0x05001C 3 4 off, arr 0x050100 32 4 off with
      | some i, _ => some (s.writeOrigin i v)
      | _, some n => some (s.writeTioCfg n v)
      | _, _ => none
  | 0x06 =>
    let p := (off - 0x060100) / 0x100
    match arr 0x06010C 4 0x100 off, arr 0x060118 4 0x100 off, arr (0x060160 + 0x100 * p) 8 4 off, arr 0x068000 8192 4 off with
    | some p, _, _, _ => some (s.writeEgq p v)
    | _, some p, _, _ =>
      let s1 := s.setb (Fld.NET_GL_CTL_ENABLE p) (bit v 31) |>.setb (Fld.NET_GL_STATUS_ACTIVE p) (bit v 31)
      let s2 := if bit v 1 then s1.clearGatePend p else s1
      some (if bit v 0 then s2.commitGates p v else s2)
    | _, _, some j, _ => if p < 4 then some (s.writeRelq p j v) else none
    | _, _, _, some w =>
      some (if w % 8 = 0 then s.commitPol (w / 8) v else if w % 8 ≤ 4 then s.holdPol (w / 8) (w % 8) v else s)
    | _, _, _, _ => none
  | 0x07 => (arr 0x070100 2 0x80 off).map (fun d => s.writeBlkCfg d v)
  | 0x08 =>
    match arr 0x080100 2 0x100 off, arr 0x080128 2 0x100 off, arr 0x08012C 2 0x100 off, arr 0x080130 2 0x100 off with
    | some h, _, _, _ => some (s.writeHeadCfg h v)
    | _, some h, _, _ => some (s.writeFrz h 0 v)
    | _, _, some h, _ => some (s.writeFrz h 1 v)
    | _, _, _, some h => some (s.writeFrz h 2 v)
    | _, _, _, _ => none
  | 0x09 =>
    if off = 0x090004 then some (s.writeWinClear v)
    else match arr 0x090100 64 16 off, arr 0x091000 4 0x20 off, arr 0x091010 4 0x20 off, arr 0x091014 4 0x20 off with
      | some w, _, _, _ => some (s.writeWinCfg w v)
      | _, some c, _, _ => some (s.writeCanCfg c v)
      | _, _, some c, _ => some (s.writeTxreq c false v)
      | _, _, _, some c => some (s.writeTxreq c true v)
      | _, _, _, _ => none
  | _ => none

/-- TCP_PORT_CTL_n (R373). Log entry 162 (DEDUCED). -/
def Hub.writeTcpCtl (n v : Nat) (s : Hub) : Hub :=
  let s1 := if bit v 0 then s.recaps n else s
  let s2 := if bit v 1 then s1.tcHardReset n true else s1
  let s3 := if bit v 2 then s2.vconnTake n else s2
  if bit v 3 then s3.dpExit n else s3

/-- Registers of TCP, LPW, PWR, REL and SEC whose writes act. Log entry 88 (DEDUCED). -/
def Hub.writeHigh (off v : Nat) (s : Hub) : Option Hub :=
  match off / 0x10000 with
  | 0x0B =>
    match arr 0x0B0100 4 0x40 off, arr 0x0B0104 4 0x40 off with
    | some n, _ => some (s.writePortCfg n v)
    | _, some n => some (s.writeTcpCtl n v)
    | _, _ => none
  | 0x0C =>
    match arr 0x0C0100 8 0x80 off, arr 0x0C0104 8 0x80 off, arr 0x0C015C 8 0x80 off, arr 0x0C1000 128 4 off with
    | some c, _, _, _ => some (s.writeChCfg c v)
    | _, some c, _, _ => some (if bit v 0 then s.chClear c else s)
    | _, _, some c, _ => some (s.setf (Fld.LPW_CH_IPEAK c) 0)
    | _, _, _, some i => some (if i % 16 = 0 then s.commitGnt (i / 16) v else s.holdGnt (i / 16) (i % 16 / 2) (i % 2) v)
    | _, _, _, _ => none
  | 0x0D =>
    match arr 0x0D0100 24 4 off, arr 0x0D0300 24 4 off, arr 0x0D0600 24 4 off with
    | some d, _, _ => some (s.writeDomMode d v false)
    | _, some d, _ => some (s.writeDomCtl d v)
    | _, _, some d => some (s.clearRefuse d)
    | _, _, _ => none
  | 0x0E =>
    if off = 0x0E002C then some (s.writeFlipCtl v)
    else if off = 0x0E0030 then some (if bit v 0 then s.clearLog else s)
    else if off = 0x0E0200 then some (s.writeMaintReq v)
    else if off = 0x0E0208 then some (s.writeMaintStop (bits v 15 0))
    else (arr 0x0E0020 3 4 off).map (fun i => s.writeFlipMask i v)
  | 0x0F =>
    if off = 0x0F0004 then some (s.writeLcCtl v)
    else if off = 0x0F000C then some (s.writeBootCtl v)
    else if off = 0x0F0010 then some (s.writeKhashCtl v)
    else if off = 0x0F0040 then some (s.writeKeyCtl v)
    else if off = 0x0F0100 then some (s.writeDbgCtl v)
    else if off = 0x0F0204 then some (s.writeFlashCmd v)
    else none
  | _ => none

/-- The gadget leaves the bus where USB_CFG.GADGET_EN is cleared: its hub port is no longer enabled, and its session locks (R365, R369). -/
def Hub.gadgetGone (s : Hub) : Hub := if s.flag Fld.USB_CFG_GADGET_EN then s else (s.usbGone 4).gadgetReset

/-- What follows a write that the fields took: a new window or TINS restarts a qualification (R399), a new budget gives new
grants (R349), and a port that is disabled loses its link (R272). -/
def Hub.afterWrite (off : Nat) (s : Hub) : Hub :=
  if off = 0x0B0000 then s.regrant
  else if off = 0x0A0000 then s.gadgetGone
  else match arr 0x060100 4 0x100 off, arr 0x0C010C 8 0x80 off, arr 0x0C0114 8 0x80 off with
    | some p, _, _ => if s.flag (Fld.NET_PORT_CFG_EN p) then s else s.ethOff p
    | _, some c, _ => if 2 ≤ c ∧ c ≤ 5 then s else s.restartQualify c
    | _, _, some c => s.restartQualify c
    | _, _, _ => s

/-- A write of the table windows (R502): the flow table and the signal map take it, the others and the views ignore it. -/
def Hub.writeWindow (off v : Nat) (s : Hub) : Hub :=
  let flow := decide (0x1A0000 ≤ off) && decide (off < 0x1E0000)
  if 0x1E8000 ≤ off ∧ off < 0x1F0000 ∨ 0x1F8000 ≤ off then s
  else if s.eyeView off || s.dumpView off || (!flow && decide (off < 0x1F0000)) then
    (if s.windowWord off = v then s else s.lockedWrite off v)
  else if flow then
    let f := (off - 0x1A0000) / 32
    let w := off % 32 / 4
    if w = 0 then s.commitFlow f v else s.holdFlow f w v
  else
    let i := (off - 0x1F0000) / 16
    let w := off % 16 / 4
    if w = 0 then s.commitSig i v else s.holdSig i w v

/-- The fields of a sleeping domain still hold their values: in retention, or in what a save kept (R403, R405). -/
def Hub.sleepKeeps (s : Hub) (off : Nat) : Bool :=
  match domainOf off with
  | none => true
  | some d => decide (s.domStep d ≤ 2) || (s.dom d).saved.isSome

/-- A field of a sleeping block would change under its part of a write `v`: the one sense in which R404 ignores it (R10). A field whose
value is lost is held to hold 0, as it reads. Log entry 145 (DEDUCED). -/
def Hub.sleepField (s : Hub) (off : Nat) (ix : List Nat) (v : Nat) (f : Fd) : Bool :=
  let l := f.at' off ix
  let x := bits v f.hi f.lo
  let h := if s.sleepKeeps off then s.getf l else 0
  match f.acc with
  | .ro => false
  | .rsv => false
  | .wo => x != 0
  | .wok => x != 0
  | .w1c => h &&& x != 0
  | .w1s => h ||| x != h
  | .rw => x != h
  | .locked _ => x != h

/-- A sleeping block would change under a write of `v` at `off`, and ignores it (R10, R404). Log entry 145 (DEDUCED). -/
def Hub.sleepIgnores (s : Hub) (off v : Nat) : Bool :=
  if 0x100000 ≤ off then v != (if s.sleepKeeps off then s.windowWord off else 0)
  else match s.counterAt off, regAt off with
    | some (c, _), _ => s.sleepKeeps off && s.cnt c != {}
    | none, some (r, ix) => r.fields.any (s.sleepField off ix v)
    | none, none => false

/-- The word `v` is written at `off` (R9 to R12, R217). A block that answers nothing because its domain sleeps ignores it with
GEN_LOCKED_WRITE (R404). Log entries 12 (DESIGN CHOICE), 145 (DEDUCED). -/
def Hub.writeWord (off v : Nat) (s : Hub) : Hub :=
  if s.offDead off then (if !s.isHeld && s.sleepIgnores off v then s.lockedWrite off v else s)
  else if 0x100000 ≤ off then s.writeWindow off v
  else match s.counterAt off with
    | some (c, _) => s.clearCnt c
    | none =>
      match (s.writeLow off v).orElse (fun _ => (s.writeMid off v).orElse (fun _ => s.writeHigh off v)) with
      | some t => t
      | none =>
        match regAt off with
        | some (r, ix) => (s.writeFields r off ix v).afterWrite off
        | none => s

/-- Events that say a write was refused or ignored: their codes (R230). -/
def refusalCodes : List Nat :=
  [Evt.GEN_LOCKED_WRITE.code, Evt.CPL_QUOTA_REFUSED.code, Evt.NET_CFG_REFUSED.code, Evt.DSP_CFG_REFUSED.code,
   Evt.FBR_CFG_REFUSED.code, Evt.LPW_CFG_REFUSED.code, Evt.SEC_LC_REFUSED.code, Evt.SEC_KEY_REFUSED.code, Evt.HIF_RING_ERROR.code]

/-- The write of `v` at `off` would be ignored, in part or whole, under RWL or a refusal rule (R10, R230): it would raise an
event that says so. Log entry 14 (DEDUCED). -/
def Hub.wouldIgnore (s : Hub) (off v : Nat) : Bool :=
  ((({ s with ev := {} } : Hub).writeWord off v).ev.recs).any (fun r => refusalCodes.contains r.code)

/-- An offset a command may name a register at: aligned, and inside BAR0 (R217). Log entry 12 (DESIGN CHOICE). -/
def inBar (off : Nat) : Bool := off % 4 == 0 && decide (off < 0x200000)

/-- Words read from `off` up; one outside BAR0 reads 0. -/
def Hub.readWords : (n off : Nat) → (s : Hub) → List Nat × Hub
  | 0, _, s => ([], s)
  | n + 1, off, s =>
    let a := if inBar off then s.readWord off else (0, s)
    let b := Hub.readWords n (off + 4) a.2
    (a.1 :: b.1, b.2)

/-- Words written from `off` up, those outside BAR0 ignored; with the index of the first one ignored (R230). -/
def Hub.writeWords : (vs : List Nat) → (off i : Nat) → (first : Option Nat) → (s : Hub) → Option Nat × Hub
  | [], _, _, first, s => (first, s)
  | v :: t, off, i, first, s =>
    let bad := inBar off && s.wouldIgnore off v
    Hub.writeWords t (off + 4) (i + 1) (if first.isNone && bad then some i else first) (if inBar off then s.writeWord off v else s)

/-! BAR0 (R217). -/

/-- A BAR0 access the function takes: 4 or 8 aligned bytes. -/
def barOk (off size : Nat) : Bool := (size == 4 && off % 4 == 0) || (size == 8 && off % 8 == 0)

/-- A BAR0 read. A 64-bit one of CPL_QRP_DATA_p takes a word at once. -/
def Hub.barRead (off size : Nat) (s : Hub) : Hub :=
  if !barOk off size then (s.raise Evt.HIF_BAD_ACCESS [off, size]).emit (.readData off 0)
  else if size = 4 then (s.readWord off).2.emit (.readData off (s.readWord off).1)
  else match (if s.offDead off then none else arr 0x040208 16 16 off) with
    | some p => (s.readQrpLow p true).2.emit (.readData off (s.readQrpLow p true).1)
    | none =>
      let a := s.readWord off
      let b := a.2.readWord (off + 4)
      b.2.emit (.readData off (a.1 + 2 ^ 32 * b.1))

/-- A BAR0 write of the low bytes of `v`. Log entry 17 (DESIGN CHOICE). -/
def Hub.barWrite (off size v : Nat) (s : Hub) : Hub :=
  if !barOk off size then s.raise Evt.HIF_BAD_ACCESS [off, size]
  else if size = 4 then s.writeWord off (v % 2 ^ 32)
  else (s.writeWord off (v % 2 ^ 32)).writeWord (off + 4) (v / 2 ^ 32 % 2 ^ 32)

/-- BAR0 and BAR2 answer: the hub is ready, or its boot ROM holds it; until then a request is unsupported (R443, R455). -/
def Hub.barOpen (s : Hub) : Bool := s.flag Fld.GEN_BOOT_STATUS_READY || s.flag Fld.GEN_BOOT_STATUS_HELD

/-- REGISTER_WRITE (R9 to R12, R217): a BAR0 access of `size` bytes at `off`; a write of `data`, or a read where it is none. Log entry 17 (DESIGN CHOICE). -/
def execRegisterWrite (off : Fin 2097152) (size : Fin 256) (data : Option (BitVec 64)) (s : State) : Outcome State Fault Refusal := s.on fun s =>
  if !s.barOpen then s.emit (.unsupported off)
  else match data with
    | some v => (s.barWrite off size v.toNat)
    | none => (s.barRead off size)

/-- COUNTER_CLEAR (R438): a write to either word of the statistics counter at `off`; any other offset holds none. -/
def execCounterClear (off : Fin 2097152) (s : State) : Outcome State Fault Refusal := s.on fun s =>
  match (if s.offDead off then none else s.counterAt off) with
  | some (c, _) => (s.clearCnt c)
  | none => s

/-- GEN_SETUP_CLOSE (R495): a write of GEN_SETUP. -/
def execGenSetupClose (v : Word) (s : State) : Outcome State Fault Refusal := s.on fun s => (s.writeWord 0x00000C v.toNat)

/-- GEN_TBL_VIEW_WRITE (R503): a write of GEN_TBL_VIEW. -/
def execGenTblViewWrite (v : Word) (s : State) : Outcome State Fault Refusal := s.on fun s => (s.writeWord 0x000020 v.toNat)

/-- GEN_RD_WIN_SEL_WRITE (R464, R503): a write of GEN_RD_WIN_SEL. -/
def execGenRdWinSelWrite (v : Word) (s : State) : Outcome State Fault Refusal := s.on fun s => (s.writeWord 0x000110 v.toNat)

end Sys2Proof.Machine
end

