-- ==== Sys2Proof/Machine/BoardConfig.lean ====
section
/-! DEFINITION. The board configuration (R56 to R58, R372, R398, R442 step 7, R454). -/

namespace Sys2Proof.Machine

open Host (Outcome)

/-- The base of a board configuration copy (R451). -/
def cfgBase (i : Nat) : Nat := 0x800000 + 0x40000 * i

/-- Why board configuration copy `i` does not verify, 0 where it does (R454). -/
def Hub.cfgFault (s : Hub) (i : Nat) : Nat := s.imageFault (cfgBase i) 0x0960B0C0 (262144 - 256) 1 false

/-- The records of a board configuration body as (TYPE, contents) (R454). Log entry 23 (PRESUMED). -/
def cfgRecords : (fuel : Nat) → (bs : List Byte) → List (Nat × List Byte)
  | 0, _ => []
  | n + 1, bs =>
    if bs.length < 4 then []
    else (beNat (slice bs 0 2), slice bs 4 (beNat (slice bs 2 2))) :: cfgRecords n (bs.drop (4 + beNat (slice bs 2 2)))

/-- The registers of a channel that settings can set: CFG, and WIN to FET1 (R398). Log entry 23 (PRESUMED). -/
def lpwSetting (o : Nat) : Bool := o == 0 || (decide (0x0C ≤ o) && decide (o ≤ 0x24))

/-- LPW channel settings: the words of the LPW_CH registers from 0x0C_0100 up, most significant byte first as in every flash
format (R56, R398). -/
def Hub.applyLpwCfg (bs : List Byte) (s : Hub) : Hub :=
  (List.range (min 256 (bs.length / 4))).foldl (fun t i =>
    if lpwSetting (4 * i % 0x80) then t.writeWord (0x0C0100 + 4 * i) (beNat (slice bs (4 * i) 4)) else t) s

/-- TCP_PORT_CFG of D0 to D3, then TCP_BUDGET (R372). -/
def Hub.applyTcpCfg (bs : List Byte) (s : Hub) : Hub :=
  let s1 := (List.range 4).foldl (fun t n => t.writePortCfg n (beNat (slice bs (4 * n) 4))) s
  let s2 := s1.writeWord 0x0B0000 (beNat (slice bs 16 4))
  { s2 with sec := { s2.sec with boardTcp := some bs } }

/-- One record of the board configuration (R454). -/
def Hub.applyCfgRecord (r : Nat × List Byte) (s : Hub) : Hub :=
  match r.1 with
  | 1 => { s with trunk := { s.trunk with eq := eqParse r.2 } }
  | 2 => s.applyLpwCfg r.2
  | 3 => s.applyTcpCfg r.2
  | 4 => { s with sec := { s.sec with subsys := beNat (r.2.take 4) } }
  | 5 =>
    let on := s.hasHost && beNat r.2 % 2 == 1
    ({ s with sec := { s.sec with boardBar2 := on } } : Hub).setb Fld.HIF_STATUS_BAR2 on
  | 6 => { s with sec := { s.sec with params := r.2 } }
  | _ => s

/-- A group the EQ table in force lacks, or that holds an invalid row (R58). -/
def eqMissing (gs : List EqGroup) (p ball cls : Nat) : Bool :=
  match gs.find? (fun g => g.port == p && g.ball == ball && g.cls == cls) with
  | none => true
  | some g => g.rows.any (fun r => !r.valid)

/-- TRK_EQ_MISSING for a table that is not used, or for each group it lacks (R58). Log entry 143 (DEDUCED). -/
def Hub.eqCheck (s : Hub) : Hub :=
  match s.trunk.eq with
  | none => s.raiseSev Evt.TRK_EQ_MISSING .fatal [0xFF, 0xFF, 0xFF]
  | some gs =>
    (List.range 32).foldl (fun t i =>
      if eqMissing gs (i / 16) (i / 2 % 8) (i % 2) then t.raise Evt.TRK_EQ_MISSING [i / 16, i / 2 % 8, i % 2] else t) s

/-- The copy firmware uses: the valid one with the higher SEQ, then the other (R454). Log entry 142 (DEDUCED). -/
def Hub.cfgCopy (s : Hub) : Option Nat :=
  let first := if s.imageSeq (cfgBase 0) < s.imageSeq (cfgBase 1) then 1 else 0
  if s.cfgFault first = 0 then some first else if s.cfgFault (1 - first) = 0 then some (1 - first) else none

/-- The records of copy `i` take effect. Log entry 143 (DEDUCED). -/
def Hub.applyCfg (i : Nat) (s : Hub) : Hub :=
  let len := beNat (s.flashRead (cfgBase i + 16) 4)
  let body := s.flashRead (cfgBase i + 256) len
  ((cfgRecords (len / 4) body).foldl (fun t r => t.applyCfgRecord r) s).setf Fld.GEN_BOOT_STATUS_CFG_COPY i

/-- BOARD_CONFIG_APPLY (R442 step 7, R454): firmware applies the board configuration, or keeps the reset values; the key blobs
are unwrapped, and bring-up starts on every attached port. Log entry 143 (DEDUCED). -/
def execBoardConfigApply (s : State) : Outcome State Fault Refusal := s.on fun s =>
  if s.sec.stage = sgFirmware then
    let s1 := match s.cfgCopy with
      | some i => s.applyCfg i
      | none => (s.setf Fld.GEN_BOOT_STATUS_CFG_COPY 15).raise Evt.GEN_BOARD_CFG_BAD [s.cfgFault 0, s.cfgFault 1]
    let s2 := s1.eqCheck.loadBlobs.noKeyCheck
    let s3 := if s2.flag Fld.GEN_STRAPS_FUSED then s2.raise Evt.GEN_ROLE_FUSED [s2.getf Fld.GEN_STRAPS_MODE] else s2
    (((s3.setStage sgBoard).startBringup 0).startBringup 1)
  else s

end Sys2Proof.Machine
end

