-- ==== Sys2Proof/Machine/Commands.lean ====
section
/-! DEFINITION. Management commands of a hub's own host and of its gadget: register accesses, plans, launches and resets
(R138 to R141, R197 to R204, R220, R226 to R231, R240 to R242, R445). -/

namespace Sys2Proof.Machine

open Host (Outcome)

/-! Taking a command up (R220, R226, R227). -/

/-- A section is still being sent for `w` to hub `hub`, or to any hub a broadcast names: commands of one ring to one hub are sent
in ring order (R227). Log entry 71 (DEDUCED). -/
def Hub.loadAhead (s : Hub) (w : Asker) (hub : Nat) : Bool :=
  s.hif.loads.any (fun x => decide (x.next < x.image.length) && match s.req x.id with
    | none => false
    | some q => q.who == w && (q.hub == hub || hub == 0x1FF))

/-- The next command of `w` is taken up when its opcode is `op`: it completes REFUSED where `w` may not give it at all, BAD_DESC
where its descriptor is not formed as R226 and R227 say, and REFUSED where `w` may not give it to the hub it names. Log entry 66 (DEDUCED). -/
def Hub.startCmd (op : Nat) (w : Asker) (allowed : Bool) (formed may : Desc → Bool) (s : Hub) : Option Job × Hub :=
  match s.jobFor w op with
  | none => (none, s)
  | some j =>
    if s.loadAhead w j.d.qt || s.reqsFull j.d.qt then (none, s)
    else if !allowed then (none, s.finish w j s.addr stRefused 0)
    else if !formed j.d then (none, s.finish w j s.addr stBadDesc 0)
    else if !may j.d then (none, s.finish w j s.addr stRefused 0)
    else (some j, s)

/-- The flags of a CMD descriptor: CHAIN is for TX, and INLINE where the opcode uses it (R226). -/
def Desc.cmdFlags (d : Desc) (mayInline : Bool) : Bool := decide (d.flags < 16) && !d.chain && (mayInline || !d.inline)

/-- A value given INLINE (R226). -/
def Desc.inlineVal (d : Desc) : Bool := d.inline && decide (d.addr < 2 ^ 32)

/-- QT names a hub, or with `bcast` every hub (R227). -/
def Desc.toHub (d : Desc) (bcast : Bool) : Bool := decide (d.qt < 0x1FF) || (bcast && d.qt == 0x1FF)

/-- Only the head host gives PLAN commands and REG_WRITE_HOP (R138, R220, R366). -/
def Hub.headHost (s : Hub) (w : Asker) : Bool :=
  match w with
  | .ring _ => s.isHead
  | .gadget => false

/-- Who may launch where (R220): the head host anywhere, a node's host and an unlocked gadget at their own hub. -/
def Hub.mayLaunch (s : Hub) (w : Asker) (h : Nat) : Bool :=
  match w with
  | .ring _ => s.isHead || h == s.addr
  | .gadget => s.unlocked && h == s.addr

/-- The bytes a command carries: INLINE, with the gadget's transfer, or from its buffer; none where that read failed. -/
def cmdBytes (w : Asker) (j : Job) (data : Option (List Byte)) : Option (List Byte) :=
  if j.d.inline then some (leBytes 4 j.d.addr)
  else match w with
    | .gadget => some (padTo j.d.len j.data)
    | .ring _ => data.map (padTo j.d.len)

/-- A buffer access failed: the event, and the completion DMA_ERROR (R230). -/
def Hub.dmaEnd (w : Asker) (j : Job) (s : Hub) : Hub := (s.dmaFail w j).finish w j s.addr stDma 0

/-- A request is opened for the command, a broadcast expecting every hub heard of late, and with `own` this one (R231). Log entry 68 (DEDUCED). -/
def Hub.openReq (w : Asker) (j : Job) (left : Nat) (own : Bool) (s : Hub) : Nat × Hub :=
  (s.takeJob w j).newReq {
    who := w, idx := j.idx, d := j.d, hub := j.d.qt, t0 := j.t0, left := left,
    expect := if j.d.qt = 0x1FF then s.recentSrcs ++ (if own then [s.addr] else []) else [] }

/-- The command leaves as a message to the hub it names, or completes NO_ROUTE (R230, R240). Log entry 69 (DEDUCED). -/
def Hub.sendReq (w : Asker) (j : Job) (type left : Nat) (body : List Byte) (s : Hub) : Hub :=
  if (s.portsFor j.d.qt).isEmpty then s.finish w j j.d.qt stNoRoute 0
  else
    let r := s.openReq w j left false
    (r.2.send j.d.qt type r.1 body).closeBcast r.1

/-! Registers (R227, R240, R241). -/

/-- Values read reach the asker's buffer (R228, R231): the status that results. -/
def Hub.readBack (w : Asker) (idx : Nat) (d : Desc) (status : Nat) (bytes : List Byte) (ok : Bool) (s : Hub) : Nat × Hub :=
  match w with
  | .gadget => (status, s)
  | .ring _ =>
    if d.inline || status != stOk then (status, s)
    else if ok then (status, s.emit (.hostWrite d.addr bytes))
    else (stDma, (s.count Cnt.HIF_CNT_DMA_ERR 1).raise Evt.HIF_DMA_ERROR [askerRing w, idx])

/-- A REG_READ descriptor is formed: 1 to 56 words, or INLINE one word and no buffer (R227). -/
def regReadOk (d : Desc) : Bool :=
  d.cmdFlags true && d.toHub true && decide (d.param < 2 ^ 32) && d.len % 4 == 0 && decide (4 ≤ d.len) && decide (d.len ≤ 224)
    && (!d.inline || (d.len == 4 && d.addr == 0))

/-- REG_READ (R227): `ok` says whether a write of its buffer succeeds. Log entry 67 (DEDUCED). -/
def execRegRead (w : Asker) (ok : Bool) (s : State) : Outcome State Fault Refusal := s.on fun s =>
  match s.startCmd 0x40 w true regReadOk (fun d => s.mayReach w s.unlocked d.qt false) with
  | (none, t) => t
  | (some j, t) =>
    if t.isOwn j.d.qt then
      let (vs, u) := t.readWords (j.d.len / 4) j.d.param
      let bytes := vs.flatMap (leBytes 4)
      let (st, v) := u.readBack w j.idx j.d stOk bytes ok
      (v.complete w j.idx j.d.cookie (bit j.d.flags 0)
        { ring := askerRing w, hub := t.addr, status := st, result := if st = stOk then vs.headD 0 else 0,
          data := if st = stOk then bytes else [] })
    else (t.sendReq w j 0x01 1 (beBytes 4 j.d.param ++ beBytes 1 (j.d.len / 4) ++ zeros 3))

/-- A REG_WRITE descriptor is formed (R227). -/
def regWriteOk (d : Desc) : Bool :=
  d.cmdFlags true && d.toHub true && decide (d.param < 2 ^ 32) && d.len % 4 == 0 && decide (4 ≤ d.len) && decide (d.len ≤ 224)
    && (!d.inline || (d.len == 4 && decide (d.addr < 2 ^ 32)))

/-- STATUS and RESULT of a write of `n` words whose first ignored one is `first` (R227, R230). Log entry 14 (DEDUCED). -/
def writeStatus (n : Nat) (first : Option Nat) : Nat × Nat :=
  match first with
  | none => (stOk, n)
  | some i => (stLocked, i)

/-- A job ends unless its ring's disabling ended it already (R224). -/
def Hub.finishLive (w : Asker) (j : Job) (hub status result : Nat) (s : Hub) : Hub :=
  if (s.jobsOf w).any (fun x => x.idx == j.idx) then s.finish w j hub status result else s

/-- REG_WRITE (R227): `data` is what the read of its buffer returned, none where it failed. -/
def execRegWrite (w : Asker) (data : Option (List Byte)) (s : State) : Outcome State Fault Refusal := s.on fun s =>
  match s.startCmd 0x41 w true regWriteOk (fun d => s.mayReach w s.unlocked d.qt true) with
  | (none, t) => t
  | (some j, t) =>
    match cmdBytes w j data with
    | none => (t.dmaEnd w j)
    | some b =>
      let vals := wordsLe (j.d.len / 4) b
      if t.isOwn j.d.qt then
        let (first, u) := t.writeWords vals j.d.param 0 none
        let (st, res) := writeStatus vals.length first
        (u.finishLive w j t.addr st res)
      else
        (t.sendReq w j 0x03 1
          (beBytes 4 j.d.param ++ beBytes 1 vals.length ++ zeros 3 ++ vals.flatMap (fun v => beBytes 4 v)))

/-- A REG_WRITE_HOP descriptor is formed (R227). -/
def regHopOk (d : Desc) : Bool :=
  d.cmdFlags true && d.inlineVal && d.len == 4 && decide (1 ≤ d.qt) && decide (d.qt ≤ 256) && decide (d.param < 2 ^ 32)

/-- REG_WRITE_HOP: out of the head's D port only, to broadcast with HOPS 255 (R241). -/
def execRegWriteHop (w : Asker) (s : State) : Outcome State Fault Refusal := s.on fun s =>
  match s.startCmd 0x42 w (s.headHost w) regHopOk (fun _ => true) with
  | (none, t) => t
  | (some j, t) =>
    if !t.linkUp 1 then (t.finish w j 0x1FF stNoRoute 0)
    else
      let (id, u) := t.openReq w j 1 false
      let (h, pay, v) := u.mgmtCell tnMgmt 0x1FF 0x05 255 id
        (beBytes 2 j.d.qt ++ zeros 2 ++ beBytes 4 j.d.param ++ beBytes 4 j.d.addr)
      (v.sendLocal 1 h pay)

/-- A PING descriptor is formed (R227). -/
def pingOk (d : Desc) : Bool := d.cmdFlags false && d.toHub false && d.len == 0 && d.addr == 0 && d.param == 0

/-- PING (R227): RESULT is the round trip in ticks. Log entry 72 (DEDUCED). -/
def execPing (w : Asker) (s : State) : Outcome State Fault Refusal := s.on fun s =>
  match s.startCmd 0x43 w true pingOk (fun d => s.mayReach w s.unlocked d.qt false) with
  | (none, t) => t
  | (some j, t) =>
    if t.isOwn j.d.qt then (t.finish w j t.addr stOk 0) else (t.sendReq w j 0x06 1 (beBytes 8 t.tick))

/-! Plans (R138 to R141). -/

/-- A fragment of a section leaves for `hub` (R138). Log entry 47 (DEDUCED). -/
def Hub.sendFragment (hub : Nat) (x : PlanSend) (s : Hub) : Hub :=
  s.send hub mtPlanLoad x.id
    (beBytes 4 x.epoch ++ beBytes 4 x.next ++ beBytes 4 x.image.length ++ slice x.image x.next 220)

/-- The local queue on the way to `hub` holds less than one brim carries (R103). -/
def Hub.localRoom (s : Hub) (hub : Nat) : Bool :=
  match s.portsFor hub with
  | [] => false
  | p :: _ => decide ((s.queue (localQ p)).pkts.length < 32)

/-- Fragments leave in increasing OFFSET while there is room (R138, R139). Log entry 47 (DEDUCED). -/
def Hub.sendLoad (hub : Nat) : (fuel : Nat) → (x : PlanSend) → (s : Hub) → PlanSend × Hub
  | 0, x, s => (x, s)
  | n + 1, x, s =>
    if x.next < x.image.length ∧ s.localRoom hub then
      Hub.sendLoad hub n { x with next := x.next + 220 } (s.sendFragment hub x)
    else (x, s)

/-- The state with the section being sent `x` for the one of its request. -/
def Hub.setLoad (x : PlanSend) (s : Hub) : Hub :=
  { s with hif := { s.hif with loads := s.hif.loads.map (fun y => if y.id = x.id then x else y) } }

/-- The sections being sent go on, one at a time for each hub. Log entry 47 (DEDUCED). -/
def Hub.pumpLoads (s : Hub) : Hub :=
  (s.hif.loads.foldl (fun (a : List Nat × Hub) x =>
    match a.2.req x.id with
    | none => a
    | some q =>
      if a.1.contains q.hub then a
      else
        let (y, t) := a.2.sendLoad q.hub 32 x
        (if y.next < y.image.length then a.1 ++ [q.hub] else a.1, t.setLoad y)) ([], s)).2

/-- A PLAN_LOAD descriptor is formed (R227). -/
def planLoadOk (d : Desc) : Bool := d.cmdFlags false && d.toHub false && decide (d.param < 2 ^ 32)

/-- PLAN_LOAD (R138, R227): the head's own section is loaded here, a node's is sent in fragments; `data` is what the read of the
buffer returned, none where it failed. -/
def execPlanLoad (w : Asker) (data : Option (List Byte)) (s : State) : Outcome State Fault Refusal := s.on fun s =>
  match s.startCmd 0x48 w (s.headHost w) planLoadOk (fun _ => true) with
  | (none, t) => t
  | (some j, t) =>
    match cmdBytes w j data with
    | none => (t.dmaEnd w j)
    | some b =>
      if t.isOwn j.d.qt then
        if t.pend = psArmed ∨ t.pend = psArmedT ∨ t.pend = psHeld then (t.finish w j t.addr stPlan t.pend)
        else ((t.openReq w j 1 false).2.takeFragment j.d.param 0 b.length b)
      else if (t.portsFor j.d.qt).isEmpty then (t.finish w j j.d.qt stNoRoute 0)
      else
        let (id, u) := t.openReq w j 1 false
        let x : PlanSend := { id := id, epoch := j.d.param, image := b }
        ({ u with hif := { u.hif with loads := u.hif.loads ++ [x] } } : Hub).pumpLoads

/-- A PLAN_ARM or PLAN_DISARM descriptor is formed (R227). -/
def planArmOk (d : Desc) : Bool := d.cmdFlags true && d.inlineVal && d.toHub true

/-- PLAN_ARM (0x49) and PLAN_DISARM: at this hub, at a node, or at all of them, the head included (R140, R141, R227). -/
def Hub.armCommand (op : Nat) (w : Asker) (s : Hub) : Hub :=
  match s.startCmd op w (s.headHost w) planArmOk (fun _ => true) with
  | (none, t) => t
  | (some j, t) =>
    let e := j.d.addr
    let alone := j.d.qt != 0x1FF
    let ok := if op = 0x49 then 0 else 1
    let st (res : Nat) : Nat := planSt (res == ok)
    let act (u : Hub) : Nat × Hub :=
      if op = 0x49 then u.takeArm e j.d.param alone
      else (b2n (u.takeDisarm e j.d.param).1, (u.takeDisarm e j.d.param).2)
    let type := if op = 0x49 then mtPlanArm else mtPlanDisarm
    let body := beBytes 4 e ++ beBytes 8 j.d.param
    if t.isOwn j.d.qt then (act t).2.finish w j t.addr (st (act t).1) (act t).1
    else if alone then t.sendReq w j type 1 body
    else
      let r := t.openReq w j 1 true
      let a := act (r.2.send 0x1FF type r.1 body)
      a.2.answer r.1 t.addr (st a.1) a.1

/-- PLAN_ARM (R141). -/
def execPlanArm (w : Asker) (s : State) : Outcome State Fault Refusal := s.on fun s => (s.armCommand 0x49 w)

/-- PLAN_DISARM (R140). Log entry 46 (DEDUCED). -/
def execPlanDisarm (w : Asker) (s : State) : Outcome State Fault Refusal := s.on fun s => (s.armCommand 0x4A w)

/-- A PLAN_QUERY descriptor is formed (R227). -/
def planQueryOk (d : Desc) : Bool := d.cmdFlags true && d.inlineVal && d.toHub false && d.param == 0

/-- PLAN_QUERY (R139, R227). -/
def execPlanQuery (w : Asker) (s : State) : Outcome State Fault Refusal := s.on fun s =>
  match s.startCmd 0x4B w (s.headHost w) planQueryOk (fun _ => true) with
  | (none, t) => t
  | (some j, t) =>
    if t.isOwn j.d.qt then (t.finish w j t.addr stOk (t.pend + 256 * t.planReason))
    else (t.sendReq w j mtPlanQuery 1 (beBytes 4 j.d.addr))

/-! Launches (R197 to R204). -/

/-- Launch records or a cancel wait to be posted into queue 6 from tick `at'` on (R199). Log entry 62 (DEDUCED). -/
def Hub.postLater (src : LaunchSrc) (cancel : Bool) (at' : Nat) (recs : List (List Byte)) (s : Hub) : Hub :=
  { s with time := { s.time with
    toPost := s.time.toPost ++ recs.map (fun b => { src := src, bytes := b, cancel := cancel, at' := at' }) } }

/-- The launch records of a buffer, most significant byte first (R197, R227). -/
def launchRecs (n : Nat) (b : List Byte) : List (List Byte) := (List.range n).map (fun i => flipRecord (slice b (32 * i) 32))

/-- A LAUNCH descriptor is formed: 1 to 7 records (R227). -/
def launchOk (d : Desc) : Bool :=
  d.cmdFlags false && d.toHub true && d.param == 0 && d.len % 32 == 0 && decide (32 ≤ d.len) && decide (d.len ≤ 224)

/-- LAUNCH (R197, R199, R227): records for this hub wait for their posting, those for others leave in a message; `data` is what
the read of the buffer returned, none where it failed. Log entry 62 (DEDUCED). -/
def execLaunch (w : Asker) (data : Option (List Byte)) (s : State) : Outcome State Fault Refusal := s.on fun s =>
  match s.startCmd 0x50 w true launchOk (fun d => s.mayLaunch w d.qt) with
  | (none, t) => t
  | (some j, t) =>
    match cmdBytes w j data with
    | none => (t.dmaEnd w j)
    | some b =>
      let n := j.d.len / 32
      let recs := launchRecs n b
      let body := beBytes 1 n ++ zeros 7 ++ recs.flatten
      if t.isOwn j.d.qt then
        let (id, u) := t.openReq w j n false
        (u.postLater (.own id) false j.t0 recs)
      else if j.d.qt = 0x1FF then
        let (id, u) := t.openReq w j n true
        ((u.postLater (.own id) false j.t0 recs).send 0x1FF 0x20 id body)
      else (t.sendReq w j 0x20 n body)

/-- A LAUNCH_CANCEL descriptor is formed: INLINE a SLOT (R227). -/
def launchCancelOk (d : Desc) : Bool := d.cmdFlags true && d.inline && decide (d.addr < 1024) && d.toHub false

/-- LAUNCH_CANCEL (R203, R227). -/
def execLaunchCancel (w : Asker) (s : State) : Outcome State Fault Refusal := s.on fun s =>
  match s.startCmd 0x51 w true launchCancelOk (fun d => s.mayLaunch w d.qt) with
  | (none, t) => t
  | (some j, t) =>
    let body := beBytes 2 j.d.addr ++ zeros 6 ++ beBytes 8 j.d.param
    if t.isOwn j.d.qt then
      let (id, u) := t.openReq w j 1 false
      (u.postLater (.own id) true j.t0 [body])
    else (t.sendReq w j 0x21 1 body)

/-! Resets (R445). -/

/-- A RESET descriptor is formed: INLINE a reset class byte (R227). -/
def resetOk (d : Desc) : Bool := d.cmdFlags true && d.inline && resetByteOk d.addr && d.toHub false && d.param == 0

/-- RESET (R227, R445): aimed at this hub it resets 1 ms, 16 ticks, after its completion. Log entry 73 (DEDUCED). -/
def execReset (w : Asker) (s : State) : Outcome State Fault Refusal := s.on fun s =>
  match s.startCmd 0x58 w true resetOk (fun d => s.mayReach w s.unlocked d.qt true) with
  | (none, t) => t
  | (some j, t) =>
    if t.isOwn j.d.qt then
      let (ok, u) := t.askReset j.d.addr 5 2 (t.tick + 16)
      (u.finish w j t.addr (if ok then stOk else stRefused) 0)
    else (t.sendReq w j 0x38 1 (beBytes 1 j.d.addr ++ zeros 7))

end Sys2Proof.Machine
end

