-- ==== Sys2Proof/Machine/Brim.lean ====
section
/-! DEFINITION. Brims and sync frames (R86 to R91): what a hub sends in a brim, and what a received sync frame tells it. -/

namespace Sys2Proof.Machine

open Host (Outcome)

/-! Sending (R86, R89, R103). -/

/-- Sync state of port `p`. -/
def Hub.sync (s : Hub) (p : Nat) : SyncState := Tab.getD s.ring.sync p {}

/-- The state with the sync state of port `p` as `y`. -/
def Hub.setSync (p : Nat) (y : SyncState) (s : Hub) : Hub := { s with ring := { s.ring with sync := Tab.put p y s.ring.sync } }

/-- Sync frames run on port `p`: its fixed pairs are locked (R64 step 6), or its link is up (R91). Log entry 33 (DEDUCED). -/
def Hub.framesRun (s : Hub) (p : Nat) : Bool := s.link p == lkPairTest || s.linkUp p

/-- FLAGS of the sync frame out of port `p` (R89). Log entry 29 (DEDUCED). -/
def Hub.syncFlags (s : Hub) (p : Nat) : Nat :=
  128 * b2n s.isHead + 64 * b2n (s.flag Fld.TRK_RING_STATUS_RING) + 32 * b2n s.inPlanB + 16 * b2n (!s.loadedPlan)
    + 8 * b2n (s.sync p).got
    + 4 * b2n (s.flag (if p = 0 then Fld.TRK_RING_STATUS_BREAK_U else Fld.TRK_RING_STATUS_BREAK_D))

/-- The sync frame out of port `p` whose first symbol leaves at `tx`, in units of 2^-16 ns, with `n` cells behind it (R89). -/
def Hub.syncFrame (s : Hub) (p tx n : Nat) : List Byte :=
  let y := s.sync p
  let rx := if y.got then y.rxTime else 0
  let rf := if y.got then y.rxFrac else 0
  let brk := match s.ring.brk with
    | none => (0, 0)
    | some b => (0x8000 + b.hop % 512, b.detect)
  let b := beBytes 2 0x5A3C ++ beBytes 1 1 ++ beBytes 1 (s.syncFlags p) ++ beBytes 2 s.addr ++ beBytes 1 n ++ beBytes 1 s.gmState
    ++ beBytes 8 s.tick ++ beBytes 4 (s.getf Fld.PLN_ACTIVE_EPOCH) ++ beBytes 8 (tx / fracUnit) ++ beBytes 2 (tx % fracUnit)
    ++ beBytes 2 (s.hopsSent p) ++ beBytes 8 rx ++ beBytes 2 rf ++ beBytes 2 brk.1 ++ beBytes 8 s.hubId ++ beBytes 8 brk.2 ++ zeros 32
  b ++ beBytes 4 (crc32c b)

/-- `n` cells of MGMT queue `q` leave, as their wire bytes. -/
def Hub.takeCells (q : Nat) : (n : Nat) → (s : Hub) → List (List Byte) × Hub
  | 0, s => ([], s)
  | n + 1, s =>
    match s.takeCellQ q with
    | (none, t) => ([], t)
    | (some (h, pay), t) =>
      let r := Hub.takeCells q n t
      (wireCell h.hdr pay :: r.1, r.2)

/-- The cells of a brim out of port `p` (R103): at most 32, transit cells first, with 8 places for local cells when some wait. Log entry 34 (DEDUCED). -/
def Hub.brimCells (p : Nat) (s : Hub) : List (List Byte) × Hub :=
  let loc := (s.queue (localQ p)).pkts.length
  let nt := min (s.queue (transitQ p)).pkts.length (32 - min 8 loc)
  let a := s.takeCells (transitQ p) nt
  let b := a.2.takeCells (localQ p) (min loc (32 - nt))
  (a.1 ++ b.1, b.2)

/-- Records of the event ring that a node has still to relay, in the order posted (R239). -/
def Hub.toRelay (s : Hub) : List EvRec :=
  s.ev.recs.filter (fun e => !e.sent && decide (s.getf Fld.HIF_RELAY_CFG_MIN_SEV ≤ e.sev.code))

/-- The first `n` records to relay are marked as sent. -/
def markSent (min : Nat) : (n : Nat) → List EvRec → List EvRec
  | _, [] => []
  | 0, e :: t => e :: t
  | n + 1, e :: t =>
    if !e.sent && decide (min ≤ e.sev.code) then { e with sent := true } :: markSent min n t else e :: markSent min (n + 1) t

/-- One EVENT_RELAY message of up to 14 records (R239). Log entry 37 (DEDUCED). -/
def Hub.relayOne (s : Hub) : Hub :=
  match s.toRelay with
  | [] => s
  | rs =>
    let b := rs.take 14
    let s1 : Hub := { s with ev := { s.ev with recs := markSent (s.getf Fld.HIF_RELAY_CFG_MIN_SEV) b.length s.ev.recs } }
    s1.send 0 0x28 0 (beBytes 1 b.length ++ zeros 7 ++ b.flatMap (fun e => e.image 0))

/-- EVENT_RELAY_SEND: at most HIF_RELAY_CFG.CELLS messages per brim, while the local queue has room (R239). Log entry 37 (DEDUCED). -/
def Hub.relayEvents : (n : Nat) → (s : Hub) → Hub
  | 0, s => s.trimEvents
  | n + 1, s => if s.localRoom 0 && !s.toRelay.isEmpty then s.relayOne.relayEvents n else s.trimEvents

/-- The body of TIME_ANNOUNCE without CLOSURE_PS and HOLDOVER_S, whose change alone sends nothing (R193). Log entry 38 (DEDUCED). -/
def annKey (b : List Byte) : List Byte := b.take 22

/-- TIME_ANNOUNCE_SEND: the head broadcasts in the brim of every tick that is a multiple of 16,000, and in the brim after a field
changes (R193). Log entry 38 (DEDUCED). -/
def Hub.announce (s : Hub) : Hub :=
  let body := s.annBody
  let due := (s.tick % 16000 == 0 && s.time.annTick != some s.tick) || annKey body != annKey s.time.annLast
  if !s.isHead || !s.time.started || !due then s
  else
    let s1 : Hub := { s with time := { s.time with annLast := body, annTick := some s.tick, annSeq := (s.time.annSeq + 1) % 65536 } }
    (s1.portsFor 0x1FF).foldl (fun t p =>
      let (h, pay, u) := t.mgmtCell tnTime 0x1FF 1 255 0 (beBytes 2 s.time.annSeq ++ body)
      u.sendLocal p h pay) s1

/-- PLN_SWITCH is posted in the brim of S (R142 step 13). Log entry 39 (DEDUCED). -/
def Hub.postSwitch (s : Hub) : Hub :=
  if s.plan.switchOwed then
    ({ s with plan := { s.plan with switchOwed := false } } : Hub).raise Evt.PLN_SWITCH
      [s.getf Fld.PLN_ACTIVE_EPOCH, s.actBank, s.plan.flushed]
  else s

/-- The brim of port `p`'s outbound fixed pair leaves with its sync frame and cells (R86). -/
def Hub.sendBrim (p tx : Nat) (s : Hub) : Hub :=
  let (cells, s1) := s.brimCells p
  let T := s1.tport p
  let s2 := s1.setTport p { T with txs := (⟨s1.tick, tx, (s1.sync p).got⟩ :: T.txs).take 4 }
  s2.emit (.brim p (s1.syncFrame p tx cells.length) cells)

/-- The largest adjustment a transmitter makes in a tick, in symbols: 400 in PAM3, 13 words of 32 symbols in NRZ (R49). -/
def fillMax (nrz : Bool) : Nat := if nrz then 13 * 32 else 400

/-- Transmitters of port `p` that would need a larger adjustment than they may make raise TRK_FILL_RANGE, once per second (R49). All of
them send by this hub's line time (R48), so they need the same adjustment `adj`. Log entry 164 (DESIGN CHOICE). -/
def Hub.fillRange (p : Nat) (adj : Int) (s : Hub) : Hub :=
  (List.range 8).foldl (fun t k =>
    if t.dir p k = dirOut ∧ !t.flag (Fld.TRK_PAIR_STATUS_TX_SLEEP (8 * p + k)) ∧ fillMax (t.flag (Fld.TRK_PAIR_STATUS_NRZ (8 * p + k))) < adj.natAbs then
      t.raiseLimited Evt.TRK_FILL_RANGE (8 * p + k) [p, k, enc 32 adj]
    else t) s

/-- BRIM_TRANSMIT (R86): the brim of port `p`, whose first symbol leaves the pad at `tx` in units of 2^-16 ns of line time; `adj` is the
adjustment in symbols its transmitter would need in this tick (R49). Log entries 8 (DESIGN CHOICE), 34 (DEDUCED), 164 (DESIGN CHOICE). -/
def execBrimTransmit (p : Fin 2) (tx : Nat) (adj : Int) (s : State) : Outcome State Fault Refusal := s.on fun s =>
  let s1 := (s.advanceFrac tx).postSwitch
  if !s1.framesRun p then s1
  else
    let s2 := s1.fillRange p adj
    let s3 := if !s2.isHead && (s2.portsFor 0).contains p then s2.relayEvents (s2.getf Fld.HIF_RELAY_CFG_CELLS) else s2
    (s3.announce.sendBrim p tx)

/-! Receiving (R90). -/

/-- The fields of a sync frame that a receiver uses (R89). -/
structure SyncFrame where
  flags : Nat
  src : Nat
  cells : Nat
  gm : Nat
  tick : Nat
  epoch : Nat
  tx : Nat
  hops : Nat
  rx : Nat
  brk : Nat
  hubId : Nat
  detect : Nat
  deriving DecidableEq, Repr

/-- A sync frame read, where its CRC, MARK and VERSION are good (R90). -/
def readSync (b : List Byte) : Option SyncFrame :=
  if b.length = 96 ∧ beNat (slice b 0 2) = 0x5A3C ∧ byteAt b 2 = 1 ∧ crc32c (b.take 92) = beNat (slice b 92 4) then
    some { flags := byteAt b 3, src := bits (beNat (slice b 4 2)) 8 0, cells := min 32 (byteAt b 6), gm := byteAt b 7, tick := beNat (slice b 8 8),
           epoch := beNat (slice b 16 4), tx := beNat (slice b 20 10), hops := beNat (slice b 30 2), rx := beNat (slice b 32 10),
           brk := beNat (slice b 42 2), hubId := beNat (slice b 44 8), detect := beNat (slice b 52 8) }
  else none

/-- RX_OK, and a frame of a head. -/
def SyncFrame.rxOk (f : SyncFrame) : Bool := bit f.flags 3
def SyncFrame.head (f : SyncFrame) : Bool := bit f.flags 7

/-- SRC is the address the port learnt: from HELLO, or later once the far hub was assigned one (R90). -/
def Hub.srcOk (s : Hub) (p : Nat) (f : SyncFrame) : Bool :=
  match (s.port p).far with
  | none => false
  | some h => f.src == h.addr || (h.addr == 0x1FE && f.hubId == h.hubId)

/-- The sync frame of port `p`'s brim, where it is valid (R90) and the pair's tick framing stands (R87). -/
def Hub.validSync (s : Hub) (p : Nat) (frame : Option (List Byte)) : Option SyncFrame :=
  match frame.bind readSync with
  | none => none
  | some f =>
    if s.ring.unframed.contains (8 * p + inFixed p) || !s.srcOk p f || (s.timeLocked && f.tick != s.tick) then none else some f

/-- The brim of port `p` brought no valid sync frame: it is counted, and it fails (R90, R104). -/
def Hub.syncMiss (p : Nat) (s : Hub) : Hub :=
  let y := s.sync p
  let s1 := (s.count (Cnt.TRK_CNT_SYNC_MISS p) 1).setSync p
    { y with got := false, good := 0, cells := 0, fails := if s.linkUp p then y.fails + 1 else 0 }
  { s1 with plan := { s1.plan with newer := Tab.del p s1.plan.newer } }

/-- A port's newer EPOCH is counted over consecutive brims (R147, R148). -/
def Hub.noteEpoch (p epoch : Nat) (s : Hub) : Hub :=
  let n := match Tab.get? p s.plan.newer with
    | some (e, n) => if e = epoch then n + 1 else 1
    | none => 1
  { s with plan := { s.plan with newer := Tab.put p (epoch, n) s.plan.newer } }

/-- The link of port `p` comes up (R64 step 8): TRK_LINK_UP, the ring's view, and a HOP_DIGEST where one is due (R14, R137). -/
def Hub.linkComesUp (p : Nat) (s : Hub) : Hub :=
  let far := match (s.port p).far with
    | none => 0
    | some f => f.addr
  let s1 := ((s.setf (Fld.TRK_PORT_STATUS_LINK p) lkUp).setPort p { s.port p with step := 8 }).livePairs p
  ((s1.ringView).raise Evt.TRK_LINK_UP [p, far]).digestOnLink p

/-- What a valid frame says of time (R188, R189): the peer's stamps and offer, and the measurement its RX_TIME completes. -/
def Hub.syncTime (p rx : Nat) (f : SyncFrame) (s : Hub) : Hub :=
  let T := s.tport p
  let s1 := s.setTport p { T with rxs := (⟨s.tick, f.tx, rx, f.rxOk⟩ :: T.rxs).take 4, hops := f.hops, gmState := f.gm }
  let s2 := if f.rxOk && s1.linkUp p then s1.measure p s1.tick f.rx else s1
  s2.pathCheck

/-- What a valid frame says of the segment (R14, R111, R147): the RING view that comes from the head's side, a break that plan B
follows, and the EPOCH. Log entry 168 (DESIGN CHOICE). -/
def Hub.syncPlan (p : Nat) (f : SyncFrame) (s : Hub) : Hub :=
  let s1 := if !s.isHead && s.headPort == p then s.segmentRing (bit f.flags 6) else s
  let s2 := if s1.linkUp p then s1.noteEpoch p f.epoch else s1
  if bit f.flags 5 && bit f.brk 15 then s2.learnBreak (f.brk % 512) f.detect f.src false else s2

/-- A valid sync frame of port `p`, received at `rx` in units of 2^-16 ns. Log entries 29 (DEDUCED), 35 (DEDUCED). -/
def Hub.takeSync (p rx : Nat) (f : SyncFrame) (s : Hub) : Hub :=
  if s.isHead && f.head then s.headConflict p f.hubId
  else
    let y := s.sync p
    let y1 : SyncState := { y with
      got := true, rxTime := rx / fracUnit, rxFrac := rx % fracUnit, rxOk := f.rxOk, cells := f.cells,
      good := if f.rxOk then y.good + 1 else 0,
      fails := if f.rxOk || !s.linkUp p then 0 else y.fails + 1 }
    let P := s.port p
    let s1 := (s.setSync p y1).setPort p { P with far := P.far.map (fun h => { h with addr := f.src }) }
    let s2 := if s1.link p = lkPairTest ∧ P.testLeft = [] ∧ 16 ≤ y1.good then s1.linkComesUp p else s1
    (s2.syncTime p rx f).syncPlan p f

/-- SYNC_FRAME_RECEIVE (R90): the sync frame of this tick's brim at port `p`, none where the brim brought none; its first symbol passed
the pad at `rx` in units of 2^-16 ns of line time. Log entry 33 (DEDUCED). -/
def execSyncFrameReceive (p : Fin 2) (frame : Option (List Byte)) (rx : Nat) (s : State) : Outcome State Fault Refusal := s.on fun s =>
  let s1 := s.advanceFrac rx
  if !s1.framesRun p then s1
  else
    match s1.validSync p frame with
    | none => (s1.syncMiss p)
    | some f => (s1.takeSync p rx f)

end Sys2Proof.Machine
end

