-- ==== Sys2Proof/Machine/Dump.lean ====
section
/-! DEFINITION. The dump record (R461 to R463) and DUMP_WRITE_DONE. -/

namespace Sys2Proof.Machine

open Host (Outcome)

/-- The most bytes of a dump record (R462). -/
def dumpMost : Nat := 262144

/-- The words at `offs` as they read, little-endian. -/
def Hub.wordsLe (s : Hub) (offs : List Nat) : List Byte := offs.flatMap (fun o => leBytes 4 (s.readWord o).1)

/-- Section 7 (R463): the error log and the counters of REL, as their registers read. Log entry 139 (DESIGN CHOICE). -/
def Hub.relSection (s : Hub) : List Byte :=
  s.wordsLe ((List.range 64).map (fun i => 0x0E0040 + 4 * i) ++ (List.range 76).map (fun i => 0x0E0800 + 4 * i))

/-- Section 2 (R463): the newest 2,048 records of the event ring in the layout of R237. Log entry 139 (DESIGN CHOICE). -/
def Hub.eventSection (s : Hub) : List Byte :=
  (s.ev.recs.drop (s.ev.recs.length - 2048)).flatMap (fun r => r.image 0)

/-- Section 3 (R463): offset and value of the registers at `regs` that exist in blocks at L0. Log entry 139 (DESIGN CHOICE). -/
def Hub.regSection (s : Hub) (regs : List Nat) : List Byte :=
  (regs.filter (fun o => (regAt o).isSome && !s.offDead o)).flatMap (fun o => leBytes 4 o ++ leBytes 4 (s.readWord o).1)

/-- The sections of a record in the order of R463, as (TYPE, bytes), each within its limit. Log entry 139 (DESIGN CHOICE). -/
def Hub.dumpSections (s : Hub) (x : DumpParts) (trace : List Byte) (regs : List Nat) : List (Nat × List Byte) :=
  [(1, x.cores.take 4096), (7, s.relSection), (2, s.eventSection), (5, x.stack.take 49152), (3, (s.regSection regs).take 65536),
   (6, x.mitten.take 16384), (4, trace)]

/-- The sections that fit in `room` bytes, each counted with its directory entry: one that does not fit is cut, and the later ones are left out (R463). -/
def fitSections : (room : Nat) → List (Nat × List Byte) → List (Nat × List Byte)
  | _, [] => []
  | room, (t, b) :: rest =>
    if b.length + 16 ≤ room then (t, b) :: fitSections (room - 16 - b.length) rest else [(t, b.take (room - 16))]

/-- The directory of the sections (R462), the first of which starts at byte `off` of the record. -/
def directory : (off : Nat) → List (Nat × List Byte) → List Byte
  | _, [] => []
  | off, (t, b) :: rest =>
    leBytes 2 t ++ zeros 2 ++ leBytes 4 off ++ leBytes 4 b.length ++ leBytes 4 (crc32c b) ++ directory (off + b.length) rest

/-- The header of a dump record (R462) over the directory of `sections` entries and the sections in `body`. Log entry 139 (DESIGN CHOICE). -/
def Hub.dumpHeader (s : Hub) (f : Fatal) (target sections : Nat) (trunc : Bool) (body : List Byte) : List Byte :=
  let tail := leBytes 8 s.hubId ++ leBytes 2 s.addr ++ leBytes 2 sections ++ leBytes 4 (s.getf Fld.SEC_FW_VERSION) ++ leBytes 8 f.tick
    ++ leBytes 4 (s.getf Fld.PLN_ACTIVE_EPOCH) ++ leBytes 2 f.code ++ leBytes 1 (s.getf Fld.SEC_LC_STATE)
    ++ leBytes 1 (b2n f.second * 2 + b2n trunc) ++ leBytes 8 f.args ++ zeros 8
  leBytes 4 0x0960D0D0 ++ leBytes 2 1 ++ leBytes 1 f.cause ++ leBytes 1 target ++ leBytes 4 (64 + body.length)
    ++ leBytes 4 (crc32c (tail ++ body)) ++ tail

/-- The oldest dump buffer posted: its ring and job (R243). -/
def Hub.dumpBuffer (s : Hub) : Option (Nat × Job) :=
  (s.hif.rings.find? (fun e => s.ringIs e.1 5)).bind (fun e => (e.2.jobs.find? (fun j => j.sent)).map (fun j => (e.1, j)))

/-- The record `rec` written to `target`. Log entry 139 (DESIGN CHOICE). -/
def Hub.dumpWrite (target : Nat) (bs : List Byte) (s : Hub) : Hub :=
  if target = 1 then
    match s.dumpBuffer with
    | none => s
    | some (r, j) => (s.emit (.hostWrite j.d.addr bs)).finish (.ring r) j s.addr stOk bs.length
  else if target = 2 then
    let s1 := (s.flashWrite (0xA00000 + 0x40000 * s.sec.nextArea) bs).setf Fld.GEN_DUMP_STATUS_AREA s.sec.nextArea
    { s1 with sec := { s1.sec with nextArea := (s.sec.nextArea + 1) % 4, areaReady := false } }
  else (s.memStore (256 * regionLo) bs).setf Fld.GEN_DUMP_STATUS_PRESERVED 1

/-- The dump record for `target` (R462, R463): header, directory and sections. Log entry 139 (DESIGN CHOICE). -/
def Hub.dumpRecord (s : Hub) (f : Fatal) (target : Nat) (x : DumpParts) (trace : List Byte) (regs : List Nat) : List Byte :=
  let all := s.dumpSections x trace regs
  let fit := fitSections (dumpMost - 64) all
  let body := directory (64 + 16 * fit.length) fit ++ fit.flatMap (fun e => e.2)
  s.dumpHeader f target fit.length (fit != all) body ++ body

/-- DUMP_WRITE_DONE (R461 to R464): the write of the record ends; `x`, `trace` and the registers at `regs` are what the service core or the ROM put into it
beyond what State holds. A write that failed (`ok` false) passes the record to the next target; otherwise
the marker is closed and the DUMP reset follows. Log entry 139 (DESIGN CHOICE). -/
def execDumpWriteDone (ok : Bool) (x : DumpParts) (trace : List Byte) (regs : List Nat) (s : State) : Outcome State Fault Refusal := s.on fun s =>
  match s.sec.fatal with
  | none => s
  | some f =>
    let t := s.dumpTarget f
    if !ok && t != 3 then
      let s1 := match t, s.dumpBuffer with
        | 1, some (r, j) => ((s.dmaFail (.ring r) j).endJob r j stDma 0).showDump
        | _, _ => s
      (({ s1 with sec := { s1.sec with fatal := some { f with failed := f.failed ++ [t] } } } : Hub).dumpPrepare)
    else
      let bs := s.dumpRecord f t x trace regs
      let s1 := (s.dumpPrepare).dumpWrite t bs |>.setf Fld.GEN_DUMP_STATUS_TARGET t |>.setf Fld.GEN_DUMP_STATUS_COMPLETE 1
        |>.setf Fld.GEN_DUMP_STATUS_LENGTH_KB (cdiv bs.length 1024)
      ({ s1 with sec := { s1.sec with dumpOwed := true } }.deviceReset 7 f.cause)

end Sys2Proof.Machine
end

