-- ==== Sys2Proof/Machine/Messages.lean ====
section
/-! DEFINITION. Management messages that a hub serves, and the answers to its own requests (R199, R203, R238 to R242, R445). -/

namespace Sys2Proof.Machine

open Host (Outcome)

/-! Served for other hubs (R240 to R242). -/

/-- REG_READ_MSG: answered with REG_READ_RSP. -/
def execRegReadMsg (s : State) : Outcome State Fault Refusal := s.on fun s =>
  match s.takeMsg 4 [0x01] with
  | (none, t) => t
  | (some m, t) =>
    let off := beNat (slice m.body 0 4)
    let n := min 56 (byteAt m.body 4)
    let (vs, u) := t.readWords n off
    (u.send m.src 0x02 m.msgId
      (beBytes 4 off ++ beBytes 1 n ++ beBytes 1 stOk ++ zeros 2 ++ vs.flatMap (fun v => beBytes 4 v)))

/-- The body of REG_WRITE_RSP (R240). -/
def writeRsp (off n : Nat) (first : Option Nat) : List Byte :=
  beBytes 4 off ++ beBytes 1 n ++ beBytes 1 (writeStatus n first).1 ++ beBytes 1 (first.getD 0xFF) ++ zeros 1

/-- REG_WRITE_MSG: answered with REG_WRITE_RSP. Log entry 72 (DEDUCED). -/
def execRegWriteMsg (s : State) : Outcome State Fault Refusal := s.on fun s =>
  match s.takeMsg 4 [0x03] with
  | (none, t) => t
  | (some m, t) =>
    let off := beNat (slice m.body 0 4)
    let n := min 56 (byteAt m.body 4)
    let vals := (List.range n).map (fun i => beNat (slice m.body (8 + 4 * i) 4))
    let (first, u) := t.writeWords vals off 0 none
    (u.send m.src 0x04 m.msgId (writeRsp off n first))

/-- This hub is the target of a REG_WRITE_HOP (R241). -/
def hopTarget (m : Msg) : Bool := m.port == 0 && m.src == 0 && m.hops + beNat (slice m.body 0 2) == 256

/-- What the target of a REG_WRITE_HOP does (R241): the first word ignored, and the state after. -/
def Hub.hopWrite (pos off v : Nat) (s : Hub) : Option Nat × Hub :=
  if s.addr = pos then (none, s)
  else if s.addr = 0x1FE ∧ bit (s.getf Fld.GEN_SETUP_OPEN) 0 then s.writeWords [v] off 0 none
  else (some 0, s)

/-- REG_WRITE_HOP_MSG: the target writes or refuses, and answers on its U port to 0x000 (R241); the cell was forwarded when it
came. -/
def execRegWriteHopMsg (s : State) : Outcome State Fault Refusal := s.on fun s =>
  match s.takeMsg 4 [0x05] with
  | (none, t) => t
  | (some m, t) =>
    if t.isHead || !hopTarget m then t
    else
      let off := beNat (slice m.body 4 4)
      let (first, u) := t.hopWrite (beNat (slice m.body 0 2)) off (beNat (slice m.body 8 4))
      let (h, pay, v) := u.mgmtCell tnMgmt 0 0x04 255 m.msgId (writeRsp off 1 first)
      (v.sendLocal 0 h pay)

/-- PING_MSG: answered with PING_RSP. -/
def execPingMsg (s : State) : Outcome State Fault Refusal := s.on fun s =>
  match s.takeMsg 4 [0x06] with
  | (none, t) => t
  | (some m, t) => (t.send m.src 0x07 m.msgId (slice m.body 0 8 ++ beBytes 8 t.tick))

/-- LAUNCH_MSG: the records of a message received in the brim of tick r are posted in the loop of r + 1 (R199). Log entry 62 (DEDUCED). -/
def execLaunchMsg (s : State) : Outcome State Fault Refusal := s.on fun s =>
  match s.takeMsg 4 [0x20] with
  | (none, t) => t
  | (some m, t) =>
    let recs := (List.range (min 7 (byteAt m.body 0))).map (fun i => padTo 32 (slice m.body (8 + 32 * i) 32))
    (t.postLater (.msg m.src m.msgId) false (m.tick + 1) recs)

/-- LAUNCH_CANCEL_MSG: it passes through queue 6 in order with the launch records (R199, R203). -/
def execLaunchCancelMsg (s : State) : Outcome State Fault Refusal := s.on fun s =>
  match s.takeMsg 4 [0x21] with
  | (none, t) => t
  | (some m, t) => (t.postLater (.msg m.src m.msgId) true (m.tick + 1) [padTo 16 m.body])

/-- RESET_MSG: answered with RESET_ACK; with STATUS OK the hub resets at the boundary of the tick after the brim that carries the
acknowledgement (R445). Log entries 72 (DEDUCED), 73 (DEDUCED), 82 (DEDUCED). -/
def execResetMsg (s : State) : Outcome State Fault Refusal := s.on fun s =>
  match s.takeMsg 4 [0x38] with
  | (none, t) => t
  | (some m, t) =>
    let b := byteAt m.body 0
    if resetByteOk b then
      let (ok, u) := t.askReset b 4 0 (t.tick + 1)
      (u.send m.src 0x39 m.msgId (beBytes 1 b ++ beBytes 1 (if ok then stOk else stRefused) ++ zeros 6))
    else (t.send m.src 0x39 m.msgId (beBytes 1 b ++ beBytes 1 stBadDesc ++ zeros 6))

/-! Answers to this hub's requests (R227, R240, R242). -/

/-- REG_READ_RSP reaches its request: the values into its buffer, then the completion. -/
def Hub.readResponse (m : Msg) (ok : Bool) (s : Hub) : Hub :=
  match s.req m.msgId with
  | none => s.answer m.msgId m.src 0 0
  | some q =>
    if q.dead then s.answer m.msgId m.src 0 0
    else
      let st := byteAt m.body 5
      let n := min 56 (byteAt m.body 4)
      let vs := (List.range n).map (fun i => beNat (slice m.body (8 + 4 * i) 4))
      let bytes := vs.flatMap (leBytes 4)
      let (st', t) := s.readBack q.who q.idx q.d st bytes ok
      t.answerData m.msgId m.src st' (if st' = stOk then vs.headD 0 else 0) (if st' = stOk then bytes else [])

/-- The outstanding PLAN_LOAD of hub `hub` and EPOCH `e`, the oldest. -/
def Hub.loadReq (s : Hub) (hub : Nat) (p : Req → Bool) : Option Nat :=
  (s.hif.reqs.find? (fun e => e.2.d.op == 0x48 && e.2.hub == hub && p e.2)).map (fun e => e.1)

/-- A PLAN_STATUS that answers no query (R138, R139): READY or FAILED for its EPOCH ends a PLAN_LOAD, and so does a hub that
refuses it because it is ARMED, ARMED_T or HELD; a hub that misses a fragment gets it again. -/
def Hub.planReport (m : Msg) (s : Hub) : Hub :=
  let e := beNat (slice m.body 0 4)
  let st := byteAt m.body 4
  let res := st + 256 * byteAt m.body 5
  if st = psArmed ∨ st = psArmedT ∨ st = psHeld then
    match s.loadReq m.src (fun _ => true) with
    | none => s
    | some id => s.answer id m.src stPlan res
  else if st = psReady ∨ st = psFailed then
    match s.loadReq m.src (fun q => q.d.param == e) with
    | none => s
    | some id => s.answer id m.src (planSt (st == psReady)) res
  else if st = psEmpty ∨ st = psLoading then
    match s.loadReq m.src (fun _ => true) with
    | none => s
    | some id =>
      match s.hif.loads.find? (fun x => x.id == id) with
      | none => s
      | some x => s.setLoad { x with next := if st = psLoading ∧ x.epoch = e then beNat (slice m.body 10 4) else 0 }
  else s

/-- RESPONSE_RECEIVE: a response ends its request with the completion R227 gives; one that comes too late is counted (R242);
`ok` says whether a write of the request's buffer succeeds. -/
def execResponseReceive (ok : Bool) (s : State) : Outcome State Fault Refusal := s.on fun s =>
  match s.takeMsg 4 [0x02, 0x04, 0x07, 0x12, 0x15, 0x23, 0x39, 0x51, 0x53] with
  | (none, t) => t
  | (some m, t) =>
    let b := m.body
    let id := m.msgId
    if m.type = 0x02 then (t.readResponse m ok)
    else if m.type = 0x04 then
      (t.answer id m.src (byteAt b 5) (if byteAt b 5 = stOk then byteAt b 4 else byteAt b 6))
    else if m.type = 0x07 then (t.answer id m.src stOk (t.tick - beNat (slice b 0 8)))
    else if m.type = 0x12 then
      (if id = 0 then t.planReport m else t.answer id m.src stOk (byteAt b 4 + 256 * byteAt b 5))
    else if m.type = 0x15 then
      let st := byteAt b 4
      (if id = 0 then t else t.answer id m.src (planSt (st == 0 || st == 7)) (if st = 7 then 1 else if st = 8 then 0 else st))
    else if m.type = 0x23 then (t.answer id m.src (byteAt b 2) (beNat (slice b 0 2)))
    else if m.type = 0x39 then (t.answer id m.src (byteAt b 1) 0)
    else (t.fbrResponse id m.src (m.type == 0x51) b ok)

/-- LAUNCH_DONE_RECEIVE: one completion per entry, with the launch's own COOKIE and SLOT (R204, R240). -/
def execLaunchDoneReceive (s : State) : Outcome State Fault Refusal := s.on fun s =>
  match s.takeMsg 4 [0x22] with
  | (none, t) => t
  | (some m, t) =>
    let entries := (List.range (min 9 (byteAt m.body 0))).map (fun i => slice m.body (8 + 24 * i) 24)
    (entries.foldl (fun u e =>
      u.answerLaunch m.msgId m.src (byteAt e 18) (beNat (slice e 16 2)) (beNat (slice e 0 8)) (beNat (slice e 8 8)) false) t)

/-- EVENT_RELAY_RECEIVE: relayed records go into the EVQs and to the line gadget of the head (R238, R239, R366). -/
def execEventRelayReceive (s : State) : Outcome State Fault Refusal := s.on fun s =>
  match s.takeMsg 4 [0x28] with
  | (none, t) => t
  | (some m, t) =>
    if t.isHead then
      ((recsOf (min 14 (byteAt m.body 0)) (m.body.drop 8)).foldl (fun u e => (u.tellHost e true).gadgetEvent e true) t)
    else t

/-- MGMT_REQUEST_TIMEOUT (R231, R241, R242): request `id` to another hub, unanswered HIF_MGMT_TIMEOUT ticks after its fetch, completes
TIMEOUT; that of a broadcast gives the number of hubs that answered, and one that its ring's disabling orphaned ends in silence. Log entries 68 (DEDUCED), 69 (DEDUCED). -/
def execMgmtRequestTimeout (id : Fin 65536) (s : State) : Outcome State Fault Refusal := s.on fun s =>
  match s.req id with
  | none => s
  | some q =>
    if q.hub = s.addr ∨ s.tick < q.t0 + s.getf Fld.HIF_MGMT_TIMEOUT_TICKS then s
    else if q.dead then (s.endReq id)
    else
      let bcast := q.hub == 0x1FF
      ((s.endReq id).complete q.who q.idx q.d.cookie (bit q.d.flags 0)
        { ring := askerRing q.who, hub := if bcast || q.d.op == 0x42 then 0x1FF else q.hub, status := stTimeout,
          result := if bcast then q.answered.eraseDups.length else 0 })

end Sys2Proof.Machine
end

