-- ==== Sys2Proof/Machine/Ring.lean ====
section
/-! DEFINITION. The commands of the management channel, of breaks and of ring alarms (R87, R98 to R109). -/

namespace Sys2Proof.Machine

open Host (Outcome)

/-- A receiver finds slot 0 of the next tick (R87). `marks` are the places in the brim that may end it, as (length, symbol offset of
what follows from the position the receiver predicts): in PAM3 the runs of consecutive K pairs, of which one of at least 64 within
512 symbols counts, in NRZ the end-of-brim words, of which one within 16 words counts. -/
def brimFound (nrz : Bool) (marks : List (Nat × Int)) : Bool :=
  marks.any (fun m => if nrz then decide (m.2.natAbs ≤ 16 * 32) else decide (64 ≤ m.1) && decide (m.2.natAbs ≤ 512))

/-- The pair whose receiver the checker of a running loopback of port `p` watches: SRC in MODE 1 and 2, DST in MODE 4 (R61). -/
def Hub.checkerPair (s : Hub) (p : Nat) : Option Nat :=
  if !s.loopRunning p then none
  else match s.getf (Fld.TRK_LOOP_CTL_MODE p) with
    | 1 | 2 => some (s.getf (Fld.TRK_LOOP_CTL_SRC p))
    | 4 => some (s.getf (Fld.TRK_LOOP_CTL_DST p))
    | _ => none

/-- The checker of a loopback is locked or not after a brim; with a PRBS pattern the `errs` bit errors of a tick in which it is locked
are counted (R61, R71). -/
def Hub.checkerBrim (p : Nat) (found : Bool) (errs : Nat) (s : Hub) : Hub :=
  let s1 := s.setb (Fld.TRK_LOOP_STAT_LOCKED p) found
  if found && s.getf (Fld.TRK_LOOP_CTL_PATTERN p) != 3 then s1.count (Cnt.TRK_LOOP_ERRS p) errs else s1

/-- BRIM_RECEIVE: the receiver of pair `k` at port `p` looks for slot 0 in a brim's filler (R87). A receiver that sought
its lock has it, and carries cells from the next tick (R52); the inbound fixed pair of bring-up locked starts the pair test (R64).
On the checker's pair of a loopback the checker locks, and counts (R61). Log entries 33 (DEDUCED), 164 (DESIGN CHOICE). -/
def execBrimReceive (p : Fin 2) (k : Fin 8) (b : BrimSeen) (s : State) : Outcome State Fault Refusal := s.on fun s =>
  let n := 8 * p.val + k.val
  let found := brimFound (s.flag (Fld.TRK_PAIR_STATUS_NRZ n)) b.marks
  if s.checkerPair p = some k.val then s.checkerBrim p found b.errs
  else if !found then
    { s with ring := { s.ring with framingMiss := Tab.put n (Tab.getD s.ring.framingMiss n 0 + 1) s.ring.framingMiss } }
  else
    let s1 : Hub := { s with ring := { s.ring with
      framingMiss := Tab.del n s.ring.framingMiss, unframed := s.ring.unframed.filter (fun x => x != n) } }
    let seeks := (s.lane p k).seekFrom.isSome
    let s2 := if seeks then (s1.setLane p k { s.lane p k with seekFrom := none }).setf (Fld.TRK_PAIR_STATUS_LOCKED n) 1 else s1
    if s.link p = lkPam3 ∧ k.val = inFixed p then
      ((s2.setf (Fld.TRK_PAIR_STATUS_LOCKED n) 1).startPairTest p)
    else s2

/-- TICK_FRAMING_LOSS: two consecutive brims without a position lose tick framing: the pair's cells are discarded until framing
is reacquired (R52, R87). -/
def execTickFramingLoss (p : Fin 2) (k : Fin 8) (s : State) : Outcome State Fault Refusal := s.on fun s =>
  let n := 8 * p.val + k.val
  if 2 ≤ Tab.getD s.ring.framingMiss n 0 ∧ !s.ring.unframed.contains n then
    let s1 : Hub := { s with ring := { s.ring with unframed := s.ring.unframed ++ [n] } }
    ((s1.setLane p k { s.lane p k with seekFrom := some s.tick }).setf (Fld.TRK_PAIR_STATUS_LOCKED n) 0)
  else s

/-- MGMT_CELL_RECEIVE: a cell read from port `p`'s brim (R88) is decoded, checked (R100) and consumed, forwarded or discarded
(R101). Brim content of a port without a valid sync frame in this brim is discarded, and no more cells than its MCELLS says are read
(R88). -/
def execMgmtCellReceive (p : Fin 2) (bytes : List Byte) (s : State) : Outcome State Fault Refusal := s.on fun s =>
  let (hdr, pay, bad, _) := cellDecode bytes
  let y := Tab.getD s.ring.sync p {}
  if !y.got || y.cells == 0 then s
  else
    let s : Hub := { s with ring := { s.ring with sync := Tab.put p { y with cells := y.cells - 1 } s.ring.sync } }
    if !bad && hTunnel hdr != tnMgmt && hTunnel hdr != tnTime then s
    else match s.acceptCell p hdr pay bad with
    | (true, t) => (t.routeCell p hdr pay)
    | (false, t) => t

/-- MGMT_SOURCE_FORGET: a source from which nothing has been accepted for 512 ticks is forgotten (R100). -/
def execMgmtSourceForget (src : Fin 512) (s : State) : Outcome State Fault Refusal := s.on fun s =>
  match Tab.get? src s.ring.srcs with
  | none => s
  | some t =>
    if t.last + 512 ≤ s.tick then { s with ring := { s.ring with srcs := Tab.del src s.ring.srcs } } else s

/-- BREAK_DECLARE: two consecutive failed brims at port `p` declare a break in tick D (R104): TRK_BREAK, the link drops and
bring-up restarts, an alarm is due (R108), and plan B is scheduled (R111). -/
def execBreakDeclare (p : Fin 2) (s : State) : Outcome State Fault Refusal := s.on fun s =>
  let y := Tab.getD s.ring.sync p {}
  if y.fails < 2 ∨ !s.linkUp p then s
  else
    let s1 := (s.raise Evt.TRK_BREAK [p, s.tick]).setf (if p.val = 0 then Fld.TRK_RING_STATUS_BREAK_U else Fld.TRK_RING_STATUS_BREAK_D) 1
    let s3 := ((s1.queueAlarm p).dropLink p).startBringup p
    let s4 := if s.hasAddr then s3.learnBreak (s.hopAt p) s.tick s.addr true else s3
    (s4.pathCheck)

/-- RING_ALARM_SEND: the next copy of an own alarm is staged for port `o`'s alarm slot of this tick (R108, R109). -/
def execRingAlarmSend (o : Fin 2) (s : State) : Outcome State Fault Refusal := s.on fun s => (s.sendAlarm o)

/-- RING_ALARM_RECEIVE: the alarm cell read at port `p`'s inbound alarm slot is checked (R100) and acted on (R108). Log entry 31 (DEDUCED). -/
def execRingAlarmReceive (p : Fin 2) (s : State) : Outcome State Fault Refusal := s.on fun s =>
  match Tab.get? p s.ring.alarmIn with
  | none => s
  | some c =>
    let s1 : Hub := { s with ring := { s.ring with alarmIn := Tab.del p s.ring.alarmIn } }
    match s1.acceptCell p c.hdr c.pay c.bad with
    | (true, t) => (t.takeAlarm p c)
    | (false, t) => t

/-- HEAD_ALARM_RELAY: the head stages the oldest relay due out of port `o` (R108). -/
def execHeadAlarmRelay (o : Fin 2) (s : State) : Outcome State Fault Refusal := s.on fun s =>
  if s.isHead then (s.relayAlarm o) else s

end Sys2Proof.Machine
end

