-- ==== Sys2Proof/Machine/Ticks.lean ====
section
/-! DEFINITION. What recurs once per tick: the tick boundary and the firmware loops (R31, R32, R191, R406). -/

namespace Sys2Proof.Machine

open Host (Outcome)

/-! Firmware loops (R32). -/

/-- The point of the present tick by which a loop must have ended. -/
def Hub.budgetAt (s : Hub) : Nat := s.tick * tickNs + 50000

/-- SERVO_UPDATE: a node on a time path gets a new rate word within ± 200 ppm, and may move to a better path (R181, R189, R191).
Whether it is LOCKED is judged as each measurement is made. Log entry 57 (DEDUCED). -/
def Hub.servoUpdate (s : Hub) : Hub :=
  if s.isHead || s.timePath.isNone then s else (s.servoRate 200000).pathBetter

/-- The loop of core `c` for the present tick starts: the servo and the polls (R326) on control core 0; on the service core the watchdog's kick
(R448), the completions waiting in queue 7 and the sections being sent. -/
def Hub.startLoop (c : Nat) (s : Hub) : Hub :=
  let s1 : Hub := { s with loops := Tab.put c { tick := s.tick, start := s.up, seen := s.tick } s.loops }
  if c = 0 then s1.servoUpdate.issuePolls
  else if c = 2 then
    let s2 : Hub := if s1.sec.fatal.isSome then s1 else { s1 with sec := { s1.sec with lastKick := s1.upTick } }
    s2.drainDone.pumpLoads
  else s1

/-- `n` loops of core `c` are skipped: each is counted, and control core 0 issues no polls in them (R32, R326). Log entry 60 (DESIGN CHOICE). -/
def Hub.skipLoops (c n : Nat) (s : Hub) : Hub :=
  let polls := ((List.range 4).filter (fun i => s.flag (Fld.FBR_ZCS_CFG_POLL i))).length
  let s1 := s.count Cnt.GEN_TICK_SKIPS n
  if c = 0 then s1.count Cnt.FBR_CNT_POLL_SKIP (n * polls) else s1

/-- TICK_OVERRUN of core `c` after `ns` of run time (R32). -/
def Hub.overrun (c ns : Nat) (s : Hub) : Hub := (s.raise Evt.TICK_OVERRUN [c, ns]).count Cnt.GEN_TICK_OVERRUNS 1

/-- Ticks whose loop of this core has been skipped by line time `t`, beyond those already counted. -/
def LoopRun.missed (l : LoopRun) (t : Nat) : Nat :=
  let last := if 50000 ≤ t % tickNs then t / tickNs else t / tickNs - 1
  last - l.seen

/-- LOOP_BUDGET_EXPIRY (R32): the loop of core `c` still runs 50 µs into tick `n`, the present one, its run time so far since its start. One that started in
this tick has overrun; one from an earlier tick has this tick's loop skipped. Log entry 60 (DESIGN CHOICE). -/
def execLoopBudgetExpiry (c : Fin 3) (n : Nat) (s : State) : Outcome State Fault Refusal := s.on fun s =>
  if s.tick ≠ n then s else
  match Tab.get? c.val s.loops with
  | none => s
  | some l =>
    let s1 := s.advance s.budgetAt
    let s2 := if l.late then s1 else s1.overrun c (s1.up - l.start)
    let m := l.missed s1.now
    let s3 : Hub := { s2 with loops := Tab.put c.val { l with late := true, seen := l.seen + m } s2.loops }
    (if m = 0 then s3 else s3.skipLoops c m)

/-- FIRMWARE_LOOP_END: the loop of core `c` ends with its wait at line time `t` (R32): its overrun, where it was not raised, the loops
it has caused to be skipped, the entries its wait commits (R406), and the margins the control core derives (R431); a late loop's
end starts the present tick's loop where its 50 µs point has not passed. Log entry 60 (DESIGN CHOICE). -/
def execFirmwareLoopEnd (c : Fin 3) (t : Nat) (s : State) : Outcome State Fault Refusal := s.on fun s =>
  match Tab.get? c.val s.loops with
  | none => s
  | some l =>
    let s1 := s.advance t
    let late := decide (l.tick * tickNs + 50000 < s1.now)
    let s2 := if late && !l.late then s1.overrun c (s1.up - l.start) else s1
    let n := l.missed s1.now
    let s3 : Hub := { s2 with loops := Tab.del c.val s2.loops }
    let s4 := if n = 0 then s3 else s3.skipLoops c n
    let s5 := s4.commitCore c
    let s6 := if c.val = 0 then s5.deriveMargins else s5
    (if l.tick < s6.tick ∧ s6.now < s6.budgetAt then s6.startLoop c else s6)

/-! The tick boundary (R31). -/

/-- Firmware loops run on this hub; the fatal path stops them (R460). -/
def Hub.firmwareRuns (s : Hub) : Bool := decide (sgFirmware ≤ s.sec.stage) && s.sec.fatal.isNone && !s.isHeld && !s.sec.inReset && !s.sec.aonOff

/-- FIRMWARE_LOOP_START: every core that waits starts its loop; a late one goes on (R32). -/
def Hub.startLoops (s : Hub) : Hub :=
  if s.firmwareRuns then
    [0, 1, 2].foldl (fun t c =>
      if (Tab.get? c t.loops).isSome || !t.atL0 (if c < 2 then dCTL else dSVC) then t else t.startLoop c) s
  else s

/-- STATISTICS_SNAPSHOT: counters, queue figures and pool registers (R176, R438). -/
def Hub.snapshot (s : Hub) : Hub := ({ s with cntSnap := s.cnts } : Hub).snapshotPool

/-- Pending gap markers are tried again (R168), in the order in which allocations compete: by the class of the queue's producer, then
by index (R165). Log entry 54 (DEDUCED). -/
def Hub.retryMarkers (s : Hub) : Hub :=
  [1, 2, 3, 4, 0].foldl (fun t cls =>
    (s.pool.queues.filter (fun e => (e.2.prod.map Who.cls).getD 0 == cls)).foldl (fun u e => u.writeMarker e.1) t) s

/-- Firmware fetches from its code and data: an uncorrectable error outside the staging area of a pending section is fatal
(R420). Log entry 89 (DEDUCED). -/
def Hub.codeRead (s : Hub) : Hub :=
  let s1 := s.touchAll 10
  match (s1.flipWords 10).find? (fun w => s1.eccBad 10 w && !(decide (stageLo ≤ w) && decide (w < stageHi))) with
  | some w => if s1.sec.fatal.isNone then s1.fatalPath 3 w else s1
  | none => s1

/-- The work of a tick boundary after line time has reached it, in the order of R31: switches and power steps, gate lists, then shapers and
policers, the snapshot, the doorbell page's read and the firmware loops. -/
def Hub.boundaryWork (s : Hub) : Hub :=
  let s1 := s.changesAt.allGatesAt.refillShapers.refillPolicers.retryMarkers.snapshot
  let s2 := (List.range 8).foldl (fun t c => t.lpwPublish c) s1
  let s3 := s2.peerCheck.tableReads.codeRead.pageRead.tickMessages.gadgetFlush.startLoops
  { s3 with worked := s3.tick }

/-- TICK_BOUNDARY (R31): line time reaches the tick boundary whose work comes next; `temp` is the die temperature in 0.1 °C. Log entries 8 (DESIGN CHOICE), 54 (DEDUCED). -/
def execTickBoundary (temp : BitVec 16) (s : State) : Outcome State Fault Refusal := s.on fun s =>
  ((s.toBoundary.setf Fld.GEN_DIE_TEMP_TEMP temp.toNat).boundaryWork)

end Sys2Proof.Machine
end

