-- ==== Sys2Proof/Machine/Dispatch.lean ====
section
/-! DEFINITION. The meaning of each command: one arm per row of the opcode table. -/

namespace Sys2Proof.Machine

open Host (Outcome)

def exec (i : Instr) (s : State) : Host.Outcome State Fault Refusal :=
  match i with
  | .tickBoundary temp => Sys2Proof.Machine.execTickBoundary temp s
  | .loopBudgetExpiry c n => Sys2Proof.Machine.execLoopBudgetExpiry c n s
  | .firmwareLoopEnd c t => Sys2Proof.Machine.execFirmwareLoopEnd c t s
  | .registerWrite off size data => Sys2Proof.Machine.execRegisterWrite off size data s
  | .counterClear off => Sys2Proof.Machine.execCounterClear off s
  | .genSetupClose v => Sys2Proof.Machine.execGenSetupClose v s
  | .genTblViewWrite v => Sys2Proof.Machine.execGenTblViewWrite v s
  | .genRdWinSelWrite v => Sys2Proof.Machine.execGenRdWinSelWrite v s
  | .por mode upb => Sys2Proof.Machine.execPor mode upb s
  | .xtalReadyTimeout => Sys2Proof.Machine.execXtalReadyTimeout s
  | .failsafeXtalRetry ok => Sys2Proof.Machine.execFailsafeXtalRetry ok s
  | .svcParkExpiry => Sys2Proof.Machine.execSvcParkExpiry s
  | .lineBusGood pg => Sys2Proof.Machine.execLineBusGood pg s
  | .railSequenceStep pg => Sys2Proof.Machine.execRailSequenceStep pg s
  | .pgTimeout => Sys2Proof.Machine.execPgTimeout s
  | .pgFall n => Sys2Proof.Machine.execPgFall n s
  | .railFailRecover => Sys2Proof.Machine.execRailFailRecover s
  | .bootRomStart => Sys2Proof.Machine.execBootRomStart s
  | .firmwareVerify => Sys2Proof.Machine.execFirmwareVerify s
  | .boardConfigApply => Sys2Proof.Machine.execBoardConfigApply s
  | .genReady => Sys2Proof.Machine.execGenReady s
  | .rstNAssert => Sys2Proof.Machine.execRstNAssert s
  | .rstNRelease mode upb => Sys2Proof.Machine.execRstNRelease mode upb s
  | .watchdogStage1 => Sys2Proof.Machine.execWatchdogStage1 s
  | .watchdogStage2 => Sys2Proof.Machine.execWatchdogStage2 s
  | .genReset v => Sys2Proof.Machine.execGenReset v s
  | .resetExecute => Sys2Proof.Machine.execResetExecute s
  | .domainReset d => Sys2Proof.Machine.execDomainReset d s
  | .fatalPath cause detail => Sys2Proof.Machine.execFatalPath cause detail s
  | .dumpWriteDone ok x trace regs => Sys2Proof.Machine.execDumpWriteDone ok x trace regs s
  | .dumpRelease v => Sys2Proof.Machine.execDumpRelease v s
  | .lcTransition v => Sys2Proof.Machine.execLcTransition v s
  | .bootCommit v => Sys2Proof.Machine.execBootCommit v s
  | .bootNextSlot v => Sys2Proof.Machine.execBootNextSlot v s
  | .khashBurn v => Sys2Proof.Machine.execKhashBurn v s
  | .khashRevoke v => Sys2Proof.Machine.execKhashRevoke v s
  | .keyLoad v => Sys2Proof.Machine.execKeyLoad v s
  | .keyErase v => Sys2Proof.Machine.execKeyErase v s
  | .keyBlobRewrite => Sys2Proof.Machine.execKeyBlobRewrite s
  | .dbgChallenge v => Sys2Proof.Machine.execDbgChallenge v s
  | .dbgProve v => Sys2Proof.Machine.execDbgProve v s
  | .dbgLock v => Sys2Proof.Machine.execDbgLock v s
  | .dbgLockoutEnd => Sys2Proof.Machine.execDbgLockoutEnd s
  | .flashErase v => Sys2Proof.Machine.execFlashErase v s
  | .flashProgram v => Sys2Proof.Machine.execFlashProgram v s
  | .flashOpDone ok => Sys2Proof.Machine.execFlashOpDone ok s
  | .senseDeparture p => Sys2Proof.Machine.execSenseDeparture p s
  | .cfgPinSample p mv1 mv2 => Sys2Proof.Machine.execCfgPinSample p mv1 mv2 s
  | .attachDebounceExpiry p => Sys2Proof.Machine.execAttachDebounceExpiry p s
  | .detachDebounceExpiry p => Sys2Proof.Machine.execDetachDebounceExpiry p s
  | .cableIdRead p rec0 rec1 => Sys2Proof.Machine.execCableIdRead p rec0 rec1 s
  | .csupTakeover p => Sys2Proof.Machine.execCsupTakeover p s
  | .csupRelease p => Sys2Proof.Machine.execCsupRelease p s
  | .csupResume p => Sys2Proof.Machine.execCsupResume p s
  | .csupFault p => Sys2Proof.Machine.execCsupFault p s
  | .helloSend p => Sys2Proof.Machine.execHelloSend p s
  | .helloReceive p frame => Sys2Proof.Machine.execHelloReceive p frame s
  | .ackReceive p frame => Sys2Proof.Machine.execAckReceive p frame s
  | .pam3Switch p => Sys2Proof.Machine.execPam3Switch p s
  | .fixedPairRetry p => Sys2Proof.Machine.execFixedPairRetry p s
  | .pairTestDone p k locked errors => Sys2Proof.Machine.execPairTestDone p k locked errors s
  | .linkFailTimeout p => Sys2Proof.Machine.execLinkFailTimeout p s
  | .bringupRetry p => Sys2Proof.Machine.execBringupRetry p s
  | .portRelink p => Sys2Proof.Machine.execPortRelink p s
  | .portEnWrite p v => Sys2Proof.Machine.execPortEnWrite p v s
  | .loopStart p v => Sys2Proof.Machine.execLoopStart p v s
  | .loopStop p => Sys2Proof.Machine.execLoopStop p s
  | .knuckleStart unlocked => Sys2Proof.Machine.execKnuckleStart unlocked s
  | .laneWakeStart => Sys2Proof.Machine.execLaneWakeStart s
  | .laneWakeDone p k => Sys2Proof.Machine.execLaneWakeDone p k s
  | .pairLockTimeout p k => Sys2Proof.Machine.execPairLockTimeout p k s
  | .rowRequestReceive => Sys2Proof.Machine.execRowRequestReceive s
  | .pairLockFailReceive => Sys2Proof.Machine.execPairLockFailReceive s
  | .slotReceive p k slot bytes => Sys2Proof.Machine.execSlotReceive p k slot bytes s
  | .switchSlot o k j => Sys2Proof.Machine.execSwitchSlot o k j s
  | .brimTransmit p tx adj => Sys2Proof.Machine.execBrimTransmit p tx adj s
  | .brimReceive p k b => Sys2Proof.Machine.execBrimReceive p k b s
  | .tickFramingLoss p k => Sys2Proof.Machine.execTickFramingLoss p k s
  | .syncFrameReceive p frame rx => Sys2Proof.Machine.execSyncFrameReceive p frame rx s
  | .mgmtCellReceive p bytes => Sys2Proof.Machine.execMgmtCellReceive p bytes s
  | .mgmtSourceForget src => Sys2Proof.Machine.execMgmtSourceForget src s
  | .breakDeclare p => Sys2Proof.Machine.execBreakDeclare p s
  | .ringAlarmSend o => Sys2Proof.Machine.execRingAlarmSend o s
  | .ringAlarmReceive p => Sys2Proof.Machine.execRingAlarmReceive p s
  | .headAlarmRelay o => Sys2Proof.Machine.execHeadAlarmRelay o s
  | .planBEntry => Sys2Proof.Machine.execPlanBEntry s
  | .planLoadFragment => Sys2Proof.Machine.execPlanLoadFragment s
  | .planCheckDone => Sys2Proof.Machine.execPlanCheckDone s
  | .hopDigestReceive => Sys2Proof.Machine.execHopDigestReceive s
  | .planLoadTimeout => Sys2Proof.Machine.execPlanLoadTimeout s
  | .planPeerTimeout => Sys2Proof.Machine.execPlanPeerTimeout s
  | .planQueryMsg => Sys2Proof.Machine.execPlanQueryMsg s
  | .planArmMsg => Sys2Proof.Machine.execPlanArmMsg s
  | .planDisarmMsg => Sys2Proof.Machine.execPlanDisarmMsg s
  | .switchPrepare => Sys2Proof.Machine.execSwitchPrepare s
  | .epochSwitch => Sys2Proof.Machine.execEpochSwitch s
  | .transparentSwitch => Sys2Proof.Machine.execTransparentSwitch s
  | .transparentEntry => Sys2Proof.Machine.execTransparentEntry s
  | .heldBankRelease => Sys2Proof.Machine.execHeldBankRelease s
  | .epochAdopt p => Sys2Proof.Machine.execEpochAdopt p s
  | .epochMismatch p => Sys2Proof.Machine.execEpochMismatch p s
  | .cellProduce q w c => Sys2Proof.Machine.execCellProduce q w c s
  | .gapMarkerWrite q => Sys2Proof.Machine.execGapMarkerWrite q s
  | .packetConsume q => Sys2Proof.Machine.execPacketConsume q s
  | .carveClaimDeadline => Sys2Proof.Machine.execCarveClaimDeadline s
  | .queueFlush v => Sys2Proof.Machine.execQueueFlush v s
  | .queueEnable q v => Sys2Proof.Machine.execQueueEnable q v s
  | .queueDisable q v => Sys2Proof.Machine.execQueueDisable q v s
  | .quotaProfileMinWrite ix v => Sys2Proof.Machine.execQuotaProfileMinWrite ix v s
  | .quotaProfileCommit ix v => Sys2Proof.Machine.execQuotaProfileCommit ix v s
  | .poolLowReload v => Sys2Proof.Machine.execPoolLowReload v s
  | .readPortBind p v => Sys2Proof.Machine.execReadPortBind p v s
  | .readPortDataRead p wide => Sys2Proof.Machine.execReadPortDataRead p wide s
  | .readPortDataHighRead p => Sys2Proof.Machine.execReadPortDataHighRead p s
  | .lineTimeRead t frac => Sys2Proof.Machine.execLineTimeRead t frac s
  | .gmSourceMeasure e ptp clock => Sys2Proof.Machine.execGmSourceMeasure e ptp clock s
  | .ppsInEdge t => Sys2Proof.Machine.execPpsInEdge t s
  | .gmHoldoverTimeout => Sys2Proof.Machine.execGmHoldoverTimeout s
  | .gmHoldoverLimit => Sys2Proof.Machine.execGmHoldoverLimit s
  | .gmSourceWrite v => Sys2Proof.Machine.execGmSourceWrite v s
  | .originWrite ix v => Sys2Proof.Machine.execOriginWrite ix v s
  | .closureUpdate => Sys2Proof.Machine.execClosureUpdate s
  | .timeAnnounceReceive => Sys2Proof.Machine.execTimeAnnounceReceive s
  | .tioLevelWrite v => Sys2Proof.Machine.execTioLevelWrite v s
  | .tioModeChange n v => Sys2Proof.Machine.execTioModeChange n v s
  | .tioCapture n high t => Sys2Proof.Machine.execTioCapture n high t s
  | .captureRoute => Sys2Proof.Machine.execCaptureRoute s
  | .launchRecordPost => Sys2Proof.Machine.execLaunchRecordPost s
  | .launchAdmit t => Sys2Proof.Machine.execLaunchAdmit t s
  | .launchCancelAdmit => Sys2Proof.Machine.execLaunchCancelAdmit s
  | .launchHandover slot => Sys2Proof.Machine.execLaunchHandover slot s
  | .tioSet slot => Sys2Proof.Machine.execTioSet slot s
  | .tioClear slot => Sys2Proof.Machine.execTioClear slot s
  | .tioPulse slot => Sys2Proof.Machine.execTioPulse slot s
  | .tioPulseEnd slot => Sys2Proof.Machine.execTioPulseEnd slot s
  | .canTx slot => Sys2Proof.Machine.execCanTx slot s
  | .ethRelease slot ts => Sys2Proof.Machine.execEthRelease slot ts s
  | .dispCommit slot => Sys2Proof.Machine.execDispCommit slot s
  | .camTrigger slot ts => Sys2Proof.Machine.execCamTrigger slot ts s
  | .launchCompletionPost => Sys2Proof.Machine.execLaunchCompletionPost s
  | .hostPortReset cause => Sys2Proof.Machine.execHostPortReset cause s
  | .hifLinkUp speed width bme => Sys2Proof.Machine.execHifLinkUp speed width bme s
  | .bar2Read a n => Sys2Proof.Machine.execBar2Read a n s
  | .msixVectorUnmask v w => Sys2Proof.Machine.execMsixVectorUnmask v w s
  | .ringEnable r v => Sys2Proof.Machine.execRingEnable r v s
  | .ringDisable r v => Sys2Proof.Machine.execRingDisable r v s
  | .ringDrainDone r => Sys2Proof.Machine.execRingDrainDone r s
  | .doorbellPageArrive r words => Sys2Proof.Machine.execDoorbellPageArrive r words s
  | .doorbellLate => Sys2Proof.Machine.execDoorbellLate s
  | .hifNudge v => Sys2Proof.Machine.execHifNudge v s
  | .descriptorFetch r data => Sys2Proof.Machine.execDescriptorFetch r data s
  | .txPkt r data => Sys2Proof.Machine.execTxPkt r data s
  | .txTile r data => Sys2Proof.Machine.execTxTile r data s
  | .txCommit r => Sys2Proof.Machine.execTxCommit r s
  | .rxBuf r ok => Sys2Proof.Machine.execRxBuf r ok s
  | .regRead w ok => Sys2Proof.Machine.execRegRead w ok s
  | .regWrite w data => Sys2Proof.Machine.execRegWrite w data s
  | .regWriteHop w => Sys2Proof.Machine.execRegWriteHop w s
  | .ping w => Sys2Proof.Machine.execPing w s
  | .planLoad w data => Sys2Proof.Machine.execPlanLoad w data s
  | .planArm w => Sys2Proof.Machine.execPlanArm w s
  | .planDisarm w => Sys2Proof.Machine.execPlanDisarm w s
  | .planQuery w => Sys2Proof.Machine.execPlanQuery w s
  | .launch w data => Sys2Proof.Machine.execLaunch w data s
  | .launchCancel w => Sys2Proof.Machine.execLaunchCancel w s
  | .reset w => Sys2Proof.Machine.execReset w s
  | .nop w => Sys2Proof.Machine.execNop w s
  | .dumpBuf r => Sys2Proof.Machine.execDumpBuf r s
  | .regReadMsg => Sys2Proof.Machine.execRegReadMsg s
  | .regWriteMsg => Sys2Proof.Machine.execRegWriteMsg s
  | .regWriteHopMsg => Sys2Proof.Machine.execRegWriteHopMsg s
  | .pingMsg => Sys2Proof.Machine.execPingMsg s
  | .launchMsg => Sys2Proof.Machine.execLaunchMsg s
  | .launchCancelMsg => Sys2Proof.Machine.execLaunchCancelMsg s
  | .resetMsg => Sys2Proof.Machine.execResetMsg s
  | .responseReceive ok => Sys2Proof.Machine.execResponseReceive ok s
  | .launchDoneReceive => Sys2Proof.Machine.execLaunchDoneReceive s
  | .eventRelayReceive => Sys2Proof.Machine.execEventRelayReceive s
  | .mgmtRequestTimeout id => Sys2Proof.Machine.execMgmtRequestTimeout id s
  | .eventDeliver => Sys2Proof.Machine.execEventDeliver s
  | .interruptModeration r => Sys2Proof.Machine.execInterruptModeration r s
  | .ethFrameReceive p frame ts => Sys2Proof.Machine.execEthFrameReceive p frame ts s
  | .ethTransmitStart p t ts => Sys2Proof.Machine.execEthTransmitStart p t ts s
  | .ethLinkChange p up speed an cause => Sys2Proof.Machine.execEthLinkChange p up speed an cause s
  | .flowEntryHold f w v => Sys2Proof.Machine.execFlowEntryHold f w v s
  | .flowEntryCommit f v => Sys2Proof.Machine.execFlowEntryCommit f v s
  | .policerCommit ix v => Sys2Proof.Machine.execPolicerCommit ix v s
  | .egqEnable p v => Sys2Proof.Machine.execEgqEnable p v s
  | .relqBind p j v => Sys2Proof.Machine.execRelqBind p j v s
  | .gateListCommit p v => Sys2Proof.Machine.execGateListCommit p v s
  | .gateListCancel p => Sys2Proof.Machine.execGateListCancel p s
  | .gateListTakeover p => Sys2Proof.Machine.execGateListTakeover p s
  | .gateListEntryAdvance p => Sys2Proof.Machine.execGateListEntryAdvance p s
  | .ptpMessageSend p frame ts => Sys2Proof.Machine.execPtpMessageSend p frame ts s
  | .blkPortEnable d v => Sys2Proof.Machine.execBlkPortEnable d v s
  | .blkPerstRelease d => Sys2Proof.Machine.execBlkPerstRelease d s
  | .blkLinkUp d speed width nvme cap ready admin mdts => Sys2Proof.Machine.execBlkLinkUp d speed width nvme cap ready admin mdts s
  | .blkBringupFail d cause => Sys2Proof.Machine.execBlkBringupFail d cause s
  | .blkBringupRetry d => Sys2Proof.Machine.execBlkBringupRetry d s
  | .blkPortDisable d => Sys2Proof.Machine.execBlkPortDisable d s
  | .nvmeCqeReceive d q lbads => Sys2Proof.Machine.execNvmeCqeReceive d q lbads s
  | .ssdInboundAccess d a write len bytes => Sys2Proof.Machine.execSsdInboundAccess d a write len bytes s
  | .blkRead w => Sys2Proof.Machine.execBlkRead w s
  | .blkWrite w data => Sys2Proof.Machine.execBlkWrite w data s
  | .blkFlush w => Sys2Proof.Machine.execBlkFlush w s
  | .blkDeallocate w => Sys2Proof.Machine.execBlkDeallocate w s
  | .blkIdentify w => Sys2Proof.Machine.execBlkIdentify w s
  | .blkCommandIssue t => Sys2Proof.Machine.execBlkCommandIssue t s
  | .blkResponseReceive t ok => Sys2Proof.Machine.execBlkResponseReceive t ok s
  | .blkTunnelTimeout tag => Sys2Proof.Machine.execBlkTunnelTimeout tag s
  | .blkDevTimeout d ix => Sys2Proof.Machine.execBlkDevTimeout d ix s
  | .blkCtrlReset d => Sys2Proof.Machine.execBlkCtrlReset d s
  | .blkLinkDown d => Sys2Proof.Machine.execBlkLinkDown d s
  | .dspHeadEnable h v => Sys2Proof.Machine.execDspHeadEnable h v s
  | .dspHeadDisable h => Sys2Proof.Machine.execDspHeadDisable h s
  | .dspLinkTrain h ok => Sys2Proof.Machine.execDspLinkTrain h ok s
  | .dspTrainRetry h ok => Sys2Proof.Machine.execDspTrainRetry h ok s
  | .dspIrqHpd h lost ok => Sys2Proof.Machine.execDspIrqHpd h lost ok s
  | .dspHpdRise h dpcd edid => Sys2Proof.Machine.execDspHpdRise h dpcd edid s
  | .dspHpdLoss h => Sys2Proof.Machine.execDspHpdLoss h s
  | .dspPacketTake h t => Sys2Proof.Machine.execDspPacketTake h t s
  | .dspFrameStart h t => Sys2Proof.Machine.execDspFrameStart h t s
  | .dspApplyDone h => Sys2Proof.Machine.execDspApplyDone h s
  | .dspPrefill h => Sys2Proof.Machine.execDspPrefill h s
  | .dspScanoutStart h => Sys2Proof.Machine.execDspScanoutStart h s
  | .dspFrzWrite h r v => Sys2Proof.Machine.execDspFrzWrite h r v s
  | .fbrRead w ok => Sys2Proof.Machine.execFbrRead w ok s
  | .fbrWrite w data => Sys2Proof.Machine.execFbrWrite w data s
  | .fbrLocked w => Sys2Proof.Machine.execFbrLocked w s
  | .fbrReadMsg => Sys2Proof.Machine.execFbrReadMsg s
  | .fbrWriteMsg => Sys2Proof.Machine.execFbrWriteMsg s
  | .fbrLockedMsg => Sys2Proof.Machine.execFbrLockedMsg s
  | .zoneBusCycle words => Sys2Proof.Machine.execZoneBusCycle words s
  | .zrdyTimeout words => Sys2Proof.Machine.execZrdyTimeout words s
  | .fbrStale ix => Sys2Proof.Machine.execFbrStale ix s
  | .fbrPrefetchExpiry ix => Sys2Proof.Machine.execFbrPrefetchExpiry ix s
  | .fbrWinClear v => Sys2Proof.Machine.execFbrWinClear v s
  | .fbrWindowEnable w v => Sys2Proof.Machine.execFbrWindowEnable w v s
  | .zintSample t levels => Sys2Proof.Machine.execZintSample t levels s
  | .fbrPoll c res => Sys2Proof.Machine.execFbrPoll c res s
  | .canTxreq c hi v => Sys2Proof.Machine.execCanTxreq c hi v s
  | .canTxDone c res sof => Sys2Proof.Machine.execCanTxDone c res sof s
  | .canFrameReceive c frame sof => Sys2Proof.Machine.execCanFrameReceive c frame sof s
  | .canErrorStateChange c st tec rec' => Sys2Proof.Machine.execCanErrorStateChange c st tec rec' s
  | .canBusOn c => Sys2Proof.Machine.execCanBusOn c s
  | .canEnable c v => Sys2Proof.Machine.execCanEnable c v s
  | .signalMapPass => Sys2Proof.Machine.execSignalMapPass s
  | .signalMapHold ix w v => Sys2Proof.Machine.execSignalMapHold ix w v s
  | .signalMapCommit ix v => Sys2Proof.Machine.execSignalMapCommit ix v s
  | .tcpPortEnable n v => Sys2Proof.Machine.execTcpPortEnable n v s
  | .ccChange n cc1 cc2 => Sys2Proof.Machine.execCcChange n cc1 cc2 s
  | .tcpCcDebounce n => Sys2Proof.Machine.execTcpCcDebounce n s
  | .tcpDetachDebounce n => Sys2Proof.Machine.execTcpDetachDebounce n s
  | .tcpErrorRecoveryEnd n => Sys2Proof.Machine.execTcpErrorRecoveryEnd n s
  | .portSAttachChange mv rp1 rp2 => Sys2Proof.Machine.execPortSAttachChange mv rp1 rp2 s
  | .vbusEnable n => Sys2Proof.Machine.execVbusEnable n s
  | .tcpNoBudget n => Sys2Proof.Machine.execTcpNoBudget n s
  | .sourceCapabilitiesSend n goodCrc => Sys2Proof.Machine.execSourceCapabilitiesSend n goodCrc s
  | .pdRequest n pos op mismatch rev2 => Sys2Proof.Machine.execPdRequest n pos op mismatch rev2 s
  | .pdTransitionStart n => Sys2Proof.Machine.execPdTransitionStart n s
  | .pdVbusReached n => Sys2Proof.Machine.execPdVbusReached n s
  | .pdTransitionTimeout n => Sys2Proof.Machine.execPdTransitionTimeout n s
  | .pdReofferTimeout n => Sys2Proof.Machine.execPdReofferTimeout n s
  | .pdGetSourceCap n => Sys2Proof.Machine.execPdGetSourceCap n s
  | .pdUnsupportedMessage n vdm => Sys2Proof.Machine.execPdUnsupportedMessage n vdm s
  | .pdSoftReset n => Sys2Proof.Machine.execPdSoftReset n s
  | .pdMessageFail n => Sys2Proof.Machine.execPdMessageFail n s
  | .hardReset n sent => Sys2Proof.Machine.execHardReset n sent s
  | .hardResetEnd n => Sys2Proof.Machine.execHardResetEnd n s
  | .recaps n => Sys2Proof.Machine.execRecaps n s
  | .vconnTake n => Sys2Proof.Machine.execVconnTake n s
  | .vconnSwapReceive n => Sys2Proof.Machine.execVconnSwapReceive n s
  | .sinktxngWaitEnd n msg stage => Sys2Proof.Machine.execSinktxngWaitEnd n msg stage s
  | .pdPsRdy n => Sys2Proof.Machine.execPdPsRdy n s
  | .vconnSwapTimeout n => Sys2Proof.Machine.execVconnSwapTimeout n s
  | .dpAltModeEntry n => Sys2Proof.Machine.execDpAltModeEntry n s
  | .pdVdmResponse n ans => Sys2Proof.Machine.execPdVdmResponse n ans s
  | .vdmResponseTimeout n => Sys2Proof.Machine.execVdmResponseTimeout n s
  | .dpExit n => Sys2Proof.Machine.execDpExit n s
  | .pdAttention n hpd irq => Sys2Proof.Machine.execPdAttention n hpd irq s
  | .usbSofReceive frame t present => Sys2Proof.Machine.execUsbSofReceive frame t present s
  | .usbSuspend => Sys2Proof.Machine.execUsbSuspend s
  | .usbBabble k frame => Sys2Proof.Machine.execUsbBabble k frame s
  | .usbResume woke => Sys2Proof.Machine.execUsbResume woke s
  | .gadgetRemoteWake armed => Sys2Proof.Machine.execGadgetRemoteWake armed s
  | .usbBusReset inControl req stage => Sys2Proof.Machine.execUsbBusReset inControl req stage s
  | .gadgetCommand a => Sys2Proof.Machine.execGadgetCommand a s
  | .gadgetFilterSet a => Sys2Proof.Machine.execGadgetFilterSet a s
  | .getInfo => Sys2Proof.Machine.execGetInfo s
  | .getChallenge => Sys2Proof.Machine.execGetChallenge s
  | .setProof bytes => Sys2Proof.Machine.execSetProof bytes s
  | .lock => Sys2Proof.Machine.execLock s
  | .execCmd bytes => Sys2Proof.Machine.execExecCmd bytes s
  | .gadgetSessionIdle => Sys2Proof.Machine.execGadgetSessionIdle s
  | .gadgetLockoutEnd => Sys2Proof.Machine.execGadgetLockoutEnd s
  | .lpwChannelEn c v => Sys2Proof.Machine.execLpwChannelEn c v s
  | .lpwQualifyDone c => Sys2Proof.Machine.execLpwQualifyDone c s
  | .lpwRampDone c => Sys2Proof.Machine.execLpwRampDone c s
  | .startTimeout c => Sys2Proof.Machine.execStartTimeout c s
  | .shortAtStart c => Sys2Proof.Machine.execShortAtStart c s
  | .currentLimit c => Sys2Proof.Machine.execCurrentLimit c s
  | .gauntlet c => Sys2Proof.Machine.execGauntlet c s
  | .fastTrip c ix => Sys2Proof.Machine.execFastTrip c ix s
  | .overtemp c => Sys2Proof.Machine.execOvertemp c s
  | .ov c => Sys2Proof.Machine.execOv c s
  | .reverseCurrent c ix => Sys2Proof.Machine.execReverseCurrent c ix s
  | .forwardReclose c => Sys2Proof.Machine.execForwardReclose c s
  | .bothSidesDead c => Sys2Proof.Machine.execBothSidesDead c s
  | .cooldownEnd c => Sys2Proof.Machine.execCooldownEnd c s
  | .tripHistoryReset c => Sys2Proof.Machine.execTripHistoryReset c s
  | .lpwClear c => Sys2Proof.Machine.execLpwClear c s
  | .lpwGauntletCommit c v => Sys2Proof.Machine.execLpwGauntletCommit c v s
  | .lpwSample c ix vi vo ntc => Sys2Proof.Machine.execLpwSample c ix vi vo ntc s
  | .ipeakClear c => Sys2Proof.Machine.execIpeakClear c s
  | .pwrEntryArm d v ctl => Sys2Proof.Machine.execPwrEntryArm d v ctl s
  | .pwrWakeRequest d ctl => Sys2Proof.Machine.execPwrWakeRequest d ctl s
  | .pwrEntryDone d => Sys2Proof.Machine.execPwrEntryDone d s
  | .pwrExitDone d t => Sys2Proof.Machine.execPwrExitDone d t s
  | .pwrScheduledWake d => Sys2Proof.Machine.execPwrScheduledWake d s
  | .pwrHwWake d => Sys2Proof.Machine.execPwrHwWake d s
  | .pwrWakeTimeout d lane => Sys2Proof.Machine.execPwrWakeTimeout d lane s
  | .pwrWakeRetry d lane t => Sys2Proof.Machine.execPwrWakeRetry d lane t s
  | .pwrDomRetry d v => Sys2Proof.Machine.execPwrDomRetry d v s
  | .pwrRefuseClear d => Sys2Proof.Machine.execPwrRefuseClear d s
  | .linkRamAuditDone => Sys2Proof.Machine.execLinkRamAuditDone s
  | .flipArm v => Sys2Proof.Machine.execFlipArm v s
  | .flipApply word => Sys2Proof.Machine.execFlipApply word s
  | .eccLogClear => Sys2Proof.Machine.execEccLogClear s
  | .roSample n delta temp => Sys2Proof.Machine.execRoSample n delta temp s
  | .eyeScanRoutine p k => Sys2Proof.Machine.execEyeScanRoutine p k s
  | .eyeScanPoint p k clear => Sys2Proof.Machine.execEyeScanPoint p k clear s
  | .replanWaitExpiry => Sys2Proof.Machine.execReplanWaitExpiry s
  | .fetHistoryUpdate c b => Sys2Proof.Machine.execFetHistoryUpdate c b s
  | .voltageDroop r => Sys2Proof.Machine.execVoltageDroop r s
  | .eyeScan tag target => Sys2Proof.Machine.execEyeScan tag target s
  | .bist tag target => Sys2Proof.Machine.execBist tag target s
  | .rowRepair tag target => Sys2Proof.Machine.execRowRepair tag target s
  | .ageingSample tag target => Sys2Proof.Machine.execAgeingSample tag target s
  | .fuseTest tag target => Sys2Proof.Machine.execFuseTest tag target s
  | .bistTestStart id => Sys2Proof.Machine.execBistTestStart id s
  | .bistFenceTimeout id => Sys2Proof.Machine.execBistFenceTimeout id s
  | .maintStop id => Sys2Proof.Machine.execMaintStop id s
  | .maintDone id r => Sys2Proof.Machine.execMaintDone id r s
  | .aonStop => Sys2Proof.Machine.execAonStop s
  | .lowSpeedLock p => Sys2Proof.Machine.execLowSpeedLock p s
  | .perstNRelease => Sys2Proof.Machine.execPerstNRelease s
  | .upbVbusChange on => Sys2Proof.Machine.execUpbVbusChange on s
  | .hubPortReset k speed => Sys2Proof.Machine.execHubPortReset k speed s
  | .gadgetInTransfer ep => Sys2Proof.Machine.execGadgetInTransfer ep s

end Sys2Proof.Machine
end

