-- ==== Sys2Proof/Machine/Step.lean ====
section
/-! DEFINITION. One step: the command at the front of the queue runs; an empty queue leaves the hub idle. -/

namespace Sys2Proof.Machine

/-- The machine with the command at the front of its queue taken off. Log entry 1 (DESIGN CHOICE). -/
def State.rest (s : State) : State := { s with pending := s.pending.tail }

/-- One step. Log entry 1 (DESIGN CHOICE). -/
def step (s : State) : Host.Outcome State Fault Refusal :=
  match s.pending with
  | [] => .next s
  | c :: _ => exec c s.rest

/-- The machine with the command that a word spells at the front of its queue; as no word spells one, the machine itself. Log entry 6 (DESIGN CHOICE). -/
def State.withFetchWord (s : State) (nbits w : Nat) : State :=
  match decodeTableWord nbits w with
  | none => s
  | some c => { s with pending := c :: s.pending }

end Sys2Proof.Machine
end

