-- ==== Sys2Proof/Machine/Footprint.lean ====
section
/-! DEFINITION. What a command may change: the parts of the hub beside its register fields, and, for the commands that name the
units they act on by their operands, the register fields. Claims about what a command leaves unchanged are stated with it. -/

namespace Sys2Proof.Machine

/-- The parts of the hub beside its register fields. -/
inductive Part where
  | counters | snapshots | clock | loops | freeCount | events | raiseTimes | outputs | memory | pool | reliability | plans | trunk | linePower | typeC | power | lineTime | storage | display | bridge | ringLink | security | network | host
  deriving DecidableEq, Repr

/-- Part `p` of the hub is the same in `s` and `t`. -/
def Part.same (p : Part) (s t : Hub) : Prop :=
  match p with
  | .counters => t.cnts = s.cnts
  | .snapshots => t.cntSnap = s.cntSnap
  | .clock => t.now = s.now ∧ t.nowFrac = s.nowFrac ∧ t.worked = s.worked ∧ t.stepped = s.stepped
  | .loops => t.loops = s.loops
  | .freeCount => t.fresh = s.fresh
  | .events => t.ev = s.ev
  | .raiseTimes => t.lastRaise = s.lastRaise
  | .outputs => t.out = s.out
  | .memory => t.lineMem = s.lineMem
  | .pool => t.pool = s.pool
  | .reliability => t.rel = s.rel
  | .plans => t.plan = s.plan
  | .trunk => t.trunk = s.trunk
  | .linePower => t.lpw = s.lpw
  | .typeC => t.tcp = s.tcp
  | .power => t.pwr = s.pwr
  | .lineTime => t.time = s.time
  | .storage => t.blk = s.blk
  | .display => t.dsp = s.dsp
  | .bridge => t.fbr = s.fbr
  | .ringLink => t.ring = s.ring
  | .security => t.sec = s.sec
  | .network => t.net = s.net
  | .host => t.hif = s.hif

/-- What storing a packet into a queue may change: the pool, line memory, the error log, counters and events. -/
def Part.storing : List Part := [.counters, .freeCount, .events, .raiseTimes, .memory, .pool, .reliability]

/-- What raising an event may change. -/
def Part.posting : List Part := [.counters, .events]

/-- What reading a protected memory may change (R422, R423). -/
def Part.reading : List Part := [.counters, .events, .raiseTimes, .reliability]

/-- What a change of a power channel's state may change: the channel, and an activity that holds it (R437). -/
def Part.chanParts : List Part := [.counters, .events, .memory, .pool, .reliability, .linePower]

/-- All of them. -/
def Part.everything : List Part := [.counters, .snapshots, .clock, .loops, .freeCount, .events, .raiseTimes, .outputs, .memory, .pool, .reliability, .plans, .trunk, .linePower, .typeC, .power, .lineTime, .storage, .display, .bridge, .ringLink, .security, .network, .host]

/-- The parts of the hub that a command may change; the whole of it where the hub, a domain or the plan changes as one. -/
def partsOf : Instr → List Part
  | .tickBoundary _ => Part.everything
  | .loopBudgetExpiry _ _ => Part.posting ++ [.clock, .loops]
  | .firmwareLoopEnd _ _ => Part.storing ++ [.clock, .loops, .outputs, .plans, .trunk, .typeC, .power, .lineTime, .storage, .display, .bridge, .ringLink, .security, .network, .host]
  | .registerWrite _ _ _ => Part.everything
  | .counterClear _ => [.counters, .snapshots]
  | .genSetupClose _ => Part.everything
  | .genTblViewWrite _ => Part.everything
  | .genRdWinSelWrite _ => Part.everything
  | .por _ _ => Part.everything
  | .xtalReadyTimeout => Part.storing ++ [.clock, .outputs, .plans, .trunk, .linePower, .typeC, .power, .lineTime, .storage, .display, .bridge, .ringLink, .security, .host]
  | .failsafeXtalRetry _ => Part.everything
  | .svcParkExpiry => [.clock, .power]
  | .lineBusGood _ => Part.posting ++ [.outputs, .security]
  | .railSequenceStep _ => Part.posting ++ [.outputs, .security]
  | .pgTimeout => Part.posting ++ [.outputs, .security]
  | .pgFall _ => Part.posting ++ [.outputs, .security]
  | .railFailRecover => Part.everything
  | .bootRomStart => Part.posting ++ [.outputs, .memory, .pool, .reliability, .plans, .trunk, .linePower, .lineTime, .ringLink, .security]
  | .firmwareVerify => Part.posting ++ [.outputs, .memory, .pool, .reliability, .plans, .trunk, .linePower, .lineTime, .ringLink, .security]
  | .boardConfigApply => Part.everything
  | .genReady => Part.posting ++ [.clock, .memory, .pool, .reliability, .power, .lineTime, .security]
  | .rstNAssert => Part.everything
  | .rstNRelease _ _ => Part.posting ++ [.outputs, .memory, .pool, .reliability, .plans, .trunk, .linePower, .lineTime, .ringLink, .security]
  | .watchdogStage1 => Part.posting ++ [.loops, .outputs, .security]
  | .watchdogStage2 => Part.everything
  | .genReset _ => [.security]
  | .resetExecute => Part.everything
  | .domainReset _ => Part.storing ++ [.clock, .outputs, .linePower, .typeC, .power, .storage, .display, .bridge, .security, .host]
  | .fatalPath _ _ => Part.posting ++ [.loops, .raiseTimes, .outputs, .pool, .storage, .security]
  | .dumpWriteDone _ _ _ _ => Part.everything
  | .dumpRelease _ => [.memory, .pool]
  | .lcTransition _ => Part.everything
  | .bootCommit _ => [.security]
  | .bootNextSlot _ => [.security]
  | .khashBurn _ => [.security]
  | .khashRevoke _ => [.security]
  | .keyLoad _ => Part.posting ++ [.security]
  | .keyErase _ => Part.posting ++ [.security]
  | .keyBlobRewrite => [.security]
  | .dbgChallenge _ => Part.posting ++ [.freeCount, .security]
  | .dbgProve _ => Part.posting ++ [.freeCount, .security]
  | .dbgLock _ => Part.posting ++ [.freeCount, .security]
  | .dbgLockoutEnd => [.security]
  | .flashErase _ => [.security]
  | .flashProgram _ => [.security]
  | .flashOpDone _ => [.security]
  | .senseDeparture _ => Part.posting ++ [.memory, .pool, .reliability, .trunk, .linePower]
  | .cfgPinSample _ _ _ => Part.posting ++ [.memory, .pool, .reliability, .trunk, .linePower]
  | .attachDebounceExpiry _ => Part.posting ++ [.outputs, .memory, .pool, .reliability, .trunk, .linePower]
  | .detachDebounceExpiry _ => Part.posting ++ [.memory, .pool, .reliability, .plans, .trunk, .linePower, .lineTime, .ringLink]
  | .cableIdRead _ _ _ => Part.posting ++ [.trunk]
  | .csupTakeover _ => Part.posting ++ [.outputs]
  | .csupRelease _ => []
  | .csupResume _ => [.outputs]
  | .csupFault _ => Part.posting ++ [.trunk]
  | .helloSend _ => [.outputs, .trunk]
  | .helloReceive _ _ => Part.posting ++ [.outputs, .memory, .pool, .reliability, .plans, .trunk, .lineTime, .ringLink]
  | .ackReceive _ _ => [.trunk]
  | .pam3Switch _ => Part.posting ++ [.outputs, .memory, .pool, .reliability, .plans, .trunk, .lineTime, .ringLink]
  | .fixedPairRetry _ => Part.posting ++ [.outputs, .memory, .pool, .reliability, .plans, .trunk, .lineTime, .ringLink]
  | .pairTestDone _ _ _ _ => Part.posting ++ [.reliability, .trunk]
  | .linkFailTimeout _ => Part.posting ++ [.memory, .pool, .reliability, .plans, .trunk, .lineTime, .ringLink]
  | .bringupRetry _ => [.trunk]
  | .portRelink _ => Part.posting ++ [.memory, .pool, .reliability, .plans, .trunk, .lineTime, .ringLink]
  | .portEnWrite _ _ => Part.posting ++ [.outputs, .memory, .pool, .reliability, .plans, .trunk, .lineTime, .ringLink]
  | .loopStart _ _ => Part.posting ++ [.snapshots, .outputs, .reliability, .trunk]
  | .loopStop _ => Part.posting ++ [.snapshots, .outputs, .reliability, .trunk]
  | .knuckleStart _ => [.clock, .outputs, .trunk]
  | .laneWakeStart => Part.posting ++ [.clock, .reliability, .trunk, .power]
  | .laneWakeDone _ _ => [.trunk]
  | .pairLockTimeout _ _ => Part.storing ++ [.trunk, .ringLink]
  | .rowRequestReceive => Part.posting ++ [.raiseTimes, .pool, .reliability, .trunk, .storage, .ringLink]
  | .pairLockFailReceive => Part.posting ++ [.raiseTimes, .pool, .reliability, .storage, .ringLink]
  | .slotReceive _ _ _ _ => [.counters, .outputs, .reliability, .ringLink]
  | .switchSlot _ _ _ => Part.storing ++ [.clock, .outputs, .plans, .storage, .bridge, .ringLink, .network]
  | .brimTransmit _ _ _ => Part.storing ++ [.clock, .outputs, .plans, .lineTime, .storage, .ringLink]
  | .brimReceive _ _ _ => [.counters, .reliability, .trunk, .ringLink]
  | .tickFramingLoss _ _ => [.trunk, .ringLink]
  | .syncFrameReceive _ _ _ => Part.storing ++ [.clock, .outputs, .plans, .trunk, .typeC, .power, .lineTime, .display, .ringLink, .network, .host]
  | .mgmtCellReceive _ _ => Part.storing ++ [.ringLink]
  | .mgmtSourceForget _ => [.ringLink]
  | .breakDeclare _ => Part.storing ++ [.clock, .outputs, .plans, .trunk, .typeC, .power, .lineTime, .display, .ringLink, .network, .host]
  | .ringAlarmSend _ => [.ringLink]
  | .ringAlarmReceive _ => Part.storing ++ [.outputs, .plans, .power, .ringLink, .host]
  | .headAlarmRelay _ => [.ringLink]
  | .planBEntry => Part.storing ++ [.clock, .outputs, .plans, .trunk, .linePower, .typeC, .power, .storage, .display, .bridge, .ringLink, .network, .host]
  | .planLoadFragment => Part.storing ++ [.plans, .storage, .ringLink]
  | .planCheckDone => Part.storing ++ [.outputs, .plans, .power, .ringLink, .host]
  | .hopDigestReceive => Part.storing ++ [.outputs, .plans, .power, .storage, .ringLink, .host]
  | .planLoadTimeout => Part.storing ++ [.outputs, .plans, .ringLink, .host]
  | .planPeerTimeout => Part.storing ++ [.outputs, .plans, .ringLink, .host]
  | .planQueryMsg => Part.storing ++ [.storage, .ringLink]
  | .planArmMsg => Part.storing ++ [.plans, .power, .storage, .ringLink]
  | .planDisarmMsg => Part.storing ++ [.outputs, .plans, .storage, .ringLink, .host]
  | .switchPrepare => [.counters, .clock, .power]
  | .epochSwitch => Part.storing ++ [.clock, .outputs, .plans, .trunk, .linePower, .typeC, .power, .storage, .display, .bridge, .ringLink, .network, .host]
  | .transparentSwitch => Part.storing ++ [.clock, .outputs, .plans, .trunk, .linePower, .typeC, .power, .storage, .display, .bridge, .ringLink, .network, .host]
  | .transparentEntry => Part.storing ++ [.clock, .outputs, .plans, .trunk, .linePower, .typeC, .power, .storage, .display, .bridge, .ringLink, .network, .host]
  | .heldBankRelease => [.plans]
  | .epochAdopt _ => [.plans]
  | .epochMismatch _ => Part.posting ++ [.plans, .power]
  | .cellProduce _ _ _ => Part.storing
  | .gapMarkerWrite _ => Part.storing
  | .packetConsume _ => Part.posting ++ [.raiseTimes, .pool, .reliability, .storage]
  | .carveClaimDeadline => Part.posting ++ [.pool, .storage]
  | .queueFlush _ => Part.posting ++ [.pool, .storage]
  | .queueEnable _ _ => Part.posting ++ [.raiseTimes, .pool, .storage]
  | .queueDisable _ _ => Part.posting ++ [.raiseTimes, .pool, .storage]
  | .quotaProfileMinWrite _ _ => [.pool]
  | .quotaProfileCommit _ _ => Part.posting ++ [.raiseTimes, .pool]
  | .poolLowReload _ => []
  | .readPortBind _ _ => [.pool]
  | .readPortDataRead _ _ => Part.posting ++ [.raiseTimes, .outputs, .pool, .reliability, .storage]
  | .readPortDataHighRead _ => [.outputs, .pool]
  | .lineTimeRead _ _ => [.clock, .outputs]
  | .gmSourceMeasure _ _ _ => Part.posting ++ [.freeCount, .lineTime]
  | .ppsInEdge _ => Part.posting ++ [.clock, .freeCount, .lineTime]
  | .gmHoldoverTimeout => Part.posting ++ [.lineTime]
  | .gmHoldoverLimit => Part.posting
  | .gmSourceWrite _ => Part.posting ++ [.lineTime]
  | .originWrite _ _ => Part.posting
  | .closureUpdate => [.freeCount]
  | .timeAnnounceReceive => Part.posting ++ [.raiseTimes, .pool, .reliability, .lineTime, .storage, .ringLink]
  | .tioLevelWrite _ => [.outputs, .lineTime]
  | .tioModeChange _ _ => [.outputs, .lineTime]
  | .tioCapture _ _ _ => Part.storing ++ [.clock, .lineTime]
  | .captureRoute => Part.posting ++ [.clock, .raiseTimes, .pool, .reliability, .storage, .bridge]
  | .launchRecordPost => Part.storing ++ [.lineTime]
  | .launchAdmit _ => Part.posting ++ [.clock, .pool, .reliability, .lineTime]
  | .launchCancelAdmit => Part.posting ++ [.pool, .lineTime]
  | .launchHandover _ => Part.posting ++ [.clock, .raiseTimes, .reliability, .power, .lineTime]
  | .tioSet _ => [.counters, .clock, .outputs, .lineTime]
  | .tioClear _ => [.counters, .clock, .outputs, .lineTime]
  | .tioPulse _ => [.counters, .clock, .outputs, .lineTime]
  | .tioPulseEnd _ => [.counters, .clock, .outputs, .lineTime]
  | .canTx _ => Part.posting ++ [.clock, .raiseTimes, .reliability, .lineTime, .bridge]
  | .ethRelease _ _ => Part.storing ++ [.clock, .outputs, .lineTime, .storage, .network]
  | .dispCommit _ => Part.posting ++ [.clock, .lineTime, .display]
  | .camTrigger _ _ => Part.storing ++ [.clock, .outputs, .lineTime, .storage, .network]
  | .launchCompletionPost => Part.storing ++ [.lineTime]
  | .hostPortReset _ => Part.posting ++ [.outputs, .pool, .storage, .bridge, .host]
  | .hifLinkUp _ _ _ => Part.posting
  | .bar2Read _ _ => [.outputs]
  | .msixVectorUnmask _ _ => [.outputs]
  | .ringEnable _ _ => Part.posting ++ [.outputs, .pool, .storage, .bridge, .host]
  | .ringDisable _ _ => Part.posting ++ [.outputs, .pool, .storage, .bridge, .host]
  | .ringDrainDone _ => []
  | .doorbellPageArrive _ _ => Part.posting ++ [.raiseTimes, .outputs, .host]
  | .doorbellLate => Part.posting ++ [.raiseTimes, .outputs, .host]
  | .hifNudge _ => [.counters, .outputs, .host]
  | .descriptorFetch _ _ => Part.posting ++ [.raiseTimes, .outputs, .reliability, .host]
  | .txPkt _ _ => Part.storing ++ [.outputs, .network, .host]
  | .txTile _ _ => Part.storing ++ [.outputs, .host]
  | .txCommit _ => Part.storing ++ [.outputs, .host]
  | .rxBuf _ _ => Part.posting ++ [.raiseTimes, .outputs, .pool, .reliability, .storage, .host]
  | .regRead _ _ => Part.storing ++ [.outputs, .storage, .ringLink, .host]
  | .regWrite _ _ => Part.everything
  | .regWriteHop _ => Part.storing ++ [.outputs, .ringLink, .host]
  | .ping _ => Part.storing ++ [.outputs, .ringLink, .host]
  | .planLoad _ _ => Part.storing ++ [.outputs, .plans, .ringLink, .host]
  | .planArm _ => Part.storing ++ [.outputs, .plans, .power, .ringLink, .host]
  | .planDisarm _ => Part.storing ++ [.outputs, .plans, .power, .ringLink, .host]
  | .planQuery _ => Part.storing ++ [.outputs, .ringLink, .host]
  | .launch _ _ => Part.storing ++ [.outputs, .lineTime, .ringLink, .host]
  | .launchCancel _ => Part.storing ++ [.outputs, .lineTime, .ringLink, .host]
  | .reset _ => Part.storing ++ [.outputs, .ringLink, .security, .host]
  | .nop _ => [.counters, .outputs, .host]
  | .dumpBuf _ => Part.posting ++ [.raiseTimes, .outputs, .reliability, .host]
  | .regReadMsg => Part.storing ++ [.storage, .ringLink]
  | .regWriteMsg => Part.everything
  | .regWriteHopMsg => Part.everything
  | .pingMsg => Part.storing ++ [.storage, .ringLink]
  | .launchMsg => Part.posting ++ [.raiseTimes, .pool, .reliability, .lineTime, .storage, .ringLink]
  | .launchCancelMsg => Part.posting ++ [.raiseTimes, .pool, .reliability, .lineTime, .storage, .ringLink]
  | .resetMsg => Part.storing ++ [.storage, .ringLink, .security]
  | .responseReceive _ => Part.posting ++ [.raiseTimes, .outputs, .pool, .reliability, .storage, .ringLink, .host]
  | .launchDoneReceive => Part.posting ++ [.raiseTimes, .outputs, .pool, .reliability, .storage, .ringLink, .host]
  | .eventRelayReceive => Part.storing ++ [.outputs, .typeC, .storage, .ringLink, .host]
  | .mgmtRequestTimeout _ => [.counters, .outputs, .host]
  | .eventDeliver => Part.storing ++ [.outputs, .typeC, .storage, .host]
  | .interruptModeration _ => [.outputs, .host]
  | .ethFrameReceive _ _ _ => Part.storing ++ [.network]
  | .ethTransmitStart _ _ _ => Part.storing ++ [.clock, .outputs, .storage, .network]
  | .ethLinkChange _ _ _ _ _ => Part.posting
  | .flowEntryHold _ _ _ => [.network]
  | .flowEntryCommit _ _ => [.reliability, .network]
  | .policerCommit _ _ => Part.posting ++ [.network]
  | .egqEnable _ _ => Part.posting ++ [.pool]
  | .relqBind _ _ _ => Part.posting ++ [.pool]
  | .gateListCommit _ _ => Part.posting ++ [.network]
  | .gateListCancel _ => [.network]
  | .gateListTakeover _ => Part.posting ++ [.clock, .network]
  | .gateListEntryAdvance _ => [.clock, .network]
  | .ptpMessageSend _ _ _ => Part.storing ++ [.outputs, .network]
  | .blkPortEnable _ _ => Part.storing ++ [.outputs, .power, .storage]
  | .blkPerstRelease _ => [.outputs, .storage]
  | .blkLinkUp _ _ _ _ _ _ _ _ => Part.posting ++ [.outputs, .memory, .reliability, .storage]
  | .blkBringupFail _ _ => Part.posting ++ [.storage]
  | .blkBringupRetry _ => Part.posting ++ [.outputs, .power, .storage]
  | .blkPortDisable _ => Part.storing ++ [.outputs, .storage]
  | .nvmeCqeReceive _ _ _ => Part.storing ++ [.outputs, .storage]
  | .ssdInboundAccess _ _ _ _ _ => Part.posting ++ [.raiseTimes, .outputs, .memory, .reliability]
  | .blkRead _ => Part.storing ++ [.outputs, .storage, .host]
  | .blkWrite _ _ => Part.storing ++ [.outputs, .storage, .host]
  | .blkFlush _ => Part.storing ++ [.outputs, .storage, .host]
  | .blkDeallocate _ => Part.storing ++ [.outputs, .storage, .host]
  | .blkIdentify _ => Part.storing ++ [.outputs, .storage, .host]
  | .blkCommandIssue _ => Part.storing ++ [.outputs, .storage]
  | .blkResponseReceive _ _ => Part.posting ++ [.raiseTimes, .outputs, .pool, .reliability, .storage, .host]
  | .blkTunnelTimeout _ => [.counters, .outputs, .storage, .host]
  | .blkDevTimeout _ _ => Part.storing ++ [.outputs, .storage]
  | .blkCtrlReset _ => Part.storing ++ [.outputs, .storage]
  | .blkLinkDown _ => Part.storing ++ [.outputs, .power, .storage]
  | .dspHeadEnable _ _ => Part.posting ++ [.pool, .display]
  | .dspHeadDisable _ => [.pool, .display]
  | .dspLinkTrain _ _ => Part.posting ++ [.display]
  | .dspTrainRetry _ _ => Part.posting ++ [.display]
  | .dspIrqHpd _ _ _ => Part.posting ++ [.typeC, .display]
  | .dspHpdRise _ _ _ => Part.posting
  | .dspHpdLoss _ => Part.posting
  | .dspPacketTake _ _ => Part.posting ++ [.clock, .raiseTimes, .memory, .pool, .reliability, .storage, .display]
  | .dspFrameStart _ _ => Part.posting ++ [.clock, .display]
  | .dspApplyDone _ => [.counters, .clock, .memory, .reliability, .display]
  | .dspPrefill _ => Part.posting ++ [.clock, .raiseTimes, .reliability, .display]
  | .dspScanoutStart _ => Part.posting ++ [.clock, .raiseTimes, .outputs, .reliability, .display]
  | .dspFrzWrite _ _ _ => [.display]
  | .fbrRead _ _ => Part.storing ++ [.outputs, .bridge, .ringLink, .host]
  | .fbrWrite _ _ => Part.storing ++ [.outputs, .bridge, .ringLink, .host]
  | .fbrLocked _ => Part.storing ++ [.outputs, .bridge, .ringLink, .host]
  | .fbrReadMsg => Part.storing ++ [.storage, .bridge, .ringLink]
  | .fbrWriteMsg => Part.storing ++ [.storage, .bridge, .ringLink]
  | .fbrLockedMsg => Part.storing ++ [.storage, .bridge, .ringLink]
  | .zoneBusCycle _ => Part.storing ++ [.outputs, .bridge, .ringLink, .host]
  | .zrdyTimeout _ => Part.storing ++ [.outputs, .bridge, .ringLink, .host]
  | .fbrStale _ => Part.posting ++ [.bridge]
  | .fbrPrefetchExpiry _ => [.bridge]
  | .fbrWinClear _ => [.bridge]
  | .fbrWindowEnable _ _ => Part.posting
  | .zintSample _ _ => Part.posting ++ [.clock, .bridge]
  | .fbrPoll _ _ => Part.posting ++ [.raiseTimes, .outputs, .bridge]
  | .canTxreq _ _ _ => Part.posting ++ [.raiseTimes, .reliability, .bridge]
  | .canTxDone _ _ _ => Part.posting ++ [.clock, .raiseTimes, .outputs, .reliability, .lineTime, .bridge]
  | .canFrameReceive _ _ _ => Part.storing ++ [.clock, .bridge]
  | .canErrorStateChange _ _ _ _ => Part.posting ++ [.lineTime, .bridge]
  | .canBusOn _ => Part.posting ++ [.raiseTimes, .reliability, .bridge]
  | .canEnable _ _ => Part.posting ++ [.raiseTimes, .reliability, .bridge]
  | .signalMapPass => Part.storing ++ [.clock, .storage, .bridge]
  | .signalMapHold _ _ _ => [.bridge]
  | .signalMapCommit _ _ => [.reliability, .bridge]
  | .tcpPortEnable _ _ => Part.posting ++ [.outputs, .memory, .pool, .reliability, .linePower, .typeC]
  | .ccChange _ _ _ => Part.posting ++ [.typeC]
  | .tcpCcDebounce _ => Part.posting ++ [.outputs, .memory, .pool, .reliability, .linePower, .typeC]
  | .tcpDetachDebounce _ => Part.posting ++ [.memory, .pool, .reliability, .linePower, .typeC]
  | .tcpErrorRecoveryEnd _ => Part.posting ++ [.typeC]
  | .portSAttachChange _ _ _ => [.typeC, .host]
  | .vbusEnable _ => Part.posting ++ [.memory, .pool, .reliability, .linePower, .typeC]
  | .tcpNoBudget _ => Part.posting
  | .sourceCapabilitiesSend _ _ => [.outputs, .typeC]
  | .pdRequest _ _ _ _ _ => Part.posting ++ [.outputs, .memory, .pool, .reliability, .linePower, .typeC]
  | .pdTransitionStart _ => [.linePower, .typeC]
  | .pdVbusReached _ => Part.posting ++ [.outputs, .memory, .pool, .reliability, .linePower, .typeC]
  | .pdTransitionTimeout _ => Part.posting ++ [.outputs, .memory, .pool, .reliability, .linePower, .typeC]
  | .pdReofferTimeout _ => Part.posting ++ [.outputs, .memory, .pool, .reliability, .linePower, .typeC]
  | .pdGetSourceCap _ => [.outputs, .typeC]
  | .pdUnsupportedMessage _ _ => [.outputs]
  | .pdSoftReset _ => Part.posting ++ [.outputs, .typeC]
  | .pdMessageFail _ => Part.posting ++ [.outputs, .typeC]
  | .hardReset _ _ => Part.posting ++ [.outputs, .memory, .pool, .reliability, .linePower, .typeC]
  | .hardResetEnd _ => Part.posting ++ [.memory, .pool, .reliability, .linePower, .typeC]
  | .recaps _ => [.outputs, .typeC]
  | .vconnTake _ => [.outputs, .typeC]
  | .vconnSwapReceive _ => [.outputs, .typeC]
  | .sinktxngWaitEnd _ _ _ => [.outputs, .typeC]
  | .pdPsRdy _ => [.typeC]
  | .vconnSwapTimeout _ => Part.posting ++ [.outputs, .memory, .pool, .reliability, .linePower, .typeC]
  | .dpAltModeEntry _ => [.outputs, .typeC]
  | .pdVdmResponse _ _ => Part.posting ++ [.outputs, .memory, .pool, .reliability, .linePower, .typeC]
  | .vdmResponseTimeout _ => Part.posting ++ [.outputs, .memory, .pool, .reliability, .linePower, .typeC]
  | .dpExit _ => [.outputs, .typeC]
  | .pdAttention _ _ _ => [.outputs, .typeC]
  | .usbSofReceive _ _ _ => [.counters, .clock, .typeC]
  | .usbSuspend => [.typeC]
  | .usbBabble _ _ => Part.posting ++ [.typeC]
  | .usbResume _ => [.counters, .outputs, .typeC]
  | .gadgetRemoteWake _ => [.outputs, .typeC]
  | .usbBusReset _ _ _ => Part.posting ++ [.typeC, .host]
  | .gadgetCommand _ => [.outputs, .typeC, .host]
  | .gadgetFilterSet _ => [.outputs, .typeC]
  | .getInfo => [.outputs]
  | .getChallenge => [.freeCount, .outputs, .typeC]
  | .setProof _ => Part.posting ++ [.outputs, .typeC]
  | .lock => [.typeC]
  | .execCmd _ => [.outputs, .typeC, .host]
  | .gadgetSessionIdle => [.typeC]
  | .gadgetLockoutEnd => [.typeC]
  | .lpwChannelEn _ _ => Part.posting ++ [.memory, .pool, .reliability, .linePower]
  | .lpwQualifyDone _ => Part.posting ++ [.memory, .pool, .reliability, .linePower]
  | .lpwRampDone _ => Part.posting ++ [.memory, .pool, .reliability, .linePower]
  | .startTimeout _ => Part.posting ++ [.memory, .pool, .reliability, .linePower, .typeC]
  | .shortAtStart _ => Part.posting ++ [.memory, .pool, .reliability, .linePower, .typeC]
  | .currentLimit _ => Part.posting ++ [.memory, .pool, .reliability, .linePower, .typeC]
  | .gauntlet _ => Part.posting ++ [.memory, .pool, .reliability, .linePower, .typeC]
  | .fastTrip _ _ => Part.posting ++ [.memory, .pool, .reliability, .linePower, .typeC]
  | .overtemp _ => Part.posting ++ [.memory, .pool, .reliability, .linePower, .typeC]
  | .ov _ => Part.posting ++ [.memory, .pool, .reliability, .linePower, .typeC]
  | .reverseCurrent _ _ => Part.posting ++ [.raiseTimes, .memory, .pool, .reliability, .linePower]
  | .forwardReclose _ => Part.posting ++ [.memory, .pool, .reliability, .linePower]
  | .bothSidesDead _ => Part.posting ++ [.memory, .pool, .reliability, .linePower]
  | .cooldownEnd _ => Part.posting ++ [.memory, .pool, .reliability, .linePower]
  | .tripHistoryReset _ => []
  | .lpwClear _ => Part.posting ++ [.memory, .pool, .reliability, .linePower]
  | .lpwGauntletCommit _ _ => Part.posting ++ [.linePower]
  | .lpwSample _ _ _ _ _ => Part.posting ++ [.freeCount, .linePower]
  | .ipeakClear _ => []
  | .pwrEntryArm _ _ _ => Part.posting ++ [.memory, .pool, .reliability, .power]
  | .pwrWakeRequest _ _ => Part.posting ++ [.memory, .pool, .reliability, .power]
  | .pwrEntryDone _ => Part.posting ++ [.memory, .pool, .reliability, .power]
  | .pwrExitDone _ _ => Part.storing ++ [.snapshots, .clock, .outputs, .plans, .linePower, .typeC, .power, .storage, .display, .bridge, .security, .network, .host]
  | .pwrScheduledWake _ => [.counters, .clock, .power]
  | .pwrHwWake _ => [.counters, .power]
  | .pwrWakeTimeout _ _ => Part.storing ++ [.clock, .loops, .outputs, .linePower, .typeC, .power, .storage, .display, .bridge, .security, .host]
  | .pwrWakeRetry _ _ _ => Part.storing ++ [.snapshots, .clock, .outputs, .plans, .trunk, .linePower, .typeC, .power, .storage, .display, .bridge, .ringLink, .security, .network, .host]
  | .pwrDomRetry _ _ => [.power]
  | .pwrRefuseClear _ => []
  | .linkRamAuditDone => Part.posting ++ [.pool]
  | .flipArm _ => Part.posting
  | .flipApply _ => [.counters, .reliability]
  | .eccLogClear => []
  | .roSample _ _ _ => Part.posting ++ [.outputs, .reliability]
  | .eyeScanRoutine _ _ => [.reliability]
  | .eyeScanPoint _ _ _ => Part.storing ++ [.trunk, .ringLink]
  | .replanWaitExpiry => Part.posting ++ [.reliability]
  | .fetHistoryUpdate _ _ => Part.posting ++ [.linePower]
  | .voltageDroop _ => Part.posting ++ [.reliability]
  | .eyeScan _ _ => Part.posting ++ [.raiseTimes, .pool, .reliability]
  | .bist _ _ => Part.posting ++ [.raiseTimes, .pool, .reliability]
  | .rowRepair _ _ => Part.posting ++ [.raiseTimes, .pool, .reliability]
  | .ageingSample _ _ => Part.posting ++ [.raiseTimes, .pool, .reliability]
  | .fuseTest _ _ => Part.posting ++ [.raiseTimes, .pool, .reliability]
  | .bistTestStart _ => [.reliability]
  | .bistFenceTimeout _ => Part.posting ++ [.memory, .pool, .reliability]
  | .maintStop _ => Part.posting ++ [.memory, .pool, .reliability]
  | .maintDone _ _ => Part.storing ++ [.outputs]
  | .aonStop => Part.everything
  | .lowSpeedLock _ => [.trunk]
  | .perstNRelease => [.outputs, .host]
  | .upbVbusChange _ => [.typeC, .host]
  | .hubPortReset _ _ => [.typeC, .host]
  | .gadgetInTransfer _ => [.outputs, .typeC, .host]

/-- The fields of a register array of `n`. -/
def fieldArr (f : Nat → Fl) (n : Nat) : List Fl := (List.range n).map f

/-- The fields of a register array of `n` by `m`. -/
def fieldArr2 (f : Nat → Nat → Fl) (n m : Nat) : List Fl := (List.range n).flatMap (fun i => (List.range m).map (f i))

/-- The fields of the pairs of port `p` in a register array over the pairs. -/
def onPort (f : Nat → Fl) (p : Nat) : List Fl := (List.range 8).map (fun k => f (8 * p + k))

/-- The fields of the error log (R424). -/
def eccLog : List Fl := fieldArr Fld.REL_ECC_LOG_0_MEM 16 ++ fieldArr Fld.REL_ECC_LOG_0_UE 16 ++ fieldArr Fld.REL_ECC_LOG_0_VALID 16 ++ fieldArr Fld.REL_ECC_LOG_0_WORD 16 ++ fieldArr Fld.REL_ECC_LOG_1_HITS 16 ++ fieldArr Fld.REL_ECC_LOG_1_SYNDROME 16 ++ fieldArr Fld.REL_ECC_LOG_2_FIRST_TICK 16 ++ fieldArr Fld.REL_ECC_LOG_3_LAST_TICK 16

/-- The contract of every drop port (R372). -/
def contract : List Fl := fieldArr Fld.TCP_PORT_CONTRACT_CUR 4 ++ fieldArr Fld.TCP_PORT_CONTRACT_MAX 4 ++ fieldArr Fld.TCP_PORT_CONTRACT_VOLT 4

/-- Power delivery and VBUS of every drop port, and the power they hold (R372). -/
def vbus : List Fl := [Fld.TCP_STATUS_HELD] ++ fieldArr Fld.TCP_PORT_STATUS_PD 4 ++ fieldArr Fld.TCP_PORT_STATUS_VBUS_ON 4

/-- Alt Mode of every drop port (R372). -/
def altMode : List Fl := fieldArr Fld.TCP_PORT_STATUS_DP 4 ++ fieldArr Fld.TCP_PORT_STATUS_HPD 4 ++ fieldArr Fld.TCP_PORT_STATUS_PIN 4

/-- What is attached to every drop port (R372). -/
def attachBits : List Fl := fieldArr Fld.TCP_PORT_STATUS_CABLE_5A 4 ++ fieldArr Fld.TCP_PORT_STATUS_CABLE_SS 4 ++ fieldArr Fld.TCP_PORT_STATUS_FLIPPED 4 ++ fieldArr Fld.TCP_PORT_STATUS_RA 4 ++ fieldArr Fld.TCP_PORT_STATUS_PD_FAIL 4 ++ fieldArr Fld.TCP_PORT_STATUS_STATE 4

/-- The mapping of line time (R211). -/
def lineOrigin : List Fl := [Fld.LTM_ORIGIN_NS_MAP_VALID, Fld.LTM_ORIGIN_NS_NS, Fld.LTM_ORIGIN_SEC_HI, Fld.LTM_ORIGIN_SEC_LO, Fld.LTM_STATUS_MAP_VALID]

/-- The use of the launch table (R211). -/
def launchUse : List Fl := [Fld.LTM_LAUNCH_STATUS_COUNT, Fld.LTM_LAUNCH_STATUS_HIGH]

/-- The latched line time (R183). -/
def timeLatch : List Fl := [Fld.LTM_NOW_FRAC_FRAC, Fld.LTM_NOW_HI, Fld.LTM_NOW_LO, Fld.LTM_TICK_HI, Fld.LTM_TICK_LO]

/-- The dump status (R466). -/
def dumpStatus : List Fl := [Fld.GEN_DUMP_STATUS_CAUSE, Fld.GEN_DUMP_STATUS_COMPLETE, Fld.GEN_DUMP_STATUS_LENGTH_KB, Fld.GEN_DUMP_STATUS_TARGET]

/-- The register fields that a command may change while no maintenance activity runs; none for a command that acts on rings, domains,
activities or mailboxes that the hub's own records name, or on the hub as a whole. -/
def fieldsOf : Instr → Option (List Fl)
  | .tickBoundary _ => none
  | .loopBudgetExpiry _ _ => some []
  | .firmwareLoopEnd _ _ => none
  | .registerWrite _ _ _ => none
  | .counterClear _ => some []
  | .genSetupClose _ => none
  | .genTblViewWrite _ => none
  | .genRdWinSelWrite _ => none
  | .por _ _ => none
  | .xtalReadyTimeout => none
  | .failsafeXtalRetry _ => none
  | .svcParkExpiry => none
  | .lineBusGood _ => some ([Fld.LPW_STATUS_PG, Fld.LPW_STATUS_RAIL_EN] ++ fieldArr Fld.TRK_PORT_STATUS_CSUP 2)
  | .railSequenceStep _ => some ([Fld.LPW_STATUS_PG, Fld.LPW_STATUS_RAIL_EN] ++ fieldArr Fld.TRK_PORT_STATUS_CSUP 2)
  | .pgTimeout => some ([Fld.LPW_STATUS_PG, Fld.LPW_STATUS_RAIL_EN] ++ fieldArr Fld.TRK_PORT_STATUS_CSUP 2)
  | .pgFall _ => some ([Fld.LPW_STATUS_PG, Fld.LPW_STATUS_RAIL_EN] ++ fieldArr Fld.TRK_PORT_STATUS_CSUP 2)
  | .railFailRecover => none
  | .bootRomStart => some ([Fld.LTM_CLOSURE, Fld.LTM_STATUS_GM_SRC, Fld.LTM_STATUS_HOPS_GM, Fld.LTM_STATUS_PATH, Fld.LTM_STATUS_STATE, Fld.TRK_RING_STATUS_RING] ++ fieldArr Fld.LPW_CH_CFG_EN 8 ++ fieldArr Fld.LPW_CH_CFG_MODE 8 ++ fieldArr Fld.LPW_CH_STATUS_REGULATING 8 ++ fieldArr Fld.LPW_CH_STATUS_STATE 8 ++ fieldArr Fld.TRK_LOOP_STAT_LOCKED 2 ++ fieldArr Fld.TRK_LOOP_STAT_RESULT 2 ++ fieldArr Fld.TRK_PAIR_STATUS_LOCKED 16 ++ fieldArr Fld.TRK_PAIR_STATUS_LOOP 16 ++ fieldArr Fld.TRK_PAIR_STATUS_RX_SLEEP 16 ++ fieldArr Fld.TRK_PAIR_STATUS_TX_SLEEP 16 ++ fieldArr Fld.TRK_PORT_STATUS_LINK 2)
  | .firmwareVerify => some ([Fld.GEN_BOOT_STATUS_FAIL_A, Fld.GEN_BOOT_STATUS_FAIL_B, Fld.GEN_BOOT_STATUS_FALLBACK, Fld.GEN_BOOT_STATUS_HELD, Fld.GEN_BOOT_STATUS_SLOT, Fld.LTM_CLOSURE, Fld.LTM_STATUS_GM_SRC, Fld.LTM_STATUS_HOPS_GM, Fld.LTM_STATUS_PATH, Fld.LTM_STATUS_STATE, Fld.SEC_BOOT_SLOT, Fld.SEC_BOOT_SVN, Fld.SEC_BOOT_SVN_FUSED, Fld.SEC_FW_VERSION, Fld.TRK_RING_STATUS_RING] ++ fieldArr Fld.LPW_CH_CFG_EN 8 ++ fieldArr Fld.LPW_CH_CFG_MODE 8 ++ fieldArr Fld.LPW_CH_STATUS_REGULATING 8 ++ fieldArr Fld.LPW_CH_STATUS_STATE 8 ++ fieldArr Fld.TRK_LOOP_STAT_LOCKED 2 ++ fieldArr Fld.TRK_LOOP_STAT_RESULT 2 ++ fieldArr Fld.TRK_PAIR_STATUS_LOCKED 16 ++ fieldArr Fld.TRK_PAIR_STATUS_LOOP 16 ++ fieldArr Fld.TRK_PAIR_STATUS_RX_SLEEP 16 ++ fieldArr Fld.TRK_PAIR_STATUS_TX_SLEEP 16 ++ fieldArr Fld.TRK_PORT_STATUS_LINK 2)
  | .boardConfigApply => none
  | .genReady => none
  | .rstNAssert => none
  | .rstNRelease _ _ => some ([Fld.GEN_STRAPS_FUSED, Fld.GEN_STRAPS_MODE, Fld.GEN_STRAPS_ROLE, Fld.GEN_STRAPS_UPB_SEL, Fld.HIF_STATUS_LINK_UP, Fld.HIF_STATUS_MODE, Fld.HIF_STATUS_SPEED, Fld.HIF_STATUS_WIDTH, Fld.LTM_CLOSURE, Fld.LTM_STATUS_GM_SRC, Fld.LTM_STATUS_HOPS_GM, Fld.LTM_STATUS_PATH, Fld.LTM_STATUS_STATE, Fld.TRK_RING_STATUS_RING] ++ fieldArr Fld.LPW_CH_CFG_EN 8 ++ fieldArr Fld.LPW_CH_CFG_MODE 8 ++ fieldArr Fld.LPW_CH_STATUS_REGULATING 8 ++ fieldArr Fld.LPW_CH_STATUS_STATE 8 ++ fieldArr Fld.TRK_LOOP_STAT_LOCKED 2 ++ fieldArr Fld.TRK_LOOP_STAT_RESULT 2 ++ fieldArr Fld.TRK_PAIR_STATUS_LOCKED 16 ++ fieldArr Fld.TRK_PAIR_STATUS_LOOP 16 ++ fieldArr Fld.TRK_PAIR_STATUS_RX_SLEEP 16 ++ fieldArr Fld.TRK_PAIR_STATUS_TX_SLEEP 16 ++ fieldArr Fld.TRK_PORT_STATUS_LINK 2)
  | .watchdogStage1 => some (dumpStatus)
  | .watchdogStage2 => none
  | .genReset _ => some []
  | .resetExecute => none
  | .domainReset _ => none
  | .fatalPath _ _ => some ([Fld.CPL_GEN_LOW] ++ dumpStatus)
  | .dumpWriteDone _ _ _ _ => none
  | .dumpRelease _ => some ([Fld.GEN_DUMP_STATUS_PRESERVED])
  | .lcTransition _ => none
  | .bootCommit _ => some ([Fld.SEC_BOOT_SVN_FUSED])
  | .bootNextSlot _ => some ([Fld.SEC_BOOT_SVN_FUSED])
  | .khashBurn _ => some []
  | .khashRevoke _ => some []
  | .keyLoad _ => some ([Fld.SEC_KEY_STATUS])
  | .keyErase _ => some ([Fld.SEC_KEY_STATUS])
  | .keyBlobRewrite => some []
  | .dbgChallenge _ => some ([Fld.SEC_DBG_CTL_KEY_SLOT, Fld.SEC_DBG_CTL_OPEN, Fld.SEC_DBG_CTL_SCOPE] ++ fieldArr Fld.SEC_DBG_CHAL 8)
  | .dbgProve _ => some ([Fld.SEC_DBG_CTL_KEY_SLOT, Fld.SEC_DBG_CTL_OPEN, Fld.SEC_DBG_CTL_SCOPE] ++ fieldArr Fld.SEC_DBG_CHAL 8)
  | .dbgLock _ => some ([Fld.SEC_DBG_CTL_KEY_SLOT, Fld.SEC_DBG_CTL_OPEN, Fld.SEC_DBG_CTL_SCOPE] ++ fieldArr Fld.SEC_DBG_CHAL 8)
  | .dbgLockoutEnd => some []
  | .flashErase _ => some ([Fld.SEC_FLASH_CMD_BUSY, Fld.SEC_FLASH_CMD_RESULT])
  | .flashProgram _ => some ([Fld.SEC_FLASH_CMD_BUSY, Fld.SEC_FLASH_CMD_RESULT])
  | .flashOpDone _ => some ([Fld.SEC_FLASH_CMD_BUSY, Fld.SEC_FLASH_CMD_RESULT])
  | .senseDeparture _ => some (fieldArr Fld.LPW_CH_STATUS_REGULATING 8 ++ fieldArr Fld.LPW_CH_STATUS_STATE 8)
  | .cfgPinSample p _ _ => some ([Fld.TRK_PORT_STATUS_ATTACH p] ++ fieldArr Fld.LPW_CH_STATUS_REGULATING 8 ++ fieldArr Fld.LPW_CH_STATUS_STATE 8)
  | .attachDebounceExpiry p => some ([Fld.TRK_PORT_STATUS_ATTACH p, Fld.TRK_PORT_STATUS_ATTEMPTS p, Fld.TRK_PORT_STATUS_CSUP p, Fld.TRK_PORT_STATUS_FLIPPED p, Fld.TRK_PORT_STATUS_LINK p] ++ onPort Fld.TRK_PAIR_STATUS_BALL p ++ onPort Fld.TRK_PAIR_STATUS_DIR p ++ onPort Fld.TRK_PAIR_STATUS_NRZ p ++ fieldArr Fld.LPW_CH_STATUS_REGULATING 8 ++ fieldArr Fld.LPW_CH_STATUS_STATE 8)
  | .detachDebounceExpiry p => some ([Fld.TRK_LOOP_STAT_LOCKED p, Fld.TRK_LOOP_STAT_RESULT p, Fld.TRK_PORT_STATUS_ATTACH p, Fld.TRK_PORT_STATUS_CSUP p, Fld.TRK_PORT_STATUS_ID_VALID p, Fld.TRK_PORT_STATUS_LINK p] ++ onPort Fld.TRK_PAIR_STATUS_LOCKED p ++ onPort Fld.TRK_PAIR_STATUS_LOOP p ++ onPort Fld.TRK_PAIR_STATUS_RX_SLEEP p ++ onPort Fld.TRK_PAIR_STATUS_TX_SLEEP p ++ [Fld.LTM_CLOSURE, Fld.LTM_STATUS_GM_SRC, Fld.LTM_STATUS_HOPS_GM, Fld.LTM_STATUS_PATH, Fld.LTM_STATUS_STATE, Fld.TRK_RING_STATUS_RING] ++ fieldArr Fld.LPW_CH_STATUS_REGULATING 8 ++ fieldArr Fld.LPW_CH_STATUS_STATE 8 ++ fieldArr2 Fld.TRK_CABLE_ID 2 8)
  | .cableIdRead p _ _ => some ([Fld.TRK_PORT_STATUS_CLASS p, Fld.TRK_PORT_STATUS_ID_VALID p] ++ fieldArr2 Fld.TRK_CABLE_ID 2 8)
  | .csupTakeover p => some ([Fld.TRK_PORT_STATUS_CSUP p])
  | .csupRelease p => some ([Fld.TRK_PORT_STATUS_CSUP p])
  | .csupResume p => some ([Fld.TRK_PORT_STATUS_CSUP p])
  | .csupFault p => some ([Fld.TRK_PORT_STATUS_CLASS p, Fld.TRK_PORT_STATUS_CSUP p, Fld.TRK_PORT_STATUS_ID_VALID p] ++ fieldArr2 Fld.TRK_CABLE_ID 2 8)
  | .helloSend p => some ([Fld.TRK_PORT_STATUS_LINK p])
  | .helloReceive p _ => some ([Fld.TRK_LOOP_STAT_LOCKED p, Fld.TRK_LOOP_STAT_RESULT p, Fld.TRK_PORT_STATUS_CLASS p, Fld.TRK_PORT_STATUS_CSUP p, Fld.TRK_PORT_STATUS_ID_VALID p, Fld.TRK_PORT_STATUS_LINK p] ++ onPort Fld.TRK_PAIR_STATUS_FAR_ROW p ++ onPort Fld.TRK_PAIR_STATUS_LOCKED p ++ onPort Fld.TRK_PAIR_STATUS_LOOP p ++ onPort Fld.TRK_PAIR_STATUS_RX_SLEEP p ++ onPort Fld.TRK_PAIR_STATUS_TX_SLEEP p ++ [Fld.LTM_CLOSURE, Fld.LTM_STATUS_GM_SRC, Fld.LTM_STATUS_HOPS_GM, Fld.LTM_STATUS_PATH, Fld.LTM_STATUS_STATE, Fld.TRK_RING_STATUS_RING] ++ fieldArr2 Fld.TRK_CABLE_ID 2 8)
  | .ackReceive _ _ => some []
  | .pam3Switch p => some ([Fld.TRK_LOOP_STAT_LOCKED p, Fld.TRK_LOOP_STAT_RESULT p, Fld.TRK_PORT_STATUS_FAIL_STEP p, Fld.TRK_PORT_STATUS_LINK p] ++ onPort Fld.TRK_PAIR_STATUS_LOCKED p ++ onPort Fld.TRK_PAIR_STATUS_LOOP p ++ onPort Fld.TRK_PAIR_STATUS_ROW p ++ onPort Fld.TRK_PAIR_STATUS_RX_SLEEP p ++ onPort Fld.TRK_PAIR_STATUS_TX_SLEEP p ++ [Fld.LTM_CLOSURE, Fld.LTM_STATUS_GM_SRC, Fld.LTM_STATUS_HOPS_GM, Fld.LTM_STATUS_PATH, Fld.LTM_STATUS_STATE, Fld.TRK_RING_STATUS_RING])
  | .fixedPairRetry p => some ([Fld.TRK_LOOP_STAT_LOCKED p, Fld.TRK_LOOP_STAT_RESULT p, Fld.TRK_PORT_STATUS_FAIL_STEP p, Fld.TRK_PORT_STATUS_LINK p] ++ onPort Fld.TRK_PAIR_STATUS_LOCKED p ++ onPort Fld.TRK_PAIR_STATUS_LOOP p ++ onPort Fld.TRK_PAIR_STATUS_ROW p ++ onPort Fld.TRK_PAIR_STATUS_RX_SLEEP p ++ onPort Fld.TRK_PAIR_STATUS_TX_SLEEP p ++ [Fld.LTM_CLOSURE, Fld.LTM_STATUS_GM_SRC, Fld.LTM_STATUS_HOPS_GM, Fld.LTM_STATUS_PATH, Fld.LTM_STATUS_STATE, Fld.TRK_RING_STATUS_RING])
  | .pairTestDone p _ _ _ => some (onPort Fld.TRK_PAIR_STATUS_CAP p ++ onPort Fld.TRK_PAIR_STATUS_LOCKED p ++ onPort Fld.TRK_PAIR_STATUS_ROW p ++ onPort Fld.TRK_PAIR_STATUS_RX_SLEEP p ++ onPort Fld.TRK_PAIR_STATUS_TX_SLEEP p)
  | .linkFailTimeout p => some ([Fld.TRK_LOOP_STAT_LOCKED p, Fld.TRK_LOOP_STAT_RESULT p, Fld.TRK_PORT_STATUS_FAIL_STEP p, Fld.TRK_PORT_STATUS_LINK p] ++ onPort Fld.TRK_PAIR_STATUS_LOCKED p ++ onPort Fld.TRK_PAIR_STATUS_LOOP p ++ onPort Fld.TRK_PAIR_STATUS_RX_SLEEP p ++ onPort Fld.TRK_PAIR_STATUS_TX_SLEEP p ++ [Fld.LTM_CLOSURE, Fld.LTM_STATUS_GM_SRC, Fld.LTM_STATUS_HOPS_GM, Fld.LTM_STATUS_PATH, Fld.LTM_STATUS_STATE, Fld.TRK_RING_STATUS_RING])
  | .bringupRetry p => some ([Fld.TRK_PORT_STATUS_ATTEMPTS p, Fld.TRK_PORT_STATUS_LINK p])
  | .portRelink p => some ([Fld.TRK_LOOP_STAT_LOCKED p, Fld.TRK_LOOP_STAT_RESULT p, Fld.TRK_PORT_STATUS_ATTEMPTS p, Fld.TRK_PORT_STATUS_LINK p] ++ onPort Fld.TRK_PAIR_STATUS_LOCKED p ++ onPort Fld.TRK_PAIR_STATUS_LOOP p ++ onPort Fld.TRK_PAIR_STATUS_RX_SLEEP p ++ onPort Fld.TRK_PAIR_STATUS_TX_SLEEP p ++ [Fld.LTM_CLOSURE, Fld.LTM_STATUS_GM_SRC, Fld.LTM_STATUS_HOPS_GM, Fld.LTM_STATUS_PATH, Fld.LTM_STATUS_STATE, Fld.TRK_RING_STATUS_RING])
  | .portEnWrite p _ => some ([Fld.TRK_LOOP_STAT_LOCKED p, Fld.TRK_LOOP_STAT_RESULT p, Fld.TRK_PORT_CTL_EN p, Fld.TRK_PORT_STATUS_ATTEMPTS p, Fld.TRK_PORT_STATUS_CSUP p, Fld.TRK_PORT_STATUS_LINK p] ++ onPort Fld.TRK_PAIR_STATUS_LOCKED p ++ onPort Fld.TRK_PAIR_STATUS_LOOP p ++ onPort Fld.TRK_PAIR_STATUS_RX_SLEEP p ++ onPort Fld.TRK_PAIR_STATUS_TX_SLEEP p ++ [Fld.LTM_CLOSURE, Fld.LTM_STATUS_GM_SRC, Fld.LTM_STATUS_HOPS_GM, Fld.LTM_STATUS_PATH, Fld.LTM_STATUS_STATE, Fld.TRK_RING_STATUS_RING])
  | .loopStart _ _ => none
  | .loopStop _ => none
  | .knuckleStart _ => some (fieldArr Fld.TRK_PAIR_STATUS_LOCKED 16)
  | .laneWakeStart => some (fieldArr Fld.TRK_LOOP_STAT_LOCKED 2 ++ fieldArr Fld.TRK_LOOP_STAT_RESULT 2 ++ fieldArr Fld.TRK_PAIR_STATUS_LOCKED 16 ++ fieldArr Fld.TRK_PAIR_STATUS_LOOP 16 ++ fieldArr Fld.TRK_PAIR_STATUS_RX_SLEEP 16 ++ fieldArr Fld.TRK_PAIR_STATUS_TX_SLEEP 16)
  | .laneWakeDone p _ => some (onPort Fld.TRK_PAIR_STATUS_RX_SLEEP p ++ onPort Fld.TRK_PAIR_STATUS_TX_SLEEP p)
  | .pairLockTimeout p _ => some (onPort Fld.TRK_PAIR_STATUS_FAULTY p ++ [Fld.CPL_GEN_LOW])
  | .rowRequestReceive => none
  | .pairLockFailReceive => some (eccLog)
  | .slotReceive _ _ _ _ => some []
  | .switchSlot _ _ _ => some ([Fld.CPL_GEN_LOW] ++ eccLog)
  | .brimTransmit _ _ _ => some ([Fld.CPL_GEN_LOW] ++ eccLog)
  | .brimReceive p _ _ => some ([Fld.TRK_LOOP_STAT_LOCKED p, Fld.TRK_PORT_STATUS_LINK p] ++ onPort Fld.TRK_PAIR_STATUS_CAP p ++ onPort Fld.TRK_PAIR_STATUS_DIR p ++ onPort Fld.TRK_PAIR_STATUS_LOCKED p ++ onPort Fld.TRK_PAIR_STATUS_NRZ p ++ onPort Fld.TRK_PAIR_STATUS_ROW p ++ onPort Fld.TRK_PAIR_STATUS_RX_SLEEP p ++ onPort Fld.TRK_PAIR_STATUS_TX_SLEEP p)
  | .tickFramingLoss p _ => some (onPort Fld.TRK_PAIR_STATUS_LOCKED p)
  | .syncFrameReceive _ _ _ => none
  | .mgmtCellReceive _ _ => some ([Fld.CPL_GEN_LOW])
  | .mgmtSourceForget _ => some []
  | .breakDeclare _ => none
  | .ringAlarmSend _ => some []
  | .ringAlarmReceive _ => none
  | .headAlarmRelay _ => some []
  | .planBEntry => none
  | .planLoadFragment => some ([Fld.CPL_GEN_LOW, Fld.PLN_PEND_EPOCH, Fld.PLN_SECTION_CRC, Fld.PLN_STATUS_PEND_STATE] ++ eccLog)
  | .planCheckDone => none
  | .hopDigestReceive => none
  | .planLoadTimeout => none
  | .planPeerTimeout => none
  | .planQueryMsg => some ([Fld.CPL_GEN_LOW] ++ eccLog)
  | .planArmMsg => none
  | .planDisarmMsg => none
  | .switchPrepare => none
  | .epochSwitch => none
  | .transparentSwitch => none
  | .transparentEntry => none
  | .heldBankRelease => some ([Fld.PLN_STATUS_PEND_STATE])
  | .epochAdopt _ => some ([Fld.PLN_ACTIVE_EPOCH])
  | .epochMismatch _ => none
  | .cellProduce _ _ _ => some ([Fld.CPL_GEN_LOW])
  | .gapMarkerWrite _ => some ([Fld.CPL_GEN_LOW])
  | .packetConsume _ => some (eccLog)
  | .carveClaimDeadline => some []
  | .queueFlush _ => some []
  | .queueEnable _ _ => none
  | .queueDisable _ _ => none
  | .quotaProfileMinWrite _ _ => some []
  | .quotaProfileCommit _ _ => some ([Fld.CPL_GEN_LOW] ++ fieldArr Fld.CPL_QPROF_MAX_MAX 256 ++ fieldArr Fld.CPL_QPROF_MIN_MIN 256)
  | .poolLowReload _ => some ([Fld.CPL_GEN_LOW])
  | .readPortBind _ _ => some (fieldArr Fld.CPL_QRP_SEL_BAD 16 ++ fieldArr Fld.CPL_QRP_SEL_BOUND 16 ++ fieldArr Fld.CPL_QRP_SEL_QUEUE 16)
  | .readPortDataRead _ _ => some (eccLog)
  | .readPortDataHighRead _ => some []
  | .lineTimeRead _ _ => some (timeLatch)
  | .gmSourceMeasure _ _ _ => some ([Fld.LTM_RATE, Fld.LTM_SRC_ERR, Fld.LTM_STATUS_STATE] ++ lineOrigin)
  | .ppsInEdge _ => some ([Fld.LTM_RATE, Fld.LTM_SRC_ERR, Fld.LTM_STATUS_STATE] ++ lineOrigin)
  | .gmHoldoverTimeout => some ([Fld.LTM_STATUS_STATE])
  | .gmHoldoverLimit => some ([Fld.LTM_STATUS_STATE])
  | .gmSourceWrite _ => some ([Fld.LTM_GM_CFG_HOLD_MAX, Fld.LTM_GM_CFG_PTP_PORT, Fld.LTM_GM_CFG_SOURCE, Fld.LTM_RATE, Fld.LTM_SRC_ERR, Fld.LTM_STATUS_GM_SRC, Fld.LTM_STATUS_STATE])
  | .originWrite _ _ => some (lineOrigin)
  | .closureUpdate => some ([Fld.LTM_CLOSURE])
  | .timeAnnounceReceive => some ([Fld.LTM_CLOSURE, Fld.LTM_UTC_LEAP59, Fld.LTM_UTC_LEAP61, Fld.LTM_UTC_TRACEABLE, Fld.LTM_UTC_UTC_OFFSET, Fld.LTM_UTC_UTC_VALID] ++ eccLog ++ lineOrigin)
  | .tioLevelWrite _ => some []
  | .tioModeChange _ _ => some (fieldArr Fld.LTM_TIO_CFG_DEST 32 ++ fieldArr Fld.LTM_TIO_CFG_EDGES 32 ++ fieldArr Fld.LTM_TIO_CFG_FILTER 32 ++ fieldArr Fld.LTM_TIO_CFG_IDLE 32 ++ fieldArr Fld.LTM_TIO_CFG_MODE 32 ++ fieldArr Fld.LTM_TIO_CFG_POL 32 ++ fieldArr Fld.LTM_TIO_CFG_SIGMAP 32)
  | .tioCapture _ _ _ => some ([Fld.CPL_GEN_LOW])
  | .captureRoute => none
  | .launchRecordPost => some ([Fld.CPL_GEN_LOW])
  | .launchAdmit _ => some (launchUse)
  | .launchCancelAdmit => some (launchUse)
  | .launchHandover _ => none
  | .tioSet _ => some (launchUse)
  | .tioClear _ => some (launchUse)
  | .tioPulse _ => some (launchUse)
  | .tioPulseEnd _ => some (launchUse)
  | .canTx _ => none
  | .ethRelease _ _ => some ([Fld.CPL_GEN_LOW] ++ eccLog ++ launchUse)
  | .dispCommit _ => none
  | .camTrigger _ _ => some ([Fld.CPL_GEN_LOW] ++ eccLog ++ launchUse)
  | .launchCompletionPost => some ([Fld.CPL_GEN_LOW])
  | .hostPortReset _ => none
  | .hifLinkUp _ _ _ => some ([Fld.HIF_STATUS_BME, Fld.HIF_STATUS_LINK_UP, Fld.HIF_STATUS_SPEED, Fld.HIF_STATUS_WIDTH])
  | .bar2Read _ _ => some []
  | .msixVectorUnmask _ _ => none
  | .ringEnable _ _ => none
  | .ringDisable _ _ => none
  | .ringDrainDone _ => none
  | .doorbellPageArrive _ _ => none
  | .doorbellLate => some ([Fld.HIF_STATUS_DB_LATE])
  | .hifNudge _ => some []
  | .descriptorFetch _ _ => none
  | .txPkt _ _ => none
  | .txTile _ _ => none
  | .txCommit _ => none
  | .rxBuf _ _ => none
  | .regRead _ _ => none
  | .regWrite _ _ => none
  | .regWriteHop _ => none
  | .ping _ => none
  | .planLoad _ _ => none
  | .planArm _ => none
  | .planDisarm _ => none
  | .planQuery _ => none
  | .launch _ _ => none
  | .launchCancel _ => none
  | .reset _ => none
  | .nop _ => none
  | .dumpBuf _ => none
  | .regReadMsg => some ([Fld.CPL_GEN_LOW] ++ eccLog ++ timeLatch)
  | .regWriteMsg => none
  | .regWriteHopMsg => none
  | .pingMsg => some ([Fld.CPL_GEN_LOW] ++ eccLog)
  | .launchMsg => some (eccLog)
  | .launchCancelMsg => some (eccLog)
  | .resetMsg => some ([Fld.CPL_GEN_LOW] ++ eccLog)
  | .responseReceive _ => none
  | .launchDoneReceive => none
  | .eventRelayReceive => none
  | .mgmtRequestTimeout _ => none
  | .eventDeliver => none
  | .interruptModeration _ => none
  | .ethFrameReceive _ _ _ => some ([Fld.CPL_GEN_LOW] ++ eccLog)
  | .ethTransmitStart p _ _ => some ([Fld.NET_GL_STATUS_CURRENT p] ++ [Fld.CPL_GEN_LOW] ++ eccLog)
  | .ethLinkChange p _ _ _ _ => some ([Fld.NET_PORT_STATUS_AN_DONE p, Fld.NET_PORT_STATUS_LINK p, Fld.NET_PORT_STATUS_LOCAL_FAULT p, Fld.NET_PORT_STATUS_REMOTE_FAULT p, Fld.NET_PORT_STATUS_SPEED p])
  | .flowEntryHold _ _ _ => some []
  | .flowEntryCommit _ _ => some []
  | .policerCommit _ _ => some (fieldArr Fld.NET_POL_CBS 1024 ++ fieldArr Fld.NET_POL_CIR 1024 ++ fieldArr Fld.NET_POL_CTL_AWARE 1024 ++ fieldArr Fld.NET_POL_CTL_DROP_RED 1024 ++ fieldArr Fld.NET_POL_CTL_EN 1024 ++ fieldArr Fld.NET_POL_CTL_PCP_RED 1024 ++ fieldArr Fld.NET_POL_CTL_PCP_YELLOW 1024 ++ fieldArr Fld.NET_POL_CTL_SET_DEI 1024 ++ fieldArr Fld.NET_POL_PBS 1024 ++ fieldArr Fld.NET_POL_PIR 1024)
  | .egqEnable p _ => some ([Fld.NET_PORT_EGQ_BASE p, Fld.NET_PORT_EGQ_EN p])
  | .relqBind _ _ _ => some (fieldArr2 Fld.NET_PORT_RELQ_QUEUE 4 8 ++ fieldArr2 Fld.NET_PORT_RELQ_VALID 4 8)
  | .gateListCommit p _ => some ([Fld.NET_GL_PEND_TICK_HI p, Fld.NET_GL_PEND_TICK_LO p, Fld.NET_GL_STATUS_PENDING p])
  | .gateListCancel p => some ([Fld.NET_GL_PEND_TICK_HI p, Fld.NET_GL_PEND_TICK_LO p, Fld.NET_GL_STATUS_PENDING p])
  | .gateListTakeover p => some ([Fld.NET_GL_PEND_TICK_HI p, Fld.NET_GL_PEND_TICK_LO p, Fld.NET_GL_STATUS_CURRENT p, Fld.NET_GL_STATUS_PENDING p, Fld.NET_GL_STATUS_SOURCE p])
  | .gateListEntryAdvance p => some ([Fld.NET_GL_STATUS_CURRENT p])
  | .ptpMessageSend _ _ _ => some ([Fld.CPL_GEN_LOW] ++ eccLog)
  | .blkPortEnable _ _ => none
  | .blkPerstRelease _ => some []
  | .blkLinkUp d _ _ _ _ _ _ _ => some ([Fld.BLK_PORT_MDTS d, Fld.BLK_PORT_STATUS_CAUSE d, Fld.BLK_PORT_STATUS_SPEED d, Fld.BLK_PORT_STATUS_STATE d, Fld.BLK_PORT_STATUS_WIDTH d])
  | .blkBringupFail d _ => some ([Fld.BLK_PORT_STATUS_CAUSE d, Fld.BLK_PORT_STATUS_SPEED d, Fld.BLK_PORT_STATUS_STATE d, Fld.BLK_PORT_STATUS_WIDTH d])
  | .blkBringupRetry _ => none
  | .blkPortDisable d => some ([Fld.BLK_PORT_CFG_EN d, Fld.BLK_PORT_INFLIGHT_COUNT d, Fld.BLK_PORT_INFLIGHT_HIGH d, Fld.BLK_PORT_MDTS d, Fld.BLK_PORT_STATUS_SPEED d, Fld.BLK_PORT_STATUS_STATE d, Fld.BLK_PORT_STATUS_WIDTH d] ++ [Fld.CPL_GEN_LOW])
  | .nvmeCqeReceive d _ _ => some ([Fld.BLK_PORT_INFLIGHT_COUNT d, Fld.BLK_PORT_INFLIGHT_HIGH d] ++ [Fld.CPL_GEN_LOW])
  | .ssdInboundAccess _ _ _ _ _ => some []
  | .blkRead _ => none
  | .blkWrite _ _ => none
  | .blkFlush _ => none
  | .blkDeallocate _ => none
  | .blkIdentify _ => none
  | .blkCommandIssue _ => some ([Fld.CPL_GEN_LOW] ++ fieldArr Fld.BLK_PORT_INFLIGHT_COUNT 2 ++ fieldArr Fld.BLK_PORT_INFLIGHT_HIGH 2 ++ eccLog)
  | .blkResponseReceive _ _ => none
  | .blkTunnelTimeout _ => none
  | .blkDevTimeout d _ => some ([Fld.BLK_PORT_INFLIGHT_COUNT d, Fld.BLK_PORT_INFLIGHT_HIGH d] ++ [Fld.CPL_GEN_LOW])
  | .blkCtrlReset d => some ([Fld.BLK_PORT_INFLIGHT_COUNT d, Fld.BLK_PORT_INFLIGHT_HIGH d, Fld.BLK_PORT_STATUS_STATE d] ++ [Fld.CPL_GEN_LOW])
  | .blkLinkDown _ => none
  | .dspHeadEnable h _ => some ([Fld.DSP_HEAD_CFG_EN h, Fld.DSP_HEAD_CFG_FORMAT h, Fld.DSP_HEAD_CFG_INQ h, Fld.DSP_HEAD_CFG_LINE_LOCK h, Fld.DSP_HEAD_CFG_MAX_LANES h, Fld.DSP_HEAD_CFG_MAX_RATE h, Fld.DSP_HEAD_STATUS_CAUSE h, Fld.DSP_HEAD_STATUS_HELD h, Fld.DSP_HEAD_STATUS_LANES h, Fld.DSP_HEAD_STATUS_PEND h, Fld.DSP_HEAD_STATUS_RATE h, Fld.DSP_HEAD_STATUS_STATE h, Fld.DSP_STAGE_USED h])
  | .dspHeadDisable h => some ([Fld.DSP_HEAD_CFG_EN h, Fld.DSP_HEAD_STATUS_HELD h, Fld.DSP_HEAD_STATUS_LANES h, Fld.DSP_HEAD_STATUS_PEND h, Fld.DSP_HEAD_STATUS_RATE h, Fld.DSP_HEAD_STATUS_STATE h, Fld.DSP_STAGE_USED h])
  | .dspLinkTrain h _ => some ([Fld.DSP_HEAD_STATUS_HELD h, Fld.DSP_HEAD_STATUS_LANES h, Fld.DSP_HEAD_STATUS_PEND h, Fld.DSP_HEAD_STATUS_RATE h, Fld.DSP_HEAD_STATUS_STATE h, Fld.DSP_STAGE_USED h])
  | .dspTrainRetry h _ => some ([Fld.DSP_HEAD_STATUS_HELD h, Fld.DSP_HEAD_STATUS_LANES h, Fld.DSP_HEAD_STATUS_PEND h, Fld.DSP_HEAD_STATUS_RATE h, Fld.DSP_HEAD_STATUS_STATE h, Fld.DSP_STAGE_USED h])
  | .dspIrqHpd h _ _ => some ([Fld.DSP_HEAD_STATUS_HELD h, Fld.DSP_HEAD_STATUS_LANES h, Fld.DSP_HEAD_STATUS_PEND h, Fld.DSP_HEAD_STATUS_RATE h, Fld.DSP_HEAD_STATUS_STATE h, Fld.DSP_STAGE_USED h])
  | .dspHpdRise h _ _ => some ([Fld.DSP_HEAD_STATUS_HPD h, Fld.DSP_HEAD_STATUS_STATE h, Fld.DSP_SINK_BLOCKS h, Fld.DSP_SINK_EDID_VALID h, Fld.DSP_SINK_LANES h, Fld.DSP_SINK_RATE h] ++ fieldArr2 Fld.DSP_DPCD 2 4 ++ fieldArr2 Fld.DSP_EDID 2 128)
  | .dspHpdLoss h => some ([Fld.DSP_HEAD_STATUS_HPD h, Fld.DSP_HEAD_STATUS_LANES h, Fld.DSP_HEAD_STATUS_RATE h, Fld.DSP_HEAD_STATUS_STATE h, Fld.DSP_SINK_BLOCKS h, Fld.DSP_SINK_EDID_VALID h, Fld.DSP_SINK_LANES h, Fld.DSP_SINK_RATE h] ++ fieldArr2 Fld.DSP_DPCD 2 4 ++ fieldArr2 Fld.DSP_EDID 2 128)
  | .dspPacketTake h _ => some ([Fld.DSP_HEAD_STATUS_HELD h, Fld.DSP_HEAD_STATUS_PEND h, Fld.DSP_STAGE_USED h] ++ eccLog)
  | .dspFrameStart h _ => some ([Fld.DSP_FRAME_HI h, Fld.DSP_FRAME_LO h, Fld.DSP_FRZ_SIG h, Fld.DSP_FRZ_STATUS_FROZEN h, Fld.DSP_FRZ_STATUS_UNCHANGED h, Fld.DSP_HEAD_STATUS_HELD h, Fld.DSP_HEAD_STATUS_PEND h, Fld.DSP_STAGE_USED h, Fld.DSP_VB_TIME_HI h, Fld.DSP_VB_TIME_LO h])
  | .dspApplyDone h => some ([Fld.DSP_HEAD_STATUS_HELD h, Fld.DSP_HEAD_STATUS_PEND h, Fld.DSP_STAGE_USED h])
  | .dspPrefill h => some ([Fld.DSP_HEAD_STATUS_HELD h, Fld.DSP_HEAD_STATUS_PEND h, Fld.DSP_STAGE_USED h] ++ eccLog)
  | .dspScanoutStart h => some ([Fld.DSP_HEAD_STATUS_HELD h, Fld.DSP_HEAD_STATUS_PEND h, Fld.DSP_STAGE_USED h] ++ eccLog)
  | .dspFrzWrite h _ _ => some ([Fld.DSP_FRZ_CFG_EN h, Fld.DSP_FRZ_CFG_HEARTBEAT h, Fld.DSP_FRZ_CFG_N h, Fld.DSP_FRZ_STATUS_FROZEN h, Fld.DSP_FRZ_STATUS_UNCHANGED h, Fld.DSP_FRZ_WH_H h, Fld.DSP_FRZ_WH_W h, Fld.DSP_FRZ_XY_X h, Fld.DSP_FRZ_XY_Y h, Fld.DSP_HEAD_STATUS_HELD h, Fld.DSP_HEAD_STATUS_PEND h, Fld.DSP_STAGE_USED h])
  | .fbrRead _ _ => none
  | .fbrWrite _ _ => none
  | .fbrLocked _ => none
  | .fbrReadMsg => some ([Fld.CPL_GEN_LOW, Fld.FBR_STATUS_COUNT, Fld.FBR_STATUS_HIGH] ++ eccLog)
  | .fbrWriteMsg => some ([Fld.CPL_GEN_LOW, Fld.FBR_STATUS_COUNT, Fld.FBR_STATUS_HIGH] ++ eccLog)
  | .fbrLockedMsg => some ([Fld.CPL_GEN_LOW, Fld.FBR_STATUS_COUNT, Fld.FBR_STATUS_HIGH] ++ eccLog)
  | .zoneBusCycle _ => none
  | .zrdyTimeout _ => none
  | .fbrStale _ => some ([Fld.FBR_STATUS_COUNT, Fld.FBR_STATUS_HIGH])
  | .fbrPrefetchExpiry _ => some ([Fld.FBR_STATUS_COUNT, Fld.FBR_STATUS_HIGH])
  | .fbrWinClear _ => some ([Fld.FBR_POISON_HI, Fld.FBR_POISON_LO])
  | .fbrWindowEnable _ _ => some (fieldArr Fld.FBR_WIN_CFG_CS 64 ++ fieldArr Fld.FBR_WIN_CFG_EN 64 ++ fieldArr Fld.FBR_WIN_CFG_LOCK_ALLOWED 64 ++ fieldArr Fld.FBR_WIN_CFG_PF_SIZE 64 ++ fieldArr Fld.FBR_WIN_CFG_PREFETCH 64 ++ fieldArr Fld.FBR_WIN_CFG_READ_SENSITIVE 64 ++ fieldArr Fld.FBR_WIN_CFG_SIZE 64)
  | .zintSample _ _ => some ([Fld.FBR_ZINT_LEVEL])
  | .fbrPoll _ _ => some []
  | .canTxreq _ _ _ => none
  | .canTxDone _ _ _ => none
  | .canFrameReceive _ _ _ => none
  | .canErrorStateChange _ _ _ _ => none
  | .canBusOn _ => none
  | .canEnable _ _ => none
  | .signalMapPass => none
  | .signalMapHold _ _ _ => some []
  | .signalMapCommit _ _ => some []
  | .tcpPortEnable _ _ => some (fieldArr Fld.LPW_CH_STATUS_REGULATING 8 ++ fieldArr Fld.LPW_CH_STATUS_STATE 8 ++ fieldArr Fld.TCP_PORT_CFG_DP_EN 4 ++ fieldArr Fld.TCP_PORT_CFG_EN 4 ++ fieldArr Fld.TCP_PORT_CFG_MAX_W 4 ++ fieldArr Fld.TCP_PORT_CFG_PRIO 4 ++ fieldArr Fld.TCP_PORT_CFG_USB_EN 4 ++ fieldArr Fld.TCP_PORT_CFG_VCONN_EN 4 ++ fieldArr Fld.TCP_PORT_GRANT_GRANT 4 ++ fieldArr Fld.TCP_PORT_STATUS_NO_BUDGET 4 ++ fieldArr Fld.TCP_PORT_STATUS_VCONN_SRC 4 ++ fieldArr Fld.USB_PORT_STATUS_ENABLED 5 ++ fieldArr Fld.USB_PORT_STATUS_SPEED 5 ++ fieldArr Fld.USB_PORT_STATUS_SUSPENDED 5 ++ contract ++ vbus ++ altMode ++ attachBits)
  | .ccChange _ _ _ => some (fieldArr Fld.TCP_PORT_STATUS_STATE 4)
  | .tcpCcDebounce _ => some (fieldArr Fld.LPW_CH_STATUS_REGULATING 8 ++ fieldArr Fld.LPW_CH_STATUS_STATE 8 ++ fieldArr Fld.TCP_PORT_GRANT_GRANT 4 ++ fieldArr Fld.TCP_PORT_STATUS_CABLE_5A 4 ++ fieldArr Fld.TCP_PORT_STATUS_CABLE_SS 4 ++ fieldArr Fld.TCP_PORT_STATUS_FLIPPED 4 ++ fieldArr Fld.TCP_PORT_STATUS_NO_BUDGET 4 ++ fieldArr Fld.TCP_PORT_STATUS_RA 4 ++ fieldArr Fld.TCP_PORT_STATUS_STATE 4 ++ fieldArr Fld.TCP_PORT_STATUS_VCONN_SRC 4 ++ fieldArr Fld.USB_PORT_STATUS_OVER_CURRENT 5 ++ contract ++ vbus ++ altMode)
  | .tcpDetachDebounce _ => some (fieldArr Fld.LPW_CH_STATUS_REGULATING 8 ++ fieldArr Fld.LPW_CH_STATUS_STATE 8 ++ fieldArr Fld.TCP_PORT_GRANT_GRANT 4 ++ fieldArr Fld.TCP_PORT_STATUS_NO_BUDGET 4 ++ fieldArr Fld.TCP_PORT_STATUS_VCONN_SRC 4 ++ fieldArr Fld.USB_PORT_STATUS_ENABLED 5 ++ fieldArr Fld.USB_PORT_STATUS_SPEED 5 ++ fieldArr Fld.USB_PORT_STATUS_SUSPENDED 5 ++ contract ++ vbus ++ altMode ++ attachBits)
  | .tcpErrorRecoveryEnd _ => some (fieldArr Fld.TCP_PORT_STATUS_STATE 4)
  | .portSAttachChange _ _ _ => some ([Fld.TCP_S_STATUS_ATTACHED, Fld.TCP_S_STATUS_FLIPPED, Fld.TCP_S_STATUS_VBUS, Fld.USB_STATUS_CONFIGURED, Fld.USB_STATUS_SESSION, Fld.USB_STATUS_SPEED, Fld.USB_STATUS_SUSPENDED, Fld.USB_STATUS_UP] ++ fieldArr Fld.USB_PORT_STATUS_ENABLED 5 ++ fieldArr Fld.USB_PORT_STATUS_SUSPENDED 5)
  | .vbusEnable _ => some (fieldArr Fld.LPW_CH_STATUS_REGULATING 8 ++ fieldArr Fld.LPW_CH_STATUS_STATE 8 ++ fieldArr Fld.TCP_PORT_STATUS_NO_BUDGET 4 ++ vbus)
  | .tcpNoBudget _ => some (fieldArr Fld.TCP_PORT_STATUS_NO_BUDGET 4)
  | .sourceCapabilitiesSend _ _ => some []
  | .pdRequest _ _ _ _ _ => some (fieldArr Fld.LPW_CH_STATUS_REGULATING 8 ++ fieldArr Fld.LPW_CH_STATUS_STATE 8 ++ fieldArr Fld.TCP_PORT_GRANT_GRANT 4 ++ fieldArr Fld.TCP_PORT_STATUS_NO_BUDGET 4 ++ contract ++ vbus ++ altMode)
  | .pdTransitionStart _ => some []
  | .pdVbusReached _ => some (fieldArr Fld.LPW_CH_STATUS_REGULATING 8 ++ fieldArr Fld.LPW_CH_STATUS_STATE 8 ++ fieldArr Fld.TCP_PORT_GRANT_GRANT 4 ++ fieldArr Fld.TCP_PORT_STATUS_NO_BUDGET 4 ++ contract ++ vbus ++ altMode)
  | .pdTransitionTimeout _ => some (fieldArr Fld.LPW_CH_STATUS_REGULATING 8 ++ fieldArr Fld.LPW_CH_STATUS_STATE 8 ++ fieldArr Fld.TCP_PORT_STATUS_VCONN_SRC 4 ++ contract ++ vbus ++ altMode)
  | .pdReofferTimeout _ => some (fieldArr Fld.LPW_CH_STATUS_REGULATING 8 ++ fieldArr Fld.LPW_CH_STATUS_STATE 8 ++ fieldArr Fld.TCP_PORT_STATUS_VCONN_SRC 4 ++ contract ++ vbus ++ altMode)
  | .pdGetSourceCap _ => some []
  | .pdUnsupportedMessage _ _ => some []
  | .pdSoftReset _ => some (fieldArr Fld.TCP_PORT_STATUS_VCONN_SRC 4)
  | .pdMessageFail _ => some (fieldArr Fld.TCP_PORT_STATUS_VCONN_SRC 4)
  | .hardReset _ _ => some (fieldArr Fld.LPW_CH_STATUS_REGULATING 8 ++ fieldArr Fld.LPW_CH_STATUS_STATE 8 ++ fieldArr Fld.TCP_PORT_STATUS_VCONN_SRC 4 ++ contract ++ vbus ++ altMode)
  | .hardResetEnd _ => some (fieldArr Fld.LPW_CH_STATUS_REGULATING 8 ++ fieldArr Fld.LPW_CH_STATUS_STATE 8 ++ fieldArr Fld.TCP_PORT_GRANT_GRANT 4 ++ fieldArr Fld.TCP_PORT_STATUS_NO_BUDGET 4 ++ fieldArr Fld.TCP_PORT_STATUS_PD_FAIL 4 ++ fieldArr Fld.TCP_PORT_STATUS_VCONN_SRC 4 ++ contract ++ vbus ++ altMode)
  | .recaps _ => some []
  | .vconnTake _ => some []
  | .vconnSwapReceive _ => some (fieldArr Fld.TCP_PORT_STATUS_VCONN_SRC 4)
  | .sinktxngWaitEnd _ _ _ => some (fieldArr Fld.TCP_PORT_STATUS_VCONN_SRC 4)
  | .pdPsRdy _ => some (fieldArr Fld.TCP_PORT_STATUS_VCONN_SRC 4)
  | .vconnSwapTimeout _ => some (fieldArr Fld.LPW_CH_STATUS_REGULATING 8 ++ fieldArr Fld.LPW_CH_STATUS_STATE 8 ++ fieldArr Fld.TCP_PORT_STATUS_VCONN_SRC 4 ++ contract ++ vbus ++ altMode)
  | .dpAltModeEntry _ => some (fieldArr Fld.TCP_PORT_STATUS_DP 4)
  | .pdVdmResponse _ _ => some (fieldArr Fld.LPW_CH_STATUS_REGULATING 8 ++ fieldArr Fld.LPW_CH_STATUS_STATE 8 ++ fieldArr Fld.TCP_PORT_GRANT_GRANT 4 ++ fieldArr Fld.TCP_PORT_STATUS_CABLE_5A 4 ++ fieldArr Fld.TCP_PORT_STATUS_CABLE_SS 4 ++ fieldArr Fld.TCP_PORT_STATUS_NO_BUDGET 4 ++ contract ++ vbus ++ altMode)
  | .vdmResponseTimeout _ => some (fieldArr Fld.LPW_CH_STATUS_REGULATING 8 ++ fieldArr Fld.LPW_CH_STATUS_STATE 8 ++ fieldArr Fld.TCP_PORT_GRANT_GRANT 4 ++ fieldArr Fld.TCP_PORT_STATUS_CABLE_5A 4 ++ fieldArr Fld.TCP_PORT_STATUS_CABLE_SS 4 ++ fieldArr Fld.TCP_PORT_STATUS_NO_BUDGET 4 ++ contract ++ vbus ++ altMode)
  | .dpExit _ => some (altMode)
  | .pdAttention _ _ _ => some (fieldArr Fld.TCP_PORT_STATUS_HPD 4)
  | .usbSofReceive _ _ _ => some ([Fld.USB_SOF_HI, Fld.USB_SOF_LO, Fld.USB_STATUS_FRAME])
  | .usbSuspend => some ([Fld.USB_STATUS_SUSPENDED] ++ fieldArr Fld.USB_PORT_STATUS_SUSPENDED 5)
  | .usbBabble _ _ => some (fieldArr Fld.USB_PORT_STATUS_BABBLE_CUT 5 ++ fieldArr Fld.USB_PORT_STATUS_ENABLED 5)
  | .usbResume _ => some ([Fld.USB_STATUS_SUSPENDED] ++ fieldArr Fld.USB_PORT_STATUS_SUSPENDED 5)
  | .gadgetRemoteWake _ => some []
  | .usbBusReset _ _ _ => some ([Fld.USB_STATUS_CONFIGURED, Fld.USB_STATUS_SESSION])
  | .gadgetCommand _ => some ([Fld.USB_STATUS_CONFIGURED])
  | .gadgetFilterSet _ => some ([Fld.USB_STATUS_CONFIGURED])
  | .getInfo => some []
  | .getChallenge => some []
  | .setProof _ => some ([Fld.USB_STATUS_SESSION])
  | .lock => some ([Fld.USB_STATUS_SESSION])
  | .execCmd _ => some []
  | .gadgetSessionIdle => some ([Fld.USB_STATUS_SESSION])
  | .gadgetLockoutEnd => some ([Fld.USB_STATUS_SESSION])
  | .lpwChannelEn c _ => some ([Fld.LPW_CH_CFG_EN c, Fld.LPW_CH_CFG_LATCH c, Fld.LPW_CH_CFG_MODE c, Fld.LPW_CH_CFG_NTC_EN c, Fld.LPW_CH_STATUS_REGULATING c, Fld.LPW_CH_STATUS_STATE c])
  | .lpwQualifyDone c => some ([Fld.LPW_CH_STATUS_REGULATING c, Fld.LPW_CH_STATUS_STATE c])
  | .lpwRampDone c => some ([Fld.LPW_CH_STATUS_REGULATING c, Fld.LPW_CH_STATUS_STATE c])
  | .startTimeout _ => some (fieldArr Fld.LPW_CH_STATUS_FAULT 8 ++ fieldArr Fld.LPW_CH_STATUS_REGULATING 8 ++ fieldArr Fld.LPW_CH_STATUS_REMAIN 8 ++ fieldArr Fld.LPW_CH_STATUS_STATE 8 ++ fieldArr Fld.LPW_CH_STATUS_TRIPS 8 ++ fieldArr Fld.TCP_PORT_GRANT_GRANT 4 ++ fieldArr Fld.TCP_PORT_STATUS_NO_BUDGET 4 ++ fieldArr Fld.TCP_PORT_STATUS_VCONN_SRC 4 ++ fieldArr Fld.USB_PORT_STATUS_ENABLED 5 ++ fieldArr Fld.USB_PORT_STATUS_OVER_CURRENT 5 ++ fieldArr Fld.USB_PORT_STATUS_SPEED 5 ++ fieldArr Fld.USB_PORT_STATUS_SUSPENDED 5 ++ contract ++ vbus ++ altMode ++ attachBits)
  | .shortAtStart _ => some (fieldArr Fld.LPW_CH_STATUS_FAULT 8 ++ fieldArr Fld.LPW_CH_STATUS_REGULATING 8 ++ fieldArr Fld.LPW_CH_STATUS_REMAIN 8 ++ fieldArr Fld.LPW_CH_STATUS_STATE 8 ++ fieldArr Fld.LPW_CH_STATUS_TRIPS 8 ++ fieldArr Fld.TCP_PORT_GRANT_GRANT 4 ++ fieldArr Fld.TCP_PORT_STATUS_NO_BUDGET 4 ++ fieldArr Fld.TCP_PORT_STATUS_VCONN_SRC 4 ++ fieldArr Fld.USB_PORT_STATUS_ENABLED 5 ++ fieldArr Fld.USB_PORT_STATUS_OVER_CURRENT 5 ++ fieldArr Fld.USB_PORT_STATUS_SPEED 5 ++ fieldArr Fld.USB_PORT_STATUS_SUSPENDED 5 ++ contract ++ vbus ++ altMode ++ attachBits)
  | .currentLimit _ => some (fieldArr Fld.LPW_CH_STATUS_FAULT 8 ++ fieldArr Fld.LPW_CH_STATUS_REGULATING 8 ++ fieldArr Fld.LPW_CH_STATUS_REMAIN 8 ++ fieldArr Fld.LPW_CH_STATUS_STATE 8 ++ fieldArr Fld.LPW_CH_STATUS_TRIPS 8 ++ fieldArr Fld.TCP_PORT_GRANT_GRANT 4 ++ fieldArr Fld.TCP_PORT_STATUS_NO_BUDGET 4 ++ fieldArr Fld.TCP_PORT_STATUS_VCONN_SRC 4 ++ fieldArr Fld.USB_PORT_STATUS_ENABLED 5 ++ fieldArr Fld.USB_PORT_STATUS_OVER_CURRENT 5 ++ fieldArr Fld.USB_PORT_STATUS_SPEED 5 ++ fieldArr Fld.USB_PORT_STATUS_SUSPENDED 5 ++ contract ++ vbus ++ altMode ++ attachBits)
  | .gauntlet _ => some (fieldArr Fld.LPW_CH_STATUS_FAULT 8 ++ fieldArr Fld.LPW_CH_STATUS_REGULATING 8 ++ fieldArr Fld.LPW_CH_STATUS_REMAIN 8 ++ fieldArr Fld.LPW_CH_STATUS_STATE 8 ++ fieldArr Fld.LPW_CH_STATUS_TRIPS 8 ++ fieldArr Fld.TCP_PORT_GRANT_GRANT 4 ++ fieldArr Fld.TCP_PORT_STATUS_NO_BUDGET 4 ++ fieldArr Fld.TCP_PORT_STATUS_VCONN_SRC 4 ++ fieldArr Fld.USB_PORT_STATUS_ENABLED 5 ++ fieldArr Fld.USB_PORT_STATUS_OVER_CURRENT 5 ++ fieldArr Fld.USB_PORT_STATUS_SPEED 5 ++ fieldArr Fld.USB_PORT_STATUS_SUSPENDED 5 ++ contract ++ vbus ++ altMode ++ attachBits)
  | .fastTrip _ _ => some (fieldArr Fld.LPW_CH_STATUS_FAULT 8 ++ fieldArr Fld.LPW_CH_STATUS_REGULATING 8 ++ fieldArr Fld.LPW_CH_STATUS_REMAIN 8 ++ fieldArr Fld.LPW_CH_STATUS_STATE 8 ++ fieldArr Fld.LPW_CH_STATUS_TRIPS 8 ++ fieldArr Fld.TCP_PORT_GRANT_GRANT 4 ++ fieldArr Fld.TCP_PORT_STATUS_NO_BUDGET 4 ++ fieldArr Fld.TCP_PORT_STATUS_VCONN_SRC 4 ++ fieldArr Fld.USB_PORT_STATUS_ENABLED 5 ++ fieldArr Fld.USB_PORT_STATUS_OVER_CURRENT 5 ++ fieldArr Fld.USB_PORT_STATUS_SPEED 5 ++ fieldArr Fld.USB_PORT_STATUS_SUSPENDED 5 ++ contract ++ vbus ++ altMode ++ attachBits)
  | .overtemp _ => some (fieldArr Fld.LPW_CH_STATUS_FAULT 8 ++ fieldArr Fld.LPW_CH_STATUS_REGULATING 8 ++ fieldArr Fld.LPW_CH_STATUS_REMAIN 8 ++ fieldArr Fld.LPW_CH_STATUS_STATE 8 ++ fieldArr Fld.LPW_CH_STATUS_TRIPS 8 ++ fieldArr Fld.TCP_PORT_GRANT_GRANT 4 ++ fieldArr Fld.TCP_PORT_STATUS_NO_BUDGET 4 ++ fieldArr Fld.TCP_PORT_STATUS_VCONN_SRC 4 ++ fieldArr Fld.USB_PORT_STATUS_ENABLED 5 ++ fieldArr Fld.USB_PORT_STATUS_OVER_CURRENT 5 ++ fieldArr Fld.USB_PORT_STATUS_SPEED 5 ++ fieldArr Fld.USB_PORT_STATUS_SUSPENDED 5 ++ contract ++ vbus ++ altMode ++ attachBits)
  | .ov _ => some (fieldArr Fld.LPW_CH_STATUS_FAULT 8 ++ fieldArr Fld.LPW_CH_STATUS_REGULATING 8 ++ fieldArr Fld.LPW_CH_STATUS_REMAIN 8 ++ fieldArr Fld.LPW_CH_STATUS_STATE 8 ++ fieldArr Fld.LPW_CH_STATUS_TRIPS 8 ++ fieldArr Fld.TCP_PORT_GRANT_GRANT 4 ++ fieldArr Fld.TCP_PORT_STATUS_NO_BUDGET 4 ++ fieldArr Fld.TCP_PORT_STATUS_VCONN_SRC 4 ++ fieldArr Fld.USB_PORT_STATUS_ENABLED 5 ++ fieldArr Fld.USB_PORT_STATUS_OVER_CURRENT 5 ++ fieldArr Fld.USB_PORT_STATUS_SPEED 5 ++ fieldArr Fld.USB_PORT_STATUS_SUSPENDED 5 ++ contract ++ vbus ++ altMode ++ attachBits)
  | .reverseCurrent c _ => some ([Fld.LPW_CH_STATUS_REGULATING c, Fld.LPW_CH_STATUS_STATE c])
  | .forwardReclose c => some ([Fld.LPW_CH_STATUS_REGULATING c, Fld.LPW_CH_STATUS_STATE c])
  | .bothSidesDead c => some ([Fld.LPW_CH_STATUS_REGULATING c, Fld.LPW_CH_STATUS_STATE c])
  | .cooldownEnd c => some ([Fld.LPW_CH_STATUS_REGULATING c, Fld.LPW_CH_STATUS_STATE c])
  | .tripHistoryReset c => some ([Fld.LPW_CH_STATUS_TRIPS c])
  | .lpwClear c => some ([Fld.LPW_CH_STATUS_REGULATING c, Fld.LPW_CH_STATUS_STATE c, Fld.LPW_CH_STATUS_TRIPS c])
  | .lpwGauntletCommit _ _ => some (fieldArr2 Fld.LPW_GNT_I_IK 8 8 ++ fieldArr2 Fld.LPW_GNT_T_TK 8 8)
  | .lpwSample c _ _ _ _ => some ([Fld.LPW_CH_E_HI c, Fld.LPW_CH_E_LO c, Fld.LPW_CH_IPEAK c, Fld.LPW_CH_STATUS_FOLDED c, Fld.LPW_CH_STATUS_INNER_LIVE c, Fld.LPW_CH_STATUS_OUTER_LIVE c, Fld.LPW_CH_STATUS_REGULATING c, Fld.LPW_CH_STATUS_REMAIN c, Fld.LPW_CH_TFET_MODELLED c, Fld.LPW_CH_TFET_TEMP c])
  | .ipeakClear c => some ([Fld.LPW_CH_IPEAK c])
  | .pwrEntryArm _ _ _ => none
  | .pwrWakeRequest _ _ => none
  | .pwrEntryDone _ => none
  | .pwrExitDone _ _ => none
  | .pwrScheduledWake _ => none
  | .pwrHwWake _ => none
  | .pwrWakeTimeout _ _ => none
  | .pwrWakeRetry _ _ _ => none
  | .pwrDomRetry _ _ => none
  | .pwrRefuseClear _ => none
  | .linkRamAuditDone => some []
  | .flipArm _ => some ([Fld.REL_FLIP_CTL_ARM, Fld.REL_FLIP_CTL_MEM])
  | .flipApply _ => some ([Fld.REL_FLIP_CTL_ARM])
  | .eccLogClear => none
  | .roSample _ _ _ => some ([Fld.REL_ASSIST_STAGED, Fld.REL_AVS_FORCE, Fld.REL_AVS_STAGED] ++ fieldArr Fld.REL_RO_DELTA 48 ++ fieldArr Fld.REL_RO_TEMP 48 ++ fieldArr Fld.REL_RO_VALID 48)
  | .eyeScanRoutine _ _ => some []
  | .eyeScanPoint _ _ _ => some ([Fld.CPL_GEN_LOW] ++ fieldArr Fld.REL_MARGIN_MH 16 ++ fieldArr Fld.REL_MARGIN_MV 16 ++ fieldArr Fld.REL_MARGIN_SHORT 16 ++ fieldArr Fld.REL_MARGIN_VALID 16)
  | .replanWaitExpiry => some []
  | .fetHistoryUpdate _ _ => some (fieldArr2 Fld.REL_FET_HIST 8 8)
  | .voltageDroop _ => some ([Fld.REL_AVS_STAGED])
  | .eyeScan _ _ => none
  | .bist _ _ => none
  | .rowRepair _ _ => none
  | .ageingSample _ _ => none
  | .fuseTest _ _ => none
  | .bistTestStart _ => none
  | .bistFenceTimeout _ => some []
  | .maintStop _ => some []
  | .maintDone _ _ => none
  | .aonStop => none
  | .lowSpeedLock _ => some []
  | .perstNRelease => some []
  | .upbVbusChange _ => some ([Fld.USB_STATUS_CONFIGURED, Fld.USB_STATUS_SESSION, Fld.USB_STATUS_SPEED, Fld.USB_STATUS_SUSPENDED, Fld.USB_STATUS_UP] ++ fieldArr Fld.USB_PORT_STATUS_ENABLED 5 ++ fieldArr Fld.USB_PORT_STATUS_SUSPENDED 5)
  | .hubPortReset _ _ => some ([Fld.USB_STATUS_CONFIGURED, Fld.USB_STATUS_SESSION, Fld.USB_STATUS_SPEED] ++ fieldArr Fld.USB_PORT_STATUS_BABBLE_CUT 5 ++ fieldArr Fld.USB_PORT_STATUS_ENABLED 5 ++ fieldArr Fld.USB_PORT_STATUS_SPEED 5 ++ fieldArr Fld.USB_PORT_STATUS_SUSPENDED 5)
  | .gadgetInTransfer _ => some []

end Sys2Proof.Machine
end

