-- ==== Sys2Proof/Safety.lean ====
section
/-! DEFINITION. The terms that claims use: a command that runs to a hub with a property, and the invariant of the hub's data. -/

namespace Sys2Proof.Machine

/-- Command `c` runs in `s`: it answers a next state, the queue of which is that of `s`, and the hub of which has `Q`. -/
def Runs (c : Instr) (s : State) (Q : Hub → Prop) : Prop :=
  ∃ h : Hub, exec c s = .next { s with hub := h } ∧ Q h

/-- Event `e` with these arguments is the newest record of the ring of `h'`, if the ring of `h` has an ordinary entry free: the
record carries the hub's address, the tick, and the arguments packed by their widths (R29, R237, R504). -/
def Posted (h h' : Hub) (e : EvDef) (args : List Nat) : Prop :=
  h.ev.used < 2048 → h'.ev.recs = h.ev.recs ++ [h.evRec e e.sev args]

/-- Counter `c` of `h'` is that of `h` after `n` more (R438). -/
def Counted (h h' : Hub) (c n : Nat) : Prop := h'.cnt c = (h.cnt c).add n

/-- The bridge takes a request of `who` for `n` words at byte `off` of window `w` into its queue, as far as its kind does not
matter: the domain runs, the window holds the words, no other initiator's locked sequence holds the chip select, and a place is
free (R316, R318, R324, R413). -/
structure Hub.BridgeOpen (s : Hub) (who : FbrInit) (w off n : Nat) : Prop where
  runs : s.domFailed dFBR = false
  good : s.fbrBad w off n = false
  free : s.lockedOut who w = false
  room : s.fbrFull = false

/-- The next command of `w` is `j` with opcode `op`, nothing of the same ring goes to its hub before it, and fewer than 512 requests to
other hubs are outstanding where it makes one (R226, R227, R242). -/
structure Hub.Takes (s : Hub) (w : Asker) (op : Nat) (j : Job) : Prop where
  next : s.jobFor w op = some j
  first : s.loadAhead w j.d.qt = false
  room : s.reqsFull j.d.qt = false

/-- No job of `w` at this index is left: its final completion was given (R228, R231). -/
def Hub.Ended (h : Hub) (w : Asker) (idx : Nat) : Prop := ∀ x ∈ h.jobsOf w, x.idx ≠ idx

/-- The allocation rule grants GENERAL queue `q` its next cell: it is below its maximum, and below its minimum with a cell free or with a
cell of the shared remainder left (R164). -/
structure Hub.MayGrant (s : Hub) (q : Nat) : Prop where
  below : (s.queue q).occ < s.qMax q
  cell : (s.queue q).occ < s.qMin q ∧ 1 ≤ s.genFree ∨ 1 ≤ s.genShared

/-- Line time is not stepped by the servo's next update (R182, R189): the hub is a head, or a node without a time path, or with one that it
follows ACQUIRING or LOCKED. -/
def Hub.Steady (s : Hub) : Prop :=
  s.isHead = true ∨ s.timePath = none ∨ s.timeState = tmAcquiring ∨ s.timeState = tmLocked

/-- A request of `w` for job `j` is outstanding (R242). -/
def Hub.Asked (h : Hub) (w : Asker) (j : Job) : Prop :=
  ∃ id q, h.req id = some q ∧ q.who = w ∧ q.idx = j.idx ∧ q.d = j.d ∧ q.hub = j.d.qt ∧ q.t0 = j.t0 ∧ q.dead = false

/-- The launch in SLOT `slot` of `h` is complete in `h'` with this status and execution time: its slot is free, and the completion is
the newest one held for queue 7 (R204). -/
def Completed (h h' : Hub) (slot status f : Nat) : Prop :=
  Tab.get? slot h'.time.launches = none ∧ ∃ l, Tab.get? slot h.time.launches = some l ∧
    h'.time.held = h.time.held ++
      [{ status := status, slot := slot, cookie := l.cookie, f := f, src := l.src, silent := bit l.flags 1 && status == 0 }]

/-- A statistics counter is within its 48 bits, and SAT is set only where it holds its largest value (R438). -/
def CntV.ok (c : CntV) : Bool := decide (c.v ≤ cntMax) && (!c.sat || decide (c.v = cntMax))

/-- The hub's data keeps its form: line memory is canonical, the tables of register fields and counters have rising keys, and
every counter is within its width (R156, R438). -/
structure Hub.WF (h : Hub) : Prop where
  mem : Memory.wf h.lineMem = true
  regs : Tab.wf h.regs = true
  cnts : Tab.wf h.cnts = true
  cntsOk : h.cnts.all (fun e => e.2.ok) = true

end Sys2Proof.Machine
end

