-- ==== Sys2Proof/Certificates/Slice0/Obligations.lean ====
section
/-! DEFINITION. The statements of this model for its provers. Each says for which states and operands a command runs to a next state and
what that state holds. What they leave unchanged is said for every command in CommandsLeaveOtherParts and
CommandsLeaveOtherFields, and where a conclusion gives the whole next hub. -/

open Sys2Proof Sys2Proof.Machine

/-- Storing, losing and taking packets (R158, R162, R163, R167 to R175, R420, R509): where a cell or a marker is granted it joins its queue as a complete
packet, the consumer takes the oldest one, and a flush or the deadline of a claim leaves nothing.
Model's choices: log entries 50, 51, 52. -/
def Obligations.QueuesStoreAndLosePackets : Prop :=
  (∀ (q : Fin 8192) (w : Who) (c : PCell) (s : State),
    20 ≤ q.val → s.hub.qEnabled q = true → (s.hub.queue q).prod = some w → (s.hub.queue q).isOpen = false → (s.hub.queue q).part = [] →
    (if s.hub.qControl q then (s.hub.queue q).full = false else (s.hub.queue q).gap.cause = 0) →
    c.f = true → c.l = true → c.gap = false → s.hub.MayGrant q →
    Runs (.cellProduce q w c) s (fun h => ∃ x : QCell, (h.queue q).pkts = (s.hub.queue q).pkts ++ [[x]] ∧
      x.lenm1 = c.data.length - 1 ∧ x.gap = false ∧ x.poison = c.poison ∧ x.colour = c.colour)) ∧
  (∀ (q : Fin 8192) (w : Who) (c : PCell) (s : State), s.hub.qEnabled q = false →
    Runs (.cellProduce q w c) s (fun h =>
      h.lineMem = s.hub.lineMem ∧ (∀ r : Nat, (h.queue r).cells = (s.hub.queue r).cells) ∧ h.cnt Cnt.CPL_CNT_DISABLED =
        if c.f = true ∨ (s.hub.queue q).skip = .none then (s.hub.cnt Cnt.CPL_CNT_DISABLED).add 1 else s.hub.cnt Cnt.CPL_CNT_DISABLED)) ∧
  (∀ (q : Fin 8192) (s : State), 8 ≤ q.val → s.hub.qEnabled q = true → s.hub.qControl q = false →
    (s.hub.queue q).gap.cause ≠ 0 → s.hub.MayGrant q →
    Runs (.gapMarkerWrite q) s (fun h => (h.queue q).gap = {} ∧ (h.queue q).part = (s.hub.queue q).part ∧
      Counted s.hub h Cnt.CPL_CNT_GAP_MARKERS 1 ∧
      ∃ x : QCell, x.gap = true ∧ (h.queue q).pkts = (s.hub.queue q).pkts ++ [[x]])) ∧
  (∀ (q : Fin 8192) (p : List QCell) (s : State), s.hub.headPkt q = some p → s.hub.linkBad p = false →
    Runs (.packetConsume q) s (fun h => (h.queue q).pkts = (s.hub.queue q).pkts.tail ∧ (h.queue q).full = false)) ∧
  (∀ (k : Claim) (s : State), s.hub.pool.claim = some k → k.deadline ≤ s.hub.tick →
    s.hub.pool.queues.any (fun e => e.2.cells.any (fun x => decide (k.lo ≤ x.idx) && decide (x.idx < k.hi))) = true →
    Runs .carveClaimDeadline s (fun h => h.pool.claim = none ∧
      ∀ q : Nat, (h.queue q).cells.any (fun x => decide (k.lo ≤ x.idx) && decide (x.idx < k.hi)) = false)) ∧
  (∀ (v : Word) (s : State), let q := s.hub.getf Fld.CPL_QSEL_QUEUE
    bit v.toNat 0 = true → 8 ≤ q →
    Runs (.queueFlush v) s (fun h => (h.queue q).pkts = [] ∧ (h.queue q).part = [] ∧ (h.queue q).full = false ∧
      (h.queue q).gap = {}))

/-- Configuring queues, profiles and read ports (R166, R173, R178 to R180).
Model's choices: log entry 13. -/
def Obligations.PoolRegistersConfigureQueuesAndReadPorts : Prop :=
  (∀ (q : Fin 8192) (v : Word) (s : State), 20 ≤ q.val → s.hub.qEnabled q = false → bit v.toNat 31 = true →
    poolCondition s.hub.pool.carve s.hub.pendCarve (s.hub.minSum + s.hub.profMin (bits v.toNat 23 16)) = true →
    Runs (.queueEnable q v) s (fun h => h.qEnabled q = true ∧ h.getf (Fld.CPL_QCFG_KIND q) = bits v.toNat 30 30 ∧
      h.getf (Fld.CPL_QCFG_PROFILE q) = bits v.toNat 23 16)) ∧
  (∀ (q : Fin 8192) (v : Word) (s : State), 20 ≤ q.val → s.hub.qEnabled q = true → bit v.toNat 31 = false →
    Runs (.queueDisable q v) s (fun h => h.qEnabled q = false ∧ (h.queue q).pkts = [] ∧ (h.queue q).part = [])) ∧
  (∀ (i : Fin 256) (v : Word) (s : State), Runs (.quotaProfileMinWrite i v) s (fun h =>
    h = { s.hub with pool := { s.hub.pool with heldMin := Tab.put i (bits v.toNat 17 0) s.hub.pool.heldMin } })) ∧
  (∀ (i : Fin 256) (v : Word) (s : State), let mn := Tab.getD s.hub.pool.heldMin i (s.hub.profMin i)
    mn ≤ bits v.toNat 17 0 → 1 ≤ bits v.toNat 17 0 → bits v.toNat 17 0 ≤ 258048 →
    poolCondition s.hub.pool.carve s.hub.pendCarve (s.hub.minSumWith i mn) = true →
    Runs (.quotaProfileCommit i v) s (fun h => h.getf (Fld.CPL_QPROF_MIN_MIN i) = mn ∧
      h.getf (Fld.CPL_QPROF_MAX_MAX i) = bits v.toNat 17 0 ∧ Tab.get? i.val h.pool.heldMin = none)) ∧
  (∀ (v : Word) (s : State), Runs (.poolLowReload v) s (fun h =>
    h = if bit v.toNat 0 then s.hub.setf Fld.CPL_GEN_LOW s.hub.genFree else s.hub)) ∧
  (∀ (p : Fin 16) (v : Word) (s : State), let q := bits v.toNat 12 0
    ((s.hub.portRelease p).setf (Fld.CPL_QRP_SEL_QUEUE p) q).portRefused q = false →
    Runs (.readPortBind p v) s (fun h => h.getf (Fld.CPL_QRP_SEL_BAD p) = 0 ∧ h.getf (Fld.CPL_QRP_SEL_BOUND p) = 1 ∧
      h.getf (Fld.CPL_QRP_SEL_QUEUE p) = q ∧ (h.queue q).cons = some (.port p) ∧ (h.readPort p).queue = some q)) ∧
  (∀ (p : Fin 16) (s : State), (s.hub.readPort p).queue = none →
    Runs (.readPortDataRead p true) s (fun h => h = s.hub.emit (.readData (qrpDataOff p) emptyWord))) ∧
  (∀ (p : Fin 16) (w : Bool) (s : State), ∃ x : Nat,
    Runs (.readPortDataRead p w) s (fun h => h.out.head? = some (.readData (qrpDataOff p) x))) ∧
  (∀ (p : Fin 16) (s : State), Runs (.readPortDataHighRead p) s (fun h => (h.readPort p).high = none ∧
    h.out.head? = some (.readData (qrpDataOff p + 4) ((s.hub.readPort p).high.getD 0x7FFFFFFF))))

/-- How a power channel comes on and goes off in order: qualification, ramp, ON, blocking, cooldown (no maintenance activity runs); and its
samples, gauntlet and peak register (R376, R380, R384, R385, R389, R392 to R396, R398).
Model's choices: log entries 128, 184. -/
def Obligations.PowerChannelStateChanges : Prop :=
  (∀ (c : Fin 8) (v : Word) (s : State), s.hub.rel.acts = [] →
    Runs (.lpwChannelEn c v) s (fun h => h.flag (Fld.LPW_CH_CFG_EN c) = bit v.toNat 31 ∧
      (s.hub.chActive c = true → bit v.toNat 31 = false → h.chState c = chOff) ∧
      (s.hub.chState c = chOff → bit v.toNat 31 = true → s.hub.chCond c = true → h.chState c = chQualify))) ∧
  (∀ (c : Fin 8) (s : State), s.hub.rel.acts = [] → s.hub.chState c = chQualify → s.hub.qualified c = true →
    Runs (.lpwQualifyDone c) s (fun h => h.chState c = chRamp ∧ Counted s.hub h (Cnt.LPW_CNT_INSERT c) 1)) ∧
  (∀ (c : Fin 8) (s : State), s.hub.rel.acts = [] → s.hub.chState c = chRamp → s.hub.srcV c - s.hub.farV c ≤ 2000 →
    Runs (.lpwRampDone c) s (fun h => h.chState c = chOn ∧
      Posted s.hub h Evt.LPW_ON [c, (s.hub.cnt (Cnt.LPW_CNT_INSERT c)).v])) ∧
  (∀ (c : Fin 8) (i : Int) (s : State), s.hub.rel.acts = [] → s.hub.chState c = chOn →
    ((s.hub.chMode c = mdFeed ∧ i < -s.hub.chIrev c) ∨ (s.hub.chMode c = mdTake ∧ s.hub.chIrev c < i)) →
    Runs (.reverseCurrent c i) s (fun h => h.chState c = chBlocked ∧ Counted s.hub h (Cnt.LPW_CNT_REVERSE c) 1)) ∧
  (∀ (c : Fin 8) (s : State), s.hub.rel.acts = [] → s.hub.chState c = chBlocked → 1000 ≤ (s.hub.chan c).fwdT →
    Runs (.forwardReclose c) s (fun h => h.chState c = chOn)) ∧
  (∀ (c : Fin 8) (s : State), s.hub.rel.acts = [] → (s.hub.chState c = chOn ∨ s.hub.chState c = chBlocked) →
    (s.hub.chMode c = mdFeed ∨ s.hub.chMode c = mdPass) → 1000 ≤ (s.hub.chan c).deadT →
    Runs (.bothSidesDead c) s (fun h => h.chState c = chQualify ∧ Posted s.hub h Evt.LPW_OFF [c, 2])) ∧
  (∀ (c : Fin 8) (s : State), s.hub.rel.acts = [] → s.hub.chState c = chCooldown → (s.hub.chan c).coolLeft = 0 →
    Runs (.cooldownEnd c) s (fun h => h.chState c =
      if s.hub.flag (Fld.LPW_CH_CFG_EN c) && s.hub.chCond c then chQualify else chOff)) ∧
  (∀ (c : Fin 8) (s : State), ((s.hub.chState c = chOn ∧ 60000000 ≤ (s.hub.chan c).onT) ∨
      (c.val < 7 ∧ s.hub.getf (Fld.LPW_CH_RAMP_TDETACH c) * 10000 ≤ (s.hub.chan c).awayT)) →
    Runs (.tripHistoryReset c) s (fun h => h = s.hub.setf (Fld.LPW_CH_STATUS_TRIPS c) 0)) ∧
  (∀ (c : Fin 8) (s : State), s.hub.rel.acts = [] → Runs (.lpwClear c) s (fun h =>
    h.getf (Fld.LPW_CH_STATUS_TRIPS c) = 0 ∧ h.chState c ≠ chLatched)) ∧
  (∀ (c : Fin 8) (i vi vo ntc : Int) (s : State), Runs (.lpwSample c i vi vo ntc) s (fun h =>
    (h.chan c).i = i ∧ (h.chan c).vi = vi ∧ (h.chan c).vo = vo ∧ (h.chan c).samples = (s.hub.chan c).samples + 1 ∧
    (h.chan c).sumI = (s.hub.chan c).sumI + i ∧ (h.chan c).sumVi = (s.hub.chan c).sumVi + vi ∧
    (h.chan c).sumVo = (s.hub.chan c).sumVo + vo)) ∧
  (∀ (c : Fin 8) (v : Word) (s : State), gntOrder ((List.range 8).filterMap (fun k =>
      let i := if k = 0 then bits v.toNat 15 0 else s.hub.gntHeld c k 0 % 2 ^ 16
      if i = 0 then none else some (i, s.hub.gntHeld c k 1))) = true →
    Runs (.lpwGauntletCommit c v) s (fun h => (h.chan c).heldGnt = [] ∧ h.getf (Fld.LPW_GNT_I_IK c 0) = bits v.toNat 15 0 ∧
      ∀ k : Fin 8, k.val ≠ 0 → h.getf (Fld.LPW_GNT_I_IK c k) = s.hub.gntHeld c k 0 % 2 ^ 16)) ∧
  (∀ (c : Fin 8) (s : State), Runs (.ipeakClear c) s (fun h => h = s.hub.setf (Fld.LPW_CH_IPEAK c) 0))

/-- A trip of a channel that carries no attached drop port: FAULT, the trip count, the state it leaves in, and its counter (R386, R388 to R391, R393,
R394). No maintenance activity runs. -/
def Obligations.PowerChannelTrips : Prop :=
  let tripped (c fault : Nat) (s : State) (h : Hub) : Prop :=
    h.getf (Fld.LPW_CH_STATUS_FAULT c) = fault ∧
    h.getf (Fld.LPW_CH_STATUS_TRIPS c) = min 15 (s.hub.getf (Fld.LPW_CH_STATUS_TRIPS c) + 1) ∧
    h.chState c = (if s.hub.flag (Fld.LPW_CH_CFG_LATCH c) then chLatched else chCooldown) ∧
    h.getf (Fld.LPW_CH_STATUS_REGULATING c) = 0 ∧ Counted s.hub h (Cnt.LPW_CNT_TRIP c) 1
  ∀ (c : Fin 8) (s : State), s.hub.rel.acts = [] → (dropChan c = true → s.hub.tcState (c - 2) ≠ tcAttached) →
  (s.hub.chState c = chRamp → (s.hub.getf (Fld.LPW_CH_TINS_TSTART c) * 100 ≤ (s.hub.chan c).startT ∨ 200000 ≤ (s.hub.chan c).rampT) →
    Runs (.startTimeout c) s (tripped c ftStart s)) ∧
  (∀ t : Nat, (s.hub.chan c).limT = some t → 1000 ≤ t → s.hub.chState c = chRamp →
    s.hub.flag (Fld.LPW_CH_STATUS_REGULATING c) = true → (s.hub.farV c - (s.hub.chan c).farAtLim) * 10 < s.hub.srcV c → Runs (.shortAtStart c) s (tripped c ftShort s)) ∧
  (s.hub.chState c = chOn → s.hub.getf (Fld.LPW_CH_TFLT_TFLT c) * 10 ≤ (s.hub.chan c).faultT →
    Runs (.currentLimit c) s (tripped c ftCurrent s)) ∧
  (∀ k : Fin 8, s.hub.chState c = chOn → (s.hub.gntPoint c k).1 ≠ 0 → (s.hub.gntPoint c k).2 ≤ (s.hub.chan c).gntT.getD k 0 →
    Runs (.gauntlet c) s (tripped c ftGauntlet s)) ∧
  (∀ i : Int, (s.hub.chState c = chRamp ∨ s.hub.chState c = chOn) → 2 * s.hub.chIlim c ≤ i.natAbs →
    Runs (.fastTrip c i) s (tripped c ftFast s)) ∧
  (s.hub.chState c = chOn → ((s.hub.getf (Fld.LPW_CH_FET1_TMAX c) * 10 : Nat) : Int) ≤ s.hub.fetTemp c →
    Runs (.overtemp c) s (tripped c ftOverTemp s)) ∧
  (s.hub.chState c = chOn → 10 ≤ (s.hub.chan c).ovT → Runs (.ov c) s (tripped c ftOv s))

/-- Attach, detach and VBUS of a drop port (R345, R347, R349 to R351, R373). No maintenance activity runs, where the port's power channel may change state.
Model's choices: log entries 117, 118, 119, 120, 123, 181. -/
def Obligations.DropPortAttachAndVbus : Prop :=
  (∀ (n : Fin 4) (v : Word) (s : State), s.hub.rel.acts = [] →
    Runs (.tcpPortEnable n v) s (fun h => h.flag (Fld.TCP_PORT_CFG_EN n) = bit v.toNat 31 ∧
      h.flag (Fld.TCP_PORT_CFG_DP_EN n) = (bit v.toNat 30 && decide (n.val < 2)) ∧
      h.getf (Fld.TCP_PORT_CFG_PRIO n) = bits v.toNat 29 28 ∧
      (s.hub.flag (Fld.TCP_PORT_CFG_EN n) = true → bit v.toNat 31 = false → h.tcState n = tcDisabled))) ∧
  (∀ (n : Fin 4) (a b : Cc) (s : State), Runs (.ccChange n a b) s (fun h => (h.drop n).cc1 = a ∧ (h.drop n).cc2 = b ∧
    (s.hub.tcState n = tcUnattached → oneRd a b = true → h.tcState n = tcWait))) ∧
  (∀ (n : Fin 4) (s : State), s.hub.rel.acts = [] → s.hub.tcState n = tcWait → s.hub.ranFor (s.hub.drop n).at'.cc 150000000 = true →
    (s.hub.chan (n + 2)).vo < 800 →
    Runs (.tcpCcDebounce n) s (fun h => h.tcState n = tcAttached ∧
      h.flag (Fld.TCP_PORT_STATUS_FLIPPED n) = ((s.hub.drop n).cc2 == .rd))) ∧
  (∀ (n : Fin 4) (s : State), s.hub.rel.acts = [] → s.hub.tcState n = tcAttached → (s.hub.drop n).absent = true →
    s.hub.ranFor (s.hub.drop n).at'.absent 15000000 = true → Runs (.tcpDetachDebounce n) s (fun h => h.tcState n ≠ tcAttached ∧ (h.drop n).vbusReq = false ∧ h.vconnSrc n = false)) ∧
  (∀ (n : Fin 4) (s : State), s.hub.tcState n = tcRecovery → s.hub.ranFor (s.hub.drop n).at'.cc 25000000 = true →
    Runs (.tcpErrorRecoveryEnd n) s (fun h => (h.drop n).rp = 1 ∧
    h.tcState n = if oneRd (s.hub.drop n).cc1 (s.hub.drop n).cc2 then tcWait else tcUnattached)) ∧
  (∀ (n : Fin 4) (s : State), s.hub.rel.acts = [] → s.hub.tcState n = tcAttached → (s.hub.drop n).vbusReq = false →
    (s.hub.drop n).inReset = false → s.hub.vbusFits n = true →
    Runs (.vbusEnable n) s (fun h => (h.drop n).vbusReq = true ∧ h.flag (Fld.TCP_PORT_STATUS_VBUS_ON n) = true ∧
      h.pdState n = pdImplicit ∧ h.flag (Fld.TCP_PORT_STATUS_NO_BUDGET n) = false)) ∧
  (∀ (n : Fin 4) (s : State), s.hub.tcState n = tcAttached → (s.hub.drop n).vbusReq = false → (s.hub.drop n).inReset = false →
    s.hub.flag (Fld.TCP_PORT_STATUS_NO_BUDGET n) = false → s.hub.ranFor (s.hub.drop n).at'.att 275000001 = true →
    Runs (.tcpNoBudget n) s (fun h => h.flag (Fld.TCP_PORT_STATUS_NO_BUDGET n) = true ∧ h.tcp = s.hub.tcp ∧
      Posted s.hub h Evt.TCP_NO_BUDGET [n, s.hub.getf (Fld.TCP_PORT_GRANT_GRANT n), s.hub.getf Fld.TCP_BUDGET_B])) ∧
  (∀ (n : Fin 4) (ok : Bool) (s : State), s.hub.pdRuns n = true → (s.hub.drop n).disc = none → (s.hub.drop n).capsAcked = false →
    (s.hub.drop n).capsTries < 50 → 4750 ≤ (s.hub.chan (n + 2)).vo →
    ((s.hub.drop n).capsTries = 0 ∨ s.hub.ranFor (s.hub.drop n).at'.caps 150000000 = true) →
    Runs (.sourceCapabilitiesSend n ok) s (fun h => (h.drop n).capsAcked = ok ∧
      (h.drop n).capsTries = (s.hub.drop n).capsTries + 1 ∧ (h.drop n).caps = s.hub.pdos n ∧
      ∃ fl, h.out = .pd n (.sourceCaps (s.hub.pdos n) fl) :: s.hub.out)) ∧
  (∀ (n : Fin 4) (ok : Bool) (s : State), s.hub.pdRuns n = true → (s.hub.drop n).disc = none → (s.hub.drop n).capsAcked = true →
    4750 ≤ (s.hub.chan (n + 2)).vo → s.hub.reofferDue n = true →
    Runs (.sourceCapabilitiesSend n ok) s (fun h => (h.drop n).capsAcked = ok ∧ (h.drop n).capsTries = 1 ∧
      (h.drop n).caps = s.hub.pdos n ∧ ∃ fl, h.out = .pd n (.sourceCaps (s.hub.pdos n) fl) :: s.hub.out))

/-- Power delivery on a drop port (requests, transitions, messages and resets; no maintenance activity runs, where the port's power channel may
change state), VCONN swaps and DisplayPort Alt Mode (R347, R350, R352 to R360, R373).
Model's choices: log entries 118, 121, 122, 162. -/
def Obligations.DropPortPowerDeliveryAndAltMode : Prop :=
  (∀ (n : Fin 4) (pos : Fin 8) (op : Fin 1024) (rev2 : Bool) (mv max : Nat) (s : State), s.hub.pdRuns n = true → pos.val ≠ 0 →
    (s.hub.drop n).caps[pos.val - 1]? = some (mv, max) →
    Runs (.pdRequest n pos op false rev2) s (fun h =>
      if max < op.val then h.out = .pd n .reject :: s.hub.out ∧ (h.drop n).moving = (s.hub.drop n).moving
      else h.out = .pd n .accept :: s.hub.out ∧ (h.drop n).moving = some (mv, op.val, max))) ∧
  (∀ (n : Fin 4) (mv op max : Nat) (s : State), (s.hub.drop n).moving = some (mv, op, max) → (s.hub.drop n).started = false →
    s.hub.ranFor (s.hub.drop n).at'.move 30000000 = true → Runs (.pdTransitionStart n) s (fun h => (h.drop n).started = true ∧ (h.chan (n + 2)).setpoint = mv ∧
      (h.chan (n + 2)).oldSetpoint = (s.hub.chan (n + 2)).setpoint ∧ h.regs = s.hub.regs)) ∧
  (∀ (n : Fin 4) (mv op max : Nat) (s : State), s.hub.rel.acts = [] → (s.hub.drop n).moving = some (mv, op, max) →
    (s.hub.drop n).started = true → s.hub.up ≤ (s.hub.drop n).at'.move + 275000000 → (((s.hub.chan (n + 2)).vo - mv) * 20).natAbs ≤ mv →
    Runs (.pdVbusReached n) s (fun h => (h.drop n).moving = none ∧ Out.pd n .psRdy ∈ h.out)) ∧
  (∀ (n : Fin 4) (s : State), s.hub.rel.acts = [] → s.hub.tcState n = tcAttached → (s.hub.drop n).moving.isSome = true →
    s.hub.ranFor (s.hub.drop n).at'.move 275000000 = true → Runs (.pdTransitionTimeout n) s (fun h => (h.drop n).inReset = true ∧ Out.pd n .hardReset ∈ h.out)) ∧
  (∀ (n : Fin 4) (s : State), s.hub.rel.acts = [] → s.hub.tcState n = tcAttached → (s.hub.drop n).reoffer = true →
    s.hub.ranFor (s.hub.drop n).at'.offer 200000000 = true → (s.hub.drop n).grant < s.hub.heldPower n → Runs (.pdReofferTimeout n) s (fun h => (h.drop n).inReset = true)) ∧
  (∀ (n : Fin 4) (s : State), s.hub.pdRuns n = true →
    Runs (.pdGetSourceCap n) s (fun h => h = s.hub.sendCaps n) ∧ Runs (.recaps n) s (fun h => h = s.hub.sendCaps n) ∧
    Runs (.pdUnsupportedMessage n true) s (fun h => h = s.hub.emit (.pd n .nak)) ∧
    Runs (.pdUnsupportedMessage n false) s (fun h =>
      h = s.hub.emit (.pd n (if (s.hub.drop n).rev2 then .reject else .notSupported))) ∧
    Runs (.pdSoftReset n) s (fun h => ∃ ps fl, h.out = .pd n (.sourceCaps ps fl) :: .pd n .accept :: s.hub.out) ∧
    Runs (.pdMessageFail n) s (fun h => h.out = .pd n .softReset :: s.hub.out ∧ (h.drop n).capsAcked = false ∧
      (h.drop n).capsTries = 0 ∧ Counted s.hub h (Cnt.TCP_CNT_MSG_FAIL n) 1)) ∧
  (∀ (n : Fin 4) (sent : Bool) (s : State), s.hub.rel.acts = [] → s.hub.tcState n = tcAttached →
    Runs (.hardReset n sent) s (fun h => (h.drop n).inReset = true ∧ (h.drop n).vbusReq = false ∧ h.vconnSrc n = false ∧
      (h.drop n).resets = (s.hub.drop n).resets + 1 ∧ Counted s.hub h (Cnt.TCP_CNT_HARD_RESET n) 1)) ∧
  (∀ (n : Fin 4) (s : State), s.hub.rel.acts = [] → s.hub.tcState n = tcAttached → (s.hub.drop n).inReset = true →
    s.hub.ranFor (s.hub.drop n).at'.move 660000000 = true → Runs (.hardResetEnd n) s (fun h => (h.drop n).inReset = false ∧ (h.drop n).pdOff = decide (3 ≤ (s.hub.drop n).resets))) ∧
  (∀ (n : Fin 4) (s : State), s.hub.pdRuns n = true → s.hub.flag (Fld.TCP_PORT_STATUS_RA n) = true → s.hub.vconnSrc n = false →
    (s.hub.drop n).swap = none → (s.hub.drop n).swapWant = false →
    Runs (.vconnTake n) s (fun h => if s.hub.pdState n = pdExplicit3 then (h.drop n).swapWait = true ∧ (h.drop n).rp = 1
      else (h.drop n).swap = some (1, 1) ∧ h.out = .pd n .vconnSwap :: s.hub.out)) ∧
  (∀ (n : Fin 4) (s : State), s.hub.pdRuns n = true → (s.hub.drop n).swap = none → (s.hub.drop n).disc = none →
    s.hub.vconnSrc n = true →
    Runs (.vconnSwapReceive n) s (fun h => (h.drop n).swap = some (0, 3) ∧ h.out = .pd n .accept :: s.hub.out)) ∧
  (∀ (n : Fin 4) (s : State), (s.hub.drop n).swap = none → (s.hub.drop n).swapWait = true →
    s.hub.ranFor (s.hub.drop n).at'.swap 16000000 = true → Runs (.sinktxngWaitEnd n false 5) s (fun h => (h.drop n).swap = none ∧ h.vconnSrc n = true)) ∧
  (∀ (n : Fin 4) (k : Nat) (s : State), (s.hub.drop n).swap = some (0, k) →
    Runs (.pdPsRdy n) s (fun h => (h.drop n).swap = none ∧ h.vconnSrc n = false)) ∧
  (∀ (n : Fin 4) (k : Nat) (s : State), s.hub.rel.acts = [] → s.hub.tcState n = tcAttached → (s.hub.drop n).swap = some (0, k) →
    s.hub.ranFor (s.hub.drop n).at'.swap 100000000 = true → Runs (.vconnSwapTimeout n) s (fun h => (h.drop n).inReset = true)) ∧
  (∀ (n : Fin 4) (s : State), s.hub.dpAllowed n = true → s.hub.dpState n ≤ dpEntered → (s.hub.drop n).dpSent = false →
    Runs (.dpAltModeEntry n) s (fun h => (h.drop n).dpSent = true ∧
      h.out = .pd n (.vdm (if s.hub.dpState n = dpOff then 1 else (s.hub.drop n).dpStep)) :: s.hub.out)) ∧
  (∀ (n : Fin 4) (s : State), (s.hub.drop n).disc = none → (s.hub.drop n).dpSent = true →
    Runs (.pdVdmResponse n .nak) s (fun h => h.dpState n = dpFailed ∧ (h.drop n).mux = 0)) ∧
  (∀ (n : Fin 4) (a b : Bool) (s : State), s.hub.rel.acts = [] → (s.hub.drop n).disc.isSome = true →
    Runs (.pdVdmResponse n (.cable a b)) s (fun h => (h.drop n).disc = none ∧ h.flag (Fld.TCP_PORT_STATUS_CABLE_5A n) = a ∧
      h.flag (Fld.TCP_PORT_STATUS_CABLE_SS n) = b)) ∧
  (∀ (n : Fin 4) (k : Nat) (s : State), (s.hub.drop n).disc = some k → k + 1 < 20 → s.hub.ranFor (s.hub.drop n).at'.vdm 30000000 = true →
    Runs (.vdmResponseTimeout n) s (fun h => (h.drop n).disc = some (k + 1) ∧ h.out = .pd n (.vdm 0) :: s.hub.out)) ∧
  (∀ (n : Fin 4) (s : State), s.hub.dpState n = dpEntering ∨ s.hub.dpState n = dpEntered ∨ s.hub.dpState n = dpConfigured →
    Runs (.dpExit n) s (fun h => h.dpState n = dpOff ∧ (h.drop n).mux = 0 ∧ h.flag (Fld.TCP_PORT_STATUS_HPD n) = false)) ∧
  (∀ (n : Fin 4) (hpd irq : Bool) (s : State), s.hub.dpState n = dpConfigured →
    Runs (.pdAttention n hpd irq) s (fun h => h.flag (Fld.TCP_PORT_STATUS_HPD n) = hpd ∧
      h.out = if irq && hpd then .irqHpd n :: s.hub.out else s.hub.out))

/-- The upstream face and the internal USB hub (R346, R361 to R364).
Model's choices: log entries 124, 183. -/
def Obligations.UsbHubFollowsItsBus : Prop :=
  (∀ (mv : Nat) (a b : Bool) (s : State), Runs (.portSAttachChange mv a b) s (fun h =>
    (mv < 3670 → h.flag Fld.TCP_S_STATUS_ATTACHED = false ∧ h.flag Fld.TCP_S_STATUS_VBUS = false) ∧
    (4000 < mv → (a != b) = true → h.flag Fld.TCP_S_STATUS_ATTACHED = true ∧ h.flag Fld.TCP_S_STATUS_VBUS = true ∧
      h.flag Fld.TCP_S_STATUS_FLIPPED = b))) ∧
  (∀ (on : Bool) (s : State), s.hub.flag Fld.GEN_STRAPS_UPB_SEL = true → s.hub.getf (Fld.PWR_DOM_STATUS_STEP 11) = 0 →
    Runs (.upbVbusChange on) s (fun h => h.tcp.upb = on ∧ h.getf Fld.USB_STATUS_UP = if on then 2 else 0)) ∧
  (∀ (f : Fin 2048) (t : Nat) (s : State), s.hub.getf Fld.USB_STATUS_UP ≠ 0 → s.hub.tcp.sofAt = none → t < 2 ^ 64 →
    Runs (.usbSofReceive f t true) s (fun h => h.getf Fld.USB_STATUS_FRAME = f ∧
      h.getf Fld.USB_SOF_LO + 2 ^ 32 * h.getf Fld.USB_SOF_HI = t ∧ h.tcp.sofAt = some (t + 1000000))) ∧
  (∀ s : State, s.hub.getf Fld.USB_STATUS_UP ≠ 0 → s.hub.flag Fld.USB_STATUS_SUSPENDED = false →
    s.hub.ranFor s.hub.tcp.busAt 3000000 = true → Runs .usbSuspend s (fun h => h.flag Fld.USB_STATUS_SUSPENDED = true ∧
    ∀ k : Fin 5, s.hub.flag (Fld.USB_PORT_STATUS_ENABLED k) = true → h.flag (Fld.USB_PORT_STATUS_SUSPENDED k) = true)) ∧
  (∀ (k : Fin 5) (f : Fin 2048) (s : State), s.hub.flag (Fld.USB_PORT_STATUS_ENABLED k) = true →
    s.hub.getf Fld.USB_STATUS_FRAME = f → Runs (.usbBabble k f) s (fun h => h.flag (Fld.USB_PORT_STATUS_ENABLED k) = false ∧
      h.flag (Fld.USB_PORT_STATUS_BABBLE_CUT k) = true ∧ Counted s.hub h Cnt.USB_CNT_BABBLE 1 ∧
      Posted s.hub h Evt.USB_BABBLE [k + 1, f])) ∧
  (∀ (k : Fin 5) (v : Fin 3) (s : State), s.hub.getf Fld.USB_STATUS_UP ≠ 0 → Runs (.hubPortReset k v) s (fun h =>
    (k.val ≠ 4 → s.hub.getf Fld.USB_STATUS_SPEED = 2 → s.hub.flag (Fld.TCP_PORT_CFG_USB_EN k) = true →
      s.hub.tcState k = tcAttached → h.getf (Fld.USB_PORT_STATUS_SPEED k) = v) ∧
    h.flag (Fld.USB_PORT_STATUS_BABBLE_CUT k) = false ∧ h.flag (Fld.USB_PORT_STATUS_SUSPENDED k) = false ∧
    h.flag (Fld.USB_PORT_STATUS_ENABLED k) = (if k.val = 4 then s.hub.gadgetOn
      else s.hub.flag (Fld.TCP_PORT_CFG_USB_EN k) && s.hub.tcState k == tcAttached))) ∧
  (∀ (w : List (Fin 5)) (s : State), s.hub.flag Fld.USB_STATUS_SUSPENDED = true →
    Runs (.usbResume w) s (fun h => h.flag Fld.USB_STATUS_SUSPENDED = false ∧
      ∀ k : Fin 5, s.hub.flag (Fld.USB_PORT_STATUS_ENABLED k) = true → h.flag (Fld.USB_PORT_STATUS_SUSPENDED k) = false)) ∧
  (∀ (k : Fin 5) (v : Fin 3) (s : State), s.hub.getf Fld.USB_STATUS_UP = 0 →
    Runs (.hubPortReset k v) s (fun h => h = s.hub) ∧ Runs .usbSuspend s (fun h => h = s.hub))

/-- The line gadget (R364 to R370): its transfers and handshakes, the halt feature, its session, resets and lockout.
Model's choices: log entries 10, 125, 126, 127, 182, 183. -/
def Obligations.LineGadgetTransfersAndSession : Prop :=
  (∀ s : State, s.hub.gadgetOn = true → s.hub.flag Fld.USB_STATUS_SUSPENDED = true → s.hub.tcp.gadget.driving = false →
    s.hub.tcp.gadget.merged = false → s.hub.hif.gdone ≠ [] →
    Runs (.gadgetRemoteWake true) s (fun h => h.tcp.gadget.driving = true ∧ h.out = .usbResume 5 :: s.hub.out)) ∧
  (∀ (c : Bool) (r : Fin 256) (g : Fin 3) (s : State), Runs (.usbBusReset c r g) s (fun h => h.hif.gdone = [] ∧
    h.tcp.gadget.events = [] ∧ h.tcp.gadget.keyId = 0 ∧ h.unlocked = false ∧ h.flag Fld.USB_STATUS_CONFIGURED = false ∧
    h.tcp.gadget.bufs = [] ∧ h.tcp.gadget.halts = [])) ∧
  (∀ (b : List Byte) (s : State), s.hub.gadgetLive = true → s.hub.halted 1 = false → s.hub.gadgetRoom = true →
    s.hub.tcp.gadget.bufs = [] → 32 ≤ b.length → b.length = gadgetLen b →
    Runs (.gadgetCommand (.out b)) s (fun h => h.out = .handshake 1 .ack :: s.hub.out ∧ h.hif.gcount = s.hub.hif.gcount + 1 ∧ h.flag Fld.USB_STATUS_CONFIGURED = true ∧
      ∃ j : Job, h.hif.gjobs = s.hub.hif.gjobs ++ [j] ∧ j.d = readDesc b ∧ j.data = b.drop 32)) ∧
  (∀ (b : List Byte) (s : State), s.hub.gadgetLive = true → s.hub.gadgetRoom = true → 32 ≤ b.length → b.length ≤ 256 →
    gadgetLen b ≤ b.length → Runs (.execCmd b) s (fun h => h = s.hub.gadgetTake (b.take (gadgetLen b)))) ∧
  (∀ (b : List Byte) (s : State), s.hub.gadgetLive = true → s.hub.halted 3 = false → b.length = 8 →
    Runs (.gadgetFilterSet (.out b)) s (fun h => h.out = .handshake 3 .ack :: s.hub.out ∧
    h.tcp.gadget.minSev = byteAt b 0 ∧ h.tcp.gadget.remote = bit (byteAt b 1) 1 ∧ h.tcp.gadget.localRecs = bit (byteAt b 1) 0 ∧
    h.tcp.gadget.blocks = leAt b 2 2)) ∧
  (∀ (c : List Byte) (t : List (List Byte)) (s : State), s.hub.gadgetLive = true → s.hub.halted 2 = false → s.hub.hif.gdone = c :: t →
    Runs (.gadgetInTransfer 2) s (fun h => h.hif.gdone = t ∧ h.out = .gadgetIn 2 c :: s.hub.out)) ∧
  (∀ s : State, s.hub.gadgetLive = true → ∃ b : List Byte, b.length = 16 ∧
    Runs .getInfo s (fun h => h = s.hub.emit (.gadgetIn 0 b))) ∧
  (∀ s : State, s.hub.gadgetLive = true → s.hub.tcp.gadget.lockout = false → Runs .getChallenge s (fun h =>
    ∃ b : List Byte, b.length = 16 ∧ h.tcp.gadget.challenge = some (b, s.hub.up) ∧ h.out = .gadgetIn 0 b :: s.hub.out ∧
      h.fresh = s.hub.fresh + 1)) ∧
  (∀ (b : List Byte) (s : State), s.hub.gadgetLive = true → b.length = 20 → Runs (.setProof b) s (fun h =>
    h.tcp.gadget.challenge = none ∧
    match s.hub.tcp.gadget.challenge, s.hub.serviceKey (byteAt b 0) with
    | some (c, t), some k =>
      if s.hub.up ≤ t + 10000000000 ∧ (aesCmac k (c ++ beBytes 8 (s.hub.getf Fld.GEN_HUB_ID_HI_ID_HI * 2 ^ 32 +
          s.hub.getf Fld.GEN_HUB_ID_LO_ID_LO) ++ zeros 8)).take 16 = b.drop 4
      then h.unlocked = true ∧ h.tcp.gadget.keyId = byteAt b 0 ∧ h.tcp.gadget.fails = 0
      else h.tcp.gadget.fails = s.hub.tcp.gadget.fails + 1 ∧ h.out = .stall :: s.hub.out
    | _, _ => h.tcp.gadget.fails = s.hub.tcp.gadget.fails + 1 ∧ h.out = .stall :: s.hub.out ∧
        Counted s.hub h Cnt.USB_CNT_SESSION_FAIL 1)) ∧
  (∀ s : State, s.hub.gadgetLive = true → Runs .lock s (fun h => h.unlocked = false ∧ h.tcp.gadget.keyId = 0)) ∧
  (∀ s : State, s.hub.unlocked = true → s.hub.ranFor s.hub.tcp.gadget.cmdAt (s.hub.getf Fld.USB_CFG_IDLE * 1000000000) = true →
    Runs .gadgetSessionIdle s (fun h => h.unlocked = false ∧ h.tcp.gadget.keyId = 0)) ∧
  (∀ s : State, s.hub.tcp.gadget.lockout = true → s.hub.ranFor s.hub.tcp.gadget.lockAt 60000000000 = true → Runs .gadgetLockoutEnd s (fun h => h.tcp.gadget.lockout = false ∧
    h.tcp.gadget.fails = 0 ∧ h.unlocked = s.hub.unlocked)) ∧
  (∀ (b : List Byte) (s : State), s.hub.gadgetLive = true → s.hub.halted 1 = false → 32 ≤ b.length → b.length = gadgetLen b →
    s.hub.gadgetRoom = false → Runs (.gadgetCommand (.out b)) s (fun h => h.hif = s.hub.hif ∧
      let n := packetsOf (s.hub.tcp.gadget.bufs ++ [b])
      if s.hub.gadgetHs = true ∧ n ≤ 4 then h.tcp.gadget.bufs = s.hub.tcp.gadget.bufs ++ [b] ∧
        h.out = .handshake 1 (if n = 4 then .nyet else .ack) :: s.hub.out
      else h.tcp.gadget.bufs = s.hub.tcp.gadget.bufs ∧ h.out = .handshake 1 .nak :: s.hub.out)) ∧
  (∀ (b : List Byte) (s : State), s.hub.gadgetLive = true →
    (s.hub.halted 1 = true → Runs (.gadgetCommand (.out b)) s (fun h => h = s.hub.emit (.handshake 1 .stall))) ∧
    (s.hub.halted 3 = true → Runs (.gadgetFilterSet (.out b)) s (fun h => h = s.hub.emit (.handshake 3 .stall)))) ∧
  (∀ s : State, s.hub.gadgetLive = true → s.hub.gadgetHs = true →
    Runs (.gadgetCommand .ping) s (fun h => h = s.hub.emit (.handshake 1 (if s.hub.halted 1 then .stall
      else if packetsOf s.hub.tcp.gadget.bufs < 4 then .ack else .nak)))) ∧
  (∀ (e : Fin 5) (on : Bool) (s : State), s.hub.gadgetLive = true → e.val ≠ 0 →
    Runs (.gadgetCommand (.halt e on)) s (fun h => h.halted e = on ∧ ∀ x : Nat, x ≠ e.val → h.halted x = s.hub.halted x))
/-- Attach, the cable's identity and CSUP of a trunk port (R36 to R42).
Model's choices: log entries 35, 49, 166, 167. -/
def Obligations.TrunkPortAttach : Prop :=
  (∀ (p : Fin 2) (s : State), s.hub.attach p = atAttached →
    Runs (.senseDeparture p) s (fun h => (h.port p).departed = true ∧ h.attach p = atAttached)) ∧
  (∀ (p : Fin 2) (v w : Nat) (s : State), s.hub.attach p = atDetached →
    Runs (.cfgPinSample p v w) s (fun h =>
      let a := Sys2Proof.Machine.classify (s.hub.port p).band1 v
      let b := Sys2Proof.Machine.classify (s.hub.port p).band2 w
      (h.port p).band1 = a ∧ (h.port p).band2 = b ∧
      h.attach p = if senseFound p a b || dToD p a b then atDebounce else atDetached)) ∧
  (∀ (p : Fin 2) (s : State), s.hub.rel.acts = [] → s.hub.attach p = atDebounce →
    senseFound p (s.hub.port p).band1 (s.hub.port p).band2 = true →
    Runs (.attachDebounceExpiry p) s (fun h => h.attach p = atAttached ∧
      h.flag (Fld.TRK_PORT_STATUS_FLIPPED p) = ((s.hub.port p).band1 != .sense) ∧ (h.port p).leaving = false)) ∧
  (∀ (p : Fin 2) (s : State), s.hub.attach p = atDebounce → senseFound p (s.hub.port p).band1 (s.hub.port p).band2 = false →
    dToD p (s.hub.port p).band1 (s.hub.port p).band2 = true →
    Runs (.attachDebounceExpiry p) s (fun h => h.attach p = atMiscabled ∧ Posted s.hub h Evt.TRK_MISCABLED [p])) ∧
  (∀ (p : Fin 2) (s : State), s.hub.rel.acts = [] → s.hub.attach p = atAttached → (s.hub.port p).leaving = true →
    Runs (.detachDebounceExpiry p) s (fun h => h.attach p = atDetached ∧ h.link p = lkDown ∧ h.csup p = csOff ∧
      (h.port p).record = [] ∧ (h.port p).leaving = false)) ∧
  (∀ (p : Fin 2) (a b : List Byte) (s : State), s.hub.csup p = csOurs → (s.hub.port p).csupFault = false →
    Runs (.cableIdRead p a b) s (fun h =>
      (idValid 0 a = true → idValid 1 b = true → idSame a b = true →
        (h.port p).record = a ∧ h.flag (Fld.TRK_PORT_STATUS_ID_VALID p) = true) ∧
      (idValid 0 a = false → idValid 1 b = false → (h.port p).record = [] ∧ h.flag (Fld.TRK_PORT_STATUS_ID_VALID p) = false ∧
        Posted s.hub h Evt.TRK_CABLE_ID_BAD [p, 1]))) ∧
  (∀ s : State, s.hub.attach 0 = atAttached → s.hub.linkUp 0 = false → (s.hub.port 0).csupFault = false →
    s.hub.flag (Fld.TRK_PORT_CTL_EN 0) = true → s.hub.io33 = true →
    Runs (.csupTakeover 0) s (fun h => h.csup 0 = csOurs ∧
      h.out = .readIdChip 0 0x51 :: .readIdChip 0 0x50 :: s.hub.out)) ∧
  (∀ s : State, s.hub.csup 0 = csOurs → (s.hub.port 0).ackRx = true →
    Runs (.csupRelease 0) s (fun h => h = s.hub.setf (Fld.TRK_PORT_STATUS_CSUP 0) csFar)) ∧
  (∀ s : State, s.hub.attach 1 = atAttached → s.hub.flag (Fld.TRK_PORT_CTL_EN 1) = true → (s.hub.port 1).csupFault = false →
    s.hub.io33 = true → Runs (.csupResume 1) s (fun h =>
      h = ((s.hub.setf (Fld.TRK_PORT_STATUS_CSUP 1) csOurs).emit (.readIdChip 1 0x50)).emit (.readIdChip 1 0x51))) ∧
  (∀ (p : Fin 2) (s : State), s.hub.csup p = csOurs → Runs (.csupFault p) s (fun h => h.csup p = csFault ∧
    (h.port p).csupFault = true)) ∧
  (∀ (p : Fin 2) (v w : Nat) (s : State), s.hub.attach p = atAttached →
    Runs (.cfgPinSample p v w) s (fun h => h.attach p = atAttached ∧
      (h.port p).leaving = ((if s.hub.flag (Fld.TRK_PORT_STATUS_FLIPPED p) then Sys2Proof.Machine.classify (s.hub.port p).band2 w
        else Sys2Proof.Machine.classify (s.hub.port p).band1 v) != .sense)))

/-- Bring-up of a trunk link from the low-speed lock to the pair test, its failure and its restart; loopbacks, lane wakes, the knuckle and
pair locks (R50 to R52, R55, R60 to R67, R69).
Model's choices: log entries 8, 24, 32, 33, 35, 48, 147, 164, 166, 167. -/
def Obligations.TrunkLinksLoopbacksAndKnuckle : Prop :=
  (∀ (p : Fin 2) (s : State), s.hub.link p = lkLowSpeed → (s.hub.port p).step ≤ 1 →
    Runs (.lowSpeedLock p) s (fun h => (h.port p).step = 2 ∧ (h.port p).attachAt = s.hub.up ∧ h.regs = s.hub.regs)) ∧
  (∀ (p : Fin 2) (s : State), s.hub.link p = lkLowSpeed → 2 ≤ (s.hub.port p).step → (s.hub.port p).far = none →
    s.hub.csup p ≠ csOurs →
    Runs (.helloSend p) s (fun h => h.link p = lkHandshake ∧ (h.port p).step = 4 ∧
      h.out = .lowSpeed p (if (s.hub.port p).hello.isEmpty then s.hub.helloFrame p else (s.hub.port p).hello) :: s.hub.out)) ∧
  (∀ (p : Fin 2) (f : List Byte) (s : State), frameGood 1 f = true → s.hub.link p = lkHandshake → s.hub.isHead = false →
    Runs (.helloReceive p f) s (fun h => (h.port p).far = some (farOf f) ∧ h.link p = lkHandshake ∧ (h.port p).step = 4 ∧
      ∃ b, h.out = .lowSpeed p b :: s.hub.out)) ∧
  (∀ (p : Fin 2) (f : List Byte) (s : State), frameGood 2 f = true → s.hub.link p = lkHandshake → (s.hub.port p).far.isSome = true →
    Runs (.ackReceive p f) s (fun h => h = s.hub.setPort p { s.hub.port p with ackRx := true })) ∧
  (∀ (p : Fin 2) (s : State), s.hub.link p = lkHandshake → (s.hub.port p).ackRx = true → (s.hub.port p).far.isSome = true →
    s.hub.fixedUsable p = true → Runs (.pam3Switch p) s (fun h => h.link p = lkPam3 ∧ (h.port p).step = 5 ∧
      h.out = .lockPattern p (outFixed p) :: s.hub.out)) ∧
  (∀ (p : Fin 2) (s : State), s.hub.link p = lkPam3 → s.hub.flag (Fld.TRK_PAIR_STATUS_LOCKED (8 * p + inFixed p)) = false →
    s.hub.getf (Fld.TRK_PAIR_STATUS_ROW (8 * p + 0)) < s.hub.lastRow p 0 →
    Runs (.fixedPairRetry p) s (fun h => h.link p = lkPam3 ∧ h.out = .lockPattern p (outFixed p) :: s.hub.out)) ∧
  (∀ (p : Fin 2) (k : Fin 8) (e : Nat) (s : State), s.hub.link p = lkPairTest → (s.hub.port p).testLeft.contains k.val = true →
    e ≤ 76 → Runs (.pairTestDone p k true e) s (fun h => (h.port p).testLeft.contains k.val = false ∧
      h.getf (Fld.TRK_PAIR_STATUS_CAP (8 * p + k)) = b2n (s.hub.lane p k).testNrz ∧
      h.flag (Fld.TRK_PAIR_STATUS_LOCKED (8 * p + k)) = true)) ∧
  (∀ (p : Fin 2) (s : State), s.hub.rel.acts = [] → s.hub.attach p = atAttached → s.hub.link p ≠ lkUp → s.hub.link p ≠ lkFailed →
    s.hub.link p ≠ lkDown → 2 ≤ (s.hub.port p).step → (s.hub.port p).failRaised = false →
    (s.hub.port p).attachAt + 50000000 ≤ s.hub.up →
    Runs (.linkFailTimeout p) s (fun h =>
      h.link p = (if (s.hub.port p).step = 5 ∨ (s.hub.port p).step = 6 then s.hub.link p else lkFailed) ∧ (h.port p).failRaised = true ∧
      h.getf (Fld.TRK_PORT_STATUS_FAIL_STEP p) = (s.hub.port p).step % 2 ^ (Fld.TRK_PORT_STATUS_FAIL_STEP p).width)) ∧
  (∀ (p : Fin 2) (s : State), s.hub.attach p = atAttached → s.hub.portHeld p = false → s.hub.trunk.eq.isSome = true →
    ((s.hub.link p = lkFailed ∨ s.hub.link p = lkDown) → (s.hub.port p).startAt + 10000000000 ≤ s.hub.up →
      Runs (.bringupRetry p) s (fun h => h.link p = lkLowSpeed ∧ (h.port p).step = 1)) ∧
    (s.hub.rel.acts = [] → Runs (.portRelink p) s (fun h => h.link p = lkLowSpeed ∧ (h.port p).step = 1))) ∧
  (∀ (p : Fin 2) (v : Word) (s : State), s.hub.rel.acts = [] → bit v.toNat 1 = false →
    Runs (.portEnWrite p v) s (fun h => h.flag (Fld.TRK_PORT_CTL_EN p) = bit v.toNat 0 ∧
      (s.hub.flag (Fld.TRK_PORT_CTL_EN p) = true → bit v.toNat 0 = false → h.link p = lkDown))) ∧
  (∀ (p : Fin 2) (v : Word) (s : State),
    let t := (((s.hub.setf (Fld.TRK_LOOP_CTL_SRC p) (bits v.toNat 18 16)).setf (Fld.TRK_LOOP_CTL_DST p) (bits v.toNat 6 4)).setf
      (Fld.TRK_LOOP_CTL_PATTERN p) (bits v.toNat 10 8)).setf (Fld.TRK_LOOP_CTL_MODE p) (bits v.toNat 2 0)
    s.hub.loopRunning p = false → bit v.toNat 15 = true → bits v.toNat 10 8 < 4 → 1 ≤ bits v.toNat 2 0 → bits v.toNat 2 0 ≤ 4 →
    t.loopRefusal p = none →
    Runs (.loopStart p v) s (fun h => h.loopRunning p = true ∧ h.rel.acts.length = s.hub.rel.acts.length + 1)) ∧
  (∀ (p : Fin 2) (s : State), s.hub.rel.acts = [] → s.hub.loopRunning p = true → s.hub.getf (Fld.TRK_LOOP_CTL_SRC p) < 8 →
    s.hub.getf (Fld.TRK_LOOP_CTL_PATTERN p) < 4 → s.hub.getf (Fld.TRK_LOOP_CTL_DST p) < 8 → s.hub.getf (Fld.TRK_LOOP_CTL_MODE p) < 5 →
    Runs (.loopStop p) s (fun h => h.getf (Fld.TRK_LOOP_STAT_RESULT p) = 2 ∧ h.getf (Fld.TRK_LOOP_STAT_LOCKED p) = 0)) ∧
  (∀ (n : NextPairs) (s : State), s.hub.nextPairs = some n → s.hub.now ≤ s.hub.tick * tickNs + 40000 →
    (∀ (p : Fin 2) (k : Fin 8), s.hub.flag (Fld.TRK_PAIR_STATUS_LOOP (8 * p + k)) = false) →
    Runs .laneWakeStart s (fun h => ∀ (p : Fin 2) (k : Fin 8), n.runs p k = true →
      (s.hub.pairAsleep p k || bits (n.pairs.getD (8 * p + k) 0) 1 0 != s.hub.dir p k) = true → (h.lane p k).waking = true)) ∧
  (∀ (p : Fin 2) (k : Fin 8) (s : State), (s.hub.lane p k).waking = true → s.hub.nextPairs = none →
    s.hub.up ≤ (s.hub.lane p k).wakeAt + laneLimit → s.hub.laneFailed p k = false →
    Runs (.laneWakeDone p k) s (fun h => (h.lane p k).waking = false ∧
      if s.hub.dir p k = dirOut then h.flag (Fld.TRK_PAIR_STATUS_TX_SLEEP (8 * p + k)) = false
      else h.flag (Fld.TRK_PAIR_STATUS_RX_SLEEP (8 * p + k)) = false)) ∧
  (∀ (n : NextPairs) (u : List (Fin 16)) (s : State), s.hub.nextPairs = some n → s.hub.now ≤ s.hub.tick * tickNs + 61300 →
    Runs (.knuckleStart u) s (fun h => ∀ (p : Fin 2) (k : Fin 8), s.hub.needsPattern n p k = true →
      if bits (n.pairs.getD (8 * p + k) 0) 1 0 = dirOut then
        h.flag (Fld.TRK_PAIR_STATUS_LOCKED (8 * p + k)) = false ∧ Out.lockPattern p k ∈ h.out
      else h.flag (Fld.TRK_PAIR_STATUS_LOCKED (8 * p + k)) = !u.any (fun x => x.val == 8 * p.val + k.val))) ∧
  (∀ (p : Fin 2) (k : Fin 8) (t : Nat) (s : State), (s.hub.lane p k).seekFrom = some t → t + 16 ≤ s.hub.tick →
    s.hub.flag (Fld.TRK_PAIR_STATUS_LOCKED (8 * p + k)) = false →
    Runs (.pairLockTimeout p k) s (fun h => h.flag (Fld.TRK_PAIR_STATUS_FAULTY (8 * p + k)) = true ∧
      (h.lane p k).seekFrom = none)) ∧
  (∀ s : State, Runs .rowRequestReceive s (fun h => match (s.hub.takeMsg 4 [0x30]).1 with
    | none => h = (s.hub.takeMsg 4 [0x30]).2
    | some m =>
      let k := byteAt m.body 0 % 8
      (h.lane m.port k).staged = (s.hub.lane m.port k).staged ++ [⟨min (byteAt m.body 1) (s.hub.lastRow m.port k),
        min 7 (s.hub.getf (Fld.TRK_PAIR_STATUS_FAR_ROW (8 * m.port + k)) + 1), m.tick⟩])) ∧
  (∀ s : State, Runs .pairLockFailReceive s (fun h => h = (s.hub.takeMsg 4 [0x31]).2))

/-- Bring-up of a root port and its going down (R274, R281, R284, R286).
Model's choices: log entries 92, 93, 97, 175. -/
def Obligations.StorageRootPortBringUp : Prop :=
  (∀ (d : Fin 2) (v : Word) (s : State), s.hub.isHead = false → s.hub.bpEn d = false → bit v.toNat 31 = false →
    1 ≤ bits v.toNat 27 24 → bits v.toNat 27 24 ≤ 8 → 4 ≤ bits v.toNat 23 20 → bits v.toNat 23 20 ≤ 8 → 20 ≤ bits v.toNat 12 0 →
    Runs (.blkPortEnable d v) s (fun h => h.bpIoq d = bits v.toNat 27 24 ∧ h.bpDepth d = 2 ^ bits v.toNat 23 20 ∧
      h.bpRingq d = bits v.toNat 12 0 ∧ h.bpEn d = false ∧
      h.getf (Fld.BLK_PORT_RINGCELLS d) = 10 + bits v.toNat 27 24 * 5 * 2 ^ bits v.toNat 23 20 / 16)) ∧
  (∀ (d : Fin 2) (v : Word) (s : State), s.hub.isHead = true → Runs (.blkPortEnable d v) s (fun h => h.bpEn d = s.hub.bpEn d ∧
    h.bpIoq d = s.hub.bpIoq d ∧ h.bpDepth d = s.hub.bpDepth d ∧ h.bpRingq d = s.hub.bpRingq d ∧ h.blk = s.hub.blk)) ∧
  (∀ (d : Fin 2) (s : State), s.hub.bpEn d = true → Runs (.blkPortDisable d) s (fun h => h.bpEn d = false ∧ h.bpState d = bpOff ∧
    (h.rport d).perst = true ∧ (h.rport d).ring = [] ∧ h.blk.slots.all (fun e => e.1 / 1024 != d.val) = true)) ∧
  (∀ (d : Fin 2) (s : State), s.hub.bpEn d = true → s.hub.bpState d = bpLink → (s.hub.rport d).step = 1 →
    (s.hub.rport d).since + 100000000 ≤ s.hub.up → Runs (.blkPerstRelease d) s (fun h => (h.rport d).step = 2 ∧ (h.rport d).perst = false ∧
      h.out = .rootPerst d false :: s.hub.out ∧ h.regs = s.hub.regs)) ∧
  (∀ (d : Fin 2) (sp wd : Fin 16) (nv cap rdy adm : Bool) (m : Nat) (s : State), s.hub.bpEn d = true → s.hub.bpState d = bpLink →
    (s.hub.rport d).step = 2 → 1 ≤ sp.val → sp.val ≤ 4 → wd.val ∈ [1, 2, 4] → s.hub.up ≤ (s.hub.rport d).since + 200000000 →
    Runs (.blkLinkUp d sp wd nv cap rdy adm m) s (fun h =>
      if nv && cap && rdy && adm then h.bpState d = bpReady ∧ h.getf (Fld.BLK_PORT_STATUS_SPEED d) = sp ∧
        h.getf (Fld.BLK_PORT_STATUS_WIDTH d) = wd ∧ Tab.getD (h.rport d).tails 0 0 = 2 + 2 * s.hub.bpIoq d ∧
        Tab.getD (h.rport d).heads 0 0 = 2 + 2 * s.hub.bpIoq d ∧
        h.bpMdts d = if m = 0 then 65536 else min 65536 (4096 * 2 ^ m)
      else h.bpState d = bpFailed ∧
        h.getf (Fld.BLK_PORT_STATUS_CAUSE d) = if !nv then 3 else if !cap then 4 else if !rdy then 5 else 6)) ∧
  (∀ (d : Fin 2) (c : Fin 16) (s : State), s.hub.bpEn d = true →
    (s.hub.bpState d = bpLink ∧ (s.hub.rport d).step = 1 ∧ c.val = 1 ∨
      s.hub.bpState d = bpLink ∧ (s.hub.rport d).step ≠ 1 ∧ c.val = 2 ∧ (s.hub.rport d).since + 200000000 ≤ s.hub.up ∨
      s.hub.bpState d = bpInit ∧ 3 ≤ c.val ∧ c.val ≤ 6 ∨ s.hub.bpState d = bpResetting ∧ 4 ≤ c.val ∧ c.val ≤ 6) →
    Runs (.blkBringupFail d c) s (fun h => h.bpState d = bpFailed ∧
      h.getf (Fld.BLK_PORT_STATUS_CAUSE d) = c ∧ Posted s.hub h Evt.BLK_PORT_DOWN [d, c] ∧
      h.rport d = { s.hub.rport d with since := s.hub.up })) ∧
  (∀ (d : Fin 2) (s : State), s.hub.bpEn d = true → s.hub.bpState d = bpFailed → s.hub.domFailed (rootDom d) = false →
    s.hub.planStep (rootDom d) = 0 → s.hub.atL0 (rootDom d) = true → (s.hub.rport d).since + 1000000000 ≤ s.hub.up → Runs (.blkBringupRetry d) s (fun h => h.bpState d = bpLink ∧ (h.rport d).step = 1 ∧
      (h.rport d).perst = true ∧ h.out = .rootPerst d true :: s.hub.out)) ∧
  (∀ (d : Fin 2) (s : State), s.hub.bpEn d = true → s.hub.bpState d = bpReady →
    s.hub.blk.slots.any (fun e => e.1 / 1024 == d.val && e.2.answered &&
      decide (e.2.at' + 2 * s.hub.getf (Fld.BLK_PORT_TMO_MS d) * 1000000 ≤ s.hub.up)) = true →
    Runs (.blkCtrlReset d) s (fun h => h.bpState d = bpResetting ∧ h.blk.slots.all (fun e => e.1 / 1024 != d.val) = true)) ∧
  (∀ (d : Fin 2) (s : State), s.hub.bpEn d = true → 2 ≤ s.hub.bpState d → s.hub.bpState d ≤ 4 →
    Runs (.blkLinkDown d) s (fun h => (h.rport d).step = 1 ∧ (h.rport d).perst = true ∧
      h.blk.slots.all (fun e => e.1 / 1024 != d.val) = true)) ∧
  (∀ (d : Fin 2) (v : Word) (s : State), let q := bits v.toNat 12 0
    let n := 10 + bits v.toNat 27 24 * 5 * 2 ^ bits v.toNat 23 20 / 16
    s.hub.isHead = false → s.hub.bpEn d = false → bit v.toNat 31 = true → 1 ≤ bits v.toNat 27 24 → bits v.toNat 27 24 ≤ 8 →
    4 ≤ bits v.toNat 23 20 → bits v.toNat 23 20 ≤ 8 → 20 ≤ q → s.hub.qEnabled q = true → s.hub.qControl q = true →
    s.hub.qMin q = n → s.hub.qMax q = n → (s.hub.queue q).occ = 0 → n ≤ s.hub.genFree →
    s.hub.domFailed (rootDom d) = false → s.hub.planStep (rootDom d) = 0 → s.hub.atL0 (rootDom d) = true →
    Runs (.blkPortEnable d v) s (fun h => h.bpEn d = true ∧ h.bpState d = bpLink ∧ h.bpIoq d = bits v.toNat 27 24 ∧
      h.bpDepth d = 2 ^ bits v.toNat 23 20 ∧ h.bpRingq d = q ∧ (h.rport d).ring.length = n ∧ (h.rport d).step = 1 ∧
      (h.rport d).perst = true ∧ (h.queue q).occ = n ∧ (h.queue q).prod = some (.blk d) ∧ (h.queue q).cons = some (.blk d) ∧
      h.out = .rootPerst d true :: s.hub.out))

/-- What an SSD reads and writes, its completions and timeouts; storage commands and their answers at the initiator end, and requests at the
device end (R276, R277, R280 to R284).
Model's choices: log entries 92, 93, 94, 95, 96, 98, 111. -/
def Obligations.StorageCommandsAndDevices : Prop :=
  (∀ (d : Fin 2) (i : Fin 1024) (x : BlkSlot) (s : State), s.hub.slot d i = some x → x.answered = false →
    x.at' + s.hub.getf (Fld.BLK_PORT_TMO_MS d) * 1000000 ≤ s.hub.up →
    Runs (.blkDevTimeout d i) s (fun h => ∃ y, h.slot d i = some y ∧ y.answered = true ∧ y.cells = x.cells)) ∧
  (∀ (d : Fin 2) (q : Fin 9) (l : Fin 32) (s : State),
    let n := Tab.getD (s.hub.rport d).heads q 0
    let e := s.hub.chainRead (s.hub.rport d).ring (s.hub.cqBase d q + 16 * (n % s.hub.nvmeDepth d q)) 16
    let dw3 := leAt e 12 4
    (s.hub.rport d).ring ≠ [] → s.hub.bpState d = bpReady → bit dw3 16 = (n / s.hub.nvmeDepth d q % 2 == 0) →
    Runs (.nvmeCqeReceive d q l) s (fun h => Tab.getD (h.rport d).heads q 0 = n + 1 ∧
      (bits dw3 15 0 < 1024 → h.slot d (bits dw3 15 0) = none) ∧
      (0x4000 ≤ bits dw3 15 0 → bits dw3 15 0 < 0x5000 → bits dw3 31 17 = 0 →
        Tab.getD (h.rport d).lba (bits dw3 15 0 - 0x4000) 0 = 2 ^ l.val))) ∧
  (∀ (d : Fin 2) (a n : Nat) (s : State), (s.hub.rport d).ring ≠ [] → a + n ≤ 0x800 →
    Runs (.ssdInboundAccess d a false n []) s (fun h => ∃ b : List Byte, b.length = n ∧
      h = s.hub.emit (.ssdAnswer d (some b)))) ∧
  (∀ (d : Fin 2) (a n : Nat) (w : Bool) (b : List Byte) (s : State),
    ((s.hub.rport d).ring = [] ∨ (w = true ∧ a < 0x800) ∨ (w = false ∧ 0x800 < a ∧ a < 0x10000)) →
    Runs (.ssdInboundAccess d a w n b) s (fun h => h.out = .ssdAnswer d none :: s.hub.out ∧ h.lineMem = s.hub.lineMem ∧
      Counted s.hub h Cnt.BLK_CNT_BAD_INBOUND 1)) ∧
  (∀ (w : Asker) (b : List Byte) (j : Job) (u : Tun) (q : Nat) (op : Nat) (c : Instr) (s : State),
    (c, op) ∈ [(Instr.blkRead w, boRead), (.blkWrite w (some b), boWrite), (.blkFlush w, boFlush), (.blkDeallocate w, boDeallocate),
      (.blkIdentify w, boIdentify)] →
    w ≠ .gadget → s.hub.jobFor w (blkOpcode op) = some j → blkDescOk op j.d = true → s.hub.domFailed dBLK = false →
    s.hub.blk.out.length < 1024 → s.hub.blkTun j.d.qt = some u → s.hub.blkQueue j.d.qt = some q → blkRole u.bind = 0 →
    (blkEnd u.bind = 1 ∨ blkEnd u.bind = 3) →
    Runs c s (fun h => ∃ tag x, Tab.get? tag h.blk.out = some x ∧ h.blk.nextTag = (tag + 1) % 65536 ∧ x.who = w ∧ x.idx = j.idx ∧
      x.cookie = j.d.cookie ∧ x.addr = j.d.addr ∧ x.op = op ∧ x.len = j.d.len ∧ x.req = j.d.qt ∧ x.rsp = blkPair u.bind ∧
      x.sent = s.hub.tick ∧ x.dead = false)) ∧
  (∀ (op : Nat) (b : Option (List Byte)) (j : Job) (c : Instr) (s : State),
    (c, op) ∈ [(Instr.blkRead .gadget, boRead), (.blkWrite .gadget b, boWrite), (.blkFlush .gadget, boFlush),
      (.blkDeallocate .gadget, boDeallocate), (.blkIdentify .gadget, boIdentify)] →
    s.hub.jobFor .gadget (blkOpcode op) = some j →
    Runs c s (fun h => h = s.hub.finish .gadget j s.hub.addr stRefused 0)) ∧
  (∀ (t : Fin 4096) (u : Tun) (q i : Nat) (p : List QCell) (r : Hub) (s : State),
    let s1 : Hub := { s.hub with blk := { s.hub.blk with turn := t } }
    s.hub.blkTurn = some t.val → s.hub.blkTun t = some u → s.hub.blkQueue t = some q → s1.readHead q = (some p, r) →
    (pktGap p = true ∨ isBlkHeader 1 (r.pktBytes p) = false → Runs (.blkCommandIssue t) s (fun h => h = r.popPkt q)) ∧
    (pktGap p = false → isBlkHeader 1 (r.pktBytes p) = true → r.bpState (blkPort u.bind) = bpReady → r.domFailed dBLK = false →
      bhOp (r.pktBytes p) = boFlush → r.slotFree (blkPort u.bind) = some i →
      r.sqUsed (blkPort u.bind) (blkIoq u.bind) + 1 < r.nvmeDepth (blkPort u.bind) (blkIoq u.bind) →
      Runs (.blkCommandIssue t) s (fun h => ∃ x, h.slot (blkPort u.bind) i = some x ∧ x.op = boFlush ∧ x.ioq = blkIoq u.bind ∧
        x.nsid = blkNsid u.bind ∧ x.hdr = r.pktBytes p ∧ x.at' = r.up ∧ x.answered = false))) ∧
  (∀ (t : Fin 4096) (ok : Bool) (u : Tun) (q : Nat) (p : List QCell) (r : Hub) (s : State), s.hub.blkTun t = some u →
    s.hub.blkQueue t = some q → blkRole u.bind = 1 → (blkEnd u.bind = 1 ∨ blkEnd u.bind = 3) → s.hub.readHead q = (some p, r) →
    pktGap p = false → isBlkHeader 2 (r.pktBytes p) = true →
    Runs (.blkResponseReceive t ok) s (fun h => match Tab.get? (bhTag (r.pktBytes p)) r.blk.out with
      | none => h = (r.popPkt q).count Cnt.BLK_CNT_LATE_RSP 1
      | some c =>
        if c.rsp = t then
          bhKind (r.pktBytes p) = 1 ∨ bhKind (r.pktBytes p) = 2 ∨ ¬(c.op = boRead ∨ c.op = boIdentify) →
            Tab.get? (bhTag (r.pktBytes p)) h.blk.out = none
        else h = (r.popPkt q).count Cnt.BLK_CNT_LATE_RSP 1)) ∧
  (∀ (tag : Fin 65536) (c : BlkCmd) (s : State), Tab.get? tag.val s.hub.blk.out = some c →
    c.sent + s.hub.getf Fld.BLK_CFG_TIMEOUT ≤ s.hub.tick →
    Runs (.blkTunnelTimeout tag) s (fun h => Tab.get? tag.val h.blk.out = none ∧ Counted s.hub h Cnt.BLK_CNT_TUNNEL_FAIL 1 ∧
      (c.dead = true → h.out = s.hub.out)))

/-- Power-on, the rails, and the crystal (R20 to R22, R377, R378, R414, R442, R448, R477, R478).
Model's choices: log entries 2, 129. -/
def Obligations.PowerOnRailsAndFailsafe : Prop :=
  (∀ (m : Fin 4) (u : Bool) (s : State), m ≠ 3 → Runs (.por m u) s (fun h => h.getf Fld.GEN_STRAPS_MODE = m ∧
    h.flag Fld.GEN_STRAPS_UPB_SEL = u ∧ h.getf Fld.GEN_STRAPS_ROLE = (if m = 2 ∧ s.hub.getf Fld.GEN_ID_VARIANT ≠ 0x0A then 1 else m.val) ∧
    h.getf Fld.GEN_HUB_ADDR_ADDR = 0x1FE ∧ h.lineMem = [] ∧ h.cnts = [] ∧ h.ev.recs = [] ∧ h.sec.flash = s.hub.sec.flash ∧
    h.sec.khash = s.hub.sec.khash ∧ h.sec.stage = sgAon ∧ h.now = 0)) ∧
  (∀ (u : Bool) (s : State), Runs (.por 3 u) s (fun h => h.sec.strapInvalid = true ∧ h.sec.stage = sgHeld ∧ h.sec.faultN = true)) ∧
  (∀ s : State, Runs .aonStop s (fun h => h.sec.aonOff = true ∧ h.lineMem = [] ∧ h.sec.flash = s.hub.sec.flash ∧ h.sec.railUp = 0)) ∧
  (∀ (g : Bool) (s : State), s.hub.sec.stage = sgAon → s.hub.sec.railUp = 0 → s.hub.sec.railWait = none → s.hub.busFed = true →
    s.hub.isHeld = false → Runs (.lineBusGood g) s (fun h =>
      if g then h.sec.stage = sgAon ∧ h.sec.railUp = 0 ∧ h.sec.railWait.isSome = true ∧ h.sec.faultN = true
      else h.sec.stage = sgRails ∧ h.sec.railUp = 1 ∧ h.out = .railEn 0 true :: s.hub.out)) ∧
  (∀ s : State, s.hub.sec.stage = sgRails → 1 ≤ s.hub.sec.railUp → s.hub.ranFor s.hub.sec.railAt 1000000 = true →
    s.hub.up ≤ s.hub.sec.railAt + 6000000 → Runs (.railSequenceStep false) s (fun h =>
    if s.hub.sec.railUp < 6 then h.sec.railUp = s.hub.sec.railUp + 1 ∧ h.sec.stage = sgRails ∧
      h.out = .railEn s.hub.sec.railUp true :: s.hub.out
    else h.sec.stage = sgPowered ∧ h.out.head? = some (.pmbus s.hub.avsSetpoint))) ∧
  (∀ s : State, s.hub.sec.stage = sgRails → 1 ≤ s.hub.sec.railUp → s.hub.ranFor s.hub.sec.railAt 5000000 = true →
    Runs .pgTimeout s (fun h => h.sec.railUp = 0 ∧
    h.sec.stage = sgAon ∧ h.sec.faultN = true ∧ h.sec.railFails.getLast? = some s.hub.up ∧
    h.sec.railWait = some (s.hub.up + if 3 ≤ h.sec.railFails.length then 60000000000 else 1000000000))) ∧
  (∀ (n : Fin 6) (s : State), n.val < s.hub.sec.railUp → bit (s.hub.getf Fld.LPW_STATUS_PG) n = true →
    Runs (.pgFall n) s (fun h => h.sec.railUp = 0 ∧ h.sec.stage = sgAon ∧ h.sec.faultN = true ∧ h.sec.railWait.isSome = true ∧
      h.getf Fld.LPW_STATUS_RAIL_EN = 0)) ∧
  (∀ (t : Nat) (s : State), s.hub.sec.railWait = some t → t ≤ s.hub.up → Runs .railFailRecover s (fun h =>
    h.sec.railWait = none ∧ h.getf Fld.GEN_RESET_CAUSE_CLASS = 3 ∧ h.getf Fld.GEN_RESET_CAUSE_DETAIL = 2 ∧
    (h.sec.stage = sgAon ∨ h.sec.stage = sgHeld))) ∧
  (∀ (t : Nat) (s : State), s.hub.rel.acts = [] → s.hub.pwr.failsafe.active = false → s.hub.pwr.xtalFrom = some t →
    s.hub.up ≤ t + 10000000 → Runs .xtalReadyTimeout s (fun h =>
    h.pwr.failsafe.active = true ∧ h.flag Fld.PWR_STATUS_FAILSAFE_SEEN = true ∧ h.attach 0 = atFailsafe ∧ h.attach 1 = atFailsafe ∧
    h.getf Fld.PWR_STATUS_XTAL_FAILS = min 255 (s.hub.getf Fld.PWR_STATUS_XTAL_FAILS + 1) ∧ h.sec.faultN = true)) ∧
  (∀ (ok : Bool) (s : State), s.hub.pwr.failsafe.active = true → Runs (.failsafeXtalRetry ok) s (fun h =>
    if ok then h.getf Fld.GEN_RESET_CAUSE_CLASS = 3 ∧ h.getf Fld.GEN_RESET_CAUSE_DETAIL = 3 ∧ h.pwr.failsafe.active = false ∧
      h.pwr.failsafe.owed = true
    else h.pwr.failsafe = { s.hub.pwr.failsafe with tries := s.hub.pwr.failsafe.tries + 1 } ∧ h.regs = s.hub.regs ∧
      (s.hub.stepped ≤ (s.hub.now : Int) → s.hub.pwr.failsafe.since + 1000000000 * (s.hub.pwr.failsafe.tries + 1) + 10000000 ≤ h.up))) ∧
  (∀ s : State, s.hub.domStep dSVC = 4 → s.hub.domState dSVC = dmStable → s.hub.getf Fld.PWR_CTL_PARK_S ≠ 0 →
    Runs .svcParkExpiry s (fun h => h.domState dSVC = dmExiting ∧ (h.dom dSVC).src = 8 ∧
      (s.hub.stepped ≤ (s.hub.now : Int) → s.hub.pwr.parkAt + s.hub.getf Fld.PWR_CTL_PARK_S * 1000000000 ≤ h.up)))

/-- The boot ROM, the firmware slots, the board configuration and service (R442, R453 to R455, R461).
Model's choices: log entries 3, 10, 23, 140, 142, 143, 185. -/
def Obligations.BootToService : Prop :=
  (∀ s : State, s.hub.sec.stage = sgPowered → s.hub.sec.inReset = false → s.hub.isHeld = false → Runs .bootRomStart s (fun h =>
    h.sec.stage = sgRom ∧ h.regs = s.hub.regs ∧ h.lineMem = if s.hub.preserved then s.hub.lineMem else [])) ∧
  (∀ s : State, s.hub.rel.acts = [] → s.hub.sec.stage = sgRom → s.hub.firstSlot ≤ 1 → Runs .firmwareVerify s (fun h =>
    let a := s.hub.firstSlot
    if s.hub.getf Fld.SEC_LC_STATE = 0 then h.flag Fld.GEN_BOOT_STATUS_HELD = true ∧ h.sec.stage = sgHeld
    else if s.hub.slotFault a = 0 ∨ s.hub.slotFault (1 - a) = 0 then
      let k := if s.hub.slotFault a = 0 then a else 1 - a
      h.sec.stage = sgFirmware ∧ h.getf Fld.GEN_BOOT_STATUS_SLOT = k ∧ h.flag Fld.GEN_BOOT_STATUS_FALLBACK = (k != a) ∧
        h.getf Fld.SEC_BOOT_SVN = byteAt (s.hub.flashRead (0x400000 * k) 256) 12 ∧
        h.sec.runKey = some (byteAt (s.hub.flashRead (0x400000 * k) 256) 13) ∧ h.sec.areaReady = true ∧ h.sec.nextSlot = none ∧
        ∀ i < 0x40000, h.flashByte (0xA00000 + 0x40000 * s.hub.sec.nextArea + i) = 0xFF
    else h.flag Fld.GEN_BOOT_STATUS_HELD = true ∧ h.sec.stage = sgHeld ∧ h.getf Fld.GEN_BOOT_STATUS_FAIL_A = s.hub.slotFault 0 ∧
      h.getf Fld.GEN_BOOT_STATUS_FAIL_B = s.hub.slotFault 1)) ∧
  (∀ s : State, s.hub.sec.stage = sgFirmware → Runs .boardConfigApply s (fun h => h.sec.stage = sgBoard ∧
    match s.hub.cfgCopy with
    | none => h.getf Fld.GEN_BOOT_STATUS_CFG_COPY = 15
    | some i => h.getf Fld.GEN_BOOT_STATUS_CFG_COPY = i)) ∧
  (∀ s : State, s.hub.sec.stage = sgBoard → s.hub.linksSettled = true → s.hub.sec.dumpOwed = false → s.hub.pwr.failsafe.owed = false →
    Runs .genReady s (fun h => h.sec.stage = sgService ∧ h.flag Fld.GEN_BOOT_STATUS_READY = true ∧
      (s.hub.isHead = true → h.time.started = true ∧ h.getf Fld.LTM_STATUS_PATH = 3) ∧
      (s.hub.isHead = false → (∀ d ∈ s.hub.offQuads, s.hub.atL0 (ownerDom d) = true) →
        Posted s.hub h Evt.GEN_READY [s.hub.resetCause, s.hub.getf Fld.GEN_BOOT_STATUS_SLOT] ∧
        ∀ d ∈ s.hub.offQuads, h.getf (Fld.PWR_DOM_MODE_TARGET d) = 4 ∧ (h.dom d).armedMgt = some 4))) ∧
  (∀ s : State, s.hub.sec.stage = sgBoard → s.hub.linksSettled = true → s.hub.sec.dumpOwed = true → Runs .genReady s (fun h =>
    h.sec.stage = sgService ∧ h.sec.dumpOwed = false))

/-- Resets, the watchdog, the fatal path and the dump (R444 to R448, R460 to R464).
Model's choices: log entries 59, 73, 74, 134, 135, 139, 159, 187. -/
def Obligations.ResetsWatchdogAndDump : Prop :=
  (∀ s : State, Runs .rstNAssert s (fun h => h.sec.inReset = true ∧ h.getf Fld.GEN_RESET_CAUSE_CLASS = 2 ∧
    h.getf Fld.GEN_HUB_ADDR_ADDR = 0x1FE ∧ h.lineMem = [])) ∧
  (∀ (m : Fin 4) (u : Bool) (s : State), s.hub.sec.inReset = true → m ≠ 3 → Runs (.rstNRelease m u) s (fun h =>
    h.sec.inReset = false ∧ h.getf Fld.GEN_STRAPS_MODE = m ∧ h.flag Fld.GEN_STRAPS_UPB_SEL = u ∧
    h.sec.stage = if s.hub.sec.railUp = 6 then sgPowered else s.hub.sec.stage)) ∧
  (∀ (v : Word) (s : State), Runs (.genReset v) s (fun h =>
    if v.toNat = 0xA5C30005 then h = { s.hub with sec := { s.hub.sec with dues := s.hub.sec.dues ++ [⟨5, 1, s.hub.tick + 1⟩] } }
    else if bits v.toNat 31 8 = 0xA5C300 ∧ 0x20 ≤ bits v.toNat 7 0 ∧ bits v.toNat 7 0 ≤ 0x37 ∧
        s.hub.domResetRefused (bits v.toNat 7 0 - 0x20) = false then
      h = { s.hub with sec := { s.hub.sec with dues := s.hub.sec.dues ++ [⟨6, bits v.toNat 7 0 - 0x20, s.hub.tick + 1⟩] } }
    else h = s.hub)) ∧
  (∀ (x : ResetDue) (s : State), s.hub.sec.dues.find? (fun x => x.cls != 6) = some x → x.cls < 16 →
    x.detail < 16 → Runs .resetExecute s (fun h => h.sec.dues = [] ∧ h.getf Fld.GEN_RESET_CAUSE_CLASS = x.cls ∧
      h.getf Fld.GEN_RESET_CAUSE_DETAIL = x.detail ∧ x.at' ≤ h.tick)) ∧
  (∀ (d : Fin 24) (x : ResetDue) (s : State), s.hub.sec.dues.find? (fun x => x.cls == 6 && x.detail == d.val) = some x →
    s.hub.domState d ≠ dmEntering → s.hub.domState d ≠ dmExiting → s.hub.domResetRefused d = false →
    Runs (.domainReset d) s (fun h => h.getf Fld.GEN_RESET_CAUSE_CLASS = 6 ∧ h.domState d = dmExiting ∧ (h.dom d).src = 2 ∧
      (h.dom d).from' = 3 ∧ (h.dom d).saved = none ∧ x.at' ≤ h.tick)) ∧
  (∀ s : State, s.hub.watched = true → s.hub.sec.lastKick + 1600 ≤ s.hub.upTick → s.hub.sec.stage1 = none → s.hub.sec.fatal = none → Runs .watchdogStage1 s (fun h =>
    h.sec.faultN = true ∧ h.sec.stage1 = some s.hub.up ∧ (∃ f, h.sec.fatal = some f ∧ f.cause = 2 ∧ f.since = s.hub.now) ∧ h.ev.recs.length ≤ s.hub.ev.recs.length + 1)) ∧
  (∀ (t : Nat) (s : State), s.hub.sec.stage1 = some t → s.hub.ranFor t 2000000000 = true → Runs .watchdogStage2 s (fun h =>
    h.sec.fatal = none ∧ h.getf Fld.GEN_RESET_CAUSE_CLASS = 3 ∧ h.getf Fld.GEN_RESET_CAUSE_DETAIL = 1)) ∧
  (∀ (c : Fin 6) (n : Nat) (s : State), c = 1 ∨ c = 3 ∨ c = 5 → Runs (.fatalPath c n) s (fun h => ∃ f, h.sec.fatal = some f ∧
    match s.hub.sec.fatal with
    | none => f.cause = c ∧ f.tick = s.hub.tick ∧ h.sec.faultN = true
    | some g => f = { g with second := true })) ∧
  (∀ (f : Fatal) (ok : Bool) (x : DumpParts) (tr : List Byte) (rs : List Nat) (s : State), s.hub.sec.fatal = some f → f.cause < 16 →
    Runs (.dumpWriteDone ok x tr rs) s (fun h =>
      if ok = true ∨ s.hub.dumpTarget f = 3 then h.sec.fatal = none ∧ h.getf Fld.GEN_RESET_CAUSE_CLASS = 7 ∧
        h.getf Fld.GEN_RESET_CAUSE_DETAIL = f.cause ∧ h.getf Fld.GEN_DUMP_STATUS_TARGET = s.hub.dumpTarget f ∧
        h.flag Fld.GEN_DUMP_STATUS_COMPLETE = true ∧ h.sec.dumpOwed = true
      else h.sec.fatal = some { f with failed := f.failed ++ [s.hub.dumpTarget f] })) ∧
  (∀ (v : Word) (s : State), s.hub.preserved = true → bit v.toNat 0 = true → Runs (.dumpRelease v) s (fun h => h.preserved = false ∧
    (∀ a, 256 * regionLo ≤ a → a < 256 * regionHi → h.memByte a = 0) ∧
    ∀ a, ¬(256 * regionLo ≤ a ∧ a < 256 * regionHi) → h.memByte a = s.hub.memByte a)) ∧
  (∀ (v : Word) (s : State), bit v.toNat 0 = false → Runs (.dumpRelease v) s (fun h => h = s.hub))

/-- Bridge requests of hosts, gadget and other hubs, and windows (R314 to R324). Windows' shared conditions are `Hub.BridgeOpen`.
Model's choices: log entries 104, 106, 107, 111. -/
def Obligations.BridgeRequestsAreQueued : Prop :=
  (∀ (w : Asker) (ok : Bool) (j : Job) (i : Nat) (s : State), s.hub.jobFor w 0x60 = some j → fbrDescOk 0x60 j.d = true →
    s.hub.mayReach w s.hub.unlocked j.d.qt false = true → s.hub.isOwn j.d.qt = true → j.d.fbrHigh = 0 →
    s.hub.BridgeOpen ⟨s.hub.addr, askerSource w⟩ j.d.fbrWin j.d.fbrOff (j.d.len / 4) →
    s.hub.flag (Fld.FBR_WIN_CFG_READ_SENSITIVE j.d.fbrWin) = true → s.hub.freeSlotFbr = some i →
    Runs (.fbrRead w ok) s (fun h => ∃ p r, Tab.get? i h.fbr.parked = some p ∧ p.ready = none ∧ p.claimed = none ∧ p.win = j.d.fbrWin ∧
      p.off = j.d.fbrOff ∧ p.count = j.d.len / 4 ∧ h.fbr.reqs = s.hub.fbr.reqs ++ [r] ∧ r.kind = .read ∧ r.slot = i ∧
      r.cs = s.hub.winCs j.d.fbrWin ∧ r.zone = s.hub.getf (Fld.FBR_WIN_ZBASE j.d.fbrWin) + j.d.fbrOff ∧ r.count = j.d.len / 4)) ∧
  (∀ (w : Asker) (b : List Byte) (j : Job) (s : State), s.hub.jobFor w 0x61 = some j → fbrDescOk 0x61 j.d = true →
    s.hub.mayReach w s.hub.unlocked j.d.qt true = true → s.hub.isOwn j.d.qt = true →
    s.hub.BridgeOpen ⟨s.hub.addr, askerSource w⟩ j.d.fbrWin j.d.fbrOff (j.d.len / 4) → s.hub.winPoisoned j.d.fbrWin = false →
    Runs (.fbrWrite w (some b)) s (fun h => ∃ r, h.fbr.reqs = s.hub.fbr.reqs ++ [r] ∧ r.kind = .write ∧ r.base = j.d.fbrOff ∧
      r.vals.length = j.d.len / 4 ∧ r.posted = !s.hub.nonPosted j.d.fbrWin j.d.fbrOff (j.d.len / 4) ∧ r.poisoned = false ∧
      ((j.d.inline = false ∧ w ≠ .gadget) → r.vals = wordsLe (j.d.len / 4) b))) ∧
  (∀ (w : Asker) (j : Job) (i : Nat) (s : State), s.hub.jobFor w 0x62 = some j → fbrDescOk 0x62 j.d = true →
    s.hub.mayReach w s.hub.unlocked j.d.qt true = true → s.hub.isOwn j.d.qt = true →
    s.hub.BridgeOpen ⟨s.hub.addr, askerSource w⟩ j.d.fbrWin j.d.fbrOff 1 → s.hub.winPoisoned j.d.fbrWin = false →
    s.hub.flag (Fld.FBR_WIN_CFG_LOCK_ALLOWED j.d.fbrWin) = true → s.hub.freeSlotFbr = some i →
    Runs (.fbrLocked w) s (fun h => ∃ p r, Tab.get? i h.fbr.parked = some p ∧ p.ready = none ∧ h.fbr.reqs = s.hub.fbr.reqs ++ [r] ∧
      r.kind = .locked ∧ r.slot = i ∧ r.mask = j.d.fbrHigh ∧ r.vals = [j.d.addr % 2 ^ 32])) ∧
  (∀ (m : Msg) (i : Nat) (t : Hub) (s : State), s.hub.takeMsg 4 [0x50] = (some m, t) → beNat (slice m.body 2 2) = 0 →
    t.BridgeOpen (msgInit m) (byteAt m.body 0) (beNat (slice m.body 4 4)) (byteAt m.body 1) →
    t.flag (Fld.FBR_WIN_CFG_READ_SENSITIVE (byteAt m.body 0)) = true → t.freeSlotFbr = some i →
    Runs .fbrReadMsg s (fun h => ∃ p r, Tab.get? i h.fbr.parked = some p ∧ p.ready = none ∧ p.who = msgInit m ∧
      h.fbr.reqs = t.fbr.reqs ++ [r] ∧ r.kind = .read ∧ r.slot = i ∧ r.base = beNat (slice m.body 4 4) ∧ r.count = byteAt m.body 1)) ∧
  (∀ (m : Msg) (t : Hub) (s : State), s.hub.takeMsg 4 [0x52] = (some m, t) →
    t.BridgeOpen (msgInit m) (byteAt m.body 0) (beNat (slice m.body 4 4)) (byteAt m.body 1) → t.winPoisoned (byteAt m.body 0) = false →
    Runs .fbrWriteMsg s (fun h => ∃ r, h.fbr.reqs = t.fbr.reqs ++ [r] ∧ r.kind = .write ∧ r.count = byteAt m.body 1 ∧
      r.posted = !t.nonPosted (byteAt m.body 0) (beNat (slice m.body 4 4)) (byteAt m.body 1) ∧
      (r.posted = false → r.back = .msg m.src m.msgId))) ∧
  (∀ (m : Msg) (i : Nat) (t : Hub) (s : State), s.hub.takeMsg 4 [0x54] = (some m, t) →
    t.BridgeOpen (msgInit m) (byteAt m.body 0) (beNat (slice m.body 4 4)) 1 → t.winPoisoned (byteAt m.body 0) = false →
    t.flag (Fld.FBR_WIN_CFG_LOCK_ALLOWED (byteAt m.body 0)) = true → t.freeSlotFbr = some i →
    Runs .fbrLockedMsg s (fun h => ∃ r, h.fbr.reqs = t.fbr.reqs ++ [r] ∧ r.kind = .locked ∧ r.slot = i ∧
      r.mask = beNat (slice m.body 8 4) ∧ r.vals = [beNat (slice m.body 12 4)])) ∧
  (∀ (v : Word) (s : State), Runs (.fbrWinClear v) s (fun h => h.winPoisoned (bits v.toNat 5 0) = false ∧
    ∀ w, w ≠ bits v.toNat 5 0 → h.winPoisoned w = s.hub.winPoisoned w)) ∧
  (∀ (w : Fin 64) (v : Word) (s : State), s.hub.flag (Fld.FBR_WIN_CFG_EN w) = false → bit v.toNat 31 = true →
    8 ≤ bits v.toNat 25 21 → bits v.toNat 25 21 ≤ 26 → Runs (.fbrWindowEnable w v) s (fun h =>
      h.getf (Fld.FBR_WIN_CFG_SIZE w) = bits v.toNat 25 21 ∧ h.winCs w = bits v.toNat 27 26 ∧
      if s.hub.winRefused w (bits v.toNat 25 21) then h.flag (Fld.FBR_WIN_CFG_EN w) = false ∧
        Posted s.hub h Evt.FBR_CFG_REFUSED [0x090100 + 16 * w, v.toNat]
      else h.flag (Fld.FBR_WIN_CFG_EN w) = true))

/-- Zone-bus cycles, parked results, the ZINT pins and polling (R312, R313, R319 to R326).
Model's choices: log entries 105, 108, 109, 110. -/
def Obligations.ZoneBusCyclesAndParkedResults : Prop :=
  (∀ (r : FbrReq) (rs : List FbrReq) (p : Parked) (ws : List Word) (s : State), s.hub.fbr.reqs = r :: rs → s.hub.busFree = true →
    r.poisoned = false → s.hub.flag (Fld.FBR_ZCS_CFG_EN r.cs) = true → Tab.get? r.slot s.hub.fbr.parked = some p →
    (r.kind = .read → r.count ≤ ws.length → Runs (.zoneBusCycle ws) s (fun h => h.fbr.reqs = rs ∧
      Tab.get? r.slot h.fbr.parked =
        some { p with words := (ws.map (fun w => w.toNat)).take r.count, zst := 0, ready := some s.hub.tick })) ∧
    (r.kind = .locked → 1 ≤ ws.length → Runs (.zoneBusCycle ws) s (fun h => h.fbr.reqs = rs ∧
      Tab.get? r.slot h.fbr.parked = some { p with words := [(ws.headD 0).toNat], zst := 0, ready := some s.hub.tick } ∧
      h.out = .zoneCycle r.cs r.zone (some (((ws.headD 0).toNat &&& (r.mask ^^^ 0xFFFFFFFF)) ||| (r.vals.headD 0 &&& r.mask))) true ::
        .zoneCycle r.cs r.zone none true :: s.hub.out)) ∧
    (r.kind = .read → ws.length < r.count → Runs (.zrdyTimeout ws) s (fun h => h.fbr.reqs = rs ∧
      Tab.get? r.slot h.fbr.parked = some { p with words := [], zst := 1, ready := some s.hub.tick }))) ∧
  (∀ (r : FbrReq) (rs : List FbrReq) (ws : List Word) (s : State), s.hub.fbr.reqs = r :: rs → s.hub.busFree = true →
    r.poisoned = false → s.hub.flag (Fld.FBR_ZCS_CFG_EN r.cs) = true → r.kind = .write →
    Runs (.zoneBusCycle ws) s (fun h => h.fbr.reqs = rs ∧
      ∀ i < r.count, Out.zoneCycle r.cs (r.zone + 4 * i) (some (r.vals.getD i 0)) false ∈ h.out) ∧
    (ws.length < r.count → r.posted = true → Runs (.zrdyTimeout ws) s (fun h => h.winPoisoned r.win = true ∧
      ∀ x ∈ h.fbr.reqs, x.win = r.win → x.posted = false ∧ (x.kind ≠ .read → x.poisoned = true)))) ∧
  (∀ (i : Fin 256) (p : Parked) (t : Nat) (s : State), Tab.get? i.val s.hub.fbr.parked = some p → p.ready = some t → p.claimed = none →
    s.hub.staleAt p t < s.hub.tick → Runs (.fbrStale i) s (fun h => Tab.get? i.val h.fbr.parked = none ∧
      Counted s.hub h Cnt.FBR_CNT_STALE 1 ∧ Posted s.hub h Evt.FBR_STALE [staleArg p (if p.who.hub = s.hub.addr then 0 else 2)])) ∧
  (∀ (i : Fin 256) (p : Parked) (t : Nat) (s : State), Tab.get? i.val s.hub.fbr.parked = some p → p.claimed = some t →
    t + 16 ≤ s.hub.tick → Runs (.fbrPrefetchExpiry i) s (fun h => Tab.get? i.val h.fbr.parked = none ∧ h.fbr.reqs = s.hub.fbr.reqs)) ∧
  (∀ (t : Nat) (l : Fin 16) (b c : Nat) (s : State), s.hub.atL0 dFBR = true → s.hub.fbr.zint = [b, c] → t % 1000 = 0 → 1000 ≤ t →
    s.hub.now ≤ t → s.hub.fbr.zintAt = some (t - 1000) →
    Runs (.zintSample t l) s (fun h =>
      let v := s.hub.getf Fld.FBR_ZINT_CFG_INV
      h.fbr.zint = [l.val, b] ∧ h.fbr.zintAt = some t ∧ h.now = t ∧ ∀ n < 4, bit (h.getf Fld.FBR_ZINT_LEVEL) n =
        if bit (l.val ^^^ v) n = bit (b ^^^ v) n ∧ bit (b ^^^ v) n = bit (c ^^^ v) n then bit (l.val ^^^ v) n
        else bit (s.hub.getf Fld.FBR_ZINT_LEVEL) n)) ∧
  (∀ (c : Fin 4) (w : Word) (s : State), s.hub.atL0 dFBR = true → s.hub.pollReady c = true →
    s.hub.flag (Fld.FBR_ZCS_CFG_EN c) = true → Runs (.fbrPoll c (some w)) s (fun h =>
      Tab.get? c.val h.fbr.polls = some ⟨w.toNat, false⟩ ∧
      h.out = .zoneCycle c (4 * s.hub.getf (Fld.FBR_ZCS_POLL_ADDR c)) none false :: s.hub.out ∧
      h.fbr.ins.length = s.hub.fbr.ins.length +
        if (Tab.get? c.val s.hub.fbr.polls).map (fun p => p.word) = some w.toNat then 0 else 1)) ∧
  (∀ (c : Fin 4) (p : FbrPoll) (s : State), s.hub.atL0 dFBR = true → s.hub.pollReady c = true →
    Tab.get? c.val s.hub.fbr.polls = some p → Runs (.fbrPoll c none) s (fun h =>
      Tab.get? c.val h.fbr.polls = some { p with failed := true } ∧
      h.fbr.ins.length = s.hub.fbr.ins.length + if p.failed then 0 else 1))

/-- CAN: releases, transmission, reception and error states (R328 to R330, R338).
Model's choices: log entries 112, 113, 114, 115, 116. -/
def Obligations.CanControllersSendAndReceive : Prop :=
  (∀ (c : Fin 4) (hi : Bool) (v : Word) (i : Fin 32) (s : State),
    let m := if hi then 32 + i.val else i.val
    bit v.toNat i = true → s.hub.flag (Fld.FBR_MB_CFG_DIR c m) = true →
    Runs (.canTxreq c hi v) s (fun h => h.mbReleased c m = true)) ∧
  (∀ (c : Fin 4) (m : Fin 64) (t : Nat) (s : State), Tab.get? c.val s.hub.fbr.canNow = some m.val → s.hub.mbReleased c m = true →
    Runs (.canTxDone c 0 t) s (fun h => h.mbReleased c m = false ∧ Out.canFrame c (s.hub.offered c m) t ∈ h.out ∧
      h.getf (Fld.FBR_CAN_STATUS_TEC c) = (s.hub.getf (Fld.FBR_CAN_STATUS_TEC c) - 1) % 256) ∧
    Runs (.canTxDone c 1 t) s (fun h => h.mbReleased c m = !s.hub.flag (Fld.FBR_CAN_CFG_ONE_SHOT c) ∧
      h.getf (Fld.FBR_CAN_STATUS_TEC c) = min 255 (s.hub.getf (Fld.FBR_CAN_STATUS_TEC c) + 8) ∧
      (s.hub.flag (Fld.FBR_CAN_CFG_ONE_SHOT c) = true → Counted s.hub h Cnt.FBR_CNT_CAN_TX_FAIL 1)) ∧
    Runs (.canTxDone c 2 t) s (fun h => h.mbReleased c m = !s.hub.flag (Fld.FBR_CAN_CFG_ONE_SHOT c) ∧
      h.getf (Fld.FBR_CAN_STATUS_TEC c) = s.hub.getf (Fld.FBR_CAN_STATUS_TEC c))) ∧
  (∀ (i : Fin 1024) (l : Launch) (s : State), s.hub.due i 0x10 = some l → l.fired = false → l.ctrl < 4 → l.mbox < 64 →
    s.hub.flag (Fld.FBR_MB_CFG_DIR l.ctrl l.mbox) = true →
    Runs (.canTx i) s (fun h =>
      if s.hub.getf (Fld.FBR_CAN_STATUS_STATE l.ctrl) < 2 then h.mbReleased l.ctrl l.mbox = true ∧
        h.canWaits l.ctrl l.mbox = s.hub.canWaits l.ctrl l.mbox ++ [i.val] ∧ l.f ≤ h.now
      else Tab.get? i.val h.time.launches = none ∧ h.fbr = s.hub.fbr)) ∧
  (∀ (c : Fin 4) (f : CanFrame) (m : Fin 64) (t : Nat) (s : State), s.hub.atL0 dFBR = true → s.hub.flag (Fld.FBR_CAN_CFG_EN c) = true →
    s.hub.getf (Fld.FBR_CAN_STATUS_STATE c) < 2 → (f.fdf = true → s.hub.flag (Fld.FBR_CAN_CFG_FD_EN c) = true) →
    (List.range 64).find? (fun m => s.hub.mbTakes c m f) = some m.val → t < 2 ^ 64 →
    Runs (.canFrameReceive c f t) s (fun h => h.flag (Fld.FBR_MB_STAT_NEW c m) = true ∧
      (s.hub.flag (Fld.FBR_MB_STAT_NEW c m) = true → h.flag (Fld.FBR_MB_STAT_LOST c m) = true) ∧
      h.getf (Fld.FBR_MB_TIME_LO c m) + 2 ^ 32 * h.getf (Fld.FBR_MB_TIME_HI c m) = t ∧
      let n := if f.rtr && !f.fdf then 0 else dlcBytes f.fdf f.dlc
      (h.mbData c m).take n = padTo n f.data ∧
        h.fbr.ins = s.hub.fbr.ins ++ [{ kind := 3, sel := 64 * c + m, frame := padTo n f.data, time := max s.hub.now t }])) ∧
  (∀ (c : Fin 4) (f : CanFrame) (t : Nat) (s : State), s.hub.atL0 dFBR = true → s.hub.flag (Fld.FBR_CAN_CFG_EN c) = true →
    s.hub.getf (Fld.FBR_CAN_STATUS_STATE c) < 2 → (f.fdf = true → s.hub.flag (Fld.FBR_CAN_CFG_FD_EN c) = true) →
    (∀ m < 64, s.hub.mbTakes c m f = false) → Runs (.canFrameReceive c f t) s (fun h => h.fbr = s.hub.fbr ∧
      Counted s.hub h Cnt.FBR_CNT_CAN_NO_MB 1 ∧ h.getf (Fld.FBR_CAN_STATUS_REC c) =
        if 127 < s.hub.getf (Fld.FBR_CAN_STATUS_REC c) then 127 else s.hub.getf (Fld.FBR_CAN_STATUS_REC c) - 1)) ∧
  (∀ (c : Fin 4) (t r : Nat) (s : State), s.hub.atL0 dFBR = true → s.hub.flag (Fld.FBR_CAN_CFG_EN c) = true →
    s.hub.getf (Fld.FBR_CAN_STATUS_STATE c) < 2 →
    (s.hub.getf (Fld.FBR_CAN_STATUS_STATE c) ≠ 1 → canStateOf t r = 1 → Runs (.canErrorStateChange c 1 t r) s (fun h =>
      h.getf (Fld.FBR_CAN_STATUS_STATE c) = 1 ∧ h.getf (Fld.FBR_CAN_STATUS_TEC c) = min 255 t ∧
      h.getf (Fld.FBR_CAN_STATUS_REC c) = min 255 r ∧ Posted s.hub h Evt.FBR_CAN_ERR_PASSIVE [c, min 255 t, min 255 r])) ∧
    (255 < t → Runs (.canErrorStateChange c 2 t r) s (fun h => Tab.get? c.val h.fbr.canNow = none ∧
      (∀ m < 64, h.canWaits c m = []) ∧ h.getf (Fld.FBR_CAN_STATUS_STATE c) = if s.hub.flag (Fld.FBR_CAN_CFG_AUTO_RECOVER c) then 3 else 2))) ∧
  (∀ (c : Fin 4) (s : State), s.hub.atL0 dFBR = true → s.hub.flag (Fld.FBR_CAN_CFG_EN c) = true →
    s.hub.getf (Fld.FBR_CAN_STATUS_STATE c) = 3 → Runs (.canBusOn c) s (fun h => h.getf (Fld.FBR_CAN_STATUS_STATE c) = 0 ∧
      h.getf (Fld.FBR_CAN_STATUS_TEC c) = 0 ∧ h.getf (Fld.FBR_CAN_STATUS_REC c) = 0 ∧ Posted s.hub h Evt.FBR_CAN_BUS_ON [c])) ∧
  (∀ (c : Fin 4) (v : Word) (s : State), Runs (.canEnable c v) s (fun h => h.flag (Fld.FBR_CAN_CFG_EN c) = bit v.toNat 31 ∧
    (s.hub.flag (Fld.FBR_CAN_CFG_EN c) = true → bit v.toNat 31 = false → Tab.get? c.val h.fbr.canNow = none) ∧
    (s.hub.flag (Fld.FBR_CAN_CFG_EN c) = false → bit v.toNat 31 = true → s.hub.getf (Fld.FBR_CAN_STATUS_STATE c) = 2 →
      h.getf (Fld.FBR_CAN_STATUS_STATE c) = 3)))

/-- The checks every management command passes before its effect, in their order, and a hub without a route (R220, R226, R227,
R230).
Model's choices: log entries 66, 71. -/
def Obligations.ManagementCommandChecks : Prop :=
  ∀ (w : Asker) (b : List Byte) (ok : Bool) (j : Job) (c : Instr) (op : Nat) (allowed : Bool) (formed may : Desc → Bool) (s : State),
    (c, op, allowed, formed, may) ∈ [
      (Instr.regRead w ok, 0x40, true, regReadOk, fun d => s.hub.mayReach w s.hub.unlocked d.qt false),
      (.regWrite w (some b), 0x41, true, regWriteOk, fun d => s.hub.mayReach w s.hub.unlocked d.qt true),
      (.ping w, 0x43, true, pingOk, fun d => s.hub.mayReach w s.hub.unlocked d.qt false),
      (.planLoad w (some b), 0x48, s.hub.headHost w, planLoadOk, fun _ => true),
      (.planArm w, 0x49, s.hub.headHost w, planArmOk, fun _ => true),
      (.planDisarm w, 0x4A, s.hub.headHost w, planArmOk, fun _ => true),
      (.planQuery w, 0x4B, s.hub.headHost w, planQueryOk, fun _ => true),
      (.launch w (some b), 0x50, true, launchOk, fun d => s.hub.mayLaunch w d.qt),
      (.launchCancel w, 0x51, true, launchCancelOk, fun d => s.hub.mayLaunch w d.qt),
      (.reset w, 0x58, true, resetOk, fun d => s.hub.mayReach w s.hub.unlocked d.qt true)] →
    s.hub.Takes w op j →
    Runs c s (fun h =>
      if allowed = false then h = s.hub.finish w j s.hub.addr stRefused 0
      else if formed j.d = false then h = s.hub.finish w j s.hub.addr stBadDesc 0
      else if may j.d = false then h = s.hub.finish w j s.hub.addr stRefused 0
      else if s.hub.isOwn j.d.qt = false ∧ j.d.qt ≠ 0x1FF then
        if s.hub.portsFor j.d.qt = [] then h = s.hub.finish w j j.d.qt stNoRoute 0 else h.Asked w j
      else True)

/-- What each management command does at the hub itself (R138 to R141, R197, R203, R227, R241, R445).
Model's choices: log entries 46, 47, 67, 70, 73, 160. -/
def Obligations.ManagementCommandsAtTheHub : Prop :=
  (∀ (w : Asker) (ok : Bool) (j : Job) (s : State), s.hub.Takes w 0x40 j → regReadOk j.d = true →
    s.hub.mayReach w s.hub.unlocked j.d.qt false = true → s.hub.isOwn j.d.qt = true → Runs (.regRead w ok) s (fun h =>
      h.Ended w j.idx ∧ (w ≠ .gadget → j.d.inline = false → ok = true →
        Out.hostWrite j.d.addr ((s.hub.readWords (j.d.len / 4) j.d.param).1.flatMap (leBytes 4)) ∈ h.out))) ∧
  (∀ (w : Asker) (b : List Byte) (j : Job) (s : State), s.hub.Takes w 0x41 j → regWriteOk j.d = true →
    s.hub.mayReach w s.hub.unlocked j.d.qt true = true → s.hub.isOwn j.d.qt = true → Runs (.regWrite w (some b)) s (fun h =>
      ∃ vals, vals.length = j.d.len / 4 ∧ h.Ended w j.idx ∧
        (w ≠ .gadget → j.d.inline = false → vals = wordsLe (j.d.len / 4) (padTo j.d.len b)) ∧
        h.lineMem = (s.hub.writeWords vals j.d.param 0 none).2.lineMem ∧ h.time = (s.hub.writeWords vals j.d.param 0 none).2.time)) ∧
  (∀ (w : Asker) (j : Job) (s : State), s.hub.Takes w 0x42 j → s.hub.headHost w = true → regHopOk j.d = true →
    Runs (.regWriteHop w) s (fun h => if s.hub.linkUp 1 then h.Asked w j else h = s.hub.finish w j 0x1FF stNoRoute 0)) ∧
  (∀ (w : Asker) (j : Job) (s : State), s.hub.Takes w 0x43 j → pingOk j.d = true → s.hub.isOwn j.d.qt = true →
    s.hub.mayReach w s.hub.unlocked j.d.qt false = true → Runs (.ping w) s (fun h => h = s.hub.finish w j s.hub.addr stOk 0)) ∧
  (∀ (w : Asker) (b : List Byte) (j : Job) (s : State), s.hub.Takes w 0x48 j → s.hub.headHost w = true → planLoadOk j.d = true →
    s.hub.isOwn j.d.qt = true → Runs (.planLoad w (some b)) s (fun h =>
      if s.hub.pend = psArmed ∨ s.hub.pend = psArmedT ∨ s.hub.pend = psHeld then h = s.hub.finish w j s.hub.addr stPlan s.hub.pend
      else ∃ d : List Byte, d.length = j.d.len ∧ h = (s.hub.openReq w j 1 false).2.takeFragment j.d.param 0 j.d.len d)) ∧
  (∀ (w : Asker) (j : Job) (s : State), s.hub.Takes w 0x49 j → s.hub.headHost w = true → planArmOk j.d = true → s.hub.isOwn j.d.qt = true →
    Runs (.planArm w) s (fun h => 
      let r := s.hub.takeArm j.d.addr j.d.param true
      h = r.2.finish w j s.hub.addr (planSt (r.1 == 0)) r.1)) ∧
  (∀ (w : Asker) (j : Job) (s : State), s.hub.Takes w 0x4A j → s.hub.headHost w = true → planArmOk j.d = true → s.hub.isOwn j.d.qt = true →
    Runs (.planDisarm w) s (fun h => 
      let r := s.hub.takeDisarm j.d.addr j.d.param
      h = r.2.finish w j s.hub.addr (planSt r.1) (if r.1 then 1 else 0))) ∧
  (∀ (w : Asker) (j : Job) (s : State), s.hub.Takes w 0x4B j → s.hub.headHost w = true → planQueryOk j.d = true →
    s.hub.isOwn j.d.qt = true → Runs (.planQuery w) s (fun h =>
      h = s.hub.finish w j s.hub.addr stOk (s.hub.pend + 256 * s.hub.planReason))) ∧
  (∀ (w : Asker) (b : List Byte) (j : Job) (s : State), s.hub.Takes w 0x50 j → launchOk j.d = true → s.hub.mayLaunch w j.d.qt = true →
    (s.hub.isOwn j.d.qt = true ∨ j.d.qt = 0x1FF) → Runs (.launch w (some b)) s (fun h => ∃ x : List LaunchPost,
      x.length = j.d.len / 32 ∧ h.time.toPost = s.hub.time.toPost ++ x ∧
      ∀ y ∈ x, y.cancel = false ∧ y.at' = j.t0 ∧ ∃ id, y.src = .own id ∧ (h.req id).isSome = true)) ∧
  (∀ (w : Asker) (j : Job) (s : State), s.hub.Takes w 0x51 j → launchCancelOk j.d = true → s.hub.mayLaunch w j.d.qt = true →
    s.hub.isOwn j.d.qt = true → Runs (.launchCancel w) s (fun h => ∃ id, h.time.toPost = s.hub.time.toPost ++
      [⟨.own id, beBytes 2 j.d.addr ++ zeros 6 ++ beBytes 8 j.d.param, true, j.t0⟩])) ∧
  (∀ (w : Asker) (j : Job) (s : State), s.hub.Takes w 0x58 j → resetOk j.d = true → s.hub.isOwn j.d.qt = true →
    s.hub.mayReach w s.hub.unlocked j.d.qt true = true → Runs (.reset w) s (fun h => h.Ended w j.idx ∧
      h.sec.dues = if j.d.addr = 5 then s.hub.sec.dues ++ [⟨5, 2, s.hub.tick + 16⟩]
        else if s.hub.domResetRefused (j.d.addr - 0x20) then s.hub.sec.dues
        else s.hub.sec.dues ++ [⟨6, j.d.addr - 0x20, s.hub.tick + 16⟩]))

/-- Messages that a hub serves and answers (R199, R203, R240, R241, R445).
Model's choices: log entries 62, 72, 73, 82. -/
def Obligations.ManagementMessagesServed : Prop :=
  ∀ (m : Msg) (t : Hub) (s : State),
    (s.hub.takeMsg 4 [0x01] = (some m, t) → Runs .regReadMsg s (fun h =>
      let r := t.readWords (min 56 (byteAt m.body 4)) (beNat (slice m.body 0 4))
      h = r.2.send m.src 0x02 m.msgId (beBytes 4 (beNat (slice m.body 0 4)) ++ beBytes 1 (min 56 (byteAt m.body 4)) ++ zeros 3 ++
        r.1.flatMap (fun v => beBytes 4 v)))) ∧
    (s.hub.takeMsg 4 [0x03] = (some m, t) → Runs .regWriteMsg s (fun h => ∃ vals, vals.length = min 56 (byteAt m.body 4) ∧
      (∀ i < vals.length, vals.getD i 0 = beNat (slice m.body (8 + 4 * i) 4)) ∧
      let r := t.writeWords vals (beNat (slice m.body 0 4)) 0 none
      h = r.2.send m.src 0x04 m.msgId (beBytes 4 (beNat (slice m.body 0 4)) ++ beBytes 1 vals.length ++
        (match r.1 with | none => [0, 0xFF] | some i => [15, BitVec.ofNat 8 i]) ++ [0]))) ∧
    (s.hub.takeMsg 4 [0x05] = (some m, t) → Runs .regWriteHopMsg s (fun h =>
      if t.isHead = true ∨ m.port ≠ 0 ∨ m.src ≠ 0 ∨ m.hops + beNat (slice m.body 0 2) ≠ 256 then h = t
      else
        let off := beNat (slice m.body 4 4)
        let r := t.hopWrite (beNat (slice m.body 0 2)) off (beNat (slice m.body 8 4))
        let c := r.2.mgmtCell tnMgmt 0 0x04 255 m.msgId (writeRsp off 1 r.1)
        h = c.2.2.sendLocal 0 c.1 c.2.1)) ∧
    (s.hub.takeMsg 4 [0x06] = (some m, t) → Runs .pingMsg s (fun h =>
      h = t.send m.src 0x07 m.msgId (slice m.body 0 8 ++ beBytes 8 t.tick))) ∧
    (s.hub.takeMsg 4 [0x20] = (some m, t) → Runs .launchMsg s (fun h => ∃ x : List LaunchPost, x.length = min 7 (byteAt m.body 0) ∧
      h.time.toPost = t.time.toPost ++ x ∧ ∀ y ∈ x, y.src = .msg m.src m.msgId ∧ y.cancel = false ∧ y.at' = m.tick + 1 ∧
        y.bytes.length = 32)) ∧
    (s.hub.takeMsg 4 [0x21] = (some m, t) → Runs .launchCancelMsg s (fun h => ∃ y : LaunchPost,
      h.time.toPost = t.time.toPost ++ [y] ∧ y.src = .msg m.src m.msgId ∧ y.cancel = true ∧ y.at' = m.tick + 1)) ∧
    (s.hub.takeMsg 4 [0x38] = (some m, t) → Runs .resetMsg s (fun h => h.sec.dues =
      if byteAt m.body 0 = 5 then t.sec.dues ++ [⟨4, 0, t.tick + 1⟩]
      else if resetByteOk (byteAt m.body 0) = true ∧ t.domResetRefused (byteAt m.body 0 - 0x20) = false then
        t.sec.dues ++ [⟨6, byteAt m.body 0 - 0x20, t.tick + 1⟩]
      else t.sec.dues))

/-- Answers to a hub's own requests, relayed events and requests that time out (R227, R231, R239, R242).
Model's choices: log entries 67, 68, 69, 160. -/
def Obligations.AnswersReachTheirRequests : Prop :=
  (∀ (ok : Bool) (m : Msg) (t : Hub) (q : Req) (s : State),
    s.hub.takeMsg 4 [0x02, 0x04, 0x07, 0x12, 0x15, 0x23, 0x39, 0x51, 0x53] = (some m, t) → m.msgId ≠ 0 →
    Runs (.responseReceive ok) s (fun h =>
      (t.req m.msgId = none → h = t.count Cnt.HIF_CNT_LATE_RSP 1) ∧
      (t.req m.msgId = some q → q.dead = false → q.hub ≠ 0x1FF → h.req m.msgId = none ∧ h.Ended q.who q.idx))) ∧
  (∀ (m : Msg) (t : Hub) (q : Req) (s : State), s.hub.takeMsg 4 [0x22] = (some m, t) → byteAt m.body 0 = 1 →
    t.req m.msgId = some q → q.left = 1 → q.hub ≠ 0x1FF → q.dead = false → Runs .launchDoneReceive s (fun h =>
      h.req m.msgId = none ∧ h.Ended q.who q.idx)) ∧
  (∀ (m : Msg) (t : Hub) (e : EvRec) (s : State), s.hub.takeMsg 4 [0x28] = (some m, t) →
    recsOf (min 14 (byteAt m.body 0)) (m.body.drop 8) = [e] → Runs .eventRelayReceive s (fun h =>
      h = if t.isHead then (t.tellHost e true).gadgetEvent e true else t)) ∧
  (∀ (id : Fin 65536) (q : Req) (s : State), s.hub.req id = some q → q.hub ≠ s.hub.addr →
    q.t0 + s.hub.getf Fld.HIF_MGMT_TIMEOUT_TICKS ≤ s.hub.tick → Runs (.mgmtRequestTimeout id) s (fun h =>
      h.req id = none ∧ (q.dead = false → h.Ended q.who q.idx) ∧ (q.dead = true → h.out = s.hub.out)))

/-- Loading a section, its checks, and the comparison with the neighbours (R134, R137 to R140). The head answers its own PLAN_LOAD
commands where a node reports, hence the premise on them.
Model's choices: log entries 26, 41, 42, 47, 160, 169, 173, 174. -/
def Obligations.PlanSectionsLoadAndPeer : Prop :=
  (∀ (m : Msg) (t : Hub) (s : State), s.hub.takeMsg 4 [0x10] = (some m, t) → t.planMsg m = true →
    Runs .planLoadFragment s (fun h =>
      let e := beNat (slice m.body 0 4)
      let o := beNat (slice m.body 4 4)
      let n := beNat (slice m.body 8 4)
      let d := slice m.body 12 (min 220 (n - o))
      if t.pend = psArmed ∨ t.pend = psArmedT ∨ t.pend = psHeld then h = t.sendPlanStatus 0 0
      else if o = 0 ∧ t.startsLoad e = true then h.getf Fld.PLN_PEND_EPOCH = e ∧ h.plan.image = d ∧ h.plan.total = n ∧
        h.pend = if d.length = n then psChecking else psLoading
      else if t.pend = psLoading ∧ e = t.plan.loadEpoch ∧ o = t.plan.image.length ∧ n = t.plan.total then
        h.plan.image = (t.plan.image ++ d).take n ∧ h.plan.fragAt = t.tick ∧
          h.pend = if h.plan.image.length = n then psChecking else psLoading
      else h.plan.image = t.plan.image ∧ h.pend = t.pend ∧ Counted t h Cnt.PLN_CNT_FRAG_DISCARD 1)) ∧
  (∀ (f : LoadFail) (s : State), (s.hub.isHead = true → s.hub.localLoads = []) → s.hub.pend = psChecking →
    s.hub.loadSec s.hub.plan.image = .inr f → Runs .planCheckDone s (fun h => h.pend = psFailed ∧
      h.getf Fld.PLN_FAIL_REASON = f.code % 256 ∧ h.getf Fld.PLN_FAIL_RECORD = f.record % 16 ∧ h.plan.banks = s.hub.plan.banks)) ∧
  (∀ (c : Sec) (s : State), (s.hub.isHead = true → s.hub.localLoads = []) → s.hub.pend = psChecking →
    s.hub.loadSec s.hub.plan.image = .inl c → c.epoch = s.hub.getf Fld.PLN_PEND_EPOCH → s.hub.plan.digests = [] →
    Runs .planCheckDone s (fun h => Tab.get? s.hub.pendBank h.plan.banks = some c ∧ h.plan.pairsCopy = some (c.epoch, c.pairs) ∧
      h.pend = (if s.hub.linkUp 0 || s.hub.linkUp 1 then psPeering else psReady) ∧
      h.flag Fld.PLN_STATUS_PEER_SKIP_U = !s.hub.linkUp 0 ∧ h.flag Fld.PLN_STATUS_PEER_SKIP_D = !s.hub.linkUp 1)) ∧
  (∀ (m : Msg) (t : Hub) (s : State), s.hub.takeMsg 4 [0x13] = (some m, t) → Runs .hopDigestReceive s (fun h =>
    Tab.get? m.port h.plan.digests = some m.body ∧ h.plan.banks = t.plan.banks)) ∧
  (∀ s : State, (s.hub.isHead = true → s.hub.localLoads = []) → s.hub.pend = psLoading → s.hub.plan.fragAt + 257 ≤ s.hub.tick →
    Runs .planLoadTimeout s (fun h => h.pend = psFailed ∧ h.getf Fld.PLN_FAIL_REASON = 0x13)) ∧
  (∀ s : State, (s.hub.isHead = true → s.hub.localLoads = []) → s.hub.pend = psPeering → s.hub.plan.checkAt + 513 ≤ s.hub.tick →
    Runs .planPeerTimeout s (fun h => h.pend = psFailed ∧ h.getf Fld.PLN_FAIL_REASON = 0x12)) ∧
  (∀ (m : Msg) (t : Hub) (s : State), s.hub.takeMsg 4 [0x11] = (some m, t) → t.planMsg m = true →
    Runs .planQueryMsg s (fun h => h = t.send 0 0x12 m.msgId (t.planStatusBody t.planReason)))

/-- Arming and disarming at a node, by the rows of R141 (R140, R141).
Model's choices: log entries 8, 43, 46, 160, 169. -/
def Obligations.PlanArmsAndDisarms : Prop :=
  (∀ (m : Msg) (t : Hub) (s : State), s.hub.takeMsg 4 [0x14] = (some m, t) → t.planMsg m = true →
    let e := beNat (slice m.body 0 4)
    let x := beNat (slice m.body 4 8)
    Runs .planArmMsg s (fun h =>
      if e ≤ t.getf Fld.PLN_ACTIVE_EPOCH then t.rejoins e (m.dst != 0x1FF) = false → h.plan = t.plan ∧ h.pend = t.pend
      else match t.plan.armed with
        | some _ => h.plan = t.plan ∧ h.pend = t.pend
        | none => t.getf Fld.TRK_RING_STATUS_STATE ≠ 1 →
          if x ≤ t.tick then h.plan = { t.plan with entryDue := some (3, e) } ∧ h.pend = t.pend
          else if x < t.tick + 64 then h.pend = psArmedT ∧ h.plan = { t.plan with armed := some ⟨e, x, false, 2, t.tick⟩ }
          else if t.pend = psReady ∧ t.getf Fld.PLN_PEND_EPOCH = e then
            h.pend = psArmed ∧ h.plan = { t.plan with armed := some ⟨e, x, false, 0, t.tick⟩ } ∧
              h.getf Fld.PLN_ARM_TICK_LO + 2 ^ 32 * h.getf Fld.PLN_ARM_TICK_HI = x
          else h.pend = psArmedT ∧ h.plan = { t.plan with armed := some ⟨e, x, false, 1, t.tick⟩ })) ∧
  (∀ (m : Msg) (a : Armed) (t : Hub) (s : State), s.hub.takeMsg 4 [0x16] = (some m, t) → t.planMsg m = true →
    t.plan.armed = some a → Runs .planDisarmMsg s (fun h =>
      if a.epoch = beNat (slice m.body 0 4) ∧ a.at' = beNat (slice m.body 4 8) ∧ t.tick + 1 ≤ a.at' then h.plan.armed = none ∧
        h.pend = if t.secValid then (if t.plan.ready then psReady else psPeering) else psFailed
      else h.plan = t.plan ∧ h.pend = t.pend))

/-- Switches, the transparent plan, plan B and newer epochs (R111, R114, R140, R142, R145 to R148).
Model's choices: log entries 8, 39, 40, 43, 44, 45. -/
def Obligations.EpochsSwitch : Prop :=
  (∀ (a : Armed) (c : Sec) (s : State), s.hub.plan.armed = some a → s.hub.pendSec = some c → s.hub.pend = psArmed → a.at' ≤ s.hub.toBoundary.tick + 8 →
    s.hub.toBoundary.tick < a.at' → (∀ d ∈ c.needs, d < 24) → Runs .switchPrepare s (fun h => h.plan = s.hub.plan ∧ h.now = s.hub.toBoundary.now ∧ ∀ d ∈ c.needs, s.hub.domState d = dmStable →
      s.hub.domStep d ≠ 0 → h.domState d = dmExiting)) ∧
  (∀ (a : Armed) (c : Sec) (s : State), s.hub.blk.out = [] → s.hub.plan.armed = some a → s.hub.pendSec = some c → s.hub.pend = psArmed →
    a.at' ≤ s.hub.toBoundary.tick → c.epoch < 2 ^ 32 → a.at' < 2 ^ 64 → (∀ e ∈ s.hub.hif.rings, e.1 < 1024) →
    Runs .epochSwitch s (fun h => h.now = s.hub.toBoundary.now ∧ h.getf Fld.PLN_ACTIVE_EPOCH = c.epoch ∧
      h.pend = psHeld ∧ h.loadedPlan = true ∧ h.actBank = s.hub.pendBank ∧ h.plan.armed = none ∧ h.plan.tunnels.map (fun e => e.1) =
        c.tunnels.map (fun e => e.1) ∧
      h.getf Fld.PLN_LAST_SWITCH_LO + 2 ^ 32 * h.getf Fld.PLN_LAST_SWITCH_HI = a.at' ∧
      (∃ v, h.plan.prev = some v ∧ v.at' = a.at' ∧ v.epoch = s.hub.getf Fld.PLN_ACTIVE_EPOCH ∧ v.tunnels = s.hub.plan.tunnels) ∧
      (∀ u, c.carve = some u → h.pool.carve = 256 * u) ∧ h.getf Fld.GEN_SETUP_OPEN = 0)) ∧
  (∀ (a : Armed) (s : State), s.hub.blk.out = [] → s.hub.plan.armed = some a → s.hub.pend = psArmedT →
    a.at' ≤ s.hub.toBoundary.tick →
    a.epoch < 2 ^ 32 → a.reason < 16 → Runs .transparentSwitch s (fun h => h.loadedPlan = false ∧ h.now = s.hub.toBoundary.now ∧
      h.getf Fld.PLN_ACTIVE_EPOCH = a.epoch ∧ h.getf Fld.PLN_STATUS_TRANSP_REASON = a.reason ∧ h.plan.armed = none ∧
      (h.pend = psReady ∨ h.pend = psEmpty) ∧ (∃ v, h.plan.prev = some v ∧ v.at' = a.at'))) ∧
  (∀ (r e : Nat) (s : State), s.hub.blk.out = [] → s.hub.plan.entryDue = some (r, e) → e < 2 ^ 32 → r < 16 →
    Runs .transparentEntry s (fun h => h.loadedPlan = false ∧ h.now = s.hub.toBoundary.now ∧ h.getf Fld.PLN_ACTIVE_EPOCH = e ∧
      h.getf Fld.PLN_STATUS_TRANSP_REASON = r ∧ h.plan.entryDue = none ∧ h.pend = s.hub.pend)) ∧
  (∀ (v : PrevEpoch) (s : State), s.hub.plan.prev = some v → v.at' + 16 ≤ s.hub.tick → Runs .heldBankRelease s (fun h =>
    h.plan.prev = none ∧ h.pend = (if s.hub.pend = psHeld then psEmpty else s.hub.pend) ∧
    (s.hub.pend = psHeld → Tab.get? s.hub.pendBank h.plan.banks = none))) ∧
  (∀ (p : Fin 2) (e : Nat) (s : State), s.hub.newerSeen p = some e → e < 2 ^ 32 →
    (s.hub.loadedPlan = false → Runs (.epochAdopt p) s (fun h => h.getf Fld.PLN_ACTIVE_EPOCH = e ∧ h.plan.newer = [])) ∧
    (s.hub.loadedPlan = true → s.hub.ring.brk = none → Runs (.epochMismatch p) s (fun h => h.plan.entryDue = some (6, e) ∧
      Posted s.hub h Evt.PLN_EPOCH_MISMATCH [p, e]))) ∧
  (∀ (b : Break) (c : Sec) (s : State), s.hub.ring.brk = some b → s.hub.ringState' = rgScheduled → b.entry ≤ s.hub.toBoundary.tick →
    s.hub.loadedPlan = true → s.hub.plan.prev = none → s.hub.actSec = some c → Runs .planBEntry s (fun h =>
      h.ringState' = (if c.ring then rgPlanB else rgBroken) ∧ h.plan = s.hub.plan ∧
      (c.ring = true → Posted s.hub.toBoundary h Evt.PLN_PLAN_B [b.hop, s.hub.toBoundary.tick]))) ∧
  (∀ (b : Break) (v : PrevEpoch) (s : State), s.hub.blk.out = [] → s.hub.ring.brk = some b → s.hub.ringState' = rgScheduled →
    b.entry ≤ s.hub.toBoundary.tick → s.hub.plan.prev = some v → b.detect ≤ v.at' → v.epoch < 2 ^ 32 →
    Runs .planBEntry s (fun h => h.getf Fld.PLN_ACTIVE_EPOCH = v.epoch ∧ h.flag Fld.TRK_RING_STATUS_REVERTED = true ∧
      h.flag Fld.PLN_STATUS_TRANSPARENT = v.transparent ∧ h.plan.prev = none ∧ h.pend = psReady))

/-- Entries, exits, wakes, wake failures and the accounting word of a domain (R403 to R407, R409, R412, R415, R416).
Model's choices: log entries 131, 132, 133, 155, 185. -/
def Obligations.PowerDomainsEnterAndWake : Prop :=
  (∀ (d : Fin 24) (v : Word) (ctl : Bool) (s : State), 1 ≤ bits v.toNat 2 0 → bits v.toNat 2 0 ≤ 4 →
    s.hub.atL0 (ownerDom d) = true →
    Runs (.pwrEntryArm d v ctl) s (fun h => h.getf (Fld.PWR_DOM_MODE_TARGET d) = bits v.toNat 2 0 ∧
      h.flag (Fld.PWR_DOM_MODE_ARMED d) = true ∧ h.domState d = s.hub.domState d ∧ h.domStep d = s.hub.domStep d ∧
      h.dom d = if ctl then { s.hub.dom d with armedCtl := some (bits v.toNat 2 0) }
        else { s.hub.dom d with armedMgt := some (bits v.toNat 2 0) })) ∧
  (∀ (d : Fin 24) (ctl : Bool) (s : State), Runs (.pwrWakeRequest d ctl) s (fun h =>
    match s.hub.wakeRefuser d with
    | some r => Counted s.hub h (Cnt.PWR_CNT_REFUSED d) 1 ∧ h.getf (Fld.PWR_REFUSE_LAST_ID d) = r ∧ h.domState d = s.hub.domState d
    | none => if s.hub.failsafeHolds d then h.domState d = s.hub.domState d ∧ h.domStep d = s.hub.domStep d
      else (h.dom d).armedCtl = none ∧ (h.dom d).armedMgt = none ∧ (h.dom d).grant = some (s.hub.tick, 0) ∧
      (s.hub.domState d = dmStable → s.hub.domStep d ≠ 0 → h.domState d = dmExiting ∧ (h.dom d).src = if ctl then 1 else 2) ∧
      (s.hub.domState d = dmEntering → (h.dom d).wakeMet = some (if ctl then 1 else 2)))) ∧
  (∀ (d : Fin 24) (s : State), s.hub.domState d = dmEntering → (s.hub.dom d).target ≤ 4 → Runs (.pwrEntryDone d) s (fun h =>
    h.domStep d = (s.hub.dom d).target ∧ ((s.hub.dom d).wakeMet.isSome = true → h.domState d = dmExiting) ∧
    ((s.hub.dom d).wakeMet = none → match (s.hub.dom d).next with
      | none => h.domState d = dmStable
      | some (k, _) => (s.hub.dom d).target < k → h.domState d = dmEntering ∧ (h.dom d).target = k) ∧
    ((h.dom d).saved.isSome = true ↔ ((s.hub.dom d).target = 3 ∧ s.hub.flag Fld.PWR_CTL_SAVE_EN = true) ∨
      ((s.hub.dom d).target < 3 ∧ (s.hub.dom d).saved.isSome = true)))) ∧
  (∀ (d : Fin 24) (t : Nat) (s : State), s.hub.domState d = dmExiting → (s.hub.dom d).next = none →
    s.hub.up ≤ (s.hub.dom d).exitAt + 100 * t → 100 * t ≤ (s.hub.dom d).exitLimit → Runs (.pwrExitDone d t) s (fun h =>
    h.domState d = dmStable ∧ h.domStep d = 0 ∧ (h.dom d).saved = none ∧
    h.getf (Fld.PWR_WAKE_REC_1_EXIT_TIME d) = min 0xFFFF t ∧ h.getf (Fld.PWR_WAKE_REC_1_SOURCE d) = (s.hub.dom d).src % 16 ∧
    (3 ≤ (s.hub.dom d).from' → (s.hub.dom d).saved = none → (d.val = dUSBPD → s.hub.sec.boardTcp = none) →
      (d.val = dHDMA → s.hub.sec.boardBar2 = false) → ∀ f : Fl, domainOf (f.key / 32) = some d.val → h.getf f = f.rst) ∧
    ((s.hub.dom d).from' < 3 → d.val ∉ [dUSBPD, dDSP, dBLK] → ∀ f : Fl, domainOf (f.key / 32) = some d.val → h.getf f = s.hub.getf f))) ∧
  (∀ (d : Fin 24) (u : Nat) (s : State), s.hub.wakeDue d = some u → s.hub.failsafeHolds d = false →
    s.hub.domState d = dmStable → s.hub.domStep d ≠ 0 → Runs (.pwrScheduledWake d) s (fun h => h.domState d = dmExiting ∧ (h.dom d).src = 3 ∧
      (h.dom d).sched = none ∧ h.now = max s.hub.now u)) ∧
  (∀ (d : Fin 24) (s : State), s.hub.wakeRefuser d = none → s.hub.failsafeHolds d = false → s.hub.domState d = dmStable →
    s.hub.domStep d ≠ 0 →
    Runs (.pwrHwWake d) s (fun h => if d = 4 ∨ d = 11 then h.domState d = dmExiting ∧ (h.dom d).src = 9 else h = s.hub)) ∧
  (∀ (d : Fin 24) (s : State), (∀ e ∈ s.hub.hif.rings, e.1 < 1024) → s.hub.domState d = dmExiting →
    Runs (.pwrWakeTimeout d none) s (fun h => h.domState d = dmFailed ∧ h.domStep d = 3 ∧
      (h.dom d).failAt = (s.hub.dom d).exitAt + (s.hub.dom d).exitLimit ∧
      h.getf (Fld.PWR_DOM_STATUS_RETRIES d) = 0 ∧ h.flag (Fld.PWR_WAKE_REC_1_FAIL d) = true)) ∧
  (∀ (d : Fin 24) (k : Fin 8) (s : State), d.val ≤ 3 → (s.hub.lane (d / 2) k).waking = true → (s.hub.laneFail d k).failed = false →
    Runs (.pwrWakeTimeout d (some k)) s (fun h => (h.laneFail d k).retries = 0 ∧ (h.laneFail d k).failed = true ∧
      (h.laneFail d k).failAt = (s.hub.lane (d / 2) k).wakeAt + laneLimit ∧
      Counted s.hub h (Cnt.PWR_CNT_WAKE_FAIL d) 1)) ∧
  (∀ (d : Fin 24) (t : Option Nat) (u : Nat) (s : State), s.hub.retryEnd d t = some u →
    Runs (.pwrWakeRetry d none t) s (fun h => match t with
      | some x => h.domState d = dmStable ∧ h.domStep d = 0 ∧ h.getf (Fld.PWR_DOM_STATUS_RETRIES d) = 0 ∧
        h.getf (Fld.PWR_WAKE_REC_1_EXIT_TIME d) = min 0xFFFF x
      | none => h.getf (Fld.PWR_DOM_STATUS_RETRIES d) = s.hub.getf (Fld.PWR_DOM_STATUS_RETRIES d) + 1 ∧
        Counted s.hub h (Cnt.PWR_CNT_WAKE_FAIL d) 1 ∧
        h.domState d = s.hub.domState d)) ∧
  (∀ (d : Fin 24) (k : Fin 8) (s : State), d.val ≤ 3 → (s.hub.laneFail d k).failed = true → (s.hub.laneFail d k).retries < 3 →
    (∀ y : Nat, let u := retryAt (s.hub.laneFail d k).failAt ((s.hub.laneFail d k).retries + 1) + 100 * y
      100 * y ≤ laneLimit → s.hub.up ≤ u → Runs (.pwrWakeRetry d (some k) (some y)) s (fun h => h.laneFail d k = {} ∧
        Posted (s.hub.upTo u) h Evt.PWR_WAKE_RECOVERED [d, (s.hub.laneFail d k).retries + 1])) ∧
    Runs (.pwrWakeRetry d (some k) none) s (fun h => (h.laneFail d k).retries = (s.hub.laneFail d k).retries + 1 ∧
      ((s.hub.laneFail d k).retries = 2 → h.flag (Fld.TRK_PAIR_STATUS_FAULTY (8 * (d.val / 2) + k)) = true))) ∧
  (∀ (d : Fin 24) (v : Word) (s : State), s.hub.domState d = dmFailed → 3 ≤ s.hub.getf (Fld.PWR_DOM_STATUS_RETRIES d) →
    bit v.toNat 0 = true → Runs (.pwrDomRetry d v) s (fun h => h.domState d = dmExiting ∧ (h.dom d).src = 7 ∧ (h.dom d).from' = 3 ∧
      h.getf (Fld.PWR_DOM_STATUS_RETRIES d) = 0)) ∧
  (∀ (d : Fin 24) (s : State), Runs (.pwrRefuseClear d) s (fun h => h.getf (Fld.PWR_REFUSE_COUNT d) = 0 ∧
    h.getf (Fld.PWR_REFUSE_LAST_ID d) = 0 ∧ h.getf (Fld.PWR_REFUSE_LAST_STEP d) = 0 ∧ h.getf (Fld.PWR_REFUSE_LAST_ABORT d) = 0 ∧
    h.pwr = s.hub.pwr))

/-- The flip mask, the error log, sensors, eye scans, FET histories and droops (R420, R424, R425, R428 to R430, R432).
Model's choices: log entries 90, 146, 153, 157, 158, 186. -/
def Obligations.MemoryIntegrityAndAgeing : Prop :=
  (∀ s : State, Runs .linkRamAuditDone s (fun h => h.pool.lost = [] ∧ h.pool.queues = s.hub.pool.queues)) ∧
  (∀ (v : Word) (s : State), Runs (.flipArm v) s (fun h =>
    if bit v.toNat 31 = true ∧ s.hub.deployed = true ∧ ¬(s.hub.flag Fld.SEC_DBG_CTL_OPEN = true ∧ bit s.hub.sec.dbgScope 1 = true) then
      Posted s.hub h Evt.GEN_LOCKED_WRITE [0x0E002C, v.toNat] ∧ h.flag Fld.REL_FLIP_CTL_ARM = s.hub.flag Fld.REL_FLIP_CTL_ARM
    else h.flag Fld.REL_FLIP_CTL_ARM = bit v.toNat 31 ∧
      h.getf Fld.REL_FLIP_CTL_MEM = if bits v.toNat 3 0 = 15 then s.hub.getf Fld.REL_FLIP_CTL_MEM else bits v.toNat 3 0)) ∧
  (∀ (w : Fin 8388608) (s : State), s.hub.flag Fld.REL_FLIP_CTL_ARM = true → Runs (.flipApply w) s (fun h =>
    h.flag Fld.REL_FLIP_CTL_ARM = false ∧ Counted s.hub h Cnt.REL_CNT_FLIPS 1 ∧
    Tab.get? (eccKey (s.hub.getf Fld.REL_FLIP_CTL_MEM) w) h.rel.flips = if s.hub.flipMask = 0 then none else some s.hub.flipMask)) ∧
  (∀ s : State, Runs .eccLogClear s (fun h => (∀ e < 16, h.logValid e = false) ∧ h.rel = s.hub.rel ∧ h.cnts = s.hub.cnts)) ∧
  (∀ (n : Fin 48) (x : BitVec 16) (t : Byte) (s : State), s.hub.atL0 (n / 2) = true → s.hub.rel.locks.contains (.dom (n / 2)) = false →
    (Tab.get? n.val s.hub.rel.roAt).all (fun t => t / ticksPerHour != s.hub.upTick / ticksPerHour) = true → Runs (.roSample n x t) s (fun h => h.getf (Fld.REL_RO_DELTA n) = x.toNat ∧ h.getf (Fld.REL_RO_TEMP n) = t.toNat ∧
      h.flag (Fld.REL_RO_VALID n) = true ∧ Tab.get? n.val h.rel.roAt = some s.hub.upTick)) ∧
  (∀ (p : Fin 2) (k : Fin 8) (s : State), s.hub.linkUp p = true → s.hub.dir p k = dirIn →
    s.hub.flag (Fld.TRK_PAIR_STATUS_RX_SLEEP (8 * p + k)) = false → s.hub.scanPaused p k = false →
    Tab.get? (8 * p.val + k.val) s.hub.rel.scans = none →
    (Tab.get? (8 * p.val + k.val) s.hub.rel.scanFrom).all (fun t => decide (t + 60 * ticksPerSec ≤ s.hub.upTick)) = true →
    Runs (.eyeScanRoutine p k) s (fun h => Tab.get? (8 * p.val + k.val) h.rel.scans = some [] ∧ h.regs = s.hub.regs)) ∧
  (∀ (p : Fin 2) (k : Fin 8) (b : Bool) (x : List Bool) (s : State), Tab.get? (8 * p.val + k.val) s.hub.rel.scans = some x →
    s.hub.scanPaused p k = false → s.hub.nextPairs = none → Tab.get? (8 * p.val + k.val) s.hub.rel.scanPt ≠ some s.hub.upTick →
    Runs (.eyeScanPoint p k b) s (fun h =>
      if x.length + 1 < 96 then Tab.get? (8 * p.val + k.val) h.rel.scans = some (x ++ [b])
      else Tab.get? (8 * p.val + k.val) h.rel.scans = none ∧ h.flag (Fld.REL_MARGIN_VALID (8 * p + k)) = true ∧
        h.getf (Fld.REL_MARGIN_MH (8 * p + k)) = longestRun ((x ++ [b]).take 64))) ∧
  (∀ (t : Nat) (s : State), s.hub.rel.waitFrom = some t → s.hub.anyStaged = true →
    t + s.hub.getf Fld.REL_CFG_WAIT_H * ticksPerHour ≤ s.hub.upTick → Runs .replanWaitExpiry s (fun h => h.rel.waitFrom = some s.hub.upTick ∧
      (s.hub.ev.used < 2048 → h.ev.recs = s.hub.ev.recs ++ [s.hub.evRec Evt.REPLAN_ADVICE .notice [s.hub.adviceArg 5 0]]))) ∧
  (∀ (c : Fin 8) (b : Fin 5) (s : State), Runs (.fetHistoryUpdate c b) s (fun h =>
    if b = 4 then h.getf (Fld.REL_FET_HIST c 4) = min 0xFFFFFFFF (s.hub.getf (Fld.REL_FET_HIST c 4) + (s.hub.chan c).cycles) ∧
      (h.chan c).cycles = 0 ∧ (h.chan c).bandUs = (s.hub.chan c).bandUs
    else h.getf (Fld.REL_FET_HIST c b) =
        min 0xFFFFFFFF (s.hub.getf (Fld.REL_FET_HIST c b) + (s.hub.chan c).bandUs.getD b 0 / 3600000000) ∧
      (h.chan c).bandUs.getD b 0 = (s.hub.chan c).bandUs.getD b 0 % 3600000000 ∧ (h.chan c).cycles = (s.hub.chan c).cycles)) ∧
  (∀ (r : Fin 4) (s : State), Runs (.voltageDroop r) s (fun h => Counted s.hub h (Cnt.REL_CNT_DROOP r) 1))

/-- Maintenance activities: requests, their answers, and how they end (R427, R434 to R437).
Model's choices: log entries 147, 148, 149, 150, 151, 152, 186. -/
def Obligations.MaintenanceActivities : Prop :=
  (∀ (g : Byte) (x : Fin 262144) (c : Instr) (t : Nat) (l : LockOn) (ok : Bool) (s : State),
    (c, t) ∈ [(Instr.eyeScan g x, 1), (.bist g x, 3), (.rowRepair g x, 4), (.ageingSample g x, 5), (.fuseTest g x, 6)] →
    s.hub.rel.serial < 4096 → s.hub.maintTarget t x = some (l, ok) → Runs c s (fun h =>
      h.getf Fld.REL_MAINT_RESULT_TAG = g.toNat ∧
      match s.hub.lockRefusal t [l] with
      | some (code, _, _) => h.getf Fld.REL_MAINT_RESULT_CODE = code ∧ h.rel = s.hub.rel
      | none =>
        if ok then ∃ a, h.rel.acts = s.hub.rel.acts ++ [a] ∧ a.type = t ∧ a.locks = [l] ∧ a.target = x.val ∧ a.at' = s.hub.up ∧
          h.getf Fld.REL_MAINT_RESULT_CODE = 0 ∧ h.getf Fld.REL_MAINT_RESULT_ID = a.id
        else h.getf Fld.REL_MAINT_RESULT_CODE = 3 ∧ h.rel = s.hub.rel)) ∧
  (∀ (i : Fin 65536) (a : Act) (b : Nat) (s : State), s.hub.actBy i = some a → a.locks = [.bank b] → a.testing = false →
    s.hub.bankClear b = true → s.hub.fenceOver a = false → Runs (.bistTestStart i) s (fun h => h.actBy i = some { a with testing := true } ∧
      h.getf (Fld.REL_MAINT_STAT_0_STATE a.slot) = 2)) ∧
  (∀ (i : Fin 65536) (a : Act) (s : State), s.hub.actBy i = some a →
    (a.type = mtBist → a.testing = false → s.hub.fenceOver a = true →
      Runs (.bistFenceTimeout i) s (fun h => h.actBy i = none ∧ h.getf (Fld.REL_MAINT_STAT_0_STATE a.slot) = 4 ∧
        h.getf (Fld.REL_MAINT_STAT_0_CAUSE a.slot) = 5)) ∧
    Runs (.maintStop i) s (fun h => if a.type = mtLoop then h = s.hub
      else h.actBy i = none ∧ h.getf (Fld.REL_MAINT_STAT_0_STATE a.slot) = 4 ∧ h.getf (Fld.REL_MAINT_STAT_0_CAUSE a.slot) = 1 ∧
        Posted s.hub h Evt.REL_MAINT_ABORT [a.id, 1])) ∧
  (∀ (i : Fin 65536) (a : Act) (s : State), s.hub.actBy i = some a → a.slot < 4 → s.hub.ranFor a.at' a.length = true →
    (∀ (n : Nat) (m : List Nat), a.locks = [.pair n] → a.type = mtEye → Runs (.maintDone i (.eye m)) s (fun h =>
      h.actBy i = none ∧ Tab.get? a.slot h.rel.eyeMaps = some ((m.take 2048).map (fun x => min 0xFFFF x)) ∧
      h.getf (Fld.REL_MAINT_STAT_0_STATE a.slot) = 3)) ∧
    (∀ (b : Nat) (rows : List Nat), a.locks = [.bank b] → a.testing = true → Runs (.maintDone i (.bist rows)) s (fun h =>
      h.actBy i = none ∧ (∀ x ∈ rows, x < 8192 → (b, x) ∈ h.rel.outRows) ∧
      h.getf (Fld.REL_MAINT_STAT_3_RESULT a.slot) = (rows.filter (fun x => decide (x < bistRows))).eraseDups.length)) ∧
    (∀ b r : Nat, a.locks = [.row b r] → Runs (.maintDone i .repair) s (fun h => h.actBy i = none ∧
      h.rel.repairs = s.hub.rel.repairs ++ [(b, r, s.hub.nextSpare b)])) ∧
    (∀ (d : Fin 24) (u v : BitVec 16) (t : Byte), a.locks = [.dom d] → Runs (.maintDone i (.deltas u v t)) s (fun h =>
      h.actBy i = none ∧ h.getf (Fld.REL_RO_DELTA (2 * d)) = u.toNat ∧ h.getf (Fld.REL_RO_DELTA (2 * d + 1)) = v.toNat)) ∧
    (∀ (c : Fin 8) (x : Nat), a.locks = [.chan c] → 1000 ≤ (s.hub.chan c).i.natAbs → Runs (.maintDone i (.rdson x)) s (fun h => h.actBy i = none ∧
      h.getf (Fld.REL_FET_HIST c 5) = x % 2 ^ 32)) ∧
    (∀ w f : Nat, a.locks = [.fuses] → Runs (.maintDone i (.fuses w f)) s (fun h => h.actBy i = none ∧
      h.getf (Fld.REL_MAINT_STAT_3_RESULT a.slot) = min 0xFFFF w * 2 ^ 16 + min 0xFFFF f)))

/-- Brim framing, management cells and forgotten sources (R52, R87, R88, R100, R101).
Model's choices: log entries 30, 172. -/
def Obligations.ManagementChannelFramesAndChecks : Prop :=
  (∀ (p : Fin 2) (k : Fin 8) (b : BrimSeen) (s : State), s.hub.checkerPair p ≠ some k.val →
    (brimFound (s.hub.flag (Fld.TRK_PAIR_STATUS_NRZ (8 * p + k))) b.marks = false → Runs (.brimReceive p k b) s (fun h => h.regs = s.hub.regs ∧
      Tab.getD h.ring.framingMiss (8 * p + k) 0 = Tab.getD s.hub.ring.framingMiss (8 * p + k) 0 + 1)) ∧
    (brimFound (s.hub.flag (Fld.TRK_PAIR_STATUS_NRZ (8 * p + k))) b.marks = true → Runs (.brimReceive p k b) s (fun h => 8 * p.val + k.val ∉ h.ring.unframed ∧ Tab.getD h.ring.framingMiss (8 * p + k) 0 = 0 ∧
      (if s.hub.link p = lkPam3 ∧ k.val = inFixed p then h.link p = lkPairTest ∧ (h.port p).step = 7
       else h.link p = s.hub.link p ∧ (h.lane p k).seekFrom = none ∧
        ((s.hub.lane p k).seekFrom.isSome = true → h.flag (Fld.TRK_PAIR_STATUS_LOCKED (8 * p + k)) = true))))) ∧
  (∀ (p : Fin 2) (k : Fin 8) (s : State), Runs (.tickFramingLoss p k) s (fun h =>
    if 2 ≤ Tab.getD s.hub.ring.framingMiss (8 * p + k) 0 ∧ s.hub.ring.unframed.contains (8 * p.val + k.val) = false then
      8 * p.val + k.val ∈ h.ring.unframed ∧ h.flag (Fld.TRK_PAIR_STATUS_LOCKED (8 * p + k)) = false ∧
        (h.lane p k).seekFrom = some s.hub.tick
    else h = s.hub)) ∧
  (∀ (p : Fin 2) (b pay : List Byte) (hdr n : Nat) (bad : Bool) (s : State), cellDecode b = (hdr, pay, bad, n) →
    Runs (.mgmtCellReceive p b) s (fun h =>
      let t := s.hub.setSync p { s.hub.sync p with cells := (s.hub.sync p).cells - 1 }
      if (s.hub.sync p).got = false ∨ (s.hub.sync p).cells = 0 then h = s.hub
      else if bad = false ∧ hTunnel hdr ≠ tnMgmt ∧ hTunnel hdr ≠ tnTime then h = t
      else if bad = true ∨ t.checkCell hdr pay = .badTag then Counted t h (Cnt.TRK_CNT_AUTH_FAIL p) 1
      else if t.checkCell hdr pay = .stale then h = t.count (Cnt.TRK_CNT_STALE p) 1
      else
        let dst := bits (beNat (slice pay 0 2)) 8 0
        (∃ x, Tab.get? (hSrc hdr) h.ring.srcs = some x ∧ x.last = s.hub.tick) ∧
        (s.hub.consumes dst = false → s.hub.isHead = true → Counted s.hub h (Cnt.TRK_CNT_MGMT_MISROUTE p) 1) ∧
        (s.hub.consumes dst = false → s.hub.isHead = false → hHops hdr ≠ 0 → s.hub.linkUp (otherPort p) = false →
          Counted s.hub h (Cnt.TRK_CNT_MGMT_DROP (otherPort p)) 1) ∧
        (s.hub.consumes dst = true → dst ≠ 0x1FF → hTunnel hdr = tnMgmt → knownType (byteAt pay 2) = false →
          Counted s.hub h (Cnt.TRK_CNT_STALE p) 1))) ∧
  (∀ (src : Fin 512) (s : State), Runs (.mgmtSourceForget src) s (fun h =>
    match Tab.get? src.val s.hub.ring.srcs with
    | none => h = s.hub
    | some t => if t.last + 512 ≤ s.hub.tick then Tab.get? src.val h.ring.srcs = none ∧ h.regs = s.hub.regs else h = s.hub)) ∧
  (∀ (p : Fin 2) (k : Fin 8) (b : BrimSeen) (s : State), s.hub.checkerPair p = some k.val →
    Runs (.brimReceive p k b) s (fun h => h.ring = s.hub.ring ∧ h.trunk = s.hub.trunk ∧
      h.flag (Fld.TRK_LOOP_STAT_LOCKED p) = brimFound (s.hub.flag (Fld.TRK_PAIR_STATUS_NRZ (8 * p + k))) b.marks ∧
      if brimFound (s.hub.flag (Fld.TRK_PAIR_STATUS_NRZ (8 * p + k))) b.marks = true ∧ s.hub.getf (Fld.TRK_LOOP_CTL_PATTERN p) ≠ 3 then
        Counted s.hub h (Cnt.TRK_LOOP_ERRS p) b.errs
      else h.cnts = s.hub.cnts))

/-- Breaks and the broken hop a hub reports at each of its ports (R105), own alarms, alarms received and relayed (R104, R108, R109).
Model's choices: log entries 25, 31, 36, 168. -/
def Obligations.BreaksAndRingAlarms : Prop :=
  (∀ (p : Fin 2) (s : State), s.hub.plan.prev = none → s.hub.rel.acts = [] → Runs (.breakDeclare p) s (fun h =>
    if (s.hub.sync p).fails < 2 ∨ s.hub.linkUp p = false then h = s.hub
    else h.flag (if p.val = 0 then Fld.TRK_RING_STATUS_BREAK_U else Fld.TRK_RING_STATUS_BREAK_D) = true ∧ h.linkUp p = false ∧
      h.sync p = {} ∧
      h.ring.own = if s.hub.hasAddr then s.hub.ring.own ++
        [⟨otherPort p, p, s.hub.hopAt p, s.hub.tick, s.hub.epochBefore s.hub.tick, 0⟩] else s.hub.ring.own)) ∧
  (∀ (o : Fin 2) (s : State), Runs (.ringAlarmSend o) s (fun h =>
    if (Tab.get? o.val s.hub.ring.alarmOut).isSome then h = s.hub
    else match s.hub.ring.own.find? (fun a => a.port == o.val) with
      | none => h = s.hub
      | some a => (∃ c kid cnt, Tab.get? o.val h.ring.alarmOut = some c ∧ c.bad = false ∧
          c.pay.take 248 = alarmBody a s.hub.addr kid cnt) ∧
        h.ring.own = if 2 ≤ a.copy then s.hub.ring.own.erase a
          else s.hub.ring.own.map (fun x => if x = a then { x with copy := x.copy + 1 } else x))) ∧
  (∀ (p : Fin 2) (s : State), Tab.get? p.val s.hub.ring.alarmIn = none → Runs (.ringAlarmReceive p) s (fun h => h = s.hub)) ∧
  (∀ (p : Fin 2) (c : HopCell) (s : State), Tab.get? p.val s.hub.ring.alarmIn = some c → Runs (.ringAlarmReceive p) s (fun h =>
    Tab.get? p.val h.ring.alarmIn = none ∧
    (c.bad = true ∨ s.hub.checkCell c.hdr c.pay = .badTag → Counted s.hub h (Cnt.TRK_CNT_AUTH_FAIL p) 1) ∧
    (c.bad = false → s.hub.checkCell c.hdr c.pay = .stale → Counted s.hub h (Cnt.TRK_CNT_STALE p) 1) ∧
    (c.bad = false → s.hub.checkCell c.hdr c.pay = .accepted → s.hub.isHead = true →
      (bits (beNat (slice c.pay 0 2)) 8 0, beNat (slice c.pay 8 8)) ∈ h.ring.relayed))) ∧
  (∀ (o : Fin 2) (s : State), Runs (.headAlarmRelay o) s (fun h =>
    if s.hub.isHead = false ∨ (Tab.get? o.val s.hub.ring.alarmOut).isSome = true then h = s.hub
    else match s.hub.ring.relays.find? (fun r => r.port == o.val && decide (r.taken < s.hub.tick)) with
      | none => h = s.hub
      | some r => Tab.get? o.val h.ring.alarmOut = some ⟨0, setHops r.hdr (hHops r.hdr - 1), r.pay, false⟩ ∧
        h.ring.relays = s.hub.ring.relays.erase r)) ∧
  (∀ h : Hub, h.hopAt 1 = h.addr ∧ (h.isHead = false → h.hopAt 0 = h.addr - 1) ∧ (h.isHead = true → h.hopAt 0 = h.lastNode))

/-- Brims and sync frames (R86, R90, R103).
Model's choices: log entries 29, 33, 34, 35, 37, 164. -/
def Obligations.BrimsAndSyncFrames : Prop :=
  (∀ (p : Fin 2) (tx : Nat) (adj : Int) (s : State), Runs (.brimTransmit p tx adj) s (fun h =>
    h.now = (s.hub.advanceFrac tx).now ∧ h.nowFrac = (s.hub.advanceFrac tx).nowFrac ∧ h.plan.switchOwed = false ∧
    if s.hub.framesRun p then ∃ frame cells o, h.out = .brim p frame cells :: o ∧ frame.length = 96 ∧ cells.length ≤ 32 ∧
      ((h.tport p).txs.head?.map (fun x => x.tick)) = some h.tick
    else h.out = s.hub.out)) ∧
  (∀ (p : Fin 2) (rx : Nat) (frame : Option (List Byte)) (s : State), Runs (.syncFrameReceive p frame rx) s (fun h =>
    let t := s.hub.advanceFrac rx
    if s.hub.framesRun p = false then h = t
    else match t.validSync p frame with
      | none => Counted s.hub h (Cnt.TRK_CNT_SYNC_MISS p) 1 ∧ (h.sync p).got = false ∧
        (h.sync p).fails = if s.hub.linkUp p then (s.hub.sync p).fails + 1 else 0
      | some f => (s.hub.isHead = true → f.head = true → h.linkUp p = false ∧ (h.port p).conflict = true) ∧
        ((s.hub.isHead = false ∨ f.head = false) → bit f.flags 5 = false →
          (h.sync p).got = true ∧ (h.sync p).rxTime = rx / fracUnit ∧ (h.sync p).rxOk = f.rxOk ∧ (h.sync p).cells = f.cells)))

/-- A hub's own sync frame passes the checks of a receiver, and reads back its tick, epoch, transmit time and identity, kept to
their widths (R89, R90).
Model's choices: log entry 33. -/
def Obligations.SyncFrameReadsBack : Prop :=
  ∀ (p : Fin 2) (tx n : Nat) (h : Hub), ∃ f, readSync (h.syncFrame p tx n) = some f ∧
    f.src = h.addr % 512 ∧ f.tick = h.tick % 2 ^ 64 ∧ f.epoch = h.getf Fld.PLN_ACTIVE_EPOCH % 2 ^ 32 ∧
    f.tx = tx / fracUnit % 2 ^ 64 * 2 ^ 16 + tx % fracUnit % 2 ^ 16 ∧ f.hubId = h.hubId % 2 ^ 64 ∧ f.gm = h.gmState % 256 ∧
    f.rxOk = (h.sync p).got ∧ f.head = h.isHead

/-- Cells received into the hop buffer, and what switch slots outside alarm slots do: pass, drop and add by the run in force, and the
transparent plan (R77, R78, R80, R81, R92, R94 to R96, R146).
Model's choices: log entries 27, 28, 164, 171. -/
def Obligations.SlotsReceiveAndSwitchCells : Prop :=
  (∀ (p : Fin 2) (k : Fin 8) (slot : Nat) (b pay : List Byte) (hdr fixed : Nat) (bad : Bool) (s : State), cellDecode b = (hdr, pay, bad, fixed) →
    Runs (.slotReceive p k slot b) s (fun h =>
      let n := 8 * p.val + k.val
      let a := switchOf (s.hub.nrz p k) s.hub.tick slot
      if slotsOf (s.hub.nrz p k) ≤ slot ∨ b.length ≠ 288 then h = s.hub
      else if s.hub.flag (Fld.TRK_PAIR_STATUS_LOOP (8 * p + k)) = true then h = s.hub.loopSlot p k slot b
      else if s.hub.carriesIn p k = false then h = s.hub
      else (bad = true → Counted s.hub h (Cnt.TRK_CNT_UNCORR n) 1) ∧
        (bad = false → 0 < fixed → Counted s.hub h (Cnt.TRK_CNT_CORR n) 1 ∧ Counted s.hub h (Cnt.TRK_CNT_CBYTES n) fixed) ∧
        (if (s.hub.lateSlots n).contains a then Counted s.hub h (Cnt.TRK_CNT_LATE n) 1 ∧ a ∉ h.lateSlots n ∧ h.hopCells n = s.hub.hopCells n
         else h.hopCells n = last8 (s.hub.hopCells n ++ [⟨a, hdr, pay, bad⟩])))) ∧
  (∀ (o : Fin 2) (k : Fin 8) (j : Nat) (s : State),
    let n := 8 * otherPort o + k.val
    let c := if j < s.hub.slotsAt (otherPort o) k dirIn then (s.hub.hopCells n).find? (fun x => x.j == absSlot s.hub.tick j) else none
    let null := Out.cell o k j (wireCell (nullHdr s.hub.addr) (zeros 256))
    let passed (x : HopCell) := Out.cell o k j (wireCell (setHops x.hdr (hHops x.hdr - 1)) x.pay)
    s.hub.rel.flips = [] → s.hub.carriesOut o k = true → j < slotsOf (s.hub.nrz o k) →
    (s.hub.alarmInSlot o k j || s.hub.alarmOutSlot o k j) = false →
    Runs (.switchSlot o k j) s (fun h =>
      if s.hub.loadedPlan = false then
        (canPass s.hub.pairsNow k = true → s.hub.dir (otherPort o) k = dirIn →
          ∀ x, c = some x → hTunnel x.hdr ≠ 0 → hHops x.hdr ≠ 0 → x.bad = false → h.out = passed x :: s.hub.out) ∧
        (c = none → h.out = null :: s.hub.out) ∧
        (canPass s.hub.pairsNow k = false → h.out = null :: s.hub.out)
      else match s.hub.runAt k o j s.hub.tick with
        | none => h.out = null :: s.hub.out ∧ (∀ x, c = some x → hTunnel x.hdr ≠ 0 → Counted s.hub h (Cnt.TRK_CNT_UNPLANNED n) 1)
        | some r =>
          (rAction r = acPass → ∀ x, c = some x → hTunnel x.hdr ≠ 0 → hHops x.hdr ≠ 0 → x.bad = false → h.out = passed x :: s.hub.out) ∧
          (rAction r = acPass → ∀ x, c = some x → hTunnel x.hdr ≠ 0 → hHops x.hdr = 0 → h.out = null :: s.hub.out ∧
            Counted s.hub h (Cnt.TRK_CNT_EXPIRED n) 1) ∧
          (rAction r = acPass → c = none → h.out = null :: s.hub.out) ∧
          (rAction r = acDrop → h.out.head? = some null) ∧
          (rAction r = acAdd → ∀ (u : Tun) (q : Nat) (x : QCell) (ps : List (List QCell)),
            Tab.get? (rTunnel r) s.hub.plan.tunnels = some u → u.inq = some q → u.owed = none → u.shaper = none →
            (s.hub.queue q).cons = some (.trunk (rTunnel r)) → s.hub.qEnabled q = true → x.poison = false →
            (s.hub.queue q).pkts = [x] :: ps →
              let b := s.hub.memRead (256 * x.idx) (x.lenm1 + 1)
              let w := if x.gap then b else if x.f then s.hub.leaveTag q b else u.carry ++ b
              h.out = .cell o k j (wireCell (mkHdr (rTunnel r) u.nextSeq s.hub.addr ((w.take 256).length - 1) x.f
                (x.l && (w.drop 256).isEmpty) x.gap false (if u.kind = 1 then x.colour else 0) u.kind u.hops) (w.take 256)) :: s.hub.out ∧
              (h.queue q).pkts = ps) ∧
          (rAction r = acAdd → ∀ (u : Tun) (q : Nat) (x : Nat × Bool), Tab.get? (rTunnel r) s.hub.plan.tunnels = some u →
            u.inq = some q → u.owed = some x → h.out = .cell o k j (wireCell (mkHdr (rTunnel r) u.nextSeq s.hub.addr (u.carry.length - 1)
              false true false x.2 (if u.kind = 1 then x.1 else 0) u.kind u.hops) u.carry) :: s.hub.out)))

/-- Tick boundaries and firmware loops (R31, R32, R438). In a state that R189 and R191 leave out, a node that has a time path and is neither
ACQUIRING nor LOCKED, its servo's update may step line time (R182).
Model's choices: log entries 8, 54, 60. -/
def Obligations.TicksAndFirmwareLoops : Prop :=
  (∀ (temp : BitVec 16) (s : State), Runs (.tickBoundary temp) s (fun h =>
    (s.hub.Steady → h.now = s.hub.toBoundary.now) ∧ h.worked = h.tick ∧
    h.getf Fld.GEN_DIE_TEMP_TEMP = temp.toNat ∧
    (s.hub.plan.armed = none → s.hub.plan.entryDue = none → s.hub.ring.brk = none →
      (s.hub.pool.queues = [] → h.cntSnap = s.hub.cnts) ∧
      (s.hub.rel.flips = [] → s.hub.firmwareRuns = true → s.hub.atL0 dCTL = true → s.hub.atL0 dSVC = true →
        ∀ c < 3, (Tab.get? c h.loops).isSome = true)))) ∧
  (∀ (c : Fin 3) (n : Nat) (s : State), s.hub.tick ≠ n → Runs (.loopBudgetExpiry c n) s (fun h => h = s.hub)) ∧
  (∀ (c : Fin 3) (s : State), Runs (.loopBudgetExpiry c s.hub.tick) s (fun h =>
    match Tab.get? c.val s.hub.loops with
    | none => h = s.hub
    | some l => h.now = max s.hub.now s.hub.budgetAt ∧
      Tab.get? c.val h.loops = some { l with late := true, seen := l.seen + l.missed h.now } ∧
      (l.late = false → Counted s.hub h Cnt.GEN_TICK_OVERRUNS 1 ∧ 
        Posted (s.hub.advance s.hub.budgetAt) h Evt.TICK_OVERRUN [c, (s.hub.advance s.hub.budgetAt).up - l.start]) ∧
      (l.late = true → l.missed h.now ≠ 0 → Counted s.hub h Cnt.GEN_TICK_SKIPS (l.missed h.now)))) ∧
  (∀ (c : Fin 3) (t : Nat) (s : State), Tab.get? c.val s.hub.loops = none → Runs (.firmwareLoopEnd c t) s (fun h => h = s.hub)) ∧
  (∀ (c : Fin 3) (t : Nat) (l : LoopRun) (s : State), Tab.get? c.val s.hub.loops = some l → s.hub.now ≤ t → l.late = false →
    Runs (.firmwareLoopEnd c t) s (fun h => (s.hub.Steady → h.now = t) ∧
      if l.tick * tickNs + 50000 < t then Counted s.hub h Cnt.GEN_TICK_OVERRUNS 1
      else h.cnt Cnt.GEN_TICK_OVERRUNS = s.hub.cnt Cnt.GEN_TICK_OVERRUNS ∧ (l.tick = t / tickNs → Tab.get? c.val h.loops = none)))

/-- The capture router and the signal map (R207, R331 to R335).
Model's choices: log entries 64, 65. -/
def Obligations.SignalsAreCapturedAndMapped : Prop :=
  (∀ s : State, (∀ q ∈ [16, 17, 18, 19], (s.hub.queue q).pkts = []) →
    Runs .captureRoute s (fun h => h = s.hub.advance (s.hub.tick * tickNs + 1000))) ∧
  (∀ (p : List QCell) (s : State), s.hub.rel.flips = [] → s.hub.pool.claim = none → (s.hub.queue 16).pkts = [p] → s.hub.qEnabled 16 = true →
    (s.hub.queue 16).cons = none → (∀ q ∈ [17, 18, 19], (s.hub.queue q).pkts = []) →
    beNat (slice (s.hub.pktBytes p) 0 8) / tickNs < s.hub.tick → Runs .captureRoute s (fun h =>
      let b := s.hub.pktBytes p
      let d := s.hub.getf (Fld.LTM_TIO_CFG_DEST (byteAt b 8 % 32))
      (h.queue 16).pkts = [] ∧
      (d = 0 ∨ d = 2 → Posted s.hub h Evt.LTM_CAPTURE
        [beNat (slice b 0 8) % 2 ^ 48 + byteAt b 8 % 32 * 2 ^ 48 + byteAt b 9 * 2 ^ 56]) ∧
      (d = 1 ∨ d = 2 → ∃ x : MapIn, h.fbr.ins = s.hub.fbr.ins ++ [x] ∧ x.kind = 0 ∧ x.frame = b ∧
        x.only = some (s.hub.getf (Fld.LTM_TIO_CFG_SIGMAP (byteAt b 8 % 32)))) ∧
      (d = 3 → Counted s.hub h Cnt.LTM_CNT_CAPTURE_DROP 1 ∧ h.ev = s.hub.ev ∧ h.fbr = s.hub.fbr))) ∧
  (∀ (i : Fin 2048) (w : Fin 4) (v : Word) (s : State), Runs (.signalMapHold i w v) s (fun h =>
    if w.val = 0 then h = s.hub else Tab.get? w.val (Tab.getD h.fbr.sigHeld i.val []) = some v.toNat ∧ h.sigEntry i = s.hub.sigEntry i)) ∧
  (∀ (i : Fin 2048) (v : Word) (s : State), Runs (.signalMapCommit i v) s (fun h => Tab.get? i.val h.fbr.fired = none ∧
    (h.sigEntry i).getD 0 0 = v.toNat &&& sigMask v.toNat 0 0 ∧ (∀ j, j ≠ i.val → h.sigEntry j = s.hub.sigEntry j) ∧
    Tab.getD h.fbr.sigHeld i.val [] = Tab.getD s.hub.fbr.sigHeld i.val [])) ∧
  (∀ s : State, s.hub.atL0 dFBR = false → Runs .signalMapPass s (fun h => h = s.hub)) ∧
  (∀ (x : MapIn) (i : Nat) (e : List Nat) (v : Int) (s : State), s.hub.atL0 dFBR = true → s.hub.rel.flips = [] → s.hub.sigQueues = [] →
    s.hub.fbr.sigMap = [(i, e)] → s.hub.fbr.ins = [x] → x.time / tickNs < s.hub.tick → x.next ≤ i → sigMatches i (e.getD 0 0) x = true →
    s.hub.fbr.passed ≠ some s.hub.tick →
    sigUnpack (e.getD 0 0) x = some v → bit (e.getD 0 0) 27 = false → Runs .signalMapPass s (fun h => h.fbr.ins = [] ∧
      let w1 := e.getD 1 0
      let w3 := e.getD 3 0
      let y := sigCompute w1 (e.getD 2 0) v
      let c := bits w3 31 30
      let m := bits w3 29 24
      let len := bits w3 14 10 + 1
      if bit w1 11 = false then Tab.get? i h.fbr.fired = some v ∧
        (Tab.get? (bits w3 31 20) s.hub.plan.tunnels = none → Counted s.hub h Cnt.FBR_CNT_SIG_DROP 1)
      else if fieldFits (bits w3 23 15) len (bit w1 9) (s.hub.mbLen c m) = false then
        Counted s.hub h Cnt.FBR_CNT_MAP_RANGE 1 ∧ h.regs = s.hub.regs
      else Tab.get? i h.fbr.fired = some v ∧ (bit w1 8 = false → bit w1 10 = false → 0 ≤ y → y < (2 ^ len : Nat) →
        h.mbData c m = packField (s.hub.mbData c m) (bits w3 23 15) len (bit w1 9) y.toNat)))

/-- Writes of registers whose fields take them as they stand follow each field's access code; refused and bad accesses (R9, R11, R12,
R217, R443,
R455).
Model's choices: log entries 12, 13, 15, 16, 17, 145, 175. -/
def Obligations.RegisterWritesFollowAccessCodes : Prop :=
  (∀ (off : Fin 2097152) (v : BitVec 64) (r : Reg) (ix : List Nat) (s : State), s.hub.barOpen = true → off.val % 4 = 0 → off.val < 0x100000 →
    s.hub.offDead off = false → s.hub.counterAt off = none → s.hub.writeLow off (v.toNat % 2 ^ 32) = none →
    s.hub.writeMid off (v.toNat % 2 ^ 32) = none → s.hub.writeHigh off (v.toNat % 2 ^ 32) = none →
    off.val / 0x10000 ≠ 0x0B → off.val / 0x10000 ≠ 0x0C → off.val ≠ 0x0A0000 → arr 0x060100 4 0x100 off = none →
    regAt off = some (r, ix) →
    Runs (.registerWrite off 4 (some v)) s (fun h => ∀ f ∈ r.fields,
      let x := bits (v.toNat % 2 ^ 32) f.hi f.lo
      let l := f.at' off ix
      match f.acc with
      | .rw => h.getf l = if f.bad.any (fun b => decide (b.1 ≤ x) && decide (x ≤ b.2)) then s.hub.getf l else x
      | .wok => h.getf l = x
      | .w1c => l ≠ Fld.GEN_EVT_STATUS_OVERRUN → h.getf l = s.hub.getf l &&& (2 ^ l.width - 1 - x)
      | .w1s => h.getf l = (s.hub.getf l ||| x) % 2 ^ l.width
      | .ro => h.getf l = s.hub.getf l
      | .wo => h.getf l = s.hub.getf l
      | .rsv => h.getf l = s.hub.getf l
      | .locked _ => True)) ∧
  (∀ (off : Fin 2097152) (size : Fin 256) (d : Option (BitVec 64)) (s : State), s.hub.barOpen = true → barOk off size = false →
    Runs (.registerWrite off size d) s (fun h => Posted s.hub h Evt.HIF_BAD_ACCESS [off, size] ∧
      h.out = if d.isNone then .readData off 0 :: s.hub.out else s.hub.out)) ∧
  (∀ (v : Word) (s : State), Runs (.genSetupClose v) s (fun h =>
    h = if s.hub.isHeld then s.hub
      else s.hub.setf Fld.GEN_SETUP_OPEN (s.hub.getf Fld.GEN_SETUP_OPEN &&& (65535 - bits v.toNat 15 0)))) ∧
  (∀ (v : Word) (s : State), Runs (.genTblViewWrite v) s (fun h => if s.hub.isHeld then h = s.hub
    else h.flag Fld.GEN_TBL_VIEW_RD = bit v.toNat 1 ∧ h.flag Fld.GEN_TBL_VIEW_EYE = bit v.toNat 0)) ∧
  (∀ (v : Word) (s : State), Runs (.genRdWinSelWrite v) s (fun h => if s.hub.isHeld then h = s.hub
    else h.flag Fld.GEN_RD_WIN_SEL_SRC = bit v.toNat 31 ∧ h.getf Fld.GEN_RD_WIN_SEL_PAGE = bits v.toNat 7 0 ∧
      h.flag Fld.GEN_TBL_VIEW_RD = true ∧ h.flag Fld.GEN_TBL_VIEW_EYE = s.hub.flag Fld.GEN_TBL_VIEW_EYE)) ∧
  (∀ (off : Fin 2097152) (size : Fin 256) (d : Option (BitVec 64)) (s : State), s.hub.barOpen = false →
    Runs (.registerWrite off size d) s (fun h => h = s.hub.emit (.unsupported off)))

/-- Reads of plain registers, of counters and of a block that sleeps, and the clearing of a counter (R9, R217, R404, R438).
Model's choices: log entries 12, 17, 18, 145. -/
def Obligations.RegisterReadsAndCounterClears : Prop :=
  (∀ (off : Fin 2097152) (s : State), s.hub.barOpen = true → off.val % 4 = 0 → s.hub.offDead off = true →
    Runs (.registerWrite off 4 none) s (fun h => h = s.hub.emit (.readData off 0))) ∧
  (∀ (off : Fin 2097152) (r : Reg) (ix : List Nat) (s : State), s.hub.barOpen = true → off.val % 4 = 0 → off.val < 0x100000 →
    off.val ≠ 0x050004 → mbDataAt off = none → s.hub.offDead off = false → arr 0x040208 16 16 off = none → arr 0x04020C 16 16 off = none → s.hub.counterAt off = none →
    s.hub.computed off = none → regAt off = some (r, ix) →
    Runs (.registerWrite off 4 none) s (fun h => h = s.hub.emit (.readData off (s.hub.regValue r off ix)))) ∧
  (∀ (off : Fin 2097152) (c : Nat) (hi : Bool) (s : State), s.hub.barOpen = true → off.val < 0x100000 → off.val ≠ 0x050004 →
    mbDataAt off = none → s.hub.offDead off = false → arr 0x040208 16 16 off = none → arr 0x04020C 16 16 off = none → s.hub.counterAt off = some (c, hi) →
    Runs (.registerWrite off 4 none) s (fun h =>
      let v := Tab.getD s.hub.cntSnap c {}
      h = s.hub.emit (.readData off (if hi then v.v / 2 ^ 32 + b2n v.sat * 2 ^ 31 else v.v % 2 ^ 32)))) ∧
  (∀ (off : Fin 2097152) (s : State), Runs (.counterClear off) s (fun h =>
    match (if s.hub.offDead off then none else s.hub.counterAt off) with
    | none => h = s.hub
    | some (c, _) => h.cnt c = {} ∧ Tab.getD h.cntSnap c {} = {} ∧ h.regs = s.hub.regs ∧ ∀ d, d ≠ c → h.cnt d = s.hub.cnt d))

/-- Received frames: checks, classification, policing (R248, R252, R254, R255, R269).
Model's choices: log entries 83, 84, 90, 178, 179. -/
def Obligations.FramesAreReceivedAndPoliced : Prop :=
  ∀ (p : Fin 4) (frame : List Byte) (ts : Nat) (s : State), Runs (.ethFrameReceive p frame ts) s (fun h =>
    let f := frame.take (frame.length - 4)
    let t := (s.hub.count (Cnt.NET_CNT_RX_FRAMES p) 1).count (Cnt.NET_CNT_RX_BYTES p) (f.length + 4)
    if s.hub.flag (Fld.NET_PORT_CFG_EN p) = false ∨ s.hub.getf (Fld.NET_PORT_CFG_MODE p) = 0 ∨ s.hub.offAsleep 0x060000 = true then h = s.hub
    else if fcsOf f ≠ frame.drop (frame.length - 4) then h = s.hub.count (Cnt.NET_CNT_RX_FCS p) 1
    else if frame.length < 64 ∨ s.hub.getf (Fld.NET_PORT_CFG_MTU p) < frame.length then h = s.hub.count (Cnt.NET_CNT_RX_LENGTH p) 1
    else s.hub.rel.flips = [] → if etherType f = 0x8808 then h = t.count (Cnt.NET_CNT_RX_PAUSE p) 1
    else s.hub.portEvent p f = none → match s.hub.classify p f with
      | none => h = if s.hub.flag (Fld.NET_PORT_DEF_EN p) then t.writeFrame p (s.hub.getf (Fld.NET_PORT_DEF_QUEUE p)) f 0
          else t.count (Cnt.NET_CNT_RX_NO_MATCH p) 1
      | some w =>
        let w4 := w.getD 4 0
        let w6 := w.getD 6 0
        let q := bits (w.getD 5 0) 12 0
        let i := bits w6 9 0
        let j := (s.hub.policer i).judge f (f.length + 4)
        if bit (w.getD 5 0) 31 = true then h = t.count (Cnt.NET_CNT_RX_NO_MATCH p) 1
        else if bit w4 31 = true ∧ (s.hub.netTun (bits w4 11 0)).filter (fun u => u.inq == some q) = none then
          h = t.count (Cnt.NET_CNT_RX_NO_TUNNEL p) 1
        else if bit w4 31 = false ∧ bit w6 31 = false then h = t.writeFrame p q f 0
        else bit w4 31 = false → bit w6 31 = true → bit (s.hub.policer i).ctl 31 = true →
          h.policer i = j.2 ∧ Counted s.hub h (polCounter i j.1) 1 ∧
          (j.1 = colRed → bit (s.hub.policer i).ctl 29 = true → Counted s.hub h (Cnt.NET_CNT_RX_RED_DROP p) 1 ∧ h.pool = s.hub.pool))

/-- Frames leave: the search from the highest class, releases and templates at their time, PTP messages of a role, and the state of the
link (R198, R247, R257, R260, R261, R268, R272).
Model's choices: log entries 85, 86, 178, 179. -/
def Obligations.FramesAreSent : Prop :=
  (∀ (p : Fin 4) (t ts : Nat) (s : State), (s.hub.flag (Fld.NET_PORT_CFG_EN p) = false ∨ s.hub.flag (Fld.NET_PORT_EGQ_EN p) = false ∨
      s.hub.flag (Fld.NET_PORT_STATUS_LINK p) = false ∨ max s.hub.now t < (s.hub.eport p).busy ∨ s.hub.offAsleep 0x060000 = true) →
    Runs (.ethTransmitStart p t ts) s (fun h => h = (s.hub.advance t).gatesNow p)) ∧
  (∀ (p : Fin 4) (t ts : Nat) (k : List QCell) (ps : List (List QCell)) (s : State),
    let q := s.hub.getf (Fld.NET_PORT_EGQ_BASE p) + 7
    s.hub.flag (Fld.NET_PORT_CFG_EN p) = true → s.hub.flag (Fld.NET_PORT_EGQ_EN p) = true → s.hub.flag (Fld.NET_PORT_STATUS_LINK p) = true →
    (s.hub.eport p).busy ≤ max s.hub.now t → s.hub.offAsleep 0x060000 = false → s.hub.rel.flips = [] → s.hub.pool.claim = none →
    s.hub.qEnabled q = true → (s.hub.queue q).pkts = k :: ps → pktGap k = false → pktPoison k = false → s.hub.gated p = false →
    s.hub.flag (Fld.NET_PORT_TCSHP_VALID p 7) = false → s.hub.time.launches = [] →
    (s.hub.pktBytes k).length ≤ s.hub.getf (Fld.NET_PORT_CFG_MTU p) - 4 →
    Runs (.ethTransmitStart p t ts) s (fun h =>
      let g := ((s.hub.advance t).dressFrame p q (s.hub.adjStamp p ts) (s.hub.pktBytes k)).1
      h.out = .ethFrame p (max s.hub.now t) (g ++ fcsOf g) :: s.hub.out ∧ Counted s.hub h (Cnt.NET_CNT_TX_FRAMES p) 1 ∧
      (h.eport p).busy = max s.hub.now t + s.hub.wireNs p g.length)) ∧
  (∀ (slot : Fin 1024) (ts : Nat) (l : Launch) (s : State), s.hub.ethDue slot 0x20 = some l → (s.hub.queue l.queue).pkts = [] →
    Runs (.ethRelease slot ts) s (fun h => Completed s.hub h slot lsEmpty l.f)) ∧
  (∀ (slot : Fin 1024) (ts : Nat) (l : Launch) (k : List QCell) (ps : List (List QCell)) (s : State), s.hub.ethDue slot 0x20 = some l →
    s.hub.rel.flips = [] → s.hub.qEnabled l.queue = true → (s.hub.queue l.queue).pkts = k :: ps → pktGap k = false → pktPoison k = false →
    (s.hub.pktBytes k).length ≤ s.hub.getf (Fld.NET_PORT_CFG_MTU l.port) - 4 → Runs (.ethRelease slot ts) s (fun h =>
      (∃ g, h.out = .ethFrame l.port (max l.f (s.hub.eport l.port).busy) (g ++ fcsOf g) :: s.hub.out) ∧
      Completed s.hub h slot (if l.late then lsLateExec else lsOk) (max l.f (s.hub.eport l.port).busy))) ∧
  (∀ (slot : Fin 1024) (ts : Nat) (l : Launch) (k : List QCell) (ps : List (List QCell)) (s : State), s.hub.ethDue slot 0x40 = some l →
    s.hub.rel.flips = [] → s.hub.qEnabled l.queue = true → (s.hub.queue l.queue).pkts = k :: ps → pktGap k = false → pktPoison k = false →
    (s.hub.pktBytes k).length ≤ s.hub.getf (Fld.NET_PORT_CFG_MTU l.port) - 4 → Runs (.camTrigger slot ts) s (fun h =>
      if (padFrame (s.hub.pktBytes k)).length < l.offset + (s.hub.camField l).length then Completed s.hub h slot lsBadTarget l.f
      else (∃ g, h.out = .ethFrame l.port (max l.f (s.hub.eport l.port).busy) (g ++ fcsOf g) :: s.hub.out) ∧
        Completed s.hub h slot (if l.late then lsLateExec else lsOk) (max l.f (s.hub.eport l.port).busy))) ∧
  (∀ (p : Fin 4) (frame : List Byte) (ts : Nat) (s : State), Runs (.ptpMessageSend p frame ts) s (fun h =>
    match ptpFind true true true frame with
    | none => h = s.hub
    | some a =>
      let kind := bits (byteAt frame a.off) 3 0
      if s.hub.flag (Fld.NET_PORT_CFG_EN p) && s.hub.flag (Fld.NET_PORT_STATUS_LINK p) &&
          (ptpKinds (s.hub.getf (Fld.NET_PTP_CFG_ROLE p)) (s.hub.flag (Fld.NET_PTP_CFG_ONE_STEP p))).contains kind && s.hub.ptpTime p kind then
        s.hub.rel.flips = [] → (kind = 0 → (h.eport p).syncAt = some s.hub.up ∧ (h.eport p).syncOpen = true) ∧
        (kind = 0x3 ∨ kind = 0x9 → (h.eport p).reqOpen = false) ∧ ∃ g, h.out = .ethFrame p (max s.hub.now (s.hub.eport p).busy) (g ++ fcsOf g) :: s.hub.out ∧
          g = (s.hub.dressFrame p 8192 (s.hub.adjStamp p ts) (s.hub.fillPtp p kind a frame)).1
      else h = s.hub)) ∧
  (∀ (p : Fin 4) (up : Bool) (sp : Fin 8) (an : Bool) (c : Fin 4) (s : State), Runs (.ethLinkChange p up sp an c) s (fun h =>
    if up = true ∧ (s.hub.flag (Fld.NET_PORT_CFG_EN p) = false ∨ (s.hub.ethSpeeds p).contains sp.val = false ∨ an ≠ s.hub.ethAn p ∨
      s.hub.offAsleep 0x060000 = true) then h = s.hub
    else h.flag (Fld.NET_PORT_STATUS_LINK p) = up ∧ h.flag (Fld.NET_PORT_STATUS_AN_DONE p) = (up && an) ∧ h.getf (Fld.NET_PORT_STATUS_SPEED p) = (if up then sp.val else 0) ∧
      h.flag (Fld.NET_PORT_STATUS_LOCAL_FAULT p) = (!up && c.val == 0) ∧ h.flag (Fld.NET_PORT_STATUS_REMOTE_FAULT p) = (!up && c.val == 1) ∧
      Posted s.hub h (if up then Evt.NET_LINK_UP else Evt.NET_LINK_DOWN) [p, if up then sp.val else c.val])) ∧
  (∀ (slot : Fin 1024) (ts : Nat) (l : Launch) (k : List QCell) (ps : List (List QCell)) (s : State), s.hub.ethDue slot 0x40 = some l →
    s.hub.rel.flips = [] → s.hub.qEnabled l.queue = true → (s.hub.queue l.queue).pkts = k :: ps → pktGap k = false → pktPoison k = false →
    s.hub.getf (Fld.NET_PORT_CFG_MTU l.port) - 4 < (s.hub.pktBytes k).length → Runs (.camTrigger slot ts) s (fun h =>
      h.out = s.hub.out ∧ Completed s.hub h slot lsEmpty l.f ∧ Counted s.hub h (Cnt.NET_CNT_TX_OVERSIZE l.port) 1)) ∧
  (∀ (slot : Fin 1024) (ts : Nat) (s : State), Runs (.ethRelease slot ts) s (fun h => s.hub.ethDue slot 0x20 = none → h = s.hub) ∧
    Runs (.camTrigger slot ts) s (fun h => s.hub.ethDue slot 0x40 = none → h = s.hub))

/-- The flow table, policers, class and release queues, and gate lists (R251, R253, R254, R260 to R263, R271).
Model's choices: log entries 8, 87, 88, 175. -/
def Obligations.NetworkTablesAndGates : Prop :=
  (∀ (f : Fin 8192) (w : Fin 8) (v : Word) (s : State), Runs (.flowEntryHold f w v) s (fun h =>
    if w.val = 0 then h = s.hub else Tab.get? w.val (Tab.getD h.net.heldFlow f.val []) = some v.toNat ∧ h.net.flows = s.hub.net.flows)) ∧
  (∀ (f : Fin 8192) (v : Word) (s : State), Runs (.flowEntryCommit f v) s (fun h =>
    h.flow f = (List.range 8).map (fun w => (if w = 0 then v.toNat
      else Tab.getD (Tab.getD s.hub.net.heldFlow f.val []) w ((s.hub.flow f).getD w 0)) &&& flowMask w) ∧
    ∀ j, j ≠ f.val → h.flow j = s.hub.flow j)) ∧
  (∀ (i : Fin 1024) (v : Word) (s : State), Runs (.policerCommit i v) s (fun h =>
    let w := s.hub.heldPolWord i
    if bit v.toNat 31 = true ∧ (w 3 < w 1 ∨ w 4 < w 2 ∨ w 2 = 0) then
      Posted s.hub h Evt.NET_CFG_REFUSED [0x068000 + 32 * i, v.toNat] ∧ h.net = s.hub.net
    else Tab.get? i.val h.net.polNext = some ⟨v.toNat &&& 0xF000FFFF, w 1, w 2, w 3, w 4, w 2, w 4⟩ ∧
      h.net.policers = s.hub.net.policers ∧ h.flag (Fld.NET_POL_CTL_EN i) = bit v.toNat 31)) ∧
  (∀ (p : Fin 4) (v : Word) (s : State),
    let b := bits v.toNat 12 0
    (s.hub.flag (Fld.NET_PORT_EGQ_EN p) = false → b % 8 = 0 → 24 ≤ b → b ≤ 8184 → bit v.toNat 31 = true → Runs (.egqEnable p v) s (fun h =>
      h.getf (Fld.NET_PORT_EGQ_BASE p) = b ∧
      if (classQs b).any (fun q => s.hub.consTaken q) then h.flag (Fld.NET_PORT_EGQ_EN p) = false ∧ h.pool = s.hub.pool ∧
        Posted s.hub h Evt.NET_CFG_REFUSED [0x06010C + 0x100 * p, v.toNat]
      else h.flag (Fld.NET_PORT_EGQ_EN p) = true ∧ ∀ q ∈ classQs b, (h.queue q).cons = some (.egq p))) ∧
    (s.hub.flag (Fld.NET_PORT_EGQ_EN p) = true → b = s.hub.getf (Fld.NET_PORT_EGQ_BASE p) → bit v.toNat 31 = false →
      Runs (.egqEnable p v) s (fun h => h.flag (Fld.NET_PORT_EGQ_EN p) = false ∧ ∀ q ∈ classQs b, (h.queue q).cons ≠ some (.egq p)))) ∧
  (∀ (p : Fin 4) (j : Fin 8) (v : Word) (s : State), Runs (.relqBind p j v) s (fun h =>
    let q := bits v.toNat 12 0
    if bit v.toNat 31 = false then h.flag (Fld.NET_PORT_RELQ_VALID p j) = false
    else s.hub.flag (Fld.NET_PORT_RELQ_VALID p j) = false →
      if q < 20 ∨ s.hub.consTaken q = true then h.flag (Fld.NET_PORT_RELQ_VALID p j) = false ∧ h.pool = s.hub.pool ∧
        Posted s.hub h Evt.NET_CFG_REFUSED [0x060160 + 0x100 * p + 4 * j, v.toNat]
      else h.flag (Fld.NET_PORT_RELQ_VALID p j) = true ∧ h.getf (Fld.NET_PORT_RELQ_QUEUE p j) = q ∧
        (h.queue q).cons = some (.relq p j))) ∧
  (∀ (p : Fin 4) (v : Word) (s : State), Runs (.gateListCommit p v) s (fun h =>
    let n := s.hub.getf (Fld.NET_GL_COUNT_COUNT p)
    let es := s.hub.adminList p (min n 256)
    let want := cdiv (s.hub.getf (Fld.NET_GL_START_HI p) * 2 ^ 32 + s.hub.getf (Fld.NET_GL_START_LO p)) tickNs
    if n = 0 ∨ 256 < n ∨ es.any (fun e => e.interval == 0) = true then
      Posted s.hub h Evt.NET_CFG_REFUSED [0x060118 + 0x100 * p, v.toNat] ∧ h.eport p = s.hub.eport p
    else (h.eport p).pend = some (es, if want ≤ s.hub.tick then s.hub.tick + 1 else want) ∧
      (h.eport p).oper = (s.hub.eport p).oper ∧ h.flag (Fld.NET_GL_STATUS_PENDING p) = true ∧
      (want ≤ s.hub.tick → Posted s.hub h Evt.NET_GL_LATE [p, want]))) ∧
  (∀ (p : Fin 4) (s : State), Runs (.gateListCancel p) s (fun h => (h.eport p).pend = none ∧ (h.eport p).oper = (s.hub.eport p).oper ∧
    h.flag (Fld.NET_GL_STATUS_PENDING p) = false)) ∧
  (∀ (p : Fin 4) (s : State), Runs (.gateListTakeover p) s (fun h =>
    match (s.hub.eport p).pend with
    | none => h = s.hub
    | some (es, t) =>
      let b := s.hub.toBoundary
      if t ≤ b.tick then h.eport p = { s.hub.eport p with oper := es, pos := 0, posAt := b.tick * tickNs, pend := none } ∧
        h.flag (Fld.NET_GL_STATUS_PENDING p) = false ∧ h.getf (Fld.NET_GL_STATUS_SOURCE p) = 1 ∧
        Posted b h Evt.NET_GL_TAKEOVER [p, b.tick, 1]
      else h = s.hub)) ∧
  (∀ (p : Fin 4) (s : State), Runs (.gateListEntryAdvance p) s (fun h =>
    let P := s.hub.eport p
    match P.oper[P.pos]? with
    | none => h = s.hub
    | some e => h.eport p = { P with pos := if P.pos + 1 < P.oper.length then P.pos + 1 else 0, posAt := P.posAt + e.interval } ∧
      (P.oper.length ≤ 256 → h.getf (Fld.NET_GL_STATUS_CURRENT p) = (h.eport p).pos))) ∧
  (∀ (p : Fin 4) (v : Word) (s : State), s.hub.flag (Fld.NET_PORT_EGQ_EN p) = true → bit v.toNat 31 = true →
    Runs (.egqEnable p v) s (fun h => h = if bits v.toNat 12 0 = s.hub.getf (Fld.NET_PORT_EGQ_BASE p) then s.hub
      else s.hub.lockedWrite (0x06010C + 0x100 * p) v.toNat)) ∧
  (∀ (p : Fin 4) (v : Word) (s : State),
    let b := bits v.toNat 12 0
    s.hub.flag (Fld.NET_PORT_EGQ_EN p) = false → b % 8 ≠ 0 ∨ b < 24 ∨ 8184 < b → bit v.toNat 31 = false →
    Runs (.egqEnable p v) s (fun h => h = s.hub))

/-- Line time as it is read, the grandmaster's source, holdover, ORIGIN, CLOSURE and the announcement (R183 to R187, R190, R193, R211).
Model's choices: log entries 19, 38, 56, 57, 58, 170. -/
def Obligations.LineTimeAndItsSources : Prop :=
  (∀ (t frac : Nat) (s : State), Runs (.lineTimeRead t frac) s (fun h =>
    h.now * 65536 + h.nowFrac = max (s.hub.now * 65536 + s.hub.nowFrac) (t * 65536 + frac) ∧
    h.getf Fld.LTM_NOW_LO = h.now % 2 ^ 32 ∧ h.getf Fld.LTM_NOW_HI = h.now / 2 ^ 32 % 2 ^ 32 ∧
    h.getf Fld.LTM_NOW_FRAC_FRAC = h.nowFrac % 65536 ∧ h.getf Fld.LTM_TICK_LO = h.tick % 2 ^ 32 ∧
    h.out = .readData 0x050004 (h.now % 2 ^ 32) :: s.hub.out)) ∧
  (∀ (e : Int) (ptp : Nat) (c : BitVec 64) (s : State), Runs (.gmSourceMeasure e ptp c) s (fun h =>
    if s.hub.isHead = true ∧ s.hub.time.started = true ∧ s.hub.gmSource = 1 then
      h.getf Fld.LTM_SRC_ERR = enc 32 e ∧ h.time.lastMeas = s.hub.up ∧ h.time.clock = c.toNat ∧
      (e.natAbs ≤ 1000000 → (sgn 32 (h.getf Fld.LTM_RATE)).natAbs ≤ 100000) ∧
      (s.hub.timeState = tmHoldover ∨ s.hub.timeState = tmHoldLimit → h.timeState = tmAcquiring) ∧
      (s.hub.timeState = tmAcquiring → 50 < e.natAbs → h.time.lockRun = 0 ∧ h.timeState = tmAcquiring) ∧
      (s.hub.timeState = tmAcquiring → e.natAbs ≤ 50 → s.hub.time.lockRun + 1 < 16 →
        h.time.lockRun = s.hub.time.lockRun + 1 ∧ h.timeState = tmAcquiring) ∧
      (s.hub.timeState = tmAcquiring → e.natAbs ≤ 50 → 16 ≤ s.hub.time.lockRun + 1 → h.timeLocked = true ∧
        Posted s.hub h Evt.LTM_LOCKED [s.hub.getf Fld.LTM_STATUS_PATH, s.hub.getf Fld.LTM_STATUS_HOPS_GM] ∧
        (s.hub.time.srcLocked = false → h.mapValid = true ∧
          h.getf Fld.LTM_ORIGIN_NS_NS = (ptp - s.hub.now) % 1000000000))
    else h = s.hub)) ∧
  (∀ (t : Nat) (s : State), Runs (.ppsInEdge t) s (fun h =>
    if s.hub.isHead = true ∧ s.hub.time.started = true ∧ s.hub.gmSource = 2 then
      h.getf Fld.LTM_SRC_ERR = enc 32 (s.hub.ppsError t) ∧ h.time.lastMeas = (s.hub.advance t).up
    else h = s.hub.advance t)) ∧
  (∀ s : State, Runs .gmHoldoverTimeout s (fun h =>
    if s.hub.isHead = true ∧ s.hub.timeLocked = true ∧ s.hub.gmSource ≠ 3 ∧ s.hub.time.lastMeas + 3000000000 ≤ s.hub.up then
      h.timeState = tmHoldover ∧ h.time.holdSince = s.hub.up ∧ Posted s.hub h Evt.LTM_HOLDOVER [s.hub.gmSource]
    else h = s.hub)) ∧
  (∀ s : State, Runs .gmHoldoverLimit s (fun h =>
    let sec := (s.hub.up - s.hub.time.holdSince) / 1000000000
    if s.hub.isHead = true ∧ s.hub.timeState = tmHoldover ∧ s.hub.getf Fld.LTM_GM_CFG_HOLD_MAX ≤ sec then
      h.timeState = tmHoldLimit ∧ Posted s.hub h Evt.LTM_HOLDOVER_LIMIT [sec]
    else h = s.hub)) ∧
  (∀ (v : Word) (s : State), Runs (.gmSourceWrite v) s (fun h => if s.hub.isHead = false then h = s.hub
    else h.getf Fld.LTM_GM_CFG_PTP_PORT = bits v.toNat 5 4 ∧
      h.getf Fld.LTM_GM_CFG_HOLD_MAX = (if bits v.toNat 31 16 = 0 then s.hub.getf Fld.LTM_GM_CFG_HOLD_MAX % 65536 else bits v.toNat 31 16) ∧
      h.gmSource = (if bits v.toNat 1 0 = 0 then s.hub.gmSource else bits v.toNat 1 0) ∧
      (s.hub.time.started = true → bits v.toNat 1 0 = 3 → h.timeLocked = true ∧ h.getf Fld.LTM_RATE = 0) ∧
      (s.hub.time.started = true → bits v.toNat 1 0 = 1 ∨ bits v.toNat 1 0 = 2 → h.timeState = tmAcquiring ∧ h.time.lockRun = 0))) ∧
  (∀ (i : Fin 3) (v : Word) (s : State), Runs (.originWrite i v) s (fun h =>
    if s.hub.isHead = false then h = s.hub
    else if s.hub.originHeld = true then h.getf Fld.LTM_ORIGIN_SEC_LO = s.hub.getf Fld.LTM_ORIGIN_SEC_LO ∧
      h.getf Fld.LTM_ORIGIN_SEC_HI = s.hub.getf Fld.LTM_ORIGIN_SEC_HI ∧ h.getf Fld.LTM_ORIGIN_NS_NS = s.hub.getf Fld.LTM_ORIGIN_NS_NS
    else (i = 0 → h.getf Fld.LTM_ORIGIN_SEC_LO = v.toNat) ∧ (i = 1 → h.getf Fld.LTM_ORIGIN_SEC_HI = v.toNat % 65536) ∧
      (i = 2 → h.getf Fld.LTM_ORIGIN_NS_NS = v.toNat % 2 ^ 30 ∧ h.mapValid = bit v.toNat 31))) ∧
  (∀ s : State, Runs .closureUpdate s (fun h => if s.hub.isHead = false then h = s.hub
    else h.getf Fld.LTM_CLOSURE = if s.hub.ringWhole then
      enc 32 (sgn 32 (s.hub.getf Fld.LTM_CLOSURE) + sgn 32 (Config.freeNat freeTagClosure s.hub.fresh)) else 0)) ∧
  (∀ (m : Msg) (t : Hub) (s : State), s.hub.takeMsg 5 [1] = (some m, t) → Runs .timeAnnounceReceive s (fun h =>
    let b := padTo 32 m.body
    if t.isHead then h = t
    else h.time.ann = b ∧ h.getf Fld.LTM_ORIGIN_SEC_LO = beNat (slice b 6 4) ∧ h.getf Fld.LTM_ORIGIN_SEC_HI = beNat (slice b 4 2) ∧
      h.getf Fld.LTM_ORIGIN_NS_NS = beNat (slice b 10 4) % 2 ^ 30 ∧ h.mapValid = bit (byteAt b 3) 0 ∧
      h.getf Fld.LTM_UTC_UTC_OFFSET = beNat (slice b 14 2) ∧ h.getf Fld.LTM_CLOSURE = beNat (slice b 24 4)))

/-- TIO pins: levels, modes, captures, and the launch actions that drive them (R194 to R196, R198, R206).
Model's choices: log entry 20. -/
def Obligations.TioPinsDriveAndCapture : Prop :=
  (∀ (v : Word) (s : State), Runs (.tioLevelWrite v) s (fun h => h.regs = s.hub.regs ∧ ∀ n < 32,
    if s.hub.pinOut n then h.pin n = { s.hub.pin n with level := if s.hub.edgeNear n then (s.hub.pin n).level else bit v.toNat n }
    else h.pin n = s.hub.pin n)) ∧
  (∀ (n : Fin 32) (v : Word) (s : State), Runs (.tioModeChange n v) s (fun h =>
    let old := s.hub.getf (Fld.LTM_TIO_CFG_MODE n)
    let new := if bits v.toNat 1 0 = 3 then old % 4 else bits v.toNat 1 0
    h.getf (Fld.LTM_TIO_CFG_MODE n) = new ∧ h.getf (Fld.LTM_TIO_CFG_DEST n) = bits v.toNat 15 14 ∧
    h.getf (Fld.LTM_TIO_CFG_EDGES n) = bits v.toNat 13 12 ∧
    (old ≠ 1 → bits v.toNat 1 0 = 1 → (h.pin n).level = bit v.toNat 8 ∧
      h.out = .tio n (some (bit v.toNat 8 != bit v.toNat 9)) :: s.hub.out) ∧
    (old = 1 → bits v.toNat 1 0 = 0 ∨ bits v.toNat 1 0 = 2 → h.out = .tio n none :: s.hub.out ∧
      ∀ i l, Tab.get? i s.hub.time.launches = some l → tioAction l.action = true → l.pin = n.val → l.handed = true →
        Tab.get? i h.time.launches = some { l with dead := true }))) ∧
  (∀ (n : Fin 32) (high : Bool) (t : Nat) (s : State), Runs (.tioCapture n high t) s (fun h =>
    let level := high != s.hub.flag (Fld.LTM_TIO_CFG_POL n)
    let P := s.hub.pin n
    let sel := s.hub.getf (Fld.LTM_TIO_CFG_EDGES n)
    h.now = max s.hub.now (t + filterNs (s.hub.getf (Fld.LTM_TIO_CFG_FILTER n))) ∧
    if s.hub.getf (Fld.LTM_TIO_CFG_MODE n) ≠ 2 ∨ P.ball = high ∨ (if level then bit sel 0 else bit sel 1) = false then
      h.pin n = { P with ball := high } ∧ h.pool = s.hub.pool
    else if (match P.lastEdge with | none => false | some e => decide (t < e + 8)) = true then
      h.pin n = { P with ball := high, missed := true } ∧ h.pool = s.hub.pool
    else h.pin n = { P with ball := high, lastEdge := some t, missed := false, seq := (P.seq + 1) % 65536 } ∧
      (s.hub.qEnabled (16 + n.val / 8) = false → h.cnt Cnt.LTM_CNT_CAPTURES = s.hub.cnt Cnt.LTM_CNT_CAPTURES ∧
        ∀ r : Nat, (h.queue r).cells = (s.hub.queue r).cells))) ∧
  (∀ (slot : Fin 1024) (l : Launch) (on : Bool) (c : Instr) (a : Nat) (s : State),
    (c, a, on) ∈ [(Instr.tioSet slot, 1, true), (.tioClear slot, 2, false)] → s.hub.due slot a = some l → Runs c s (fun h =>
      if s.hub.pinOut l.pin = true ∧ l.dead = false then (h.pin l.pin).level = on ∧
        h.out = .tio l.pin (some (on != s.hub.flag (Fld.LTM_TIO_CFG_POL l.pin))) :: s.hub.out ∧
        Completed s.hub h slot (if l.late then lsLateExec else lsOk) l.f
      else h.out = s.hub.out ∧ Completed s.hub h slot lsBadTarget l.f)) ∧
  (∀ (slot : Fin 1024) (l : Launch) (s : State), s.hub.due slot 3 = some l →
    Runs (.tioPulse slot) s (fun h =>
      if l.fired = true then h = s.hub
      else if s.hub.pinOut l.pin = true ∧ l.dead = false then (h.pin l.pin).level = true ∧
        Tab.get? slot.val h.time.launches = some { l with fired := true }
      else h.out = s.hub.out ∧ Completed s.hub h slot lsBadTarget l.f) ∧
    Runs (.tioPulseEnd slot) s (fun h =>
      if l.fired = false then h = s.hub
      else if s.hub.pinOut l.pin = true ∧ l.dead = false then (h.pin l.pin).level = false ∧ h.now = max s.hub.now (l.f + l.width) ∧
        Completed s.hub h slot (if l.late then lsLateExec else lsOk) l.f
      else Completed s.hub h slot lsBadTarget l.f))

/-- Launches: posting, admission with its checks in order, cancels, handover and completion (R199 to R204).
Model's choices: log entries 55, 62, 161. -/
def Obligations.LaunchesAreAdmittedAndComplete : Prop :=
  (∀ s : State, s.hub.time.toPost = [] → Runs .launchRecordPost s (fun h => h = s.hub)) ∧
  (∀ (p : LaunchPost) (ps : List LaunchPost) (s : State), s.hub.time.toPost = p :: ps → Runs .launchRecordPost s (fun h =>
    if s.hub.tick < p.at' then h = s.hub
    else h.time.toPost = ps ∧
      if (s.hub.queue 6).pkts.length < (h.queue 6).pkts.length then h.time.held = s.hub.time.held
      else ∃ d, h.time.held = s.hub.time.held ++ [d] ∧ d.src = p.src ∧ d.cancel = p.cancel ∧
        d.status = if p.cancel then lsCancelRefused else lsNoSlot)) ∧
  (∀ (t : Nat) (p : LaunchPost) (s : State), s.hub.queue6 = some p → p.cancel = false → Runs (.launchAdmit t) s (fun h =>
    let u := (s.hub.advance t).popPkt 6
    let l := readLaunch p.bytes p.src
    let lead : Int := (l.time : Int) - u.now
    let late := decide (lead < 125000)
    let m := { l with late := late, f := if late then max l.time (u.now + actionPrep l.action) else l.time }
    let refused (st : Nat) := h.time.launches = s.hub.time.launches ∧
      h.time.held = s.hub.time.held ++ [{ status := st, slot := 0, cookie := l.cookie, f := 0, src := p.src }]
    if u.check1 l = true then refused lsBadTarget
    else if u.check2 l = true then refused lsUnavailable
    else if late = true ∧ (bit l.flags 0 = false ∨ lead < -1000000) then refused lsLate
    else if s.hub.time.launches.any (fun e => conflicts m e.2) = true then refused lsConflict
    else match s.hub.freeSlot with
      | none => refused lsNoSlot
      | some i => Tab.get? i h.time.launches = some { m with order := s.hub.time.order } ∧ h.time.held = s.hub.time.held)) ∧
  (∀ (p : LaunchPost) (s : State), s.hub.queue6 = some p → p.cancel = true → Runs .launchCancelAdmit s (fun h =>
    let i := beNat (slice p.bytes 0 2)
    let ok := match Tab.get? i s.hub.time.launches with
      | none => false
      | some l => l.cookie == beNat (slice p.bytes 8 8) && !l.handed
    (ok = true → Tab.get? i h.time.launches = none) ∧ (ok = false → h.time.launches = s.hub.time.launches) ∧
    h.time.held.getLast? = some
      { cancel := true, status := if ok then lsOk else lsCancelRefused, slot := i, cookie := beNat (slice p.bytes 8 8), f := 0, src := p.src })) ∧
  (∀ (slot : Fin 1024) (s : State), Runs (.launchHandover slot) s (fun h =>
    match Tab.get? slot.val s.hub.time.launches with
    | none => h = s.hub
    | some l =>
      let u := s.hub.advance l.handAt
      if l.handed = true then h = u
      else if u.check1 l = true ∨ u.handoverBad l = true then Completed s.hub h slot lsBadTarget 0
      else if u.check2 l = true then Completed s.hub h slot lsUnavailable 0
      else s.hub.rel.flips = [] → Tab.get? slot.val h.time.launches = some { l with handed := true })) ∧
  (∀ s : State, Runs .launchCompletionPost s (fun h =>
    match s.hub.time.held with
    | [] => h = s.hub
    | _ :: ds => if s.hub.allocate 7 = .granted ∧ (s.hub.queue 7).full = false ∧ s.hub.qEnabled 7 = true then h.time.held = ds else h = s.hub))

/-- Display heads: enabling with its checks, link training, hot plug; packets into the staging ring, frames, applies, the freeze detector and
timed commits (R289, R292, R294, R298 to R306, R308).
Model's choices: log entries 99, 100, 101, 102, 103, 180. -/
def Obligations.DisplayHeads : Prop :=
  (∀ (d : Fin 2) (v : Word) (s : State), s.hub.flag (Fld.DSP_HEAD_CFG_EN d) = false → bits v.toNat 29 27 < 6 → bits v.toNat 24 23 < 3 →
    Runs (.dspHeadEnable d v) s (fun h =>
      let u := s.hub |>.setf (Fld.DSP_HEAD_CFG_LINE_LOCK d) (bits v.toNat 30 30) |>.setf (Fld.DSP_HEAD_CFG_MAX_RATE d) (bits v.toNat 26 25)
        |>.setf (Fld.DSP_HEAD_CFG_INQ d) (bits v.toNat 12 0) |>.setf (Fld.DSP_HEAD_CFG_FORMAT d) (bits v.toNat 29 27)
        |>.setf (Fld.DSP_HEAD_CFG_MAX_LANES d) (bits v.toNat 24 23)
      h.dspFormat d = bits v.toNat 29 27 ∧ h.getf (Fld.DSP_HEAD_CFG_INQ d) = bits v.toNat 12 0 ∧
      if bit v.toNat 31 = false then h = u
      else if u.dspRefuser d ≠ 0 then h.flag (Fld.DSP_HEAD_CFG_EN d) = false ∧ h.getf (Fld.DSP_HEAD_STATUS_CAUSE d) = u.dspRefuser d ∧
        Posted s.hub h Evt.DSP_CFG_REFUSED [0x080100 + 0x100 * d, v.toNat]
      else h.flag (Fld.DSP_HEAD_CFG_EN d) = true ∧ h.getf (Fld.DSP_HEAD_STATUS_CAUSE d) = 0 ∧
        h.dspState d = (if u.sinkThere d then dsTraining else dsWaitSink) ∧
        (h.queue (bits v.toNat 12 0)).cons = some (.disp d) ∧ h.dhead d = { relock := bit v.toNat 30 })) ∧
  (∀ (d : Fin 2) (s : State), Runs (.dspHeadDisable d) s (fun h => if s.hub.flag (Fld.DSP_HEAD_CFG_EN d) = false then h = s.hub
    else h.flag (Fld.DSP_HEAD_CFG_EN d) = false ∧ h.dspState d = dsOff ∧ h.dhead d = {} ∧
      (h.queue (s.hub.getf (Fld.DSP_HEAD_CFG_INQ d))).cons ≠ some (.disp d))) ∧
  (∀ (d : Fin 2) (ok : List Bool) (s : State),
    Runs (.dspLinkTrain d ok) s (fun h => h = if s.hub.mayTrain d ∧ s.hub.dspState d = dsTraining then s.hub.dspTrain d ok else s.hub) ∧
    Runs (.dspTrainRetry d ok) s (fun h => h = if s.hub.retryDue d then s.hub.dspTrain d ok else s.hub)) ∧
  (∀ (d : Fin 2) (ok : List Bool) (u : Hub),
    let h := u.dspTrain d ok
    (h.dspState d = dsScanout → u.carries d (h.getf (Fld.DSP_HEAD_STATUS_RATE d), h.getf (Fld.DSP_HEAD_STATUS_LANES d)) = true ∧
      Posted u h Evt.DSP_LINK_UP [d, h.getf (Fld.DSP_HEAD_STATUS_RATE d), h.getf (Fld.DSP_HEAD_STATUS_LANES d)]) ∧
    (h.dspState d ≠ dsScanout → (h.dspState d = dsNoBandwidth ∨ h.dspState d = dsWaitSink) ∧
      Posted u h Evt.DSP_LINK_FAIL [d, h.dspState d]) ∧
    ((∀ b ∈ ok, b = false) → h.dspState d ≠ dsScanout)) ∧
  (∀ (d : Fin 2) (lost : Bool) (ok : List Bool) (s : State), Runs (.dspIrqHpd d lost ok) s (fun h =>
    let u := s.hub.setDrop d { s.hub.drop d with irq := false }
    if (s.hub.drop d).irq = false ∨ u.mayTrain d = false then h = u
    else if u.dspState d ≠ dsScanout then h = u.dspTrain d ok
    else if lost = true then Counted s.hub h (Cnt.DSP_CNT_RETRAIN d) 1 ∧
      h = ((u.count (Cnt.DSP_CNT_RETRAIN d) 1).setf (Fld.DSP_HEAD_STATUS_STATE d) dsTraining).dspTrain d ok
    else h = u)) ∧
  (∀ (d : Fin 2) (dpcd edid : List Byte) (s : State), Runs (.dspHpdRise d dpcd edid) s (fun h =>
    if s.hub.sinkThere d = false ∨ s.hub.flag (Fld.DSP_HEAD_STATUS_HPD d) = true then h = s.hub
    else h.flag (Fld.DSP_HEAD_STATUS_HPD d) = true ∧
    (s.hub.flag (Fld.DSP_HEAD_CFG_EN d) = true → s.hub.dspState d = dsWaitSink → h.dspState d = dsTraining) ∧ h.getf (Fld.DSP_SINK_RATE d) = byteAt dpcd 1 ∧
    h.getf (Fld.DSP_SINK_BLOCKS d) = edidBlocks edid ∧
    h.flag (Fld.DSP_SINK_EDID_VALID d) = (List.range (edidBlocks edid)).all (fun i => edidSum edid i) ∧
    (∀ w < 4, h.getf (Fld.DSP_DPCD d w) = beNat (padTo 4 (slice (dpcd.take 16) (4 * w) 4))) ∧
    Posted s.hub h Evt.DSP_HOTPLUG [d, 1])) ∧
  (∀ (d : Fin 2) (s : State), Runs (.dspHpdLoss d) s (fun h =>
    if s.hub.sinkThere d = true ∨ s.hub.flag (Fld.DSP_HEAD_STATUS_HPD d) = false ∨ s.hub.ranFor (s.hub.drop d).at'.hpd 2000001 = false then
      h = s.hub
    else h.flag (Fld.DSP_HEAD_STATUS_HPD d) = false ∧
    h.flag (Fld.DSP_SINK_EDID_VALID d) = false ∧ (∀ w < 128, h.getf (Fld.DSP_EDID d w) = 0) ∧
    h.dspState d = (if s.hub.dspState d = dsOff ∨ s.hub.dspState d = dsNoMemory then s.hub.dspState d else dsWaitSink) ∧
    Posted s.hub h Evt.DSP_HOTPLUG [d, 0])) ∧
  (∀ (d : Fin 2) (t : Nat) (s : State), s.hub.dspState d = dsOff ∨ 16 ≤ (s.hub.dhead d).commits.length →
    Runs (.dspPacketTake d t) s (fun h => h = s.hub.advance t)) ∧
  (∀ (d : Fin 2) (t : Nat) (p : List QCell) (ps : List (List QCell)) (s : State),
    let q := s.hub.getf (Fld.DSP_HEAD_CFG_INQ d)
    let b := s.hub.pktBytes p
    let H := s.hub.dhead d
    let n := recSize b.length
    s.hub.dspState d ≠ dsOff → H.commits.length < 16 → s.hub.rel.flips = [] → s.hub.pool.claim = none → s.hub.qEnabled q = true →
    (s.hub.queue q).pkts = p :: ps → pktGap p = false → pktPoison p = false → Runs (.dspPacketTake d t) s (fun h =>
      if s.hub.dspState d = dsNoMemory then (h.queue q).pkts = ps ∧ (byteAt b 0 = 1 → Counted s.hub h (Cnt.DSP_CNT_DISCARD d) 1)
      else if byteAt b 0 = 2 then (h.queue q).pkts = ps ∧ (h.dhead d).cur = {} ∧
        (h.dhead d).commits.map (fun c => (c.id, c.own)) = H.commits.map (fun c => (c.id, c.own)) ++
          [(beNat (slice b 4 4), if bit (byteAt b 1) 0 then none else some (max s.hub.now t))]
      else if byteAt b 0 ≠ 1 ∨ s.hub.tileGood d b = false then (h.queue q).pkts = ps ∧ Counted s.hub h (Cnt.DSP_CNT_TILE_BAD d) 1
      else if H.cur.dropping = true then (h.queue q).pkts = ps ∧ (h.dhead d).cur.dropped = H.cur.dropped + 1 ∧
        Counted s.hub h (Cnt.DSP_CNT_STAGE_OVF d) 1
      else if H.used + n ≤ s.hub.stSize d then (h.queue q).pkts = ps ∧ (h.dhead d).used = H.used + n ∧
        (h.dhead d).cur.tiles = H.cur.tiles ++ [⟨H.head, tileX b, tileY b, tileW b, tileH b⟩] ∧ Counted s.hub h (Cnt.DSP_CNT_TILES d) 1
      else if n ≤ s.hub.stSize d ∧ (H.commits ≠ [] ∨ H.applying ≠ []) then (h.queue q).pkts = p :: ps ∧ h.dhead d = H
      else (h.queue q).pkts = ps ∧ (h.dhead d).cur.dropping = true ∧ (h.dhead d).cur.tiles = [] ∧
        Counted s.hub h (Cnt.DSP_CNT_STAGE_OVF d) (H.cur.tiles.length + 1))) ∧
  (∀ (d : Fin 2) (t : Nat) (s : State), Runs (.dspFrameStart d t) s (fun h =>
    let H := s.hub.dhead d
    if s.hub.dspState d = dsOff ∨ s.hub.dspState d = dsNoMemory ∨ s.hub.frameDue d t = false then h = s.hub.advance t
    else h.getf (Fld.DSP_FRAME_LO d) = (s.hub.getf (Fld.DSP_FRAME_LO d) + 1) % 2 ^ 32 ∧ h.getf (Fld.DSP_VB_TIME_LO d) = t % 2 ^ 32 ∧
      (h.dhead d).start = some t ∧ (h.dhead d).blank = some t ∧ (h.dhead d).relock = false ∧ (h.dhead d).filled = false ∧
      (h.dhead d).live = (s.hub.dspState d == dsScanout) ∧ ∃ ready, H.commits = ready ++ (h.dhead d).commits ∧
        (h.dhead d).applying = H.applying ++ ready ∧ ∀ c ∈ ready, ∃ e, c.eff = some e ∧ e < t)) ∧
  (∀ (d : Fin 2) (s : State), Runs (.dspApplyDone d) s (fun h =>
    let H := s.hub.dhead d
    if H.applying = [] then h = s.hub
    else (h.dhead d).applying = [] ∧ (h.dhead d).commits = H.commits ∧ Counted s.hub h (Cnt.DSP_CNT_COMMITS d) H.applying.length)) ∧
  (∀ (d : Fin 2) (s : State), Runs (.dspPrefill d) s (fun h =>
    if (s.hub.dhead d).blank = none ∨ s.hub.dspState d = dsOff ∨ s.hub.dspState d = dsNoMemory ∨ (s.hub.dhead d).applying ≠ [] then
      h = s.hub
    else (h.dhead d).filled = true ∧ (h.dhead d).lines = ([0, 1, 2, 3].map (fun y => s.hub.pixels d 0 y (s.hub.hact d))).flatten ∧ h.lineMem = s.hub.lineMem)) ∧
  (∀ (d : Fin 2) (s : State), Runs (.dspScanoutStart d) s (fun h =>
    if (s.hub.dhead d).blank = none ∨ (s.hub.dhead d).filled = false then h = s.hub
    else (h.dhead d).blank = none ∧ (h.dhead d).filled = false ∧ (s.hub.rel.flips = [] →
      h.out = if s.hub.dspState d = dsScanout ∧ (s.hub.dhead d).live = true then .scanFrame d (s.hub.framePixels d) :: s.hub.out
        else s.hub.out))) ∧
  (∀ (d : Fin 2) (r : Fin 3) (v : Word) (s : State), Runs (.dspFrzWrite d r v) s (fun h =>
    (r = 0 → h.getf (Fld.DSP_FRZ_XY_X d) = bits v.toNat 15 0 ∧ h.getf (Fld.DSP_FRZ_XY_Y d) = bits v.toNat 31 16) ∧
    (r = 1 → h.getf (Fld.DSP_FRZ_WH_W d) = bits v.toNat 15 0 ∧ h.getf (Fld.DSP_FRZ_WH_H d) = bits v.toNat 31 16) ∧
    (r = 2 → h.flag (Fld.DSP_FRZ_CFG_EN d) = bit v.toNat 31 ∧ h.flag (Fld.DSP_FRZ_CFG_HEARTBEAT d) = bit v.toNat 30) ∧
    (r ≠ 2 ∨ (bit v.toNat 31 = true ∧ s.hub.flag (Fld.DSP_FRZ_CFG_EN d) = false) →
      h.flag (Fld.DSP_FRZ_STATUS_FROZEN d) = false ∧ h.getf (Fld.DSP_FRZ_STATUS_UNCHANGED d) = 0 ∧ (h.dhead d).sig = none))) ∧
  (∀ (slot : Fin 1024) (l : Launch) (s : State), s.hub.due slot 0x30 = some l → Runs (.dispCommit slot) s (fun h =>
    match (s.hub.dhead l.target).commits.findIdx? (fun c => c.own.isNone && c.id == l.width) with
    | none => Completed s.hub h slot lsEmpty l.f
    | some i => Completed s.hub h slot (if l.late then lsLateExec else lsOk) l.f ∧
      ((h.dhead l.target).commits[i]?.map (fun c => c.own)) = some (some l.f)))

/-- The host port's link, resets, vectors and rings (R214, R219, R222 to R225, R236, R443).
Model's choices: log entries 74, 75. -/
def Obligations.HostPortLinkAndRings : Prop :=
  (∀ (c : Fin 5) (s : State), Runs (.hostPortReset c) s (fun h => h.flag Fld.HIF_STATUS_BME = false ∧ h.flag Fld.HIF_CTL_DB_EN = false ∧
    h.hif.rings = [] ∧ h.hif.pageAt = none ∧ h.hif.perst = (s.hub.hif.perst || c.val == 0) ∧
    (∀ r < 1024, r ∈ s.hub.enabledRings → h.ringEn r = false) ∧
    (c.val = 0 ∨ c.val = 2 → h.flag Fld.HIF_STATUS_LINK_UP = false) ∧
    (c.val = 0 → h.out = .clkreqN false :: s.hub.out) ∧
    (c.val ≠ 0 → c.val ≠ 2 → h.flag Fld.HIF_STATUS_LINK_UP = s.hub.flag Fld.HIF_STATUS_LINK_UP ∧
      Posted s.hub h Evt.HIF_HOST_RESET [c]))) ∧
  (∀ (sp : Fin 6) (w : Fin 17) (bme : Bool) (s : State), Runs (.hifLinkUp sp w bme) s (fun h =>
    if s.hub.hasHost = false ∨ s.hub.hif.perst = true ∨ s.hub.sec.stage < sgRom ∨ s.hub.quadsAwake = false ∨
      s.hub.linkFits sp w = false then h = s.hub
    else h.flag Fld.HIF_STATUS_LINK_UP = true ∧ h.flag Fld.HIF_STATUS_BME = bme ∧ h.getf Fld.HIF_STATUS_SPEED = sp.val ∧
      h.getf Fld.HIF_STATUS_WIDTH = w.val ∧ (s.hub.flag Fld.HIF_STATUS_LINK_UP = false → Posted s.hub h Evt.HIF_LINK_UP [sp, w]))) ∧
  (∀ s : State, Runs .perstNRelease s (fun h => h.hif.perst = false ∧ h.out = .clkreqN true :: s.hub.out ∧ h.regs = s.hub.regs ∧ h.hif.rings = s.hub.hif.rings)) ∧
  (∀ (v : Fin 2048) (w : Word) (s : State), Runs (.msixVectorUnmask v w) s (fun h =>
    if s.hub.vectors ≤ v then h = s.hub
    else h.flag (Fld.HIF_MSIX_CTL_MASK v) = bit w.toNat 0 ∧
      if bit w.toNat 0 = false ∧ s.hub.pbaPending v = true then h.pbaPending v = false ∧
        h.out = .msix (s.hub.getf (Fld.HIF_MSIX_ADDR_HI v) * 2 ^ 32 + s.hub.getf (Fld.HIF_MSIX_ADDR_LO v))
          (s.hub.getf (Fld.HIF_MSIX_DATA v)) :: s.hub.out
      else h.out = s.hub.out)) ∧
  (∀ (r : Fin 1024) (v : Word) (s : State), s.hub.vectors ≠ 0 → s.hub.ringEn r = false → bit v.toNat 31 = true →
    bits v.toNat 30 28 < 6 → bits v.toNat 27 24 < 13 → Runs (.ringEnable r v) s (fun h =>
      let c := (s.hub.ringFields r v.toNat).ringCause r (bits v.toNat 30 28) (bits v.toNat 27 24)
      h.ringType r = bits v.toNat 30 28 ∧ h.ringQueue r = bits v.toNat 12 0 ∧ h.ringCqOf r = bits v.toNat 23 14 ∧
      h.ringSize r = 2 ^ (bits v.toNat 27 24 + 4) ∧
      if c = 0 then h.ringEn r = true ∧ h.ringState r = rsActive ∧ h.hring r = { lastMsg := s.hub.tick } ∧
        (h.ringType r = rtTx → (h.queue (h.ringQueue r)).prod = some (.ring r)) ∧
        (h.ringType r = rtRx → (h.queue (h.ringQueue r)).cons = some (.ring r))
      else h.ringEn r = false ∧ h.ringState r = rsRefused ∧ h.getf (Fld.HIF_RING_STATUS_CAUSE r) = c ∧
        Posted s.hub h Evt.HIF_RING_ERROR [r, c])) ∧
  (∀ (r : Fin 1024) (v : Word) (s : State), s.hub.vectors ≠ 0 → s.hub.ringEn r = true → bit v.toNat 31 = false →
    Runs (.ringDisable r v) s (fun h =>
      if s.hub.cqNamed r = true then h.ringEn r = true ∧ Posted s.hub h Evt.GEN_LOCKED_WRITE [0x013000 + 4 * r, v.toNat]
      else h.ringEn r = false ∧ h.ringState r = rsDraining ∧ h.hring r = {})) ∧
  (∀ (r : Fin 1024) (s : State), Runs (.ringDrainDone r) s (fun h =>
    if s.hub.ringState r = rsDraining then h.ringState r = rsIdle ∧ h.hif = s.hub.hif else h = s.hub)) ∧
  (∀ (r : Fin 1024) (s : State), Runs (.interruptModeration r) s (fun h =>
    if s.hub.messageDue r = false then h = s.hub
    else
      let v := s.hub.getf (Fld.HIF_RING_AUX_VECTOR r)
      (h.hring r).unreported = 0 ∧ (h.hring r).lastMsg = s.hub.tick ∧
      if s.hub.flag (Fld.HIF_MSIX_CTL_MASK v) = true then h.out = s.hub.out
      else h.out = .msix (s.hub.getf (Fld.HIF_MSIX_ADDR_HI v) * 2 ^ 32 + s.hub.getf (Fld.HIF_MSIX_ADDR_LO v))
        (s.hub.getf (Fld.HIF_MSIX_DATA v)) :: s.hub.out)) ∧
  (∀ (r : Fin 1024) (v : Word) (s : State), s.hub.vectors ≠ 0 → s.hub.ringEn r = false → bit v.toNat 31 = true →
    5 < bits v.toNat 30 28 ∨ 12 < bits v.toNat 27 24 → Runs (.ringEnable r v) s (fun h =>
      h.ringEn r = false ∧ h.ringState r = rsRefused ∧ h.getf (Fld.HIF_RING_STATUS_CAUSE r) = 2 ∧ Posted s.hub h Evt.HIF_RING_ERROR [r, 2]))

/-- Doorbells, nudges, descriptor reads and the delivery of events (R222, R225, R226, R231 to R235, R237, R238).
Model's choices: log entries 76, 77, 80. -/
def Obligations.DoorbellsDescriptorsAndEvents : Prop :=
  (∀ (r : Option (Fin 1024)) (ws : List (Fin 1024 × Word)) (s : State),
    (match r with
      | none => s.hub.hif.pageAt = none ∧ s.hub.hif.inFlight.contains 1024 = false
      | some x => s.hub.hif.inFlight.contains x.val = false) → Runs (.doorbellPageArrive r ws) s (fun h => h = s.hub)) ∧
  (∀ (r : Fin 1024) (v : Word) (s : State), s.hub.pageInTime = true → s.hub.hif.again = [] → s.hub.ringEn r = true →
    s.hub.ringState r = rsActive → Runs (.doorbellPageArrive none [(r, v)]) s (fun h =>
      let R := s.hub.hring r
      let d := cntDiff v.toNat R.taken
      let out := if descRing (s.hub.ringType r) then cntDiff v.toNat R.count else cntDiff R.count v.toNat
      h.hif.pageAt = none ∧ Counted s.hub h Cnt.HIF_CNT_DB_FETCH 1 ∧
      if d = 0 ∨ 2 ^ 31 ≤ d then h.hring r = R
      else if s.hub.ringSize r < out then h.ringState r = rsError ∧ h.getf (Fld.HIF_RING_STATUS_CAUSE r) = 8 ∧ h.hring r = R
      else h.hring r = { R with taken := v.toNat } ∧ h.ringState r = rsActive)) ∧
  (∀ s : State, Runs .doorbellLate s (fun h =>
    match s.hub.hif.pageAt with
    | none => h = s.hub
    | some p => if p.1 + 30000 ≤ s.hub.up then h.hif.pageAt = none ∧ h.flag Fld.HIF_STATUS_DB_LATE = true ∧ Counted s.hub h Cnt.HIF_CNT_DB_LATE 1
      else h = s.hub)) ∧
  (∀ (v : Word) (s : State), Runs (.hifNudge v) s (fun h =>
    let w := if bit v.toNat 31 then 1024 else bits v.toNat 9 0
    if s.hub.dmaOk = false then h = s.hub
    else if s.hub.wordInFlight w = true then w ∈ h.hif.again ∧ h.out = s.hub.out
    else h.hif.inFlight = s.hub.hif.inFlight ++ [w] ∧ Counted s.hub h Cnt.HIF_CNT_NUDGE 1 ∧
      h.out = .hostRead (s.hub.dbBase + if w = 1024 then 0 else 4 * w) (if w = 1024 then 4096 else 4) :: s.hub.out)) ∧
  (∀ (r : Fin 1024) (d : Option (List Byte)) (s : State), Runs (.descriptorFetch r d) s (fun h =>
    if s.hub.dmaOk = false ∨ s.hub.nextTurn ≠ some r.val then h = s.hub
    else h.hif.turn = r ∧ match d with
      | none => h.out = (s.hub.descReads r (s.hub.fetchCount r 512)).out ∧ Counted s.hub h Cnt.HIF_CNT_DMA_ERR 1 ∧ h.ringState r = rsError ∧ h.getf (Fld.HIF_RING_STATUS_CAUSE r) = 7 ∧ Posted s.hub h Evt.HIF_RING_ERROR [r, 7]
      | some b => (h.hring r).count = ((s.hub.hring r).count + s.hub.fetchCount r b.length) % 2 ^ 32 ∧
        (s.hub.fetchCount r b.length ≠ 0 → Counted s.hub h Cnt.HIF_CNT_DESC (s.hub.fetchCount r b.length)) ∧
        (s.hub.rel.flips = [] → (s.hub.hring r).jobs = [] → (∀ j ∈ descsOf s.hub.fetchTick (s.hub.fetchCount r b.length) (s.hub.hring r).count b,
          opAllowed (s.hub.ringType r) j.d.op = true) →
          (h.hring r).jobs = descsOf s.hub.fetchTick (s.hub.fetchCount r b.length) (s.hub.hring r).count b))) ∧
  (∀ (r : Nat) (e : EvRec) (s : State), s.hub.evqs = [r] → s.hub.ev.recs = [e] → e.told = false → e.fed = true → s.hub.loadedPlan = false →
    Runs .eventDeliver s (fun h =>
      let b := e.image (s.hub.ringPhase r)
      if s.hub.evqPasses r e false = false then h.out = s.hub.out ∧ h.hif = s.hub.hif
      else if s.hub.evqRoom r = false then h.out = s.hub.out ∧ (h.hring r).lost = (s.hub.hring r).lost + 1 ∧
        Counted s.hub h Cnt.HIF_CNT_EVQ_DROP 1
      else (s.hub.hring r).lost = 0 → (h.hring r).count = ((s.hub.hring r).count + 1) % 2 ^ 32 ∧
        h.out = .hostWrite (s.hub.ringBase r + (s.hub.hring r).count % s.hub.ringSize r * 16)
          (leBytes 8 (leNat (b.take 8)) ++ leBytes 8 (leNat (b.drop 8))) :: s.hub.out)) ∧
  (∀ (ws : List (Fin 1024 × Word)) (s : State), s.hub.hif.pageAt.isSome = true → s.hub.pageInTime = false →
    Runs (.doorbellPageArrive none ws) s (fun h => h.hif.pageAt = none ∧ h.flag Fld.HIF_STATUS_DB_LATE = true ∧
      Counted s.hub h Cnt.HIF_CNT_DB_LATE 1 ∧ h.hif.rings = s.hub.hif.rings))

/-- Descriptors of TX, RX and DUMP rings, and NOP (R226, R227, R229, R230, R243, R297).
Model's choices: log entries 78, 79. -/
def Obligations.RingDescriptorsAreServed : Prop :=
  (∀ (r : Fin 1024) (d : Option (List Byte)) (s : State),
    (s.hub.ringJob r rtTx 1 = none → Runs (.txPkt r d) s (fun h => h = s.hub)) ∧
    (s.hub.ringJob r rtTx 2 = none → Runs (.txTile r d) s (fun h => h = s.hub)) ∧
    (s.hub.ringJob r rtTx 3 = none → Runs (.txCommit r) s (fun h => h = s.hub)) ∧
    (s.hub.ringJob r rtDump 0x70 = none → Runs (.dumpBuf r) s (fun h => h = s.hub))) ∧
  (∀ (r : Fin 1024) (d : Option (List Byte)) (j : Job) (s : State), s.hub.ringJob r rtTx 1 = some j → (s.hub.hring r).chained = 0 →
    (s.hub.hring r).chain = [] → (s.hub.hring r).chainBad = 0 → s.hub.plan.tunnels = [] → bit j.d.flags 2 = false →
    Runs (.txPkt r d) s (fun h => h.Ended (.ring r) j.idx ∧
      match d with
      | some b => h.pool = if txPktOk j.d then
          ((s.hub.setRing r { s.hub.hring r with chain := [], chained := 0, chainBad := 0 }).txProduce r 0 (padTo j.d.len b)).2.pool
        else s.hub.pool
      | none => h.pool = s.hub.pool ∧ (txPktOk j.d = true → Counted s.hub h Cnt.HIF_CNT_DMA_ERR 1))) ∧
  (∀ (r : Fin 1024) (b : List Byte) (j : Job) (s : State), s.hub.ringJob r rtTx 1 = some j → txPktOk j.d = true → bit j.d.flags 2 = true →
    (s.hub.hring r).chained < 16 → (s.hub.hring r).chainBad = 0 → ((s.hub.hring r).chain ++ padTo j.d.len b).length ≤ 65536 →
    Runs (.txPkt r (some b)) s (fun h => h.Ended (.ring r) j.idx ∧ (h.hring r).chained = (s.hub.hring r).chained + 1 ∧
      (h.hring r).chain = (s.hub.hring r).chain ++ padTo j.d.len b ∧ h.pool = s.hub.pool)) ∧
  (∀ (r : Fin 1024) (d : Option (List Byte)) (j : Job) (s : State), s.hub.ringJob r rtTx 2 = some j → Runs (.txTile r d) s (fun h =>
    h.Ended (.ring r) j.idx ∧ match d with
      | some b => h.pool = if txTileOk j.d then (s.hub.txProduce r 0 (tileHeader j.d ++ padTo j.d.len b)).2.pool else s.hub.pool
      | none => h.pool = s.hub.pool ∧ (txTileOk j.d = true → Counted s.hub h Cnt.HIF_CNT_DMA_ERR 1))) ∧
  (∀ (r : Fin 1024) (j : Job) (s : State), s.hub.ringJob r rtTx 3 = some j → Runs (.txCommit r) s (fun h =>
    h.Ended (.ring r) j.idx ∧ h.pool = if txCommitOk j.d then (s.hub.txProduce r 0 (commitPacket j.d)).2.pool else s.hub.pool)) ∧
  (∀ (r : Fin 1024) (ok : Bool) (s : State), s.hub.ringJob r rtRx 0x20 = none → Runs (.rxBuf r ok) s (fun h => h = s.hub)) ∧
  (∀ (r : Fin 1024) (ok : Bool) (j : Job) (s : State), s.hub.ringJob r rtRx 0x20 = some j →
    (rxBufOk j.d = false → Runs (.rxBuf r ok) s (fun h => h.Ended (.ring r) j.idx ∧ h.pool = s.hub.pool)) ∧
    (rxBufOk j.d = true → s.hub.headPkt (s.hub.ringQueue r) = none → Runs (.rxBuf r ok) s (fun h => h = s.hub)) ∧
    (rxBufOk j.d = true → s.hub.rel.flips = [] → (s.hub.hring r).rxPos = 0 → ∀ (p : List QCell) (ps : List (List QCell)),
      s.hub.qEnabled (s.hub.ringQueue r) = true → (s.hub.queue (s.hub.ringQueue r)).pkts = p :: ps →
      Runs (.rxBuf r true) s (fun h =>
        let bs := s.hub.leaveBytes (s.hub.ringQueue r) p
        Out.hostWrite j.d.addr (slice bs 0 j.d.len) ∈ h.out ∧ h.Ended (.ring r) j.idx ∧
        if bs.length ≤ j.d.len then (h.queue (s.hub.ringQueue r)).pkts = ps ∧ (h.hring r).rxPos = 0
        else (h.queue (s.hub.ringQueue r)).pkts = p :: ps ∧ (h.hring r).rxPos = j.d.len))) ∧
  (∀ (r : Fin 1024) (j : Job) (s : State), s.hub.ringJob r rtDump 0x70 = some j → Runs (.dumpBuf r) s (fun h =>
    if dumpBufOk j.d then h.flag Fld.HIF_STATUS_DUMP_ARMED = true ∧ ∃ x ∈ (h.hring r).jobs, x.idx = j.idx ∧ x.sent = true
    else if s.hub.behindDump r = true then h = s.hub
    else h.Ended (.ring r) j.idx)) ∧
  (∀ (w : Asker) (s : State), Runs (.nop w) s (fun h =>
    match s.hub.jobFor w 0x7F with
    | none => h = s.hub
    | some j => h = s.hub.finish w j s.hub.addr (if j.d.flags &&& 0xF6 = 0 ∧ j.d.qt = 0 ∧ j.d.addr = 0 ∧ j.d.len = 0 ∧ j.d.param = 0
        then stOk else stBadDesc) 0))

/-- Life-cycle transitions, boot control, key hashes and the flash (R218, R443, R449, R450, R453, R465, R466).
Model's choices: log entries 3, 137. -/
def Obligations.LifeCycleBootAndFlash : Prop :=
  (∀ (v : Word) (s : State), bits v.toNat 31 16 ≠ 0x1C5A → Runs (.lcTransition v) s (fun h => h = s.hub)) ∧
  (∀ (v : Word) (s : State), bits v.toNat 31 16 = 0x1C5A → s.hub.rel.acts = [] → Runs (.lcTransition v) s (fun h =>
    let dest := bits v.toNat 2 0
    if s.hub.lcAllowed dest then h.getf Fld.SEC_LC_STATE = dest ∧ h.sec.keys = [] ∧ h.sec.blob0 = none ∧ h.sec.blob1 = none ∧
      h.getf Fld.GEN_RESET_CAUSE_CLASS = 5 ∧ h.lineMem = []
    else h.getf Fld.SEC_LC_STATE = s.hub.getf Fld.SEC_LC_STATE ∧ h.sec = s.hub.sec ∧
      Posted s.hub h Evt.SEC_LC_REFUSED [s.hub.getf Fld.SEC_LC_STATE, dest])) ∧
  (∀ (v : Word) (c : Instr) (s : State), c ∈ [Instr.bootCommit v, .bootNextSlot v] → Runs c s (fun h =>
    h.sec.svn = (if bit v.toNat 2 then max s.hub.sec.svn (s.hub.getf Fld.SEC_BOOT_SVN) else s.hub.sec.svn) ∧
    h.sec.nextSlot = (if bit v.toNat 1 then some (bits v.toNat 0 0) else s.hub.sec.nextSlot) ∧ h.sec.khash = s.hub.sec.khash)) ∧
  (∀ (v : Word) (c : Instr) (s : State), c ∈ [Instr.khashBurn v, .khashRevoke v] → Runs c s (fun h =>
    let i := bits v.toNat 1 0
    (∀ j, j ≠ i → Tab.get? j h.sec.khash = Tab.get? j s.hub.sec.khash) ∧
    (bit v.toNat 30 = false → bit v.toNat 31 = true → s.hub.getf Fld.SEC_LC_STATE ≤ 1 → Tab.get? i s.hub.sec.khash = none →
      ∃ k, Tab.get? i h.sec.khash = some k ∧ k.use = bits v.toNat 6 4 ∧ k.revoked = false ∧
        k.hash = (List.range 8).flatMap (fun w => beBytes 4 (s.hub.getf (Fld.SEC_KHASH w)))) ∧
    (bit v.toNat 30 = false → (2 ≤ s.hub.getf Fld.SEC_LC_STATE ∨ (Tab.get? i s.hub.sec.khash).isSome = true) → h = s.hub) ∧
    (∀ k, bit v.toNat 30 = true → Tab.get? i s.hub.sec.khash = some k →
      Tab.get? i h.sec.khash = some { k with revoked := k.revoked || decide (s.hub.sec.runKey ≠ some i) }))) ∧
  (∀ (v : Word) (c : Instr) (s : State), c ∈ [Instr.flashErase v, .flashProgram v] → Runs c s (fun h =>
    let op := bits v.toNat 1 0
    let n := if op = 1 then 65536 else 256
    let a := s.hub.getf Fld.SEC_FLASH_ADDR / n * n
    if s.hub.flag Fld.SEC_FLASH_CMD_BUSY = true ∨ op = 0 ∨ op = 3 then h = s.hub
    else if s.hub.flashAllowed a (a + n) then h.sec.flashOp = some (op, a) ∧ h.flag Fld.SEC_FLASH_CMD_BUSY = true ∧
      h.sec.flash = s.hub.sec.flash
    else h.getf Fld.SEC_FLASH_CMD_RESULT = 1 ∧ h.sec = s.hub.sec)) ∧
  (∀ s : State, s.hub.sec.flashOp = none → ∀ ok, Runs (.flashOpDone ok) s (fun h => h = s.hub)) ∧
  (∀ (ok : Bool) (op a : Nat) (s : State), s.hub.sec.flashOp = some (op, a) → Runs (.flashOpDone ok) s (fun h =>
    h.sec.flashOp = none ∧ h.flag Fld.SEC_FLASH_CMD_BUSY = false ∧ h.getf Fld.SEC_FLASH_CMD_RESULT = (if ok then 0 else 2) ∧
    h.sec.flash = (if ok = false then s.hub else if op = 1 then s.hub.flashErase a (a + 65536)
      else s.hub.flashWrite a ((List.range 64).flatMap (fun w => leBytes 4 (s.hub.getf (Fld.SEC_FLASH_DATA w))))).sec.flash)) ∧
  (∀ (a : Fin 67108864) (n : Fin 4097) (s : State), Runs (.bar2Read a n) s (fun h =>
    h = if s.hub.flag Fld.HIF_STATUS_BAR2 = false then s.hub
      else if s.hub.flag Fld.GEN_BOOT_STATUS_READY = false then s.hub.emit (.unsupported a)
      else if s.hub.deployed = true ∧ s.hub.dbgGrants 2 = false then s.hub.emit (.bar2 (zeros n) false)
      else s.hub.emit (.bar2 (s.hub.memRead a n) (s.hub.memBad a n))))

/-- Keys, the blob area and the debug session (R456 to R459).
Model's choices: log entries 9, 10, 141, 144. -/
def Obligations.KeysAndDebugSessions : Prop :=
  (∀ (v : Word) (c : Instr) (s : State), c ∈ [Instr.keyLoad v, .keyErase v] → Runs c s (fun h =>
    let kind := bits v.toNat 25 24
    let id := bits v.toNat 18 16
    let slot := 8 * kind + id
    if bit v.toNat 31 = true then
      match (if kind = 3 ∨ id = 0 then none
          else (s.hub.kek (bits v.toNat 9 8) (bits v.toNat 2 0) kind).bind (fun k => keyUnwrap k (s.hub.keyBlob kind))) with
      | none => Counted s.hub h Cnt.SEC_CNT_KEY_REFUSED 1 ∧ h.sec = s.hub.sec ∧
        Posted s.hub h Evt.SEC_KEY_REFUSED [kind, id, bits v.toNat 9 8 * 256 + bits v.toNat 2 0]
      | some k => Tab.get? slot h.sec.keys = some k ∧ h.sec.keysDirty = true ∧
        ∀ j, j ≠ slot → Tab.get? j h.sec.keys = Tab.get? j s.hub.sec.keys
    else if bit v.toNat 30 = true ∧ (Tab.get? slot s.hub.sec.keys).isSome = true then
      Tab.get? slot h.sec.keys = none ∧ h.sec.keysDirty = true ∧ ∀ j, j ≠ slot → Tab.get? j h.sec.keys = Tab.get? j s.hub.sec.keys
    else h = s.hub)) ∧
  (∀ s : State, Runs .keyBlobRewrite s (fun h => h.sec.keys = s.hub.sec.keys ∧ if s.hub.sec.keysDirty = true then
      h.sec.blob0 = some (s.hub.getf Fld.SEC_LC_STATE, s.hub.sec.keys) ∧ h.sec.blob1 = h.sec.blob0 ∧ h.sec.keysDirty = false
    else h = s.hub)) ∧
  (∀ (v : Word) (c : Instr) (s : State), c ∈ [Instr.dbgChallenge v, .dbgProve v, .dbgLock v] → Runs c s (fun h =>
    (bit v.toNat 29 = true → h.sec.dbgScope = 0 ∧ h.flag Fld.SEC_DBG_CTL_OPEN = false) ∧
    (bit v.toNat 31 = true → bit v.toNat 30 = false → s.hub.sec.dbgLockout = false →
      ∃ b, h.sec.chal = some (b, s.hub.up) ∧ b.length = 32) ∧
    (bit v.toNat 31 = true → s.hub.sec.dbgLockout = true → bit v.toNat 30 = false → h.sec.chal = s.hub.sec.chal) ∧
    (bit v.toNat 31 = false → bit v.toNat 30 = true →
      let u := s.hub |>.setf Fld.SEC_DBG_CTL_KEY_SLOT (bits v.toNat 9 8) |>.setf Fld.SEC_DBG_CTL_SCOPE (bits v.toNat 7 0)
      h.sec.chal = none ∧
      if u.dbgProofGood = true then Posted s.hub h Evt.SEC_DEBUG_UNLOCK [bits v.toNat 7 0, bits v.toNat 9 8] ∧
        (bit v.toNat 29 = false → h.flag Fld.SEC_DBG_CTL_OPEN = true ∧ h.sec.dbgScope = bits v.toNat 7 0 ∧ h.sec.dbgFails = 0)
      else h.sec.dbgFails = s.hub.sec.dbgFails + 1 ∧ h.sec.dbgLockout = decide (3 ≤ s.hub.sec.dbgFails + 1) ∧ h.sec.dbgLockAt = s.hub.up ∧
        Posted s.hub h Evt.SEC_DEBUG_FAIL [s.hub.sec.dbgFails + 1]))) ∧
  (∀ s : State, s.hub.sec.chal = none → s.hub.dbgProofGood = false) ∧
  (∀ s : State, Runs .dbgLockoutEnd s (fun h =>
    if s.hub.sec.dbgLockout = true ∧ s.hub.ranFor s.hub.sec.dbgLockAt 60000000000 = true then h.sec.dbgLockout = false ∧ h.sec.dbgFails = 0 ∧ h.regs = s.hub.regs else h = s.hub))

/-- A step runs the command at the front of the queue on the rest of it; on an empty queue the block idles (the model's choice, log
entry 1). -/
def Obligations.StepRunsTheFrontCommand : Prop :=
  (∀ (c : Instr) (cs : List Instr) (h : Hub), step { pending := c :: cs, hub := h } = exec c { pending := cs, hub := h }) ∧
  (∀ h : Hub, step { pending := [], hub := h } = .next { pending := [], hub := h })

/-- Every command of the table runs in every state and leaves the queue as it is: the spec gives each an effect, so none ends in a
fault or a refusal.
Model's choices: log entries 8, 49. -/
def Obligations.EveryCommandRuns : Prop :=
  ∀ (c : Instr) (s : State), ∃ h : Hub, exec c s = .next { s with hub := h }

/-- What reset leaves: an empty queue, the values the spec gives (R3, R25, R29, R244, R383, R438, R493; a node's address, as the strap's
reset reading is the model's choice of log entry 2), nothing in line memory, and data in its form.
Model's choices: log entries 2, 3, 4, 5. -/
def Obligations.ResetLeavesTheHub : Prop :=
  let h := State.reset.hub
  State.reset.pending = [] ∧ h.getf Fld.GEN_ID_PART = 0x960 ∧ h.addr = 0x1FE ∧ h.getf Fld.GEN_SETUP_OPEN = 0xFFFF ∧
  h.getf Fld.HIF_MGMT_TIMEOUT_TICKS = 1024 ∧ (∀ c : Nat, h.cnt c = {}) ∧ h.ev.recs = [] ∧ h.flag Fld.GEN_EVT_STATUS_OVERRUN = false ∧
  (∀ c : Fin 8, h.flag (Fld.LPW_CH_CFG_EN c) = ([0, 1, 6] : List Nat).contains c) ∧
  (∀ c : Fin 8, c.val ≤ 1 → h.chMode c = mdPass) ∧ h.chMode 6 = mdTake ∧
  (∀ a : Nat, h.memByte a = memBlank) ∧ h.WF

/-- A statistics counter holds at its largest value with SAT (R438), and the event ring takes a record while it has an entry of the
record's kind, and drops and counts it where it has none (R29). -/
def Obligations.CountersHoldAndEventsFindRoom : Prop :=
  (∀ (h : Hub) (c n : Nat), n ≠ 0 → (h.count c n).cnt c =
    if (h.cnt c).v + n ≤ 2 ^ 48 - 1 then ⟨(h.cnt c).v + n, (h.cnt c).sat⟩ else ⟨2 ^ 48 - 1, true⟩) ∧
  (∀ (h : Hub) (c d n : Nat), d ≠ c → (h.count c n).cnt d = h.cnt d) ∧
  (∀ (h : Hub) (c m n : Nat), ((h.count c m).count c n).cnt c = (h.count c (m + n)).cnt c) ∧
  (∀ (h : Hub) (r : EvRec), h.ev.used < 2048 → (h.post r).ev.recs = h.ev.recs ++ [{ r with kept := false }]) ∧
  (∀ (h : Hub) (r : EvRec), 2048 ≤ h.ev.used → r.sev = .error ∨ r.sev = .fatal → h.ev.keptUsed < 16 →
    (h.post r).ev.recs = h.ev.recs ++ [{ r with kept := true }]) ∧
  (∀ (h : Hub) (r : EvRec), 2048 ≤ h.ev.used → (r.sev ≠ .error ∧ r.sev ≠ .fatal) ∨ 16 ≤ h.ev.keptUsed →
    (h.post r).ev.recs = h.ev.recs ∧ Counted h (h.post r) Cnt.GEN_EVT_LOST 1 ∧ (h.post r).ev.dropped = true ∧
    (h.post r).flag Fld.GEN_EVT_STATUS_OVERRUN = (!h.ev.dropped || h.flag Fld.GEN_EVT_STATUS_OVERRUN)) ∧
  (∀ (h : Hub) (r : EvRec), h.ev.used ≤ 2048 → h.ev.keptUsed ≤ 16 → (h.post r).ev.used ≤ 2048 ∧ (h.post r).ev.keptUsed ≤ 16)

/-- Line memory reads what was written: a write of bytes within it changes those bytes and no other, and keeps its form (R156).
Model's choices: log entries 5, 11. -/
def Obligations.LineMemoryReadsWhatWasWritten : Prop :=
  (∀ (h : Hub) (a : Nat) (bs : List Byte), a + bs.length ≤ 67108864 → (h.memStore a bs).memRead a bs.length = bs) ∧
  (∀ (h : Hub) (a b : Nat) (bs : List Byte), b < a ∨ a + bs.length ≤ b → (h.memStore a bs).memByte b = h.memByte b) ∧
  (∀ (h : Hub) (a b : Nat) (bs : List Byte), 67108864 ≤ b → Memory.wf h.lineMem = true → (h.memStore a bs).memByte b = memBlank) ∧
  (∀ (h : Hub) (a : Nat) (bs : List Byte), Memory.wf h.lineMem = true → Memory.wf (h.memStore a bs).lineMem = true) ∧
  (∀ (h : Hub) (a : Nat) (bs cs : List Byte), bs.length = cs.length → Memory.wf h.lineMem = true →
    ((h.memStore a bs).memStore a cs).lineMem = (h.memStore a cs).lineMem)

/-- The code of the on-chip memories (R421): where the columns stand, that a word with its check bits has syndrome 0, that one wrong bit
gives the column of that bit and no other, and that every other syndrome, two wrong bits among them, is uncorrectable. -/
def Obligations.EccCorrectsOneBitAndFindsTwo : Prop :=
  let check (d : Nat) : Nat := (List.range 8).foldl (fun c i => c + 2 ^ i *
    ((List.range 64).foldl (fun n j => if bit d j && bit (eccCol j) i then n + 1 else n) 0 % 2)) 0
  let word (d : Nat) : Nat := d + 2 ^ 64 * check d
  (∀ j : Fin 56, popcount 8 (eccCol j) = 3 ∧
    ((List.range (eccCol j)).filter (fun v => popcount 8 v == 3)).length = j.val) ∧
  (∀ j : Fin 8, popcount 8 (eccCol (56 + j)) = 5 ∧
    ((List.range (eccCol (56 + j))).filter (fun v => popcount 8 v == 5)).length = j.val) ∧
  (∀ i : Fin 8, eccCol (64 + i) = 2 ^ i.val) ∧
  (∀ d : Nat, d < 2 ^ 64 → eccSyndrome (word d) = 0) ∧
  (∀ d m : Nat, d < 2 ^ 64 → m < 2 ^ 72 → eccSyndrome (word d ^^^ m) = eccSyndrome m) ∧
  (∀ j : Fin 72, eccSyndrome (2 ^ j.val) = eccCol j ∧ eccDecode (eccCol j) = .corrected) ∧
  (∀ i j : Fin 72, eccCol i = eccCol j → i = j) ∧
  (∀ i j : Fin 72, i ≠ j → eccDecode (eccSyndrome (2 ^ i.val + 2 ^ j.val)) = .uncorrectable) ∧
  (∀ v : Fin 256, (eccDecode v = .clean ↔ v.val = 0) ∧ (eccDecode v = .corrected ↔ ∃ j : Fin 72, eccCol j = v.val))

/-- An uncorrectable error that a read meets is counted, logged and raised once per tick and memory, and a write of the word ends it
(R423).
Model's choices: log entry 90. -/
def Obligations.UncorrectableErrorsAreCountedUntilWritten : Prop :=
  (∀ (h : Hub) (mem : Fin 15) (w : Fin 8388608), h.eccBad mem w = true →
    let t := h.eccTouch mem w
    Counted h t (Cnt.REL_CNT_UE mem) 1 ∧ t.rel.flips = h.rel.flips ∧
    ((∃ e : Fin 16, t.logNames mem w e = true ∧ t.flag (Fld.REL_ECC_LOG_0_UE e) = true) ∨
      (∀ e : Fin 16, h.flag (Fld.REL_ECC_LOG_0_UE e) = true)) ∧
    (Tab.get? (Evt.REL_ECC_UE.code * 2 ^ 16 + mem) h.lastRaise ≠ some h.tick → Posted h t Evt.REL_ECC_UE [mem, w]) ∧
    (Tab.get? (Evt.REL_ECC_UE.code * 2 ^ 16 + mem) h.lastRaise = some h.tick → t.ev = h.ev) ∧
    Tab.get? (Evt.REL_ECC_UE.code * 2 ^ 16 + mem) t.lastRaise = some t.tick) ∧
  (∀ (h : Hub) (mem w : Nat), (h.eccEnd mem w).eccBad mem w = false ∧ (h.eccEnd mem w).eccTouch mem w = h.eccEnd mem w) ∧
  (∀ (h : Hub) (mem w x : Nat), w < 2 ^ 23 → x < 2 ^ 23 → x ≠ w → (h.eccEnd mem w).eccBad mem x = h.eccBad mem x)

/-- Every step keeps the form of the hub's data: line memory and the tables of register fields and counters stay canonical, and every
counter stays within its 48 bits (R156, R438). -/
def Obligations.StepKeepsTheHubsForm : Prop :=
  ∀ s t : State, s.hub.WF → step s = .next t → t.hub.WF

/-- Fuses stay burnt: whatever command a step runs, resets and life-cycle changes among them, the anti-rollback counter never falls, and a
fused key-hash slot keeps its hash and use and stays revoked once it is (R450, R453, R465). -/
def Obligations.FusesStayBurnt : Prop :=
  ∀ s t : State, step s = .next t →
    s.hub.sec.svn ≤ t.hub.sec.svn ∧
    ∀ (i : Nat) (k : KHash), Tab.get? i s.hub.sec.khash = some k →
      ∃ k', Tab.get? i t.hub.sec.khash = some k' ∧ k'.hash = k.hash ∧ k'.use = k.use ∧ (k.revoked = true → k'.revoked = true)

/-- What every command leaves alone: the queue, and each part of the hub (line memory, the pool, the plans, each unit's own record) that
is not among the parts the command may change. -/
def Obligations.CommandsLeaveOtherParts : Prop :=
  ∀ (c : Instr) (s t : State), exec c s = .next t → t.pending = s.pending ∧ ∀ p : Part, p ∉ partsOf c → p.same s.hub t.hub

/-- What a command leaves alone among the register fields: all but those it may change and GEN_EVT_STATUS.OVERRUN, which any event that
finds no room may set; no maintenance activity runs, as its end would show in the registers of that activity. -/
def Obligations.CommandsLeaveOtherFields : Prop :=
  ∀ (c : Instr) (s t : State) (ws : List Fl) (f : Fl), fieldsOf c = some ws → s.hub.rel.acts = [] → exec c s = .next t →
    f.key ≠ Fld.GEN_EVT_STATUS_OVERRUN.key → (∀ g ∈ ws, f.key ≠ g.key) → t.hub.getf f = s.hub.getf f
end

