-- ==== Sys2Proof/Laws/State.lean ====
section
/-! SUPPORT. One lemma per field per named update of the hub (generated): what a write of a register field, a counter, line time,
line memory, an event or an output leaves unchanged. -/

namespace Sys2Proof.Machine


/-! setf -/

@[simp] theorem Hub.setf_cnts (s : Hub) (f : Fl) (v : Nat) : (s.setf f v).cnts = s.cnts := by unfold Hub.setf; split <;> rfl
@[simp] theorem Hub.setf_cntSnap (s : Hub) (f : Fl) (v : Nat) : (s.setf f v).cntSnap = s.cntSnap := by unfold Hub.setf; split <;> rfl
@[simp] theorem Hub.setf_now (s : Hub) (f : Fl) (v : Nat) : (s.setf f v).now = s.now := by unfold Hub.setf; split <;> rfl
@[simp] theorem Hub.setf_nowFrac (s : Hub) (f : Fl) (v : Nat) : (s.setf f v).nowFrac = s.nowFrac := by unfold Hub.setf; split <;> rfl
@[simp] theorem Hub.setf_worked (s : Hub) (f : Fl) (v : Nat) : (s.setf f v).worked = s.worked := by unfold Hub.setf; split <;> rfl
@[simp] theorem Hub.setf_stepped (s : Hub) (f : Fl) (v : Nat) : (s.setf f v).stepped = s.stepped := by unfold Hub.setf; split <;> rfl
@[simp] theorem Hub.setf_loops (s : Hub) (f : Fl) (v : Nat) : (s.setf f v).loops = s.loops := by unfold Hub.setf; split <;> rfl
@[simp] theorem Hub.setf_fresh (s : Hub) (f : Fl) (v : Nat) : (s.setf f v).fresh = s.fresh := by unfold Hub.setf; split <;> rfl
@[simp] theorem Hub.setf_ev (s : Hub) (f : Fl) (v : Nat) : (s.setf f v).ev = s.ev := by unfold Hub.setf; split <;> rfl
@[simp] theorem Hub.setf_lastRaise (s : Hub) (f : Fl) (v : Nat) : (s.setf f v).lastRaise = s.lastRaise := by unfold Hub.setf; split <;> rfl
@[simp] theorem Hub.setf_out (s : Hub) (f : Fl) (v : Nat) : (s.setf f v).out = s.out := by unfold Hub.setf; split <;> rfl
@[simp] theorem Hub.setf_lineMem (s : Hub) (f : Fl) (v : Nat) : (s.setf f v).lineMem = s.lineMem := by unfold Hub.setf; split <;> rfl
@[simp] theorem Hub.setf_pool (s : Hub) (f : Fl) (v : Nat) : (s.setf f v).pool = s.pool := by unfold Hub.setf; split <;> rfl
@[simp] theorem Hub.setf_rel (s : Hub) (f : Fl) (v : Nat) : (s.setf f v).rel = s.rel := by unfold Hub.setf; split <;> rfl
@[simp] theorem Hub.setf_plan (s : Hub) (f : Fl) (v : Nat) : (s.setf f v).plan = s.plan := by unfold Hub.setf; split <;> rfl
@[simp] theorem Hub.setf_trunk (s : Hub) (f : Fl) (v : Nat) : (s.setf f v).trunk = s.trunk := by unfold Hub.setf; split <;> rfl
@[simp] theorem Hub.setf_lpw (s : Hub) (f : Fl) (v : Nat) : (s.setf f v).lpw = s.lpw := by unfold Hub.setf; split <;> rfl
@[simp] theorem Hub.setf_tcp (s : Hub) (f : Fl) (v : Nat) : (s.setf f v).tcp = s.tcp := by unfold Hub.setf; split <;> rfl
@[simp] theorem Hub.setf_pwr (s : Hub) (f : Fl) (v : Nat) : (s.setf f v).pwr = s.pwr := by unfold Hub.setf; split <;> rfl
@[simp] theorem Hub.setf_time (s : Hub) (f : Fl) (v : Nat) : (s.setf f v).time = s.time := by unfold Hub.setf; split <;> rfl
@[simp] theorem Hub.setf_blk (s : Hub) (f : Fl) (v : Nat) : (s.setf f v).blk = s.blk := by unfold Hub.setf; split <;> rfl
@[simp] theorem Hub.setf_dsp (s : Hub) (f : Fl) (v : Nat) : (s.setf f v).dsp = s.dsp := by unfold Hub.setf; split <;> rfl
@[simp] theorem Hub.setf_fbr (s : Hub) (f : Fl) (v : Nat) : (s.setf f v).fbr = s.fbr := by unfold Hub.setf; split <;> rfl
@[simp] theorem Hub.setf_ring (s : Hub) (f : Fl) (v : Nat) : (s.setf f v).ring = s.ring := by unfold Hub.setf; split <;> rfl
@[simp] theorem Hub.setf_sec (s : Hub) (f : Fl) (v : Nat) : (s.setf f v).sec = s.sec := by unfold Hub.setf; split <;> rfl
@[simp] theorem Hub.setf_net (s : Hub) (f : Fl) (v : Nat) : (s.setf f v).net = s.net := by unfold Hub.setf; split <;> rfl
@[simp] theorem Hub.setf_hif (s : Hub) (f : Fl) (v : Nat) : (s.setf f v).hif = s.hif := by unfold Hub.setf; split <;> rfl

/-! setb -/

@[simp] theorem Hub.setb_cnts (s : Hub) (f : Fl) (b : Bool) : (s.setb f b).cnts = s.cnts := by unfold Hub.setb; simp
@[simp] theorem Hub.setb_cntSnap (s : Hub) (f : Fl) (b : Bool) : (s.setb f b).cntSnap = s.cntSnap := by unfold Hub.setb; simp
@[simp] theorem Hub.setb_now (s : Hub) (f : Fl) (b : Bool) : (s.setb f b).now = s.now := by unfold Hub.setb; simp
@[simp] theorem Hub.setb_nowFrac (s : Hub) (f : Fl) (b : Bool) : (s.setb f b).nowFrac = s.nowFrac := by unfold Hub.setb; simp
@[simp] theorem Hub.setb_worked (s : Hub) (f : Fl) (b : Bool) : (s.setb f b).worked = s.worked := by unfold Hub.setb; simp
@[simp] theorem Hub.setb_stepped (s : Hub) (f : Fl) (b : Bool) : (s.setb f b).stepped = s.stepped := by unfold Hub.setb; simp
@[simp] theorem Hub.setb_loops (s : Hub) (f : Fl) (b : Bool) : (s.setb f b).loops = s.loops := by unfold Hub.setb; simp
@[simp] theorem Hub.setb_fresh (s : Hub) (f : Fl) (b : Bool) : (s.setb f b).fresh = s.fresh := by unfold Hub.setb; simp
@[simp] theorem Hub.setb_ev (s : Hub) (f : Fl) (b : Bool) : (s.setb f b).ev = s.ev := by unfold Hub.setb; simp
@[simp] theorem Hub.setb_lastRaise (s : Hub) (f : Fl) (b : Bool) : (s.setb f b).lastRaise = s.lastRaise := by unfold Hub.setb; simp
@[simp] theorem Hub.setb_out (s : Hub) (f : Fl) (b : Bool) : (s.setb f b).out = s.out := by unfold Hub.setb; simp
@[simp] theorem Hub.setb_lineMem (s : Hub) (f : Fl) (b : Bool) : (s.setb f b).lineMem = s.lineMem := by unfold Hub.setb; simp
@[simp] theorem Hub.setb_pool (s : Hub) (f : Fl) (b : Bool) : (s.setb f b).pool = s.pool := by unfold Hub.setb; simp
@[simp] theorem Hub.setb_rel (s : Hub) (f : Fl) (b : Bool) : (s.setb f b).rel = s.rel := by unfold Hub.setb; simp
@[simp] theorem Hub.setb_plan (s : Hub) (f : Fl) (b : Bool) : (s.setb f b).plan = s.plan := by unfold Hub.setb; simp
@[simp] theorem Hub.setb_trunk (s : Hub) (f : Fl) (b : Bool) : (s.setb f b).trunk = s.trunk := by unfold Hub.setb; simp
@[simp] theorem Hub.setb_lpw (s : Hub) (f : Fl) (b : Bool) : (s.setb f b).lpw = s.lpw := by unfold Hub.setb; simp
@[simp] theorem Hub.setb_tcp (s : Hub) (f : Fl) (b : Bool) : (s.setb f b).tcp = s.tcp := by unfold Hub.setb; simp
@[simp] theorem Hub.setb_pwr (s : Hub) (f : Fl) (b : Bool) : (s.setb f b).pwr = s.pwr := by unfold Hub.setb; simp
@[simp] theorem Hub.setb_time (s : Hub) (f : Fl) (b : Bool) : (s.setb f b).time = s.time := by unfold Hub.setb; simp
@[simp] theorem Hub.setb_blk (s : Hub) (f : Fl) (b : Bool) : (s.setb f b).blk = s.blk := by unfold Hub.setb; simp
@[simp] theorem Hub.setb_dsp (s : Hub) (f : Fl) (b : Bool) : (s.setb f b).dsp = s.dsp := by unfold Hub.setb; simp
@[simp] theorem Hub.setb_fbr (s : Hub) (f : Fl) (b : Bool) : (s.setb f b).fbr = s.fbr := by unfold Hub.setb; simp
@[simp] theorem Hub.setb_ring (s : Hub) (f : Fl) (b : Bool) : (s.setb f b).ring = s.ring := by unfold Hub.setb; simp
@[simp] theorem Hub.setb_sec (s : Hub) (f : Fl) (b : Bool) : (s.setb f b).sec = s.sec := by unfold Hub.setb; simp
@[simp] theorem Hub.setb_net (s : Hub) (f : Fl) (b : Bool) : (s.setb f b).net = s.net := by unfold Hub.setb; simp
@[simp] theorem Hub.setb_hif (s : Hub) (f : Fl) (b : Bool) : (s.setb f b).hif = s.hif := by unfold Hub.setb; simp

/-! set64 -/

@[simp] theorem Hub.set64_cnts (s : Hub) (f g : Fl) (v : Nat) : (s.set64 f g v).cnts = s.cnts := by unfold Hub.set64; simp
@[simp] theorem Hub.set64_cntSnap (s : Hub) (f g : Fl) (v : Nat) : (s.set64 f g v).cntSnap = s.cntSnap := by unfold Hub.set64; simp
@[simp] theorem Hub.set64_now (s : Hub) (f g : Fl) (v : Nat) : (s.set64 f g v).now = s.now := by unfold Hub.set64; simp
@[simp] theorem Hub.set64_nowFrac (s : Hub) (f g : Fl) (v : Nat) : (s.set64 f g v).nowFrac = s.nowFrac := by unfold Hub.set64; simp
@[simp] theorem Hub.set64_worked (s : Hub) (f g : Fl) (v : Nat) : (s.set64 f g v).worked = s.worked := by unfold Hub.set64; simp
@[simp] theorem Hub.set64_stepped (s : Hub) (f g : Fl) (v : Nat) : (s.set64 f g v).stepped = s.stepped := by unfold Hub.set64; simp
@[simp] theorem Hub.set64_loops (s : Hub) (f g : Fl) (v : Nat) : (s.set64 f g v).loops = s.loops := by unfold Hub.set64; simp
@[simp] theorem Hub.set64_fresh (s : Hub) (f g : Fl) (v : Nat) : (s.set64 f g v).fresh = s.fresh := by unfold Hub.set64; simp
@[simp] theorem Hub.set64_ev (s : Hub) (f g : Fl) (v : Nat) : (s.set64 f g v).ev = s.ev := by unfold Hub.set64; simp
@[simp] theorem Hub.set64_lastRaise (s : Hub) (f g : Fl) (v : Nat) : (s.set64 f g v).lastRaise = s.lastRaise := by unfold Hub.set64; simp
@[simp] theorem Hub.set64_out (s : Hub) (f g : Fl) (v : Nat) : (s.set64 f g v).out = s.out := by unfold Hub.set64; simp
@[simp] theorem Hub.set64_lineMem (s : Hub) (f g : Fl) (v : Nat) : (s.set64 f g v).lineMem = s.lineMem := by unfold Hub.set64; simp
@[simp] theorem Hub.set64_pool (s : Hub) (f g : Fl) (v : Nat) : (s.set64 f g v).pool = s.pool := by unfold Hub.set64; simp
@[simp] theorem Hub.set64_rel (s : Hub) (f g : Fl) (v : Nat) : (s.set64 f g v).rel = s.rel := by unfold Hub.set64; simp
@[simp] theorem Hub.set64_plan (s : Hub) (f g : Fl) (v : Nat) : (s.set64 f g v).plan = s.plan := by unfold Hub.set64; simp
@[simp] theorem Hub.set64_trunk (s : Hub) (f g : Fl) (v : Nat) : (s.set64 f g v).trunk = s.trunk := by unfold Hub.set64; simp
@[simp] theorem Hub.set64_lpw (s : Hub) (f g : Fl) (v : Nat) : (s.set64 f g v).lpw = s.lpw := by unfold Hub.set64; simp
@[simp] theorem Hub.set64_tcp (s : Hub) (f g : Fl) (v : Nat) : (s.set64 f g v).tcp = s.tcp := by unfold Hub.set64; simp
@[simp] theorem Hub.set64_pwr (s : Hub) (f g : Fl) (v : Nat) : (s.set64 f g v).pwr = s.pwr := by unfold Hub.set64; simp
@[simp] theorem Hub.set64_time (s : Hub) (f g : Fl) (v : Nat) : (s.set64 f g v).time = s.time := by unfold Hub.set64; simp
@[simp] theorem Hub.set64_blk (s : Hub) (f g : Fl) (v : Nat) : (s.set64 f g v).blk = s.blk := by unfold Hub.set64; simp
@[simp] theorem Hub.set64_dsp (s : Hub) (f g : Fl) (v : Nat) : (s.set64 f g v).dsp = s.dsp := by unfold Hub.set64; simp
@[simp] theorem Hub.set64_fbr (s : Hub) (f g : Fl) (v : Nat) : (s.set64 f g v).fbr = s.fbr := by unfold Hub.set64; simp
@[simp] theorem Hub.set64_ring (s : Hub) (f g : Fl) (v : Nat) : (s.set64 f g v).ring = s.ring := by unfold Hub.set64; simp
@[simp] theorem Hub.set64_sec (s : Hub) (f g : Fl) (v : Nat) : (s.set64 f g v).sec = s.sec := by unfold Hub.set64; simp
@[simp] theorem Hub.set64_net (s : Hub) (f g : Fl) (v : Nat) : (s.set64 f g v).net = s.net := by unfold Hub.set64; simp
@[simp] theorem Hub.set64_hif (s : Hub) (f g : Fl) (v : Nat) : (s.set64 f g v).hif = s.hif := by unfold Hub.set64; simp

/-! resetFields -/

@[simp] theorem Hub.resetFields_cnts (s : Hub) (a b : Nat) : (s.resetFields a b).cnts = s.cnts := rfl
@[simp] theorem Hub.resetFields_cntSnap (s : Hub) (a b : Nat) : (s.resetFields a b).cntSnap = s.cntSnap := rfl
@[simp] theorem Hub.resetFields_now (s : Hub) (a b : Nat) : (s.resetFields a b).now = s.now := rfl
@[simp] theorem Hub.resetFields_nowFrac (s : Hub) (a b : Nat) : (s.resetFields a b).nowFrac = s.nowFrac := rfl
@[simp] theorem Hub.resetFields_worked (s : Hub) (a b : Nat) : (s.resetFields a b).worked = s.worked := rfl
@[simp] theorem Hub.resetFields_stepped (s : Hub) (a b : Nat) : (s.resetFields a b).stepped = s.stepped := rfl
@[simp] theorem Hub.resetFields_loops (s : Hub) (a b : Nat) : (s.resetFields a b).loops = s.loops := rfl
@[simp] theorem Hub.resetFields_fresh (s : Hub) (a b : Nat) : (s.resetFields a b).fresh = s.fresh := rfl
@[simp] theorem Hub.resetFields_ev (s : Hub) (a b : Nat) : (s.resetFields a b).ev = s.ev := rfl
@[simp] theorem Hub.resetFields_lastRaise (s : Hub) (a b : Nat) : (s.resetFields a b).lastRaise = s.lastRaise := rfl
@[simp] theorem Hub.resetFields_out (s : Hub) (a b : Nat) : (s.resetFields a b).out = s.out := rfl
@[simp] theorem Hub.resetFields_lineMem (s : Hub) (a b : Nat) : (s.resetFields a b).lineMem = s.lineMem := rfl
@[simp] theorem Hub.resetFields_pool (s : Hub) (a b : Nat) : (s.resetFields a b).pool = s.pool := rfl
@[simp] theorem Hub.resetFields_rel (s : Hub) (a b : Nat) : (s.resetFields a b).rel = s.rel := rfl
@[simp] theorem Hub.resetFields_plan (s : Hub) (a b : Nat) : (s.resetFields a b).plan = s.plan := rfl
@[simp] theorem Hub.resetFields_trunk (s : Hub) (a b : Nat) : (s.resetFields a b).trunk = s.trunk := rfl
@[simp] theorem Hub.resetFields_lpw (s : Hub) (a b : Nat) : (s.resetFields a b).lpw = s.lpw := rfl
@[simp] theorem Hub.resetFields_tcp (s : Hub) (a b : Nat) : (s.resetFields a b).tcp = s.tcp := rfl
@[simp] theorem Hub.resetFields_pwr (s : Hub) (a b : Nat) : (s.resetFields a b).pwr = s.pwr := rfl
@[simp] theorem Hub.resetFields_time (s : Hub) (a b : Nat) : (s.resetFields a b).time = s.time := rfl
@[simp] theorem Hub.resetFields_blk (s : Hub) (a b : Nat) : (s.resetFields a b).blk = s.blk := rfl
@[simp] theorem Hub.resetFields_dsp (s : Hub) (a b : Nat) : (s.resetFields a b).dsp = s.dsp := rfl
@[simp] theorem Hub.resetFields_fbr (s : Hub) (a b : Nat) : (s.resetFields a b).fbr = s.fbr := rfl
@[simp] theorem Hub.resetFields_ring (s : Hub) (a b : Nat) : (s.resetFields a b).ring = s.ring := rfl
@[simp] theorem Hub.resetFields_sec (s : Hub) (a b : Nat) : (s.resetFields a b).sec = s.sec := rfl
@[simp] theorem Hub.resetFields_net (s : Hub) (a b : Nat) : (s.resetFields a b).net = s.net := rfl
@[simp] theorem Hub.resetFields_hif (s : Hub) (a b : Nat) : (s.resetFields a b).hif = s.hif := rfl

/-! advance -/

@[simp] theorem Hub.advance_regs (s : Hub) (t : Nat) : (s.advance t).regs = s.regs := by unfold Hub.advance; split <;> rfl
@[simp] theorem Hub.advance_cnts (s : Hub) (t : Nat) : (s.advance t).cnts = s.cnts := by unfold Hub.advance; split <;> rfl
@[simp] theorem Hub.advance_cntSnap (s : Hub) (t : Nat) : (s.advance t).cntSnap = s.cntSnap := by unfold Hub.advance; split <;> rfl
@[simp] theorem Hub.advance_worked (s : Hub) (t : Nat) : (s.advance t).worked = s.worked := by unfold Hub.advance; split <;> rfl
@[simp] theorem Hub.advance_stepped (s : Hub) (t : Nat) : (s.advance t).stepped = s.stepped := by unfold Hub.advance; split <;> rfl
@[simp] theorem Hub.advance_loops (s : Hub) (t : Nat) : (s.advance t).loops = s.loops := by unfold Hub.advance; split <;> rfl
@[simp] theorem Hub.advance_fresh (s : Hub) (t : Nat) : (s.advance t).fresh = s.fresh := by unfold Hub.advance; split <;> rfl
@[simp] theorem Hub.advance_ev (s : Hub) (t : Nat) : (s.advance t).ev = s.ev := by unfold Hub.advance; split <;> rfl
@[simp] theorem Hub.advance_lastRaise (s : Hub) (t : Nat) : (s.advance t).lastRaise = s.lastRaise := by unfold Hub.advance; split <;> rfl
@[simp] theorem Hub.advance_out (s : Hub) (t : Nat) : (s.advance t).out = s.out := by unfold Hub.advance; split <;> rfl
@[simp] theorem Hub.advance_lineMem (s : Hub) (t : Nat) : (s.advance t).lineMem = s.lineMem := by unfold Hub.advance; split <;> rfl
@[simp] theorem Hub.advance_pool (s : Hub) (t : Nat) : (s.advance t).pool = s.pool := by unfold Hub.advance; split <;> rfl
@[simp] theorem Hub.advance_rel (s : Hub) (t : Nat) : (s.advance t).rel = s.rel := by unfold Hub.advance; split <;> rfl
@[simp] theorem Hub.advance_plan (s : Hub) (t : Nat) : (s.advance t).plan = s.plan := by unfold Hub.advance; split <;> rfl
@[simp] theorem Hub.advance_trunk (s : Hub) (t : Nat) : (s.advance t).trunk = s.trunk := by unfold Hub.advance; split <;> rfl
@[simp] theorem Hub.advance_lpw (s : Hub) (t : Nat) : (s.advance t).lpw = s.lpw := by unfold Hub.advance; split <;> rfl
@[simp] theorem Hub.advance_tcp (s : Hub) (t : Nat) : (s.advance t).tcp = s.tcp := by unfold Hub.advance; split <;> rfl
@[simp] theorem Hub.advance_pwr (s : Hub) (t : Nat) : (s.advance t).pwr = s.pwr := by unfold Hub.advance; split <;> rfl
@[simp] theorem Hub.advance_time (s : Hub) (t : Nat) : (s.advance t).time = s.time := by unfold Hub.advance; split <;> rfl
@[simp] theorem Hub.advance_blk (s : Hub) (t : Nat) : (s.advance t).blk = s.blk := by unfold Hub.advance; split <;> rfl
@[simp] theorem Hub.advance_dsp (s : Hub) (t : Nat) : (s.advance t).dsp = s.dsp := by unfold Hub.advance; split <;> rfl
@[simp] theorem Hub.advance_fbr (s : Hub) (t : Nat) : (s.advance t).fbr = s.fbr := by unfold Hub.advance; split <;> rfl
@[simp] theorem Hub.advance_ring (s : Hub) (t : Nat) : (s.advance t).ring = s.ring := by unfold Hub.advance; split <;> rfl
@[simp] theorem Hub.advance_sec (s : Hub) (t : Nat) : (s.advance t).sec = s.sec := by unfold Hub.advance; split <;> rfl
@[simp] theorem Hub.advance_net (s : Hub) (t : Nat) : (s.advance t).net = s.net := by unfold Hub.advance; split <;> rfl
@[simp] theorem Hub.advance_hif (s : Hub) (t : Nat) : (s.advance t).hif = s.hif := by unfold Hub.advance; split <;> rfl

/-! upTo -/

@[simp] theorem Hub.upTo_regs (s : Hub) (u : Nat) : (s.upTo u).regs = s.regs := by unfold Hub.upTo; simp
@[simp] theorem Hub.upTo_cnts (s : Hub) (u : Nat) : (s.upTo u).cnts = s.cnts := by unfold Hub.upTo; simp
@[simp] theorem Hub.upTo_cntSnap (s : Hub) (u : Nat) : (s.upTo u).cntSnap = s.cntSnap := by unfold Hub.upTo; simp
@[simp] theorem Hub.upTo_worked (s : Hub) (u : Nat) : (s.upTo u).worked = s.worked := by unfold Hub.upTo; simp
@[simp] theorem Hub.upTo_stepped (s : Hub) (u : Nat) : (s.upTo u).stepped = s.stepped := by unfold Hub.upTo; simp
@[simp] theorem Hub.upTo_loops (s : Hub) (u : Nat) : (s.upTo u).loops = s.loops := by unfold Hub.upTo; simp
@[simp] theorem Hub.upTo_fresh (s : Hub) (u : Nat) : (s.upTo u).fresh = s.fresh := by unfold Hub.upTo; simp
@[simp] theorem Hub.upTo_ev (s : Hub) (u : Nat) : (s.upTo u).ev = s.ev := by unfold Hub.upTo; simp
@[simp] theorem Hub.upTo_lastRaise (s : Hub) (u : Nat) : (s.upTo u).lastRaise = s.lastRaise := by unfold Hub.upTo; simp
@[simp] theorem Hub.upTo_out (s : Hub) (u : Nat) : (s.upTo u).out = s.out := by unfold Hub.upTo; simp
@[simp] theorem Hub.upTo_lineMem (s : Hub) (u : Nat) : (s.upTo u).lineMem = s.lineMem := by unfold Hub.upTo; simp
@[simp] theorem Hub.upTo_pool (s : Hub) (u : Nat) : (s.upTo u).pool = s.pool := by unfold Hub.upTo; simp
@[simp] theorem Hub.upTo_rel (s : Hub) (u : Nat) : (s.upTo u).rel = s.rel := by unfold Hub.upTo; simp
@[simp] theorem Hub.upTo_plan (s : Hub) (u : Nat) : (s.upTo u).plan = s.plan := by unfold Hub.upTo; simp
@[simp] theorem Hub.upTo_trunk (s : Hub) (u : Nat) : (s.upTo u).trunk = s.trunk := by unfold Hub.upTo; simp
@[simp] theorem Hub.upTo_lpw (s : Hub) (u : Nat) : (s.upTo u).lpw = s.lpw := by unfold Hub.upTo; simp
@[simp] theorem Hub.upTo_tcp (s : Hub) (u : Nat) : (s.upTo u).tcp = s.tcp := by unfold Hub.upTo; simp
@[simp] theorem Hub.upTo_pwr (s : Hub) (u : Nat) : (s.upTo u).pwr = s.pwr := by unfold Hub.upTo; simp
@[simp] theorem Hub.upTo_time (s : Hub) (u : Nat) : (s.upTo u).time = s.time := by unfold Hub.upTo; simp
@[simp] theorem Hub.upTo_blk (s : Hub) (u : Nat) : (s.upTo u).blk = s.blk := by unfold Hub.upTo; simp
@[simp] theorem Hub.upTo_dsp (s : Hub) (u : Nat) : (s.upTo u).dsp = s.dsp := by unfold Hub.upTo; simp
@[simp] theorem Hub.upTo_fbr (s : Hub) (u : Nat) : (s.upTo u).fbr = s.fbr := by unfold Hub.upTo; simp
@[simp] theorem Hub.upTo_ring (s : Hub) (u : Nat) : (s.upTo u).ring = s.ring := by unfold Hub.upTo; simp
@[simp] theorem Hub.upTo_sec (s : Hub) (u : Nat) : (s.upTo u).sec = s.sec := by unfold Hub.upTo; simp
@[simp] theorem Hub.upTo_net (s : Hub) (u : Nat) : (s.upTo u).net = s.net := by unfold Hub.upTo; simp
@[simp] theorem Hub.upTo_hif (s : Hub) (u : Nat) : (s.upTo u).hif = s.hif := by unfold Hub.upTo; simp

/-! advanceFrac -/

@[simp] theorem Hub.advanceFrac_regs (s : Hub) (x : Nat) : (s.advanceFrac x).regs = s.regs := by unfold Hub.advanceFrac; split <;> rfl
@[simp] theorem Hub.advanceFrac_cnts (s : Hub) (x : Nat) : (s.advanceFrac x).cnts = s.cnts := by unfold Hub.advanceFrac; split <;> rfl
@[simp] theorem Hub.advanceFrac_cntSnap (s : Hub) (x : Nat) : (s.advanceFrac x).cntSnap = s.cntSnap := by unfold Hub.advanceFrac; split <;> rfl
@[simp] theorem Hub.advanceFrac_worked (s : Hub) (x : Nat) : (s.advanceFrac x).worked = s.worked := by unfold Hub.advanceFrac; split <;> rfl
@[simp] theorem Hub.advanceFrac_stepped (s : Hub) (x : Nat) : (s.advanceFrac x).stepped = s.stepped := by unfold Hub.advanceFrac; split <;> rfl
@[simp] theorem Hub.advanceFrac_loops (s : Hub) (x : Nat) : (s.advanceFrac x).loops = s.loops := by unfold Hub.advanceFrac; split <;> rfl
@[simp] theorem Hub.advanceFrac_fresh (s : Hub) (x : Nat) : (s.advanceFrac x).fresh = s.fresh := by unfold Hub.advanceFrac; split <;> rfl
@[simp] theorem Hub.advanceFrac_ev (s : Hub) (x : Nat) : (s.advanceFrac x).ev = s.ev := by unfold Hub.advanceFrac; split <;> rfl
@[simp] theorem Hub.advanceFrac_lastRaise (s : Hub) (x : Nat) : (s.advanceFrac x).lastRaise = s.lastRaise := by unfold Hub.advanceFrac; split <;> rfl
@[simp] theorem Hub.advanceFrac_out (s : Hub) (x : Nat) : (s.advanceFrac x).out = s.out := by unfold Hub.advanceFrac; split <;> rfl
@[simp] theorem Hub.advanceFrac_lineMem (s : Hub) (x : Nat) : (s.advanceFrac x).lineMem = s.lineMem := by unfold Hub.advanceFrac; split <;> rfl
@[simp] theorem Hub.advanceFrac_pool (s : Hub) (x : Nat) : (s.advanceFrac x).pool = s.pool := by unfold Hub.advanceFrac; split <;> rfl
@[simp] theorem Hub.advanceFrac_rel (s : Hub) (x : Nat) : (s.advanceFrac x).rel = s.rel := by unfold Hub.advanceFrac; split <;> rfl
@[simp] theorem Hub.advanceFrac_plan (s : Hub) (x : Nat) : (s.advanceFrac x).plan = s.plan := by unfold Hub.advanceFrac; split <;> rfl
@[simp] theorem Hub.advanceFrac_trunk (s : Hub) (x : Nat) : (s.advanceFrac x).trunk = s.trunk := by unfold Hub.advanceFrac; split <;> rfl
@[simp] theorem Hub.advanceFrac_lpw (s : Hub) (x : Nat) : (s.advanceFrac x).lpw = s.lpw := by unfold Hub.advanceFrac; split <;> rfl
@[simp] theorem Hub.advanceFrac_tcp (s : Hub) (x : Nat) : (s.advanceFrac x).tcp = s.tcp := by unfold Hub.advanceFrac; split <;> rfl
@[simp] theorem Hub.advanceFrac_pwr (s : Hub) (x : Nat) : (s.advanceFrac x).pwr = s.pwr := by unfold Hub.advanceFrac; split <;> rfl
@[simp] theorem Hub.advanceFrac_time (s : Hub) (x : Nat) : (s.advanceFrac x).time = s.time := by unfold Hub.advanceFrac; split <;> rfl
@[simp] theorem Hub.advanceFrac_blk (s : Hub) (x : Nat) : (s.advanceFrac x).blk = s.blk := by unfold Hub.advanceFrac; split <;> rfl
@[simp] theorem Hub.advanceFrac_dsp (s : Hub) (x : Nat) : (s.advanceFrac x).dsp = s.dsp := by unfold Hub.advanceFrac; split <;> rfl
@[simp] theorem Hub.advanceFrac_fbr (s : Hub) (x : Nat) : (s.advanceFrac x).fbr = s.fbr := by unfold Hub.advanceFrac; split <;> rfl
@[simp] theorem Hub.advanceFrac_ring (s : Hub) (x : Nat) : (s.advanceFrac x).ring = s.ring := by unfold Hub.advanceFrac; split <;> rfl
@[simp] theorem Hub.advanceFrac_sec (s : Hub) (x : Nat) : (s.advanceFrac x).sec = s.sec := by unfold Hub.advanceFrac; split <;> rfl
@[simp] theorem Hub.advanceFrac_net (s : Hub) (x : Nat) : (s.advanceFrac x).net = s.net := by unfold Hub.advanceFrac; split <;> rfl
@[simp] theorem Hub.advanceFrac_hif (s : Hub) (x : Nat) : (s.advanceFrac x).hif = s.hif := by unfold Hub.advanceFrac; split <;> rfl

/-! toBoundary -/

@[simp] theorem Hub.toBoundary_regs (s : Hub)  : (s.toBoundary).regs = s.regs := by unfold Hub.toBoundary; split <;> simp
@[simp] theorem Hub.toBoundary_cnts (s : Hub)  : (s.toBoundary).cnts = s.cnts := by unfold Hub.toBoundary; split <;> simp
@[simp] theorem Hub.toBoundary_cntSnap (s : Hub)  : (s.toBoundary).cntSnap = s.cntSnap := by unfold Hub.toBoundary; split <;> simp
@[simp] theorem Hub.toBoundary_worked (s : Hub)  : (s.toBoundary).worked = s.worked := by unfold Hub.toBoundary; split <;> simp
@[simp] theorem Hub.toBoundary_stepped (s : Hub)  : (s.toBoundary).stepped = s.stepped := by unfold Hub.toBoundary; split <;> simp
@[simp] theorem Hub.toBoundary_loops (s : Hub)  : (s.toBoundary).loops = s.loops := by unfold Hub.toBoundary; split <;> simp
@[simp] theorem Hub.toBoundary_fresh (s : Hub)  : (s.toBoundary).fresh = s.fresh := by unfold Hub.toBoundary; split <;> simp
@[simp] theorem Hub.toBoundary_ev (s : Hub)  : (s.toBoundary).ev = s.ev := by unfold Hub.toBoundary; split <;> simp
@[simp] theorem Hub.toBoundary_lastRaise (s : Hub)  : (s.toBoundary).lastRaise = s.lastRaise := by unfold Hub.toBoundary; split <;> simp
@[simp] theorem Hub.toBoundary_out (s : Hub)  : (s.toBoundary).out = s.out := by unfold Hub.toBoundary; split <;> simp
@[simp] theorem Hub.toBoundary_lineMem (s : Hub)  : (s.toBoundary).lineMem = s.lineMem := by unfold Hub.toBoundary; split <;> simp
@[simp] theorem Hub.toBoundary_pool (s : Hub)  : (s.toBoundary).pool = s.pool := by unfold Hub.toBoundary; split <;> simp
@[simp] theorem Hub.toBoundary_rel (s : Hub)  : (s.toBoundary).rel = s.rel := by unfold Hub.toBoundary; split <;> simp
@[simp] theorem Hub.toBoundary_plan (s : Hub)  : (s.toBoundary).plan = s.plan := by unfold Hub.toBoundary; split <;> simp
@[simp] theorem Hub.toBoundary_trunk (s : Hub)  : (s.toBoundary).trunk = s.trunk := by unfold Hub.toBoundary; split <;> simp
@[simp] theorem Hub.toBoundary_lpw (s : Hub)  : (s.toBoundary).lpw = s.lpw := by unfold Hub.toBoundary; split <;> simp
@[simp] theorem Hub.toBoundary_tcp (s : Hub)  : (s.toBoundary).tcp = s.tcp := by unfold Hub.toBoundary; split <;> simp
@[simp] theorem Hub.toBoundary_pwr (s : Hub)  : (s.toBoundary).pwr = s.pwr := by unfold Hub.toBoundary; split <;> simp
@[simp] theorem Hub.toBoundary_time (s : Hub)  : (s.toBoundary).time = s.time := by unfold Hub.toBoundary; split <;> simp
@[simp] theorem Hub.toBoundary_blk (s : Hub)  : (s.toBoundary).blk = s.blk := by unfold Hub.toBoundary; split <;> simp
@[simp] theorem Hub.toBoundary_dsp (s : Hub)  : (s.toBoundary).dsp = s.dsp := by unfold Hub.toBoundary; split <;> simp
@[simp] theorem Hub.toBoundary_fbr (s : Hub)  : (s.toBoundary).fbr = s.fbr := by unfold Hub.toBoundary; split <;> simp
@[simp] theorem Hub.toBoundary_ring (s : Hub)  : (s.toBoundary).ring = s.ring := by unfold Hub.toBoundary; split <;> simp
@[simp] theorem Hub.toBoundary_sec (s : Hub)  : (s.toBoundary).sec = s.sec := by unfold Hub.toBoundary; split <;> simp
@[simp] theorem Hub.toBoundary_net (s : Hub)  : (s.toBoundary).net = s.net := by unfold Hub.toBoundary; split <;> simp
@[simp] theorem Hub.toBoundary_hif (s : Hub)  : (s.toBoundary).hif = s.hif := by unfold Hub.toBoundary; split <;> simp

/-! count -/

@[simp] theorem Hub.count_regs (s : Hub) (c n : Nat) : (s.count c n).regs = s.regs := by unfold Hub.count; split <;> rfl
@[simp] theorem Hub.count_cntSnap (s : Hub) (c n : Nat) : (s.count c n).cntSnap = s.cntSnap := by unfold Hub.count; split <;> rfl
@[simp] theorem Hub.count_now (s : Hub) (c n : Nat) : (s.count c n).now = s.now := by unfold Hub.count; split <;> rfl
@[simp] theorem Hub.count_nowFrac (s : Hub) (c n : Nat) : (s.count c n).nowFrac = s.nowFrac := by unfold Hub.count; split <;> rfl
@[simp] theorem Hub.count_worked (s : Hub) (c n : Nat) : (s.count c n).worked = s.worked := by unfold Hub.count; split <;> rfl
@[simp] theorem Hub.count_stepped (s : Hub) (c n : Nat) : (s.count c n).stepped = s.stepped := by unfold Hub.count; split <;> rfl
@[simp] theorem Hub.count_loops (s : Hub) (c n : Nat) : (s.count c n).loops = s.loops := by unfold Hub.count; split <;> rfl
@[simp] theorem Hub.count_fresh (s : Hub) (c n : Nat) : (s.count c n).fresh = s.fresh := by unfold Hub.count; split <;> rfl
@[simp] theorem Hub.count_ev (s : Hub) (c n : Nat) : (s.count c n).ev = s.ev := by unfold Hub.count; split <;> rfl
@[simp] theorem Hub.count_lastRaise (s : Hub) (c n : Nat) : (s.count c n).lastRaise = s.lastRaise := by unfold Hub.count; split <;> rfl
@[simp] theorem Hub.count_out (s : Hub) (c n : Nat) : (s.count c n).out = s.out := by unfold Hub.count; split <;> rfl
@[simp] theorem Hub.count_lineMem (s : Hub) (c n : Nat) : (s.count c n).lineMem = s.lineMem := by unfold Hub.count; split <;> rfl
@[simp] theorem Hub.count_pool (s : Hub) (c n : Nat) : (s.count c n).pool = s.pool := by unfold Hub.count; split <;> rfl
@[simp] theorem Hub.count_rel (s : Hub) (c n : Nat) : (s.count c n).rel = s.rel := by unfold Hub.count; split <;> rfl
@[simp] theorem Hub.count_plan (s : Hub) (c n : Nat) : (s.count c n).plan = s.plan := by unfold Hub.count; split <;> rfl
@[simp] theorem Hub.count_trunk (s : Hub) (c n : Nat) : (s.count c n).trunk = s.trunk := by unfold Hub.count; split <;> rfl
@[simp] theorem Hub.count_lpw (s : Hub) (c n : Nat) : (s.count c n).lpw = s.lpw := by unfold Hub.count; split <;> rfl
@[simp] theorem Hub.count_tcp (s : Hub) (c n : Nat) : (s.count c n).tcp = s.tcp := by unfold Hub.count; split <;> rfl
@[simp] theorem Hub.count_pwr (s : Hub) (c n : Nat) : (s.count c n).pwr = s.pwr := by unfold Hub.count; split <;> rfl
@[simp] theorem Hub.count_time (s : Hub) (c n : Nat) : (s.count c n).time = s.time := by unfold Hub.count; split <;> rfl
@[simp] theorem Hub.count_blk (s : Hub) (c n : Nat) : (s.count c n).blk = s.blk := by unfold Hub.count; split <;> rfl
@[simp] theorem Hub.count_dsp (s : Hub) (c n : Nat) : (s.count c n).dsp = s.dsp := by unfold Hub.count; split <;> rfl
@[simp] theorem Hub.count_fbr (s : Hub) (c n : Nat) : (s.count c n).fbr = s.fbr := by unfold Hub.count; split <;> rfl
@[simp] theorem Hub.count_ring (s : Hub) (c n : Nat) : (s.count c n).ring = s.ring := by unfold Hub.count; split <;> rfl
@[simp] theorem Hub.count_sec (s : Hub) (c n : Nat) : (s.count c n).sec = s.sec := by unfold Hub.count; split <;> rfl
@[simp] theorem Hub.count_net (s : Hub) (c n : Nat) : (s.count c n).net = s.net := by unfold Hub.count; split <;> rfl
@[simp] theorem Hub.count_hif (s : Hub) (c n : Nat) : (s.count c n).hif = s.hif := by unfold Hub.count; split <;> rfl

/-! clearCnt -/

@[simp] theorem Hub.clearCnt_regs (s : Hub) (c : Nat) : (s.clearCnt c).regs = s.regs := rfl
@[simp] theorem Hub.clearCnt_now (s : Hub) (c : Nat) : (s.clearCnt c).now = s.now := rfl
@[simp] theorem Hub.clearCnt_nowFrac (s : Hub) (c : Nat) : (s.clearCnt c).nowFrac = s.nowFrac := rfl
@[simp] theorem Hub.clearCnt_worked (s : Hub) (c : Nat) : (s.clearCnt c).worked = s.worked := rfl
@[simp] theorem Hub.clearCnt_stepped (s : Hub) (c : Nat) : (s.clearCnt c).stepped = s.stepped := rfl
@[simp] theorem Hub.clearCnt_loops (s : Hub) (c : Nat) : (s.clearCnt c).loops = s.loops := rfl
@[simp] theorem Hub.clearCnt_fresh (s : Hub) (c : Nat) : (s.clearCnt c).fresh = s.fresh := rfl
@[simp] theorem Hub.clearCnt_ev (s : Hub) (c : Nat) : (s.clearCnt c).ev = s.ev := rfl
@[simp] theorem Hub.clearCnt_lastRaise (s : Hub) (c : Nat) : (s.clearCnt c).lastRaise = s.lastRaise := rfl
@[simp] theorem Hub.clearCnt_out (s : Hub) (c : Nat) : (s.clearCnt c).out = s.out := rfl
@[simp] theorem Hub.clearCnt_lineMem (s : Hub) (c : Nat) : (s.clearCnt c).lineMem = s.lineMem := rfl
@[simp] theorem Hub.clearCnt_pool (s : Hub) (c : Nat) : (s.clearCnt c).pool = s.pool := rfl
@[simp] theorem Hub.clearCnt_rel (s : Hub) (c : Nat) : (s.clearCnt c).rel = s.rel := rfl
@[simp] theorem Hub.clearCnt_plan (s : Hub) (c : Nat) : (s.clearCnt c).plan = s.plan := rfl
@[simp] theorem Hub.clearCnt_trunk (s : Hub) (c : Nat) : (s.clearCnt c).trunk = s.trunk := rfl
@[simp] theorem Hub.clearCnt_lpw (s : Hub) (c : Nat) : (s.clearCnt c).lpw = s.lpw := rfl
@[simp] theorem Hub.clearCnt_tcp (s : Hub) (c : Nat) : (s.clearCnt c).tcp = s.tcp := rfl
@[simp] theorem Hub.clearCnt_pwr (s : Hub) (c : Nat) : (s.clearCnt c).pwr = s.pwr := rfl
@[simp] theorem Hub.clearCnt_time (s : Hub) (c : Nat) : (s.clearCnt c).time = s.time := rfl
@[simp] theorem Hub.clearCnt_blk (s : Hub) (c : Nat) : (s.clearCnt c).blk = s.blk := rfl
@[simp] theorem Hub.clearCnt_dsp (s : Hub) (c : Nat) : (s.clearCnt c).dsp = s.dsp := rfl
@[simp] theorem Hub.clearCnt_fbr (s : Hub) (c : Nat) : (s.clearCnt c).fbr = s.fbr := rfl
@[simp] theorem Hub.clearCnt_ring (s : Hub) (c : Nat) : (s.clearCnt c).ring = s.ring := rfl
@[simp] theorem Hub.clearCnt_sec (s : Hub) (c : Nat) : (s.clearCnt c).sec = s.sec := rfl
@[simp] theorem Hub.clearCnt_net (s : Hub) (c : Nat) : (s.clearCnt c).net = s.net := rfl
@[simp] theorem Hub.clearCnt_hif (s : Hub) (c : Nat) : (s.clearCnt c).hif = s.hif := rfl

/-! emit -/

@[simp] theorem Hub.emit_regs (s : Hub) (o : Out) : (s.emit o).regs = s.regs := rfl
@[simp] theorem Hub.emit_cnts (s : Hub) (o : Out) : (s.emit o).cnts = s.cnts := rfl
@[simp] theorem Hub.emit_cntSnap (s : Hub) (o : Out) : (s.emit o).cntSnap = s.cntSnap := rfl
@[simp] theorem Hub.emit_now (s : Hub) (o : Out) : (s.emit o).now = s.now := rfl
@[simp] theorem Hub.emit_nowFrac (s : Hub) (o : Out) : (s.emit o).nowFrac = s.nowFrac := rfl
@[simp] theorem Hub.emit_worked (s : Hub) (o : Out) : (s.emit o).worked = s.worked := rfl
@[simp] theorem Hub.emit_stepped (s : Hub) (o : Out) : (s.emit o).stepped = s.stepped := rfl
@[simp] theorem Hub.emit_loops (s : Hub) (o : Out) : (s.emit o).loops = s.loops := rfl
@[simp] theorem Hub.emit_fresh (s : Hub) (o : Out) : (s.emit o).fresh = s.fresh := rfl
@[simp] theorem Hub.emit_ev (s : Hub) (o : Out) : (s.emit o).ev = s.ev := rfl
@[simp] theorem Hub.emit_lastRaise (s : Hub) (o : Out) : (s.emit o).lastRaise = s.lastRaise := rfl
@[simp] theorem Hub.emit_lineMem (s : Hub) (o : Out) : (s.emit o).lineMem = s.lineMem := rfl
@[simp] theorem Hub.emit_pool (s : Hub) (o : Out) : (s.emit o).pool = s.pool := rfl
@[simp] theorem Hub.emit_rel (s : Hub) (o : Out) : (s.emit o).rel = s.rel := rfl
@[simp] theorem Hub.emit_plan (s : Hub) (o : Out) : (s.emit o).plan = s.plan := rfl
@[simp] theorem Hub.emit_trunk (s : Hub) (o : Out) : (s.emit o).trunk = s.trunk := rfl
@[simp] theorem Hub.emit_lpw (s : Hub) (o : Out) : (s.emit o).lpw = s.lpw := rfl
@[simp] theorem Hub.emit_tcp (s : Hub) (o : Out) : (s.emit o).tcp = s.tcp := rfl
@[simp] theorem Hub.emit_pwr (s : Hub) (o : Out) : (s.emit o).pwr = s.pwr := rfl
@[simp] theorem Hub.emit_time (s : Hub) (o : Out) : (s.emit o).time = s.time := rfl
@[simp] theorem Hub.emit_blk (s : Hub) (o : Out) : (s.emit o).blk = s.blk := rfl
@[simp] theorem Hub.emit_dsp (s : Hub) (o : Out) : (s.emit o).dsp = s.dsp := rfl
@[simp] theorem Hub.emit_fbr (s : Hub) (o : Out) : (s.emit o).fbr = s.fbr := rfl
@[simp] theorem Hub.emit_ring (s : Hub) (o : Out) : (s.emit o).ring = s.ring := rfl
@[simp] theorem Hub.emit_sec (s : Hub) (o : Out) : (s.emit o).sec = s.sec := rfl
@[simp] theorem Hub.emit_net (s : Hub) (o : Out) : (s.emit o).net = s.net := rfl
@[simp] theorem Hub.emit_hif (s : Hub) (o : Out) : (s.emit o).hif = s.hif := rfl

/-! memStore -/

@[simp] theorem Hub.memStore_regs (s : Hub) (a : Nat) (bs : List Byte) : (s.memStore a bs).regs = s.regs := rfl
@[simp] theorem Hub.memStore_cnts (s : Hub) (a : Nat) (bs : List Byte) : (s.memStore a bs).cnts = s.cnts := rfl
@[simp] theorem Hub.memStore_cntSnap (s : Hub) (a : Nat) (bs : List Byte) : (s.memStore a bs).cntSnap = s.cntSnap := rfl
@[simp] theorem Hub.memStore_now (s : Hub) (a : Nat) (bs : List Byte) : (s.memStore a bs).now = s.now := rfl
@[simp] theorem Hub.memStore_nowFrac (s : Hub) (a : Nat) (bs : List Byte) : (s.memStore a bs).nowFrac = s.nowFrac := rfl
@[simp] theorem Hub.memStore_worked (s : Hub) (a : Nat) (bs : List Byte) : (s.memStore a bs).worked = s.worked := rfl
@[simp] theorem Hub.memStore_stepped (s : Hub) (a : Nat) (bs : List Byte) : (s.memStore a bs).stepped = s.stepped := rfl
@[simp] theorem Hub.memStore_loops (s : Hub) (a : Nat) (bs : List Byte) : (s.memStore a bs).loops = s.loops := rfl
@[simp] theorem Hub.memStore_fresh (s : Hub) (a : Nat) (bs : List Byte) : (s.memStore a bs).fresh = s.fresh := rfl
@[simp] theorem Hub.memStore_ev (s : Hub) (a : Nat) (bs : List Byte) : (s.memStore a bs).ev = s.ev := rfl
@[simp] theorem Hub.memStore_lastRaise (s : Hub) (a : Nat) (bs : List Byte) : (s.memStore a bs).lastRaise = s.lastRaise := rfl
@[simp] theorem Hub.memStore_out (s : Hub) (a : Nat) (bs : List Byte) : (s.memStore a bs).out = s.out := rfl
@[simp] theorem Hub.memStore_pool (s : Hub) (a : Nat) (bs : List Byte) : (s.memStore a bs).pool = s.pool := rfl
@[simp] theorem Hub.memStore_rel (s : Hub) (a : Nat) (bs : List Byte) : (s.memStore a bs).rel = s.rel := rfl
@[simp] theorem Hub.memStore_plan (s : Hub) (a : Nat) (bs : List Byte) : (s.memStore a bs).plan = s.plan := rfl
@[simp] theorem Hub.memStore_trunk (s : Hub) (a : Nat) (bs : List Byte) : (s.memStore a bs).trunk = s.trunk := rfl
@[simp] theorem Hub.memStore_lpw (s : Hub) (a : Nat) (bs : List Byte) : (s.memStore a bs).lpw = s.lpw := rfl
@[simp] theorem Hub.memStore_tcp (s : Hub) (a : Nat) (bs : List Byte) : (s.memStore a bs).tcp = s.tcp := rfl
@[simp] theorem Hub.memStore_pwr (s : Hub) (a : Nat) (bs : List Byte) : (s.memStore a bs).pwr = s.pwr := rfl
@[simp] theorem Hub.memStore_time (s : Hub) (a : Nat) (bs : List Byte) : (s.memStore a bs).time = s.time := rfl
@[simp] theorem Hub.memStore_blk (s : Hub) (a : Nat) (bs : List Byte) : (s.memStore a bs).blk = s.blk := rfl
@[simp] theorem Hub.memStore_dsp (s : Hub) (a : Nat) (bs : List Byte) : (s.memStore a bs).dsp = s.dsp := rfl
@[simp] theorem Hub.memStore_fbr (s : Hub) (a : Nat) (bs : List Byte) : (s.memStore a bs).fbr = s.fbr := rfl
@[simp] theorem Hub.memStore_ring (s : Hub) (a : Nat) (bs : List Byte) : (s.memStore a bs).ring = s.ring := rfl
@[simp] theorem Hub.memStore_sec (s : Hub) (a : Nat) (bs : List Byte) : (s.memStore a bs).sec = s.sec := rfl
@[simp] theorem Hub.memStore_net (s : Hub) (a : Nat) (bs : List Byte) : (s.memStore a bs).net = s.net := rfl
@[simp] theorem Hub.memStore_hif (s : Hub) (a : Nat) (bs : List Byte) : (s.memStore a bs).hif = s.hif := rfl

/-! dropEvent -/

@[simp] theorem Hub.dropEvent_cntSnap (s : Hub)  : (s.dropEvent).cntSnap = s.cntSnap := by unfold Hub.dropEvent; simp only []; split <;> simp
@[simp] theorem Hub.dropEvent_now (s : Hub)  : (s.dropEvent).now = s.now := by unfold Hub.dropEvent; simp only []; split <;> simp
@[simp] theorem Hub.dropEvent_nowFrac (s : Hub)  : (s.dropEvent).nowFrac = s.nowFrac := by unfold Hub.dropEvent; simp only []; split <;> simp
@[simp] theorem Hub.dropEvent_worked (s : Hub)  : (s.dropEvent).worked = s.worked := by unfold Hub.dropEvent; simp only []; split <;> simp
@[simp] theorem Hub.dropEvent_stepped (s : Hub)  : (s.dropEvent).stepped = s.stepped := by unfold Hub.dropEvent; simp only []; split <;> simp
@[simp] theorem Hub.dropEvent_loops (s : Hub)  : (s.dropEvent).loops = s.loops := by unfold Hub.dropEvent; simp only []; split <;> simp
@[simp] theorem Hub.dropEvent_fresh (s : Hub)  : (s.dropEvent).fresh = s.fresh := by unfold Hub.dropEvent; simp only []; split <;> simp
@[simp] theorem Hub.dropEvent_lastRaise (s : Hub)  : (s.dropEvent).lastRaise = s.lastRaise := by unfold Hub.dropEvent; simp only []; split <;> simp
@[simp] theorem Hub.dropEvent_out (s : Hub)  : (s.dropEvent).out = s.out := by unfold Hub.dropEvent; simp only []; split <;> simp
@[simp] theorem Hub.dropEvent_lineMem (s : Hub)  : (s.dropEvent).lineMem = s.lineMem := by unfold Hub.dropEvent; simp only []; split <;> simp
@[simp] theorem Hub.dropEvent_pool (s : Hub)  : (s.dropEvent).pool = s.pool := by unfold Hub.dropEvent; simp only []; split <;> simp
@[simp] theorem Hub.dropEvent_rel (s : Hub)  : (s.dropEvent).rel = s.rel := by unfold Hub.dropEvent; simp only []; split <;> simp
@[simp] theorem Hub.dropEvent_plan (s : Hub)  : (s.dropEvent).plan = s.plan := by unfold Hub.dropEvent; simp only []; split <;> simp
@[simp] theorem Hub.dropEvent_trunk (s : Hub)  : (s.dropEvent).trunk = s.trunk := by unfold Hub.dropEvent; simp only []; split <;> simp
@[simp] theorem Hub.dropEvent_lpw (s : Hub)  : (s.dropEvent).lpw = s.lpw := by unfold Hub.dropEvent; simp only []; split <;> simp
@[simp] theorem Hub.dropEvent_tcp (s : Hub)  : (s.dropEvent).tcp = s.tcp := by unfold Hub.dropEvent; simp only []; split <;> simp
@[simp] theorem Hub.dropEvent_pwr (s : Hub)  : (s.dropEvent).pwr = s.pwr := by unfold Hub.dropEvent; simp only []; split <;> simp
@[simp] theorem Hub.dropEvent_time (s : Hub)  : (s.dropEvent).time = s.time := by unfold Hub.dropEvent; simp only []; split <;> simp
@[simp] theorem Hub.dropEvent_blk (s : Hub)  : (s.dropEvent).blk = s.blk := by unfold Hub.dropEvent; simp only []; split <;> simp
@[simp] theorem Hub.dropEvent_dsp (s : Hub)  : (s.dropEvent).dsp = s.dsp := by unfold Hub.dropEvent; simp only []; split <;> simp
@[simp] theorem Hub.dropEvent_fbr (s : Hub)  : (s.dropEvent).fbr = s.fbr := by unfold Hub.dropEvent; simp only []; split <;> simp
@[simp] theorem Hub.dropEvent_ring (s : Hub)  : (s.dropEvent).ring = s.ring := by unfold Hub.dropEvent; simp only []; split <;> simp
@[simp] theorem Hub.dropEvent_sec (s : Hub)  : (s.dropEvent).sec = s.sec := by unfold Hub.dropEvent; simp only []; split <;> simp
@[simp] theorem Hub.dropEvent_net (s : Hub)  : (s.dropEvent).net = s.net := by unfold Hub.dropEvent; simp only []; split <;> simp
@[simp] theorem Hub.dropEvent_hif (s : Hub)  : (s.dropEvent).hif = s.hif := by unfold Hub.dropEvent; simp only []; split <;> simp

/-! post -/

@[simp] theorem Hub.post_cntSnap (s : Hub) (r : EvRec) : (s.post r).cntSnap = s.cntSnap := by unfold Hub.post; (repeat' split) <;> simp
@[simp] theorem Hub.post_now (s : Hub) (r : EvRec) : (s.post r).now = s.now := by unfold Hub.post; (repeat' split) <;> simp
@[simp] theorem Hub.post_nowFrac (s : Hub) (r : EvRec) : (s.post r).nowFrac = s.nowFrac := by unfold Hub.post; (repeat' split) <;> simp
@[simp] theorem Hub.post_worked (s : Hub) (r : EvRec) : (s.post r).worked = s.worked := by unfold Hub.post; (repeat' split) <;> simp
@[simp] theorem Hub.post_stepped (s : Hub) (r : EvRec) : (s.post r).stepped = s.stepped := by unfold Hub.post; (repeat' split) <;> simp
@[simp] theorem Hub.post_loops (s : Hub) (r : EvRec) : (s.post r).loops = s.loops := by unfold Hub.post; (repeat' split) <;> simp
@[simp] theorem Hub.post_fresh (s : Hub) (r : EvRec) : (s.post r).fresh = s.fresh := by unfold Hub.post; (repeat' split) <;> simp
@[simp] theorem Hub.post_lastRaise (s : Hub) (r : EvRec) : (s.post r).lastRaise = s.lastRaise := by unfold Hub.post; (repeat' split) <;> simp
@[simp] theorem Hub.post_out (s : Hub) (r : EvRec) : (s.post r).out = s.out := by unfold Hub.post; (repeat' split) <;> simp
@[simp] theorem Hub.post_lineMem (s : Hub) (r : EvRec) : (s.post r).lineMem = s.lineMem := by unfold Hub.post; (repeat' split) <;> simp
@[simp] theorem Hub.post_pool (s : Hub) (r : EvRec) : (s.post r).pool = s.pool := by unfold Hub.post; (repeat' split) <;> simp
@[simp] theorem Hub.post_rel (s : Hub) (r : EvRec) : (s.post r).rel = s.rel := by unfold Hub.post; (repeat' split) <;> simp
@[simp] theorem Hub.post_plan (s : Hub) (r : EvRec) : (s.post r).plan = s.plan := by unfold Hub.post; (repeat' split) <;> simp
@[simp] theorem Hub.post_trunk (s : Hub) (r : EvRec) : (s.post r).trunk = s.trunk := by unfold Hub.post; (repeat' split) <;> simp
@[simp] theorem Hub.post_lpw (s : Hub) (r : EvRec) : (s.post r).lpw = s.lpw := by unfold Hub.post; (repeat' split) <;> simp
@[simp] theorem Hub.post_tcp (s : Hub) (r : EvRec) : (s.post r).tcp = s.tcp := by unfold Hub.post; (repeat' split) <;> simp
@[simp] theorem Hub.post_pwr (s : Hub) (r : EvRec) : (s.post r).pwr = s.pwr := by unfold Hub.post; (repeat' split) <;> simp
@[simp] theorem Hub.post_time (s : Hub) (r : EvRec) : (s.post r).time = s.time := by unfold Hub.post; (repeat' split) <;> simp
@[simp] theorem Hub.post_blk (s : Hub) (r : EvRec) : (s.post r).blk = s.blk := by unfold Hub.post; (repeat' split) <;> simp
@[simp] theorem Hub.post_dsp (s : Hub) (r : EvRec) : (s.post r).dsp = s.dsp := by unfold Hub.post; (repeat' split) <;> simp
@[simp] theorem Hub.post_fbr (s : Hub) (r : EvRec) : (s.post r).fbr = s.fbr := by unfold Hub.post; (repeat' split) <;> simp
@[simp] theorem Hub.post_ring (s : Hub) (r : EvRec) : (s.post r).ring = s.ring := by unfold Hub.post; (repeat' split) <;> simp
@[simp] theorem Hub.post_sec (s : Hub) (r : EvRec) : (s.post r).sec = s.sec := by unfold Hub.post; (repeat' split) <;> simp
@[simp] theorem Hub.post_net (s : Hub) (r : EvRec) : (s.post r).net = s.net := by unfold Hub.post; (repeat' split) <;> simp
@[simp] theorem Hub.post_hif (s : Hub) (r : EvRec) : (s.post r).hif = s.hif := by unfold Hub.post; (repeat' split) <;> simp

/-! raise -/

@[simp] theorem Hub.raise_cntSnap (s : Hub) (e : EvDef) (xs : List Nat) : (s.raise e xs).cntSnap = s.cntSnap := by unfold Hub.raise; simp
@[simp] theorem Hub.raise_now (s : Hub) (e : EvDef) (xs : List Nat) : (s.raise e xs).now = s.now := by unfold Hub.raise; simp
@[simp] theorem Hub.raise_nowFrac (s : Hub) (e : EvDef) (xs : List Nat) : (s.raise e xs).nowFrac = s.nowFrac := by unfold Hub.raise; simp
@[simp] theorem Hub.raise_worked (s : Hub) (e : EvDef) (xs : List Nat) : (s.raise e xs).worked = s.worked := by unfold Hub.raise; simp
@[simp] theorem Hub.raise_stepped (s : Hub) (e : EvDef) (xs : List Nat) : (s.raise e xs).stepped = s.stepped := by unfold Hub.raise; simp
@[simp] theorem Hub.raise_loops (s : Hub) (e : EvDef) (xs : List Nat) : (s.raise e xs).loops = s.loops := by unfold Hub.raise; simp
@[simp] theorem Hub.raise_fresh (s : Hub) (e : EvDef) (xs : List Nat) : (s.raise e xs).fresh = s.fresh := by unfold Hub.raise; simp
@[simp] theorem Hub.raise_lastRaise (s : Hub) (e : EvDef) (xs : List Nat) : (s.raise e xs).lastRaise = s.lastRaise := by unfold Hub.raise; simp
@[simp] theorem Hub.raise_out (s : Hub) (e : EvDef) (xs : List Nat) : (s.raise e xs).out = s.out := by unfold Hub.raise; simp
@[simp] theorem Hub.raise_lineMem (s : Hub) (e : EvDef) (xs : List Nat) : (s.raise e xs).lineMem = s.lineMem := by unfold Hub.raise; simp
@[simp] theorem Hub.raise_pool (s : Hub) (e : EvDef) (xs : List Nat) : (s.raise e xs).pool = s.pool := by unfold Hub.raise; simp
@[simp] theorem Hub.raise_rel (s : Hub) (e : EvDef) (xs : List Nat) : (s.raise e xs).rel = s.rel := by unfold Hub.raise; simp
@[simp] theorem Hub.raise_plan (s : Hub) (e : EvDef) (xs : List Nat) : (s.raise e xs).plan = s.plan := by unfold Hub.raise; simp
@[simp] theorem Hub.raise_trunk (s : Hub) (e : EvDef) (xs : List Nat) : (s.raise e xs).trunk = s.trunk := by unfold Hub.raise; simp
@[simp] theorem Hub.raise_lpw (s : Hub) (e : EvDef) (xs : List Nat) : (s.raise e xs).lpw = s.lpw := by unfold Hub.raise; simp
@[simp] theorem Hub.raise_tcp (s : Hub) (e : EvDef) (xs : List Nat) : (s.raise e xs).tcp = s.tcp := by unfold Hub.raise; simp
@[simp] theorem Hub.raise_pwr (s : Hub) (e : EvDef) (xs : List Nat) : (s.raise e xs).pwr = s.pwr := by unfold Hub.raise; simp
@[simp] theorem Hub.raise_time (s : Hub) (e : EvDef) (xs : List Nat) : (s.raise e xs).time = s.time := by unfold Hub.raise; simp
@[simp] theorem Hub.raise_blk (s : Hub) (e : EvDef) (xs : List Nat) : (s.raise e xs).blk = s.blk := by unfold Hub.raise; simp
@[simp] theorem Hub.raise_dsp (s : Hub) (e : EvDef) (xs : List Nat) : (s.raise e xs).dsp = s.dsp := by unfold Hub.raise; simp
@[simp] theorem Hub.raise_fbr (s : Hub) (e : EvDef) (xs : List Nat) : (s.raise e xs).fbr = s.fbr := by unfold Hub.raise; simp
@[simp] theorem Hub.raise_ring (s : Hub) (e : EvDef) (xs : List Nat) : (s.raise e xs).ring = s.ring := by unfold Hub.raise; simp
@[simp] theorem Hub.raise_sec (s : Hub) (e : EvDef) (xs : List Nat) : (s.raise e xs).sec = s.sec := by unfold Hub.raise; simp
@[simp] theorem Hub.raise_net (s : Hub) (e : EvDef) (xs : List Nat) : (s.raise e xs).net = s.net := by unfold Hub.raise; simp
@[simp] theorem Hub.raise_hif (s : Hub) (e : EvDef) (xs : List Nat) : (s.raise e xs).hif = s.hif := by unfold Hub.raise; simp

/-! raiseSev -/

@[simp] theorem Hub.raiseSev_cntSnap (s : Hub) (e : EvDef) (v : Sev) (xs : List Nat) : (s.raiseSev e v xs).cntSnap = s.cntSnap := by unfold Hub.raiseSev; simp
@[simp] theorem Hub.raiseSev_now (s : Hub) (e : EvDef) (v : Sev) (xs : List Nat) : (s.raiseSev e v xs).now = s.now := by unfold Hub.raiseSev; simp
@[simp] theorem Hub.raiseSev_nowFrac (s : Hub) (e : EvDef) (v : Sev) (xs : List Nat) : (s.raiseSev e v xs).nowFrac = s.nowFrac := by unfold Hub.raiseSev; simp
@[simp] theorem Hub.raiseSev_worked (s : Hub) (e : EvDef) (v : Sev) (xs : List Nat) : (s.raiseSev e v xs).worked = s.worked := by unfold Hub.raiseSev; simp
@[simp] theorem Hub.raiseSev_stepped (s : Hub) (e : EvDef) (v : Sev) (xs : List Nat) : (s.raiseSev e v xs).stepped = s.stepped := by unfold Hub.raiseSev; simp
@[simp] theorem Hub.raiseSev_loops (s : Hub) (e : EvDef) (v : Sev) (xs : List Nat) : (s.raiseSev e v xs).loops = s.loops := by unfold Hub.raiseSev; simp
@[simp] theorem Hub.raiseSev_fresh (s : Hub) (e : EvDef) (v : Sev) (xs : List Nat) : (s.raiseSev e v xs).fresh = s.fresh := by unfold Hub.raiseSev; simp
@[simp] theorem Hub.raiseSev_lastRaise (s : Hub) (e : EvDef) (v : Sev) (xs : List Nat) : (s.raiseSev e v xs).lastRaise = s.lastRaise := by unfold Hub.raiseSev; simp
@[simp] theorem Hub.raiseSev_out (s : Hub) (e : EvDef) (v : Sev) (xs : List Nat) : (s.raiseSev e v xs).out = s.out := by unfold Hub.raiseSev; simp
@[simp] theorem Hub.raiseSev_lineMem (s : Hub) (e : EvDef) (v : Sev) (xs : List Nat) : (s.raiseSev e v xs).lineMem = s.lineMem := by unfold Hub.raiseSev; simp
@[simp] theorem Hub.raiseSev_pool (s : Hub) (e : EvDef) (v : Sev) (xs : List Nat) : (s.raiseSev e v xs).pool = s.pool := by unfold Hub.raiseSev; simp
@[simp] theorem Hub.raiseSev_rel (s : Hub) (e : EvDef) (v : Sev) (xs : List Nat) : (s.raiseSev e v xs).rel = s.rel := by unfold Hub.raiseSev; simp
@[simp] theorem Hub.raiseSev_plan (s : Hub) (e : EvDef) (v : Sev) (xs : List Nat) : (s.raiseSev e v xs).plan = s.plan := by unfold Hub.raiseSev; simp
@[simp] theorem Hub.raiseSev_trunk (s : Hub) (e : EvDef) (v : Sev) (xs : List Nat) : (s.raiseSev e v xs).trunk = s.trunk := by unfold Hub.raiseSev; simp
@[simp] theorem Hub.raiseSev_lpw (s : Hub) (e : EvDef) (v : Sev) (xs : List Nat) : (s.raiseSev e v xs).lpw = s.lpw := by unfold Hub.raiseSev; simp
@[simp] theorem Hub.raiseSev_tcp (s : Hub) (e : EvDef) (v : Sev) (xs : List Nat) : (s.raiseSev e v xs).tcp = s.tcp := by unfold Hub.raiseSev; simp
@[simp] theorem Hub.raiseSev_pwr (s : Hub) (e : EvDef) (v : Sev) (xs : List Nat) : (s.raiseSev e v xs).pwr = s.pwr := by unfold Hub.raiseSev; simp
@[simp] theorem Hub.raiseSev_time (s : Hub) (e : EvDef) (v : Sev) (xs : List Nat) : (s.raiseSev e v xs).time = s.time := by unfold Hub.raiseSev; simp
@[simp] theorem Hub.raiseSev_blk (s : Hub) (e : EvDef) (v : Sev) (xs : List Nat) : (s.raiseSev e v xs).blk = s.blk := by unfold Hub.raiseSev; simp
@[simp] theorem Hub.raiseSev_dsp (s : Hub) (e : EvDef) (v : Sev) (xs : List Nat) : (s.raiseSev e v xs).dsp = s.dsp := by unfold Hub.raiseSev; simp
@[simp] theorem Hub.raiseSev_fbr (s : Hub) (e : EvDef) (v : Sev) (xs : List Nat) : (s.raiseSev e v xs).fbr = s.fbr := by unfold Hub.raiseSev; simp
@[simp] theorem Hub.raiseSev_ring (s : Hub) (e : EvDef) (v : Sev) (xs : List Nat) : (s.raiseSev e v xs).ring = s.ring := by unfold Hub.raiseSev; simp
@[simp] theorem Hub.raiseSev_sec (s : Hub) (e : EvDef) (v : Sev) (xs : List Nat) : (s.raiseSev e v xs).sec = s.sec := by unfold Hub.raiseSev; simp
@[simp] theorem Hub.raiseSev_net (s : Hub) (e : EvDef) (v : Sev) (xs : List Nat) : (s.raiseSev e v xs).net = s.net := by unfold Hub.raiseSev; simp
@[simp] theorem Hub.raiseSev_hif (s : Hub) (e : EvDef) (v : Sev) (xs : List Nat) : (s.raiseSev e v xs).hif = s.hif := by unfold Hub.raiseSev; simp

/-! lockedWrite -/

@[simp] theorem Hub.lockedWrite_cntSnap (s : Hub) (a b : Nat) : (s.lockedWrite a b).cntSnap = s.cntSnap := by unfold Hub.lockedWrite; simp
@[simp] theorem Hub.lockedWrite_now (s : Hub) (a b : Nat) : (s.lockedWrite a b).now = s.now := by unfold Hub.lockedWrite; simp
@[simp] theorem Hub.lockedWrite_nowFrac (s : Hub) (a b : Nat) : (s.lockedWrite a b).nowFrac = s.nowFrac := by unfold Hub.lockedWrite; simp
@[simp] theorem Hub.lockedWrite_worked (s : Hub) (a b : Nat) : (s.lockedWrite a b).worked = s.worked := by unfold Hub.lockedWrite; simp
@[simp] theorem Hub.lockedWrite_stepped (s : Hub) (a b : Nat) : (s.lockedWrite a b).stepped = s.stepped := by unfold Hub.lockedWrite; simp
@[simp] theorem Hub.lockedWrite_loops (s : Hub) (a b : Nat) : (s.lockedWrite a b).loops = s.loops := by unfold Hub.lockedWrite; simp
@[simp] theorem Hub.lockedWrite_fresh (s : Hub) (a b : Nat) : (s.lockedWrite a b).fresh = s.fresh := by unfold Hub.lockedWrite; simp
@[simp] theorem Hub.lockedWrite_lastRaise (s : Hub) (a b : Nat) : (s.lockedWrite a b).lastRaise = s.lastRaise := by unfold Hub.lockedWrite; simp
@[simp] theorem Hub.lockedWrite_out (s : Hub) (a b : Nat) : (s.lockedWrite a b).out = s.out := by unfold Hub.lockedWrite; simp
@[simp] theorem Hub.lockedWrite_lineMem (s : Hub) (a b : Nat) : (s.lockedWrite a b).lineMem = s.lineMem := by unfold Hub.lockedWrite; simp
@[simp] theorem Hub.lockedWrite_pool (s : Hub) (a b : Nat) : (s.lockedWrite a b).pool = s.pool := by unfold Hub.lockedWrite; simp
@[simp] theorem Hub.lockedWrite_rel (s : Hub) (a b : Nat) : (s.lockedWrite a b).rel = s.rel := by unfold Hub.lockedWrite; simp
@[simp] theorem Hub.lockedWrite_plan (s : Hub) (a b : Nat) : (s.lockedWrite a b).plan = s.plan := by unfold Hub.lockedWrite; simp
@[simp] theorem Hub.lockedWrite_trunk (s : Hub) (a b : Nat) : (s.lockedWrite a b).trunk = s.trunk := by unfold Hub.lockedWrite; simp
@[simp] theorem Hub.lockedWrite_lpw (s : Hub) (a b : Nat) : (s.lockedWrite a b).lpw = s.lpw := by unfold Hub.lockedWrite; simp
@[simp] theorem Hub.lockedWrite_tcp (s : Hub) (a b : Nat) : (s.lockedWrite a b).tcp = s.tcp := by unfold Hub.lockedWrite; simp
@[simp] theorem Hub.lockedWrite_pwr (s : Hub) (a b : Nat) : (s.lockedWrite a b).pwr = s.pwr := by unfold Hub.lockedWrite; simp
@[simp] theorem Hub.lockedWrite_time (s : Hub) (a b : Nat) : (s.lockedWrite a b).time = s.time := by unfold Hub.lockedWrite; simp
@[simp] theorem Hub.lockedWrite_blk (s : Hub) (a b : Nat) : (s.lockedWrite a b).blk = s.blk := by unfold Hub.lockedWrite; simp
@[simp] theorem Hub.lockedWrite_dsp (s : Hub) (a b : Nat) : (s.lockedWrite a b).dsp = s.dsp := by unfold Hub.lockedWrite; simp
@[simp] theorem Hub.lockedWrite_fbr (s : Hub) (a b : Nat) : (s.lockedWrite a b).fbr = s.fbr := by unfold Hub.lockedWrite; simp
@[simp] theorem Hub.lockedWrite_ring (s : Hub) (a b : Nat) : (s.lockedWrite a b).ring = s.ring := by unfold Hub.lockedWrite; simp
@[simp] theorem Hub.lockedWrite_sec (s : Hub) (a b : Nat) : (s.lockedWrite a b).sec = s.sec := by unfold Hub.lockedWrite; simp
@[simp] theorem Hub.lockedWrite_net (s : Hub) (a b : Nat) : (s.lockedWrite a b).net = s.net := by unfold Hub.lockedWrite; simp
@[simp] theorem Hub.lockedWrite_hif (s : Hub) (a b : Nat) : (s.lockedWrite a b).hif = s.hif := by unfold Hub.lockedWrite; simp

/-! raiseLimited -/

@[simp] theorem Hub.raiseLimited_cntSnap (s : Hub) (e : EvDef) (i : Nat) (xs : List Nat) : (s.raiseLimited e i xs).cntSnap = s.cntSnap := by unfold Hub.raiseLimited; simp only []; (repeat' split) <;> simp
@[simp] theorem Hub.raiseLimited_now (s : Hub) (e : EvDef) (i : Nat) (xs : List Nat) : (s.raiseLimited e i xs).now = s.now := by unfold Hub.raiseLimited; simp only []; (repeat' split) <;> simp
@[simp] theorem Hub.raiseLimited_nowFrac (s : Hub) (e : EvDef) (i : Nat) (xs : List Nat) : (s.raiseLimited e i xs).nowFrac = s.nowFrac := by unfold Hub.raiseLimited; simp only []; (repeat' split) <;> simp
@[simp] theorem Hub.raiseLimited_worked (s : Hub) (e : EvDef) (i : Nat) (xs : List Nat) : (s.raiseLimited e i xs).worked = s.worked := by unfold Hub.raiseLimited; simp only []; (repeat' split) <;> simp
@[simp] theorem Hub.raiseLimited_stepped (s : Hub) (e : EvDef) (i : Nat) (xs : List Nat) : (s.raiseLimited e i xs).stepped = s.stepped := by unfold Hub.raiseLimited; simp only []; (repeat' split) <;> simp
@[simp] theorem Hub.raiseLimited_loops (s : Hub) (e : EvDef) (i : Nat) (xs : List Nat) : (s.raiseLimited e i xs).loops = s.loops := by unfold Hub.raiseLimited; simp only []; (repeat' split) <;> simp
@[simp] theorem Hub.raiseLimited_fresh (s : Hub) (e : EvDef) (i : Nat) (xs : List Nat) : (s.raiseLimited e i xs).fresh = s.fresh := by unfold Hub.raiseLimited; simp only []; (repeat' split) <;> simp
@[simp] theorem Hub.raiseLimited_out (s : Hub) (e : EvDef) (i : Nat) (xs : List Nat) : (s.raiseLimited e i xs).out = s.out := by unfold Hub.raiseLimited; simp only []; (repeat' split) <;> simp
@[simp] theorem Hub.raiseLimited_lineMem (s : Hub) (e : EvDef) (i : Nat) (xs : List Nat) : (s.raiseLimited e i xs).lineMem = s.lineMem := by unfold Hub.raiseLimited; simp only []; (repeat' split) <;> simp
@[simp] theorem Hub.raiseLimited_pool (s : Hub) (e : EvDef) (i : Nat) (xs : List Nat) : (s.raiseLimited e i xs).pool = s.pool := by unfold Hub.raiseLimited; simp only []; (repeat' split) <;> simp
@[simp] theorem Hub.raiseLimited_rel (s : Hub) (e : EvDef) (i : Nat) (xs : List Nat) : (s.raiseLimited e i xs).rel = s.rel := by unfold Hub.raiseLimited; simp only []; (repeat' split) <;> simp
@[simp] theorem Hub.raiseLimited_plan (s : Hub) (e : EvDef) (i : Nat) (xs : List Nat) : (s.raiseLimited e i xs).plan = s.plan := by unfold Hub.raiseLimited; simp only []; (repeat' split) <;> simp
@[simp] theorem Hub.raiseLimited_trunk (s : Hub) (e : EvDef) (i : Nat) (xs : List Nat) : (s.raiseLimited e i xs).trunk = s.trunk := by unfold Hub.raiseLimited; simp only []; (repeat' split) <;> simp
@[simp] theorem Hub.raiseLimited_lpw (s : Hub) (e : EvDef) (i : Nat) (xs : List Nat) : (s.raiseLimited e i xs).lpw = s.lpw := by unfold Hub.raiseLimited; simp only []; (repeat' split) <;> simp
@[simp] theorem Hub.raiseLimited_tcp (s : Hub) (e : EvDef) (i : Nat) (xs : List Nat) : (s.raiseLimited e i xs).tcp = s.tcp := by unfold Hub.raiseLimited; simp only []; (repeat' split) <;> simp
@[simp] theorem Hub.raiseLimited_pwr (s : Hub) (e : EvDef) (i : Nat) (xs : List Nat) : (s.raiseLimited e i xs).pwr = s.pwr := by unfold Hub.raiseLimited; simp only []; (repeat' split) <;> simp
@[simp] theorem Hub.raiseLimited_time (s : Hub) (e : EvDef) (i : Nat) (xs : List Nat) : (s.raiseLimited e i xs).time = s.time := by unfold Hub.raiseLimited; simp only []; (repeat' split) <;> simp
@[simp] theorem Hub.raiseLimited_blk (s : Hub) (e : EvDef) (i : Nat) (xs : List Nat) : (s.raiseLimited e i xs).blk = s.blk := by unfold Hub.raiseLimited; simp only []; (repeat' split) <;> simp
@[simp] theorem Hub.raiseLimited_dsp (s : Hub) (e : EvDef) (i : Nat) (xs : List Nat) : (s.raiseLimited e i xs).dsp = s.dsp := by unfold Hub.raiseLimited; simp only []; (repeat' split) <;> simp
@[simp] theorem Hub.raiseLimited_fbr (s : Hub) (e : EvDef) (i : Nat) (xs : List Nat) : (s.raiseLimited e i xs).fbr = s.fbr := by unfold Hub.raiseLimited; simp only []; (repeat' split) <;> simp
@[simp] theorem Hub.raiseLimited_ring (s : Hub) (e : EvDef) (i : Nat) (xs : List Nat) : (s.raiseLimited e i xs).ring = s.ring := by unfold Hub.raiseLimited; simp only []; (repeat' split) <;> simp
@[simp] theorem Hub.raiseLimited_sec (s : Hub) (e : EvDef) (i : Nat) (xs : List Nat) : (s.raiseLimited e i xs).sec = s.sec := by unfold Hub.raiseLimited; simp only []; (repeat' split) <;> simp
@[simp] theorem Hub.raiseLimited_net (s : Hub) (e : EvDef) (i : Nat) (xs : List Nat) : (s.raiseLimited e i xs).net = s.net := by unfold Hub.raiseLimited; simp only []; (repeat' split) <;> simp
@[simp] theorem Hub.raiseLimited_hif (s : Hub) (e : EvDef) (i : Nat) (xs : List Nat) : (s.raiseLimited e i xs).hif = s.hif := by unfold Hub.raiseLimited; simp only []; (repeat' split) <;> simp

/-! raisePerTick -/

@[simp] theorem Hub.raisePerTick_cntSnap (s : Hub) (e : EvDef) (i : Nat) (xs : List Nat) : (s.raisePerTick e i xs).cntSnap = s.cntSnap := by unfold Hub.raisePerTick; simp only []; split <;> simp
@[simp] theorem Hub.raisePerTick_now (s : Hub) (e : EvDef) (i : Nat) (xs : List Nat) : (s.raisePerTick e i xs).now = s.now := by unfold Hub.raisePerTick; simp only []; split <;> simp
@[simp] theorem Hub.raisePerTick_nowFrac (s : Hub) (e : EvDef) (i : Nat) (xs : List Nat) : (s.raisePerTick e i xs).nowFrac = s.nowFrac := by unfold Hub.raisePerTick; simp only []; split <;> simp
@[simp] theorem Hub.raisePerTick_worked (s : Hub) (e : EvDef) (i : Nat) (xs : List Nat) : (s.raisePerTick e i xs).worked = s.worked := by unfold Hub.raisePerTick; simp only []; split <;> simp
@[simp] theorem Hub.raisePerTick_stepped (s : Hub) (e : EvDef) (i : Nat) (xs : List Nat) : (s.raisePerTick e i xs).stepped = s.stepped := by unfold Hub.raisePerTick; simp only []; split <;> simp
@[simp] theorem Hub.raisePerTick_loops (s : Hub) (e : EvDef) (i : Nat) (xs : List Nat) : (s.raisePerTick e i xs).loops = s.loops := by unfold Hub.raisePerTick; simp only []; split <;> simp
@[simp] theorem Hub.raisePerTick_fresh (s : Hub) (e : EvDef) (i : Nat) (xs : List Nat) : (s.raisePerTick e i xs).fresh = s.fresh := by unfold Hub.raisePerTick; simp only []; split <;> simp
@[simp] theorem Hub.raisePerTick_out (s : Hub) (e : EvDef) (i : Nat) (xs : List Nat) : (s.raisePerTick e i xs).out = s.out := by unfold Hub.raisePerTick; simp only []; split <;> simp
@[simp] theorem Hub.raisePerTick_lineMem (s : Hub) (e : EvDef) (i : Nat) (xs : List Nat) : (s.raisePerTick e i xs).lineMem = s.lineMem := by unfold Hub.raisePerTick; simp only []; split <;> simp
@[simp] theorem Hub.raisePerTick_pool (s : Hub) (e : EvDef) (i : Nat) (xs : List Nat) : (s.raisePerTick e i xs).pool = s.pool := by unfold Hub.raisePerTick; simp only []; split <;> simp
@[simp] theorem Hub.raisePerTick_rel (s : Hub) (e : EvDef) (i : Nat) (xs : List Nat) : (s.raisePerTick e i xs).rel = s.rel := by unfold Hub.raisePerTick; simp only []; split <;> simp
@[simp] theorem Hub.raisePerTick_plan (s : Hub) (e : EvDef) (i : Nat) (xs : List Nat) : (s.raisePerTick e i xs).plan = s.plan := by unfold Hub.raisePerTick; simp only []; split <;> simp
@[simp] theorem Hub.raisePerTick_trunk (s : Hub) (e : EvDef) (i : Nat) (xs : List Nat) : (s.raisePerTick e i xs).trunk = s.trunk := by unfold Hub.raisePerTick; simp only []; split <;> simp
@[simp] theorem Hub.raisePerTick_lpw (s : Hub) (e : EvDef) (i : Nat) (xs : List Nat) : (s.raisePerTick e i xs).lpw = s.lpw := by unfold Hub.raisePerTick; simp only []; split <;> simp
@[simp] theorem Hub.raisePerTick_tcp (s : Hub) (e : EvDef) (i : Nat) (xs : List Nat) : (s.raisePerTick e i xs).tcp = s.tcp := by unfold Hub.raisePerTick; simp only []; split <;> simp
@[simp] theorem Hub.raisePerTick_pwr (s : Hub) (e : EvDef) (i : Nat) (xs : List Nat) : (s.raisePerTick e i xs).pwr = s.pwr := by unfold Hub.raisePerTick; simp only []; split <;> simp
@[simp] theorem Hub.raisePerTick_time (s : Hub) (e : EvDef) (i : Nat) (xs : List Nat) : (s.raisePerTick e i xs).time = s.time := by unfold Hub.raisePerTick; simp only []; split <;> simp
@[simp] theorem Hub.raisePerTick_blk (s : Hub) (e : EvDef) (i : Nat) (xs : List Nat) : (s.raisePerTick e i xs).blk = s.blk := by unfold Hub.raisePerTick; simp only []; split <;> simp
@[simp] theorem Hub.raisePerTick_dsp (s : Hub) (e : EvDef) (i : Nat) (xs : List Nat) : (s.raisePerTick e i xs).dsp = s.dsp := by unfold Hub.raisePerTick; simp only []; split <;> simp
@[simp] theorem Hub.raisePerTick_fbr (s : Hub) (e : EvDef) (i : Nat) (xs : List Nat) : (s.raisePerTick e i xs).fbr = s.fbr := by unfold Hub.raisePerTick; simp only []; split <;> simp
@[simp] theorem Hub.raisePerTick_ring (s : Hub) (e : EvDef) (i : Nat) (xs : List Nat) : (s.raisePerTick e i xs).ring = s.ring := by unfold Hub.raisePerTick; simp only []; split <;> simp
@[simp] theorem Hub.raisePerTick_sec (s : Hub) (e : EvDef) (i : Nat) (xs : List Nat) : (s.raisePerTick e i xs).sec = s.sec := by unfold Hub.raisePerTick; simp only []; split <;> simp
@[simp] theorem Hub.raisePerTick_net (s : Hub) (e : EvDef) (i : Nat) (xs : List Nat) : (s.raisePerTick e i xs).net = s.net := by unfold Hub.raisePerTick; simp only []; split <;> simp
@[simp] theorem Hub.raisePerTick_hif (s : Hub) (e : EvDef) (i : Nat) (xs : List Nat) : (s.raisePerTick e i xs).hif = s.hif := by unfold Hub.raisePerTick; simp only []; split <;> simp

/-! free -/

@[simp] theorem Hub.free_regs (s : Hub) (k : Nat) : ((s.free k).2).regs = s.regs := rfl
@[simp] theorem Hub.free_cnts (s : Hub) (k : Nat) : ((s.free k).2).cnts = s.cnts := rfl
@[simp] theorem Hub.free_cntSnap (s : Hub) (k : Nat) : ((s.free k).2).cntSnap = s.cntSnap := rfl
@[simp] theorem Hub.free_now (s : Hub) (k : Nat) : ((s.free k).2).now = s.now := rfl
@[simp] theorem Hub.free_nowFrac (s : Hub) (k : Nat) : ((s.free k).2).nowFrac = s.nowFrac := rfl
@[simp] theorem Hub.free_worked (s : Hub) (k : Nat) : ((s.free k).2).worked = s.worked := rfl
@[simp] theorem Hub.free_stepped (s : Hub) (k : Nat) : ((s.free k).2).stepped = s.stepped := rfl
@[simp] theorem Hub.free_loops (s : Hub) (k : Nat) : ((s.free k).2).loops = s.loops := rfl
@[simp] theorem Hub.free_ev (s : Hub) (k : Nat) : ((s.free k).2).ev = s.ev := rfl
@[simp] theorem Hub.free_lastRaise (s : Hub) (k : Nat) : ((s.free k).2).lastRaise = s.lastRaise := rfl
@[simp] theorem Hub.free_out (s : Hub) (k : Nat) : ((s.free k).2).out = s.out := rfl
@[simp] theorem Hub.free_lineMem (s : Hub) (k : Nat) : ((s.free k).2).lineMem = s.lineMem := rfl
@[simp] theorem Hub.free_pool (s : Hub) (k : Nat) : ((s.free k).2).pool = s.pool := rfl
@[simp] theorem Hub.free_rel (s : Hub) (k : Nat) : ((s.free k).2).rel = s.rel := rfl
@[simp] theorem Hub.free_plan (s : Hub) (k : Nat) : ((s.free k).2).plan = s.plan := rfl
@[simp] theorem Hub.free_trunk (s : Hub) (k : Nat) : ((s.free k).2).trunk = s.trunk := rfl
@[simp] theorem Hub.free_lpw (s : Hub) (k : Nat) : ((s.free k).2).lpw = s.lpw := rfl
@[simp] theorem Hub.free_tcp (s : Hub) (k : Nat) : ((s.free k).2).tcp = s.tcp := rfl
@[simp] theorem Hub.free_pwr (s : Hub) (k : Nat) : ((s.free k).2).pwr = s.pwr := rfl
@[simp] theorem Hub.free_time (s : Hub) (k : Nat) : ((s.free k).2).time = s.time := rfl
@[simp] theorem Hub.free_blk (s : Hub) (k : Nat) : ((s.free k).2).blk = s.blk := rfl
@[simp] theorem Hub.free_dsp (s : Hub) (k : Nat) : ((s.free k).2).dsp = s.dsp := rfl
@[simp] theorem Hub.free_fbr (s : Hub) (k : Nat) : ((s.free k).2).fbr = s.fbr := rfl
@[simp] theorem Hub.free_ring (s : Hub) (k : Nat) : ((s.free k).2).ring = s.ring := rfl
@[simp] theorem Hub.free_sec (s : Hub) (k : Nat) : ((s.free k).2).sec = s.sec := rfl
@[simp] theorem Hub.free_net (s : Hub) (k : Nat) : ((s.free k).2).net = s.net := rfl
@[simp] theorem Hub.free_hif (s : Hub) (k : Nat) : ((s.free k).2).hif = s.hif := rfl

end Sys2Proof.Machine
end

