-- ==== Sys2Proof/Laws/Tab.lean ====
section
/-! SUPPORT. What reading a sparse table gives after a write, and that every table operation keeps rising keys. -/

namespace Sys2Proof.Machine

variable {α : Type}

@[simp] theorem Tab.get?_nil (k : Nat) : Tab.get? k ([] : Tab α) = none := rfl

@[simp] theorem Tab.get?_put_self (k : Nat) (v : α) (t : Tab α) : Tab.get? k (Tab.put k v t) = some v := by
  induction t with
  | nil => simp [Tab.put, Tab.get?]
  | cons e t ih =>
    obtain ⟨k', v'⟩ := e
    by_cases h1 : k < k'
    · simp [Tab.put, Tab.get?, h1]
    · by_cases h2 : k = k'
      · simp [Tab.put, Tab.get?, h2]
      · simp [Tab.put, Tab.get?, h1, h2, ih]

theorem Tab.get?_put_ne {k k' : Nat} (h : k ≠ k') (v : α) (t : Tab α) : Tab.get? k (Tab.put k' v t) = Tab.get? k t := by
  induction t with
  | nil => simp [Tab.put, Tab.get?, h]
  | cons e t ih =>
    obtain ⟨a, b⟩ := e
    by_cases h1 : k' < a
    · simp [Tab.put, Tab.get?, h1, h]
    · by_cases h2 : k' = a
      · subst h2; simp [Tab.put, Tab.get?, h]
      · by_cases h3 : k = a
        · simp [Tab.put, Tab.get?, h1, h2, h3]
        · simp [Tab.put, Tab.get?, h1, h2, h3, ih]

@[simp] theorem Tab.get?_del_self (k : Nat) (t : Tab α) : Tab.get? k (Tab.del k t) = none := by
  induction t with
  | nil => rfl
  | cons e t ih =>
    obtain ⟨a, b⟩ := e
    by_cases h : k = a <;> simp [Tab.del, Tab.get?, h]
    · subst h; exact ih
    · exact ih

theorem Tab.get?_del_ne {k k' : Nat} (h : k ≠ k') (t : Tab α) : Tab.get? k (Tab.del k' t) = Tab.get? k t := by
  induction t with
  | nil => rfl
  | cons e t ih =>
    obtain ⟨a, b⟩ := e
    by_cases h1 : k' = a
    · subst h1; simp [Tab.del, Tab.get?, h, ih]
    · by_cases h2 : k = a <;> simp [Tab.del, Tab.get?, h1, h2, ih]

theorem Tab.get?_delIf (p : Nat → Bool) (k : Nat) (t : Tab α) :
    Tab.get? k (Tab.delIf p t) = if p k then none else Tab.get? k t := by
  induction t with
  | nil => simp [Tab.delIf]
  | cons e t ih =>
    obtain ⟨a, b⟩ := e
    by_cases h1 : k = a
    · subst h1; by_cases h2 : p k <;> simp [Tab.delIf, Tab.get?, h2, ih]
    · by_cases h2 : p a <;> simp [Tab.delIf, Tab.get?, h1, h2, ih]

/-! Rising keys. -/

/-- Every key of the table is above `k`. -/
def Tab.above (k : Nat) (t : Tab α) : Prop := ∀ e ∈ t, k < e.1

theorem Tab.wf_cons {k : Nat} {v : α} {t : Tab α} : Tab.wf ((k, v) :: t) = true ↔ Tab.above k t ∧ Tab.wf t = true := by
  induction t generalizing k v with
  | nil => simp [Tab.wf, Tab.above]
  | cons e t ih =>
    obtain ⟨a, b⟩ := e
    simp only [Tab.wf, Bool.and_eq_true, decide_eq_true_eq, Tab.above, List.mem_cons]
    constructor
    · rintro ⟨h, w⟩
      refine ⟨?_, w⟩
      rintro e (rfl | m)
      · exact h
      · exact Nat.lt_trans h ((ih.mp w).1 e m)
    · rintro ⟨h, w⟩
      exact ⟨h (a, b) (Or.inl rfl), w⟩

theorem Tab.mem_put {k : Nat} {v : α} {t : Tab α} {e : Nat × α} (h : e ∈ Tab.put k v t) : e = (k, v) ∨ e ∈ t := by
  induction t with
  | nil => simpa [Tab.put] using h
  | cons x t ih =>
    obtain ⟨a, b⟩ := x
    by_cases h1 : k < a
    · simpa [Tab.put, h1] using h
    · by_cases h2 : k = a
      · simp [Tab.put, h2] at h
        rcases h with h | h
        · left; rw [h, h2]
        · exact Or.inr (List.mem_cons_of_mem _ h)
      · simp [Tab.put, h1, h2] at h
        rcases h with h | h
        · exact Or.inr (h ▸ List.mem_cons_self)
        · rcases ih h with h | h
          · exact Or.inl h
          · exact Or.inr (List.mem_cons_of_mem _ h)

theorem Tab.mem_del {k : Nat} {t : Tab α} {e : Nat × α} (h : e ∈ Tab.del k t) : e ∈ t := by
  induction t with
  | nil => exact h
  | cons x t ih =>
    obtain ⟨a, b⟩ := x
    by_cases h1 : k = a
    · simp [Tab.del, h1] at h; exact List.mem_cons_of_mem _ (ih (h1 ▸ h))
    · simp [Tab.del, h1] at h
      rcases h with h | h
      · exact h ▸ List.mem_cons_self
      · exact List.mem_cons_of_mem _ (ih h)

theorem Tab.mem_delIf {p : Nat → Bool} {t : Tab α} {e : Nat × α} (h : e ∈ Tab.delIf p t) : e ∈ t := by
  induction t with
  | nil => exact h
  | cons x t ih =>
    obtain ⟨a, b⟩ := x
    by_cases h1 : p a
    · simp [Tab.delIf, h1] at h; exact List.mem_cons_of_mem _ (ih h)
    · simp [Tab.delIf, h1] at h
      rcases h with h | h
      · exact h ▸ List.mem_cons_self
      · exact List.mem_cons_of_mem _ (ih h)

theorem Tab.wf_put (k : Nat) (v : α) {t : Tab α} (w : Tab.wf t = true) : Tab.wf (Tab.put k v t) = true := by
  induction t with
  | nil => rfl
  | cons x t ih =>
    obtain ⟨a, b⟩ := x
    have wt := (Tab.wf_cons.mp w).2
    have ab := (Tab.wf_cons.mp w).1
    by_cases h1 : k < a
    · simp only [Tab.put, if_pos h1]
      refine Tab.wf_cons.mpr ⟨?_, w⟩
      intro e m
      rcases List.mem_cons.mp m with rfl | m
      · exact h1
      · exact Nat.lt_trans h1 (ab e m)
    · by_cases h2 : k = a
      · simp only [Tab.put, if_neg h1, if_pos h2]
        subst h2; exact Tab.wf_cons.mpr ⟨ab, wt⟩
      · simp only [Tab.put, if_neg h1, if_neg h2]
        refine Tab.wf_cons.mpr ⟨?_, ih wt⟩
        intro e m
        rcases Tab.mem_put m with rfl | m
        · exact Nat.lt_of_le_of_ne (Nat.le_of_not_lt h1) (Ne.symm h2)
        · exact ab e m

theorem Tab.wf_del (k : Nat) {t : Tab α} (w : Tab.wf t = true) : Tab.wf (Tab.del k t) = true := by
  induction t with
  | nil => rfl
  | cons x t ih =>
    obtain ⟨a, b⟩ := x
    obtain ⟨ab, wt⟩ := Tab.wf_cons.mp w
    by_cases h1 : k = a
    · simp only [Tab.del, if_pos h1]; exact ih wt
    · simp only [Tab.del, if_neg h1]
      exact Tab.wf_cons.mpr ⟨fun e m => ab e (Tab.mem_del m), ih wt⟩

theorem Tab.wf_delIf (p : Nat → Bool) {t : Tab α} (w : Tab.wf t = true) : Tab.wf (Tab.delIf p t) = true := by
  induction t with
  | nil => rfl
  | cons x t ih =>
    obtain ⟨a, b⟩ := x
    obtain ⟨ab, wt⟩ := Tab.wf_cons.mp w
    by_cases h1 : p a
    · simp only [Tab.delIf, if_pos h1]; exact ih wt
    · simp only [Tab.delIf, if_neg h1]
      exact Tab.wf_cons.mpr ⟨fun e m => ab e (Tab.mem_delIf m), ih wt⟩

theorem Tab.wf_filter (q : Nat × α → Bool) {t : Tab α} (w : Tab.wf t = true) : Tab.wf (t.filter q) = true := by
  induction t with
  | nil => rfl
  | cons x t ih =>
    obtain ⟨a, b⟩ := x
    obtain ⟨ab, wt⟩ := Tab.wf_cons.mp w
    by_cases h1 : q (a, b)
    · rw [List.filter_cons_of_pos h1]
      exact Tab.wf_cons.mpr ⟨fun e m => ab e ((List.mem_filter.mp m).1), ih wt⟩
    · rw [List.filter_cons_of_neg h1]; exact ih wt

end Sys2Proof.Machine
end

