-- ==== Sys2Proof/Laws/Ops.lean ====
section
/-! SUPPORT. What the named operations over registers, counters, line time, events and line memory do, each said once, and that
each keeps the form of the hub's data. -/

namespace Sys2Proof.Machine

/-! Register fields. -/

theorem Hub.getf_congr {s t : Hub} (h : t.regs = s.regs) (f : Fl) : t.getf f = s.getf f := by
  unfold Hub.getf; rw [h]

theorem Hub.getf_setf_self (s : Hub) (f : Fl) (v : Nat) : (s.setf f v).getf f = v % 2 ^ f.width := by
  unfold Hub.setf Hub.getf
  split
  · next h => simp [Tab.getD, h]
  · simp [Tab.getD]

theorem Hub.getf_setf_ne (s : Hub) {f g : Fl} (h : g.key ≠ f.key) (v : Nat) : (s.setf f v).getf g = s.getf g := by
  unfold Hub.setf Hub.getf
  split
  · simp [Tab.getD, Tab.get?_del_ne h]
  · simp [Tab.getD, Tab.get?_put_ne h]

theorem Hub.getf_setb_self (s : Hub) (f : Fl) (b : Bool) (w : 0 < f.width) : (s.setb f b).getf f = b2n b := by
  have : 1 < 2 ^ f.width := Nat.one_lt_two_pow (by omega)
  unfold Hub.setb; rw [Hub.getf_setf_self]
  cases b <;> simp [b2n, Nat.mod_eq_of_lt this]

theorem Hub.getf_setb_ne (s : Hub) {f g : Fl} (h : g.key ≠ f.key) (b : Bool) : (s.setb f b).getf g = s.getf g :=
  s.getf_setf_ne h _

@[simp] theorem Hub.getf_advance (s : Hub) (t : Nat) (f : Fl) : (s.advance t).getf f = s.getf f := Hub.getf_congr (by simp) f
@[simp] theorem Hub.getf_count (s : Hub) (c n : Nat) (f : Fl) : (s.count c n).getf f = s.getf f := Hub.getf_congr (by simp) f
@[simp] theorem Hub.getf_clearCnt (s : Hub) (c : Nat) (f : Fl) : (s.clearCnt c).getf f = s.getf f := Hub.getf_congr (by simp) f
@[simp] theorem Hub.getf_emit (s : Hub) (o : Out) (f : Fl) : (s.emit o).getf f = s.getf f := Hub.getf_congr (by simp) f
@[simp] theorem Hub.getf_memStore (s : Hub) (a : Nat) (bs : List Byte) (f : Fl) : (s.memStore a bs).getf f = s.getf f :=
  Hub.getf_congr (by simp) f

/-- A record that finds no room changes no register field but GEN_EVT_STATUS.OVERRUN. -/
theorem Hub.getf_post (s : Hub) (r : EvRec) {f : Fl} (h : f.key ≠ Fld.GEN_EVT_STATUS_OVERRUN.key) : (s.post r).getf f = s.getf f := by
  unfold Hub.post
  split
  · rfl
  · split
    · rfl
    · unfold Hub.dropEvent
      simp only []
      split
      · simp
      · exact (Hub.getf_setf_ne _ h 1).trans (Hub.getf_count ..)

theorem Hub.getf_raise (s : Hub) (e : EvDef) (xs : List Nat) {f : Fl} (h : f.key ≠ Fld.GEN_EVT_STATUS_OVERRUN.key) :
    (s.raise e xs).getf f = s.getf f := s.getf_post _ h

theorem Hub.getf_raiseSev (s : Hub) (e : EvDef) (v : Sev) (xs : List Nat) {f : Fl} (h : f.key ≠ Fld.GEN_EVT_STATUS_OVERRUN.key) :
    (s.raiseSev e v xs).getf f = s.getf f := s.getf_post _ h

theorem Hub.getf_raiseLimited (s : Hub) (e : EvDef) (i : Nat) (xs : List Nat) {f : Fl}
    (h : f.key ≠ Fld.GEN_EVT_STATUS_OVERRUN.key) : (s.raiseLimited e i xs).getf f = s.getf f := by
  unfold Hub.raiseLimited
  simp only []
  split
  · exact s.getf_raise e xs h
  · split
    · exact s.getf_raise e xs h
    · rfl

/-! Counters (R438). -/

theorem Hub.cnt_count_self (s : Hub) (c : Nat) {n : Nat} (h : n ≠ 0) : (s.count c n).cnt c = (s.cnt c).add n := by
  unfold Hub.count Hub.cnt; simp [h, Tab.getD]

theorem Hub.cnt_count_ne (s : Hub) {c d : Nat} (h : d ≠ c) (n : Nat) : (s.count c n).cnt d = s.cnt d := by
  unfold Hub.count Hub.cnt
  split
  · rfl
  · simp [Tab.getD, Tab.get?_put_ne h]

theorem CntV.add_ok (c : CntV) (n : Nat) (h : c.ok = true) : (c.add n).ok = true := by
  unfold CntV.ok at *
  simp only [Bool.and_eq_true, decide_eq_true_eq, Bool.or_eq_true, Bool.not_eq_true'] at h
  unfold CntV.add
  split
  · next hn =>
    simp only [Bool.and_eq_true, decide_eq_true_eq, Bool.or_eq_true, Bool.not_eq_true']
    refine ⟨hn, ?_⟩
    rcases h.2 with h2 | h2
    · exact Or.inl h2
    · exact Or.inr (by omega)
  · simp

/-! Line memory (R156). -/

theorem memPut_wf (a : Nat) (b : Byte) {m : List Host.Cell} (w : Memory.wf m = true) : Memory.wf (memPut a b m) = true := by
  unfold Memory.wf at *
  rw [Bool.and_eq_true] at *
  obtain ⟨w1, w2⟩ := w
  rw [List.all_eq_true] at *
  unfold memPut
  split
  · exact ⟨Tab.wf_del a w1, fun e m => w2 e (Tab.mem_del m)⟩
  · next hb =>
    split
    · next ha =>
      refine ⟨Tab.wf_put a b w1, fun e m => ?_⟩
      rcases Tab.mem_put m with rfl | m
      · simp [ha]; exact hb
      · exact w2 e m
    · exact ⟨w1, w2⟩

theorem memWrite_wf (a : Nat) (bs : List Byte) {m : List Host.Cell} (w : Memory.wf m = true) :
    Memory.wf (memWrite a bs m) = true := by
  induction bs generalizing a m with
  | nil => exact w
  | cons b t ih => exact ih (a + 1) (memPut_wf a b w)

theorem Memory.wf_delIf (p : Nat → Bool) {m : List Host.Cell} (w : Memory.wf m = true) : Memory.wf (Tab.delIf p m) = true := by
  unfold Memory.wf at *
  rw [Bool.and_eq_true] at *
  obtain ⟨w1, w2⟩ := w
  rw [List.all_eq_true] at *
  exact ⟨Tab.wf_delIf p w1, fun e m => w2 e (Tab.mem_delIf m)⟩

theorem Memory.wf_filter (q : Host.Cell → Bool) {m : List Host.Cell} (w : Memory.wf m = true) : Memory.wf (m.filter q) = true := by
  unfold Memory.wf at *
  rw [Bool.and_eq_true] at *
  obtain ⟨w1, w2⟩ := w
  rw [List.all_eq_true] at *
  exact ⟨Tab.wf_filter q w1, fun e m => w2 e (List.mem_filter.mp m).1⟩

/-! The named operations keep the form of the hub's data. -/

/-- A change of other parts of the hub keeps it. -/
theorem Hub.WF.of_eq {s t : Hub} (w : s.WF) (hm : t.lineMem = s.lineMem) (hr : t.regs = s.regs) (hc : t.cnts = s.cnts) : t.WF :=
  ⟨hm ▸ w.mem, hr ▸ w.regs, hc ▸ w.cnts, hc ▸ w.cntsOk⟩

theorem Hub.WF.setf {s : Hub} (w : s.WF) (f : Fl) (v : Nat) : (s.setf f v).WF := by
  refine ⟨by simpa using w.mem, ?_, by simpa using w.cnts, by simpa using w.cntsOk⟩
  unfold Hub.setf
  split
  · exact Tab.wf_del _ w.regs
  · exact Tab.wf_put _ _ w.regs

theorem Hub.WF.setb {s : Hub} (w : s.WF) (f : Fl) (b : Bool) : (s.setb f b).WF := w.setf f _

theorem Hub.WF.resetFields {s : Hub} (w : s.WF) (a b : Nat) : (s.resetFields a b).WF :=
  ⟨w.mem, Tab.wf_delIf _ w.regs, w.cnts, w.cntsOk⟩

theorem Hub.WF.advance {s : Hub} (w : s.WF) (t : Nat) : (s.advance t).WF := w.of_eq (by simp) (by simp) (by simp)

theorem Hub.WF.emit {s : Hub} (w : s.WF) (o : Out) : (s.emit o).WF := w.of_eq rfl rfl rfl

theorem Hub.cnt_ok {s : Hub} (w : s.WF) (c : Nat) : (s.cnt c).ok = true := by
  unfold Hub.cnt Tab.getD
  have h := List.all_eq_true.mp w.cntsOk
  generalize s.cnts = t at h
  induction t with
  | nil => rfl
  | cons e t ih =>
    obtain ⟨a, b⟩ := e
    by_cases h1 : c = a
    · simpa [Tab.get?, h1] using h (a, b) List.mem_cons_self
    · simpa [Tab.get?, h1] using ih (fun x m => h x (List.mem_cons_of_mem _ m))

theorem Hub.WF.count {s : Hub} (w : s.WF) (c n : Nat) : (s.count c n).WF := by
  unfold Hub.count
  split
  · exact w
  · refine ⟨w.mem, w.regs, Tab.wf_put _ _ w.cnts, List.all_eq_true.mpr fun e m => ?_⟩
    rcases Tab.mem_put m with rfl | m
    · exact CntV.add_ok _ _ (Hub.cnt_ok w c)
    · exact List.all_eq_true.mp w.cntsOk e m

theorem Hub.WF.clearCnt {s : Hub} (w : s.WF) (c : Nat) : (s.clearCnt c).WF :=
  ⟨w.mem, w.regs, Tab.wf_del c w.cnts, List.all_eq_true.mpr fun e m => List.all_eq_true.mp w.cntsOk e (Tab.mem_del m)⟩

theorem Hub.WF.memStore {s : Hub} (w : s.WF) (a : Nat) (bs : List Byte) : (s.memStore a bs).WF :=
  ⟨memWrite_wf a bs w.mem, w.regs, w.cnts, w.cntsOk⟩

theorem Hub.WF.post {s : Hub} (w : s.WF) (r : EvRec) : (s.post r).WF := by
  unfold Hub.post
  split
  · exact w.of_eq rfl rfl rfl
  · split
    · exact w.of_eq rfl rfl rfl
    · unfold Hub.dropEvent
      simp only []
      split
      · exact w.count _ _
      · exact ((w.count _ _).setf _ _).of_eq rfl rfl rfl

theorem Hub.WF.raise {s : Hub} (w : s.WF) (e : EvDef) (xs : List Nat) : (s.raise e xs).WF := w.post _

theorem Hub.WF.raiseSev {s : Hub} (w : s.WF) (e : EvDef) (v : Sev) (xs : List Nat) : (s.raiseSev e v xs).WF := w.post _

theorem Hub.WF.raiseLimited {s : Hub} (w : s.WF) (e : EvDef) (i : Nat) (xs : List Nat) : (s.raiseLimited e i xs).WF := by
  unfold Hub.raiseLimited
  simp only []
  split
  · exact (w.raise e xs).of_eq rfl rfl rfl
  · split
    · exact (w.raise e xs).of_eq rfl rfl rfl
    · exact w

end Sys2Proof.Machine
end

