-- ==== Sys2Proof/Laws/Pool.lean ====
section
/-! SUPPORT. A cell is found whenever the allocation rule grants one (R164). -/

namespace Sys2Proof.Machine

/-- A search that finds nothing looked at busy cells only, one after the other from `c` on, wrapping at `hi`. -/
theorem findFree_none {busy : Nat → Bool} {lo hi : Nat} : ∀ (n c : Nat), lo ≤ c → c < hi → findFree busy lo hi n c = none →
    ∀ i < n, busy (lo + (c - lo + i) % (hi - lo)) = true
  | 0, _, _, _, _ => fun i hi' => absurd hi' (Nat.not_lt_zero i)
  | n + 1, c, h1, h2, h => by
    unfold findFree at h
    have hb : busy c = true := by
      by_contra hc; simp [hc] at h
    rw [if_pos hb] at h
    intro i hin
    rcases i with _ | i
    · rw [Nat.add_zero, Nat.mod_eq_of_lt (by omega), Nat.add_sub_cancel' h1]; exact hb
    · by_cases hc : c + 1 < hi
      · rw [if_pos hc] at h
        have := findFree_none n (c + 1) (by omega) hc h i (by omega)
        rwa [show c + 1 - lo + i = c - lo + (i + 1) by omega] at this
      · rw [if_neg hc] at h
        have := findFree_none n lo (Nat.le_refl _) (by omega) h i (by omega)
        rwa [show c - lo + (i + 1) = (lo - lo + i) + (hi - lo) by omega, Nat.add_mod_right]

/-- The withheld cells between two bounds are at most what the regions give. -/
theorem Hub.card_withheld (s : Hub) (lo hi : Nat) : ((Finset.Ico lo hi).filter (fun c => s.isWithheld c = true)).card ≤ s.withheldIn lo hi := by
  have key : ∀ (l : List (Nat × Nat)) (n : Nat),
      n + ((Finset.Ico lo hi).filter (fun c => l.any (fun r => decide (r.1 ≤ c) && decide (c < r.2)) = true)).card ≤
        l.foldl (fun n r => n + (min hi r.2 - max lo r.1)) n := by
    intro l
    induction l with
    | nil => intro n; simp
    | cons r l ih =>
      intro n
      refine Nat.le_trans ?_ (ih (n + (min hi r.2 - max lo r.1)))
      have hsub : (Finset.Ico lo hi).filter (fun c => (r :: l).any (fun r => decide (r.1 ≤ c) && decide (c < r.2)) = true) ⊆
          Finset.Ico (max lo r.1) (min hi r.2) ∪
            (Finset.Ico lo hi).filter (fun c => l.any (fun r => decide (r.1 ≤ c) && decide (c < r.2)) = true) := by
        intro c hc
        simp only [Finset.mem_filter, Finset.mem_Ico, List.any_cons, Bool.or_eq_true, Bool.and_eq_true, decide_eq_true_eq,
          Finset.mem_union] at hc ⊢
        obtain ⟨h1, h2 | h2⟩ := hc
        · left; omega
        · right; exact ⟨h1, h2⟩
      have := (Finset.card_le_card hsub).trans (Finset.card_union_le _ _)
      rw [Nat.card_Ico] at this
      omega
  have h := key s.pool.withheld 0
  rw [Nat.zero_add] at h
  exact h

/-- A search over a range of which some cell is neither held nor withheld finds one. -/
theorem Hub.findFree_isSome (s : Hub) {lo hi c : Nat} (h1 : lo ≤ c) (h2 : c < hi)
    (h : s.heldIn lo hi + s.withheldIn lo hi < hi - lo) :
    (findFree (fun c => s.heldIdx.contains c || s.isWithheld c) lo hi (s.heldIdx.length + s.withheldIn lo hi + 1) c).isSome = true := by
  by_contra hn
  have hb := findFree_none _ c h1 h2 (by simpa using hn)
  set n := min (s.heldIdx.length + s.withheldIn lo hi + 1) (hi - lo) with hn'
  let f : Nat → Nat := fun i => lo + (c - lo + i) % (hi - lo)
  have hR : 0 < hi - lo := by omega
  have himg : (Finset.range n).image f ⊆ (s.heldIdx.filter (fun c => decide (lo ≤ c) && decide (c < hi) && !s.isWithheld c)).toFinset ∪
      (Finset.Ico lo hi).filter (fun c => s.isWithheld c = true) := by
    intro x hx
    obtain ⟨i, hi', rfl⟩ := Finset.mem_image.mp hx
    have hbi := hb i (by have := Finset.mem_range.mp hi'; omega)
    have hlt : (c - lo + i) % (hi - lo) < hi - lo := Nat.mod_lt _ hR
    simp only [Bool.or_eq_true] at hbi
    simp only [f, Finset.mem_union, List.mem_toFinset, List.mem_filter, Finset.mem_filter, Finset.mem_Ico, Bool.and_eq_true,
      decide_eq_true_eq, Bool.not_eq_true']
    cases hw : s.isWithheld (lo + (c - lo + i) % (hi - lo)) with
    | true => right; exact ⟨by omega, rfl⟩
    | false => left; exact ⟨by simpa [hw] using hbi, ⟨by omega, by omega⟩, rfl⟩
  have hinj : ((Finset.range n).image f).card = n := by
    rw [Finset.card_image_of_injOn, Finset.card_range]
    intro i hi' j hj hij
    have hi2 : i < hi - lo := by have := Finset.mem_range.mp (Finset.mem_coe.mp hi'); omega
    have hj2 : j < hi - lo := by have := Finset.mem_range.mp (Finset.mem_coe.mp hj); omega
    have hm : (c - lo + i) % (hi - lo) = (c - lo + j) % (hi - lo) := by simpa [f] using hij
    have := Nat.ModEq.add_left_cancel' (c - lo) hm
    rwa [Nat.ModEq, Nat.mod_eq_of_lt hi2, Nat.mod_eq_of_lt hj2] at this
  have hc := (Finset.card_le_card himg).trans (Finset.card_union_le _ _)
  rw [hinj] at hc
  have hf := List.toFinset_card_le (s.heldIdx.filter (fun c => decide (lo ≤ c) && decide (c < hi) && !s.isWithheld c))
  have hl : (s.heldIdx.filter (fun c => decide (lo ≤ c) && decide (c < hi) && !s.isWithheld c)).length ≤ s.heldIdx.length :=
    List.length_filter_le _ _
  have hw := s.card_withheld lo hi
  unfold Hub.heldIn at h
  omega

/-- A GENERAL queue finds a cell when one is free (R164). -/
theorem Hub.takeCell_isSome {s : Hub} {q : Nat} (hq : qMgmt q = false) (h : 1 ≤ s.genFree) : (s.takeCell q).isSome = true := by
  have hp : s.partitionOf q = (s.pool.carveEff, mgmtBase) := by simp [Hub.partitionOf, hq]
  unfold Hub.genFree Hub.genSize at h
  unfold Hub.takeCell
  rw [hp]
  have hR : 0 < mgmtBase - s.pool.carveEff := by omega
  have hm := Nat.mod_lt (s.free freeTagCell).1 hR
  have := s.findFree_isSome (lo := s.pool.carveEff) (hi := mgmtBase)
    (c := s.pool.carveEff + (s.free freeTagCell).1 % (mgmtBase - s.pool.carveEff)) (by omega) (by omega) (by omega)
  simpa using this

/-- The allocation rule grants a GENERAL queue's cell under these conditions (R164), and then a cell is free. -/
theorem Hub.MayGrant.grants {s : Hub} {q : Nat} (hq : qMgmt q = false) (h : s.MayGrant q) :
    s.allocate q = .granted ∧ 1 ≤ s.genFree := by
  obtain ⟨hb, hc⟩ := h
  unfold Hub.allocate
  simp only [hq, Bool.false_eq_true, if_false, Nat.not_le.mpr hb]
  rcases hc with hc | hc
  · exact ⟨by simp [hc], hc.2⟩
  · refine ⟨by simp [hc], ?_⟩
    unfold Hub.genShared at hc
    omega

end Sys2Proof.Machine
end

