-- ==== Sys2Proof/Tests/Slice0.lean ====
section
/-! SUPPORT. Tests: ill-formed commands are refused by the well-formedness check; the spec's worked examples; and, for every
statement that has hypotheses, a state and operands that meet them (`witness_<statement>`, one member per clause). -/

namespace Sys2Proof.Tests

open Sys2Proof Sys2Proof.Machine

set_option linter.unusedVariables false

-- One theorem at a time: the proofs are kernel evaluations, and each needs the memory of its own.
set_option Elab.async false

def hub (fs : List (Fl × Nat)) (h : Hub := {}) : Hub := fs.foldl (fun t e => t.setf e.1 e.2) h
def one (i n : Nat) : List QCell := [{ idx := i, lenm1 := n - 1, f := true, l := true, gap := false, poison := false, colour := 0 }]
def tun (kind bind inq outq : Nat) : Tun := { kind := kind, dir := 0, hops := 2, first := 0, last := 0, inq := some inq, outq := some outq, shaper := none, policer := none, bind := bind }
def desc (op : Nat) (qt len addr param : Nat) (flags : Nat := 0) : Desc := { op := op, flags := flags, qt := qt, len := len, addr := addr, param := param, cookie := 77 }
def job (d : Desc) : Job := { idx := 0, d := d, t0 := 0 }
def jobs (r : Nat) (js : List Job) : Hif := { rings := [(r, { jobs := js, count := js.length, taken := js.length })] }
def put (a : Nat) (bs : List Byte) (h : Hub) : Hub := h.memStore a bs
def msg (q type src dst id : Nat) (body : List Byte) (h : Hub) (tn : Nat := 2) (port : Nat := 1) : Hub :=
  let pay := beBytes 2 dst ++ beBytes 1 type ++ zeros 9 ++ beBytes 2 id ++ beBytes 2 body.length ++ padTo 232 body ++ zeros 8
  { put (256 * 9) pay h with
    pool := { h.pool with queues := Tab.put q { pkts := [one 9 256] } h.pool.queues },
    ring := { h.ring with hdrs := [(9, ⟨mkHdr tn 0 src 255 true true false false 0 6 255, port, h.tick⟩)] } }
def msgAt (o : Option Msg) : Msg := o.getD ⟨0, 0, 0, 0, [], 0, 0, 0⟩
def image (epoch addr last : Nat) : List Byte :=
  let b := leBytes 4 0x09605EC7 ++ leBytes 2 1 ++ zeros 2 ++ leBytes 4 epoch ++ leBytes 2 addr ++ leBytes 2 last ++ zeros 2 ++ leBytes 2 1
    ++ leBytes 4 92 ++ zeros 40 ++ leBytes 2 1 ++ leBytes 2 16 ++ leBytes 4 16
    ++ (List.range 16).map (fun i => BitVec.ofNat 8 (if fixedPair (i % 8) then r44Dir (i / 8) (i % 8) else 1))
  b ++ leBytes 4 (crc32c b)
def anyRec : EvRec := { code := 1, hub := 0, sev := .fatal, tick := 0, args := 0 }

/-! Ill-formed commands (R65, R75, R89, R217, R226, R237, R327, R366 and the operands of the table). -/

/-- A register access is of 4 or 8 bytes on a 4-byte boundary (R217). -/
theorem test_wf_register : (Instr.registerWrite 0x20000 4 (some 1)).wf = true ∧ (Instr.registerWrite 0x20002 4 (some 1)).wf = false ∧
    (Instr.registerWrite 0x20000 2 (some 1)).wf = false := by decide +kernel

/-- A HELLO, an ACK and a sync frame have 64 bytes, a cell 288 (R65, R75, R89). -/
theorem test_wf_line_frames : (Instr.helloReceive 0 (zeros 63)).wf = false ∧ (Instr.ackReceive 1 (zeros 65)).wf = false ∧
    (Instr.syncFrameReceive 0 (some (zeros 63)) 0).wf = false ∧ (Instr.mgmtCellReceive 0 (zeros 287)).wf = false := by decide +kernel

/-- A tick has 1,000 slots (R45). -/
theorem test_wf_slots : (Instr.slotReceive 0 0 1000 (zeros 288)).wf = false ∧ (Instr.slotReceive 0 0 999 (zeros 287)).wf = false ∧
    (Instr.switchSlot 1 7 1000).wf = false ∧ (Instr.switchSlot 1 7 999).wf = true := by decide +kernel

/-- A configuration-pin voltage, the fraction of a nanosecond and a cable record keep within their widths. -/
theorem test_wf_widths : (Instr.cfgPinSample 0 65536 0).wf = false ∧ (Instr.cfgPinSample 0 0 65536).wf = false ∧
    (Instr.lineTimeRead 0 65536).wf = false ∧ (Instr.cableIdRead 0 (zeros 33) []).wf = false ∧
    (Instr.cableIdRead 0 [] (zeros 33)).wf = false := by decide +kernel

/-- A descriptor is 32 bytes, and at most 16 are fetched at once (R226, R227). -/
theorem test_wf_descriptors : (Instr.descriptorFetch 0 (some (zeros 31))).wf = false ∧
    (Instr.descriptorFetch 0 (some (zeros 544))).wf = false ∧ (Instr.descriptorFetch 0 (some (zeros 512))).wf = true := by decide +kernel

/-- Ethernet frames, EDID blocks, zone bursts and an SSD's accesses have their least or greatest lengths. -/
theorem test_wf_lengths : (Instr.ethFrameReceive 0 (zeros 3) 0).wf = false ∧ (Instr.ptpMessageSend 0 (zeros 13) 0).wf = false ∧
    (Instr.dspHpdRise 0 (zeros 17) []).wf = false ∧ (Instr.dspHpdRise 0 [] (zeros 127)).wf = false ∧
    (Instr.zoneBusCycle (List.replicate 65 0)).wf = false ∧ (Instr.zrdyTimeout (List.replicate 65 0)).wf = false ∧
    (Instr.ssdInboundAccess 0 (2 ^ 64) false 4 []).wf = false ∧ (Instr.ssdInboundAccess 0 0 false 4097 []).wf = false ∧
    (Instr.ssdInboundAccess 0 0 true 4 (zeros 4097)).wf = false := by decide +kernel

/-- A CAN identifier is of 11 or 29 bits, and a frame of at most 64 bytes (R327). -/
theorem test_wf_can : (Instr.canFrameReceive 0 ⟨false, false, false, false, false, 2048, 8, []⟩ 0).wf = false ∧
    (Instr.canFrameReceive 0 ⟨true, true, false, false, false, 2048, 15, zeros 64⟩ 0).wf = true ∧
    (Instr.canFrameReceive 0 ⟨true, true, false, false, false, 2 ^ 29, 15, []⟩ 0).wf = false ∧
    (Instr.canFrameReceive 0 ⟨true, true, false, false, false, 5, 16, []⟩ 0).wf = false ∧
    (Instr.canFrameReceive 0 ⟨true, true, false, false, false, 5, 15, zeros 65⟩ 0).wf = false := by decide +kernel

/-- The line gadget's transfers have their lengths (R366, R368). -/
theorem test_wf_gadget : (Instr.gadgetCommand (.out (zeros 31))).wf = false ∧ (Instr.gadgetFilterSet (.out (zeros 7))).wf = false ∧
    (Instr.setProof (zeros 19)).wf = false ∧ (Instr.execCmd (zeros 31)).wf = false ∧ (Instr.execCmd (zeros 257)).wf = false := by decide +kernel

/-! The block's queue. -/

/-- An empty queue idles; a word spells no command, and leaves the queue as it is. -/
theorem test_idle : step State.reset = .next State.reset ∧ decodeTableWord 8 0 = none ∧
    State.reset.withFetchWord 8 0 = State.reset := ⟨rfl, rfl, rfl⟩

/-! The spec's worked examples. -/

/-- R242's worked read: the upper word of the completion of a REG_READ of LTM_STATUS at node 112 over ring 2. -/
theorem test_completion_word : (({ ring := 2, hub := 112, result := 0x00E10112 } : Compl).word 1) = 0x03008E0000E10112 := by decide +kernel

/-- R508's worked record: PLN_LOAD_FAIL of node 37 for epoch 9, reason 9, record 2, index 0x04D2. -/
theorem test_event_record : (({ code := Evt.PLN_LOAD_FAIL.code, hub := 37, sev := Evt.PLN_LOAD_FAIL.sev, tick := 640120, args := 0x04D2020900000009 } : EvRec).image 1)
    = [0x78, 0xC4, 0x09, 0, 0xB1, 0x12, 0x02, 0x02, 9, 0, 0, 0, 9, 2, 0xD2, 0x04] := by decide +kernel

/-- R424's worked masks. -/
theorem test_syndromes : eccSyndrome 3 = 0x0C ∧ eccDecode 0x0C = .uncorrectable ∧ eccSyndrome 1 = 0x07 ∧ eccDecode 0x07 = .corrected := by
  decide +kernel

/-- R433's worked advice: the pair D.TP4 with row 3, MH 15 and MV 28. -/
theorem test_advice : leBytes 8 ((hub [(Fld.TRK_PAIR_STATUS_ROW 12, 3), (Fld.REL_MARGIN_MH 12, 15), (Fld.REL_MARGIN_MV 12, 28)]).adviceArg 1 0x14)
    = [0x01, 0x14, 0x01, 0x03, 0x0F, 0x00, 0x1C, 0x00] := by decide +kernel

/-- R335's worked signal: 1,500 tenths of a turn a minute received in tick 642,900 become 392 mm/s in the pass of the next tick. -/
theorem test_signal_slot :
    ((({ st := { now := 62500 * 642901 } } : MapPass).try' { kind := 3, sel := 0x47, frame := [0x05, 0xDC], time := 62500 * 642900 + 7 } 40
        [0xB6077847, 0x2183F000, 0, 0x2B800701]).outs.map (fun o => (o.tunnel, slotBytes o)))
      = [(0x2B8, [0x07, 0x01, 0, 0, 0x01, 0x88, 0x80, 0x01])] := by decide +kernel

/-- R124's worked run: node 1's pass of tunnel 0x100 from D.TP3 in slots 704 to 999 on even ticks. -/
theorem test_run_word : rValid 0x8B100B0128000001 = true ∧ rPlan 0x8B100B0128000001 = false ∧ rAction 0x8B100B0128000001 = 0 ∧
    rPort 0x8B100B0128000001 = 1 ∧ rPair 0x8B100B0128000001 = 3 ∧ rTunnel 0x8B100B0128000001 = 0x100 ∧ rStart 0x8B100B0128000001 = 704 ∧
    rLen 0x8B100B0128000001 = 296 ∧ rMask 0x8B100B0128000001 = 1 := by decide +kernel

/-- R107's slots in a ring of three hubs: nodes 1 and 2, and the head's D.TP0, U.TP0, U.TP7 and D.TP7. -/
theorem test_alarm_slots : alarmSlots false 1 2 0 1 = [4] ∧ alarmSlots false 1 2 7 0 = [24] ∧ alarmSlots false 2 2 0 1 = [8] ∧
    alarmSlots false 2 2 7 0 = [20] ∧ alarmSlots true 0 2 0 1 = [0, 12] ∧ alarmSlots true 0 2 7 0 = [16, 28] := by decide +kernel

/-- R40's example: a flipped D port carries D.TP4 on ball pair 3 and D.TP7 on ball pair 0. -/
theorem test_flipped_pairs : (hub [(Fld.TRK_PORT_STATUS_FLIPPED 1, 1)]).ballOf 1 4 = 3 ∧ (hub [(Fld.TRK_PORT_STATUS_FLIPPED 1, 1)]).ballOf 1 7 = 0 := by decide +kernel

/-- R295's example: the RGB565 word 0xF81F. -/
theorem test_pixel : rgbOf 0 0xF81F = [255, 0, 255] := by decide +kernel

/-! One witness per statement. -/

theorem witness_QueuesStoreAndLosePackets :
    (∃ (s : State) (q : Fin 8192) (w : Who) (c : PCell), (20 ≤ q.val) ∧ (s.hub.qEnabled q = true) ∧ ((s.hub.queue q).prod = some w) ∧ ((s.hub.queue q).isOpen = false) ∧ ((s.hub.queue q).part = []) ∧ ((if s.hub.qControl q then (s.hub.queue q).full = false else (s.hub.queue q).gap.cause = 0)) ∧ (c.f = true) ∧ (c.l = true) ∧ (c.gap = false) ∧ (s.hub.MayGrant q)) ∧
    (∃ (s : State) (q : Fin 8192), (s.hub.qEnabled q = false)) ∧
    (∃ (s : State) (q : Fin 8192), (8 ≤ q.val) ∧ (s.hub.qEnabled q = true) ∧ (s.hub.qControl q = false) ∧ ((s.hub.queue q).gap.cause ≠ 0) ∧ (s.hub.MayGrant q)) ∧
    (∃ (s : State) (q : Fin 8192) (p : List QCell), (s.hub.headPkt q = some p) ∧ (s.hub.linkBad p = false)) ∧
    (∃ (s : State) (k : Claim), (s.hub.pool.claim = some k) ∧ (k.deadline ≤ s.hub.tick) ∧ (s.hub.pool.queues.any (fun e => e.2.cells.any (fun x => decide (k.lo ≤ x.idx) && decide (x.idx < k.hi))) = true)) ∧
    (∃ (s : State) (v : Word), let q := s.hub.getf Fld.CPL_QSEL_QUEUE; (bit v.toNat 0 = true) ∧ (8 ≤ q)) := ⟨⟨{ hub := hub [(Fld.CPL_QCFG_EN 20, 1), (Fld.CPL_QPROF_MAX_MAX 0, 4)] { pool := { queues := [(20, { prod := some .eth })] } } }, 20, .eth, { data := [1, 2, 3] }, by and_intros <;> first | decide +kernel | exact ⟨by decide +kernel, by decide +kernel⟩⟩,
    ⟨{ hub := {} }, 8191, by decide +kernel⟩,
    ⟨{ hub := hub [(Fld.CPL_QCFG_EN 8191, 1), (Fld.CPL_QPROF_MAX_MAX 0, 4)] { pool := { queues := [(8191, { gap := { pkts := 1, cells := 2, cause := 1 } })] } } }, 8191, by decide +kernel, by decide +kernel, by decide +kernel, by decide +kernel, ⟨by decide +kernel, by decide +kernel⟩⟩,
    ⟨{ hub := hub [(Fld.CPL_QCFG_EN 20, 1)] { lineMem := [(256, 7)], pool := { queues := [(20, { pkts := [[{ idx := 1, lenm1 := 0, f := true, l := true, gap := false, poison := false, colour := 0 }]], full := true })] } } }, 20, one 1 1, by decide +kernel⟩,
    ⟨{ hub := { now := 62500 * 1025, pool := { claim := some { lo := 0, hi := 256, start := 1, deadline := 1025 }, queues := [(20, { pkts := [[{ idx := 255, lenm1 := 0, f := true, l := true, gap := false, poison := false, colour := 0 }]] })] } } }, { lo := 0, hi := 256, start := 1, deadline := 1025 }, by decide +kernel⟩,
    ⟨{ hub := hub [(Fld.CPL_QSEL_QUEUE, 8)] { pool := { queues := [(8, { pkts := [[{ idx := 258048, lenm1 := 0, f := true, l := true, gap := false, poison := false, colour := 0 }]] })] } } }, 1, by decide +kernel, by decide +kernel⟩⟩

theorem witness_PoolRegistersConfigureQueuesAndReadPorts :
    (∃ (s : State) (q : Fin 8192) (v : Word), (20 ≤ q.val) ∧ (s.hub.qEnabled q = false) ∧ (bit v.toNat 31 = true) ∧ (poolCondition s.hub.pool.carve s.hub.pendCarve (s.hub.minSum + s.hub.profMin (bits v.toNat 23 16)) = true)) ∧
    (∃ (s : State) (q : Fin 8192) (v : Word), (20 ≤ q.val) ∧ (s.hub.qEnabled q = true) ∧ (bit v.toNat 31 = false)) ∧
    (∃ (s : State) (i : Fin 256) (v : Word), let mn := Tab.getD s.hub.pool.heldMin i (s.hub.profMin i); (mn ≤ bits v.toNat 17 0) ∧ (1 ≤ bits v.toNat 17 0) ∧ (bits v.toNat 17 0 ≤ 258048) ∧ (poolCondition s.hub.pool.carve s.hub.pendCarve (s.hub.minSumWith i mn) = true)) ∧
    (∃ (s : State) (p : Fin 16) (v : Word), let q := bits v.toNat 12 0; (((s.hub.portRelease p).setf (Fld.CPL_QRP_SEL_QUEUE p) q).portRefused q = false)) ∧
    (∃ (s : State) (p : Fin 16), ((s.hub.readPort p).queue = none)) := ⟨⟨{ hub := {} }, 20, 0xC0050000, by decide +kernel⟩,
    ⟨{ hub := hub [(Fld.CPL_QCFG_EN 8191, 1)] { pool := { queues := [(8191, { pkts := [[{ idx := 5, lenm1 := 0, f := true, l := true, gap := false, poison := false, colour := 0 }]] })] } } }, 8191, 0, by decide +kernel⟩,
    ⟨{ hub := { pool := { heldMin := [(255, 12)] } } }, 255, 258048, by decide +kernel, by decide +kernel⟩,
    ⟨{ hub := hub [(Fld.CPL_QCFG_EN 20, 1)] }, 15, 20, by decide +kernel⟩,
    ⟨{ hub := {} }, 0, by decide +kernel⟩⟩

theorem witness_PowerChannelStateChanges :
    (∃ (s : State), (s.hub.rel.acts = [])) ∧
    (∃ (s : State) (c : Fin 8), (s.hub.rel.acts = []) ∧ (s.hub.chState c = chQualify) ∧ (s.hub.qualified c = true)) ∧
    (∃ (s : State) (c : Fin 8), (s.hub.rel.acts = []) ∧ (s.hub.chState c = chRamp) ∧ (s.hub.srcV c - s.hub.farV c ≤ 2000)) ∧
    (∃ (s : State) (c : Fin 8) (i : Int), (s.hub.rel.acts = []) ∧ (s.hub.chState c = chOn) ∧ (((s.hub.chMode c = mdFeed ∧ i < -s.hub.chIrev c) ∨ (s.hub.chMode c = mdTake ∧ s.hub.chIrev c < i)))) ∧
    (∃ (s : State) (c : Fin 8), (s.hub.rel.acts = []) ∧ (s.hub.chState c = chBlocked) ∧ (1000 ≤ (s.hub.chan c).fwdT)) ∧
    (∃ (s : State) (c : Fin 8), (s.hub.rel.acts = []) ∧ ((s.hub.chState c = chOn ∨ s.hub.chState c = chBlocked)) ∧ ((s.hub.chMode c = mdFeed ∨ s.hub.chMode c = mdPass)) ∧ (1000 ≤ (s.hub.chan c).deadT)) ∧
    (∃ (s : State) (c : Fin 8), (s.hub.rel.acts = []) ∧ (s.hub.chState c = chCooldown) ∧ ((s.hub.chan c).coolLeft = 0)) ∧
    (∃ (s : State) (c : Fin 8), (((s.hub.chState c = chOn ∧ 60000000 ≤ (s.hub.chan c).onT) ∨ (c.val < 7 ∧ s.hub.getf (Fld.LPW_CH_RAMP_TDETACH c) * 10000 ≤ (s.hub.chan c).awayT)))) ∧
    (∃ (s : State), (s.hub.rel.acts = [])) ∧
    (∃ (s : State) (c : Fin 8) (v : Word), (gntOrder ((List.range 8).filterMap (fun k =>
      let i := if k = 0 then bits v.toNat 15 0 else s.hub.gntHeld c k 0 % 2 ^ 16
      if i = 0 then none else some (i, s.hub.gntHeld c k 1))) = true)) := ⟨⟨{ hub := hub [(Fld.LPW_CH_STATUS_STATE 0, 3)] }, by decide +kernel⟩,
    ⟨{ hub := hub [(Fld.LPW_CH_STATUS_STATE 6, 1), (Fld.LPW_CH_STATUS_OUTER_LIVE 6, 1)] { lpw := { chans := [(6, { outerT := 200000 })] } } }, 6, by decide +kernel⟩,
    ⟨{ hub := hub [(Fld.LPW_CH_STATUS_STATE 6, 2)] { lpw := { chans := [(6, { vo := 48000, vi := 46000 })] } } }, 6, by decide +kernel⟩,
    ⟨{ hub := hub [(Fld.LPW_CH_STATUS_STATE 6, 3)] }, 6, 501, by decide +kernel⟩,
    ⟨{ hub := hub [(Fld.LPW_CH_STATUS_STATE 7, 4)] { lpw := { chans := [(7, { fwdT := 1000 })] } } }, 7, by decide +kernel⟩,
    ⟨{ hub := hub [(Fld.LPW_CH_STATUS_STATE 0, 4)] { lpw := { chans := [(0, { deadT := 1000 })] } } }, 0, by decide +kernel⟩,
    ⟨{ hub := hub [(Fld.LPW_CH_STATUS_STATE 6, 5)] }, 6, by decide +kernel⟩,
    ⟨{ hub := hub [(Fld.LPW_CH_STATUS_TRIPS 6, 15)] { lpw := { chans := [(6, { awayT := 2000000 })] } } }, 6, by decide +kernel⟩,
    ⟨{ hub := hub [(Fld.LPW_CH_STATUS_STATE 7, 6), (Fld.LPW_CH_STATUS_TRIPS 7, 4)] }, by decide +kernel⟩,
    ⟨{ hub := { lpw := { chans := [(7, { heldGnt := [(1, 500)] })] } } }, 7, 400, by decide +kernel⟩⟩

theorem witness_PowerChannelTrips :
    (∃ (s : State) (c : Fin 8), let tripped (c fault : Nat) (s : State) (h : Hub) : Prop := h.getf (Fld.LPW_CH_STATUS_FAULT c) = fault ∧ h.getf (Fld.LPW_CH_STATUS_TRIPS c) = min 15 (s.hub.getf (Fld.LPW_CH_STATUS_TRIPS c) + 1) ∧ h.chState c = (if s.hub.flag (Fld.LPW_CH_CFG_LATCH c) then chLatched else chCooldown) ∧ h.getf (Fld.LPW_CH_STATUS_REGULATING c) = 0 ∧ Counted s.hub h (Cnt.LPW_CNT_TRIP c) 1; (s.hub.rel.acts = []) ∧ ((dropChan c = true → s.hub.tcState (c - 2) ≠ tcAttached)) ∧ (s.hub.chState c = chRamp) ∧ ((s.hub.getf (Fld.LPW_CH_TINS_TSTART c) * 100 ≤ (s.hub.chan c).startT ∨ 200000 ≤ (s.hub.chan c).rampT))) ∧
    (∃ (s : State) (c : Fin 8) (t : Nat), let tripped (c fault : Nat) (s : State) (h : Hub) : Prop := h.getf (Fld.LPW_CH_STATUS_FAULT c) = fault ∧ h.getf (Fld.LPW_CH_STATUS_TRIPS c) = min 15 (s.hub.getf (Fld.LPW_CH_STATUS_TRIPS c) + 1) ∧ h.chState c = (if s.hub.flag (Fld.LPW_CH_CFG_LATCH c) then chLatched else chCooldown) ∧ h.getf (Fld.LPW_CH_STATUS_REGULATING c) = 0 ∧ Counted s.hub h (Cnt.LPW_CNT_TRIP c) 1; (s.hub.rel.acts = []) ∧ ((dropChan c = true → s.hub.tcState (c - 2) ≠ tcAttached)) ∧ ((s.hub.chan c).limT = some t) ∧ (1000 ≤ t) ∧ (s.hub.chState c = chRamp) ∧ (s.hub.flag (Fld.LPW_CH_STATUS_REGULATING c) = true) ∧ ((s.hub.farV c - (s.hub.chan c).farAtLim) * 10 < s.hub.srcV c)) ∧
    (∃ (s : State) (c : Fin 8), let tripped (c fault : Nat) (s : State) (h : Hub) : Prop := h.getf (Fld.LPW_CH_STATUS_FAULT c) = fault ∧ h.getf (Fld.LPW_CH_STATUS_TRIPS c) = min 15 (s.hub.getf (Fld.LPW_CH_STATUS_TRIPS c) + 1) ∧ h.chState c = (if s.hub.flag (Fld.LPW_CH_CFG_LATCH c) then chLatched else chCooldown) ∧ h.getf (Fld.LPW_CH_STATUS_REGULATING c) = 0 ∧ Counted s.hub h (Cnt.LPW_CNT_TRIP c) 1; (s.hub.rel.acts = []) ∧ ((dropChan c = true → s.hub.tcState (c - 2) ≠ tcAttached)) ∧ (s.hub.chState c = chOn) ∧ (s.hub.getf (Fld.LPW_CH_TFLT_TFLT c) * 10 ≤ (s.hub.chan c).faultT)) ∧
    (∃ (s : State) (c : Fin 8) (k : Fin 8), let tripped (c fault : Nat) (s : State) (h : Hub) : Prop := h.getf (Fld.LPW_CH_STATUS_FAULT c) = fault ∧ h.getf (Fld.LPW_CH_STATUS_TRIPS c) = min 15 (s.hub.getf (Fld.LPW_CH_STATUS_TRIPS c) + 1) ∧ h.chState c = (if s.hub.flag (Fld.LPW_CH_CFG_LATCH c) then chLatched else chCooldown) ∧ h.getf (Fld.LPW_CH_STATUS_REGULATING c) = 0 ∧ Counted s.hub h (Cnt.LPW_CNT_TRIP c) 1; (s.hub.rel.acts = []) ∧ ((dropChan c = true → s.hub.tcState (c - 2) ≠ tcAttached)) ∧ (s.hub.chState c = chOn) ∧ ((s.hub.gntPoint c k).1 ≠ 0) ∧ ((s.hub.gntPoint c k).2 ≤ (s.hub.chan c).gntT.getD k 0)) ∧
    (∃ (s : State) (c : Fin 8) (i : Int), let tripped (c fault : Nat) (s : State) (h : Hub) : Prop := h.getf (Fld.LPW_CH_STATUS_FAULT c) = fault ∧ h.getf (Fld.LPW_CH_STATUS_TRIPS c) = min 15 (s.hub.getf (Fld.LPW_CH_STATUS_TRIPS c) + 1) ∧ h.chState c = (if s.hub.flag (Fld.LPW_CH_CFG_LATCH c) then chLatched else chCooldown) ∧ h.getf (Fld.LPW_CH_STATUS_REGULATING c) = 0 ∧ Counted s.hub h (Cnt.LPW_CNT_TRIP c) 1; (s.hub.rel.acts = []) ∧ ((dropChan c = true → s.hub.tcState (c - 2) ≠ tcAttached)) ∧ ((s.hub.chState c = chRamp ∨ s.hub.chState c = chOn)) ∧ (2 * s.hub.chIlim c ≤ i.natAbs)) ∧
    (∃ (s : State) (c : Fin 8), let tripped (c fault : Nat) (s : State) (h : Hub) : Prop := h.getf (Fld.LPW_CH_STATUS_FAULT c) = fault ∧ h.getf (Fld.LPW_CH_STATUS_TRIPS c) = min 15 (s.hub.getf (Fld.LPW_CH_STATUS_TRIPS c) + 1) ∧ h.chState c = (if s.hub.flag (Fld.LPW_CH_CFG_LATCH c) then chLatched else chCooldown) ∧ h.getf (Fld.LPW_CH_STATUS_REGULATING c) = 0 ∧ Counted s.hub h (Cnt.LPW_CNT_TRIP c) 1; (s.hub.rel.acts = []) ∧ ((dropChan c = true → s.hub.tcState (c - 2) ≠ tcAttached)) ∧ (s.hub.chState c = chOn) ∧ (((s.hub.getf (Fld.LPW_CH_FET1_TMAX c) * 10 : Nat) : Int) ≤ s.hub.fetTemp c)) ∧
    (∃ (s : State) (c : Fin 8), let tripped (c fault : Nat) (s : State) (h : Hub) : Prop := h.getf (Fld.LPW_CH_STATUS_FAULT c) = fault ∧ h.getf (Fld.LPW_CH_STATUS_TRIPS c) = min 15 (s.hub.getf (Fld.LPW_CH_STATUS_TRIPS c) + 1) ∧ h.chState c = (if s.hub.flag (Fld.LPW_CH_CFG_LATCH c) then chLatched else chCooldown) ∧ h.getf (Fld.LPW_CH_STATUS_REGULATING c) = 0 ∧ Counted s.hub h (Cnt.LPW_CNT_TRIP c) 1; (s.hub.rel.acts = []) ∧ ((dropChan c = true → s.hub.tcState (c - 2) ≠ tcAttached)) ∧ (s.hub.chState c = chOn) ∧ (10 ≤ (s.hub.chan c).ovT)) := ⟨⟨{ hub := hub [(Fld.LPW_CH_STATUS_STATE 6, 2)] { lpw := { chans := [(6, { startT := 20000 })] } } }, 6, by decide +kernel, by decide +kernel⟩,
    ⟨{ hub := hub [(Fld.LPW_CH_STATUS_STATE 7, 2), (Fld.LPW_CH_CFG_LATCH 7, 1), (Fld.LPW_CH_STATUS_REGULATING 7, 1)] { lpw := { chans := [(7, { limT := some 1000, vi := 24000, vo := 2399 })] } } }, 7, 1000, by decide +kernel, by decide +kernel⟩,
    ⟨{ hub := hub [(Fld.LPW_CH_STATUS_STATE 0, 3)] { lpw := { chans := [(0, { faultT := 2000 })] } } }, 0, by decide +kernel, by decide +kernel⟩,
    ⟨{ hub := hub [(Fld.LPW_CH_STATUS_STATE 2, 3), (Fld.LPW_GNT_I_IK 2 7, 100)] { lpw := { chans := [(2, { gntT := [0, 0, 0, 0, 0, 0, 0, 1] })] } } }, 2, 7, by decide +kernel, by decide +kernel⟩,
    ⟨{ hub := hub [(Fld.LPW_CH_STATUS_STATE 0, 3)] }, 0, -16000, by decide +kernel, by decide +kernel⟩,
    ⟨{ hub := hub [(Fld.LPW_CH_STATUS_STATE 6, 3)] { lpw := { chans := [(6, { temp := 1500000000000 })] } } }, 6, by decide +kernel, by decide +kernel⟩,
    ⟨{ hub := hub [(Fld.LPW_CH_STATUS_STATE 6, 3)] { lpw := { chans := [(6, { ovT := 10 })] } } }, 6, by decide +kernel, by decide +kernel⟩⟩

theorem witness_DropPortAttachAndVbus :
    (∃ (s : State), (s.hub.rel.acts = [])) ∧
    (∃ (s : State) (n : Fin 4), (s.hub.rel.acts = []) ∧ (s.hub.tcState n = tcWait) ∧ (s.hub.ranFor (s.hub.drop n).at'.cc 150000000 = true) ∧ ((s.hub.chan (n + 2)).vo < 800)) ∧
    (∃ (s : State) (n : Fin 4), (s.hub.rel.acts = []) ∧ (s.hub.tcState n = tcAttached) ∧ ((s.hub.drop n).absent = true) ∧ (s.hub.ranFor (s.hub.drop n).at'.absent 15000000 = true)) ∧
    (∃ (s : State) (n : Fin 4), (s.hub.tcState n = tcRecovery) ∧ (s.hub.ranFor (s.hub.drop n).at'.cc 25000000 = true)) ∧
    (∃ (s : State) (n : Fin 4), (s.hub.rel.acts = []) ∧ (s.hub.tcState n = tcAttached) ∧ ((s.hub.drop n).vbusReq = false) ∧ ((s.hub.drop n).inReset = false) ∧ (s.hub.vbusFits n = true)) ∧
    (∃ (s : State) (n : Fin 4), (s.hub.tcState n = tcAttached) ∧ ((s.hub.drop n).vbusReq = false) ∧ ((s.hub.drop n).inReset = false) ∧ (s.hub.flag (Fld.TCP_PORT_STATUS_NO_BUDGET n) = false) ∧ (s.hub.ranFor (s.hub.drop n).at'.att 275000001 = true)) ∧
    (∃ (s : State) (n : Fin 4), (s.hub.pdRuns n = true) ∧ ((s.hub.drop n).disc = none) ∧ ((s.hub.drop n).capsAcked = false) ∧ ((s.hub.drop n).capsTries < 50) ∧ (4750 ≤ (s.hub.chan (n + 2)).vo) ∧ (((s.hub.drop n).capsTries = 0 ∨ s.hub.ranFor (s.hub.drop n).at'.caps 150000000 = true))) ∧
    (∃ (s : State) (n : Fin 4), (s.hub.pdRuns n = true) ∧ ((s.hub.drop n).disc = none) ∧ ((s.hub.drop n).capsAcked = true) ∧ (4750 ≤ (s.hub.chan (n + 2)).vo) ∧ (s.hub.reofferDue n = true)) := ⟨⟨{ hub := hub [(Fld.TCP_PORT_CFG_EN 3, 1), (Fld.TCP_PORT_STATUS_STATE 3, 1)] }, by decide +kernel⟩,
    ⟨{ hub := hub [(Fld.TCP_PORT_STATUS_STATE 3, 2)] { now := 1000000000, lpw := { chans := [(5, { vo := 799 })] }, tcp := { ports := [(3, { cc1 := .ra, cc2 := .rd })] } } }, 3, by decide +kernel⟩,
    ⟨{ hub := hub [(Fld.TCP_PORT_STATUS_STATE 0, 3), (Fld.TCP_PORT_STATUS_VCONN_SRC 0, 1)] { now := 1000000000, tcp := { ports := [(0, { cc1 := .open', absent := true, vbusReq := true })] } } }, 0, by decide +kernel⟩,
    ⟨{ hub := hub [(Fld.TCP_PORT_STATUS_STATE 1, 4)] { now := 1000000000, tcp := { ports := [(1, { cc1 := .rd })] } } }, 1, by decide +kernel⟩,
    ⟨{ hub := hub [(Fld.TCP_PORT_STATUS_STATE 0, 3), (Fld.TCP_BUDGET_B, 1000)] { tcp := { ports := [(0, { cc1 := .rd, grant := 15000 })] } } }, 0, by decide +kernel⟩,
    ⟨{ hub := hub [(Fld.TCP_PORT_STATUS_STATE 3, 3)] { now := 1000000000 } }, 3, by decide +kernel⟩,
    ⟨{ hub := hub [(Fld.TCP_PORT_STATUS_STATE 0, 3)] { now := 1000000000, lpw := { chans := [(2, { vo := 4750 })] }, tcp := { ports := [(0, { cc1 := .rd, vbusReq := true, grant := 54000, capsTries := 49 })] } } }, 0, by decide +kernel⟩,
    ⟨{ hub := hub [(Fld.TCP_PORT_STATUS_STATE 0, 3)] { now := 1000000000, lpw := { chans := [(2, { vo := 4750 })] }, tcp := { ports := [(0, { cc1 := .rd, vbusReq := true, grant := 27000, capsGrant := some 54000, capsAcked := true })] } } }, 0, by decide +kernel⟩⟩

theorem witness_DropPortPowerDeliveryAndAltMode :
    (∃ (s : State) (n : Fin 4) (pos : Fin 8) (mv : Nat) (max : Nat), (s.hub.pdRuns n = true) ∧ (pos.val ≠ 0) ∧ ((s.hub.drop n).caps[pos.val - 1]? = some (mv, max))) ∧
    (∃ (s : State) (n : Fin 4) (mv : Nat) (op : Nat) (max : Nat), ((s.hub.drop n).moving = some (mv, op, max)) ∧ ((s.hub.drop n).started = false) ∧ (s.hub.ranFor (s.hub.drop n).at'.move 30000000 = true)) ∧
    (∃ (s : State) (n : Fin 4) (mv : Nat) (op : Nat) (max : Nat), (s.hub.rel.acts = []) ∧ ((s.hub.drop n).moving = some (mv, op, max)) ∧ ((s.hub.drop n).started = true) ∧ (s.hub.up ≤ (s.hub.drop n).at'.move + 275000000) ∧ ((((s.hub.chan (n + 2)).vo - mv) * 20).natAbs ≤ mv)) ∧
    (∃ (s : State) (n : Fin 4), (s.hub.rel.acts = []) ∧ (s.hub.tcState n = tcAttached) ∧ ((s.hub.drop n).moving.isSome = true) ∧ (s.hub.ranFor (s.hub.drop n).at'.move 275000000 = true)) ∧
    (∃ (s : State) (n : Fin 4), (s.hub.rel.acts = []) ∧ (s.hub.tcState n = tcAttached) ∧ ((s.hub.drop n).reoffer = true) ∧ (s.hub.ranFor (s.hub.drop n).at'.offer 200000000 = true) ∧ ((s.hub.drop n).grant < s.hub.heldPower n)) ∧
    (∃ (s : State) (n : Fin 4), (s.hub.pdRuns n = true)) ∧
    (∃ (s : State) (n : Fin 4), (s.hub.rel.acts = []) ∧ (s.hub.tcState n = tcAttached)) ∧
    (∃ (s : State) (n : Fin 4), (s.hub.rel.acts = []) ∧ (s.hub.tcState n = tcAttached) ∧ ((s.hub.drop n).inReset = true) ∧ (s.hub.ranFor (s.hub.drop n).at'.move 660000000 = true)) ∧
    (∃ (s : State) (n : Fin 4), (s.hub.pdRuns n = true) ∧ (s.hub.flag (Fld.TCP_PORT_STATUS_RA n) = true) ∧ (s.hub.vconnSrc n = false) ∧ ((s.hub.drop n).swap = none) ∧ ((s.hub.drop n).swapWant = false)) ∧
    (∃ (s : State) (n : Fin 4), (s.hub.pdRuns n = true) ∧ ((s.hub.drop n).swap = none) ∧ ((s.hub.drop n).disc = none) ∧ (s.hub.vconnSrc n = true)) ∧
    (∃ (s : State) (n : Fin 4), ((s.hub.drop n).swap = none) ∧ ((s.hub.drop n).swapWait = true) ∧ (s.hub.ranFor (s.hub.drop n).at'.swap 16000000 = true)) ∧
    (∃ (s : State) (n : Fin 4) (k : Nat), ((s.hub.drop n).swap = some (0, k))) ∧
    (∃ (s : State) (n : Fin 4) (k : Nat), (s.hub.rel.acts = []) ∧ (s.hub.tcState n = tcAttached) ∧ ((s.hub.drop n).swap = some (0, k)) ∧ (s.hub.ranFor (s.hub.drop n).at'.swap 100000000 = true)) ∧
    (∃ (s : State) (n : Fin 4), (s.hub.dpAllowed n = true) ∧ (s.hub.dpState n ≤ dpEntered) ∧ ((s.hub.drop n).dpSent = false)) ∧
    (∃ (s : State) (n : Fin 4), ((s.hub.drop n).disc = none) ∧ ((s.hub.drop n).dpSent = true)) ∧
    (∃ (s : State) (n : Fin 4), (s.hub.rel.acts = []) ∧ ((s.hub.drop n).disc.isSome = true)) ∧
    (∃ (s : State) (n : Fin 4) (k : Nat), ((s.hub.drop n).disc = some k) ∧ (k + 1 < 20) ∧ (s.hub.ranFor (s.hub.drop n).at'.vdm 30000000 = true)) ∧
    (∃ (s : State) (n : Fin 4), (s.hub.dpState n = dpEntering ∨ s.hub.dpState n = dpEntered ∨ s.hub.dpState n = dpConfigured)) ∧
    (∃ (s : State) (n : Fin 4), (s.hub.dpState n = dpConfigured)) := ⟨⟨{ hub := hub [(Fld.TCP_PORT_STATUS_STATE 0, 3)] { tcp := { ports := [(0, { vbusReq := true, grant := 54000, caps := [(5000, 300), (9000, 300)] })] } } }, 0, 2, 9000, 300, by decide +kernel⟩,
    ⟨{ hub := { now := 1000000000, tcp := { ports := [(0, { moving := some (9000, 300, 300) })] } } }, 0, 9000, 300, 300, by decide +kernel⟩,
    ⟨{ hub := hub [(Fld.TCP_PORT_STATUS_STATE 0, 3)] { tcp := { ports := [(0, { vbusReq := true, moving := some (9000, 300, 300), started := true })] }, lpw := { chans := [(2, { vo := 9450 })] } } }, 0, 9000, 300, 300, by decide +kernel⟩,
    ⟨{ hub := hub [(Fld.TCP_PORT_STATUS_STATE 0, 3)] { now := 1000000000, tcp := { ports := [(0, { vbusReq := true, moving := some (9000, 300, 300) })] } } }, 0, by decide +kernel⟩,
    ⟨{ hub := hub [(Fld.TCP_PORT_STATUS_STATE 0, 3)] { now := 1000000000, tcp := { ports := [(0, { vbusReq := true, reoffer := true })] } } }, 0, by decide +kernel⟩,
    ⟨{ hub := hub [(Fld.TCP_PORT_STATUS_STATE 0, 3)] { tcp := { ports := [(0, { vbusReq := true })] } } }, 0, by decide +kernel⟩,
    ⟨{ hub := hub [(Fld.TCP_PORT_STATUS_STATE 0, 3), (Fld.TCP_PORT_STATUS_VCONN_SRC 0, 1)] { tcp := { ports := [(0, { vbusReq := true })] } } }, 0, by decide +kernel⟩,
    ⟨{ hub := hub [(Fld.TCP_PORT_STATUS_STATE 0, 3)] { now := 1000000000, tcp := { ports := [(0, { inReset := true, resets := 3 })] } } }, 0, by decide +kernel⟩,
    ⟨{ hub := hub [(Fld.TCP_PORT_STATUS_STATE 0, 3), (Fld.TCP_PORT_STATUS_RA 0, 1), (Fld.TCP_PORT_STATUS_PD 0, 2)] { tcp := { ports := [(0, { vbusReq := true })] } } }, 0, by decide +kernel⟩,
    ⟨{ hub := hub [(Fld.TCP_PORT_STATUS_STATE 0, 3), (Fld.TCP_PORT_STATUS_VCONN_SRC 0, 1)] { tcp := { ports := [(0, { vbusReq := true })] } } }, 0, by decide +kernel⟩,
    ⟨{ hub := hub [(Fld.TCP_PORT_STATUS_STATE 0, 3)] { now := 1000000000, tcp := { ports := [(0, { vbusReq := true, swapWait := true })] } } }, 0, by decide +kernel⟩,
    ⟨{ hub := hub [(Fld.TCP_PORT_STATUS_VCONN_SRC 0, 1)] { tcp := { ports := [(0, { swap := some (0, 3) })] } } }, 0, 3, by decide +kernel⟩,
    ⟨{ hub := hub [(Fld.TCP_PORT_STATUS_STATE 0, 3)] { now := 1000000000, tcp := { ports := [(0, { swap := some (0, 3) })] } } }, 0, 3, by decide +kernel⟩,
    ⟨{ hub := hub [(Fld.TCP_PORT_STATUS_STATE 0, 3), (Fld.TCP_PORT_STATUS_PD 0, 2), (Fld.TCP_PORT_CFG_DP_EN 0, 1), (Fld.TCP_PORT_STATUS_CABLE_SS 0, 1)] { tcp := { ports := [(0, { vbusReq := true })] } } }, 0, by decide +kernel⟩,
    ⟨{ hub := { tcp := { ports := [(0, { dpSent := true, dpBad := 2, mux := 1 })] } } }, 0, by decide +kernel⟩,
    ⟨{ hub := hub [(Fld.TCP_PORT_STATUS_STATE 0, 3)] { tcp := { ports := [(0, { disc := some 0, vbusReq := true })] } } }, 0, by decide +kernel⟩,
    ⟨{ hub := hub [(Fld.TCP_PORT_STATUS_STATE 0, 3)] { now := 1000000000, tcp := { ports := [(0, { disc := some 18, vbusReq := true })] } } }, 0, 18, by decide +kernel⟩,
    ⟨{ hub := hub [(Fld.TCP_PORT_STATUS_STATE 0, 3), (Fld.TCP_PORT_STATUS_DP 0, 3)] { tcp := { ports := [(0, { mux := 1, vbusReq := true })] } } }, 0, by decide +kernel⟩,
    ⟨{ hub := hub [(Fld.TCP_PORT_STATUS_STATE 1, 3), (Fld.TCP_PORT_STATUS_DP 1, 3)] }, 1, by decide +kernel⟩⟩

theorem witness_UsbHubFollowsItsBus :
    (∃ (s : State), (s.hub.flag Fld.GEN_STRAPS_UPB_SEL = true) ∧ (s.hub.getf (Fld.PWR_DOM_STATUS_STEP 11) = 0)) ∧
    (∃ (s : State) (t : Nat), (s.hub.getf Fld.USB_STATUS_UP ≠ 0) ∧ (s.hub.tcp.sofAt = none) ∧ (t < 2 ^ 64)) ∧
    (∃ (s : State), (s.hub.getf Fld.USB_STATUS_UP ≠ 0) ∧ (s.hub.flag Fld.USB_STATUS_SUSPENDED = false) ∧ (s.hub.ranFor s.hub.tcp.busAt 3000000 = true)) ∧
    (∃ (s : State) (k : Fin 5) (f : Fin 2048), (s.hub.flag (Fld.USB_PORT_STATUS_ENABLED k) = true) ∧ (s.hub.getf Fld.USB_STATUS_FRAME = f)) ∧
    (∃ (s : State), (s.hub.getf Fld.USB_STATUS_UP ≠ 0)) ∧
    (∃ (s : State), (s.hub.flag Fld.USB_STATUS_SUSPENDED = true)) ∧
    (∃ (s : State), (s.hub.getf Fld.USB_STATUS_UP = 0)) := ⟨⟨{ hub := hub [(Fld.GEN_STRAPS_UPB_SEL, 1)] }, by decide +kernel⟩,
    ⟨{ hub := hub [(Fld.USB_STATUS_UP, 1)] }, 0x100000001, by decide +kernel⟩,
    ⟨{ hub := hub [(Fld.USB_STATUS_UP, 1), (Fld.USB_PORT_STATUS_ENABLED 4, 1)] { now := 1000000000 } }, by decide +kernel⟩,
    ⟨{ hub := hub [(Fld.USB_PORT_STATUS_ENABLED 4, 1), (Fld.USB_STATUS_FRAME, 3)] }, 4, 3, by decide +kernel⟩,
    ⟨{ hub := hub [(Fld.USB_STATUS_UP, 1), (Fld.USB_PORT_STATUS_BABBLE_CUT 4, 1)] }, by decide +kernel⟩,
    ⟨{ hub := hub [(Fld.USB_STATUS_UP, 1), (Fld.USB_STATUS_SUSPENDED, 1), (Fld.USB_PORT_STATUS_ENABLED 4, 1), (Fld.USB_PORT_STATUS_SUSPENDED 4, 1)] }, by decide +kernel⟩,
    ⟨{ hub := {} }, by decide +kernel⟩⟩

theorem witness_LineGadgetTransfersAndSession :
    (∃ (s : State), (s.hub.gadgetOn = true) ∧ (s.hub.flag Fld.USB_STATUS_SUSPENDED = true) ∧ (s.hub.tcp.gadget.driving = false) ∧ (s.hub.tcp.gadget.merged = false) ∧ (s.hub.hif.gdone ≠ [])) ∧
    (∃ (s : State) (b : List Byte), (s.hub.gadgetLive = true) ∧ (s.hub.halted 1 = false) ∧ (s.hub.gadgetRoom = true) ∧ (s.hub.tcp.gadget.bufs = []) ∧ (32 ≤ b.length) ∧ (b.length = gadgetLen b)) ∧
    (∃ (s : State) (b : List Byte), (s.hub.gadgetLive = true) ∧ (s.hub.gadgetRoom = true) ∧ (32 ≤ b.length) ∧ (b.length ≤ 256) ∧ (gadgetLen b ≤ b.length)) ∧
    (∃ (s : State) (b : List Byte), (s.hub.gadgetLive = true) ∧ (s.hub.halted 3 = false) ∧ (b.length = 8)) ∧
    (∃ (s : State) (c : List Byte) (t : List (List Byte)), (s.hub.gadgetLive = true) ∧ (s.hub.halted 2 = false) ∧ (s.hub.hif.gdone = c :: t)) ∧
    (∃ (s : State), (s.hub.gadgetLive = true)) ∧
    (∃ (s : State), (s.hub.gadgetLive = true) ∧ (s.hub.tcp.gadget.lockout = false)) ∧
    (∃ (s : State) (b : List Byte), (s.hub.gadgetLive = true) ∧ (b.length = 20)) ∧
    (∃ (s : State), (s.hub.unlocked = true) ∧ (s.hub.ranFor s.hub.tcp.gadget.cmdAt (s.hub.getf Fld.USB_CFG_IDLE * 1000000000) = true)) ∧
    (∃ (s : State), (s.hub.tcp.gadget.lockout = true) ∧ (s.hub.ranFor s.hub.tcp.gadget.lockAt 60000000000 = true)) ∧
    (∃ (s : State) (b : List Byte), (s.hub.gadgetLive = true) ∧ (s.hub.halted 1 = false) ∧ (32 ≤ b.length) ∧ (b.length = gadgetLen b) ∧ (s.hub.gadgetRoom = false)) ∧
    (∃ (s : State), (s.hub.gadgetLive = true) ∧ (s.hub.halted 1 = true)) ∧
    (∃ (s : State), (s.hub.gadgetLive = true) ∧ (s.hub.halted 3 = true)) ∧
    (∃ (s : State), (s.hub.gadgetLive = true) ∧ (s.hub.gadgetHs = true)) ∧
    (∃ (s : State) (e : Fin 5), (s.hub.gadgetLive = true) ∧ (e.val ≠ 0)) := ⟨⟨{ hub := hub [(Fld.USB_CFG_GADGET_EN, 1), (Fld.USB_STATUS_UP, 1), (Fld.USB_PORT_STATUS_ENABLED 4, 1), (Fld.USB_STATUS_SUSPENDED, 1)] { hif := { gdone := [[0]] } } }, by decide +kernel⟩,
    ⟨{ hub := hub [(Fld.USB_CFG_GADGET_EN, 1), (Fld.USB_STATUS_UP, 1), (Fld.USB_PORT_STATUS_ENABLED 4, 1)] }, [0x42] ++ zeros 31, by decide +kernel⟩,
    ⟨{ hub := hub [(Fld.USB_CFG_GADGET_EN, 1), (Fld.USB_STATUS_UP, 1), (Fld.USB_PORT_STATUS_ENABLED 4, 1)] }, [0x41, 0, 0, 0, 8] ++ zeros 251, by decide +kernel⟩,
    ⟨{ hub := hub [(Fld.USB_CFG_GADGET_EN, 1), (Fld.USB_STATUS_UP, 1), (Fld.USB_PORT_STATUS_ENABLED 4, 1)] }, [2, 1, 0xFF, 0, 0, 0, 0, 0], by decide +kernel⟩,
    ⟨{ hub := hub [(Fld.USB_CFG_GADGET_EN, 1), (Fld.USB_STATUS_UP, 1), (Fld.USB_PORT_STATUS_ENABLED 4, 1)] { hif := { gdone := [[1, 2], [3]] } } }, [1, 2], [[3]], by decide +kernel⟩,
    ⟨{ hub := hub [(Fld.USB_CFG_GADGET_EN, 1), (Fld.USB_STATUS_UP, 1), (Fld.USB_PORT_STATUS_ENABLED 4, 1)] }, by decide +kernel⟩,
    ⟨{ hub := hub [(Fld.USB_CFG_GADGET_EN, 1), (Fld.USB_STATUS_UP, 1), (Fld.USB_PORT_STATUS_ENABLED 4, 1)] }, by decide +kernel⟩,
    ⟨{ hub := hub [(Fld.USB_CFG_GADGET_EN, 1), (Fld.USB_STATUS_UP, 1), (Fld.USB_PORT_STATUS_ENABLED 4, 1)] }, [8] ++ zeros 19, by decide +kernel⟩,
    ⟨{ hub := hub [(Fld.USB_STATUS_SESSION, ssUnlocked)] { now := 100000000000000 } }, by decide +kernel⟩,
    ⟨{ hub := { now := 60000000000, tcp := { gadget := { lockout := true } } } }, by decide +kernel⟩,
    ⟨{ hub := hub [(Fld.USB_CFG_GADGET_EN, 1), (Fld.USB_STATUS_UP, 1), (Fld.USB_PORT_STATUS_ENABLED 4, 1)] { hif := { gdone := List.replicate 16 [0] } } }, [0x42] ++ zeros 31, by decide +kernel⟩,
    ⟨{ hub := hub [(Fld.USB_CFG_GADGET_EN, 1), (Fld.USB_STATUS_UP, 1), (Fld.USB_PORT_STATUS_ENABLED 4, 1)] { tcp := { gadget := { halts := [1] } } } }, by decide +kernel⟩,
    ⟨{ hub := hub [(Fld.USB_CFG_GADGET_EN, 1), (Fld.USB_STATUS_UP, 1), (Fld.USB_PORT_STATUS_ENABLED 4, 1)] { tcp := { gadget := { halts := [3] } } } }, by decide +kernel⟩,
    ⟨{ hub := hub [(Fld.USB_CFG_GADGET_EN, 1), (Fld.USB_STATUS_UP, 1), (Fld.USB_PORT_STATUS_ENABLED 4, 1), (Fld.USB_PORT_STATUS_SPEED 4, 2)] }, by decide +kernel⟩,
    ⟨{ hub := hub [(Fld.USB_CFG_GADGET_EN, 1), (Fld.USB_STATUS_UP, 1), (Fld.USB_PORT_STATUS_ENABLED 4, 1)] }, 3, by decide +kernel⟩⟩

theorem witness_TrunkPortAttach :
    (∃ (s : State) (p : Fin 2), (s.hub.attach p = atAttached)) ∧
    (∃ (s : State) (p : Fin 2), (s.hub.attach p = atDetached)) ∧
    (∃ (s : State) (p : Fin 2), (s.hub.rel.acts = []) ∧ (s.hub.attach p = atDebounce) ∧ (senseFound p (s.hub.port p).band1 (s.hub.port p).band2 = true)) ∧
    (∃ (s : State) (p : Fin 2), (s.hub.attach p = atDebounce) ∧ (senseFound p (s.hub.port p).band1 (s.hub.port p).band2 = false) ∧ (dToD p (s.hub.port p).band1 (s.hub.port p).band2 = true)) ∧
    (∃ (s : State) (p : Fin 2), (s.hub.rel.acts = []) ∧ (s.hub.attach p = atAttached) ∧ ((s.hub.port p).leaving = true)) ∧
    (∃ (s : State) (p : Fin 2), (s.hub.csup p = csOurs) ∧ ((s.hub.port p).csupFault = false)) ∧
    (∃ (s : State), (s.hub.attach 0 = atAttached) ∧ (s.hub.linkUp 0 = false) ∧ ((s.hub.port 0).csupFault = false) ∧ (s.hub.flag (Fld.TRK_PORT_CTL_EN 0) = true) ∧ (s.hub.io33 = true)) ∧
    (∃ (s : State), (s.hub.csup 0 = csOurs) ∧ ((s.hub.port 0).ackRx = true)) ∧
    (∃ (s : State), (s.hub.attach 1 = atAttached) ∧ (s.hub.flag (Fld.TRK_PORT_CTL_EN 1) = true) ∧ ((s.hub.port 1).csupFault = false) ∧ (s.hub.io33 = true)) ∧
    (∃ (s : State) (p : Fin 2), (s.hub.csup p = csOurs)) ∧
    (∃ (s : State) (p : Fin 2), (s.hub.attach p = atAttached)) := ⟨⟨{ hub := hub [(Fld.TRK_PORT_STATUS_ATTACH 1, 2)] }, 1, by decide +kernel⟩,
    ⟨{ hub := {} }, 0, by decide +kernel⟩,
    ⟨{ hub := hub [(Fld.TRK_PORT_STATUS_ATTACH 1, 1)] { trunk := { ports := [(1, { band1 := .sense, band2 := .high })] } } }, 1, by decide +kernel⟩,
    ⟨{ hub := hub [(Fld.TRK_PORT_STATUS_ATTACH 1, 1)] { trunk := { ports := [(1, { band1 := .high, band2 := .dd })] } } }, 1, by decide +kernel⟩,
    ⟨{ hub := hub [(Fld.TRK_PORT_STATUS_ATTACH 0, 2)] { trunk := { ports := [(0, { leaving := true })] } } }, 0, by decide +kernel⟩,
    ⟨{ hub := hub [(Fld.TRK_PORT_STATUS_CSUP 0, csOurs)] }, 0, by decide +kernel⟩,
    ⟨{ hub := hub [(Fld.TRK_PORT_STATUS_ATTACH 0, 2), (Fld.TRK_PORT_CTL_EN 0, 1), (Fld.LPW_STATUS_PG, 32)] }, by decide +kernel⟩,
    ⟨{ hub := hub [(Fld.TRK_PORT_STATUS_CSUP 0, csOurs)] { trunk := { ports := [(0, { ackRx := true })] } } }, by decide +kernel⟩,
    ⟨{ hub := hub [(Fld.TRK_PORT_STATUS_ATTACH 1, 2), (Fld.TRK_PORT_CTL_EN 1, 1), (Fld.LPW_STATUS_PG, 32)] }, by decide +kernel⟩,
    ⟨{ hub := hub [(Fld.TRK_PORT_STATUS_CSUP 1, csOurs)] }, 1, by decide +kernel⟩,
    ⟨{ hub := hub [(Fld.TRK_PORT_STATUS_ATTACH 1, 2)] }, 1, by decide +kernel⟩⟩

theorem witness_TrunkLinksLoopbacksAndKnuckle :
    (∃ (s : State) (p : Fin 2), (s.hub.link p = lkLowSpeed) ∧ ((s.hub.port p).step ≤ 1)) ∧
    (∃ (s : State) (p : Fin 2), (s.hub.link p = lkLowSpeed) ∧ (2 ≤ (s.hub.port p).step) ∧ ((s.hub.port p).far = none) ∧ (s.hub.csup p ≠ csOurs)) ∧
    (∃ (s : State) (p : Fin 2) (f : List Byte), (frameGood 1 f = true) ∧ (s.hub.link p = lkHandshake) ∧ (s.hub.isHead = false)) ∧
    (∃ (s : State) (p : Fin 2) (f : List Byte), (frameGood 2 f = true) ∧ (s.hub.link p = lkHandshake) ∧ ((s.hub.port p).far.isSome = true)) ∧
    (∃ (s : State) (p : Fin 2), (s.hub.link p = lkHandshake) ∧ ((s.hub.port p).ackRx = true) ∧ ((s.hub.port p).far.isSome = true) ∧ (s.hub.fixedUsable p = true)) ∧
    (∃ (s : State) (p : Fin 2), (s.hub.link p = lkPam3) ∧ (s.hub.flag (Fld.TRK_PAIR_STATUS_LOCKED (8 * p + inFixed p)) = false) ∧ (s.hub.getf (Fld.TRK_PAIR_STATUS_ROW (8 * p + 0)) < s.hub.lastRow p 0)) ∧
    (∃ (s : State) (p : Fin 2) (k : Fin 8) (e : Nat), (s.hub.link p = lkPairTest) ∧ ((s.hub.port p).testLeft.contains k.val = true) ∧ (e ≤ 76)) ∧
    (∃ (s : State) (p : Fin 2), (s.hub.rel.acts = []) ∧ (s.hub.attach p = atAttached) ∧ (s.hub.link p ≠ lkUp) ∧ (s.hub.link p ≠ lkFailed) ∧ (s.hub.link p ≠ lkDown) ∧ (2 ≤ (s.hub.port p).step) ∧ ((s.hub.port p).failRaised = false) ∧ ((s.hub.port p).attachAt + 50000000 ≤ s.hub.up)) ∧
    (∃ (s : State) (p : Fin 2), (s.hub.attach p = atAttached) ∧ (s.hub.portHeld p = false) ∧ (s.hub.trunk.eq.isSome = true) ∧ ((s.hub.link p = lkFailed ∨ s.hub.link p = lkDown)) ∧ ((s.hub.port p).startAt + 10000000000 ≤ s.hub.up)) ∧
    (∃ (s : State) (p : Fin 2), (s.hub.attach p = atAttached) ∧ (s.hub.portHeld p = false) ∧ (s.hub.trunk.eq.isSome = true) ∧ (s.hub.rel.acts = [])) ∧
    (∃ (s : State) (v : Word), (s.hub.rel.acts = []) ∧ (bit v.toNat 1 = false)) ∧
    (∃ (s : State) (p : Fin 2) (v : Word), let t := (((s.hub.setf (Fld.TRK_LOOP_CTL_SRC p) (bits v.toNat 18 16)).setf (Fld.TRK_LOOP_CTL_DST p) (bits v.toNat 6 4)).setf (Fld.TRK_LOOP_CTL_PATTERN p) (bits v.toNat 10 8)).setf (Fld.TRK_LOOP_CTL_MODE p) (bits v.toNat 2 0); (s.hub.loopRunning p = false) ∧ (bit v.toNat 15 = true) ∧ (bits v.toNat 10 8 < 4) ∧ (1 ≤ bits v.toNat 2 0) ∧ (bits v.toNat 2 0 ≤ 4) ∧ (t.loopRefusal p = none)) ∧
    (∃ (s : State) (p : Fin 2), (s.hub.rel.acts = []) ∧ (s.hub.loopRunning p = true) ∧ (s.hub.getf (Fld.TRK_LOOP_CTL_SRC p) < 8) ∧ (s.hub.getf (Fld.TRK_LOOP_CTL_PATTERN p) < 4) ∧ (s.hub.getf (Fld.TRK_LOOP_CTL_DST p) < 8) ∧ (s.hub.getf (Fld.TRK_LOOP_CTL_MODE p) < 5)) ∧
    (∃ (s : State) (n : NextPairs), (s.hub.nextPairs = some n) ∧ (s.hub.now ≤ s.hub.tick * tickNs + 40000) ∧ ((∀ (p : Fin 2) (k : Fin 8), s.hub.flag (Fld.TRK_PAIR_STATUS_LOOP (8 * p + k)) = false))) ∧
    (∃ (s : State) (p : Fin 2) (k : Fin 8), ((s.hub.lane p k).waking = true) ∧ (s.hub.nextPairs = none) ∧ (s.hub.up ≤ (s.hub.lane p k).wakeAt + laneLimit) ∧ (s.hub.laneFailed p k = false)) ∧
    (∃ (s : State) (n : NextPairs), (s.hub.nextPairs = some n) ∧ (s.hub.now ≤ s.hub.tick * tickNs + 61300)) ∧
    (∃ (s : State) (p : Fin 2) (k : Fin 8) (t : Nat), ((s.hub.lane p k).seekFrom = some t) ∧ (t + 16 ≤ s.hub.tick) ∧ (s.hub.flag (Fld.TRK_PAIR_STATUS_LOCKED (8 * p + k)) = false)) := ⟨⟨{ hub := hub [(Fld.TRK_PORT_STATUS_LINK 0, 1)] { trunk := { ports := [(0, { step := 1 })] } } }, 0, by decide +kernel⟩,
    ⟨{ hub := hub [(Fld.TRK_PORT_STATUS_LINK 0, 1)] { trunk := { ports := [(0, { step := 2 })] } } }, 0, by decide +kernel⟩,
    ⟨{ hub := hub [(Fld.TRK_PORT_STATUS_LINK 1, 2)] { trunk := { ports := [(1, { step := 4 })] } } }, 1, Hub.helloFrame {} 0, by decide +kernel⟩,
    ⟨{ hub := hub [(Fld.TRK_PORT_STATUS_LINK 1, 2)] { trunk := { ports := [(1, { step := 4, far := some ⟨1, 0, 0, true, false, []⟩ })] } } }, 1, Hub.ackFrame {} 0, by decide +kernel⟩,
    ⟨{ hub := hub [(Fld.TRK_PORT_STATUS_LINK 1, 2)] { trunk := { eq := some [⟨1, 0, 0, [⟨100, [], true⟩]⟩, ⟨1, 7, 0, [⟨100, [], true⟩]⟩], ports := [(1, { step := 4, ackRx := true, far := some ⟨1, 0, 0, true, false, []⟩ })] } } }, 1, by decide +kernel⟩,
    ⟨{ hub := hub [(Fld.TRK_PORT_STATUS_LINK 1, 3)] { trunk := { eq := some [⟨1, 0, 0, [⟨100, [], true⟩, ⟨200, [], true⟩]⟩, ⟨1, 7, 0, [⟨100, [], true⟩]⟩], ports := [(1, { step := 5 })] } } }, 1, by decide +kernel⟩,
    ⟨{ hub := hub [(Fld.TRK_PORT_STATUS_LINK 0, 4)] { trunk := { ports := [(0, { step := 6, testLeft := [3] })] } } }, 0, 3, 76, by decide +kernel⟩,
    ⟨{ hub := hub [(Fld.TRK_PORT_STATUS_ATTACH 0, 2), (Fld.TRK_PORT_STATUS_LINK 0, 2)] { now := 50000000, trunk := { ports := [(0, { step := 4 })] } } }, 0, by decide +kernel⟩,
    ⟨{ hub := hub [(Fld.TRK_PORT_STATUS_ATTACH 0, 2), (Fld.TRK_PORT_STATUS_LINK 0, 6), (Fld.TRK_PORT_CTL_EN 0, 1)] { now := 10000000000, trunk := { eq := some [] } } }, 0, by decide +kernel⟩,
    ⟨{ hub := hub [(Fld.TRK_PORT_STATUS_ATTACH 0, 2), (Fld.TRK_PORT_STATUS_LINK 0, 5), (Fld.TRK_PORT_CTL_EN 0, 1)] { trunk := { eq := some [] } } }, 0, by decide +kernel⟩,
    ⟨{ hub := hub [(Fld.TRK_PORT_STATUS_ATTACH 0, 2), (Fld.TRK_PORT_STATUS_LINK 0, 5), (Fld.TRK_PORT_CTL_EN 0, 1)] }, 0, by decide +kernel⟩,
    ⟨{ hub := hub [(Fld.TRK_PORT_STATUS_ATTACH 0, 2), (Fld.TRK_PORT_STATUS_LINK 0, 5), (Fld.TRK_PORT_CTL_EN 0, 1)] }, 0, 0x00038121, by decide +kernel, by decide +kernel⟩,
    ⟨{ hub := hub [(Fld.TRK_LOOP_STAT_RESULT 0, 1), (Fld.TRK_LOOP_CTL_SRC 0, 3), (Fld.TRK_LOOP_CTL_MODE 0, 1)] }, 0, by decide +kernel⟩,
    ⟨{ hub := hub [(Fld.PLN_STATUS_PEND_STATE, psArmed), (Fld.TRK_PAIR_STATUS_TX_SLEEP 2, 1), (Fld.TRK_PAIR_STATUS_RX_SLEEP 2, 1), (Fld.TRK_PAIR_STATUS_DIR 10, dirOut)] { plan := { banks := [(1, { epoch := 7, pairs := List.replicate 16 1, runs := [2 ^ 56 * 2] })], armed := some ⟨7, 1, false, 0, 0⟩ } } }, ((hub [(Fld.PLN_STATUS_PEND_STATE, psArmed), (Fld.TRK_PAIR_STATUS_TX_SLEEP 2, 1), (Fld.TRK_PAIR_STATUS_RX_SLEEP 2, 1), (Fld.TRK_PAIR_STATUS_DIR 10, dirOut)] { plan := { banks := [(1, { epoch := 7, pairs := List.replicate 16 1, runs := [2 ^ 56 * 2] })], armed := some ⟨7, 1, false, 0, 0⟩ } } : Hub).nextPairs).getD ⟨[], fun _ _ => false, false⟩, rfl, by decide +kernel⟩,
    ⟨{ hub := { trunk := { lanes := [(3, { waking := true })] } } }, 0, 3, by decide +kernel⟩,
    ⟨{ hub := hub [(Fld.PLN_STATUS_PEND_STATE, psArmed), (Fld.TRK_PAIR_STATUS_TX_SLEEP 2, 1), (Fld.TRK_PAIR_STATUS_RX_SLEEP 2, 1), (Fld.TRK_PAIR_STATUS_DIR 10, dirIn)] { plan := { banks := [(1, { epoch := 7, pairs := List.replicate 8 1 ++ List.replicate 8 2, runs := [2 ^ 56 * 2] })], armed := some ⟨7, 1, false, 0, 0⟩ } } }, ((hub [(Fld.PLN_STATUS_PEND_STATE, psArmed), (Fld.TRK_PAIR_STATUS_TX_SLEEP 2, 1), (Fld.TRK_PAIR_STATUS_RX_SLEEP 2, 1), (Fld.TRK_PAIR_STATUS_DIR 10, dirIn)] { plan := { banks := [(1, { epoch := 7, pairs := List.replicate 8 1 ++ List.replicate 8 2, runs := [2 ^ 56 * 2] })], armed := some ⟨7, 1, false, 0, 0⟩ } } : Hub).nextPairs).getD ⟨[], fun _ _ => false, false⟩, rfl, by decide +kernel⟩,
    ⟨{ hub := { now := 62500 * 21, trunk := { lanes := [(14, { seekFrom := some 5 })] } } }, 1, 6, 5, by decide +kernel⟩⟩

theorem witness_StorageRootPortBringUp :
    (∃ (s : State) (d : Fin 2) (v : Word), (s.hub.isHead = false) ∧ (s.hub.bpEn d = false) ∧ (bit v.toNat 31 = false) ∧ (1 ≤ bits v.toNat 27 24) ∧ (bits v.toNat 27 24 ≤ 8) ∧ (4 ≤ bits v.toNat 23 20) ∧ (bits v.toNat 23 20 ≤ 8) ∧ (20 ≤ bits v.toNat 12 0)) ∧
    (∃ (s : State), (s.hub.isHead = true)) ∧
    (∃ (s : State) (d : Fin 2), (s.hub.bpEn d = true)) ∧
    (∃ (s : State) (d : Fin 2), (s.hub.bpEn d = true) ∧ (s.hub.bpState d = bpLink) ∧ ((s.hub.rport d).step = 1) ∧ ((s.hub.rport d).since + 100000000 ≤ s.hub.up)) ∧
    (∃ (s : State) (d : Fin 2) (sp : Fin 16) (wd : Fin 16), (s.hub.bpEn d = true) ∧ (s.hub.bpState d = bpLink) ∧ ((s.hub.rport d).step = 2) ∧ (1 ≤ sp.val) ∧ (sp.val ≤ 4) ∧ (wd.val ∈ [1, 2, 4]) ∧ (s.hub.up ≤ (s.hub.rport d).since + 200000000)) ∧
    (∃ (s : State) (d : Fin 2) (c : Fin 16), (s.hub.bpEn d = true) ∧ ((s.hub.bpState d = bpLink ∧ (s.hub.rport d).step = 1 ∧ c.val = 1 ∨ s.hub.bpState d = bpLink ∧ (s.hub.rport d).step ≠ 1 ∧ c.val = 2 ∧ (s.hub.rport d).since + 200000000 ≤ s.hub.up ∨ s.hub.bpState d = bpInit ∧ 3 ≤ c.val ∧ c.val ≤ 6 ∨ s.hub.bpState d = bpResetting ∧ 4 ≤ c.val ∧ c.val ≤ 6))) ∧
    (∃ (s : State) (d : Fin 2), (s.hub.bpEn d = true) ∧ (s.hub.bpState d = bpFailed) ∧ (s.hub.domFailed (rootDom d) = false) ∧ (s.hub.planStep (rootDom d) = 0) ∧ (s.hub.atL0 (rootDom d) = true) ∧ ((s.hub.rport d).since + 1000000000 ≤ s.hub.up)) ∧
    (∃ (s : State) (d : Fin 2), (s.hub.bpEn d = true) ∧ (s.hub.bpState d = bpReady) ∧ (s.hub.blk.slots.any (fun e => e.1 / 1024 == d.val && e.2.answered && decide (e.2.at' + 2 * s.hub.getf (Fld.BLK_PORT_TMO_MS d) * 1000000 ≤ s.hub.up)) = true)) ∧
    (∃ (s : State) (d : Fin 2), (s.hub.bpEn d = true) ∧ (2 ≤ s.hub.bpState d) ∧ (s.hub.bpState d ≤ 4)) ∧
    (∃ (s : State) (d : Fin 2) (v : Word), let q := bits v.toNat 12 0; let n := 10 + bits v.toNat 27 24 * 5 * 2 ^ bits v.toNat 23 20 / 16; (s.hub.isHead = false) ∧ (s.hub.bpEn d = false) ∧ (bit v.toNat 31 = true) ∧ (1 ≤ bits v.toNat 27 24) ∧ (bits v.toNat 27 24 ≤ 8) ∧ (4 ≤ bits v.toNat 23 20) ∧ (bits v.toNat 23 20 ≤ 8) ∧ (20 ≤ q) ∧ (s.hub.qEnabled q = true) ∧ (s.hub.qControl q = true) ∧ (s.hub.qMin q = n) ∧ (s.hub.qMax q = n) ∧ ((s.hub.queue q).occ = 0) ∧ (n ≤ s.hub.genFree) ∧ (s.hub.domFailed (rootDom d) = false) ∧ (s.hub.planStep (rootDom d) = 0) ∧ (s.hub.atL0 (rootDom d) = true)) := ⟨⟨{ hub := {} }, 1, 0x08801FFF, by decide +kernel⟩,
    ⟨{ hub := hub [(Fld.GEN_STRAPS_ROLE, 2)] }, by decide +kernel⟩,
    ⟨{ hub := hub [(Fld.BLK_PORT_CFG_EN 1, 1), (Fld.BLK_PORT_STATUS_STATE 1, 3)] { blk := { ports := [(1, { ring := [9] })], slots := [(1024, { port := 1, hdr := zeros 32, op := 3, len := 0, reqQ := 21, rspQ := none, ioq := 1, nsid := 1, at' := 0 })] } } }, 1, by decide +kernel⟩,
    ⟨{ hub := hub [(Fld.BLK_PORT_CFG_EN 0, 1), (Fld.BLK_PORT_STATUS_STATE 0, 1)] { now := 100000000, blk := { ports := [(0, { step := 1 })] } } }, 0, by decide +kernel⟩,
    ⟨{ hub := hub [(Fld.BLK_PORT_CFG_EN 1, 1), (Fld.BLK_PORT_STATUS_STATE 1, 1)] { blk := { ports := [(1, { step := 2, ring := [9] })] } } }, 1, 4, 4, by decide +kernel⟩,
    ⟨{ hub := hub [(Fld.BLK_PORT_CFG_EN 0, 1), (Fld.BLK_PORT_STATUS_STATE 0, 4)] }, 0, 5, by decide +kernel⟩,
    ⟨{ hub := hub [(Fld.BLK_PORT_CFG_EN 1, 1), (Fld.BLK_PORT_STATUS_STATE 1, 5)] { now := 1000000000 } }, 1, by decide +kernel⟩,
    ⟨{ hub := hub [(Fld.BLK_PORT_CFG_EN 0, 1), (Fld.BLK_PORT_STATUS_STATE 0, 3), (Fld.BLK_PORT_TMO_MS 0, 1)] { now := 2000000, blk := { slots := [(3, { port := 0, hdr := zeros 32, op := 3, len := 0, reqQ := 21, rspQ := none, ioq := 1, nsid := 1, at' := 0, answered := true })] } } }, 0, by decide +kernel⟩,
    ⟨{ hub := hub [(Fld.BLK_PORT_CFG_EN 0, 1), (Fld.BLK_PORT_STATUS_STATE 0, 2)] }, 0, by decide +kernel⟩,
    ⟨{ hub := hub [(Fld.CPL_QCFG_EN 8191, 1), (Fld.CPL_QCFG_KIND 8191, 1), (Fld.CPL_QCFG_PROFILE 8191, 1), (Fld.CPL_QPROF_MIN_MIN 1, 650), (Fld.CPL_QPROF_MAX_MAX 1, 650)] }, 1, 0x88801FFF, by decide +kernel, by decide +kernel⟩⟩

theorem witness_StorageCommandsAndDevices :
    (∃ (s : State) (d : Fin 2) (i : Fin 1024) (x : BlkSlot), (s.hub.slot d i = some x) ∧ (x.answered = false) ∧ (x.at' + s.hub.getf (Fld.BLK_PORT_TMO_MS d) * 1000000 ≤ s.hub.up)) ∧
    (∃ (s : State) (d : Fin 2) (q : Fin 9), let n := Tab.getD (s.hub.rport d).heads q 0; let e := s.hub.chainRead (s.hub.rport d).ring (s.hub.cqBase d q + 16 * (n % s.hub.nvmeDepth d q)) 16; let dw3 := leAt e 12 4; ((s.hub.rport d).ring ≠ []) ∧ (s.hub.bpState d = bpReady) ∧ (bit dw3 16 = (n / s.hub.nvmeDepth d q % 2 == 0))) ∧
    (∃ (s : State) (d : Fin 2) (a : Nat) (n : Nat), ((s.hub.rport d).ring ≠ []) ∧ (a + n ≤ 0x800)) ∧
    (∃ (s : State) (d : Fin 2) (a : Nat) (w : Bool), (((s.hub.rport d).ring = [] ∨ (w = true ∧ a < 0x800) ∨ (w = false ∧ 0x800 < a ∧ a < 0x10000)))) ∧
    (∃ (s : State) (w : Asker) (b : List Byte) (j : Job) (u : Tun) (q : Nat) (op : Nat) (c : Instr), ((c, op) ∈ [(Instr.blkRead w, boRead), (.blkWrite w (some b), boWrite), (.blkFlush w, boFlush), (.blkDeallocate w, boDeallocate), (.blkIdentify w, boIdentify)]) ∧ (w ≠ .gadget) ∧ (s.hub.jobFor w (blkOpcode op) = some j) ∧ (blkDescOk op j.d = true) ∧ (s.hub.domFailed dBLK = false) ∧ (s.hub.blk.out.length < 1024) ∧ (s.hub.blkTun j.d.qt = some u) ∧ (s.hub.blkQueue j.d.qt = some q) ∧ (blkRole u.bind = 0) ∧ ((blkEnd u.bind = 1 ∨ blkEnd u.bind = 3))) ∧
    (∃ (s : State) (op : Nat) (b : Option (List Byte)) (j : Job) (c : Instr), ((c, op) ∈ [(Instr.blkRead .gadget, boRead), (.blkWrite .gadget b, boWrite), (.blkFlush .gadget, boFlush), (.blkDeallocate .gadget, boDeallocate), (.blkIdentify .gadget, boIdentify)]) ∧ (s.hub.jobFor .gadget (blkOpcode op) = some j)) ∧
    (∃ (s : State) (t : Fin 4096) (u : Tun) (q : Nat) (p : List QCell) (r : Hub), let s1 : Hub := { s.hub with blk := { s.hub.blk with turn := t } }; (s.hub.blkTurn = some t.val) ∧ (s.hub.blkTun t = some u) ∧ (s.hub.blkQueue t = some q) ∧ (s1.readHead q = (some p, r)) ∧ (pktGap p = true ∨ isBlkHeader 1 (r.pktBytes p) = false)) ∧
    (∃ (s : State) (t : Fin 4096) (u : Tun) (q : Nat) (i : Nat) (p : List QCell) (r : Hub), let s1 : Hub := { s.hub with blk := { s.hub.blk with turn := t } }; (s.hub.blkTurn = some t.val) ∧ (s.hub.blkTun t = some u) ∧ (s.hub.blkQueue t = some q) ∧ (s1.readHead q = (some p, r)) ∧ (pktGap p = false) ∧ (isBlkHeader 1 (r.pktBytes p) = true) ∧ (r.bpState (blkPort u.bind) = bpReady) ∧ (r.domFailed dBLK = false) ∧ (bhOp (r.pktBytes p) = boFlush) ∧ (r.slotFree (blkPort u.bind) = some i) ∧ (r.sqUsed (blkPort u.bind) (blkIoq u.bind) + 1 < r.nvmeDepth (blkPort u.bind) (blkIoq u.bind))) ∧
    (∃ (s : State) (t : Fin 4096) (u : Tun) (q : Nat) (p : List QCell) (r : Hub), (s.hub.blkTun t = some u) ∧ (s.hub.blkQueue t = some q) ∧ (blkRole u.bind = 1) ∧ ((blkEnd u.bind = 1 ∨ blkEnd u.bind = 3)) ∧ (s.hub.readHead q = (some p, r)) ∧ (pktGap p = false) ∧ (isBlkHeader 2 (r.pktBytes p) = true)) ∧
    (∃ (s : State) (tag : Fin 65536) (c : BlkCmd), (Tab.get? tag.val s.hub.blk.out = some c) ∧ (c.sent + s.hub.getf Fld.BLK_CFG_TIMEOUT ≤ s.hub.tick)) := ⟨⟨{ hub := hub [(Fld.BLK_PORT_TMO_MS 1, 1)] { now := 1000000, blk := { slots := [(2047, { port := 1, hdr := zeros 32, op := 3, len := 0, reqQ := 21, rspQ := none, ioq := 1, nsid := 1, at' := 0 })] } } }, 1, 1023, { port := 1, hdr := zeros 32, op := 3, len := 0, reqQ := 21, rspQ := none, ioq := 1, nsid := 1, at' := 0 }, by decide +kernel⟩,
    ⟨{ hub := put (256 * 40 + 12) [3, 0, 1, 0] (hub [(Fld.BLK_PORT_STATUS_STATE 0, 3), (Fld.BLK_PORT_CFG_DEPTH 0, 4), (Fld.BLK_PORT_CFG_IOQ 0, 1)] { blk := { ports := [(0, { ring := (List.range 15).map (fun i => 26 + i) })], slots := [(3, { port := 0, hdr := zeros 32, op := 3, len := 0, reqQ := 21, rspQ := none, ioq := 1, nsid := 1, at' := 0 })] } }) }, 0, 1, by decide +kernel, by decide +kernel⟩,
    ⟨{ hub := { blk := { ports := [(1, { ring := (List.range 15).map (fun i => 26 + i) })] } } }, 1, 0x7C0, 64, by decide +kernel⟩,
    ⟨{ hub := { blk := { ports := [(1, { ring := (List.range 15).map (fun i => 26 + i) })] } } }, 1, 0x7C0, true, by decide +kernel⟩,
    ⟨{ hub := hub [(Fld.PLN_STATUS_TRANSPARENT, 0)] { plan := { tunnels := [(5, tun 3 0x40006000 30 31)] }, hif := jobs 1 [job (desc 0x6A 5 0 0 0)] } }, .ring 1, [], job (desc 0x6A 5 0 0 0), tun 3 0x40006000 30 31, 30, 3, .blkFlush (.ring 1), by decide +kernel⟩,
    ⟨{ hub := { hif := { gjobs := [job (desc 0x6A 5 0 0 0)] } } }, 3, none, job (desc 0x6A 5 0 0 0), .blkFlush .gadget, by decide +kernel⟩,
    ⟨{ hub := put (256 * 40) (zeros 32) (hub [(Fld.PLN_STATUS_TRANSPARENT, 0), (Fld.CPL_QCFG_EN 31, 1)] { plan := { tunnels := [(5, tun 3 0x80006001 30 31)] }, pool := { queues := [(31, { pkts := [one 40 32] })] } }) }, 5, tun 3 0x80006001 30 31, 31, one 40 32, (({ (put (256 * 40) (zeros 32) (hub [(Fld.PLN_STATUS_TRANSPARENT, 0), (Fld.CPL_QCFG_EN 31, 1)] { plan := { tunnels := [(5, tun 3 0x80006001 30 31)] }, pool := { queues := [(31, { pkts := [one 40 32] })] } }) : Hub) with blk := { (put (256 * 40) (zeros 32) (hub [(Fld.PLN_STATUS_TRANSPARENT, 0), (Fld.CPL_QCFG_EN 31, 1)] { plan := { tunnels := [(5, tun 3 0x80006001 30 31)] }, pool := { queues := [(31, { pkts := [one 40 32] })] } }) : Hub).blk with turn := 5 } } : Hub).readHead 31).2, by decide +kernel, by decide +kernel⟩,
    ⟨{ hub := put (256 * 40) (blkHeader 1 3 9 77 0 0 0 0 0 0 0) (hub [(Fld.PLN_STATUS_TRANSPARENT, 0), (Fld.CPL_QCFG_EN 31, 1), (Fld.BLK_PORT_STATUS_STATE 0, 3), (Fld.BLK_PORT_CFG_DEPTH 0, 4)] { plan := { tunnels := [(5, tun 3 0x81006001 30 31)] }, pool := { queues := [(31, { pkts := [one 40 32] })] }, blk := { ports := [(0, { ring := (List.range 15).map (fun i => 26 + i) })] } }) }, 5, tun 3 0x81006001 30 31, 31, 0, one 40 32, (({ (put (256 * 40) (blkHeader 1 3 9 77 0 0 0 0 0 0 0) (hub [(Fld.PLN_STATUS_TRANSPARENT, 0), (Fld.CPL_QCFG_EN 31, 1), (Fld.BLK_PORT_STATUS_STATE 0, 3), (Fld.BLK_PORT_CFG_DEPTH 0, 4)] { plan := { tunnels := [(5, tun 3 0x81006001 30 31)] }, pool := { queues := [(31, { pkts := [one 40 32] })] }, blk := { ports := [(0, { ring := (List.range 15).map (fun i => 26 + i) })] } }) : Hub) with blk := { (put (256 * 40) (blkHeader 1 3 9 77 0 0 0 0 0 0 0) (hub [(Fld.PLN_STATUS_TRANSPARENT, 0), (Fld.CPL_QCFG_EN 31, 1), (Fld.BLK_PORT_STATUS_STATE 0, 3), (Fld.BLK_PORT_CFG_DEPTH 0, 4)] { plan := { tunnels := [(5, tun 3 0x81006001 30 31)] }, pool := { queues := [(31, { pkts := [one 40 32] })] }, blk := { ports := [(0, { ring := (List.range 15).map (fun i => 26 + i) })] } }) : Hub).blk with turn := 5 } } : Hub).readHead 31).2, by decide +kernel, by decide +kernel⟩,
    ⟨{ hub := put (256 * 40) (blkHeader 2 3 9 77 0 0 0 0 0 0 0) (hub [(Fld.PLN_STATUS_TRANSPARENT, 0), (Fld.CPL_QCFG_EN 31, 1)] { plan := { tunnels := [(6, tun 3 0x60005000 30 31)] }, pool := { queues := [(31, { pkts := [one 40 32] })] }, blk := { out := [(77, { who := .ring 1, idx := 0, cookie := 7, nocomp := false, addr := 0, op := 3, len := 0, req := 5, rsp := 6, sent := 0 })] } }) }, 6, tun 3 0x60005000 30 31, 31, one 40 32, ((put (256 * 40) (blkHeader 2 3 9 77 0 0 0 0 0 0 0) (hub [(Fld.PLN_STATUS_TRANSPARENT, 0), (Fld.CPL_QCFG_EN 31, 1)] { plan := { tunnels := [(6, tun 3 0x60005000 30 31)] }, pool := { queues := [(31, { pkts := [one 40 32] })] }, blk := { out := [(77, { who := .ring 1, idx := 0, cookie := 7, nocomp := false, addr := 0, op := 3, len := 0, req := 5, rsp := 6, sent := 0 })] } }) : Hub).readHead 31).2, by decide +kernel⟩,
    ⟨{ hub := hub [(Fld.BLK_CFG_TIMEOUT, 16)] { now := 62500 * 16, blk := { out := [(65535, { who := .ring 1, idx := 0, cookie := 7, nocomp := false, addr := 0, op := 3, len := 0, req := 5, rsp := 6, sent := 0 })] } } }, 65535, { who := .ring 1, idx := 0, cookie := 7, nocomp := false, addr := 0, op := 3, len := 0, req := 5, rsp := 6, sent := 0 }, by decide +kernel⟩⟩

theorem witness_PowerOnRailsAndFailsafe :
    (∃ (m : Fin 4), (m ≠ 3)) ∧
    (∃ (s : State), (s.hub.sec.stage = sgAon) ∧ (s.hub.sec.railUp = 0) ∧ (s.hub.sec.railWait = none) ∧ (s.hub.busFed = true) ∧ (s.hub.isHeld = false)) ∧
    (∃ (s : State), (s.hub.sec.stage = sgRails) ∧ (1 ≤ s.hub.sec.railUp) ∧ (s.hub.ranFor s.hub.sec.railAt 1000000 = true) ∧ (s.hub.up ≤ s.hub.sec.railAt + 6000000)) ∧
    (∃ (s : State), (s.hub.sec.stage = sgRails) ∧ (1 ≤ s.hub.sec.railUp) ∧ (s.hub.ranFor s.hub.sec.railAt 5000000 = true)) ∧
    (∃ (s : State) (n : Fin 6), (n.val < s.hub.sec.railUp) ∧ (bit (s.hub.getf Fld.LPW_STATUS_PG) n = true)) ∧
    (∃ (s : State) (t : Nat), (s.hub.sec.railWait = some t) ∧ (t ≤ s.hub.up)) ∧
    (∃ (s : State) (t : Nat), (s.hub.rel.acts = []) ∧ (s.hub.pwr.failsafe.active = false) ∧ (s.hub.pwr.xtalFrom = some t) ∧ (s.hub.up ≤ t + 10000000)) ∧
    (∃ (s : State), (s.hub.pwr.failsafe.active = true)) ∧
    (∃ (s : State), (s.hub.domStep dSVC = 4) ∧ (s.hub.domState dSVC = dmStable) ∧ (s.hub.getf Fld.PWR_CTL_PARK_S ≠ 0)) := ⟨⟨2, by decide +kernel⟩,
    ⟨{ hub := hub [(Fld.LPW_CH_STATUS_STATE 6, chOn)] { lpw := { chans := [(6, { onT := 1000 })] } } }, by decide +kernel⟩,
    ⟨{ hub := { now := 6000000, sec := { stage := sgRails, railUp := 6 } } }, by decide +kernel⟩,
    ⟨{ hub := { now := 59999999999, sec := { stage := sgRails, railUp := 1, railFails := [0, 0] } } }, by decide +kernel⟩,
    ⟨{ hub := hub [(Fld.LPW_STATUS_PG, 63)] { sec := { railUp := 6, stage := sgService } } }, 5, by decide +kernel⟩,
    ⟨{ hub := { now := 7, sec := { railWait := some 7 } } }, 7, by decide +kernel⟩,
    ⟨{ hub := hub [(Fld.PWR_STATUS_XTAL_FAILS, 255)] { now := 10000000, pwr := { xtalFrom := some 0 } } }, 0, by decide +kernel⟩,
    ⟨{ hub := { pwr := { failsafe := { active := true } } } }, by decide +kernel⟩,
    ⟨{ hub := hub [(Fld.PWR_DOM_STATUS_STEP dSVC, 4), (Fld.PWR_DOM_STATUS_STATE dSVC, dmStable), (Fld.PWR_CTL_PARK_S, 1)] }, by decide +kernel⟩⟩

theorem witness_BootToService :
    (∃ (s : State), (s.hub.sec.stage = sgPowered) ∧ (s.hub.sec.inReset = false) ∧ (s.hub.isHeld = false)) ∧
    (∃ (s : State), (s.hub.rel.acts = []) ∧ (s.hub.sec.stage = sgRom) ∧ (s.hub.firstSlot ≤ 1)) ∧
    (∃ (s : State), (s.hub.sec.stage = sgFirmware)) ∧
    (∃ (s : State), (s.hub.sec.stage = sgBoard) ∧ (s.hub.linksSettled = true) ∧ (s.hub.sec.dumpOwed = false) ∧ (s.hub.pwr.failsafe.owed = false)) ∧
    (∃ (s : State), (s.hub.sec.stage = sgBoard) ∧ (s.hub.linksSettled = true) ∧ (s.hub.sec.dumpOwed = true)) := ⟨⟨{ hub := { lineMem := [(9, 1)], sec := { stage := sgPowered } } }, by decide +kernel⟩,
    ⟨{ hub := hub [(Fld.SEC_LC_STATE, 0)] { sec := { stage := sgRom } } }, by decide +kernel⟩,
    ⟨{ hub := { sec := { stage := sgFirmware } } }, by decide +kernel⟩,
    ⟨{ hub := { sec := { stage := sgBoard } } }, by decide +kernel⟩,
    ⟨{ hub := { sec := { stage := sgBoard, dumpOwed := true } } }, by decide +kernel⟩⟩

theorem witness_ResetsWatchdogAndDump :
    (∃ (s : State) (m : Fin 4), (s.hub.sec.inReset = true) ∧ (m ≠ 3)) ∧
    (∃ (s : State) (x : ResetDue), (s.hub.sec.dues.find? (fun x => x.cls != 6) = some x) ∧ (x.cls < 16) ∧ (x.detail < 16)) ∧
    (∃ (s : State) (d : Fin 24) (x : ResetDue), (s.hub.sec.dues.find? (fun x => x.cls == 6 && x.detail == d.val) = some x) ∧ (s.hub.domState d ≠ dmEntering) ∧ (s.hub.domState d ≠ dmExiting) ∧ (s.hub.domResetRefused d = false)) ∧
    (∃ (s : State), (s.hub.watched = true) ∧ (s.hub.sec.lastKick + 1600 ≤ s.hub.upTick) ∧ (s.hub.sec.stage1 = none) ∧ (s.hub.sec.fatal = none)) ∧
    (∃ (s : State) (t : Nat), (s.hub.sec.stage1 = some t) ∧ (s.hub.ranFor t 2000000000 = true)) ∧
    (∃ (c : Fin 6), (c = 1 ∨ c = 3 ∨ c = 5)) ∧
    (∃ (s : State) (f : Fatal), (s.hub.sec.fatal = some f) ∧ (f.cause < 16)) ∧
    (∃ (s : State) (v : Word), (s.hub.preserved = true) ∧ (bit v.toNat 0 = true)) ∧
    (∃ (v : Word), (bit v.toNat 0 = false)) := ⟨⟨{ hub := { sec := { inReset := true, railUp := 6 } } }, 1, by decide +kernel⟩,
    ⟨{ hub := { now := 62500 * 3, sec := { dues := [⟨6, 8, 1⟩, ⟨5, 1, 3⟩] } } }, ⟨5, 1, 3⟩, by decide +kernel⟩,
    ⟨{ hub := { now := 62500, sec := { dues := [⟨6, 8, 1⟩] } } }, 8, ⟨6, 8, 1⟩, by decide +kernel⟩,
    ⟨{ hub := { now := 62500 * 1600, sec := { stage := sgFirmware } } }, by decide +kernel⟩,
    ⟨{ hub := { now := 2000000000, sec := { stage1 := some 0, fatal := some { cause := 2, code := 0, args := 0, tick := 0, since := 0 } } } }, 0, by decide +kernel⟩,
    ⟨5, by decide +kernel⟩,
    ⟨{ hub := { sec := { fatal := some { cause := 2, code := 0, args := 0, tick := 0, since := 0 }, areaReady := true } } }, { cause := 2, code := 0, args := 0, tick := 0, since := 0 }, by decide +kernel⟩,
    ⟨{ hub := hub [(Fld.GEN_DUMP_STATUS_PRESERVED, 1)] { lineMem := [(255, 1), (65011712, 3)] } }, 1, by decide +kernel⟩,
    ⟨0xFFFFFFFE, by decide +kernel⟩⟩

theorem witness_BridgeRequestsAreQueued :
    (∃ (s : State) (w : Asker) (j : Job) (i : Nat), (s.hub.jobFor w 0x60 = some j) ∧ (fbrDescOk 0x60 j.d = true) ∧ (s.hub.mayReach w s.hub.unlocked j.d.qt false = true) ∧ (s.hub.isOwn j.d.qt = true) ∧ (j.d.fbrHigh = 0) ∧ (s.hub.BridgeOpen ⟨s.hub.addr, askerSource w⟩ j.d.fbrWin j.d.fbrOff (j.d.len / 4)) ∧ (s.hub.flag (Fld.FBR_WIN_CFG_READ_SENSITIVE j.d.fbrWin) = true) ∧ (s.hub.freeSlotFbr = some i)) ∧
    (∃ (s : State) (w : Asker) (j : Job), (s.hub.jobFor w 0x61 = some j) ∧ (fbrDescOk 0x61 j.d = true) ∧ (s.hub.mayReach w s.hub.unlocked j.d.qt true = true) ∧ (s.hub.isOwn j.d.qt = true) ∧ (s.hub.BridgeOpen ⟨s.hub.addr, askerSource w⟩ j.d.fbrWin j.d.fbrOff (j.d.len / 4)) ∧ (s.hub.winPoisoned j.d.fbrWin = false)) ∧
    (∃ (s : State) (w : Asker) (j : Job) (i : Nat), (s.hub.jobFor w 0x62 = some j) ∧ (fbrDescOk 0x62 j.d = true) ∧ (s.hub.mayReach w s.hub.unlocked j.d.qt true = true) ∧ (s.hub.isOwn j.d.qt = true) ∧ (s.hub.BridgeOpen ⟨s.hub.addr, askerSource w⟩ j.d.fbrWin j.d.fbrOff 1) ∧ (s.hub.winPoisoned j.d.fbrWin = false) ∧ (s.hub.flag (Fld.FBR_WIN_CFG_LOCK_ALLOWED j.d.fbrWin) = true) ∧ (s.hub.freeSlotFbr = some i)) ∧
    (∃ (s : State) (m : Msg) (i : Nat) (t : Hub), (s.hub.takeMsg 4 [0x50] = (some m, t)) ∧ (beNat (slice m.body 2 2) = 0) ∧ (t.BridgeOpen (msgInit m) (byteAt m.body 0) (beNat (slice m.body 4 4)) (byteAt m.body 1)) ∧ (t.flag (Fld.FBR_WIN_CFG_READ_SENSITIVE (byteAt m.body 0)) = true) ∧ (t.freeSlotFbr = some i)) ∧
    (∃ (s : State) (m : Msg) (t : Hub), (s.hub.takeMsg 4 [0x52] = (some m, t)) ∧ (t.BridgeOpen (msgInit m) (byteAt m.body 0) (beNat (slice m.body 4 4)) (byteAt m.body 1)) ∧ (t.winPoisoned (byteAt m.body 0) = false)) ∧
    (∃ (s : State) (m : Msg) (i : Nat) (t : Hub), (s.hub.takeMsg 4 [0x54] = (some m, t)) ∧ (t.BridgeOpen (msgInit m) (byteAt m.body 0) (beNat (slice m.body 4 4)) 1) ∧ (t.winPoisoned (byteAt m.body 0) = false) ∧ (t.flag (Fld.FBR_WIN_CFG_LOCK_ALLOWED (byteAt m.body 0)) = true) ∧ (t.freeSlotFbr = some i)) ∧
    (∃ (s : State) (w : Fin 64) (v : Word), (s.hub.flag (Fld.FBR_WIN_CFG_EN w) = false) ∧ (bit v.toNat 31 = true) ∧ (8 ≤ bits v.toNat 25 21) ∧ (bits v.toNat 25 21 ≤ 26)) := ⟨⟨{ hub := hub [(Fld.GEN_HUB_ADDR_ADDR, 3), (Fld.FBR_WIN_CFG_EN 63, 1), (Fld.FBR_WIN_CFG_SIZE 63, 8), (Fld.FBR_WIN_CFG_READ_SENSITIVE 63, 1)] { hif := jobs 1 [job (desc 0x60 3 224 0 (2 ^ 26 * 63 + 0x20))] } }, .ring 1, job (desc 0x60 3 224 0 (2 ^ 26 * 63 + 0x20)), 0, by and_intros <;> first | decide +kernel | exact ⟨by decide +kernel, by decide +kernel, by decide +kernel, by decide +kernel⟩⟩,
    ⟨{ hub := hub [(Fld.GEN_HUB_ADDR_ADDR, 3), (Fld.FBR_WIN_CFG_EN 63, 1), (Fld.FBR_WIN_CFG_SIZE 63, 8), (Fld.FBR_WIN_NPHI 63, 0x24)] { hif := jobs 1 [job (desc 0x61 3 8 0 (2 ^ 26 * 63 + 0x20))] } }, .ring 1, job (desc 0x61 3 8 0 (2 ^ 26 * 63 + 0x20)), by decide +kernel, by decide +kernel, by decide +kernel, by decide +kernel, ⟨by decide +kernel, by decide +kernel, by decide +kernel, by decide +kernel⟩, by decide +kernel⟩,
    ⟨{ hub := hub [(Fld.GEN_HUB_ADDR_ADDR, 3), (Fld.FBR_WIN_CFG_EN 0, 1), (Fld.FBR_WIN_CFG_SIZE 0, 8), (Fld.FBR_WIN_CFG_LOCK_ALLOWED 0, 1)] { hif := jobs 1 [job (desc 0x62 3 4 5 (2 ^ 32 * 255 + 0x20) 2)] } }, .ring 1, job (desc 0x62 3 4 5 (2 ^ 32 * 255 + 0x20) 2), 0, by decide +kernel, by decide +kernel, by decide +kernel, by decide +kernel, ⟨by decide +kernel, by decide +kernel, by decide +kernel, by decide +kernel⟩, by decide +kernel⟩,
    ⟨{ hub := msg 4 0x50 0 3 8 [0, 1, 0, 0, 0, 0, 0, 0x20] (hub [(Fld.GEN_HUB_ADDR_ADDR, 3), (Fld.FBR_WIN_CFG_EN 0, 1), (Fld.FBR_WIN_CFG_SIZE 0, 8), (Fld.FBR_WIN_CFG_READ_SENSITIVE 0, 1)]) }, msgAt ((msg 4 0x50 0 3 8 [0, 1, 0, 0, 0, 0, 0, 0x20] (hub [(Fld.GEN_HUB_ADDR_ADDR, 3), (Fld.FBR_WIN_CFG_EN 0, 1), (Fld.FBR_WIN_CFG_SIZE 0, 8), (Fld.FBR_WIN_CFG_READ_SENSITIVE 0, 1)]) : Hub).takeMsg 4 [0x50]).1, 0, ((msg 4 0x50 0 3 8 [0, 1, 0, 0, 0, 0, 0, 0x20] (hub [(Fld.GEN_HUB_ADDR_ADDR, 3), (Fld.FBR_WIN_CFG_EN 0, 1), (Fld.FBR_WIN_CFG_SIZE 0, 8), (Fld.FBR_WIN_CFG_READ_SENSITIVE 0, 1)]) : Hub).takeMsg 4 [0x50]).2, by decide +kernel, by decide +kernel, ⟨by decide +kernel, by decide +kernel, by decide +kernel, by decide +kernel⟩, by decide +kernel⟩,
    ⟨{ hub := msg 4 0x52 0 3 8 [0, 1, 0, 0, 0, 0, 0, 0x20, 0, 0, 0, 7] (hub [(Fld.GEN_HUB_ADDR_ADDR, 3), (Fld.FBR_WIN_CFG_EN 0, 1), (Fld.FBR_WIN_CFG_SIZE 0, 8), (Fld.FBR_WIN_NPHI 0, 0x24)]) }, msgAt ((msg 4 0x52 0 3 8 [0, 1, 0, 0, 0, 0, 0, 0x20, 0, 0, 0, 7] (hub [(Fld.GEN_HUB_ADDR_ADDR, 3), (Fld.FBR_WIN_CFG_EN 0, 1), (Fld.FBR_WIN_CFG_SIZE 0, 8), (Fld.FBR_WIN_NPHI 0, 0x24)]) : Hub).takeMsg 4 [0x52]).1, ((msg 4 0x52 0 3 8 [0, 1, 0, 0, 0, 0, 0, 0x20, 0, 0, 0, 7] (hub [(Fld.GEN_HUB_ADDR_ADDR, 3), (Fld.FBR_WIN_CFG_EN 0, 1), (Fld.FBR_WIN_CFG_SIZE 0, 8), (Fld.FBR_WIN_NPHI 0, 0x24)]) : Hub).takeMsg 4 [0x52]).2, by decide +kernel, ⟨by decide +kernel, by decide +kernel, by decide +kernel, by decide +kernel⟩, by decide +kernel⟩,
    ⟨{ hub := msg 4 0x54 0 3 8 [0, 0, 0, 0, 0, 0, 0, 0x20, 0, 0, 0, 7, 0, 0, 0, 3] (hub [(Fld.GEN_HUB_ADDR_ADDR, 3), (Fld.FBR_WIN_CFG_EN 0, 1), (Fld.FBR_WIN_CFG_SIZE 0, 8), (Fld.FBR_WIN_CFG_LOCK_ALLOWED 0, 1)]) }, msgAt ((msg 4 0x54 0 3 8 [0, 0, 0, 0, 0, 0, 0, 0x20, 0, 0, 0, 7, 0, 0, 0, 3] (hub [(Fld.GEN_HUB_ADDR_ADDR, 3), (Fld.FBR_WIN_CFG_EN 0, 1), (Fld.FBR_WIN_CFG_SIZE 0, 8), (Fld.FBR_WIN_CFG_LOCK_ALLOWED 0, 1)]) : Hub).takeMsg 4 [0x54]).1, 0, ((msg 4 0x54 0 3 8 [0, 0, 0, 0, 0, 0, 0, 0x20, 0, 0, 0, 7, 0, 0, 0, 3] (hub [(Fld.GEN_HUB_ADDR_ADDR, 3), (Fld.FBR_WIN_CFG_EN 0, 1), (Fld.FBR_WIN_CFG_SIZE 0, 8), (Fld.FBR_WIN_CFG_LOCK_ALLOWED 0, 1)]) : Hub).takeMsg 4 [0x54]).2, by decide +kernel, ⟨by decide +kernel, by decide +kernel, by decide +kernel, by decide +kernel⟩, by decide +kernel⟩,
    ⟨{ hub := {} }, 0, 0x83400000, by decide +kernel⟩⟩

theorem witness_ZoneBusCyclesAndParkedResults :
    (∃ (s : State) (r : FbrReq) (rs : List FbrReq) (p : Parked) (ws : List Word), (s.hub.fbr.reqs = r :: rs) ∧ (s.hub.busFree = true) ∧ (r.poisoned = false) ∧ (s.hub.flag (Fld.FBR_ZCS_CFG_EN r.cs) = true) ∧ (Tab.get? r.slot s.hub.fbr.parked = some p) ∧ (r.kind = .read) ∧ (r.count ≤ ws.length)) ∧
    (∃ (s : State) (r : FbrReq) (rs : List FbrReq) (p : Parked) (ws : List Word), (s.hub.fbr.reqs = r :: rs) ∧ (s.hub.busFree = true) ∧ (r.poisoned = false) ∧ (s.hub.flag (Fld.FBR_ZCS_CFG_EN r.cs) = true) ∧ (Tab.get? r.slot s.hub.fbr.parked = some p) ∧ (r.kind = .locked) ∧ (1 ≤ ws.length)) ∧
    (∃ (s : State) (r : FbrReq) (rs : List FbrReq) (p : Parked) (ws : List Word), (s.hub.fbr.reqs = r :: rs) ∧ (s.hub.busFree = true) ∧ (r.poisoned = false) ∧ (s.hub.flag (Fld.FBR_ZCS_CFG_EN r.cs) = true) ∧ (Tab.get? r.slot s.hub.fbr.parked = some p) ∧ (r.kind = .read) ∧ (ws.length < r.count)) ∧
    (∃ (s : State) (r : FbrReq) (rs : List FbrReq), (s.hub.fbr.reqs = r :: rs) ∧ (s.hub.busFree = true) ∧ (r.poisoned = false) ∧ (s.hub.flag (Fld.FBR_ZCS_CFG_EN r.cs) = true) ∧ (r.kind = .write)) ∧
    (∃ (s : State) (r : FbrReq) (rs : List FbrReq) (ws : List Word), (s.hub.fbr.reqs = r :: rs) ∧ (s.hub.busFree = true) ∧ (r.poisoned = false) ∧ (s.hub.flag (Fld.FBR_ZCS_CFG_EN r.cs) = true) ∧ (r.kind = .write) ∧ (ws.length < r.count) ∧ (r.posted = true)) ∧
    (∃ (s : State) (i : Fin 256) (p : Parked) (t : Nat), (Tab.get? i.val s.hub.fbr.parked = some p) ∧ (p.ready = some t) ∧ (p.claimed = none) ∧ (s.hub.staleAt p t < s.hub.tick)) ∧
    (∃ (s : State) (i : Fin 256) (p : Parked) (t : Nat), (Tab.get? i.val s.hub.fbr.parked = some p) ∧ (p.claimed = some t) ∧ (t + 16 ≤ s.hub.tick)) ∧
    (∃ (s : State) (t : Nat) (b : Nat) (c : Nat), (s.hub.atL0 dFBR = true) ∧ (s.hub.fbr.zint = [b, c]) ∧ (t % 1000 = 0) ∧ (1000 ≤ t) ∧ (s.hub.now ≤ t) ∧ (s.hub.fbr.zintAt = some (t - 1000))) ∧
    (∃ (s : State) (c : Fin 4), (s.hub.atL0 dFBR = true) ∧ (s.hub.pollReady c = true) ∧ (s.hub.flag (Fld.FBR_ZCS_CFG_EN c) = true)) ∧
    (∃ (s : State) (c : Fin 4) (p : FbrPoll), (s.hub.atL0 dFBR = true) ∧ (s.hub.pollReady c = true) ∧ (Tab.get? c.val s.hub.fbr.polls = some p)) := ⟨⟨{ hub := hub [(Fld.FBR_ZCS_CFG_EN 2, 1)] { fbr := { reqs := [{ who := ⟨3, 1⟩, carrier := 0, kind := .read, win := 0, cs := 2, zone := 64, base := 0, count := 2 }], parked := [(0, { gen := 1, who := ⟨3, 1⟩, win := 0, off := 0, count := 2, base := 0 })] } } }, { who := ⟨3, 1⟩, carrier := 0, kind := .read, win := 0, cs := 2, zone := 64, base := 0, count := 2 }, [], { gen := 1, who := ⟨3, 1⟩, win := 0, off := 0, count := 2, base := 0 }, [7, 8], by decide +kernel⟩,
    ⟨{ hub := hub [(Fld.FBR_ZCS_CFG_EN 2, 1)] { fbr := { reqs := [{ who := ⟨3, 1⟩, carrier := 0, kind := .locked, win := 0, cs := 2, zone := 64, base := 0, count := 1, vals := [5], mask := 255 }], parked := [(0, { gen := 1, who := ⟨3, 1⟩, win := 0, off := 0, count := 1, base := 0 })] } } }, { who := ⟨3, 1⟩, carrier := 0, kind := .locked, win := 0, cs := 2, zone := 64, base := 0, count := 1, vals := [5], mask := 255 }, [], { gen := 1, who := ⟨3, 1⟩, win := 0, off := 0, count := 1, base := 0 }, [7], by decide +kernel⟩,
    ⟨{ hub := hub [(Fld.FBR_ZCS_CFG_EN 2, 1)] { fbr := { reqs := [{ who := ⟨3, 1⟩, carrier := 0, kind := .read, win := 0, cs := 2, zone := 64, base := 0, count := 2 }], parked := [(0, { gen := 1, who := ⟨3, 1⟩, win := 0, off := 0, count := 2, base := 0 })] } } }, { who := ⟨3, 1⟩, carrier := 0, kind := .read, win := 0, cs := 2, zone := 64, base := 0, count := 2 }, [], { gen := 1, who := ⟨3, 1⟩, win := 0, off := 0, count := 2, base := 0 }, [7], by decide +kernel⟩,
    ⟨{ hub := hub [(Fld.FBR_ZCS_CFG_EN 2, 1)] { fbr := { reqs := [{ who := ⟨3, 1⟩, carrier := 0, kind := .write, win := 0, cs := 2, zone := 64, base := 0, count := 2, vals := [5, 6], posted := true }] } } }, { who := ⟨3, 1⟩, carrier := 0, kind := .write, win := 0, cs := 2, zone := 64, base := 0, count := 2, vals := [5, 6], posted := true }, [], by decide +kernel⟩,
    ⟨{ hub := hub [(Fld.FBR_ZCS_CFG_EN 2, 1)] { fbr := { reqs := [{ who := ⟨3, 1⟩, carrier := 0, kind := .write, win := 0, cs := 2, zone := 64, base := 0, count := 2, vals := [5, 6], posted := true }] } } }, { who := ⟨3, 1⟩, carrier := 0, kind := .write, win := 0, cs := 2, zone := 64, base := 0, count := 2, vals := [5, 6], posted := true }, [], [0], by decide +kernel⟩,
    ⟨{ hub := hub [(Fld.GEN_HUB_ADDR_ADDR, 3)] { now := 62500 * 33, fbr := { parked := [(255, { gen := 1, who := ⟨3, 1⟩, win := 0, off := 0, count := 1, base := 0, ready := some 0 })] } } }, 255, { gen := 1, who := ⟨3, 1⟩, win := 0, off := 0, count := 1, base := 0, ready := some 0 }, 0, by decide +kernel⟩,
    ⟨{ hub := { now := 62500 * 16, fbr := { parked := [(255, { gen := 1, who := ⟨3, 1⟩, win := 0, off := 0, count := 1, base := 0, ready := some 0, claimed := some 0 })] } } }, 255, { gen := 1, who := ⟨3, 1⟩, win := 0, off := 0, count := 1, base := 0, ready := some 0, claimed := some 0 }, 0, by decide +kernel⟩,
    ⟨{ hub := { fbr := { zint := [15, 15], zintAt := some 2000 } } }, 3000, 15, 15, by decide +kernel⟩,
    ⟨{ hub := hub [(Fld.FBR_ZCS_CFG_POLL 3, 1), (Fld.FBR_ZCS_CFG_EN 3, 1), (Fld.FBR_ZCS_POLL_ADDR 3, 5)] { fbr := { pollDue := [3] } } }, 3, by decide +kernel⟩,
    ⟨{ hub := hub [(Fld.FBR_ZCS_CFG_POLL 3, 1), (Fld.FBR_ZCS_CFG_EN 3, 1)] { fbr := { pollDue := [3], polls := [(3, ⟨9, false⟩)] } } }, 3, ⟨9, false⟩, by decide +kernel⟩⟩

theorem witness_CanControllersSendAndReceive :
    (∃ (s : State) (c : Fin 4) (hi : Bool) (v : Word) (i : Fin 32), let m := if hi then 32 + i.val else i.val; (bit v.toNat i = true) ∧ (s.hub.flag (Fld.FBR_MB_CFG_DIR c m) = true)) ∧
    (∃ (s : State) (c : Fin 4) (m : Fin 64), (Tab.get? c.val s.hub.fbr.canNow = some m.val) ∧ (s.hub.mbReleased c m = true)) ∧
    (∃ (s : State) (i : Fin 1024) (l : Launch), (s.hub.due i 0x10 = some l) ∧ (l.fired = false) ∧ (l.ctrl < 4) ∧ (l.mbox < 64) ∧ (s.hub.flag (Fld.FBR_MB_CFG_DIR l.ctrl l.mbox) = true)) ∧
    (∃ (s : State) (c : Fin 4) (f : CanFrame) (m : Fin 64) (t : Nat), (s.hub.atL0 dFBR = true) ∧ (s.hub.flag (Fld.FBR_CAN_CFG_EN c) = true) ∧ (s.hub.getf (Fld.FBR_CAN_STATUS_STATE c) < 2) ∧ ((f.fdf = true → s.hub.flag (Fld.FBR_CAN_CFG_FD_EN c) = true)) ∧ ((List.range 64).find? (fun m => s.hub.mbTakes c m f) = some m.val) ∧ (t < 2 ^ 64)) ∧
    (∃ (s : State) (c : Fin 4) (f : CanFrame), (s.hub.atL0 dFBR = true) ∧ (s.hub.flag (Fld.FBR_CAN_CFG_EN c) = true) ∧ (s.hub.getf (Fld.FBR_CAN_STATUS_STATE c) < 2) ∧ ((f.fdf = true → s.hub.flag (Fld.FBR_CAN_CFG_FD_EN c) = true)) ∧ ((∀ m < 64, s.hub.mbTakes c m f = false))) ∧
    (∃ (s : State) (c : Fin 4) (t : Nat) (r : Nat), (s.hub.atL0 dFBR = true) ∧ (s.hub.flag (Fld.FBR_CAN_CFG_EN c) = true) ∧ (s.hub.getf (Fld.FBR_CAN_STATUS_STATE c) < 2) ∧ (s.hub.getf (Fld.FBR_CAN_STATUS_STATE c) ≠ 1) ∧ (canStateOf t r = 1)) ∧
    (∃ (s : State) (c : Fin 4) (t : Nat), (s.hub.atL0 dFBR = true) ∧ (s.hub.flag (Fld.FBR_CAN_CFG_EN c) = true) ∧ (s.hub.getf (Fld.FBR_CAN_STATUS_STATE c) < 2) ∧ (255 < t)) ∧
    (∃ (s : State) (c : Fin 4), (s.hub.atL0 dFBR = true) ∧ (s.hub.flag (Fld.FBR_CAN_CFG_EN c) = true) ∧ (s.hub.getf (Fld.FBR_CAN_STATUS_STATE c) = 3)) := ⟨⟨{ hub := hub [(Fld.FBR_MB_CFG_DIR 3 63, 1)] }, 3, true, 0x80000000, 31, by decide +kernel, by decide +kernel⟩,
    ⟨{ hub := hub [(Fld.FBR_CAN_TXREQ_HI 3, 0x80000000), (Fld.FBR_CAN_STATUS_TEC 3, 255)] { fbr := { canNow := [(3, 63)] } } }, 3, 63, by decide +kernel⟩,
    ⟨{ hub := hub [(Fld.FBR_MB_CFG_DIR 0 63, 1), (Fld.LTM_STATUS_STATE, 2)] { time := { launches := [(1023, { time := 100, dst := 3, action := 0x10, flags := 0, target := 63, arg := 0, cookie := 0, src := .own 1, f := 100, handed := true })] } } }, 1023, { time := 100, dst := 3, action := 0x10, flags := 0, target := 63, arg := 0, cookie := 0, src := .own 1, f := 100, handed := true }, by decide +kernel⟩,
    ⟨{ hub := hub [(Fld.FBR_CAN_CFG_EN 2, 1), (Fld.FBR_MB_CFG_EN 2 63, 1), (Fld.FBR_MB_CFG_ID 2 63, 0x7FF), (Fld.FBR_MB_STAT_NEW 2 63, 1)] }, 2, { ide := false, fdf := false, brs := false, rtr := false, id := 0x7FF, dlc := 8, data := [1, 2, 3, 4, 5, 6, 7, 8] }, 63, 0x123456789ABCDEF0, by decide +kernel⟩,
    ⟨{ hub := hub [(Fld.FBR_CAN_CFG_EN 2, 1), (Fld.FBR_CAN_STATUS_REC 2, 200)] }, 2, { ide := false, fdf := false, brs := false, rtr := false, id := 0x7FF, dlc := 8, data := [1, 2, 3, 4, 5, 6, 7, 8] }, by decide +kernel⟩,
    ⟨{ hub := hub [(Fld.FBR_CAN_CFG_EN 0, 1)] }, 0, 255, 127, by decide +kernel⟩,
    ⟨{ hub := hub [(Fld.FBR_CAN_CFG_EN 0, 1), (Fld.FBR_CAN_STATUS_STATE 0, 1), (Fld.FBR_CAN_CFG_AUTO_RECOVER 0, 1)] { fbr := { canNow := [(0, 4)], launched := [(4, [7])] } } }, 0, 256, by decide +kernel⟩,
    ⟨{ hub := hub [(Fld.FBR_CAN_CFG_EN 3, 1), (Fld.FBR_CAN_STATUS_STATE 3, 3)] }, 3, by decide +kernel⟩⟩

theorem witness_ManagementCommandChecks :
    (∃ (s : State) (w : Asker) (b : List Byte) (ok : Bool) (j : Job) (c : Instr) (op : Nat) (allowed : Bool) (formed : Desc → Bool) (may : Desc → Bool), ((c, op, allowed, formed, may) ∈ [ (Instr.regRead w ok, 0x40, true, regReadOk, fun d => s.hub.mayReach w s.hub.unlocked d.qt false), (.regWrite w (some b), 0x41, true, regWriteOk, fun d => s.hub.mayReach w s.hub.unlocked d.qt true), (.ping w, 0x43, true, pingOk, fun d => s.hub.mayReach w s.hub.unlocked d.qt false), (.planLoad w (some b), 0x48, s.hub.headHost w, planLoadOk, fun _ => true), (.planArm w, 0x49, s.hub.headHost w, planArmOk, fun _ => true), (.planDisarm w, 0x4A, s.hub.headHost w, planArmOk, fun _ => true), (.planQuery w, 0x4B, s.hub.headHost w, planQueryOk, fun _ => true), (.launch w (some b), 0x50, true, launchOk, fun d => s.hub.mayLaunch w d.qt), (.launchCancel w, 0x51, true, launchCancelOk, fun d => s.hub.mayLaunch w d.qt), (.reset w, 0x58, true, resetOk, fun d => s.hub.mayReach w s.hub.unlocked d.qt true)]) ∧ (s.hub.Takes w op j)) := ⟨{ hub := hub [(Fld.GEN_HUB_ADDR_ADDR, 0), (Fld.GEN_STRAPS_ROLE, 2), (Fld.TRK_PORT_STATUS_LINK 1, 5)] { hif := jobs 1 [job (desc 0x43 7 0 0 0)] } }, .ring 1, [], true, job (desc 0x43 7 0 0 0), .ping (.ring 1), 0x43, true, pingOk, fun d => (hub [(Fld.GEN_HUB_ADDR_ADDR, 0), (Fld.GEN_STRAPS_ROLE, 2), (Fld.TRK_PORT_STATUS_LINK 1, 5)] { hif := jobs 1 [job (desc 0x43 7 0 0 0)] } : Hub).mayReach (.ring 1) (hub [(Fld.GEN_HUB_ADDR_ADDR, 0), (Fld.GEN_STRAPS_ROLE, 2), (Fld.TRK_PORT_STATUS_LINK 1, 5)] { hif := jobs 1 [job (desc 0x43 7 0 0 0)] } : Hub).unlocked d.qt false, .tail _ (.tail _ (.head _)), ⟨rfl, by decide +kernel, by decide +kernel⟩⟩

theorem witness_ManagementCommandsAtTheHub :
    (∃ (s : State) (w : Asker) (j : Job), (s.hub.Takes w 0x40 j) ∧ (regReadOk j.d = true) ∧ (s.hub.mayReach w s.hub.unlocked j.d.qt false = true) ∧ (s.hub.isOwn j.d.qt = true)) ∧
    (∃ (s : State) (w : Asker) (j : Job), (s.hub.Takes w 0x41 j) ∧ (regWriteOk j.d = true) ∧ (s.hub.mayReach w s.hub.unlocked j.d.qt true = true) ∧ (s.hub.isOwn j.d.qt = true)) ∧
    (∃ (s : State) (w : Asker) (j : Job), (s.hub.Takes w 0x42 j) ∧ (s.hub.headHost w = true) ∧ (regHopOk j.d = true)) ∧
    (∃ (s : State) (w : Asker) (j : Job), (s.hub.Takes w 0x43 j) ∧ (pingOk j.d = true) ∧ (s.hub.isOwn j.d.qt = true) ∧ (s.hub.mayReach w s.hub.unlocked j.d.qt false = true)) ∧
    (∃ (s : State) (w : Asker) (j : Job), (s.hub.Takes w 0x48 j) ∧ (s.hub.headHost w = true) ∧ (planLoadOk j.d = true) ∧ (s.hub.isOwn j.d.qt = true)) ∧
    (∃ (s : State) (w : Asker) (j : Job), (s.hub.Takes w 0x49 j) ∧ (s.hub.headHost w = true) ∧ (planArmOk j.d = true) ∧ (s.hub.isOwn j.d.qt = true)) ∧
    (∃ (s : State) (w : Asker) (j : Job), (s.hub.Takes w 0x4A j) ∧ (s.hub.headHost w = true) ∧ (planArmOk j.d = true) ∧ (s.hub.isOwn j.d.qt = true)) ∧
    (∃ (s : State) (w : Asker) (j : Job), (s.hub.Takes w 0x4B j) ∧ (s.hub.headHost w = true) ∧ (planQueryOk j.d = true) ∧ (s.hub.isOwn j.d.qt = true)) ∧
    (∃ (s : State) (w : Asker) (j : Job), (s.hub.Takes w 0x50 j) ∧ (launchOk j.d = true) ∧ (s.hub.mayLaunch w j.d.qt = true) ∧ ((s.hub.isOwn j.d.qt = true ∨ j.d.qt = 0x1FF))) ∧
    (∃ (s : State) (w : Asker) (j : Job), (s.hub.Takes w 0x51 j) ∧ (launchCancelOk j.d = true) ∧ (s.hub.mayLaunch w j.d.qt = true) ∧ (s.hub.isOwn j.d.qt = true)) ∧
    (∃ (s : State) (w : Asker) (j : Job), (s.hub.Takes w 0x58 j) ∧ (resetOk j.d = true) ∧ (s.hub.isOwn j.d.qt = true) ∧ (s.hub.mayReach w s.hub.unlocked j.d.qt true = true)) := ⟨⟨{ hub := hub [(Fld.GEN_HUB_ADDR_ADDR, 3)] { hif := jobs 1 [job (desc 0x40 3 224 4096 0)] } }, .ring 1, job (desc 0x40 3 224 4096 0), ⟨rfl, by decide +kernel, by decide +kernel⟩, by decide +kernel⟩,
    ⟨{ hub := hub [(Fld.GEN_HUB_ADDR_ADDR, 3)] { hif := jobs 1 [job (desc 0x41 3 8 4096 0x20)] } }, .ring 1, job (desc 0x41 3 8 4096 0x20), ⟨rfl, by decide +kernel, by decide +kernel⟩, by decide +kernel⟩,
    ⟨{ hub := hub [(Fld.GEN_HUB_ADDR_ADDR, 0), (Fld.GEN_STRAPS_ROLE, 2), (Fld.TRK_PORT_STATUS_LINK 1, 5)] { hif := jobs 1 [job (desc 0x42 256 4 7 8 2)] } }, .ring 1, job (desc 0x42 256 4 7 8 2), ⟨rfl, by decide +kernel, by decide +kernel⟩, by decide +kernel⟩,
    ⟨{ hub := hub [(Fld.GEN_HUB_ADDR_ADDR, 3)] { hif := jobs 1 [job (desc 0x43 3 0 0 0)] } }, .ring 1, job (desc 0x43 3 0 0 0), ⟨rfl, by decide +kernel, by decide +kernel⟩, by decide +kernel⟩,
    ⟨{ hub := hub [(Fld.GEN_HUB_ADDR_ADDR, 0), (Fld.GEN_STRAPS_ROLE, 2)] { hif := jobs 1 [job (desc 0x48 0 64 4096 1)] } }, .ring 1, job (desc 0x48 0 64 4096 1), ⟨rfl, by decide +kernel, by decide +kernel⟩, by decide +kernel⟩,
    ⟨{ hub := hub [(Fld.GEN_HUB_ADDR_ADDR, 0), (Fld.GEN_STRAPS_ROLE, 2)] { hif := jobs 1 [job (desc 0x49 0 0 1 100 2)] } }, .ring 1, job (desc 0x49 0 0 1 100 2), ⟨rfl, by decide +kernel, by decide +kernel⟩, by decide +kernel⟩,
    ⟨{ hub := hub [(Fld.GEN_HUB_ADDR_ADDR, 0), (Fld.GEN_STRAPS_ROLE, 2)] { hif := jobs 1 [job (desc 0x4A 0 0 1 100 2)] } }, .ring 1, job (desc 0x4A 0 0 1 100 2), ⟨rfl, by decide +kernel, by decide +kernel⟩, by decide +kernel⟩,
    ⟨{ hub := hub [(Fld.GEN_HUB_ADDR_ADDR, 0), (Fld.GEN_STRAPS_ROLE, 2)] { hif := jobs 1 [job (desc 0x4B 0 0 1 0 2)] } }, .ring 1, job (desc 0x4B 0 0 1 0 2), ⟨rfl, by decide +kernel, by decide +kernel⟩, by decide +kernel⟩,
    ⟨{ hub := hub [(Fld.GEN_HUB_ADDR_ADDR, 0), (Fld.GEN_STRAPS_ROLE, 2)] { hif := jobs 1 [job (desc 0x50 0x1FF 224 4096 0)] } }, .ring 1, job (desc 0x50 0x1FF 224 4096 0), ⟨rfl, by decide +kernel, by decide +kernel⟩, by decide +kernel⟩,
    ⟨{ hub := hub [(Fld.GEN_HUB_ADDR_ADDR, 3)] { hif := jobs 1 [job (desc 0x51 3 0 1023 5 2)] } }, .ring 1, job (desc 0x51 3 0 1023 5 2), ⟨rfl, by decide +kernel, by decide +kernel⟩, by decide +kernel⟩,
    ⟨{ hub := hub [(Fld.GEN_HUB_ADDR_ADDR, 3)] { hif := jobs 1 [job (desc 0x58 3 0 0x28 0 2)] } }, .ring 1, job (desc 0x58 3 0 0x28 0 2), ⟨rfl, by decide +kernel, by decide +kernel⟩, by decide +kernel⟩⟩

theorem witness_ManagementMessagesServed :
    (∃ (s : State) (m : Msg) (t : Hub), (s.hub.takeMsg 4 [0x01] = (some m, t))) ∧
    (∃ (s : State) (m : Msg) (t : Hub), (s.hub.takeMsg 4 [0x03] = (some m, t))) ∧
    (∃ (s : State) (m : Msg) (t : Hub), (s.hub.takeMsg 4 [0x05] = (some m, t))) ∧
    (∃ (s : State) (m : Msg) (t : Hub), (s.hub.takeMsg 4 [0x06] = (some m, t))) ∧
    (∃ (s : State) (m : Msg) (t : Hub), (s.hub.takeMsg 4 [0x20] = (some m, t))) ∧
    (∃ (s : State) (m : Msg) (t : Hub), (s.hub.takeMsg 4 [0x21] = (some m, t))) ∧
    (∃ (s : State) (m : Msg) (t : Hub), (s.hub.takeMsg 4 [0x38] = (some m, t))) := ⟨⟨{ hub := msg 4 1 0 3 8 [0, 0, 0, 0, 57] (hub [(Fld.GEN_HUB_ADDR_ADDR, 3), (Fld.TRK_PORT_STATUS_LINK 0, 5)]) }, msgAt ((msg 4 1 0 3 8 [0, 0, 0, 0, 57] (hub [(Fld.GEN_HUB_ADDR_ADDR, 3), (Fld.TRK_PORT_STATUS_LINK 0, 5)]) : Hub).takeMsg 4 [0x01]).1, ((msg 4 1 0 3 8 [0, 0, 0, 0, 57] (hub [(Fld.GEN_HUB_ADDR_ADDR, 3), (Fld.TRK_PORT_STATUS_LINK 0, 5)]) : Hub).takeMsg 4 [0x01]).2, by decide +kernel⟩,
    ⟨{ hub := msg 4 3 0 3 8 [0, 0, 0, 32, 2, 0, 0, 0, 0, 0, 0, 9, 0, 0, 0, 1] (hub [(Fld.GEN_HUB_ADDR_ADDR, 3), (Fld.TRK_PORT_STATUS_LINK 0, 5)]) }, msgAt ((msg 4 3 0 3 8 [0, 0, 0, 32, 2, 0, 0, 0, 0, 0, 0, 9, 0, 0, 0, 1] (hub [(Fld.GEN_HUB_ADDR_ADDR, 3), (Fld.TRK_PORT_STATUS_LINK 0, 5)]) : Hub).takeMsg 4 [0x03]).1, ((msg 4 3 0 3 8 [0, 0, 0, 32, 2, 0, 0, 0, 0, 0, 0, 9, 0, 0, 0, 1] (hub [(Fld.GEN_HUB_ADDR_ADDR, 3), (Fld.TRK_PORT_STATUS_LINK 0, 5)]) : Hub).takeMsg 4 [0x03]).2, by decide +kernel⟩,
    ⟨{ hub := msg 4 5 0 0x1FF 8 [0, 1, 0, 0, 0, 0, 0, 8, 0, 0, 0, 3] (hub [(Fld.TRK_PORT_STATUS_LINK 0, 5)]) (port := 0) }, msgAt ((msg 4 5 0 0x1FF 8 [0, 1, 0, 0, 0, 0, 0, 8, 0, 0, 0, 3] (hub [(Fld.TRK_PORT_STATUS_LINK 0, 5)]) (port := 0) : Hub).takeMsg 4 [0x05]).1, ((msg 4 5 0 0x1FF 8 [0, 1, 0, 0, 0, 0, 0, 8, 0, 0, 0, 3] (hub [(Fld.TRK_PORT_STATUS_LINK 0, 5)]) (port := 0) : Hub).takeMsg 4 [0x05]).2, by decide +kernel⟩,
    ⟨{ hub := msg 4 6 0 3 8 [0, 1, 2, 3, 4, 5, 6, 7] (hub [(Fld.GEN_HUB_ADDR_ADDR, 3), (Fld.TRK_PORT_STATUS_LINK 0, 5)]) }, msgAt ((msg 4 6 0 3 8 [0, 1, 2, 3, 4, 5, 6, 7] (hub [(Fld.GEN_HUB_ADDR_ADDR, 3), (Fld.TRK_PORT_STATUS_LINK 0, 5)]) : Hub).takeMsg 4 [0x06]).1, ((msg 4 6 0 3 8 [0, 1, 2, 3, 4, 5, 6, 7] (hub [(Fld.GEN_HUB_ADDR_ADDR, 3), (Fld.TRK_PORT_STATUS_LINK 0, 5)]) : Hub).takeMsg 4 [0x06]).2, by decide +kernel⟩,
    ⟨{ hub := msg 4 0x20 0 3 8 ([7] ++ zeros 231) (hub [(Fld.GEN_HUB_ADDR_ADDR, 3)]) }, msgAt ((msg 4 0x20 0 3 8 ([7] ++ zeros 231) (hub [(Fld.GEN_HUB_ADDR_ADDR, 3)]) : Hub).takeMsg 4 [0x20]).1, ((msg 4 0x20 0 3 8 ([7] ++ zeros 231) (hub [(Fld.GEN_HUB_ADDR_ADDR, 3)]) : Hub).takeMsg 4 [0x20]).2, by decide +kernel⟩,
    ⟨{ hub := msg 4 0x21 0 3 8 (zeros 16) (hub [(Fld.GEN_HUB_ADDR_ADDR, 3)]) }, msgAt ((msg 4 0x21 0 3 8 (zeros 16) (hub [(Fld.GEN_HUB_ADDR_ADDR, 3)]) : Hub).takeMsg 4 [0x21]).1, ((msg 4 0x21 0 3 8 (zeros 16) (hub [(Fld.GEN_HUB_ADDR_ADDR, 3)]) : Hub).takeMsg 4 [0x21]).2, by decide +kernel⟩,
    ⟨{ hub := msg 4 0x38 0 3 8 ([0x28] ++ zeros 7) (hub [(Fld.GEN_HUB_ADDR_ADDR, 3)]) }, msgAt ((msg 4 0x38 0 3 8 ([0x28] ++ zeros 7) (hub [(Fld.GEN_HUB_ADDR_ADDR, 3)]) : Hub).takeMsg 4 [0x38]).1, ((msg 4 0x38 0 3 8 ([0x28] ++ zeros 7) (hub [(Fld.GEN_HUB_ADDR_ADDR, 3)]) : Hub).takeMsg 4 [0x38]).2, by decide +kernel⟩⟩

theorem witness_AnswersReachTheirRequests :
    (∃ (s : State) (m : Msg) (t : Hub), (s.hub.takeMsg 4 [0x02, 0x04, 0x07, 0x12, 0x15, 0x23, 0x39, 0x51, 0x53] = (some m, t)) ∧ (m.msgId ≠ 0)) ∧
    (∃ (s : State) (m : Msg) (t : Hub) (q : Req), (s.hub.takeMsg 4 [0x22] = (some m, t)) ∧ (byteAt m.body 0 = 1) ∧ (t.req m.msgId = some q) ∧ (q.left = 1) ∧ (q.hub ≠ 0x1FF) ∧ (q.dead = false)) ∧
    (∃ (s : State) (m : Msg) (t : Hub) (e : EvRec), (s.hub.takeMsg 4 [0x28] = (some m, t)) ∧ (recsOf (min 14 (byteAt m.body 0)) (m.body.drop 8) = [e])) ∧
    (∃ (s : State) (id : Fin 65536) (q : Req), (s.hub.req id = some q) ∧ (q.hub ≠ s.hub.addr) ∧ (q.t0 + s.hub.getf Fld.HIF_MGMT_TIMEOUT_TICKS ≤ s.hub.tick)) := ⟨⟨{ hub := msg 4 7 3 0 8 (zeros 16) (hub [(Fld.GEN_HUB_ADDR_ADDR, 0), (Fld.GEN_STRAPS_ROLE, 2)] { hif := { jobs 1 [job (desc 0x43 3 0 0 0)] with reqs := [(8, { who := .ring 1, idx := 0, d := desc 0x43 3 0 0 0, hub := 3, t0 := 0 })] } }) }, msgAt ((msg 4 7 3 0 8 (zeros 16) (hub [(Fld.GEN_HUB_ADDR_ADDR, 0), (Fld.GEN_STRAPS_ROLE, 2)] { hif := { jobs 1 [job (desc 0x43 3 0 0 0)] with reqs := [(8, { who := .ring 1, idx := 0, d := desc 0x43 3 0 0 0, hub := 3, t0 := 0 })] } }) : Hub).takeMsg 4 [0x02, 0x04, 0x07, 0x12, 0x15, 0x23, 0x39, 0x51, 0x53]).1, ((msg 4 7 3 0 8 (zeros 16) (hub [(Fld.GEN_HUB_ADDR_ADDR, 0), (Fld.GEN_STRAPS_ROLE, 2)] { hif := { jobs 1 [job (desc 0x43 3 0 0 0)] with reqs := [(8, { who := .ring 1, idx := 0, d := desc 0x43 3 0 0 0, hub := 3, t0 := 0 })] } }) : Hub).takeMsg 4 [0x02, 0x04, 0x07, 0x12, 0x15, 0x23, 0x39, 0x51, 0x53]).2, by decide +kernel⟩,
    ⟨{ hub := msg 4 0x22 3 0 8 ([1] ++ zeros 31) (hub [(Fld.GEN_HUB_ADDR_ADDR, 0), (Fld.GEN_STRAPS_ROLE, 2)] { hif := { jobs 1 [job (desc 0x50 3 32 0 0)] with reqs := [(8, { who := .ring 1, idx := 0, d := desc 0x50 3 32 0 0, hub := 3, t0 := 0 })] } }) }, msgAt ((msg 4 0x22 3 0 8 ([1] ++ zeros 31) (hub [(Fld.GEN_HUB_ADDR_ADDR, 0), (Fld.GEN_STRAPS_ROLE, 2)] { hif := { jobs 1 [job (desc 0x50 3 32 0 0)] with reqs := [(8, { who := .ring 1, idx := 0, d := desc 0x50 3 32 0 0, hub := 3, t0 := 0 })] } }) : Hub).takeMsg 4 [0x22]).1, ((msg 4 0x22 3 0 8 ([1] ++ zeros 31) (hub [(Fld.GEN_HUB_ADDR_ADDR, 0), (Fld.GEN_STRAPS_ROLE, 2)] { hif := { jobs 1 [job (desc 0x50 3 32 0 0)] with reqs := [(8, { who := .ring 1, idx := 0, d := desc 0x50 3 32 0 0, hub := 3, t0 := 0 })] } }) : Hub).takeMsg 4 [0x22]).2, { who := .ring 1, idx := 0, d := desc 0x50 3 32 0 0, hub := 3, t0 := 0 }, by decide +kernel⟩,
    ⟨{ hub := msg 4 0x28 3 0 0 ([1] ++ zeros 7 ++ [1, 2, 3, 4, 5, 6, 7, 8] ++ zeros 8) (hub [(Fld.GEN_HUB_ADDR_ADDR, 0), (Fld.GEN_STRAPS_ROLE, 2)]) }, msgAt ((msg 4 0x28 3 0 0 ([1] ++ zeros 7 ++ [1, 2, 3, 4, 5, 6, 7, 8] ++ zeros 8) (hub [(Fld.GEN_HUB_ADDR_ADDR, 0), (Fld.GEN_STRAPS_ROLE, 2)]) : Hub).takeMsg 4 [0x28]).1, ((msg 4 0x28 3 0 0 ([1] ++ zeros 7 ++ [1, 2, 3, 4, 5, 6, 7, 8] ++ zeros 8) (hub [(Fld.GEN_HUB_ADDR_ADDR, 0), (Fld.GEN_STRAPS_ROLE, 2)]) : Hub).takeMsg 4 [0x28]).2, (recsOf 1 ([1, 2, 3, 4, 5, 6, 7, 8] ++ zeros 8)).headD { code := 0, hub := 0, sev := .info, tick := 0, args := 0 }, by decide +kernel⟩,
    ⟨{ hub := hub [(Fld.GEN_HUB_ADDR_ADDR, 0), (Fld.GEN_STRAPS_ROLE, 2), (Fld.HIF_MGMT_TIMEOUT_TICKS, 16)] { now := 62500 * 16, hif := { jobs 1 [job (desc 0x50 3 32 0 0)] with reqs := [(65535, { who := .ring 1, idx := 0, d := desc 0x50 3 32 0 0, hub := 3, t0 := 0 })] } } }, 65535, { who := .ring 1, idx := 0, d := desc 0x50 3 32 0 0, hub := 3, t0 := 0 }, by decide +kernel⟩⟩

theorem witness_PlanSectionsLoadAndPeer :
    (∃ (s : State) (m : Msg) (t : Hub), (s.hub.takeMsg 4 [0x10] = (some m, t)) ∧ (t.planMsg m = true)) ∧
    (∃ (s : State) (f : LoadFail), ((s.hub.isHead = true → s.hub.localLoads = [])) ∧ (s.hub.pend = psChecking) ∧ (s.hub.loadSec s.hub.plan.image = .inr f)) ∧
    (∃ (s : State) (c : Sec), ((s.hub.isHead = true → s.hub.localLoads = [])) ∧ (s.hub.pend = psChecking) ∧ (s.hub.loadSec s.hub.plan.image = .inl c) ∧ (c.epoch = s.hub.getf Fld.PLN_PEND_EPOCH) ∧ (s.hub.plan.digests = [])) ∧
    (∃ (s : State) (m : Msg) (t : Hub), (s.hub.takeMsg 4 [0x13] = (some m, t))) ∧
    (∃ (s : State), ((s.hub.isHead = true → s.hub.localLoads = [])) ∧ (s.hub.pend = psLoading) ∧ (s.hub.plan.fragAt + 257 ≤ s.hub.tick)) ∧
    (∃ (s : State), ((s.hub.isHead = true → s.hub.localLoads = [])) ∧ (s.hub.pend = psPeering) ∧ (s.hub.plan.checkAt + 513 ≤ s.hub.tick)) ∧
    (∃ (s : State) (m : Msg) (t : Hub), (s.hub.takeMsg 4 [0x11] = (some m, t)) ∧ (t.planMsg m = true)) := ⟨⟨{ hub := msg 4 0x10 0 3 8 (beBytes 4 7 ++ beBytes 4 0 ++ beBytes 4 92 ++ image 7 3 4) (hub [(Fld.GEN_HUB_ADDR_ADDR, 3), (Fld.TRK_PORT_STATUS_LINK 0, 5)]) }, msgAt ((msg 4 0x10 0 3 8 (beBytes 4 7 ++ beBytes 4 0 ++ beBytes 4 92 ++ image 7 3 4) (hub [(Fld.GEN_HUB_ADDR_ADDR, 3), (Fld.TRK_PORT_STATUS_LINK 0, 5)]) : Hub).takeMsg 4 [0x10]).1, ((msg 4 0x10 0 3 8 (beBytes 4 7 ++ beBytes 4 0 ++ beBytes 4 92 ++ image 7 3 4) (hub [(Fld.GEN_HUB_ADDR_ADDR, 3), (Fld.TRK_PORT_STATUS_LINK 0, 5)]) : Hub).takeMsg 4 [0x10]).2, by decide +kernel⟩,
    ⟨{ hub := hub [(Fld.GEN_HUB_ADDR_ADDR, 5), (Fld.PLN_STATUS_PEND_STATE, psChecking)] { plan := { image := image 7 3 4 } } }, ⟨3, 0, 0⟩, by decide +kernel⟩,
    ⟨{ hub := hub [(Fld.GEN_HUB_ADDR_ADDR, 3), (Fld.PLN_STATUS_PEND_STATE, psChecking), (Fld.PLN_PEND_EPOCH, 7)] { plan := { image := image 7 3 4 } } }, match (hub [(Fld.GEN_HUB_ADDR_ADDR, 3), (Fld.PLN_STATUS_PEND_STATE, psChecking), (Fld.PLN_PEND_EPOCH, 7)] { plan := { image := image 7 3 4 } } : Hub).loadSec (hub [(Fld.GEN_HUB_ADDR_ADDR, 3), (Fld.PLN_STATUS_PEND_STATE, psChecking), (Fld.PLN_PEND_EPOCH, 7)] { plan := { image := image 7 3 4 } } : Hub).plan.image with | .inl c => c | .inr _ => {}, by decide +kernel⟩,
    ⟨{ hub := msg 4 0x13 2 3 8 (beBytes 4 7 ++ zeros 4) (hub [(Fld.GEN_HUB_ADDR_ADDR, 3), (Fld.TRK_PORT_STATUS_LINK 0, 5)]) }, msgAt ((msg 4 0x13 2 3 8 (beBytes 4 7 ++ zeros 4) (hub [(Fld.GEN_HUB_ADDR_ADDR, 3), (Fld.TRK_PORT_STATUS_LINK 0, 5)]) : Hub).takeMsg 4 [0x13]).1, ((msg 4 0x13 2 3 8 (beBytes 4 7 ++ zeros 4) (hub [(Fld.GEN_HUB_ADDR_ADDR, 3), (Fld.TRK_PORT_STATUS_LINK 0, 5)]) : Hub).takeMsg 4 [0x13]).2, by decide +kernel⟩,
    ⟨{ hub := hub [(Fld.PLN_STATUS_PEND_STATE, psLoading)] { now := 62500 * 257 } }, by decide +kernel⟩,
    ⟨{ hub := hub [(Fld.PLN_STATUS_PEND_STATE, psPeering)] { now := 62500 * 513 } }, by decide +kernel⟩,
    ⟨{ hub := msg 4 0x11 0 3 8 (beBytes 4 7) (hub [(Fld.GEN_HUB_ADDR_ADDR, 3), (Fld.TRK_PORT_STATUS_LINK 0, 5)]) }, msgAt ((msg 4 0x11 0 3 8 (beBytes 4 7) (hub [(Fld.GEN_HUB_ADDR_ADDR, 3), (Fld.TRK_PORT_STATUS_LINK 0, 5)]) : Hub).takeMsg 4 [0x11]).1, ((msg 4 0x11 0 3 8 (beBytes 4 7) (hub [(Fld.GEN_HUB_ADDR_ADDR, 3), (Fld.TRK_PORT_STATUS_LINK 0, 5)]) : Hub).takeMsg 4 [0x11]).2, by decide +kernel⟩⟩

theorem witness_PlanArmsAndDisarms :
    (∃ (s : State) (m : Msg) (t : Hub), let e := beNat (slice m.body 0 4); let x := beNat (slice m.body 4 8); (s.hub.takeMsg 4 [0x14] = (some m, t)) ∧ (t.planMsg m = true)) ∧
    (∃ (s : State) (m : Msg) (a : Armed) (t : Hub), (s.hub.takeMsg 4 [0x16] = (some m, t)) ∧ (t.planMsg m = true) ∧ (t.plan.armed = some a)) := ⟨⟨{ hub := msg 4 0x14 0 3 8 (beBytes 4 7 ++ beBytes 8 64) (hub [(Fld.GEN_HUB_ADDR_ADDR, 3), (Fld.PLN_STATUS_PEND_STATE, psReady), (Fld.PLN_PEND_EPOCH, 7), (Fld.TRK_PORT_STATUS_LINK 0, 5)] { plan := { banks := [(1, { epoch := 7, hubAddr := 3, lastNode := 4 })] } }) }, msgAt ((msg 4 0x14 0 3 8 (beBytes 4 7 ++ beBytes 8 64) (hub [(Fld.GEN_HUB_ADDR_ADDR, 3), (Fld.PLN_STATUS_PEND_STATE, psReady), (Fld.PLN_PEND_EPOCH, 7), (Fld.TRK_PORT_STATUS_LINK 0, 5)] { plan := { banks := [(1, { epoch := 7, hubAddr := 3, lastNode := 4 })] } }) : Hub).takeMsg 4 [0x14]).1, ((msg 4 0x14 0 3 8 (beBytes 4 7 ++ beBytes 8 64) (hub [(Fld.GEN_HUB_ADDR_ADDR, 3), (Fld.PLN_STATUS_PEND_STATE, psReady), (Fld.PLN_PEND_EPOCH, 7), (Fld.TRK_PORT_STATUS_LINK 0, 5)] { plan := { banks := [(1, { epoch := 7, hubAddr := 3, lastNode := 4 })] } }) : Hub).takeMsg 4 [0x14]).2, by decide +kernel, by decide +kernel⟩,
    ⟨{ hub := msg 4 0x16 0 3 8 (beBytes 4 7 ++ beBytes 8 1) (hub [(Fld.GEN_HUB_ADDR_ADDR, 3), (Fld.PLN_STATUS_PEND_STATE, psArmed), (Fld.PLN_PEND_EPOCH, 7), (Fld.TRK_PORT_STATUS_LINK 0, 5)] { plan := { banks := [(1, { epoch := 7, hubAddr := 3, lastNode := 4 })], armed := some ⟨7, 1, false, 0, 0⟩ } }) }, msgAt ((msg 4 0x16 0 3 8 (beBytes 4 7 ++ beBytes 8 1) (hub [(Fld.GEN_HUB_ADDR_ADDR, 3), (Fld.PLN_STATUS_PEND_STATE, psArmed), (Fld.PLN_PEND_EPOCH, 7), (Fld.TRK_PORT_STATUS_LINK 0, 5)] { plan := { banks := [(1, { epoch := 7, hubAddr := 3, lastNode := 4 })], armed := some ⟨7, 1, false, 0, 0⟩ } }) : Hub).takeMsg 4 [0x16]).1, ⟨7, 1, false, 0, 0⟩, ((msg 4 0x16 0 3 8 (beBytes 4 7 ++ beBytes 8 1) (hub [(Fld.GEN_HUB_ADDR_ADDR, 3), (Fld.PLN_STATUS_PEND_STATE, psArmed), (Fld.PLN_PEND_EPOCH, 7), (Fld.TRK_PORT_STATUS_LINK 0, 5)] { plan := { banks := [(1, { epoch := 7, hubAddr := 3, lastNode := 4 })], armed := some ⟨7, 1, false, 0, 0⟩ } }) : Hub).takeMsg 4 [0x16]).2, by decide +kernel⟩⟩

theorem witness_EpochsSwitch :
    (∃ (s : State) (a : Armed) (c : Sec), (s.hub.plan.armed = some a) ∧ (s.hub.pendSec = some c) ∧ (s.hub.pend = psArmed) ∧ (a.at' ≤ s.hub.toBoundary.tick + 8) ∧ (s.hub.toBoundary.tick < a.at') ∧ ((∀ d ∈ c.needs, d < 24))) ∧
    (∃ (s : State) (a : Armed) (c : Sec), (s.hub.blk.out = []) ∧ (s.hub.plan.armed = some a) ∧ (s.hub.pendSec = some c) ∧ (s.hub.pend = psArmed) ∧ (a.at' ≤ s.hub.toBoundary.tick) ∧ (c.epoch < 2 ^ 32) ∧ (a.at' < 2 ^ 64) ∧ ((∀ e ∈ s.hub.hif.rings, e.1 < 1024))) ∧
    (∃ (s : State) (a : Armed), (s.hub.blk.out = []) ∧ (s.hub.plan.armed = some a) ∧ (s.hub.pend = psArmedT) ∧ (a.at' ≤ s.hub.toBoundary.tick) ∧ (a.epoch < 2 ^ 32) ∧ (a.reason < 16)) ∧
    (∃ (s : State) (r : Nat) (e : Nat), (s.hub.blk.out = []) ∧ (s.hub.plan.entryDue = some (r, e)) ∧ (e < 2 ^ 32) ∧ (r < 16)) ∧
    (∃ (s : State) (v : PrevEpoch), (s.hub.plan.prev = some v) ∧ (v.at' + 16 ≤ s.hub.tick)) ∧
    (∃ (s : State) (p : Fin 2) (e : Nat), (s.hub.newerSeen p = some e) ∧ (e < 2 ^ 32) ∧ (s.hub.loadedPlan = false)) ∧
    (∃ (s : State) (p : Fin 2) (e : Nat), (s.hub.newerSeen p = some e) ∧ (e < 2 ^ 32) ∧ (s.hub.loadedPlan = true) ∧ (s.hub.ring.brk = none)) ∧
    (∃ (s : State) (b : Break) (c : Sec), (s.hub.ring.brk = some b) ∧ (s.hub.ringState' = rgScheduled) ∧ (b.entry ≤ s.hub.toBoundary.tick) ∧ (s.hub.loadedPlan = true) ∧ (s.hub.plan.prev = none) ∧ (s.hub.actSec = some c)) ∧
    (∃ (s : State) (b : Break) (v : PrevEpoch), (s.hub.blk.out = []) ∧ (s.hub.ring.brk = some b) ∧ (s.hub.ringState' = rgScheduled) ∧ (b.entry ≤ s.hub.toBoundary.tick) ∧ (s.hub.plan.prev = some v) ∧ (b.detect ≤ v.at') ∧ (v.epoch < 2 ^ 32)) := ⟨⟨{ hub := hub [(Fld.GEN_HUB_ADDR_ADDR, 3), (Fld.PLN_STATUS_PEND_STATE, psArmed), (Fld.PWR_DOM_STATUS_STEP 8, 3)] { plan := { banks := [(1, { epoch := 7, hubAddr := 3, lastNode := 4, gates := [(0, [])] })], armed := some ⟨7, 8, false, 0, 0⟩ } } }, ⟨7, 8, false, 0, 0⟩, { epoch := 7, hubAddr := 3, lastNode := 4, gates := [(0, [])] }, by decide +kernel⟩,
    ⟨{ hub := hub [(Fld.GEN_HUB_ADDR_ADDR, 3), (Fld.PLN_STATUS_PEND_STATE, psArmed)] { now := 62500 * 8, plan := { banks := [(1, { epoch := 7, hubAddr := 3, lastNode := 4, tunnels := [(0x40, tun 1 0 20 21)], carve := some 640, pairs := List.replicate 16 1 })], armed := some ⟨7, 8, false, 0, 0⟩ }, hif := { rings := [(1023, {})] } } }, ⟨7, 8, false, 0, 0⟩, { epoch := 7, hubAddr := 3, lastNode := 4, tunnels := [(0x40, tun 1 0 20 21)], carve := some 640, pairs := List.replicate 16 1 }, by decide +kernel⟩,
    ⟨{ hub := hub [(Fld.GEN_HUB_ADDR_ADDR, 3), (Fld.PLN_STATUS_PEND_STATE, psArmedT), (Fld.PLN_STATUS_TRANSPARENT, 0)] { now := 62500 * 8, plan := { armed := some ⟨7, 8, false, 15, 0⟩, banks := [(0, { epoch := 6, hubAddr := 3, lastNode := 4 })] } } }, ⟨7, 8, false, 15, 0⟩, by decide +kernel⟩,
    ⟨{ hub := hub [(Fld.PLN_STATUS_TRANSPARENT, 0)] { plan := { entryDue := some (15, 4294967295), banks := [(0, { epoch := 6, hubAddr := 3, lastNode := 4 })] } } }, 15, 4294967295, by decide +kernel⟩,
    ⟨{ hub := hub [(Fld.PLN_STATUS_PEND_STATE, psHeld)] { now := 62500 * 20, plan := { prev := some { at' := 4, epoch := 6, transparent := false, reason := 0, bank := 1, tunnels := [], pairs := [], carve := 0, power := [], hyper := 0 }, banks := [(1, { epoch := 6, hubAddr := 3, lastNode := 4 })] } } }, { at' := 4, epoch := 6, transparent := false, reason := 0, bank := 1, tunnels := [], pairs := [], carve := 0, power := [], hyper := 0 }, by decide +kernel⟩,
    ⟨{ hub := { plan := { newer := [(1, (4294967295, 16))] } } }, 1, 4294967295, by decide +kernel⟩,
    ⟨{ hub := hub [(Fld.PLN_STATUS_TRANSPARENT, 0)] { plan := { newer := [(0, (1, 16))] } } }, 0, 1, by decide +kernel⟩,
    ⟨{ hub := hub [(Fld.PLN_STATUS_TRANSPARENT, 0), (Fld.TRK_RING_STATUS_STATE, rgScheduled)] { now := 62500 * 11, plan := { banks := [(0, { ring := true })] }, ring := { brk := some { hop := 2, detect := 3, reporter := 3, entry := 11 } } } }, { hop := 2, detect := 3, reporter := 3, entry := 11 }, { ring := true }, by decide +kernel⟩,
    ⟨{ hub := hub [(Fld.PLN_STATUS_TRANSPARENT, 0), (Fld.TRK_RING_STATUS_STATE, rgScheduled)] { now := 62500 * 11, ring := { brk := some { hop := 2, detect := 3, reporter := 3, entry := 11 } }, plan := { prev := some { at' := 5, epoch := 7, transparent := false, reason := 0, bank := 1, tunnels := [], pairs := [], carve := 0, power := [], hyper := 0 } } } }, { hop := 2, detect := 3, reporter := 3, entry := 11 }, { at' := 5, epoch := 7, transparent := false, reason := 0, bank := 1, tunnels := [], pairs := [], carve := 0, power := [], hyper := 0 }, by decide +kernel⟩⟩

theorem witness_PowerDomainsEnterAndWake :
    (∃ (s : State) (d : Fin 24) (v : Word), (1 ≤ bits v.toNat 2 0) ∧ (bits v.toNat 2 0 ≤ 4) ∧ (s.hub.atL0 (ownerDom d) = true)) ∧
    (∃ (s : State) (d : Fin 24), (s.hub.domState d = dmEntering) ∧ ((s.hub.dom d).target ≤ 4)) ∧
    (∃ (s : State) (d : Fin 24) (t : Nat), (s.hub.domState d = dmExiting) ∧ ((s.hub.dom d).next = none) ∧ (s.hub.up ≤ (s.hub.dom d).exitAt + 100 * t) ∧ (100 * t ≤ (s.hub.dom d).exitLimit)) ∧
    (∃ (s : State) (d : Fin 24) (u : Nat), (s.hub.wakeDue d = some u) ∧ (s.hub.failsafeHolds d = false) ∧ (s.hub.domState d = dmStable) ∧ (s.hub.domStep d ≠ 0)) ∧
    (∃ (s : State) (d : Fin 24), (s.hub.wakeRefuser d = none) ∧ (s.hub.failsafeHolds d = false) ∧ (s.hub.domState d = dmStable) ∧ (s.hub.domStep d ≠ 0)) ∧
    (∃ (s : State) (d : Fin 24), ((∀ e ∈ s.hub.hif.rings, e.1 < 1024)) ∧ (s.hub.domState d = dmExiting)) ∧
    (∃ (s : State) (d : Fin 24) (k : Fin 8), (d.val ≤ 3) ∧ ((s.hub.lane (d / 2) k).waking = true) ∧ ((s.hub.laneFail d k).failed = false)) ∧
    (∃ (s : State) (d : Fin 24) (t : Option Nat) (u : Nat), (s.hub.retryEnd d t = some u)) ∧
    (∃ (s : State) (d : Fin 24) (k : Fin 8) (y : Nat), let u := retryAt (s.hub.laneFail d k).failAt ((s.hub.laneFail d k).retries + 1) + 100 * y; (d.val ≤ 3) ∧ ((s.hub.laneFail d k).failed = true) ∧ ((s.hub.laneFail d k).retries < 3) ∧ (100 * y ≤ laneLimit) ∧ (s.hub.up ≤ u)) ∧
    (∃ (s : State) (d : Fin 24) (k : Fin 8), (d.val ≤ 3) ∧ ((s.hub.laneFail d k).failed = true) ∧ ((s.hub.laneFail d k).retries < 3)) ∧
    (∃ (s : State) (d : Fin 24) (v : Word), (s.hub.domState d = dmFailed) ∧ (3 ≤ s.hub.getf (Fld.PWR_DOM_STATUS_RETRIES d)) ∧ (bit v.toNat 0 = true)) := ⟨⟨{ hub := {} }, 23, 4, by decide +kernel⟩,
    ⟨{ hub := hub [(Fld.PWR_DOM_STATUS_STATE 8, dmEntering), (Fld.PWR_CTL_SAVE_EN, 1)] { pwr := { doms := [(8, { target := 3 })] } } }, 8, by decide +kernel⟩,
    ⟨{ hub := hub [(Fld.PWR_DOM_STATUS_STATE 23, dmExiting), (Fld.PWR_DOM_STATUS_STEP 23, 3)] { pwr := { doms := [(23, { from' := 3, src := 3 })] } } }, 23, 1, by decide +kernel⟩,
    ⟨{ hub := hub [(Fld.PWR_DOM_STATUS_STEP 8, 1)] { pwr := { doms := [(8, { sched := some 0 })] } } }, 8, 0, by decide +kernel⟩,
    ⟨{ hub := hub [(Fld.PWR_DOM_STATUS_STEP 11, 1)] }, 11, by decide +kernel⟩,
    ⟨{ hub := hub [(Fld.PWR_DOM_STATUS_STATE 20, dmExiting)] { hif := { rings := [(1023, {})] } } }, 20, by decide +kernel⟩,
    ⟨{ hub := { trunk := { lanes := [(15, { waking := true })] } } }, 3, 7, by decide +kernel⟩,
    ⟨{ hub := hub [(Fld.PWR_DOM_STATUS_STATE 8, dmFailed), (Fld.PWR_DOM_STATUS_STEP 8, 3), (Fld.PWR_DOM_STATUS_RETRIES 8, 2)] }, 8, none, retryAt 0 3 + retryLimit, by decide +kernel⟩,
    ⟨{ hub := { pwr := { laneFails := [(0, { retries := 2, failed := true })] } } }, 0, 0, 0, by decide +kernel, by decide +kernel⟩,
    ⟨{ hub := { pwr := { laneFails := [(30, { retries := 2, failed := true })] } } }, 3, 6, by decide +kernel⟩,
    ⟨{ hub := hub [(Fld.PWR_DOM_STATUS_STATE 8, dmFailed), (Fld.PWR_DOM_STATUS_STEP 8, 3), (Fld.PWR_DOM_STATUS_RETRIES 8, 3)] }, 8, 1, by decide +kernel⟩⟩

theorem witness_MemoryIntegrityAndAgeing :
    (∃ (s : State), (s.hub.flag Fld.REL_FLIP_CTL_ARM = true)) ∧
    (∃ (s : State) (n : Fin 48) (t : Byte), (s.hub.atL0 (n / 2) = true) ∧ (s.hub.rel.locks.contains (.dom (n / 2)) = false) ∧ ((Tab.get? n.val s.hub.rel.roAt).all (fun t => t / ticksPerHour != s.hub.upTick / ticksPerHour) = true)) ∧
    (∃ (s : State) (p : Fin 2) (k : Fin 8), (s.hub.linkUp p = true) ∧ (s.hub.dir p k = dirIn) ∧ (s.hub.flag (Fld.TRK_PAIR_STATUS_RX_SLEEP (8 * p + k)) = false) ∧ (s.hub.scanPaused p k = false) ∧ (Tab.get? (8 * p.val + k.val) s.hub.rel.scans = none) ∧ ((Tab.get? (8 * p.val + k.val) s.hub.rel.scanFrom).all (fun t => decide (t + 60 * ticksPerSec ≤ s.hub.upTick)) = true)) ∧
    (∃ (s : State) (p : Fin 2) (k : Fin 8) (x : List Bool), (Tab.get? (8 * p.val + k.val) s.hub.rel.scans = some x) ∧ (s.hub.scanPaused p k = false) ∧ (s.hub.nextPairs = none) ∧ (Tab.get? (8 * p.val + k.val) s.hub.rel.scanPt ≠ some s.hub.upTick)) ∧
    (∃ (s : State) (t : Nat), (s.hub.rel.waitFrom = some t) ∧ (s.hub.anyStaged = true) ∧ (t + s.hub.getf Fld.REL_CFG_WAIT_H * ticksPerHour ≤ s.hub.upTick)) := ⟨⟨{ hub := hub [(Fld.REL_FLIP_CTL_ARM, 1), (Fld.REL_FLIP_LO, 1), (Fld.REL_FLIP_CTL_MEM, 3)] }, by decide +kernel⟩,
    ⟨{ hub := {} }, 47, 255, by decide +kernel⟩,
    ⟨{ hub := hub [(Fld.TRK_PORT_STATUS_LINK 1, 5), (Fld.TRK_PAIR_STATUS_DIR 8, dirIn), (Fld.TRK_PAIR_STATUS_RX_SLEEP 8, 0)] }, 1, 0, by decide +kernel⟩,
    ⟨{ hub := { rel := { scans := [(7, List.replicate 95 true)] } } }, 0, 7, List.replicate 95 true, by decide +kernel⟩,
    ⟨{ hub := hub [(Fld.REL_AVS_STAGED, 800), (Fld.REL_CFG_WAIT_H, 1)] { now := 62500 * 57600000, rel := { waitFrom := some 0 } } }, 0, by decide +kernel⟩⟩

theorem witness_MaintenanceActivities :
    (∃ (s : State) (g : Byte) (x : Fin 262144) (c : Instr) (t : Nat) (l : LockOn) (ok : Bool), ((c, t) ∈ [(Instr.eyeScan g x, 1), (.bist g x, 3), (.rowRepair g x, 4), (.ageingSample g x, 5), (.fuseTest g x, 6)]) ∧ (s.hub.rel.serial < 4096) ∧ (s.hub.maintTarget t x = some (l, ok))) ∧
    (∃ (s : State) (i : Fin 65536) (a : Act) (b : Nat), (s.hub.actBy i = some a) ∧ (a.locks = [.bank b]) ∧ (a.testing = false) ∧ (s.hub.bankClear b = true) ∧ (s.hub.fenceOver a = false)) ∧
    (∃ (s : State) (i : Fin 65536) (a : Act), (s.hub.actBy i = some a) ∧ (a.type = mtBist) ∧ (a.testing = false) ∧ (s.hub.fenceOver a = true)) ∧
    (∃ (s : State) (i : Fin 65536) (a : Act), (s.hub.actBy i = some a)) ∧
    (∃ (s : State) (i : Fin 65536) (a : Act) (n : Nat), (s.hub.actBy i = some a) ∧ (a.slot < 4) ∧ (s.hub.ranFor a.at' a.length = true) ∧ (a.locks = [.pair n]) ∧ (a.type = mtEye)) ∧
    (∃ (s : State) (i : Fin 65536) (a : Act) (b : Nat), (s.hub.actBy i = some a) ∧ (a.slot < 4) ∧ (s.hub.ranFor a.at' a.length = true) ∧ (a.locks = [.bank b]) ∧ (a.testing = true)) ∧
    (∃ (s : State) (i : Fin 65536) (a : Act) (b : Nat) (r : Nat), (s.hub.actBy i = some a) ∧ (a.slot < 4) ∧ (s.hub.ranFor a.at' a.length = true) ∧ (a.locks = [.row b r])) ∧
    (∃ (s : State) (i : Fin 65536) (a : Act) (d : Fin 24), (s.hub.actBy i = some a) ∧ (a.slot < 4) ∧ (s.hub.ranFor a.at' a.length = true) ∧ (a.locks = [.dom d])) ∧
    (∃ (s : State) (i : Fin 65536) (a : Act) (c : Fin 8), (s.hub.actBy i = some a) ∧ (a.slot < 4) ∧ (s.hub.ranFor a.at' a.length = true) ∧ (a.locks = [.chan c]) ∧ (1000 ≤ (s.hub.chan c).i.natAbs)) ∧
    (∃ (s : State) (i : Fin 65536) (a : Act), (s.hub.actBy i = some a) ∧ (a.slot < 4) ∧ (s.hub.ranFor a.at' a.length = true) ∧ (a.locks = [.fuses])) := ⟨⟨{ hub := {} }, 9, 8, .ageingSample 9 8, 5, .dom 8, true, by decide +kernel⟩,
    ⟨{ hub := { rel := { acts := [{ id := 0x3001, slot := 3, locks := [.bank 2], target := 2, at' := 0 }] } } }, 0x3001, { id := 0x3001, slot := 3, locks := [.bank 2], target := 2, at' := 0 }, 2, by decide +kernel⟩,
    ⟨{ hub := { now := 62500 * 65536, rel := { acts := [{ id := 0x3001, slot := 3, locks := [.bank 2], target := 2, at' := 0 }] } } }, 0x3001, { id := 0x3001, slot := 3, locks := [.bank 2], target := 2, at' := 0 }, by decide +kernel⟩,
    ⟨{ hub := { rel := { acts := [{ id := 0x1001, slot := 3, locks := [.pair 2], target := 2, at' := 0 }] } } }, 0x1001, { id := 0x1001, slot := 3, locks := [.pair 2], target := 2, at' := 0 }, by decide +kernel⟩,
    ⟨{ hub := { now := 10 ^ 12, rel := { acts := [{ id := 0x1001, slot := 3, locks := [.pair 2], target := 2, at' := 0 }] } } }, 0x1001, { id := 0x1001, slot := 3, locks := [.pair 2], target := 2, at' := 0 }, 2, by decide +kernel⟩,
    ⟨{ hub := { rel := { acts := [{ id := 0x3001, slot := 0, locks := [.bank 2], target := 2, at' := 0, testing := true }] } } }, 0x3001, { id := 0x3001, slot := 0, locks := [.bank 2], target := 2, at' := 0, testing := true }, 2, by decide +kernel⟩,
    ⟨{ hub := { rel := { acts := [{ id := 0x4001, slot := 0, locks := [.row 2 9], target := 2, at' := 0 }] } } }, 0x4001, { id := 0x4001, slot := 0, locks := [.row 2 9], target := 2, at' := 0 }, 2, 9, by decide +kernel⟩,
    ⟨{ hub := { now := 10 ^ 12, rel := { acts := [{ id := 0x5001, slot := 0, locks := [.dom 8], target := 8, at' := 0 }] } } }, 0x5001, { id := 0x5001, slot := 0, locks := [.dom 8], target := 8, at' := 0 }, 8, by decide +kernel⟩,
    ⟨{ hub := { lpw := { chans := [(7, { i := 1000 })] }, now := 10 ^ 12, rel := { acts := [{ id := 0x5001, slot := 0, locks := [.chan 7], target := 8, at' := 0 }] } } }, 0x5001, { id := 0x5001, slot := 0, locks := [.chan 7], target := 8, at' := 0 }, 7, by decide +kernel⟩,
    ⟨{ hub := { now := 10 ^ 12, rel := { acts := [{ id := 0x6001, slot := 3, locks := [.fuses], target := 0, at' := 0 }] } } }, 0x6001, { id := 0x6001, slot := 3, locks := [.fuses], target := 0, at' := 0 }, by decide +kernel⟩⟩

theorem witness_ManagementChannelFramesAndChecks :
    (∃ (s : State) (p : Fin 2) (k : Fin 8) (b : BrimSeen), (s.hub.checkerPair p ≠ some k.val) ∧ (brimFound (s.hub.flag (Fld.TRK_PAIR_STATUS_NRZ (8 * p + k))) b.marks = false)) ∧
    (∃ (s : State) (p : Fin 2) (k : Fin 8) (b : BrimSeen), (s.hub.checkerPair p ≠ some k.val) ∧ (brimFound (s.hub.flag (Fld.TRK_PAIR_STATUS_NRZ (8 * p + k))) b.marks = true)) ∧
    (∃ (b : List Byte) (pay : List Byte) (hdr : Nat) (n : Nat) (bad : Bool), (cellDecode b = (hdr, pay, bad, n))) ∧
    (∃ (s : State) (p : Fin 2) (k : Fin 8), (s.hub.checkerPair p = some k.val)) := ⟨⟨{ hub := {} }, 1, 7, ⟨[], 0⟩, by decide +kernel⟩,
    ⟨{ hub := hub [(Fld.TRK_PORT_STATUS_LINK 0, lkPam3)] }, 0, 0, ⟨[(64, -512)], 0⟩, by decide +kernel⟩,
    ⟨zeros 265, (cellDecode (zeros 265)).2.1, (cellDecode (zeros 265)).1, (cellDecode (zeros 265)).2.2.2, (cellDecode (zeros 265)).2.2.1, by decide +kernel⟩,
    ⟨{ hub := hub [(Fld.TRK_LOOP_STAT_RESULT 1, 1), (Fld.TRK_LOOP_CTL_MODE 1, 4), (Fld.TRK_LOOP_CTL_DST 1, 7)] }, 1, 7, by decide +kernel⟩⟩

theorem witness_BreaksAndRingAlarms :
    (∃ (s : State), (s.hub.plan.prev = none) ∧ (s.hub.rel.acts = [])) ∧
    (∃ (s : State) (p : Fin 2), (Tab.get? p.val s.hub.ring.alarmIn = none)) ∧
    (∃ (s : State) (p : Fin 2) (c : HopCell), (Tab.get? p.val s.hub.ring.alarmIn = some c)) ∧
    (∃ (h : Hub), (h.isHead = false)) ∧
    (∃ (h : Hub), (h.isHead = true)) := ⟨⟨{ hub := hub [(Fld.GEN_HUB_ADDR_ADDR, 3), (Fld.TRK_PORT_STATUS_LINK 1, 5), (Fld.TRK_PORT_STATUS_ATTACH 1, 2)] { ring := { sync := [(1, { fails := 2 })] } } }, by decide +kernel⟩,
    ⟨{ hub := {} }, 1, by decide +kernel⟩,
    ⟨{ hub := { ring := { alarmIn := [(1, ⟨0, 0, zeros 256, true⟩)] } } }, 1, ⟨0, 0, zeros 256, true⟩, by decide +kernel⟩,
    ⟨{}, by decide +kernel⟩,
    ⟨hub [(Fld.GEN_STRAPS_ROLE, 2)], by decide +kernel⟩⟩

theorem witness_SlotsReceiveAndSwitchCells :
    (∃ (b : List Byte) (pay : List Byte) (hdr : Nat) (fixed : Nat) (bad : Bool), (cellDecode b = (hdr, pay, bad, fixed))) ∧
    (∃ (s : State) (o : Fin 2) (k : Fin 8) (j : Nat), let n := 8 * otherPort o + k.val; let c := if j < s.hub.slotsAt (otherPort o) k dirIn then (s.hub.hopCells n).find? (fun x => x.j == absSlot s.hub.tick j) else none; let null := Out.cell o k j (wireCell (nullHdr s.hub.addr) (zeros 256)); let passed (x : HopCell) := Out.cell o k j (wireCell (setHops x.hdr (hHops x.hdr - 1)) x.pay); (s.hub.rel.flips = []) ∧ (s.hub.carriesOut o k = true) ∧ (j < slotsOf (s.hub.nrz o k)) ∧ ((s.hub.alarmInSlot o k j || s.hub.alarmOutSlot o k j) = false)) := ⟨⟨zeros 288, (cellDecode (zeros 288)).2.1, (cellDecode (zeros 288)).1, (cellDecode (zeros 288)).2.2.2, (cellDecode (zeros 288)).2.2.1, by decide +kernel⟩,
    ⟨{ hub := hub [(Fld.TRK_PAIR_STATUS_DIR 10, dirOut), (Fld.TRK_PAIR_STATUS_DIR 2, dirIn), (Fld.TRK_PAIR_STATUS_TX_SLEEP 10, 0)] { ring := { hop := [(2, [⟨999, 0x40000000000000FF, zeros 256, false⟩])] } } }, 1, 2, 999, by decide +kernel, by decide +kernel⟩⟩

theorem witness_TicksAndFirmwareLoops :
    (∃ (s : State) (n : Nat), (s.hub.tick ≠ n)) ∧
    (∃ (s : State) (c : Fin 3), (Tab.get? c.val s.hub.loops = none)) ∧
    (∃ (s : State) (c : Fin 3) (t : Nat) (l : LoopRun), (Tab.get? c.val s.hub.loops = some l) ∧ (s.hub.now ≤ t) ∧ (l.late = false)) := ⟨⟨{ hub := { loops := [(2, { tick := 0, start := 10, seen := 0 })] } }, 1, by decide +kernel⟩,
    ⟨{ hub := {} }, 2, by decide +kernel⟩,
    ⟨{ hub := { loops := [(2, { tick := 0, start := 10, seen := 0 })] } }, 2, 62499, { tick := 0, start := 10, seen := 0 }, by decide +kernel⟩⟩

theorem witness_SignalsAreCapturedAndMapped :
    (∃ (s : State), ((∀ q ∈ [16, 17, 18, 19], (s.hub.queue q).pkts = []))) ∧
    (∃ (s : State) (p : List QCell), (s.hub.rel.flips = []) ∧ (s.hub.pool.claim = none) ∧ ((s.hub.queue 16).pkts = [p]) ∧ (s.hub.qEnabled 16 = true) ∧ ((s.hub.queue 16).cons = none) ∧ ((∀ q ∈ [17, 18, 19], (s.hub.queue q).pkts = [])) ∧ (beNat (slice (s.hub.pktBytes p) 0 8) / tickNs < s.hub.tick)) ∧
    (∃ (s : State), (s.hub.atL0 dFBR = false)) ∧
    (∃ (s : State) (x : MapIn) (i : Nat) (e : List Nat) (v : Int), (s.hub.atL0 dFBR = true) ∧ (s.hub.rel.flips = []) ∧ (s.hub.sigQueues = []) ∧ (s.hub.fbr.sigMap = [(i, e)]) ∧ (s.hub.fbr.ins = [x]) ∧ (x.time / tickNs < s.hub.tick) ∧ (x.next ≤ i) ∧ (sigMatches i (e.getD 0 0) x = true) ∧ (s.hub.fbr.passed ≠ some s.hub.tick) ∧ (sigUnpack (e.getD 0 0) x = some v) ∧ (bit (e.getD 0 0) 27 = false)) := ⟨⟨{ hub := {} }, by decide +kernel⟩,
    ⟨{ hub := put (256 * 40) (beBytes 8 62499 ++ [31, 1] ++ zeros 6) (hub [(Fld.CPL_QCFG_EN 16, 1), (Fld.LTM_TIO_CFG_DEST 31, 2)] { now := 62500, pool := { queues := [(16, { pkts := [one 40 16] })] } }) }, one 40 16, by decide +kernel⟩,
    ⟨{ hub := hub [(Fld.PWR_DOM_STATUS_STEP dFBR, 3)] }, by decide +kernel⟩,
    ⟨{ hub := { now := 62500, fbr := { sigMap := [(2047, [0x80003805, 0x00010800, 0, 0xC0001C00])], ins := [{ kind := 0, sel := 5, frame := [200] ++ zeros 15, time := 10 }] } } }, { kind := 0, sel := 5, frame := [200] ++ zeros 15, time := 10 }, 2047, [0x80003805, 0x00010800, 0, 0xC0001C00], 200, by decide +kernel⟩⟩

theorem witness_RegisterWritesFollowAccessCodes :
    (∃ (s : State) (off : Fin 2097152) (v : BitVec 64) (r : Reg) (ix : List Nat), (s.hub.barOpen = true) ∧ (off.val % 4 = 0) ∧ (off.val < 0x100000) ∧ (s.hub.offDead off = false) ∧ (s.hub.counterAt off = none) ∧ (s.hub.writeLow off (v.toNat % 2 ^ 32) = none) ∧ (s.hub.writeMid off (v.toNat % 2 ^ 32) = none) ∧ (s.hub.writeHigh off (v.toNat % 2 ^ 32) = none) ∧ (off.val / 0x10000 ≠ 0x0B) ∧ (off.val / 0x10000 ≠ 0x0C) ∧ (off.val ≠ 0x0A0000) ∧ (arr 0x060100 4 0x100 off = none) ∧ (regAt off = some (r, ix))) ∧
    (∃ (s : State) (off : Fin 2097152) (size : Fin 256), (s.hub.barOpen = true) ∧ (barOk off size = false)) ∧
    (∃ (s : State), (s.hub.barOpen = false)) := ⟨⟨{ hub := hub [(Fld.GEN_BOOT_STATUS_READY, 1)] }, 0x000020, 0xFFFFFFFF, ((regAt 0x000020).getD (⟨0, [], []⟩, [])).1, ((regAt 0x000020).getD (⟨0, [], []⟩, [])).2, by decide +kernel⟩,
    ⟨{ hub := hub [(Fld.GEN_BOOT_STATUS_READY, 1)] }, 2, 4, by decide +kernel⟩,
    ⟨{ hub := {} }, by decide +kernel⟩⟩

theorem witness_RegisterReadsAndCounterClears :
    (∃ (s : State) (off : Fin 2097152), (s.hub.barOpen = true) ∧ (off.val % 4 = 0) ∧ (s.hub.offDead off = true)) ∧
    (∃ (s : State) (off : Fin 2097152) (r : Reg) (ix : List Nat), (s.hub.barOpen = true) ∧ (off.val % 4 = 0) ∧ (off.val < 0x100000) ∧ (off.val ≠ 0x050004) ∧ (mbDataAt off = none) ∧ (s.hub.offDead off = false) ∧ (arr 0x040208 16 16 off = none) ∧ (arr 0x04020C 16 16 off = none) ∧ (s.hub.counterAt off = none) ∧ (s.hub.computed off = none) ∧ (regAt off = some (r, ix))) ∧
    (∃ (s : State) (off : Fin 2097152) (c : Nat) (hi : Bool), (s.hub.barOpen = true) ∧ (off.val < 0x100000) ∧ (off.val ≠ 0x050004) ∧ (mbDataAt off = none) ∧ (s.hub.offDead off = false) ∧ (arr 0x040208 16 16 off = none) ∧ (arr 0x04020C 16 16 off = none) ∧ (s.hub.counterAt off = some (c, hi))) := ⟨⟨{ hub := hub [(Fld.GEN_BOOT_STATUS_READY, 1), (Fld.PWR_DOM_STATUS_STEP 8, 3)] }, 0x060000, by decide +kernel⟩,
    ⟨{ hub := hub [(Fld.GEN_BOOT_STATUS_READY, 1)] }, 0x000008, ((regAt 8).getD (⟨0, [], []⟩, [])).1, ((regAt 8).getD (⟨0, [], []⟩, [])).2, by decide +kernel⟩,
    ⟨{ hub := hub [(Fld.GEN_BOOT_STATUS_READY, 1)] { cntSnap := [(Cnt.GEN_TICK_OVERRUNS, { v := 3 })] } }, Fin.ofNat _ Cnt.GEN_TICK_OVERRUNS, Cnt.GEN_TICK_OVERRUNS, false, by decide +kernel⟩⟩

theorem witness_FramesAreSent :
    (∃ (s : State) (p : Fin 4) (t : Nat), ((s.hub.flag (Fld.NET_PORT_CFG_EN p) = false ∨ s.hub.flag (Fld.NET_PORT_EGQ_EN p) = false ∨ s.hub.flag (Fld.NET_PORT_STATUS_LINK p) = false ∨ max s.hub.now t < (s.hub.eport p).busy ∨ s.hub.offAsleep 0x060000 = true))) ∧
    (∃ (s : State) (p : Fin 4) (t : Nat) (k : List QCell) (ps : List (List QCell)), let q := s.hub.getf (Fld.NET_PORT_EGQ_BASE p) + 7; (s.hub.flag (Fld.NET_PORT_CFG_EN p) = true) ∧ (s.hub.flag (Fld.NET_PORT_EGQ_EN p) = true) ∧ (s.hub.flag (Fld.NET_PORT_STATUS_LINK p) = true) ∧ ((s.hub.eport p).busy ≤ max s.hub.now t) ∧ (s.hub.offAsleep 0x060000 = false) ∧ (s.hub.rel.flips = []) ∧ (s.hub.pool.claim = none) ∧ (s.hub.qEnabled q = true) ∧ ((s.hub.queue q).pkts = k :: ps) ∧ (pktGap k = false) ∧ (pktPoison k = false) ∧ (s.hub.gated p = false) ∧ (s.hub.flag (Fld.NET_PORT_TCSHP_VALID p 7) = false) ∧ (s.hub.time.launches = []) ∧ ((s.hub.pktBytes k).length ≤ s.hub.getf (Fld.NET_PORT_CFG_MTU p) - 4)) ∧
    (∃ (s : State) (slot : Fin 1024) (l : Launch), (s.hub.ethDue slot 0x20 = some l) ∧ ((s.hub.queue l.queue).pkts = [])) ∧
    (∃ (s : State) (slot : Fin 1024) (l : Launch) (k : List QCell) (ps : List (List QCell)), (s.hub.ethDue slot 0x20 = some l) ∧ (s.hub.rel.flips = []) ∧ (s.hub.qEnabled l.queue = true) ∧ ((s.hub.queue l.queue).pkts = k :: ps) ∧ (pktGap k = false) ∧ (pktPoison k = false) ∧ ((s.hub.pktBytes k).length ≤ s.hub.getf (Fld.NET_PORT_CFG_MTU l.port) - 4)) ∧
    (∃ (s : State) (slot : Fin 1024) (l : Launch) (k : List QCell) (ps : List (List QCell)), (s.hub.ethDue slot 0x40 = some l) ∧ (s.hub.rel.flips = []) ∧ (s.hub.qEnabled l.queue = true) ∧ ((s.hub.queue l.queue).pkts = k :: ps) ∧ (pktGap k = false) ∧ (pktPoison k = false) ∧ ((s.hub.pktBytes k).length ≤ s.hub.getf (Fld.NET_PORT_CFG_MTU l.port) - 4)) ∧
    (∃ (s : State) (slot : Fin 1024) (l : Launch) (k : List QCell) (ps : List (List QCell)), (s.hub.ethDue slot 0x40 = some l) ∧ (s.hub.rel.flips = []) ∧ (s.hub.qEnabled l.queue = true) ∧ ((s.hub.queue l.queue).pkts = k :: ps) ∧ (pktGap k = false) ∧ (pktPoison k = false) ∧ (s.hub.getf (Fld.NET_PORT_CFG_MTU l.port) - 4 < (s.hub.pktBytes k).length)) := ⟨⟨{ hub := {} }, 3, 9, by decide +kernel⟩,
    ⟨{ hub := hub [(Fld.NET_PORT_CFG_EN 3, 1), (Fld.NET_PORT_EGQ_EN 3, 1), (Fld.NET_PORT_EGQ_BASE 3, 24), (Fld.NET_PORT_STATUS_LINK 3, 1), (Fld.NET_PORT_CFG_MTU 3, 64), (Fld.CPL_QCFG_EN 31, 1)] { pool := { queues := [(31, { pkts := [one 40 60] })] } } }, 3, 100, one 40 60, [], by decide +kernel, by decide +kernel⟩,
    ⟨{ hub := { time := { launches := [(1023, { time := 100, dst := 3, action := 0x20, flags := 0, target := 0, arg := 0, cookie := 0, src := .own 1, f := 100, handed := true })] } } }, 1023, { time := 100, dst := 3, action := 0x20, flags := 0, target := 0, arg := 0, cookie := 0, src := .own 1, f := 100, handed := true }, by decide +kernel⟩,
    ⟨{ hub := hub [(Fld.NET_PORT_CFG_EN 0, 1), (Fld.NET_PORT_RELQ_VALID 0 0, 1), (Fld.NET_PORT_RELQ_QUEUE 0 0, 31), (Fld.NET_PORT_STATUS_LINK 0, 1), (Fld.NET_PORT_CFG_MTU 0, 64), (Fld.CPL_QCFG_EN 31, 1)] { pool := { queues := [(31, { pkts := [one 40 60] })] }, time := { launches := [(1023, { time := 100, dst := 3, action := 0x20, flags := 0, target := 31, arg := 0, cookie := 0, src := .own 1, f := 100, handed := true })] } } }, 1023, { time := 100, dst := 3, action := 0x20, flags := 0, target := 31, arg := 0, cookie := 0, src := .own 1, f := 100, handed := true }, one 40 60, [], by decide +kernel⟩,
    ⟨{ hub := hub [(Fld.NET_PORT_CFG_EN 0, 1), (Fld.NET_PORT_STATUS_LINK 0, 1), (Fld.NET_PORT_CFG_MTU 0, 64), (Fld.CPL_QCFG_EN 31, 1)] { pool := { queues := [(31, { pkts := [one 40 60] })] }, time := { launches := [(1023, { time := 100, dst := 3, action := 0x40, flags := 0, target := 31, arg := 0, cookie := 0, src := .own 1, f := 100, handed := true })] } } }, 1023, { time := 100, dst := 3, action := 0x40, flags := 0, target := 31, arg := 0, cookie := 0, src := .own 1, f := 100, handed := true }, one 40 60, [], by decide +kernel⟩,
    ⟨{ hub := hub [(Fld.NET_PORT_CFG_EN 0, 1), (Fld.NET_PORT_STATUS_LINK 0, 1), (Fld.NET_PORT_CFG_MTU 0, 64), (Fld.CPL_QCFG_EN 31, 1)] { pool := { queues := [(31, { pkts := [one 40 61] })] }, time := { launches := [(1023, { time := 100, dst := 3, action := 0x40, flags := 0, target := 31, arg := 0, cookie := 0, src := .own 1, f := 100, handed := true })] } } }, 1023, { time := 100, dst := 3, action := 0x40, flags := 0, target := 31, arg := 0, cookie := 0, src := .own 1, f := 100, handed := true }, one 40 61, [], by decide +kernel⟩⟩

theorem witness_NetworkTablesAndGates :
    (∃ (s : State) (p : Fin 4) (v : Word), let b := bits v.toNat 12 0; (s.hub.flag (Fld.NET_PORT_EGQ_EN p) = false) ∧ (b % 8 = 0) ∧ (24 ≤ b) ∧ (b ≤ 8184) ∧ (bit v.toNat 31 = true)) ∧
    (∃ (s : State) (p : Fin 4) (v : Word), let b := bits v.toNat 12 0; (s.hub.flag (Fld.NET_PORT_EGQ_EN p) = true) ∧ (b = s.hub.getf (Fld.NET_PORT_EGQ_BASE p)) ∧ (bit v.toNat 31 = false)) ∧
    (∃ (s : State) (p : Fin 4) (v : Word), (s.hub.flag (Fld.NET_PORT_EGQ_EN p) = true) ∧ (bit v.toNat 31 = true)) ∧
    (∃ (s : State) (p : Fin 4) (v : Word), let b := bits v.toNat 12 0; (s.hub.flag (Fld.NET_PORT_EGQ_EN p) = false) ∧ (b % 8 ≠ 0 ∨ b < 24 ∨ 8184 < b) ∧ (bit v.toNat 31 = false)) := ⟨⟨{ hub := {} }, 3, 0x80001FF8, by decide +kernel, by decide +kernel⟩,
    ⟨{ hub := hub [(Fld.NET_PORT_EGQ_EN 3, 1), (Fld.NET_PORT_EGQ_BASE 3, 24)] { pool := { queues := [(24, { cons := some (.egq 3) }), (31, { cons := some (.egq 3) })] } } }, 3, 24, by decide +kernel, by decide +kernel⟩,
    ⟨{ hub := hub [(Fld.NET_PORT_EGQ_EN 3, 1), (Fld.NET_PORT_EGQ_BASE 3, 32)] }, 3, 0x80000018, by decide +kernel⟩,
    ⟨{ hub := {} }, 3, 0x00001FFC, by decide +kernel, by decide +kernel⟩⟩

theorem witness_LineTimeAndItsSources :
    (∃ (s : State) (m : Msg) (t : Hub), (s.hub.takeMsg 5 [1] = (some m, t))) := ⟨{ hub := msg 5 1 0 0x1FF 0 ([0, 2, 0, 1, 1, 2, 3, 4, 5, 6, 7, 8, 9, 10, 11, 12] ++ zeros 16) {} (tn := 3) }, msgAt ((msg 5 1 0 0x1FF 0 ([0, 2, 0, 1, 1, 2, 3, 4, 5, 6, 7, 8, 9, 10, 11, 12] ++ zeros 16) {} (tn := 3) : Hub).takeMsg 5 [1]).1, ((msg 5 1 0 0x1FF 0 ([0, 2, 0, 1, 1, 2, 3, 4, 5, 6, 7, 8, 9, 10, 11, 12] ++ zeros 16) {} (tn := 3) : Hub).takeMsg 5 [1]).2, by decide +kernel⟩

theorem witness_TioPinsDriveAndCapture :
    (∃ (s : State) (slot : Fin 1024) (l : Launch) (on : Bool) (c : Instr) (a : Nat), ((c, a, on) ∈ [(Instr.tioSet slot, 1, true), (.tioClear slot, 2, false)]) ∧ (s.hub.due slot a = some l)) ∧
    (∃ (s : State) (slot : Fin 1024) (l : Launch), (s.hub.due slot 3 = some l)) := ⟨⟨{ hub := hub [(Fld.LTM_TIO_CFG_MODE 31, 1)] { time := { launches := [(1023, { time := 100, dst := 3, action := 1, flags := 0, target := 31, arg := 0, cookie := 0, src := .own 1, f := 100, handed := true })] } } }, 1023, { time := 100, dst := 3, action := 1, flags := 0, target := 31, arg := 0, cookie := 0, src := .own 1, f := 100, handed := true }, true, .tioSet 1023, 1, by decide +kernel⟩,
    ⟨{ hub := hub [(Fld.LTM_TIO_CFG_MODE 31, 1)] { time := { launches := [(1023, { time := 100, dst := 3, action := 3, flags := 0, target := 31, arg := 0, cookie := 0, src := .own 1, f := 100, handed := true })] } } }, 1023, { time := 100, dst := 3, action := 3, flags := 0, target := 31, arg := 0, cookie := 0, src := .own 1, f := 100, handed := true }, by decide +kernel⟩⟩

theorem witness_LaunchesAreAdmittedAndComplete :
    (∃ (s : State), (s.hub.time.toPost = [])) ∧
    (∃ (s : State) (p : LaunchPost) (ps : List LaunchPost), (s.hub.time.toPost = p :: ps)) ∧
    (∃ (s : State) (p : LaunchPost), (s.hub.queue6 = some p) ∧ (p.cancel = false)) ∧
    (∃ (s : State) (p : LaunchPost), (s.hub.queue6 = some p) ∧ (p.cancel = true)) := ⟨⟨{ hub := {} }, by decide +kernel⟩,
    ⟨{ hub := { time := { toPost := [⟨.own 1, zeros 32, false, 0⟩] } } }, ⟨.own 1, zeros 32, false, 0⟩, [], by decide +kernel⟩,
    ⟨{ hub := put (256 * 40) (postBytes ⟨.own 1, zeros 32, false, 0⟩) { pool := { queues := [(6, { pkts := [one 40 40] })] } } }, ((put (256 * 40) (postBytes ⟨.own 1, zeros 32, false, 0⟩) { pool := { queues := [(6, { pkts := [one 40 40] })] } } : Hub).queue6).getD ⟨.own 1, [], false, 0⟩, by decide +kernel⟩,
    ⟨{ hub := put (256 * 40) (postBytes ⟨.own 1, zeros 16, true, 0⟩) { pool := { queues := [(6, { pkts := [one 40 24] })] } } }, ((put (256 * 40) (postBytes ⟨.own 1, zeros 16, true, 0⟩) { pool := { queues := [(6, { pkts := [one 40 24] })] } } : Hub).queue6).getD ⟨.own 1, [], false, 0⟩, by decide +kernel⟩⟩

theorem witness_DisplayHeads :
    (∃ (s : State) (d : Fin 2) (v : Word), (s.hub.flag (Fld.DSP_HEAD_CFG_EN d) = false) ∧ (bits v.toNat 29 27 < 6) ∧ (bits v.toNat 24 23 < 3)) ∧
    (∃ (d : Fin 2) (ok : List Bool) (u : Hub), let h := u.dspTrain d ok; (h.dspState d = dsScanout)) ∧
    (∃ (d : Fin 2) (ok : List Bool) (u : Hub), let h := u.dspTrain d ok; (h.dspState d ≠ dsScanout)) ∧
    (∃ (d : Fin 2) (ok : List Bool) (u : Hub), let h := u.dspTrain d ok; ((∀ b ∈ ok, b = false))) ∧
    (∃ (s : State) (d : Fin 2), (s.hub.dspState d = dsOff ∨ 16 ≤ (s.hub.dhead d).commits.length)) ∧
    (∃ (s : State) (d : Fin 2) (p : List QCell) (ps : List (List QCell)), let q := s.hub.getf (Fld.DSP_HEAD_CFG_INQ d); let b := s.hub.pktBytes p; let H := s.hub.dhead d; let n := recSize b.length; (s.hub.dspState d ≠ dsOff) ∧ (H.commits.length < 16) ∧ (s.hub.rel.flips = []) ∧ (s.hub.pool.claim = none) ∧ (s.hub.qEnabled q = true) ∧ ((s.hub.queue q).pkts = p :: ps) ∧ (pktGap p = false) ∧ (pktPoison p = false)) ∧
    (∃ (s : State) (slot : Fin 1024) (l : Launch), (s.hub.due slot 0x30 = some l)) := ⟨⟨{ hub := hub [(Fld.CPL_QCFG_EN 20, 1), (Fld.DSP_H_TIMING_HACT 1, 640), (Fld.DSP_H_TIMING_HTOTAL 1, 800), (Fld.DSP_V_TIMING_VACT 1, 480), (Fld.DSP_V_TIMING_VTOTAL 1, 525), (Fld.DSP_PCLK_PCLK 1, 25175), (Fld.DSP_H_SYNC_HSYNC_START 1, 656), (Fld.DSP_H_SYNC_HSYNC_WIDTH 1, 96), (Fld.DSP_V_SYNC_VSYNC_START 1, 490), (Fld.DSP_V_SYNC_VSYNC_WIDTH 1, 2), (Fld.DSP_STAGE_UNIT 1, 19), (Fld.DSP_STAGE_STAGE_SIZE 1, 1), (Fld.TCP_PORT_STATUS_DP 1, 3), (Fld.TCP_PORT_STATUS_HPD 1, 1)] { pool := { carve := 5120 } } }, 1, 0xA7000014, by decide +kernel⟩,
    ⟨1, [false, true], hub [(Fld.DSP_PCLK_PCLK 1, 25175), (Fld.DSP_SINK_RATE 1, 30), (Fld.DSP_SINK_LANES 1, 4)], by decide +kernel⟩,
    ⟨1, [false, false], hub [(Fld.DSP_PCLK_PCLK 1, 25175), (Fld.DSP_SINK_RATE 1, 30), (Fld.DSP_SINK_LANES 1, 4)], by decide +kernel⟩,
    ⟨1, [false, false], {}, by decide +kernel⟩,
    ⟨{ hub := {} }, 1, by decide +kernel⟩,
    ⟨{ hub := put (256 * 40) ([1, 4, 0, 0, 0, 0, 0, 0, 0, 8, 0, 8] ++ zeros 244) (hub [(Fld.CPL_QCFG_EN 20, 1), (Fld.DSP_HEAD_CFG_INQ 1, 20), (Fld.DSP_HEAD_STATUS_STATE 1, 3), (Fld.DSP_H_TIMING_HACT 1, 640), (Fld.DSP_V_TIMING_VACT 1, 480), (Fld.DSP_STAGE_UNIT 1, 19), (Fld.DSP_STAGE_STAGE_SIZE 1, 1)] { pool := { queues := [(20, { pkts := [one 40 272] })] } }) }, 1, one 40 272, [], by decide +kernel, by decide +kernel⟩,
    ⟨{ hub := { time := { launches := [(1023, { time := 100, dst := 3, action := 0x30, flags := 0, target := 1, arg := 17179869184, cookie := 0, src := .own 1, f := 100, handed := true })] }, dsp := { heads := [(1, { blank := some 50, commits := [⟨3, some 5, some 5, {}⟩, ⟨4, none, none, {}⟩] })] } } }, 1023, { time := 100, dst := 3, action := 0x30, flags := 0, target := 1, arg := 17179869184, cookie := 0, src := .own 1, f := 100, handed := true }, by decide +kernel⟩⟩

theorem witness_HostPortLinkAndRings :
    (∃ (s : State) (r : Fin 1024) (v : Word), (s.hub.vectors ≠ 0) ∧ (s.hub.ringEn r = false) ∧ (bit v.toNat 31 = true) ∧ (bits v.toNat 30 28 < 6) ∧ (bits v.toNat 27 24 < 13)) ∧
    (∃ (s : State) (r : Fin 1024) (v : Word), (s.hub.vectors ≠ 0) ∧ (s.hub.ringEn r = true) ∧ (bit v.toNat 31 = false)) ∧
    (∃ (s : State) (r : Fin 1024) (v : Word), (s.hub.vectors ≠ 0) ∧ (s.hub.ringEn r = false) ∧ (bit v.toNat 31 = true) ∧ (5 < bits v.toNat 30 28 ∨ 12 < bits v.toNat 27 24)) := ⟨⟨{ hub := hub [(Fld.GEN_STRAPS_ROLE, 2)] }, 1023, 0xB4000000, by decide +kernel⟩,
    ⟨{ hub := hub [(Fld.GEN_STRAPS_ROLE, 2), (Fld.HIF_RING_CFG_EN 1023, 1), (Fld.HIF_RING_CFG_TYPE 1023, 3)] { hif := { rings := [(1023, {})] } } }, 1023, 0x30000000, by decide +kernel⟩,
    ⟨{ hub := hub [(Fld.GEN_STRAPS_ROLE, 1)] }, 1023, 0x8D000000, by decide +kernel⟩⟩

theorem witness_DoorbellsDescriptorsAndEvents :
    (∃ (s : State) (r : Option (Fin 1024)), ((match r with
      | none => s.hub.hif.pageAt = none ∧ s.hub.hif.inFlight.contains 1024 = false
      | some x => s.hub.hif.inFlight.contains x.val = false))) ∧
    (∃ (s : State) (r : Fin 1024), (s.hub.pageInTime = true) ∧ (s.hub.hif.again = []) ∧ (s.hub.ringEn r = true) ∧ (s.hub.ringState r = rsActive)) ∧
    (∃ (s : State) (r : Nat) (e : EvRec), (s.hub.evqs = [r]) ∧ (s.hub.ev.recs = [e]) ∧ (e.told = false) ∧ (e.fed = true) ∧ (s.hub.loadedPlan = false)) ∧
    (∃ (s : State), (s.hub.hif.pageAt.isSome = true) ∧ (s.hub.pageInTime = false)) := ⟨⟨{ hub := {} }, some 1023, by decide +kernel⟩,
    ⟨{ hub := hub [(Fld.HIF_RING_CFG_EN 1023, 1), (Fld.HIF_RING_STATUS_STATE 1023, 1), (Fld.HIF_RING_CFG_TYPE 1023, 2)] { hif := { rings := [(1023, { taken := 1, count := 1 })], pageAt := some (4, 4) } } }, 1023, by decide +kernel⟩,
    ⟨{ hub := hub [(Fld.GEN_STRAPS_ROLE, 2), (Fld.PLN_STATUS_TRANSPARENT, 1), (Fld.HIF_RING_FILT_BLOCKS 1023, 65535), (Fld.HIF_RING_FILT_LOCAL 1023, 1), (Fld.HIF_RING_CFG_EN 1023, 1), (Fld.HIF_RING_STATUS_STATE 1023, 1), (Fld.HIF_RING_CFG_TYPE 1023, 4)] { ev := { recs := [{ code := 0x0101, hub := 0, sev := .fatal, tick := 3, args := 9, fed := true }] }, hif := { rings := [(1023, {})] } } }, 1023, { code := 0x0101, hub := 0, sev := .fatal, tick := 3, args := 9, fed := true }, by decide +kernel⟩,
    ⟨{ hub := { now := 1000000, hif := { pageAt := some (62500, 0) } } }, by decide +kernel⟩⟩

theorem witness_RingDescriptorsAreServed :
    (∃ (s : State) (r : Fin 1024), (s.hub.ringJob r rtTx 1 = none)) ∧
    (∃ (s : State) (r : Fin 1024), (s.hub.ringJob r rtTx 2 = none)) ∧
    (∃ (s : State) (r : Fin 1024), (s.hub.ringJob r rtTx 3 = none)) ∧
    (∃ (s : State) (r : Fin 1024), (s.hub.ringJob r rtDump 0x70 = none)) ∧
    (∃ (s : State) (r : Fin 1024) (j : Job), (s.hub.ringJob r rtTx 1 = some j) ∧ ((s.hub.hring r).chained = 0) ∧ ((s.hub.hring r).chain = []) ∧ ((s.hub.hring r).chainBad = 0) ∧ (s.hub.plan.tunnels = []) ∧ (bit j.d.flags 2 = false)) ∧
    (∃ (s : State) (r : Fin 1024) (b : List Byte) (j : Job), (s.hub.ringJob r rtTx 1 = some j) ∧ (txPktOk j.d = true) ∧ (bit j.d.flags 2 = true) ∧ ((s.hub.hring r).chained < 16) ∧ ((s.hub.hring r).chainBad = 0) ∧ (((s.hub.hring r).chain ++ padTo j.d.len b).length ≤ 65536)) ∧
    (∃ (s : State) (r : Fin 1024) (j : Job), (s.hub.ringJob r rtTx 2 = some j)) ∧
    (∃ (s : State) (r : Fin 1024) (j : Job), (s.hub.ringJob r rtTx 3 = some j)) ∧
    (∃ (s : State) (r : Fin 1024), (s.hub.ringJob r rtRx 0x20 = none)) ∧
    (∃ (s : State) (r : Fin 1024) (j : Job), (s.hub.ringJob r rtRx 0x20 = some j) ∧ (rxBufOk j.d = false)) ∧
    (∃ (s : State) (r : Fin 1024) (j : Job), (s.hub.ringJob r rtRx 0x20 = some j) ∧ (rxBufOk j.d = true) ∧ (s.hub.headPkt (s.hub.ringQueue r) = none)) ∧
    (∃ (s : State) (r : Fin 1024) (j : Job) (p : List QCell) (ps : List (List QCell)), (s.hub.ringJob r rtRx 0x20 = some j) ∧ (rxBufOk j.d = true) ∧ (s.hub.rel.flips = []) ∧ ((s.hub.hring r).rxPos = 0) ∧ (s.hub.qEnabled (s.hub.ringQueue r) = true) ∧ ((s.hub.queue (s.hub.ringQueue r)).pkts = p :: ps)) ∧
    (∃ (s : State) (r : Fin 1024) (j : Job), (s.hub.ringJob r rtDump 0x70 = some j)) := ⟨⟨{ hub := {} }, 3, by decide +kernel⟩,
    ⟨{ hub := {} }, 3, by decide +kernel⟩,
    ⟨{ hub := {} }, 3, by decide +kernel⟩,
    ⟨{ hub := {} }, 3, by decide +kernel⟩,
    ⟨{ hub := hub [(Fld.HIF_STATUS_LINK_UP, 1), (Fld.HIF_STATUS_BME, 1), (Fld.HIF_RING_CFG_EN 1023, 1), (Fld.HIF_RING_STATUS_STATE 1023, 1), (Fld.HIF_RING_CFG_QUEUE 1023, 20), (Fld.CPL_QCFG_EN 20, 1)] { hif := jobs 1023 [job (desc 1 0 3 64 0)] } }, 1023, job (desc 1 0 3 64 0), by decide +kernel⟩,
    ⟨{ hub := hub [(Fld.HIF_STATUS_LINK_UP, 1), (Fld.HIF_STATUS_BME, 1), (Fld.HIF_RING_CFG_EN 1023, 1), (Fld.HIF_RING_STATUS_STATE 1023, 1)] { hif := jobs 1023 [job (desc 1 0 3 64 0 4)] } }, 1023, [1, 2, 3], job (desc 1 0 3 64 0 4), by decide +kernel⟩,
    ⟨{ hub := hub [(Fld.HIF_STATUS_LINK_UP, 1), (Fld.HIF_STATUS_BME, 1), (Fld.HIF_RING_CFG_EN 1023, 1), (Fld.HIF_RING_STATUS_STATE 1023, 1)] { hif := jobs 1023 [job (desc 2 4 256 64 0x0008000800000000)] } }, 1023, job (desc 2 4 256 64 0x0008000800000000), by decide +kernel⟩,
    ⟨{ hub := hub [(Fld.HIF_STATUS_LINK_UP, 1), (Fld.HIF_STATUS_BME, 1), (Fld.HIF_RING_CFG_EN 1023, 1), (Fld.HIF_RING_STATUS_STATE 1023, 1)] { hif := jobs 1023 [job (desc 3 0 0 0 9)] } }, 1023, job (desc 3 0 0 0 9), by decide +kernel⟩,
    ⟨{ hub := {} }, 3, by decide +kernel⟩,
    ⟨{ hub := hub [(Fld.HIF_STATUS_LINK_UP, 1), (Fld.HIF_STATUS_BME, 1), (Fld.HIF_RING_CFG_EN 1023, 1), (Fld.HIF_RING_STATUS_STATE 1023, 1), (Fld.HIF_RING_CFG_TYPE 1023, 1)] { hif := jobs 1023 [job (desc 0x20 0 3 64 0)] } }, 1023, job (desc 0x20 0 3 64 0), by decide +kernel⟩,
    ⟨{ hub := hub [(Fld.HIF_STATUS_LINK_UP, 1), (Fld.HIF_STATUS_BME, 1), (Fld.HIF_RING_CFG_EN 1023, 1), (Fld.HIF_RING_STATUS_STATE 1023, 1), (Fld.HIF_RING_CFG_TYPE 1023, 1)] { hif := jobs 1023 [job (desc 0x20 0 256 64 0)] } }, 1023, job (desc 0x20 0 256 64 0), by decide +kernel⟩,
    ⟨{ hub := put (256 * 40) [1, 2, 3] (hub [(Fld.CPL_QCFG_EN 20, 1), (Fld.HIF_RING_CFG_QUEUE 1023, 20), (Fld.HIF_STATUS_LINK_UP, 1), (Fld.HIF_STATUS_BME, 1), (Fld.HIF_RING_CFG_EN 1023, 1), (Fld.HIF_RING_STATUS_STATE 1023, 1), (Fld.HIF_RING_CFG_TYPE 1023, 1)] { hif := jobs 1023 [job (desc 0x20 0 256 64 0)], pool := { queues := [(20, { pkts := [one 40 16] })] } }) }, 1023, job (desc 0x20 0 256 64 0), one 40 16, [], by decide +kernel⟩,
    ⟨{ hub := hub [(Fld.HIF_STATUS_LINK_UP, 1), (Fld.HIF_STATUS_BME, 1), (Fld.HIF_RING_CFG_EN 1023, 1), (Fld.HIF_RING_STATUS_STATE 1023, 1), (Fld.HIF_RING_CFG_TYPE 1023, 5)] { hif := jobs 1023 [job (desc 0x70 0 262144 4096 0)] } }, 1023, job (desc 0x70 0 262144 4096 0), by decide +kernel⟩⟩

theorem witness_LifeCycleBootAndFlash :
    (∃ (v : Word), (bits v.toNat 31 16 ≠ 0x1C5A)) ∧
    (∃ (s : State) (v : Word), (bits v.toNat 31 16 = 0x1C5A) ∧ (s.hub.rel.acts = [])) ∧
    (∃ (v : Word) (c : Instr), (c ∈ [Instr.bootCommit v, .bootNextSlot v])) ∧
    (∃ (v : Word) (c : Instr), (c ∈ [Instr.khashBurn v, .khashRevoke v])) ∧
    (∃ (v : Word) (c : Instr), (c ∈ [Instr.flashErase v, .flashProgram v])) ∧
    (∃ (s : State), (s.hub.sec.flashOp = none)) ∧
    (∃ (s : State) (op : Nat) (a : Nat), (s.hub.sec.flashOp = some (op, a))) := ⟨⟨3, by decide +kernel⟩,
    ⟨{ hub := hub [(Fld.SEC_LC_STATE, 1)] { sec := { keys := [(1, zeros 16)], blob0 := some (1, []) } } }, 0x1C5A0002, by decide +kernel⟩,
    ⟨7, .bootCommit 7, by decide +kernel⟩,
    ⟨0x80000013, .khashBurn 0x80000013, by decide +kernel⟩,
    ⟨1, .flashErase 1, by decide +kernel⟩,
    ⟨{ hub := {} }, by decide +kernel⟩,
    ⟨{ hub := hub [(Fld.SEC_FLASH_DATA 63, 0xA12345)] { sec := { flashOp := some (2, 0xA12300) } } }, 2, 0xA12300, by decide +kernel⟩⟩

theorem witness_KeysAndDebugSessions :
    (∃ (v : Word) (c : Instr), (c ∈ [Instr.keyLoad v, .keyErase v])) ∧
    (∃ (v : Word) (c : Instr), (c ∈ [Instr.dbgChallenge v, .dbgProve v, .dbgLock v])) ∧
    (∃ (s : State), (s.hub.sec.chal = none)) := ⟨⟨0x40010000, .keyErase 0x40010000, by decide +kernel⟩,
    ⟨0x60000007, .dbgLock 0x60000007, by decide +kernel⟩,
    ⟨{ hub := {} }, by decide +kernel⟩⟩

theorem witness_ResetLeavesTheHub : ∃ c : Fin 8, c.val ≤ 1 := ⟨1, by decide⟩

theorem witness_CountersHoldAndEventsFindRoom :
    (∃ n : Nat, n ≠ 0) ∧ (∃ c d : Nat, d ≠ c) ∧
    (∃ h : Hub, h.ev.used < 2048) ∧
    (∃ (h : Hub) (r : EvRec), 2048 ≤ h.ev.used ∧ (r.sev = .error ∨ r.sev = .fatal) ∧ h.ev.keptUsed < 16) ∧
    (∃ (h : Hub) (r : EvRec), 2048 ≤ h.ev.used ∧ ((r.sev ≠ .error ∧ r.sev ≠ .fatal) ∨ 16 ≤ h.ev.keptUsed)) ∧
    (∃ h : Hub, h.ev.used ≤ 2048 ∧ h.ev.keptUsed ≤ 16) :=
  ⟨⟨1, by decide⟩, ⟨0, 1, by decide⟩, ⟨{}, by decide +kernel⟩,
    ⟨{ ev := { recs := List.replicate 2048 anyRec } }, anyRec, by decide +kernel⟩,
    ⟨{ ev := { recs := List.replicate 2048 anyRec } }, { anyRec with sev := .info }, by decide +kernel⟩,
    ⟨{ ev := { recs := List.replicate 2048 anyRec } }, by decide +kernel⟩⟩

theorem witness_LineMemoryReadsWhatWasWritten :
    (∃ (a : Nat) (bs : List Byte), a + bs.length ≤ 67108864) ∧
    (∃ (a b : Nat) (bs : List Byte), b < a ∨ a + bs.length ≤ b) ∧
    (∃ (h : Hub) (b : Nat), 67108864 ≤ b ∧ Memory.wf h.lineMem = true) ∧
    (∃ (h : Hub) (bs cs : List Byte), bs.length = cs.length ∧ Memory.wf h.lineMem = true) :=
  ⟨⟨67108863, [1], by decide⟩, ⟨5, 6, [1], by decide⟩, ⟨put 67108863 [7] {}, 67108864, by decide, by decide +kernel⟩,
    ⟨put 3 [7] {}, [1], [0], by decide, by decide +kernel⟩⟩

theorem witness_EccCorrectsOneBitAndFindsTwo :
    (∃ d : Nat, d < 2 ^ 64) ∧ (∃ d m : Nat, d < 2 ^ 64 ∧ m < 2 ^ 72) ∧ (∃ i j : Fin 72, eccCol i = eccCol j) ∧ (∃ i j : Fin 72, i ≠ j) :=
  ⟨⟨2 ^ 64 - 1, by decide⟩, ⟨2 ^ 64 - 1, 2 ^ 72 - 1, by decide, by decide⟩, ⟨71, 71, rfl⟩, ⟨0, 71, by decide⟩⟩

theorem witness_UncorrectableErrorsAreCountedUntilWritten :
    (∃ (h : Hub) (mem : Fin 15) (w : Fin 8388608), h.eccBad mem w = true ∧
      Tab.get? (Evt.REL_ECC_UE.code * 2 ^ 16 + mem) h.lastRaise ≠ some h.tick) ∧
    (∃ (h : Hub) (mem : Fin 15) (w : Fin 8388608), h.eccBad mem w = true ∧
      Tab.get? (Evt.REL_ECC_UE.code * 2 ^ 16 + mem) h.lastRaise = some h.tick) ∧
    (∃ w x : Nat, w < 2 ^ 23 ∧ x < 2 ^ 23 ∧ x ≠ w) :=
  ⟨⟨(hub [(Fld.REL_FLIP_CTL_ARM, 1), (Fld.REL_FLIP_CTL_MEM, 14), (Fld.REL_FLIP_LO, 3)]).applyFlip 8388607, 14, 8388607, by decide +kernel⟩,
    ⟨((hub [(Fld.REL_FLIP_CTL_ARM, 1), (Fld.REL_FLIP_CTL_MEM, 14), (Fld.REL_FLIP_LO, 3)]).applyFlip 8388607).eccTouch 14 8388607, 14, 8388607, by decide +kernel⟩,
    ⟨8388607, 0, by decide, by decide, by decide⟩⟩

theorem witness_StepKeepsTheHubsForm : ∃ s t : State, s.hub.WF ∧ step s = .next t :=
  ⟨{ pending := [.ipeakClear 7] }, _, ⟨by decide +kernel, by decide +kernel, by decide +kernel, by decide +kernel⟩, rfl⟩

theorem witness_FusesStayBurnt : ∃ (s t : State) (k : KHash), step s = .next t ∧ Tab.get? 3 s.hub.sec.khash = some k ∧ k.revoked = true :=
  ⟨{ pending := [.ipeakClear 7], hub := { sec := { khash := [(3, { hash := [], use := 1, revoked := true })] } } }, _, _, rfl, rfl, rfl⟩

theorem witness_CommandsLeaveOtherParts : ∃ (c : Instr) (s t : State), exec c s = .next t ∧ Part.pool ∉ partsOf c :=
  ⟨.ipeakClear 7, {}, _, rfl, by decide +kernel⟩

theorem witness_CommandsLeaveOtherFields : ∃ (c : Instr) (s t : State) (ws : List Fl) (f : Fl), fieldsOf c = some ws ∧
    s.hub.rel.acts = [] ∧ exec c s = .next t ∧ f.key ≠ Fld.GEN_EVT_STATUS_OVERRUN.key ∧ (∀ g ∈ ws, f.key ≠ g.key) :=
  ⟨.ipeakClear 7, { hub := hub [(Fld.LPW_CH_IPEAK 6, 9)] }, _, _, Fld.LPW_CH_IPEAK 6, rfl, rfl, rfl, by decide +kernel⟩

/-- A node whose U port's link is up, with the hub it heard there. -/
def nodeUp : Hub := hub [(Fld.GEN_HUB_ADDR_ADDR, 3), (Fld.TRK_PORT_STATUS_LINK 0, lkUp)]
  { trunk := { ports := [(0, { far := some ⟨5, 2, 1, false, true, []⟩ })] } }

theorem witness_BrimsAndSyncFrames :
    (∃ (p : Fin 2) (s : State), s.hub.framesRun p = true) ∧ (∃ (p : Fin 2) (s : State), s.hub.framesRun p = false) ∧
    (∃ (p : Fin 2) (s : State), s.hub.framesRun p = true ∧ s.hub.validSync p none = none) ∧
    (∃ (p : Fin 2) (frame : List Byte) (s : State), s.hub.framesRun p = true ∧ s.hub.isHead = false ∧
      (s.hub.validSync p (some frame)).isSome = true ∧ ((s.hub.validSync p (some frame)).map (fun f => bit f.flags 5)) = some false) :=
  ⟨⟨0, { hub := nodeUp }, by decide +kernel⟩, ⟨1, {}, by decide +kernel⟩, ⟨0, { hub := nodeUp }, by decide +kernel⟩,
    ⟨0, (hub [(Fld.GEN_HUB_ADDR_ADDR, 2)]).syncFrame 1 0 0, { hub := nodeUp }, by decide +kernel⟩⟩

/-- A 60-byte untagged frame, and a port that takes it. -/
def plain : List Byte := beBytes 6 0x0200000000FF ++ beBytes 6 0x020000000001 ++ beBytes 2 0x0800 ++ zeros 46
def netPort (fs : List (Nat × List Nat)) (h : Hub := {}) : Hub :=
  hub [(Fld.NET_PORT_CFG_EN 3, 1), (Fld.NET_PORT_CFG_MTU 3, 1522)] { h with net := { h.net with flows := fs } }
def flowTo (w4 w5 w6 : Nat) : List (Nat × List Nat) := [(8191, [0x80F0FF00, 0, 0, 0, w4, w5, w6, 0])]

theorem witness_FramesAreReceivedAndPoliced :
    (∃ (p : Fin 4) (s : State), s.hub.flag (Fld.NET_PORT_CFG_EN p) = false) ∧
    (∃ (p : Fin 4) (f : List Byte) (s : State), s.hub.flag (Fld.NET_PORT_CFG_EN p) = true ∧ fcsOf f ≠ zeros 4) ∧
    (∃ (p : Fin 4) (f : List Byte) (s : State), s.hub.flag (Fld.NET_PORT_CFG_EN p) = true ∧ f.length + 4 < 64) ∧
    (∃ f : List Byte, etherType f = 0x8808) ∧
    (∃ (p : Fin 4) (f : List Byte) (s : State), s.hub.flag (Fld.NET_PORT_CFG_EN p) = true ∧ 64 ≤ f.length + 4 ∧
      f.length + 4 ≤ s.hub.getf (Fld.NET_PORT_CFG_MTU p) ∧ etherType f ≠ 0x8808 ∧ s.hub.rel.flips = [] ∧ s.hub.portEvent p f = none ∧
      s.hub.classify p f = none) ∧
    (∃ (p : Fin 4) (f : List Byte) (s : State) (w : List Nat), s.hub.flag (Fld.NET_PORT_CFG_EN p) = true ∧ s.hub.portEvent p f = none ∧
      s.hub.classify p f = some w ∧ bit (w.getD 5 0) 31 = false ∧ bit (w.getD 4 0) 31 = true ∧ s.hub.netTun (bits (w.getD 4 0) 11 0) = none) ∧
    (∃ (p : Fin 4) (f : List Byte) (s : State) (w : List Nat), s.hub.flag (Fld.NET_PORT_CFG_EN p) = true ∧ s.hub.portEvent p f = none ∧
      s.hub.classify p f = some w ∧ bit (w.getD 5 0) 31 = false ∧ bit (w.getD 4 0) 31 = false ∧ bit (w.getD 6 0) 31 = true ∧
      bit (s.hub.policer (bits (w.getD 6 0) 9 0)).ctl 31 = true ∧ bit (s.hub.policer (bits (w.getD 6 0) 9 0)).ctl 29 = true ∧
      ((s.hub.policer (bits (w.getD 6 0) 9 0)).judge f (f.length + 4)).1 = colRed) :=
  ⟨⟨0, {}, by decide +kernel⟩, ⟨3, plain, { hub := netPort [] }, by decide +kernel⟩,
    ⟨3, plain.take 59, { hub := netPort [] }, by decide +kernel⟩,
    ⟨zeros 12 ++ beBytes 2 0x8808 ++ zeros 46, by decide +kernel⟩,
    ⟨3, plain, { hub := netPort [] }, by decide +kernel⟩,
    ⟨3, plain, { hub := netPort (flowTo 0x80000FFF 20 0) }, [0x80F0FF00, 0, 0, 0, 0x80000FFF, 20, 0, 0], by decide +kernel⟩,
    ⟨3, plain, { hub := (netPort (flowTo 0 20 0x800003FF)).setPolicer 1023 { ctl := 0xA0000000, cir := 0, pir := 0, cbs := 0, pbs := 0, tc := 0, tp := 0 } },
      [0x80F0FF00, 0, 0, 0, 0, 20, 0x800003FF, 0], by decide +kernel⟩⟩

end Sys2Proof.Tests
end

section
/-! PROOFS. Register accesses: what one field, one register and one word of BAR0 take and give (R9 to R12, R217, R404, R438). -/

namespace Sys2Proof.Machine

/-! The commands of the register map. -/

theorem runs_registerWrite_shut {off : Fin 2097152} {size : Fin 256} {d : Option (BitVec 64)} {s : State} {Q : Hub → Prop}
    (shut : s.hub.barOpen = false) (q : Q (s.hub.emit (.unsupported off))) : Runs (.registerWrite off size d) s Q := by
  refine ⟨_, ?_, q⟩
  change execRegisterWrite off size d s = _
  simp [execRegisterWrite, State.on, shut]

theorem runs_registerWrite_read {off : Fin 2097152} {size : Fin 256} {s : State} {Q : Hub → Prop}
    (opened : s.hub.barOpen = true) (q : Q (s.hub.barRead off size)) : Runs (.registerWrite off size none) s Q := by
  refine ⟨_, ?_, q⟩
  change execRegisterWrite off size none s = _
  simp [execRegisterWrite, State.on, opened]

theorem runs_registerWrite_write {off : Fin 2097152} {size : Fin 256} {v : BitVec 64} {s : State} {Q : Hub → Prop}
    (opened : s.hub.barOpen = true) (q : Q (s.hub.barWrite off size v.toNat)) : Runs (.registerWrite off size (some v)) s Q := by
  refine ⟨_, ?_, q⟩
  change execRegisterWrite off size (some v) s = _
  simp [execRegisterWrite, State.on, opened]

theorem barOk_four {off : Nat} (aligned : off % 4 = 0) : barOk off 4 = true := by simp [barOk, aligned]

theorem Hub.barRead_four {off : Nat} {s : Hub} (aligned : off % 4 = 0) :
    s.barRead off 4 = (s.readWord off).2.emit (.readData off (s.readWord off).1) := by
  simp [Hub.barRead, barOk_four aligned]

theorem Hub.barWrite_four {off v : Nat} {s : Hub} (aligned : off % 4 = 0) : s.barWrite off 4 v = s.writeWord off (v % 2 ^ 32) := by
  simp [Hub.barWrite, barOk_four aligned]

theorem Hub.barRead_bad {off size : Nat} {s : Hub} (bad : barOk off size = false) :
    s.barRead off size = (s.raise Evt.HIF_BAD_ACCESS [off, size]).emit (.readData off 0) := by
  simp [Hub.barRead, bad]

theorem Hub.barWrite_bad {off size v : Nat} {s : Hub} (bad : barOk off size = false) :
    s.barWrite off size v = s.raise Evt.HIF_BAD_ACCESS [off, size] := by
  simp [Hub.barWrite, bad]

/-- While the event ring has an ordinary entry free, a raised event is its newest record (R29). -/
theorem Hub.posted_raise (s : Hub) (e : EvDef) (args : List Nat) : Posted s (s.raise e args) e args := by
  intro room
  simp [Hub.raise, Hub.post, room, Hub.evRec]

theorem arr_eq_none {base n stride off : Nat} (outside : off < base ∨ base + n * stride ≤ off) : arr base n stride off = none := by
  unfold arr
  rw [if_neg (by omega)]

/-! One field. -/

/-- What a field that no condition locks holds after a write of `x` over `old`, by its access code (R9, R11). -/
def Fd.written (f : Fd) (w old x : Nat) : Nat :=
  match f.acc with
  | .rw => if f.bad.any (fun b => decide (b.1 ≤ x) && decide (x ≤ b.2)) then old else x
  | .wok => x
  | .w1c => old &&& (2 ^ w - 1 - x)
  | .w1s => (old ||| x) % 2 ^ w
  | _ => old

theorem bits_lt (v hi lo : Nat) : bits v hi lo < 2 ^ (hi + 1 - lo) := Nat.mod_lt _ (by positivity)

theorem Hub.badEncoding_rw {f : Fd} (plain : f.acc = .rw) (s : Hub) (off x : Nat) :
    s.badEncoding f off x = f.bad.any (fun b => decide (b.1 ≤ x) && decide (x ≤ b.2)) := by
  have unlocked (k : LockKind) : (Acc.rw == Acc.locked k) = false := rfl
  simp [Hub.badEncoding, plain, unlocked]

theorem Hub.getf_writeField_self {f : Fd} (plain : ∀ k, f.acc ≠ .locked k) (s : Hub) (off : Nat) (ix : List Nat) (v : Nat) :
    (s.writeField off ix v f).2.getf (f.at' off ix) =
      f.written (f.at' off ix).width (s.getf (f.at' off ix)) (bits v f.hi f.lo) := by
  have fits : bits v f.hi f.lo < 2 ^ (f.at' off ix).width := bits_lt ..
  unfold Hub.writeField Fd.written
  cases acc : f.acc with
  | rw =>
    simp only [s.badEncoding_rw acc]
    split
    · rfl
    · exact (getf_setf_self ..).trans (Nat.mod_eq_of_lt fits)
  | wok => exact (getf_setf_self ..).trans (Nat.mod_eq_of_lt fits)
  | w1c =>
    refine (getf_setf_self ..).trans (Nat.mod_eq_of_lt ?_)
    exact Nat.lt_of_le_of_lt Nat.and_le_right (by omega)
  | w1s => exact getf_setf_self ..
  | locked k => exact absurd acc (plain k)
  | ro => rfl
  | wo => rfl
  | rsv => rfl

theorem Hub.getf_writeField_ne {f : Fd} {off : Nat} {ix : List Nat} {g : Fl} (other : g.key ≠ (f.at' off ix).key) (s : Hub) (v : Nat) :
    (s.writeField off ix v f).2.getf g = s.getf g := by
  have kept (x : Nat) : (s.setf (f.at' off ix) x).getf g = s.getf g := s.getf_setf_ne other x
  unfold Hub.writeField
  cases f.acc with
  | rw => dsimp only; split <;> simp [kept]
  | locked k => dsimp only; split <;> [rfl; split <;> simp [kept]]
  | wok => exact kept _
  | w1c => exact kept _
  | w1s => exact kept _
  | ro => rfl
  | wo => rfl
  | rsv => rfl

/-! One register. -/

/-- One field's turn in a write of a register. -/
def Hub.fieldTurn (off : Nat) (ix : List Nat) (v : Nat) (a : Bool × Hub) (f : Fd) : Bool × Hub :=
  (a.1 || (a.2.writeField off ix v f).1, (a.2.writeField off ix v f).2)

/-- A register's fields take a write in turn, and a refusal by one of them is told once (R10). -/
theorem Hub.writeFields_eq (r : Reg) (off : Nat) (ix : List Nat) (v : Nat) (s : Hub) :
    s.writeFields r off ix v =
      if (r.fields.reverse.foldl (Hub.fieldTurn off ix v) (false, s)).1
      then (r.fields.reverse.foldl (Hub.fieldTurn off ix v) (false, s)).2.lockedWrite off v
      else (r.fields.reverse.foldl (Hub.fieldTurn off ix v) (false, s)).2 := rfl

theorem Hub.getf_fieldTurns_ne {off : Nat} {ix : List Nat} {v : Nat} {g : Fl} {fs : List Fd} (a : Bool × Hub)
    (other : ∀ f ∈ fs, g.key ≠ (f.at' off ix).key) : (fs.foldl (Hub.fieldTurn off ix v) a).2.getf g = a.2.getf g := by
  induction fs generalizing a with
  | nil => rfl
  | cons f fs ih =>
    obtain ⟨here, later⟩ := List.forall_mem_cons.mp other
    exact (ih _ later).trans (Hub.getf_writeField_ne here ..)

/-- Among fields with different lowest bits, each takes its own part of the write and no other's. -/
theorem Hub.getf_fieldTurns {off : Nat} {ix : List Nat} {v : Nat} {f : Fd} {fs : List Fd} (a : Bool × Hub)
    (apart : fs.Pairwise (fun x y => x.lo ≠ y.lo)) (m : f ∈ fs) (plain : ∀ k, f.acc ≠ .locked k) :
    (fs.foldl (Hub.fieldTurn off ix v) a).2.getf (f.at' off ix) =
      f.written (f.at' off ix).width (a.2.getf (f.at' off ix)) (bits v f.hi f.lo) := by
  induction fs generalizing a with
  | nil => cases m
  | cons g fs ih =>
    obtain ⟨hd, tl⟩ := List.pairwise_cons.mp apart
    have keys {x : Fd} (h : f.lo ≠ x.lo) : (f.at' off ix).key ≠ (x.at' off ix).key := by simpa [Fd.at'] using h
    rcases List.mem_cons.mp m with rfl | m
    · exact (Hub.getf_fieldTurns_ne _ fun x hx => keys (hd x hx)).trans (Hub.getf_writeField_self plain ..)
    · refine (ih _ tl m).trans ?_
      rw [Hub.fieldTurn, Hub.getf_writeField_ne (keys (hd f m).symm)]

theorem Hub.getf_writeFields {r : Reg} {off : Nat} {ix : List Nat} {f : Fd} (s : Hub) (v : Nat)
    (apart : r.fields.Pairwise (fun x y => x.lo ≠ y.lo)) (m : f ∈ r.fields) (plain : ∀ k, f.acc ≠ .locked k)
    (notOverrun : (f.at' off ix).key ≠ Fld.GEN_EVT_STATUS_OVERRUN.key) :
    (s.writeFields r off ix v).getf (f.at' off ix) =
      f.written (f.at' off ix).width (s.getf (f.at' off ix)) (bits v f.hi f.lo) := by
  have turns := Hub.getf_fieldTurns (v := v) (ix := ix) (off := off) (false, s)
    (List.pairwise_reverse.mpr (apart.imp Ne.symm)) (List.mem_reverse.mpr m) plain
  rw [Hub.writeFields_eq]
  split
  · exact (Hub.getf_raise _ _ _ notOverrun).trans turns
  · exact turns

/-! The register map (R491). -/

/-- The fields of a register start at different bits of its word. -/
def Reg.FieldsApart (r : Reg) : Prop := (∀ f ∈ r.fields, f.lo < 32) ∧ r.fields.Pairwise (fun x y => x.lo ≠ y.lo)

theorem regMapOf_fieldsApart (b : Nat) : ∀ r ∈ regMapOf b, r.FieldsApart := by
  unfold Reg.FieldsApart regMapOf
  split <;> decide +kernel

theorem mem_regMapOf_of_regAt {off : Nat} {r : Reg} {ix : List Nat} (found : regAt off = some (r, ix)) :
    r ∈ regMapOf (off / 0x10000) := by
  obtain ⟨x, m, hx⟩ := List.exists_of_findSome?_eq_some found
  split at hx
  · obtain ⟨_, _, e⟩ := Option.map_eq_some_iff.mp hx
    cases e; exact m
  · cases hx

theorem fieldsApart_of_regAt {off : Nat} {r : Reg} {ix : List Nat} (found : regAt off = some (r, ix)) : r.FieldsApart :=
  regMapOf_fieldsApart _ r (mem_regMapOf_of_regAt found)

theorem regAt_evtStatus : regAt 0x000018 =
    some (⟨0x000018, [], [⟨31, 31, .w1c, [0], []⟩, ⟨27, 16, .ro, [0], []⟩, ⟨4, 0, .ro, [0], []⟩]⟩, []) := rfl

/-- The one field at the key of GEN_EVT_STATUS.OVERRUN is that field. -/
theorem eq_overrun_of_key {off : Nat} {r : Reg} {ix : List Nat} {f : Fd} (found : regAt off = some (r, ix)) (m : f ∈ r.fields)
    (key : (f.at' off ix).key = Fld.GEN_EVT_STATUS_OVERRUN.key) : f.acc = .w1c ∧ f.at' off ix = Fld.GEN_EVT_STATUS_OVERRUN := by
  have low := (fieldsApart_of_regAt found).1 f m
  simp only [Fd.at', Fld.GEN_EVT_STATUS_OVERRUN] at key
  obtain ⟨rfl, top⟩ : off = 0x000018 ∧ f.lo = 31 := by omega
  rw [regAt_evtStatus] at found
  cases found
  simp only [List.mem_cons, List.not_mem_nil, or_false] at m
  rcases m with rfl | rfl | rfl
  · exact ⟨rfl, rfl⟩
  · cases top
  · cases top

/-! One word. -/

/-- A word none of whose fields acts is taken by the fields of its register. -/
theorem Hub.writeWord_plain {s : Hub} {off v : Nat} {r : Reg} {ix : List Nat} (bar : off < 0x100000) (awake : s.offDead off = false)
    (noCounter : s.counterAt off = none) (low : s.writeLow off v = none) (mid : s.writeMid off v = none)
    (high : s.writeHigh off v = none) (found : regAt off = some (r, ix)) :
    s.writeWord off v = (s.writeFields r off ix v).afterWrite off := by
  simp [Hub.writeWord, awake, Nat.not_le.mpr bar, noCounter, low, mid, high, found]

/-- Nothing follows a write outside TCP, LPW, USB_CFG and the enables of the network ports. -/
theorem Hub.afterWrite_eq_self {off : Nat} (tcp : off / 0x10000 ≠ 0x0B) (lpw : off / 0x10000 ≠ 0x0C) (usb : off ≠ 0x0A0000)
    (net : arr 0x060100 4 0x100 off = none) (s : Hub) : s.afterWrite off = s := by
  have budget : off ≠ 0x0B0000 := by omega
  have win : arr 0x0C010C 8 0x80 off = none := arr_eq_none (by omega)
  have tins : arr 0x0C0114 8 0x80 off = none := arr_eq_none (by omega)
  simp [Hub.afterWrite, budget, usb, net, win, tins]

/-- A word that its register's fields take leaves in each what the field's access code gives. -/
theorem Hub.getf_writeWord_plain {s : Hub} {off v : Nat} {r : Reg} {ix : List Nat} {f : Fd}
    (plainWord : s.writeWord off v = s.writeFields r off ix v) (found : regAt off = some (r, ix)) (m : f ∈ r.fields) (plain : ∀ k, f.acc ≠ .locked k)
    (notOverrun : f.acc = .w1c → f.at' off ix ≠ Fld.GEN_EVT_STATUS_OVERRUN) :
    (s.writeWord off v).getf (f.at' off ix) =
      f.written (f.at' off ix).width (s.getf (f.at' off ix)) (bits v f.hi f.lo) := by
  rw [plainWord]
  refine s.getf_writeFields v (fieldsApart_of_regAt found).2 m plain fun key => ?_
  obtain ⟨acc, eq⟩ := eq_overrun_of_key found m key
  exact notOverrun acc eq

/-- A held hub serves no GEN register but GEN_ID and GEN_BOOT_STATUS (R455), and block GEN never sleeps (R404). -/
theorem Hub.offDead_gen {off : Nat} (gen : off < 0x10000) (notId : off ≠ 0x000000) (notBoot : off ≠ 0x000100) (s : Hub) :
    s.offDead off = s.isHeld := by
  have block : off / 0x10000 = 0 := by omega
  simp [Hub.offDead, Hub.offAsleep, domainOf, block, bne_iff_ne.mpr notId, bne_iff_ne.mpr notBoot]

/-- A held hub ignores a write of a GEN register (R455). -/
theorem Hub.writeWord_gen_held {s : Hub} {off : Nat} (gen : off < 0x10000) (notId : off ≠ 0x000000) (notBoot : off ≠ 0x000100)
    (held : s.isHeld = true) (v : Nat) : s.writeWord off v = s := by
  simp [Hub.writeWord, s.offDead_gen gen notId notBoot, held]

theorem Hub.counterAt_eq_none {off : Nat} (s : Hub) (gen : off < 0x10000) (noCounter : isCounter (off / 8 * 8) = false) :
    s.counterAt off = none := by
  unfold Hub.counterAt
  have h1 : off / 8 * 8 ≠ 0x040030 := by omega
  have h2 : off / 8 * 8 ≠ 0x063008 := by omega
  have h3 : off / 8 * 8 ≠ 0x063010 := by omega
  have h4 : off / 8 * 8 ≠ 0x063018 := by omega
  simp [h1, h2, h3, h4, noCounter]

/-- A GEN register without an effect of its own is taken by its fields, and nothing follows. -/
theorem Hub.writeWord_gen {s : Hub} {off v : Nat} {r : Reg} {ix : List Nat} (gen : off < 0x10000) (notId : off ≠ 0x000000)
    (notBoot : off ≠ 0x000100) (served : s.isHeld = false) (noCounter : isCounter (off / 8 * 8) = false)
    (low : s.writeLow off v = none) (found : regAt off = some (r, ix)) : s.writeWord off v = s.writeFields r off ix v := by
  have block : off / 0x10000 = 0 := by omega
  have mid : s.writeMid off v = none := by simp [Hub.writeMid, block]
  have high : s.writeHigh off v = none := by simp [Hub.writeHigh, block]
  have awake : s.offDead off = false := (s.offDead_gen gen notId notBoot).trans served
  rw [Hub.writeWord_plain (by omega) awake (s.counterAt_eq_none gen noCounter) low mid high found]
  exact Hub.afterWrite_eq_self (by omega) (by omega) (by omega) (arr_eq_none (by omega)) _

theorem regAt_setup : regAt 0x00000C = some (⟨0x00000C, [], [⟨15, 0, .w1c, [65535], []⟩]⟩, []) := rfl

theorem regAt_tblView : regAt 0x000020 = some (⟨0x000020, [], [⟨1, 1, .rw, [0], []⟩, ⟨0, 0, .rw, [0], []⟩]⟩, []) := rfl

theorem Hub.writeWord_setup {s : Hub} (served : s.isHeld = false) (v : Nat) :
    s.writeWord 0x00000C v = s.setf Fld.GEN_SETUP_OPEN (s.getf Fld.GEN_SETUP_OPEN &&& (65535 - bits v 15 0)) := by
  rw [Hub.writeWord_gen (by decide) (by decide) (by decide) served (by decide) rfl regAt_setup]
  rfl

theorem Hub.writeWord_tblView {s : Hub} (served : s.isHeld = false) (v : Nat) :
    s.writeWord 0x000020 v = (s.setf Fld.GEN_TBL_VIEW_EYE (bits v 0 0)).setf Fld.GEN_TBL_VIEW_RD (bits v 1 1) := by
  rw [Hub.writeWord_gen (by decide) (by decide) (by decide) served (by decide) rfl regAt_tblView]
  rfl

theorem Hub.writeWord_rdWinSel {s : Hub} (served : s.isHeld = false) (v : Nat) :
    s.writeWord 0x000110 v =
      ((s.setf Fld.GEN_RD_WIN_SEL_SRC (bits v 31 31)).setf Fld.GEN_RD_WIN_SEL_PAGE (bits v 7 0)).setf Fld.GEN_TBL_VIEW_RD 1 := by
  have dead := (s.offDead_gen (off := 0x000110) (by decide) (by decide) (by decide)).trans served
  have noCounter := s.counterAt_eq_none (off := 0x000110) (by decide) (by decide)
  simp [Hub.writeWord, dead, noCounter, Hub.writeLow]

theorem Hub.flag_setf_self (s : Hub) {f : Fl} (oneBit : f.width = 1) (v i : Nat) : (s.setf f (bits v i i)).flag f = bit v i := by
  simp [Hub.flag, Hub.getf_setf_self, oneBit, bits, bit]

theorem Hub.flag_setf_ne (s : Hub) {f g : Fl} (other : g.key ≠ f.key) (v : Nat) : (s.setf f v).flag g = s.flag g := by
  simp [Hub.flag, s.getf_setf_ne other]

end Sys2Proof.Machine
end

section
/-! PROOFS. Register writes by access code, and accesses that BAR0 refuses (O36). -/

namespace Sys2Proof.Machine

theorem runs_registerWrite_four {off : Fin 2097152} {v : BitVec 64} {s : State} {Q : Hub → Prop} (opened : s.hub.barOpen = true)
    (aligned : off.val % 4 = 0) (q : Q (s.hub.writeWord off (v.toNat % 2 ^ 32))) : Runs (.registerWrite off 4 (some v)) s Q :=
  runs_registerWrite_write opened (by
    change Q (s.hub.barWrite off 4 v.toNat)
    rwa [Hub.barWrite_four aligned])

/-- Settles O36: a word that no rule of its own takes is taken field by field, and the fields of a register lie apart, so each holds
what its own access code makes of the write. -/
theorem registerWritesFollowAccessCodes : Obligations.RegisterWritesFollowAccessCodes := by
  unfold Obligations.RegisterWritesFollowAccessCodes
  refine ⟨?plain, ?bad, ?setup, ?tblView, ?rdWinSel, ?shut⟩
  case plain =>
    intro off v r ix s opened aligned bar awake noCounter low mid high tcp lpw usb net found
    refine runs_registerWrite_four opened aligned fun f m => ?_
    have word := (Hub.writeWord_plain bar awake noCounter low mid high found).trans (Hub.afterWrite_eq_self tcp lpw usb net _)
    have taken := Hub.getf_writeWord_plain word found m
    unfold Fd.written at taken
    cases acc : f.acc <;> simp only [acc] at taken ⊢
    case w1c => exact fun other => taken (by simp) fun _ => other
    all_goals exact taken (by simp) (by simp)
  case bad =>
    intro off size d s opened bad
    cases d with
    | some v =>
      refine runs_registerWrite_write opened ?_
      rw [Hub.barWrite_bad bad]
      exact ⟨s.hub.posted_raise _ _, by simp⟩
    | none =>
      refine runs_registerWrite_read opened ?_
      rw [Hub.barRead_bad bad]
      exact ⟨s.hub.posted_raise _ _, by simp [Hub.emit]⟩
  case setup =>
    intro v s
    refine ⟨_, rfl, ?_⟩
    cases held : s.hub.isHeld with
    | true => exact Hub.writeWord_gen_held (by decide) (by decide) (by decide) held _
    | false => exact Hub.writeWord_setup held _
  case tblView =>
    intro v s
    refine ⟨_, rfl, ?_⟩
    cases held : s.hub.isHeld with
    | true => exact Hub.writeWord_gen_held (by decide) (by decide) (by decide) held _
    | false =>
      simp only [Hub.writeWord_tblView held]
      refine ⟨Hub.flag_setf_self _ rfl .., ?_⟩
      exact (Hub.flag_setf_ne _ (by decide) _).trans (Hub.flag_setf_self _ rfl ..)
  case rdWinSel =>
    intro v s
    refine ⟨_, rfl, ?_⟩
    cases held : s.hub.isHeld with
    | true => exact Hub.writeWord_gen_held (by decide) (by decide) (by decide) held _
    | false =>
      simp only [Hub.writeWord_rdWinSel held]
      refine ⟨?_, ?_, ?_, ?_⟩
      · rw [Hub.flag_setf_ne _ (by decide), Hub.flag_setf_ne _ (by decide), Hub.flag_setf_self _ rfl]
      · rw [Hub.getf_setf_ne _ (by decide), Hub.getf_setf_self]
        exact Nat.mod_eq_of_lt (bits_lt ..)
      · simp [Hub.flag, Hub.getf_setf_self, Fld.GEN_TBL_VIEW_RD]
      · rw [Hub.flag_setf_ne _ (by decide), Hub.flag_setf_ne _ (by decide), Hub.flag_setf_ne _ (by decide)]
  case shut =>
    intro off size d s shut
    exact runs_registerWrite_shut shut rfl

end Sys2Proof.Machine
end

section
/-! PROOFS. Register reads and the clearing of a counter (O37). -/

namespace Sys2Proof.Machine

theorem runs_registerRead_four {off : Fin 2097152} {x : Nat} {s : State} {Q : Hub → Prop} (opened : s.hub.barOpen = true)
    (aligned : off.val % 4 = 0) (word : s.hub.readWord off = (x, s.hub)) (q : Q (s.hub.emit (.readData off x))) :
    Runs (.registerWrite off 4 none) s Q :=
  runs_registerWrite_read opened (by
    change Q (s.hub.barRead off 4)
    rwa [Hub.barRead_four aligned, word])

theorem Hub.readWord_dead {s : Hub} {off : Nat} (dead : s.offDead off = true) : s.readWord off = (0, s) := by
  simp [Hub.readWord, dead]

/-- The word at `off` is served, and is none of those whose reading changes the hub: mailbox data, LTM_NOW_LO, the read ports' data and
the table windows (R173, R183, R420). -/
structure Hub.ReadsStill (s : Hub) (off : Nat) : Prop where
  bar : off < 0x100000
  notNow : off ≠ 0x050004
  notMailbox : mbDataAt off = none
  awake : s.offDead off = false
  notPortLow : arr 0x040208 16 16 off = none
  notPortHigh : arr 0x04020C 16 16 off = none

theorem Hub.ReadsStill.readWord_counter {s : Hub} {off c : Nat} {hi : Bool} (still : s.ReadsStill off)
    (found : s.counterAt off = some (c, hi)) :
    s.readWord off = (if hi then (Tab.getD s.cntSnap c {}).v / 2 ^ 32 + b2n (Tab.getD s.cntSnap c {}).sat * 2 ^ 31
      else (Tab.getD s.cntSnap c {}).v % 2 ^ 32, s) := by
  obtain ⟨bar, notNow, notMailbox, awake, notPortLow, notPortHigh⟩ := still
  simp [Hub.readWord, awake, notMailbox, Nat.not_le.mpr bar, notNow, notPortLow, notPortHigh, found]

theorem Hub.ReadsStill.readWord_fields {s : Hub} {off : Nat} {r : Reg} {ix : List Nat} (still : s.ReadsStill off)
    (noCounter : s.counterAt off = none) (stored : s.computed off = none) (found : regAt off = some (r, ix)) :
    s.readWord off = (s.regValue r off ix, s) := by
  obtain ⟨bar, notNow, notMailbox, awake, notPortLow, notPortHigh⟩ := still
  simp [Hub.readWord, awake, notMailbox, Nat.not_le.mpr bar, notNow, notPortLow, notPortHigh, noCounter, stored, found]

theorem Hub.aligned_of_counterAt {s : Hub} {off : Nat} {x : Nat × Bool} (found : s.counterAt off = some x) : off % 4 = 0 := by
  by_contra unaligned
  simp [Hub.counterAt, unaligned] at found

theorem Hub.cnt_clearCnt_self (s : Hub) (c : Nat) : (s.clearCnt c).cnt c = {} := by
  simp [Hub.clearCnt, Hub.cnt, Tab.getD]

theorem Hub.cntSnap_clearCnt_self (s : Hub) (c : Nat) : Tab.getD (s.clearCnt c).cntSnap c {} = {} := by
  simp [Hub.clearCnt, Tab.getD]

theorem Hub.cnt_clearCnt_ne (s : Hub) {c d : Nat} (other : d ≠ c) : (s.clearCnt c).cnt d = s.cnt d := by
  simp [Hub.clearCnt, Hub.cnt, Tab.getD, Tab.get?_del_ne other]

/-- Settles O37: a read of a word of the three kinds answers one value and leaves the hub as it is. -/
theorem registerReadsAndCounterClears : Obligations.RegisterReadsAndCounterClears := by
  unfold Obligations.RegisterReadsAndCounterClears
  refine ⟨?dead, ?fields, ?counter, ?clear⟩
  case dead =>
    intro off s opened aligned dead
    exact runs_registerRead_four opened aligned (Hub.readWord_dead dead) rfl
  case fields =>
    intro off r ix s opened aligned bar notNow notMailbox awake notPortLow notPortHigh noCounter stored found
    have still : s.hub.ReadsStill off := ⟨bar, notNow, notMailbox, awake, notPortLow, notPortHigh⟩
    exact runs_registerRead_four opened aligned (still.readWord_fields noCounter stored found) rfl
  case counter =>
    intro off c hi s opened bar notNow notMailbox awake notPortLow notPortHigh found
    have still : s.hub.ReadsStill off := ⟨bar, notNow, notMailbox, awake, notPortLow, notPortHigh⟩
    exact runs_registerRead_four opened (Hub.aligned_of_counterAt found) (still.readWord_counter found) rfl
  case clear =>
    intro off s
    refine ⟨_, rfl, ?_⟩
    split
    next noCounter => simp only [noCounter]
    next c hi found =>
      simp only [found]
      exact ⟨s.hub.cnt_clearCnt_self c, s.hub.cntSnap_clearCnt_self c, rfl, fun d other => s.hub.cnt_clearCnt_ne other⟩

end Sys2Proof.Machine
end

section
/-! PROOFS. The state after reset (O52). -/

namespace Sys2Proof.Machine

/-- At reset every register field reads its reset value. -/
theorem getf_reset (f : Fl) : State.reset.hub.getf f = f.rst := rfl

theorem wf_reset : State.reset.hub.WF := ⟨rfl, rfl, rfl, rfl⟩

/-- Settles O52: at reset nothing is listed, so every field reads its reset value and every byte is blank. -/
theorem resetLeavesTheHub : Obligations.ResetLeavesTheHub := by
  unfold Obligations.ResetLeavesTheHub
  refine ⟨rfl, getf_reset _, rfl, getf_reset _, getf_reset _, fun _ => rfl, rfl, rfl, ?enabled, ?passing, getf_reset _,
    fun _ => rfl, wf_reset⟩
  case enabled => decide
  case passing => decide

end Sys2Proof.Machine
end

section
/-! PROOFS. Counters at their largest value and the room of the event ring (O53). -/

namespace Sys2Proof.Machine

/-! Counters (R438). -/

theorem CntV.add_add (c : CntV) (m n : Nat) : (c.add m).add n = c.add (m + n) := by
  unfold CntV.add
  by_cases fits : c.v + m ≤ cntMax
  · simp [fits, Nat.add_assoc]
  · have beyond : ¬ c.v + (m + n) ≤ cntMax := by omega
    simp [fits, beyond]

theorem Hub.cnt_count_count (h : Hub) (c m n : Nat) : ((h.count c m).count c n).cnt c = (h.count c (m + n)).cnt c := by
  rcases Nat.eq_zero_or_pos m with rfl | mpos
  · simp [Hub.count]
  rcases Nat.eq_zero_or_pos n with rfl | npos
  · simp [Hub.count]
  rw [Hub.cnt_count_self _ c npos.ne', Hub.cnt_count_self _ c mpos.ne', Hub.cnt_count_self _ c (by omega), CntV.add_add]

/-! The event ring (R29). -/

/-- A record takes a kept-back entry only if its severity is error or fatal (R29). -/
theorem sev_keeps_iff (v : Sev) : (v == .error || v == .fatal) = true ↔ v = .error ∨ v = .fatal := by
  cases v <;> decide

theorem Hub.post_of_room {h : Hub} (r : EvRec) (room : h.ev.used < 2048) :
    h.post r = { h with ev := { h.ev with recs := h.ev.recs ++ [{ r with kept := false }] } } := if_pos room

theorem Hub.post_of_kept {h : Hub} {r : EvRec} (full : 2048 ≤ h.ev.used) (sev : r.sev = .error ∨ r.sev = .fatal)
    (room : h.ev.keptUsed < 16) :
    h.post r = { h with ev := { h.ev with recs := h.ev.recs ++ [{ r with kept := true }] } } := by
  unfold Hub.post
  rw [if_neg (Nat.not_lt.mpr full), if_pos (by simpa [room] using sev)]

theorem Hub.post_of_full {h : Hub} {r : EvRec} (full : 2048 ≤ h.ev.used)
    (noRoom : (r.sev ≠ .error ∧ r.sev ≠ .fatal) ∨ 16 ≤ h.ev.keptUsed) : h.post r = h.dropEvent := by
  unfold Hub.post
  refine (if_neg (Nat.not_lt.mpr full)).trans (if_neg ?_)
  rw [Bool.and_eq_true, sev_keeps_iff, decide_eq_true_eq]
  rintro ⟨sev, room⟩
  rcases noRoom with ⟨notError, notFatal⟩ | noKept
  · exact sev.elim notError notFatal
  · omega

/-- Every record is posted in one of three ways: into an ordinary entry, into a kept-back one, or dropped (R29). -/
theorem Hub.post_cases (h : Hub) (r : EvRec) :
    (h.ev.used < 2048 ∧ (h.post r).ev.recs = h.ev.recs ++ [{ r with kept := false }]) ∨
    (h.ev.keptUsed < 16 ∧ (h.post r).ev.recs = h.ev.recs ++ [{ r with kept := true }]) ∨
    h.post r = h.dropEvent := by
  by_cases room : h.ev.used < 2048
  · exact .inl ⟨room, by rw [h.post_of_room r room]⟩
  by_cases kept : (r.sev = .error ∨ r.sev = .fatal) ∧ h.ev.keptUsed < 16
  · exact .inr (.inl ⟨kept.2, by rw [Hub.post_of_kept (Nat.le_of_not_lt room) kept.1 kept.2]⟩)
  · have noRoom := (not_and_or.mp kept).imp not_or.mp Nat.le_of_not_lt
    exact .inr (.inr (Hub.post_of_full (Nat.le_of_not_lt room) noRoom))

theorem Hub.dropEvent_recs (h : Hub) : h.dropEvent.ev.recs = h.ev.recs := by
  unfold Hub.dropEvent
  dsimp only
  split <;> simp

theorem Hub.dropEvent_dropped (h : Hub) : h.dropEvent.ev.dropped = true := by
  unfold Hub.dropEvent
  dsimp only
  split
  · assumption
  · rfl

theorem Hub.counted_dropEvent (h : Hub) : Counted h h.dropEvent Cnt.GEN_EVT_LOST 1 := by
  have counted := h.cnt_count_self Cnt.GEN_EVT_LOST Nat.one_ne_zero
  unfold Counted Hub.dropEvent
  dsimp only
  split
  · exact counted
  · simpa [Hub.cnt] using counted

/-- The first drop since the ring was empty sets OVERRUN, and a later one leaves it (R29). -/
theorem Hub.overrun_dropEvent (h : Hub) :
    h.dropEvent.flag Fld.GEN_EVT_STATUS_OVERRUN = (!h.ev.dropped || h.flag Fld.GEN_EVT_STATUS_OVERRUN) := by
  have kept : (h.count Cnt.GEN_EVT_LOST 1).ev.dropped = h.ev.dropped := by simp
  unfold Hub.dropEvent
  dsimp only
  rw [kept]
  cases h.ev.dropped with
  | true => simp [Hub.flag]
  | false => exact beq_iff_eq.mpr (Hub.getf_setf_self _ _ 1)

theorem EvRing.used_append (e : EvRing) (recs : List EvRec) (r : EvRec) (app : e.recs = recs ++ [r]) :
    e.used = (recs.filter (fun x => !x.kept)).length + (if r.kept then 0 else 1) ∧
    e.keptUsed = (recs.filter (fun x => x.kept)).length + (if r.kept then 1 else 0) := by
  unfold EvRing.used EvRing.keptUsed
  rw [app]
  cases kept : r.kept <;> simp [kept]

/-- The ring never holds more than its 2,048 ordinary and 16 kept-back entries (R29). -/
theorem Hub.post_keeps_room (h : Hub) (r : EvRec) (ordinary : h.ev.used ≤ 2048) (keptBack : h.ev.keptUsed ≤ 16) :
    (h.post r).ev.used ≤ 2048 ∧ (h.post r).ev.keptUsed ≤ 16 := by
  have usedIs : h.ev.used = (h.ev.recs.filter (fun x => !x.kept)).length := rfl
  have keptIs : h.ev.keptUsed = (h.ev.recs.filter (fun x => x.kept)).length := rfl
  rcases h.post_cases r with ⟨room, app⟩ | ⟨room, app⟩ | dropped
  · obtain ⟨u, k⟩ := EvRing.used_append _ _ _ app
    simp only [Bool.false_eq_true, if_false] at u k
    omega
  · obtain ⟨u, k⟩ := EvRing.used_append _ _ _ app
    simp only [if_true] at u k
    omega
  · rw [dropped]
    exact ⟨by rwa [EvRing.used, h.dropEvent_recs], by rwa [EvRing.keptUsed, h.dropEvent_recs]⟩

/-- Settles O53: a counter's sum is told once for any two steps, and a record goes one of the ring's three ways. -/
theorem countersHoldAndEventsFindRoom : Obligations.CountersHoldAndEventsFindRoom := by
  unfold Obligations.CountersHoldAndEventsFindRoom
  refine ⟨?self, fun h c d n other => h.cnt_count_ne other n, Hub.cnt_count_count, ?room, ?kept, ?full, Hub.post_keeps_room⟩
  case self =>
    intro h c n nonzero
    rw [h.cnt_count_self c nonzero]
    rfl
  case room => exact fun h r room => by rw [h.post_of_room r room]
  case kept => exact fun h r full sev room => by rw [Hub.post_of_kept full sev room]
  case full =>
    intro h r full noRoom
    rw [Hub.post_of_full full noRoom]
    exact ⟨h.dropEvent_recs, h.counted_dropEvent, h.dropEvent_dropped, h.overrun_dropEvent⟩

end Sys2Proof.Machine
end

section
/-! PROOFS. A tick boundary whose gate list takes over while the event ring is full (O34). -/

namespace Sys2Proof.Machine

/-- A hub whose 2,048 ordinary event entries are all used (R29), and whose Ethernet port 0 has an administrative gate list that takes over
at the next tick boundary (R263). -/
def crowdedHub : Hub :=
  { ev := { recs := List.replicate 2048 { code := 0, hub := 0, sev := .info, tick := 0, args := 0 } },
    net := { ports := [(0, { pend := some ([], 1) })] } }

/-- Gate lists take over before the snapshot (R31), so the snapshot holds the NET_GL_TAKEOVER that found no room: counted once. -/
theorem cntSnap_tickBoundary_crowdedHub :
    (crowdedHub.toBoundary.setf Fld.GEN_DIE_TEMP_TEMP 0).boundaryWork.cntSnap = [(Cnt.GEN_EVT_LOST, ⟨1, false⟩)] := by
  decide +kernel

/-- Refutes O34: the first clause has the snapshot of a hub without queues hold the counters from before the boundary. The boundary's own
gate-list takeover comes first, and where the event ring is full its record is dropped and counted in GEN_EVT_LOST (R29, R31, R438). -/
theorem not_ticksAndFirmwareLoops : ¬ Obligations.TicksAndFirmwareLoops := by
  unfold Obligations.TicksAndFirmwareLoops
  rintro ⟨boundary, -⟩
  obtain ⟨h, run, -, -, -, quiet⟩ := boundary 0 { hub := crowdedHub }
  obtain rfl : (crowdedHub.toBoundary.setf Fld.GEN_DIE_TEMP_TEMP 0).boundaryWork = h := by injection run with same; injection same
  have unchanged : (crowdedHub.toBoundary.setf Fld.GEN_DIE_TEMP_TEMP 0).boundaryWork.cntSnap = [] := (quiet rfl rfl rfl).1 rfl
  rw [cntSnap_tickBoundary_crowdedHub] at unchanged
  cases unchanged

end Sys2Proof.Machine
end

section
/-! PROOFS. What a hub keeps while links drop, units stop and channels open: its power and start-up records, the reset cause, the attach
states and the marks of failsafe (R39, R343, R410, R414, R444). -/

namespace Sys2Proof.Machine

/-- The register fields that are kept. -/
def calmFields : List Fl :=
  [Fld.GEN_RESET_CAUSE_CLASS, Fld.GEN_RESET_CAUSE_DETAIL, Fld.TRK_PORT_STATUS_ATTACH 0, Fld.TRK_PORT_STATUS_ATTACH 1,
    Fld.PWR_STATUS_FAILSAFE_SEEN, Fld.PWR_STATUS_XTAL_FAILS]

/-- What is kept: the records of power domains and failsafe, those of start-up, and the values of `calmFields`. -/
structure Calm where
  pwr : Pwr
  sec : SecRec
  fields : List Nat

/-- What `s` holds of it. -/
def Hub.calm (s : Hub) : Calm := ⟨s.pwr, s.sec, calmFields.map s.getf⟩

/-- `f` is none of the fields that are kept. -/
def Fl.apart (f : Fl) : Prop := ∀ g ∈ calmFields, g.key ≠ f.key

theorem Fl.apart_iff (f : Fl) : f.apart ↔
    f.key ≠ 8476 ∧ f.key ≠ 8472 ∧ f.key ≠ 6291456 ∧ f.key ≠ 6293504 ∧ f.key ≠ 27262976 ∧ f.key ≠ 27262984 := by
  simp [Fl.apart, calmFields, Fld.GEN_RESET_CAUSE_CLASS, Fld.GEN_RESET_CAUSE_DETAIL, Fld.TRK_PORT_STATUS_ATTACH,
    Fld.PWR_STATUS_FAILSAFE_SEEN, Fld.PWR_STATUS_XTAL_FAILS, eq_comm]

theorem Hub.calm_of_parts {s t : Hub} (regs : t.regs = s.regs) (pwr : t.pwr = s.pwr) (sec : t.sec = s.sec) : t.calm = s.calm := by
  have fields : t.getf = s.getf := funext (Hub.getf_congr regs)
  rw [Hub.calm, Hub.calm, pwr, sec, fields]

theorem Hub.getf_of_calm {s t : Hub} (same : t.calm = s.calm) {f : Fl} (m : f ∈ calmFields) : t.getf f = s.getf f :=
  List.map_inj_left.mp (congrArg Calm.fields same) f m

theorem Hub.calm_setf {f : Fl} (apart : f.apart) (v : Nat) (s : Hub) : (s.setf f v).calm = s.calm := by
  have fields : calmFields.map (s.setf f v).getf = calmFields.map s.getf :=
    List.map_inj_left.mpr fun g m => s.getf_setf_ne (apart g m) v
  rw [Hub.calm, Hub.calm, fields, Hub.setf_pwr, Hub.setf_sec]

theorem Hub.calm_setb {f : Fl} (apart : f.apart) (b : Bool) (s : Hub) : (s.setb f b).calm = s.calm := Hub.calm_setf apart _ s

theorem Hub.calm_foldl {α : Type} {l : List α} {f : Hub → α → Hub} (kept : ∀ t, ∀ x ∈ l, (f t x).calm = t.calm) (s : Hub) :
    (l.foldl f s).calm = s.calm :=
  List.foldlRecOn l f (motive := fun t => t.calm = s.calm) rfl fun t same x m => (kept t x m).trans same

/-! Changes of other parts of the hub. -/

section
variable (s : Hub)
theorem Hub.calm_withEv (x : EvRing) : ({ s with ev := x } : Hub).calm = s.calm := rfl
theorem Hub.calm_withPool (x : Pool) : ({ s with pool := x } : Hub).calm = s.calm := rfl
theorem Hub.calm_withTime (x : Time) : ({ s with time := x } : Hub).calm = s.calm := rfl
theorem Hub.calm_withDsp (x : Dsp) : ({ s with dsp := x } : Hub).calm = s.calm := rfl
theorem Hub.calm_withBlk (x : Blk) : ({ s with blk := x } : Hub).calm = s.calm := rfl
theorem Hub.calm_withFbr (x : Fbr) : ({ s with fbr := x } : Hub).calm = s.calm := rfl
theorem Hub.calm_withHif (x : Hif) : ({ s with hif := x } : Hub).calm = s.calm := rfl
theorem Hub.calm_withRel (x : Rel) : ({ s with rel := x } : Hub).calm = s.calm := rfl
theorem Hub.calm_withRingPlan (x : Ring) (y : Plan) : ({ s with ring := x, plan := y } : Hub).calm = s.calm := rfl
end

/-! Counters and events. -/

theorem Hub.calm_count (c n : Nat) (s : Hub) : (s.count c n).calm = s.calm := Hub.calm_of_parts (by simp) (by simp) (by simp)

theorem Hub.calm_dropEvent (s : Hub) : s.dropEvent.calm = s.calm := by
  simp (disch := (simp only [Fl.apart_iff, Fld.GEN_EVT_STATUS_OVERRUN] <;> omega)) only [Hub.dropEvent, apply_ite Hub.calm,
    Hub.calm_withEv, Hub.calm_setf, Hub.calm_count, ite_self]

theorem Hub.calm_post (r : EvRec) (s : Hub) : (s.post r).calm = s.calm := by
  simp only [Hub.post, apply_ite Hub.calm, Hub.calm_withEv, Hub.calm_dropEvent, ite_self]

theorem Hub.calm_raise (e : EvDef) (xs : List Nat) (s : Hub) : (s.raise e xs).calm = s.calm := Hub.calm_post _ s

theorem Hub.calm_raiseLimited (e : EvDef) (i : Nat) (xs : List Nat) (s : Hub) : (s.raiseLimited e i xs).calm = s.calm := by
  unfold Hub.raiseLimited
  dsimp only
  split
  · exact s.calm_raise e xs
  · split
    · exact s.calm_raise e xs
    · rfl

/-! Trunk lanes, loopbacks and links. -/

theorem Hub.calm_sleepPair {p k : Nat} (hp : p ≤ 1) (hk : k < 8) (s : Hub) : (s.sleepPair p k).calm = s.calm := by
  simp (disch := (simp only [Fl.apart_iff, Fld.TRK_PAIR_STATUS_TX_SLEEP, Fld.TRK_PAIR_STATUS_RX_SLEEP, Fld.TRK_PAIR_STATUS_LOCKED]
    <;> omega)) only [Hub.sleepPair, Hub.dropScan, Hub.calm_withRel, Hub.calm_setf]

theorem Hub.calm_setLane (p k : Nat) (L : Lane) (s : Hub) : (s.setLane p k L).calm = s.calm := rfl

theorem Hub.calm_seekLock (p k t : Nat) (s : Hub) : (s.seekLock p k t).calm = s.calm := by
  simp (disch := (simp only [Fl.apart_iff, Fld.TRK_PAIR_STATUS_LOCKED] <;> omega)) only [Hub.seekLock, Hub.calm_setLane, Hub.calm_setf]

theorem Hub.calm_wakePair {p k : Nat} (hp : p ≤ 1) (hk : k < 8) (s : Hub) : (s.wakePair p k).calm = s.calm := by
  simp (disch := (simp only [Fl.apart_iff, Fld.TRK_PAIR_STATUS_TX_SLEEP, Fld.TRK_PAIR_STATUS_RX_SLEEP] <;> omega)) only
    [Hub.wakePair, Hub.calm_setLane, Hub.calm_setb]

theorem Hub.calm_endAct (a : Act) (st cause : Nat) (s : Hub) : (s.endAct a st cause).calm = s.calm := by
  simp (disch := (simp only [Fl.apart_iff, Fld.REL_MAINT_STAT_0_STATE, Fld.REL_MAINT_STAT_0_CAUSE] <;> omega)) only
    [Hub.endAct, Hub.calm_withRel, Hub.calm_setf]

/-- One pair's turn as a loopback ends: it goes to sleep, or back to what its link has it do. -/
theorem Hub.calm_loopPairEnd {p k : Nat} (hp : p ≤ 1) (hk : k < 8) (s : Hub) :
    (if !s.pairUsed p k then s.sleepPair p k
      else if s.dir p k = dirIn ∧ s.getf (Fld.TRK_LOOP_CTL_MODE p) ≤ 2 then (s.wakePair p k).seekLock p k s.tick
      else s.wakePair p k).calm = s.calm := by
  simp only [apply_ite Hub.calm, Hub.calm_sleepPair hp hk, Hub.calm_seekLock, Hub.calm_wakePair hp hk, ite_self]

theorem Hub.calm_loopEnd {p : Nat} (hp : p ≤ 1) (r : Nat) (s : Hub) : (s.loopEnd p r).calm = s.calm := by
  have pairs : ∀ t : Hub, ∀ k ∈ List.range 8, (if t.flag (Fld.TRK_PAIR_STATUS_LOOP (8 * p + k)) then
      let t1 := t.setf (Fld.TRK_PAIR_STATUS_LOOP (8 * p + k)) 0
      if !t1.pairUsed p k then t1.sleepPair p k
      else if t1.dir p k = dirIn ∧ t1.getf (Fld.TRK_LOOP_CTL_MODE p) ≤ 2 then (t1.wakePair p k).seekLock p k t1.tick
      else t1.wakePair p k
    else t).calm = t.calm := by
    intro t k m
    rw [List.mem_range] at m
    split
    · refine (Hub.calm_loopPairEnd hp m _).trans (Hub.calm_setf ?_ 0 t)
      simp only [Fl.apart_iff, Fld.TRK_PAIR_STATUS_LOOP]
      omega
    · rfl
  unfold Hub.loopEnd
  dsimp only
  split
  · simp (disch := (simp only [Fl.apart_iff, Fld.TRK_LOOP_STAT_RESULT, Fld.TRK_LOOP_STAT_LOCKED] <;> omega)) only
      [Hub.calm_setf, Hub.calm_foldl pairs]
  · simp (disch := (simp only [Fl.apart_iff, Fld.TRK_LOOP_STAT_RESULT, Fld.TRK_LOOP_STAT_LOCKED] <;> omega)) only
      [apply_ite Hub.calm, Hub.calm_endAct, Hub.calm_setf, Hub.calm_foldl pairs, ite_self]

theorem Hub.calm_loopAbort {p : Nat} (hp : p ≤ 1) (r : Nat) (s : Hub) : (s.loopAbort p r).calm = s.calm := by
  simp only [Hub.loopAbort, apply_ite Hub.calm, Hub.calm_raise, Hub.calm_loopEnd hp, ite_self]

/-! Maintenance activities (R437). -/

theorem Hub.calm_giveBack (a : Act) (s : Hub) : (s.giveBack a).calm = s.calm := by
  unfold Hub.giveBack
  split <;> rfl

theorem Hub.calm_abortAct (a : Act) (cause : Nat) (s : Hub) : (s.abortAct a cause).calm = s.calm := by
  simp only [Hub.abortAct, Hub.calm_endAct, Hub.calm_raise, Hub.calm_giveBack]

theorem Hub.calm_maintSweep (s : Hub) : s.maintSweep.calm = s.calm := by
  refine Hub.calm_foldl (fun t a _ => ?_) s
  split
  · exact t.calm_abortAct a _
  · rfl

/-! The time path and the ring (R189). -/

theorem Hub.calm_ringView (s : Hub) : s.ringView.calm = s.calm := by
  simp (disch := (simp only [Fl.apart_iff, Fld.TRK_RING_STATUS_RING, Fld.LTM_CLOSURE] <;> omega)) only
    [Hub.ringView, Hub.segmentRing, apply_ite Hub.calm, Hub.calm_setf, Hub.calm_setb, ite_self]

theorem Hub.calm_setTimeState (st : Nat) (s : Hub) : (s.setTimeState st).calm = s.calm :=
  Hub.calm_setf (by simp only [Fl.apart_iff, Fld.LTM_STATUS_STATE]; omega) st s

theorem Hub.calm_setHopsGm (h : Nat) (s : Hub) : (s.setHopsGm h).calm = s.calm :=
  Hub.calm_setf (by simp only [Fl.apart_iff, Fld.LTM_STATUS_HOPS_GM]; omega) _ s

theorem Hub.calm_setGmSrc (v : Nat) (s : Hub) : (s.setf Fld.LTM_STATUS_GM_SRC v).calm = s.calm :=
  Hub.calm_setf (by simp only [Fl.apart_iff, Fld.LTM_STATUS_GM_SRC]; omega) v s

theorem Hub.calm_setPath (v : Nat) (s : Hub) : (s.setf Fld.LTM_STATUS_PATH v).calm = s.calm :=
  Hub.calm_setf (by simp only [Fl.apart_iff, Fld.LTM_STATUS_PATH]; omega) v s

theorem Hub.calm_showPath (p : Nat) (s : Hub) : (s.showPath p).calm = s.calm := by
  rw [Hub.showPath, Hub.calm_setGmSrc, Hub.calm_setHopsGm]

theorem Hub.calm_switchPath (p : Nat) (s : Hub) : (s.switchPath p).calm = s.calm := by
  unfold Hub.switchPath
  dsimp only
  split
  · rw [Hub.calm_withTime, Hub.calm_setTimeState, Hub.calm_showPath, Hub.calm_setPath]
  · rw [Hub.calm_raise, Hub.calm_withTime, Hub.calm_setTimeState, Hub.calm_showPath, Hub.calm_setPath]

theorem Hub.calm_losePath (p : Nat) (s : Hub) : (s.losePath p).calm = s.calm := by
  rw [Hub.losePath, Hub.calm_raise, Hub.calm_withTime, Hub.calm_setTimeState, Hub.calm_setGmSrc, Hub.calm_setHopsGm,
    Hub.calm_setPath]

theorem Hub.calm_dropTime (p : Nat) (s : Hub) : (s.dropTime p).calm = s.calm := by
  simp only [Hub.dropTime, Hub.leavePath, apply_ite Hub.calm, Hub.calm_switchPath, Hub.calm_losePath, Hub.calm_withTime, ite_self]

theorem Hub.calm_setPort (p : Nat) (P : TrunkPort) (s : Hub) : (s.setPort p P).calm = s.calm := rfl

theorem Hub.calm_setLink (p v : Nat) (s : Hub) : (s.setf (Fld.TRK_PORT_STATUS_LINK p) v).calm = s.calm :=
  Hub.calm_setf (by simp only [Fl.apart_iff, Fld.TRK_PORT_STATUS_LINK]; omega) v s

/-- One lane of a link that drops: its lock, its records and its scan go. -/
theorem Hub.calm_dropLane (p k : Nat) (s : Hub) :
    ((s.setf (Fld.TRK_PAIR_STATUS_LOCKED (8 * p + k)) 0).setLane p k {} |>.dropScan (8 * p + k)).calm = s.calm :=
  Hub.calm_setf (by simp only [Fl.apart_iff, Fld.TRK_PAIR_STATUS_LOCKED]; omega) 0 s

theorem Hub.calm_dropLink {p : Nat} (hp : p ≤ 1) (s : Hub) : (s.dropLink p).calm = s.calm := by
  rw [Hub.dropLink, Hub.calm_maintSweep, Hub.calm_ringView, Hub.calm_dropTime, Hub.calm_setPort, Hub.calm_withRingPlan,
    Hub.calm_foldl fun t k _ => t.calm_dropLane p k, Hub.calm_setLink, Hub.calm_loopAbort hp]

theorem Hub.calm_stopCsup {p : Nat} (hp : p ≤ 1) (s : Hub) : (s.stopCsup p).calm = s.calm := by
  simp (disch := (simp only [Fl.apart_iff, Fld.TRK_PORT_STATUS_CSUP] <;> omega)) only
    [Hub.stopCsup, apply_ite Hub.calm, Hub.calm_setf, ite_self]

/-! Line power channels (R393). -/

theorem Hub.calm_setChan (c : Nat) (C : Chan) (s : Hub) : (s.setChan c C).calm = s.calm := rfl

theorem Hub.calm_setChState (c st : Nat) (s : Hub) : (s.setChState c st).calm = s.calm := by
  simp (disch := (simp only [Fl.apart_iff, Fld.LPW_CH_STATUS_STATE] <;> omega)) only [Hub.setChState, Hub.calm_maintSweep, Hub.calm_setf]

theorem Hub.calm_gateOff (c : Nat) (s : Hub) : (s.gateOff c).calm = s.calm := by
  simp (disch := (simp only [Fl.apart_iff, Fld.LPW_CH_STATUS_REGULATING] <;> omega)) only
    [Hub.gateOff, Hub.calm_setChan, Hub.calm_setf]

theorem Hub.calm_chOpen (c cause : Nat) (s : Hub) : (s.chOpen c cause).calm = s.calm := by
  rw [Hub.chOpen, Hub.calm_raise, Hub.calm_setChState, Hub.calm_gateOff]

theorem Hub.calm_chEval (c : Nat) (s : Hub) : (s.chEval c).calm = s.calm := by
  simp only [Hub.chEval, apply_ite Hub.calm, Hub.calm_setChState, Hub.calm_gateOff, Hub.calm_chOpen, ite_self]

theorem Hub.calm_chReturn (c : Nat) (s : Hub) : (s.chReturn c).calm = s.calm := by
  simp only [Hub.chReturn, apply_ite Hub.calm, Hub.calm_raise, Hub.calm_count, Hub.calm_chEval, ite_self]

theorem Hub.calm_restoreChan (c : Nat) (s : Hub) : (s.restoreChan c).calm = s.calm := by
  simp (disch := (simp only [Fl.apart_iff, Fld.LPW_CH_CFG_EN, Fld.LPW_CH_CFG_MODE] <;> omega)) only
    [Hub.restoreChan, apply_ite Hub.calm, Hub.calm_chEval, Hub.calm_setChState, Hub.calm_gateOff, Hub.calm_setf, ite_self]

/-! Drop ports, USB and the gadget (R343, R410). -/

theorem Hub.calm_setDrop (n : Nat) (P : TcpPort) (s : Hub) : (s.setDrop n P).calm = s.calm := rfl

theorem Hub.calm_usbGone {n : Nat} (hn : n ≤ 4) (s : Hub) : (s.usbGone n).calm = s.calm := by
  simp (disch := (simp only [Fl.apart_iff, Fld.USB_PORT_STATUS_ENABLED, Fld.USB_PORT_STATUS_SUSPENDED, Fld.USB_PORT_STATUS_SPEED]
    <;> omega)) only [Hub.usbGone, Hub.calm_setf]

theorem Hub.calm_setVbus (n : Nat) (on : Bool) (s : Hub) : (s.setVbus n on).calm = s.calm := by
  simp (disch := (simp only [Fl.apart_iff, Fld.TCP_PORT_STATUS_VBUS_ON, Fld.TCP_PORT_STATUS_PD] <;> omega)) only
    [Hub.setVbus, apply_ite Hub.calm, Hub.calm_chReturn, Hub.calm_chEval, Hub.calm_setf, Hub.calm_setb, Hub.calm_setDrop, ite_self]

theorem Hub.calm_dropContract (n : Nat) (s : Hub) : (s.dropContract n).calm = s.calm := by
  simp (disch := (simp only [Fl.apart_iff, Fld.TCP_PORT_CONTRACT_VOLT, Fld.TCP_PORT_CONTRACT_CUR, Fld.TCP_PORT_CONTRACT_MAX]
    <;> omega)) only [Hub.dropContract, Hub.calm_setf, Hub.calm_setChan, Hub.calm_setDrop]

theorem Hub.calm_setVconn (n : Nat) (on : Bool) (s : Hub) : (s.setVconn n on).calm = s.calm :=
  Hub.calm_setb (by simp only [Fl.apart_iff, Fld.TCP_PORT_STATUS_VCONN_SRC]; omega) on s

theorem Hub.calm_setHpd (n : Nat) (on : Bool) (s : Hub) : (s.setHpd n on).calm = s.calm := by
  simp (disch := (simp only [Fl.apart_iff, Fld.TCP_PORT_STATUS_HPD] <;> omega)) only
    [Hub.setHpd, Hub.setDropAt, Hub.calm_setb, apply_ite Hub.calm, Hub.calm_setDrop, ite_self]

theorem Hub.calm_muxSafe (n : Nat) (s : Hub) : (s.muxSafe n).calm = s.calm := by
  simp (disch := (simp only [Fl.apart_iff, Fld.TCP_PORT_STATUS_DP, Fld.TCP_PORT_STATUS_PIN] <;> omega)) only
    [Hub.muxSafe, Hub.calm_setHpd, Hub.calm_setf, Hub.calm_setDrop]

theorem Hub.calm_leaveAttached {n : Nat} (hn : n ≤ 4) (s : Hub) : (s.leaveAttached n).calm = s.calm := by
  simp (disch := (simp only [Fl.apart_iff, Fld.TCP_PORT_STATUS_FLIPPED, Fld.TCP_PORT_STATUS_RA, Fld.TCP_PORT_STATUS_NO_BUDGET,
    Fld.TCP_PORT_STATUS_PD_FAIL, Fld.TCP_PORT_STATUS_CABLE_5A, Fld.TCP_PORT_STATUS_CABLE_SS] <;> omega)) only
    [Hub.leaveAttached, Hub.calm_setf, Hub.calm_setDrop, Hub.calm_setVbus, Hub.calm_dropContract, Hub.calm_setVconn,
    Hub.calm_muxSafe, Hub.calm_usbGone hn]

theorem Hub.calm_setGrant (n g : Nat) (s : Hub) : (s.setGrant n g).calm = s.calm :=
  Hub.calm_setf (by simp only [Fl.apart_iff, Fld.TCP_PORT_GRANT_GRANT]; omega) _ _

theorem Hub.calm_regrant (s : Hub) : s.regrant.calm = s.calm := by
  unfold Hub.regrant Hub.showHeld
  rw [Hub.calm_setf (by simp only [Fl.apart_iff, Fld.TCP_STATUS_HELD]; omega)]
  refine Hub.calm_foldl (fun t n _ => ?_) s
  simp (disch := (simp only [Fl.apart_iff, Fld.TCP_PORT_STATUS_NO_BUDGET] <;> omega)) only
    [apply_ite Hub.calm, Hub.calm_raise, Hub.calm_setf, Hub.calm_setVbus, Hub.calm_dropContract, Hub.calm_muxSafe,
    Hub.calm_setGrant, ite_self]

theorem Hub.calm_setRp (n r : Nat) (s : Hub) : (s.setRp n r).calm = s.calm := rfl

theorem Hub.calm_tcDisable {n : Nat} (hn : n ≤ 4) (s : Hub) : (s.tcDisable n).calm = s.calm := by
  simp (disch := (simp only [Fl.apart_iff, Fld.TCP_PORT_STATUS_STATE] <;> omega)) only
    [Hub.tcDisable, Hub.calm_regrant, Hub.calm_setf, Hub.calm_setRp, apply_ite Hub.calm, Hub.calm_raise,
    Hub.calm_leaveAttached hn, ite_self]

theorem Hub.calm_setGadget (g : Gadget) (s : Hub) : (s.setGadget g).calm = s.calm := rfl

theorem Hub.calm_gadgetReset (s : Hub) : s.gadgetReset.calm = s.calm := by
  simp (disch := (simp only [Fl.apart_iff, Fld.USB_STATUS_CONFIGURED, Fld.USB_STATUS_SESSION] <;> omega)) only
    [Hub.gadgetReset, Hub.lockSession, Hub.calm_setf, Hub.calm_setGadget, Hub.calm_withHif]

theorem Hub.calm_emit (o : Out) (s : Hub) : (s.emit o).calm = s.calm := rfl

theorem Hub.calm_exitDp (n : Nat) (s : Hub) : (s.exitDp n).calm = s.calm := by
  simp only [Hub.exitDp, apply_ite Hub.calm, Hub.calm_emit, Hub.calm_muxSafe, ite_self]

/-! The cell pool (R162 to R168). -/

theorem Hub.calm_setQueue (q : Nat) (Q : Queue) (s : Hub) : (s.setQueue q Q).calm = s.calm := rfl

theorem Hub.calm_unbindCons (q : Nat) (w : Who) (s : Hub) : (s.unbindCons q w).calm = s.calm := by
  simp only [Hub.unbindCons, apply_ite Hub.calm, Hub.calm_setQueue, ite_self]

theorem Hub.calm_unbindProd (q : Nat) (w : Who) (s : Hub) : (s.unbindProd q w).calm = s.calm := by
  simp only [Hub.unbindProd, apply_ite Hub.calm, Hub.calm_setQueue, ite_self]

theorem Hub.calm_eccEnd (mem w : Nat) (s : Hub) : (s.eccEnd mem w).calm = s.calm := rfl

theorem Hub.calm_memStoreEcc (a : Nat) (bs : List Byte) (s : Hub) : (s.memStoreEcc a bs).calm = s.calm := by
  refine (Hub.calm_foldl (fun t w _ => ?_) _).trans (Hub.calm_of_parts rfl rfl rfl)
  simp only [apply_ite Hub.calm, Hub.calm_eccEnd, ite_self]

theorem Hub.calm_claimCheck (s : Hub) : s.claimCheck.calm = s.calm := by
  unfold Hub.claimCheck
  split
  · rfl
  · simp only [apply_ite Hub.calm, Hub.calm_raise, Hub.calm_withPool, ite_self]

theorem Hub.calm_setOverrun (q : Nat) (s : Hub) : (s.setOverrun q).calm = s.calm := by
  simp only [Hub.setOverrun, apply_ite Hub.calm, Hub.calm_raise, Hub.calm_setQueue, ite_self]

theorem Hub.calm_refuseCell (q : Nat) (c : PCell) (cause : Nat) (s : Hub) : (s.refuseCell q c cause).calm = s.calm := by
  simp only [Hub.refuseCell, Hub.gapLoss, apply_ite Hub.calm, Hub.calm_count, Hub.calm_setOverrun, Hub.calm_claimCheck,
    Hub.calm_setQueue, ite_self]

theorem Hub.calm_poolWatch (was : Int) (s : Hub) : (s.poolWatch was).calm = s.calm := by
  simp (disch := (simp only [Fl.apart_iff, Fld.CPL_GEN_LOW] <;> omega)) only
    [Hub.poolWatch, apply_ite Hub.calm, Hub.calm_raiseLimited, Hub.calm_setf, ite_self]

theorem Hub.calm_takeCell {q i : Nat} {s t : Hub} (taken : s.takeCell q = some (i, t)) : t.calm = s.calm := by
  obtain ⟨_, _, same⟩ := Option.map_eq_some_iff.mp taken
  cases same
  rfl

theorem Hub.calm_linkCell {q : Nat} {c : PCell} {s t : Hub} (linked : s.linkCell q c = some t) : t.calm = s.calm := by
  obtain ⟨⟨i, s1⟩, taken, rfl⟩ := Option.map_eq_some_iff.mp linked
  simp only [Hub.calm_poolWatch, Hub.calm_setQueue, Hub.calm_memStoreEcc, Hub.calm_takeCell taken]

theorem Hub.calm_placeCell (q : Nat) (c : PCell) (s : Hub) : (s.placeCell q c).calm = s.calm := by
  unfold Hub.placeCell
  split
  · exact s.calm_refuseCell q c 1
  · rw [Hub.calm_refuseCell, Hub.calm_count]
  · split
    next linked => exact Hub.calm_linkCell linked
    next => rw [Hub.calm_refuseCell, Hub.calm_count]

theorem Hub.calm_storeMarker (q : Nat) (c : PCell) (s : Hub) : (s.storeMarker q c).calm = s.calm := by
  unfold Hub.storeMarker
  dsimp only
  split
  · exact Hub.calm_setQueue ..
  · rw [Hub.calm_setQueue, Hub.calm_count]
  · split
    next => rw [Hub.calm_setQueue, Hub.calm_count]
    next linked => rw [Hub.calm_setQueue, Hub.calm_linkCell linked]

theorem Hub.calm_writeMarker (q : Nat) (s : Hub) : (s.writeMarker q).calm = s.calm := by
  unfold Hub.writeMarker
  dsimp only
  split
  · rfl
  · split
    · rfl
    · exact s.calm_count _ 1
    · split
      next => exact s.calm_count _ 1
      next linked => rw [Hub.calm_count, Hub.calm_setQueue, Hub.calm_linkCell linked, Hub.calm_setQueue]

theorem Hub.calm_startCell (q : Nat) (c : PCell) (s : Hub) : (s.startCell q c).calm = s.calm := by
  simp only [Hub.startCell, apply_ite Hub.calm, Hub.calm_count, Hub.calm_setQueue, Hub.calm_placeCell, Hub.calm_storeMarker,
    Hub.calm_writeMarker, ite_self]

theorem Hub.calm_moreCell (q : Nat) (c : PCell) (s : Hub) : (s.moreCell q c).calm = s.calm := by
  simp only [Hub.moreCell, apply_ite Hub.calm, Hub.calm_count, Hub.calm_claimCheck, Hub.calm_setQueue, Hub.calm_placeCell, ite_self]

theorem Hub.calm_frameCell (q : Nat) (c : PCell) (s : Hub) : (s.frameCell q c).calm = s.calm := by
  unfold Hub.frameCell
  dsimp only
  split
  · simp only [Hub.calm_startCell, apply_ite Hub.calm, Hub.calm_count, Hub.calm_claimCheck, Hub.calm_setQueue, ite_self]
  · split
    · rfl
    · simp only [apply_ite Hub.calm, Hub.calm_setQueue, ite_self]
    · simp only [apply_ite Hub.calm, Hub.calm_moreCell, Hub.calm_count, Hub.calm_setQueue, ite_self]

theorem Hub.calm_disabledCell (q : Nat) (c : PCell) (s : Hub) : (s.disabledCell q c).calm = s.calm := by
  unfold Hub.disabledCell
  dsimp only
  split
  · rw [Hub.calm_count, Hub.calm_setQueue]
  · split
    · exact s.calm_count _ 1
    · simp only [apply_ite Hub.calm, Hub.calm_setQueue, ite_self]
    · rfl

theorem Hub.calm_produce (q : Nat) (w : Who) (c : PCell) (s : Hub) : (s.produce q w c).calm = s.calm := by
  unfold Hub.produce
  split
  · exact s.calm_disabledCell q c
  · split
    · simp only [apply_ite Hub.calm, Hub.calm_frameCell, Hub.calm_count, ite_self]
    · split <;> simp only [apply_ite Hub.calm, Hub.calm_frameCell, Hub.calm_count, Hub.calm_setQueue, ite_self]

theorem Hub.calm_returnCells (q : Nat) (is : List Nat) (s : Hub) : (s.returnCells q is).calm = s.calm := by
  rw [Hub.returnCells, Hub.calm_claimCheck, Hub.calm_setQueue]

/-! Units whose domain goes down (R410). -/

theorem Hub.calm_setDhead (h : Nat) (H : DspHead) (s : Hub) : (s.setDhead h H).calm = s.calm := by
  simp (disch := (simp only [Fl.apart_iff, Fld.DSP_HEAD_STATUS_PEND, Fld.DSP_HEAD_STATUS_HELD, Fld.DSP_STAGE_USED] <;> omega)) only
    [Hub.setDhead, Hub.calm_setf, Hub.calm_withDsp]

theorem Hub.calm_dspIdle (h : Nat) (s : Hub) : (s.dspIdle h).calm = s.calm := by
  simp (disch := (simp only [Fl.apart_iff, Fld.DSP_HEAD_STATUS_STATE, Fld.DSP_HEAD_STATUS_LANES, Fld.DSP_HEAD_STATUS_RATE]
    <;> omega)) only [Hub.dspIdle, Hub.dspClear, Hub.calm_setf, Hub.calm_unbindCons, Hub.calm_setDhead]

theorem Hub.calm_setRport (d : Nat) (P : BlkPort) (s : Hub) : (s.setRport d P).calm = s.calm := rfl

theorem Hub.calm_chainWrite (cs : List Nat) (o : Nat) (bs : List Byte) (s : Hub) : (Hub.chainWrite cs o bs s).calm = s.calm := by
  induction bs generalizing o s with
  | nil => rfl
  | cons b t ih => rw [Hub.chainWrite, ih, Hub.calm_memStoreEcc]

theorem Hub.calm_adminDo (d op prp x y : Nat) (s : Hub) : (s.adminDo d op prp x y).calm = s.calm := by
  simp only [Hub.adminDo, Hub.submit, Hub.calm_emit, Hub.calm_setRport, Hub.calm_chainWrite]

theorem Hub.calm_nvmeDelete (d : Nat) (s : Hub) : (s.nvmeDelete d).calm = s.calm := by
  have queues : ∀ t : Hub, ∀ q ∈ List.range (s.bpIoq d), ((t.adminDo d 0x00 0 (q + 1) 0).adminDo d 0x04 0 (q + 1) 0).calm = t.calm :=
    fun t q _ => by rw [Hub.calm_adminDo, Hub.calm_adminDo]
  simp only [Hub.nvmeDelete, apply_ite Hub.calm, Hub.calm_emit, Hub.calm_foldl queues, ite_self]

theorem Hub.calm_blkRespond (x : BlkSlot) (kind status reason : Nat) (s : Hub) : (s.blkRespond x kind status reason).calm = s.calm := by
  unfold Hub.blkRespond
  dsimp only
  split
  · exact s.calm_count _ 1
  · split
    · rw [Hub.calm_setQueue, Hub.calm_memStoreEcc]
    · simp only [apply_ite Hub.calm, Hub.calm_count, Hub.calm_produce, ite_self]

theorem Hub.calm_showSlots (d : Nat) (s : Hub) : (s.showSlots d).calm = s.calm := by
  simp (disch := (simp only [Fl.apart_iff, Fld.BLK_PORT_INFLIGHT_COUNT, Fld.BLK_PORT_INFLIGHT_HIGH] <;> omega)) only
    [Hub.showSlots, Hub.calm_setf]

theorem Hub.calm_freeSlotBlk (d i : Nat) (s : Hub) : (s.freeSlotBlk d i).calm = s.calm := by
  unfold Hub.freeSlotBlk
  split
  · rfl
  · rw [Hub.calm_showSlots, Hub.calm_withBlk]
    split
    · exact Hub.calm_returnCells ..
    · split
      · rfl
      · exact Hub.calm_returnCells ..

theorem Hub.calm_slotAnswer (d i kind status reason : Nat) (s : Hub) : (s.slotAnswer d i kind status reason).calm = s.calm := by
  unfold Hub.slotAnswer
  split
  · rfl
  · simp only [Hub.calm_freeSlotBlk, apply_ite Hub.calm, Hub.calm_blkRespond, ite_self]

theorem Hub.calm_failSlots (d : Nat) (s : Hub) : (s.failSlots d).2.calm = s.calm :=
  Hub.calm_foldl (fun _ _ _ => Hub.calm_slotAnswer ..) s

theorem Hub.calm_blkIdle (d : Nat) (s : Hub) : (s.blkIdle d).calm = s.calm := by
  simp (disch := (simp only [Fl.apart_iff, Fld.BLK_PORT_STATUS_STATE, Fld.BLK_PORT_STATUS_SPEED, Fld.BLK_PORT_STATUS_WIDTH,
    Fld.BLK_PORT_MDTS] <;> omega)) only [Hub.blkIdle, Hub.calm_raise, Hub.calm_setf, Hub.calm_emit, Hub.calm_setRport,
    Hub.calm_unbindCons, Hub.calm_unbindProd, Hub.calm_returnCells, Hub.calm_nvmeDelete, Hub.calm_failSlots]

theorem Hub.calm_blkFail (d cause : Nat) (s : Hub) : (s.blkFail d cause).calm = s.calm := by
  simp (disch := (simp only [Fl.apart_iff, Fld.BLK_PORT_STATUS_STATE, Fld.BLK_PORT_STATUS_CAUSE, Fld.BLK_PORT_STATUS_SPEED,
    Fld.BLK_PORT_STATUS_WIDTH] <;> omega)) only [Hub.blkFail, Hub.calm_raise, Hub.calm_setf, Hub.calm_setRport]

theorem Hub.calm_canQuiet (c : Nat) (s : Hub) : (s.canQuiet c).calm = s.calm := by
  unfold Hub.canQuiet
  split
  · rfl
  · rw [Hub.calm_setf (by simp only [Fl.apart_iff, Fld.FBR_MB_STAT_BUSY]; omega), Hub.calm_withFbr]

theorem Hub.calm_ethOff (p : Nat) (s : Hub) : (s.ethOff p).calm = s.calm := by
  simp (disch := (simp only [Fl.apart_iff, Fld.NET_PORT_STATUS_LINK, Fld.NET_PORT_STATUS_SPEED, Fld.NET_PORT_STATUS_AN_DONE,
    Fld.NET_PORT_STATUS_LOCAL_FAULT, Fld.NET_PORT_STATUS_REMOTE_FAULT] <;> omega)) only
    [Hub.ethOff, Hub.ethDown, apply_ite Hub.calm, Hub.calm_raise, Hub.calm_setf, Hub.calm_setb, ite_self]

/-! The host port (R219, R224). -/

theorem Hub.calm_ringDrop (r : Nat) (s : Hub) : (s.ringDrop r).calm = s.calm := by
  have forgot : (s.forgetAsker r).calm = s.calm := rfl
  simp (disch := (simp only [Fl.apart_iff, Fld.HIF_RING_CFG_EN, Fld.HIF_RING_STATUS_STATE, Fld.HIF_RING_STATUS_CAUSE] <;> omega)) only
    [Hub.ringDrop, Hub.unbindRing, Hub.calm_setf, apply_ite Hub.calm, Hub.calm_unbindProd, Hub.calm_unbindCons, forgot, ite_self]

theorem Hub.calm_ringsOff (s : Hub) : s.ringsOff.calm = s.calm := by
  unfold Hub.ringsOff
  rw [Hub.calm_withHif]
  exact Hub.calm_foldl (fun t r _ => t.calm_ringDrop r) s

theorem Hub.calm_linkLost (s : Hub) : s.linkLost.calm = s.calm := by
  simp (disch := (simp only [Fl.apart_iff, Fld.HIF_STATUS_LINK_UP, Fld.HIF_STATUS_SPEED, Fld.HIF_STATUS_WIDTH] <;> omega)) only
    [Hub.linkLost, apply_ite Hub.calm, Hub.calm_raise, Hub.calm_setf, ite_self]

/-- Fields outside the range that is reset keep their values. -/
theorem Hub.getf_resetFields {f : Fl} {lo hi : Nat} (outside : f.key < lo ∨ hi ≤ f.key) (s : Hub) :
    (s.resetFields lo hi).getf f = s.getf f := by
  have kept : (decide (lo ≤ f.key) && decide (f.key < hi)) = false := by
    rw [Bool.and_eq_false_iff, decide_eq_false_iff_not, decide_eq_false_iff_not]
    omega
  simp only [Hub.getf, Hub.resetFields, Tab.getD, Tab.get?_delIf, kept, Bool.false_eq_true, if_false]

theorem Hub.calm_resetMsix (s : Hub) : (s.resetFields (Fld.HIF_PBA_PENDING 0).key (32 * 0x020000)).calm = s.calm := by
  have outside : ∀ f ∈ calmFields, f.key < (Fld.HIF_PBA_PENDING 0).key ∨ 32 * 0x020000 ≤ f.key := by decide
  have fields := List.map_inj_left.mpr fun f m => s.getf_resetFields (outside f m)
  rw [Hub.calm, Hub.calm, fields, Hub.resetFields_pwr, Hub.resetFields_sec]

theorem Hub.calm_hostReset (cause : Nat) (s : Hub) : (s.hostReset cause).calm = s.calm := by
  simp (disch := (simp only [Fl.apart_iff, Fld.HIF_CTL_DB_EN, Fld.HIF_STATUS_BME, Fld.HIF_STATUS_DUMP_ARMED] <;> omega)) only
    [Hub.hostReset, Hub.calm_raise, apply_ite Hub.calm, Hub.calm_emit, Hub.calm_withHif, Hub.calm_linkLost, Hub.calm_resetMsix,
    Hub.calm_setf, Hub.calm_ringsOff, ite_self]

theorem Hub.calm_usbUnitsDown (s : Hub) : (s.unitsDown dUSBPD).calm = s.calm := by
  have ports : ∀ t : Hub, ∀ n ∈ List.range 4, (t.tcDisable n).calm = t.calm :=
    fun t n m => Hub.calm_tcDisable (Nat.le_of_lt (List.mem_range.mp m)) t
  have usb : ∀ t : Hub, ∀ n ∈ List.range 5, (t.usbGone n).calm = t.calm :=
    fun t n m => Hub.calm_usbGone (Nat.le_of_lt_succ (List.mem_range.mp m)) t
  simp (disch := (simp only [Fl.apart_iff, Fld.TCP_S_STATUS_ATTACHED, Fld.USB_STATUS_UP, Fld.USB_STATUS_SPEED] <;> omega)) only
    [Hub.unitsDown, if_true, Hub.calm_gadgetReset, Hub.calm_setf, Hub.calm_foldl usb, Hub.calm_foldl ports]

/-- The units of every domain: drop ports and USB, display ports, display, storage, bridge, Ethernet, and the quads of the host port. -/
theorem Hub.calm_unitsDown (d : Nat) (s : Hub) : (s.unitsDown d).calm = s.calm := by
  by_cases usb : d = dUSBPD
  · rw [usb]
    exact s.calm_usbUnitsDown
  unfold Hub.unitsDown
  rw [if_neg usb]
  split
  · simp only [apply_ite Hub.calm, Hub.calm_exitDp, ite_self]
  split
  · exact Hub.calm_foldl (fun t h _ => by simp only [apply_ite Hub.calm, Hub.calm_dspIdle, ite_self]) s
  split
  · exact Hub.calm_foldl (fun t r _ => by simp only [apply_ite Hub.calm, Hub.calm_blkIdle, ite_self]) s
  split
  · exact Hub.calm_foldl (fun t c _ => t.calm_canQuiet c) s
  split
  · exact Hub.calm_foldl (fun t p _ => t.calm_ethOff p) s
  split
  · simp only [apply_ite Hub.calm, Hub.calm_blkFail, Hub.calm_failSlots, Hub.calm_hostReset, ite_self]
  · rfl

/-! Pins, and the hub held (R23, R195). -/

theorem Hub.calm_driveTio (n : Nat) (on : Bool) (s : Hub) : (s.driveTio n on).calm = s.calm := rfl

end Sys2Proof.Machine
end

section
/-! PROOFS. Power-on, the straps, the rails, device resets and failsafe (R20 to R23, R377, R378, R414, R442 to R448, R477, R478). -/

namespace Sys2Proof.Machine

/-! Power-on and the straps. -/

theorem Tab.get?_filter {α : Type} (p : Nat → Bool) (k : Nat) (t : Tab α) :
    Tab.get? k (t.filter (fun e => p e.1)) = if p k then Tab.get? k t else none := by
  induction t with
  | nil => simp
  | cons e t ih =>
    obtain ⟨a, b⟩ := e
    by_cases same : k = a
    · subst same
      by_cases kept : p k = true <;> simp [Tab.get?, kept, ih]
    · by_cases kept : p a = true <;> simp [Tab.get?, kept, same, ih]

/-- The registers that the fuses give: GEN_ID and the other registers whose values outlive the always-on domain (R377). -/
def fusedReg (off : Nat) : Bool := off == 0 || off == 0x10 || off == 0x14 || off == 0x0F0000 || off == 0x0F0008

/-- After power-on a field is at its reset value unless the fuses give it. -/
theorem Hub.getf_afterPower (s : Hub) (f : Fl) : s.afterPower.getf f = if fusedReg (f.key / 32) then s.getf f else f.rst := by
  have regs : s.afterPower.regs = s.regs.filter (fun e => fusedReg (e.1 / 32)) := rfl
  rw [Hub.getf, Tab.getD, regs, Tab.get?_filter (fun k => fusedReg (k / 32))]
  split <;> rfl

/-- What the straps leave beside the fields they set. -/
theorem Hub.getf_sampleStraps {f : Fl} (apart : ∀ g ∈ [Fld.GEN_STRAPS_MODE, Fld.GEN_STRAPS_UPB_SEL, Fld.GEN_STRAPS_ROLE,
    Fld.GEN_STRAPS_FUSED, Fld.HIF_STATUS_MODE], f.key ≠ g.key) (m : Nat) (u : Bool) (s : Hub) :
    (s.sampleStraps m u).getf f = s.getf f := by
  simp only [List.forall_mem_cons] at apart
  obtain ⟨mode, upb, role, fused, hif, -⟩ := apart
  unfold Hub.sampleStraps
  rw [Hub.getf_setf_ne _ hif, Hub.getf_setb_ne _ fused, Hub.getf_setf_ne _ role, Hub.getf_setb_ne _ upb, Hub.getf_setf_ne _ mode]

theorem Hub.mode_sampleStraps (m : Nat) (u : Bool) (s : Hub) : (s.sampleStraps m u).getf Fld.GEN_STRAPS_MODE = m % 2 ^ 2 := by
  unfold Hub.sampleStraps
  rw [Hub.getf_setf_ne _ (by decide), Hub.getf_setb_ne _ (by decide), Hub.getf_setf_ne _ (by decide), Hub.getf_setb_ne _ (by decide),
    Hub.getf_setf_self]
  rfl

theorem Hub.upb_sampleStraps (m : Nat) (u : Bool) (s : Hub) : (s.sampleStraps m u).flag Fld.GEN_STRAPS_UPB_SEL = u := by
  unfold Hub.sampleStraps Hub.flag
  rw [Hub.getf_setf_ne _ (by decide), Hub.getf_setb_ne _ (by decide), Hub.getf_setf_ne _ (by decide), Hub.getf_setb_self _ _ _ (by decide)]
  cases u <;> rfl

theorem Hub.role_sampleStraps (m : Nat) (u : Bool) (s : Hub) :
    (s.sampleStraps m u).getf Fld.GEN_STRAPS_ROLE = roleOf (s.getf Fld.GEN_ID_VARIANT) m % 2 ^ 2 := by
  unfold Hub.sampleStraps
  rw [Hub.getf_setf_ne _ (by decide), Hub.getf_setb_ne _ (by decide), Hub.getf_setf_self]
  rfl

theorem Hub.strapHeld_of_role {s : Hub} (role : s.getf Fld.GEN_STRAPS_ROLE ≠ 3) : s.strapHeld = s := if_neg role

/-- FAULT_N aside, its driver changes no start-up record. -/
theorem Hub.setFaultN_sec (on : Bool) (s : Hub) : (s.setFaultN on).sec = { s.sec with faultN := on } := by
  unfold Hub.setFaultN
  split
  · next same => rw [← same]
  · rfl

theorem Hub.setFaultN_regs (on : Bool) (s : Hub) : (s.setFaultN on).regs = s.regs := by
  unfold Hub.setFaultN
  split <;> rfl

theorem Hub.setFaultN_pwr (on : Bool) (s : Hub) : (s.setFaultN on).pwr = s.pwr := by
  unfold Hub.setFaultN
  split <;> rfl

theorem Hub.holdHub_stage (s : Hub) : s.holdHub.sec.stage = sgHeld := rfl

theorem Hub.holdHub_faultN (s : Hub) : s.holdHub.sec.faultN = true := by
  simp [Hub.holdHub, Hub.setStage, Hub.setFaultN_sec]

/-- The role after power-on is the strapped one, but a hub of a variant other than 0x0A strapped 0b10 is a node (R21). -/
theorem Hub.role_por (s : Hub) {m : Nat} (u : Bool) (lt : m < 4) :
    (s.afterPower.sampleStraps m u).getf Fld.GEN_STRAPS_ROLE = if m = 2 ∧ s.getf Fld.GEN_ID_VARIANT ≠ 0x0A then 1 else m := by
  rw [Hub.role_sampleStraps, Hub.getf_afterPower, if_pos (by decide)]
  unfold roleOf
  split <;> omega

theorem Hub.addr_por (s : Hub) (m : Nat) (u : Bool) : (s.afterPower.sampleStraps m u).getf Fld.GEN_HUB_ADDR_ADDR = 0x1FE := by
  rw [Hub.getf_sampleStraps (by decide), Hub.getf_afterPower, if_neg (by decide)]
  rfl

/-- A strapping to a role leaves the hub as power does, with the straps shown (R20, R21). -/
theorem runs_por {m : Fin 4} {u : Bool} {s : State} {Q : Hub → Prop} (strapped : m ≠ 3)
    (q : Q (s.hub.afterPower.sampleStraps m u)) : Runs (.por m u) s Q := by
  refine ⟨_, rfl, ?_⟩
  have role : (s.hub.afterPower.sampleStraps m u).getf Fld.GEN_STRAPS_ROLE ≠ 3 := by
    rw [Hub.role_sampleStraps]
    unfold roleOf
    split <;> omega
  change Q (s.hub.afterPower.sampleStraps m u).strapHeld
  rwa [Hub.strapHeld_of_role role]

theorem Hub.strapHeld_sec {s : Hub} (role : s.getf Fld.GEN_STRAPS_ROLE = 3) :
    s.strapHeld.sec = { s.linkLost.holdHub.sec with strapInvalid := true } := by
  rw [Hub.strapHeld, if_pos role]

/-- The strapping 0b11 holds the hub (R23). -/
theorem Hub.strapHeld_invalid (u : Bool) (s : Hub) :
    (s.sampleStraps 3 u).strapHeld.sec.strapInvalid = true ∧ (s.sampleStraps 3 u).strapHeld.sec.stage = sgHeld ∧
      (s.sampleStraps 3 u).strapHeld.sec.faultN = true := by
  have role : (s.sampleStraps 3 u).getf Fld.GEN_STRAPS_ROLE = 3 := s.role_sampleStraps 3 u
  rw [Hub.strapHeld_sec role]
  simp only [Hub.holdHub_stage, Hub.holdHub_faultN, and_self]

/-! The rails (R442, R477, R478). -/

section
variable (s : Hub)

theorem Hub.foldl_emit {α : Type} (g : α → Out) (l : List α) :
    l.foldl (fun t x => t.emit (g x)) s = { s with out := (l.map g).reverse ++ s.out } := by
  induction l generalizing s with
  | nil => rfl
  | cons x l ih =>
    rw [List.foldl_cons, ih]
    simp [Hub.emit]

theorem Hub.stopCsup_sec (p : Nat) : (s.stopCsup p).sec = s.sec := by simp [Hub.stopCsup, apply_ite Hub.sec]
theorem Hub.stopCsup_out (p : Nat) : (s.stopCsup p).out = s.out := by simp [Hub.stopCsup, apply_ite Hub.out]
theorem Hub.supplyCsup_sec (p : Nat) : (s.supplyCsup p).sec = s.sec := by simp [Hub.supplyCsup, Hub.emit, apply_ite Hub.sec]
theorem Hub.startCsup_sec (p : Nat) : (s.startCsup p).sec = s.sec := by
  simp [Hub.startCsup, Hub.supplyCsup_sec, apply_ite Hub.sec]

theorem Hub.getf_stopCsup {f : Fl} {p : Nat} (apart : f.key ≠ (Fld.TRK_PORT_STATUS_CSUP p).key) : (s.stopCsup p).getf f = s.getf f := by
  unfold Hub.stopCsup
  split
  · exact Hub.getf_setf_ne _ apart _
  · rfl

/-- Of the start-up record, the enables change only the count of rails. -/
theorem Hub.driveRails_sec (n : Nat) : (s.driveRails n).sec = { s.sec with railUp := n } := by
  simp [Hub.driveRails, Hub.foldl_emit, apply_ite Hub.sec, Hub.stopCsup_sec]

theorem Hub.railEn_driveRails (n : Nat) : (s.driveRails n).getf Fld.LPW_STATUS_RAIL_EN = (2 ^ n - 1) % 2 ^ 6 := by
  have csup (p : Nat) : Fld.LPW_STATUS_RAIL_EN.key ≠ (Fld.TRK_PORT_STATUS_CSUP p).key := by
    simp only [Fld.LPW_STATUS_RAIL_EN, Fld.TRK_PORT_STATUS_CSUP]
    omega
  unfold Hub.driveRails
  extract_lets _ s1 up dn s2 s3
  have shown : s3.getf Fld.LPW_STATUS_RAIL_EN = (2 ^ n - 1) % 2 ^ 6 :=
    (Hub.getf_setf_ne _ (f := Fld.LPW_STATUS_PG) (by decide) _).trans (s2.getf_setf_self Fld.LPW_STATUS_RAIL_EN _)
  split
  · exact shown
  · rw [Hub.getf_stopCsup _ (csup 1), Hub.getf_stopCsup _ (csup 0), shown]

/-- The enable of the next rail rises, and no other enable moves. -/
theorem Hub.driveRails_next_out {n : Nat} (lt : n < 6) (railUp : s.sec.railUp = n) :
    (s.driveRails (n + 1)).out = .railEn n true :: s.out := by
  have rise : (List.range 6).filter (fun i => decide (n ≤ i) && decide (i < n + 1)) = [n] := by
    interval_cases n <;> rfl
  have fall : (List.range 6).filter (fun i => decide (n + 1 ≤ i) && decide (i < n)) = [] := by
    interval_cases n <;> rfl
  simp only [Hub.driveRails, railUp, rise, fall, Hub.foldl_emit]
  simp [apply_ite Hub.out, Hub.stopCsup_out]

/-- The failures of the last minute, with the one at hand (R448). -/
def Hub.railFailsNow : List Nat := s.sec.railFails.filter (fun t => decide (s.up < t + 60000000000)) ++ [s.up]

/-- A rail's failure: the rails fall, FAULT_N is asserted, and the retry waits for a second, or a minute after three failures (R448). -/
theorem Hub.railFail_sec (i : Nat) : (s.railFail i).sec =
    { s.sec with
      railUp := 0, railFails := s.railFailsNow, stage := sgAon, faultN := true,
      railWait := some (s.up + if 3 ≤ s.railFailsNow.length then 60000000000 else 1000000000) } := by
  unfold Hub.railFail
  simp only [Hub.setFaultN_sec, Hub.driveRails_sec, Hub.raise_sec]
  rfl

theorem Hub.railEn_railFail (i : Nat) : (s.railFail i).getf Fld.LPW_STATUS_RAIL_EN = 0 := by
  unfold Hub.railFail Hub.getf
  rw [Hub.setFaultN_regs]
  exact Hub.railEn_driveRails _ 0

/-- A rail whose PG stays low is enabled, and waits for its PG. -/
theorem Hub.enableRail_sec (n : Nat) :
    (s.enableRail n false).sec = { s.sec with railUp := n + 1, railAt := (s.driveRails (n + 1)).up } := by
  simp only [Hub.enableRail, Hub.driveRails_sec, Bool.false_eq_true, if_false]

theorem Hub.enableRail_out (n : Nat) : (s.enableRail n false).out = (s.driveRails (n + 1)).out := rfl

/-- A rail whose PG is high already fails (R478). -/
theorem Hub.enableRail_failed (n : Nat) : ∃ t : Hub, s.enableRail n true = t.railFail n := ⟨_, rfl⟩

end

/-! A device reset (R444). -/

section
variable (s : Hub)

theorem Hub.calm_restoreChans : ((List.range 8).foldl (fun t c => t.restoreChan c) s).calm = s.calm :=
  Hub.calm_foldl (fun t c _ => Hub.calm_restoreChan c t) s

theorem Hub.getf_setFaultN (on : Bool) (f : Fl) : (s.setFaultN on).getf f = s.getf f := by
  unfold Hub.getf
  rw [Hub.setFaultN_regs]

theorem Hub.pwr_of_calm {s t : Hub} (same : t.calm = s.calm) : t.pwr = s.pwr := congrArg Calm.pwr same

theorem Hub.sec_of_calm {s t : Hub} (same : t.calm = s.calm) : t.sec = s.sec := congrArg Calm.sec same

theorem Hub.getf_withSec (x : SecRec) (f : Fl) : ({ s with sec := x } : Hub).getf f = s.getf f := rfl
theorem Hub.setStage_pwr (n : Nat) : (s.setStage n).pwr = s.pwr := rfl
theorem Hub.getf_setStage (n : Nat) (f : Fl) : (s.setStage n).getf f = s.getf f := rfl

/-- What a hub keeps when it holds itself. -/
theorem Hub.holdHub_kept : s.holdHub.pwr = s.pwr ∧ ∀ f ∈ calmFields, s.holdHub.getf f = s.getf f := by
  unfold Hub.holdHub
  extract_lets s1
  have calm : s1.calm = s.calm := by
    rw [Hub.calm_restoreChans, Hub.calm_dropLink (Nat.le_refl 1), Hub.calm_dropLink (Nat.zero_le 1)]
  simp only [Hub.setStage_pwr, Hub.getf_setStage, Hub.setFaultN_pwr, Hub.getf_setFaultN]
  exact ⟨Hub.pwr_of_calm calm, fun f m => Hub.getf_of_calm calm m⟩

/-- A device reset records its class and its detail, and keeps the failsafe's record (R444). -/
theorem Hub.deviceReset_cause (cls detail : Nat) :
    (s.deviceReset cls detail).getf Fld.GEN_RESET_CAUSE_CLASS = cls % 2 ^ 4 ∧
      (s.deviceReset cls detail).getf Fld.GEN_RESET_CAUSE_DETAIL = detail % 2 ^ 4 ∧
      (s.deviceReset cls detail).pwr.failsafe = s.pwr.failsafe := by
  unfold Hub.deviceReset
  extract_lets link keep pins s0 s1 inRegion cause x _ s2 s3 s4
  have calm0 : s0.calm = s.calm := by
    have silent : ∀ t : Hub, ∀ n ∈ pins, (t.emit (.tio n none)).calm = t.calm := fun t n _ => Hub.calm_emit _ t
    rw [Hub.calm_foldl silent, Hub.calm_ringsOff, Hub.calm_dropLink (Nat.le_refl 1), Hub.calm_dropLink (Nat.zero_le 1)]
  have calm1 : s1.calm = s.calm := by
    simp only [s1, apply_ite Hub.calm, Hub.calm_linkLost, calm0, ite_self]
  have pwr1 : s1.pwr = s.pwr := Hub.pwr_of_calm calm1
  have failsafe2 : s2.pwr.failsafe = s.pwr.failsafe := by
    change s1.pwr.failsafe = _
    rw [pwr1]
  have failsafe3 : s3.pwr.failsafe = s.pwr.failsafe := by
    simp only [s3, Hub.setFaultN_pwr, Hub.setf_pwr, Hub.setb_pwr, failsafe2]
  have class3 : s3.getf Fld.GEN_RESET_CAUSE_CLASS = cls % 2 ^ 4 := by
    simp (disch := decide) only [s3, Hub.getf_setFaultN, Hub.getf_setf_ne, Hub.getf_setb_ne]
    exact Hub.getf_setf_self _ _ _
  have detail3 : s3.getf Fld.GEN_RESET_CAUSE_DETAIL = detail % 2 ^ 4 := by
    simp (disch := decide) only [s3, Hub.getf_setFaultN, Hub.getf_setf_ne, Hub.getf_setb_ne]
    exact Hub.getf_setf_self _ _ _
  have class4 : s4.getf Fld.GEN_RESET_CAUSE_CLASS = cls % 2 ^ 4 := by
    simp (disch := decide) only [s4, apply_ite (Hub.getf · Fld.GEN_RESET_CAUSE_CLASS), Hub.getf_setf_ne, class3, ite_self]
  have detail4 : s4.getf Fld.GEN_RESET_CAUSE_DETAIL = detail % 2 ^ 4 := by
    simp (disch := decide) only [s4, apply_ite (Hub.getf · Fld.GEN_RESET_CAUSE_DETAIL), Hub.getf_setf_ne, detail3, ite_self]
  have failsafe4 : s4.pwr.failsafe = s.pwr.failsafe := by
    simp only [s4, apply_ite Hub.pwr, Hub.setf_pwr, ite_self, failsafe3]
  obtain ⟨pwr, fields⟩ := s4.holdHub_kept
  split
  · rw [fields _ (by simp [calmFields]), fields _ (by simp [calmFields]), pwr]
    exact ⟨class4, detail4, failsafe4⟩
  · exact ⟨class4, detail4, failsafe4⟩

end

/-! Failsafe (R414). -/

section
variable (s : Hub)

theorem Hub.up_upTo {u : Nat} (past : s.stepped ≤ (s.now : Int)) : u ≤ (s.upTo u).up := by
  have now : (s.upTo u).now = s.now + (u - s.up) := by
    unfold Hub.upTo Hub.advance
    split
    · rfl
    · omega
  rw [Hub.up, now, Hub.upTo_stepped, Hub.up]
  omega

/-- A change of the failsafe's record alone. -/
def Hub.withFailsafe (f : Failsafe) : Hub := { s with pwr := { s.pwr with failsafe := f } }

theorem Hub.withFailsafe_failsafe (f : Failsafe) : (s.withFailsafe f).pwr.failsafe = f := rfl
theorem Hub.withFailsafe_regs (f : Failsafe) : (s.withFailsafe f).regs = s.regs := rfl
theorem Hub.withFailsafe_up (f : Failsafe) : (s.withFailsafe f).up = s.up := rfl

/-- A trunk port's step into failsafe. -/
def Hub.portToFailsafe (p : Nat) : Hub :=
  let u := (s.dropLink p).stopCsup p
  (u.setPort p { u.port p with preHold := u.attach p }).setf (Fld.TRK_PORT_STATUS_ATTACH p) atFailsafe

theorem Hub.attach_portToFailsafe (p : Nat) : (s.portToFailsafe p).attach p = atFailsafe := Hub.getf_setf_self _ _ _

theorem Hub.getf_portToFailsafe {p : Nat} (hp : p ≤ 1) {f : Fl} (m : f ∈ calmFields)
    (apart : f.key ≠ (Fld.TRK_PORT_STATUS_ATTACH p).key) : (s.portToFailsafe p).getf f = s.getf f := by
  unfold Hub.portToFailsafe
  rw [Hub.getf_setf_ne _ apart]
  refine Hub.getf_of_calm ?_ m
  rw [Hub.calm_setPort, Hub.calm_stopCsup hp, Hub.calm_dropLink hp]

/-- A power domain as failsafe leaves it. -/
def Hub.domToFailsafe (d : Nat) : Hub :=
  if d = dSVC then (s.setf (Fld.PWR_DOM_STATUS_STATE d) dmStable).setf (Fld.PWR_DOM_STATUS_STEP d) 0
  else ((s.setDom d {}).setf (Fld.PWR_DOM_STATUS_STATE d) dmStable).setf (Fld.PWR_DOM_STATUS_STEP d) 3

theorem Hub.domToFailsafe_kept (d : Nat) :
    (s.domToFailsafe d).pwr.failsafe = s.pwr.failsafe ∧ ∀ f ∈ calmFields, (s.domToFailsafe d).getf f = s.getf f := by
  have state (v : Nat) (t : Hub) : (t.setf (Fld.PWR_DOM_STATUS_STATE d) v).calm = t.calm :=
    Hub.calm_setf (by simp only [Fl.apart_iff, Fld.PWR_DOM_STATUS_STATE]; omega) v t
  have step (v : Nat) (t : Hub) : (t.setf (Fld.PWR_DOM_STATUS_STEP d) v).calm = t.calm :=
    Hub.calm_setf (by simp only [Fl.apart_iff, Fld.PWR_DOM_STATUS_STEP]; omega) v t
  unfold Hub.domToFailsafe
  split
  · exact ⟨by simp, fun f m => Hub.getf_of_calm ((step _ _).trans (state _ s)) m⟩
  · exact ⟨by simp [Hub.setDom], fun f m => Hub.getf_of_calm (s := s.setDom d {}) ((step _ _).trans (state _ _)) m⟩

theorem Hub.domsToFailsafe_kept (l : List Nat) :
    (l.foldl Hub.domToFailsafe s).pwr.failsafe = s.pwr.failsafe ∧ ∀ f ∈ calmFields, (l.foldl Hub.domToFailsafe s).getf f = s.getf f := by
  induction l generalizing s with
  | nil => exact ⟨rfl, fun _ _ => rfl⟩
  | cons d l ih =>
    obtain ⟨failsafe, fields⟩ := ih (s.domToFailsafe d)
    obtain ⟨failsafe1, fields1⟩ := s.domToFailsafe_kept d
    exact ⟨failsafe.trans failsafe1, fun f m => (fields f m).trans (fields1 f m)⟩

/-- What a hub shows in failsafe (R414). -/
theorem Hub.enterFailsafe_shows (out : s.pwr.failsafe.active = false) :
    s.enterFailsafe.pwr.failsafe.active = true ∧ s.enterFailsafe.flag Fld.PWR_STATUS_FAILSAFE_SEEN = true ∧
      s.enterFailsafe.attach 0 = atFailsafe ∧ s.enterFailsafe.attach 1 = atFailsafe ∧
      s.enterFailsafe.getf Fld.PWR_STATUS_XTAL_FAILS = min 255 (s.getf Fld.PWR_STATUS_XTAL_FAILS + 1) ∧
      s.enterFailsafe.sec.faultN = true := by
  unfold Hub.enterFailsafe
  rw [if_neg (by simp [out])]
  extract_lets port pins s1 _ s2 s3 s4
  have ports : port 1 (port 0 s) = (s.portToFailsafe 0).portToFailsafe 1 := rfl
  have calm1 : s1.calm = ((s.portToFailsafe 0).portToFailsafe 1).calm := by
    have units : ∀ t : Hub, ∀ d ∈ List.range 24, (t.unitsDown d).calm = t.calm := fun t d _ => Hub.calm_unitsDown d t
    have drives : ∀ t : Hub, ∀ n ∈ pins, (t.driveTio n (t.flag (Fld.LTM_TIO_CFG_IDLE n))).calm = t.calm :=
      fun t n _ => Hub.calm_driveTio n _ t
    rw [Hub.calm_foldl units, Hub.calm_foldl drives, ports]
  clear_value s1
  have active2 : s2.pwr.failsafe.active = true := rfl
  have fields2 (f : Fl) : s2.getf f = s1.getf f := rfl
  obtain ⟨failsafe3, fields3⟩ : s3.pwr.failsafe = s2.pwr.failsafe ∧ ∀ f ∈ calmFields, s3.getf f = s2.getf f :=
    s2.domsToFailsafe_kept (List.range 24)
  have kept (f : Fl) (m : f ∈ calmFields) : s3.getf f = ((s.portToFailsafe 0).portToFailsafe 1).getf f := by
    rw [fields3 f m, fields2, Hub.getf_of_calm calm1 m]
  have attach0 : s3.attach 0 = atFailsafe := by
    rw [Hub.attach, kept _ (by simp [calmFields]), Hub.getf_portToFailsafe _ (Nat.le_refl 1) (by simp [calmFields]) (by decide)]
    exact s.attach_portToFailsafe 0
  have attach1 : s3.attach 1 = atFailsafe := by
    rw [Hub.attach, kept _ (by simp [calmFields])]
    exact (s.portToFailsafe 0).attach_portToFailsafe 1
  have calm5 : ((List.range 8).foldl (fun t c => t.restoreChan c) s4).maintSweep.calm = s4.calm := by
    rw [Hub.calm_maintSweep, Hub.calm_restoreChans]
  simp only [Hub.flag, Hub.attach] at attach0 attach1 ⊢
  rw [Hub.getf_of_calm calm5 (by simp [calmFields]), Hub.getf_of_calm calm5 (by simp [calmFields]),
    Hub.getf_of_calm calm5 (by simp [calmFields]), Hub.getf_of_calm calm5 (by simp [calmFields]), Hub.pwr_of_calm calm5,
    Hub.sec_of_calm calm5]
  simp (disch := decide) only [s4, Hub.setFaultN_pwr, Hub.getf_setFaultN, Hub.setFaultN_sec, Hub.setf_pwr, failsafe3, active2,
    Hub.getf_setf_self, Hub.getf_setf_ne, attach0, attach1, true_and, and_true]
  refine ⟨rfl, ?_⟩
  exact Nat.mod_eq_of_lt (by simp only [Fld.PWR_STATUS_XTAL_FAILS]; omega)

end

/-- The crystal's return ends failsafe with a device reset, whose event is owed (R414). -/
theorem Hub.leaveFailsafe_shows (s : Hub) :
    s.leaveFailsafe.getf Fld.GEN_RESET_CAUSE_CLASS = 3 ∧ s.leaveFailsafe.getf Fld.GEN_RESET_CAUSE_DETAIL = 3 ∧
      s.leaveFailsafe.pwr.failsafe.active = false ∧ s.leaveFailsafe.pwr.failsafe.owed = true := by
  unfold Hub.leaveFailsafe
  extract_lets port f _ _ s1
  obtain ⟨cls, detail, failsafe⟩ := s1.deviceReset_cause 3 3
  rw [failsafe]
  exact ⟨cls, detail, rfl, rfl⟩

theorem Hub.dom_setDom (d : Nat) (D : Dom) (s : Hub) : (s.setDom d D).dom d = D := by
  simp [Hub.dom, Hub.setDom, Tab.getD]

theorem Hub.dom_setf (f : Fl) (v d : Nat) (s : Hub) : (s.setf f v).dom d = s.dom d := by simp [Hub.dom]

/-- What the start of a domain's exit shows (R407). -/
theorem Hub.startExit_shows (d src : Nat) (s : Hub) :
    (s.startExit d src).domState d = dmExiting ∧ ((s.startExit d src).dom d).src = src ∧ (s.startExit d src).up = s.up := by
  have apart : (Fld.PWR_DOM_STATUS_STATE d).key ≠ (Fld.PWR_DOM_STATUS_RETRIES d).key := by
    simp only [Fld.PWR_DOM_STATUS_STATE, Fld.PWR_DOM_STATUS_RETRIES]
    omega
  unfold Hub.startExit
  extract_lets D _ s1
  refine ⟨?_, ?_, ?_⟩
  · exact (Hub.getf_setf_ne _ apart _).trans (Hub.getf_setf_self _ _ _)
  · rw [Hub.dom_setf, Hub.dom_setf, Hub.dom_setDom]
  · simp only [Hub.up, Hub.setf_now, Hub.setf_stepped, Hub.setDom, s1, apply_ite Hub.now, apply_ite Hub.stepped, ite_self]

/-! The commands. -/

/-- A command of one condition, where the condition holds. -/
theorem runs_if {c : Instr} {s : State} {p : Prop} [Decidable p] {a b : Hub} {Q : Hub → Prop}
    (does : exec c s = .next { s with hub := if p then a else b }) (holds : p) (q : Q a) : Runs c s Q :=
  ⟨a, by rw [does, if_pos holds], q⟩

/-- A command of one condition, where the condition fails. -/
theorem runs_if_not {c : Instr} {s : State} {p : Prop} [Decidable p] {a b : Hub} {Q : Hub → Prop}
    (does : exec c s = .next { s with hub := if p then a else b }) (fails : ¬p) (q : Q b) : Runs c s Q :=
  ⟨b, by rw [does, if_neg fails], q⟩

/-- Settles O13, each command by what the operations it stands for show: power-on and the straps, the rails and their failure, the
device reset, and failsafe. -/
theorem powerOnRailsAndFailsafe : Obligations.PowerOnRailsAndFailsafe := by
  unfold Obligations.PowerOnRailsAndFailsafe
  refine ⟨fun m u s strapped => runs_por strapped ?_, fun u s => ⟨_, rfl, Hub.strapHeld_invalid u _⟩, fun s => ⟨_, rfl, ?_⟩,
    fun g s stage railUp wait fed held => runs_if rfl ⟨stage, railUp, by simp [wait], fed, by simp [held]⟩ ?_,
    fun s stage rails ran until' => runs_if rfl ⟨stage, rails, ran, until'⟩ ?_,
    fun s stage rails ran => runs_if rfl ⟨stage, rails, ran⟩ ?_, fun n s up good => runs_if rfl ⟨up, good⟩ ?_,
    fun t s wait ran => ⟨_, rfl, ?_⟩, fun t s _ out wake early => ⟨_, rfl, ?_⟩, fun ok s active => ?_,
    fun s step state park => runs_if rfl ⟨step, state, park⟩ ?_⟩
  -- power-on with a role strapped (R20, R21)
  · refine ⟨(Hub.mode_sampleStraps m u _).trans (Nat.mod_eq_of_lt m.isLt), Hub.upb_sampleStraps m u _, ?_, s.hub.addr_por m u, ?_⟩
    · rw [s.hub.role_por u m.isLt]
      simp only [Fin.ext_iff]
      rfl
    · simp only [Hub.sampleStraps, Hub.setf_lineMem, Hub.setb_lineMem, Hub.setf_cnts, Hub.setb_cnts, Hub.setf_ev, Hub.setb_ev,
        Hub.setf_sec, Hub.setb_sec, Hub.setf_now, Hub.setb_now]
      exact ⟨rfl, rfl, rfl, rfl, rfl, rfl, rfl⟩
  -- the end of the always-on supply (R377)
  · have flash : (s.hub.driveRails 0).sec.flash = s.hub.sec.flash := by rw [Hub.driveRails_sec]
    exact ⟨rfl, rfl, flash, rfl⟩
  -- the first rail (R442, R478)
  · cases g with
    | false =>
      simp only [Bool.false_eq_true, if_false, Hub.enableRail_sec, Hub.enableRail_out, true_and]
      exact ⟨rfl, Hub.driveRails_next_out _ (by decide) railUp⟩
    | true =>
      obtain ⟨t, failed⟩ := (s.hub.setStage sgRails).enableRail_failed 0
      simp only [if_true, failed, Hub.railFail_sec, Option.isSome_some, and_self]
  -- the next rail, or the end of the sequence (R477)
  · dsimp only
    by_cases more : s.hub.sec.railUp < 6
    · simp only [if_pos more, Hub.enableRail_sec, Hub.enableRail_out, Hub.setf_sec, true_and]
      rw [Hub.driveRails_next_out _ more (by simp), Hub.setf_out]
      exact ⟨stage, rfl⟩
    · simp only [if_neg more]
      refine ⟨?_, rfl⟩
      simp only [Hub.emit, Hub.startCsup_sec]
      rfl
  -- a rail whose PG does not rise (R477)
  · simp only [Hub.railFail_sec, true_and, and_true]
    exact List.getLast?_concat
  -- a rail whose PG falls (R378)
  · simp only [Hub.railEn_railFail, Hub.railFail_sec, Option.isSome_some, and_self]
  -- the retry after a rail's failure (R448)
  · obtain ⟨cls, detail, -⟩ := s.hub.deviceReset_cause 3 2
    simp only [wait, if_pos ran, Hub.getf_withSec, cls, detail, true_and]
    refine ⟨rfl, rfl, ?_⟩
    split
    · exact .inr rfl
    · exact .inl rfl
  -- the crystal that does not start (R414)
  · have shows := (s.hub.upTo (t + 10000000)).enterFailsafe_shows (by rw [Hub.upTo_pwr, out])
    rw [Hub.getf_congr (s.hub.upTo_regs _)] at shows
    simpa only [wake, if_pos early] using shows
  -- the crystal's retry (R414)
  · cases ok with
    | true =>
      refine runs_if_not rfl (by simp [active]) ?_
      simp only [if_true]
      exact Hub.leaveFailsafe_shows _
    | false =>
      refine runs_if_not (b := (s.hub.upTo (s.hub.pwr.failsafe.since + 1000000000 * (s.hub.pwr.failsafe.tries + 1) +
        10000000)).withFailsafe { s.hub.pwr.failsafe with tries := s.hub.pwr.failsafe.tries + 1 }) rfl (by simp [active]) ?_
      rw [if_neg (by decide), Hub.withFailsafe_failsafe, Hub.withFailsafe_regs, Hub.withFailsafe_up, Hub.upTo_regs]
      exact ⟨rfl, rfl, Hub.up_upTo _⟩
  -- the end of SVC's park time (R414)
  · obtain ⟨state, src, up⟩ := (s.hub.upTo (s.hub.pwr.parkAt + s.hub.getf Fld.PWR_CTL_PARK_S * 1000000000)).startExit_shows dSVC 8
    exact ⟨state, src, fun past => up ▸ Hub.up_upTo _ past⟩

end Sys2Proof.Machine
end

section
/-! PROOFS. The checker of a loopback and a count beyond 48 bits (O29). -/

namespace Sys2Proof.Machine

/-- A hub whose port 0 runs a loopback of MODE 1 on pair 0 (R61), and whose count of that loopback's errors lies beyond the 48 bits of a
counter (R438): it is not well formed (Hub.WF), and the statement speaks of it all the same. -/
def overcountedHub : Hub :=
  { regs := [((Fld.TRK_LOOP_CTL_MODE 0).key, 1), ((Fld.TRK_LOOP_STAT_RESULT 0).key, 1)],
    cnts := [(Cnt.TRK_LOOP_ERRS 0, ⟨2 ^ 48, false⟩)] }

/-- A brim of 64 K pairs in place, in a tick without a bit error (R61, R87). -/
def errorlessBrim : BrimSeen := ⟨[(64, 0)], 0⟩

theorem cnt_checkerBrim_overcountedHub :
    (overcountedHub.checkerBrim 0 true 0).cnt (Cnt.TRK_LOOP_ERRS 0) = ⟨2 ^ 48, false⟩ := by decide

theorem cnt_overcountedHub_add_zero : (overcountedHub.cnt (Cnt.TRK_LOOP_ERRS 0)).add 0 = ⟨cntMax, true⟩ := by decide

/-- Refutes O29: its last clause has the checker's count go up by the brim's errors in every hub, well formed or not. Where the brim has
none the count stays as it is (R61), while a sum with 0 holds a count beyond 48 bits at the largest value and sets SAT (R438). -/
theorem not_managementChannelFramesAndChecks : ¬ Obligations.ManagementChannelFramesAndChecks := by
  unfold Obligations.ManagementChannelFramesAndChecks
  rintro ⟨-, -, -, -, checker⟩
  obtain ⟨h, run, -, -, -, counts⟩ := checker 0 0 errorlessBrim { hub := overcountedHub } (by decide)
  obtain rfl : overcountedHub.checkerBrim 0 true 0 = h := by injection run with same; injection same
  have counted : Counted overcountedHub (overcountedHub.checkerBrim 0 true 0) (Cnt.TRK_LOOP_ERRS 0) 0 := by
    rwa [if_pos (by decide)] at counts
  rw [Counted, cnt_checkerBrim_overcountedHub, cnt_overcountedHub_add_zero] at counted
  cases counted

end Sys2Proof.Machine
end

section
/-! PROOFS. What an observation of the hub has to be blind to so that storing a cell, taking a message, or a change of a power channel
leaves it as it was (R29, R156 to R170, R376, R393, R420 to R424, R437, R438). An observation is any function of the hub: one of its
parts, a register field, or both. -/

namespace Sys2Proof.Machine

section
variable {α : Type} {φ : Hub → α}

theorem Hub.observed_foldl {β : Type} {l : List β} {f : Hub → β → Hub} (kept : ∀ t, ∀ x ∈ l, φ (f t x) = φ t) (s : Hub) :
    φ (l.foldl f s) = φ s :=
  List.foldlRecOn l f (motive := fun t => φ t = φ s) rfl fun t same x m => (kept t x m).trans same

/-! Counters, events and the cell pool. -/

/-- `φ` shows none of what storing a cell may change (Part.storing). -/
structure StoreFree (φ : Hub → α) : Prop where
  cnts : ∀ (s : Hub) (x : Tab CntV), φ { s with cnts := x } = φ s
  ev : ∀ (s : Hub) (x : EvRing), φ { s with ev := x } = φ s
  lastRaise : ∀ (s : Hub) (x : Tab Nat), φ { s with lastRaise := x } = φ s
  fresh : ∀ (s : Hub) (x : Nat), φ { s with fresh := x } = φ s
  lineMem : ∀ (s : Hub) (x : List Host.Cell), φ { s with lineMem := x } = φ s
  pool : ∀ (s : Hub) (x : Pool), φ { s with pool := x } = φ s
  rel : ∀ (s : Hub) (x : Rel), φ { s with rel := x } = φ s
  overrun : ∀ (s : Hub) (v : Nat), φ (s.setf Fld.GEN_EVT_STATUS_OVERRUN v) = φ s
  genLow : ∀ (s : Hub) (v : Nat), φ (s.setf Fld.CPL_GEN_LOW v) = φ s

namespace StoreFree
variable (free : StoreFree φ)
include free

theorem count (c n : Nat) (s : Hub) : φ (s.count c n) = φ s := by
  simp only [Hub.count, apply_ite φ, free.cnts, ite_self]

theorem dropEvent (s : Hub) : φ s.dropEvent = φ s := by
  simp only [Hub.dropEvent, apply_ite φ, free.ev, free.overrun, free.count, ite_self]

theorem post (r : EvRec) (s : Hub) : φ (s.post r) = φ s := by
  simp only [Hub.post, apply_ite φ, free.ev, free.dropEvent, ite_self]

theorem raise (e : EvDef) (xs : List Nat) (s : Hub) : φ (s.raise e xs) = φ s := free.post _ s

theorem raiseLimited (e : EvDef) (i : Nat) (xs : List Nat) (s : Hub) : φ (s.raiseLimited e i xs) = φ s := by
  unfold Hub.raiseLimited
  dsimp only
  split
  · rw [free.lastRaise, free.raise]
  · simp only [apply_ite φ, free.lastRaise, free.raise, ite_self]

theorem raisePerTick (e : EvDef) (i : Nat) (xs : List Nat) (s : Hub) : φ (s.raisePerTick e i xs) = φ s := by
  simp only [Hub.raisePerTick, apply_ite φ, free.lastRaise, free.raise, ite_self]

theorem setQueue (q : Nat) (Q : Queue) (s : Hub) : φ (s.setQueue q Q) = φ s := free.pool s _

theorem eccEnd (mem w : Nat) (s : Hub) : φ (s.eccEnd mem w) = φ s := free.rel s _

theorem memStoreEcc (a : Nat) (bs : List Byte) (s : Hub) : φ (s.memStoreEcc a bs) = φ s := by
  refine (Hub.observed_foldl (fun t w _ => ?_) _).trans (free.lineMem s _)
  simp only [apply_ite φ, free.eccEnd, ite_self]

theorem claimCheck (s : Hub) : φ s.claimCheck = φ s := by
  unfold Hub.claimCheck
  split
  · rfl
  · simp only [apply_ite φ, free.raise, free.pool, ite_self]

theorem setOverrun (q : Nat) (s : Hub) : φ (s.setOverrun q) = φ s := by
  simp only [Hub.setOverrun, apply_ite φ, free.raise, free.setQueue, ite_self]

theorem gapLoss (q pkts cells cause : Nat) (s : Hub) : φ (s.gapLoss q pkts cells cause) = φ s := free.setQueue ..

theorem refuseCell (q : Nat) (c : PCell) (cause : Nat) (s : Hub) : φ (s.refuseCell q c cause) = φ s := by
  simp only [Hub.refuseCell, apply_ite φ, free.count, free.setOverrun, free.gapLoss, free.claimCheck, free.setQueue, ite_self]

theorem poolWatch (was : Int) (s : Hub) : φ (s.poolWatch was) = φ s := by
  simp only [Hub.poolWatch, apply_ite φ, free.raiseLimited, free.genLow, ite_self]

theorem takeCell {q i : Nat} {s t : Hub} (taken : s.takeCell q = some (i, t)) : φ t = φ s := by
  obtain ⟨_, _, same⟩ := Option.map_eq_some_iff.mp taken
  cases same
  exact free.fresh s _

theorem linkCell {q : Nat} {c : PCell} {s t : Hub} (linked : s.linkCell q c = some t) : φ t = φ s := by
  obtain ⟨⟨i, s1⟩, taken, rfl⟩ := Option.map_eq_some_iff.mp linked
  rw [free.poolWatch, free.setQueue, free.memStoreEcc, free.takeCell taken]

theorem placeCell (q : Nat) (c : PCell) (s : Hub) : φ (s.placeCell q c) = φ s := by
  unfold Hub.placeCell
  split
  · exact free.refuseCell q c 1 s
  · rw [free.refuseCell, free.count]
  · split
    next linked => exact free.linkCell linked
    next => rw [free.refuseCell, free.count]

theorem storeMarker (q : Nat) (c : PCell) (s : Hub) : φ (s.storeMarker q c) = φ s := by
  unfold Hub.storeMarker
  dsimp only
  split
  · exact free.setQueue ..
  · rw [free.setQueue, free.count]
  · split
    next => rw [free.setQueue, free.count]
    next linked => rw [free.setQueue, free.linkCell linked]

theorem writeMarker (q : Nat) (s : Hub) : φ (s.writeMarker q) = φ s := by
  unfold Hub.writeMarker
  dsimp only
  split
  · rfl
  split
  · rfl
  · exact free.count _ 1 s
  · split
    next => exact free.count _ 1 s
    next linked => rw [free.count, free.setQueue, free.linkCell linked, free.setQueue]

theorem startCell (q : Nat) (c : PCell) (s : Hub) : φ (s.startCell q c) = φ s := by
  simp only [Hub.startCell, apply_ite φ, free.count, free.setQueue, free.placeCell, free.storeMarker, free.writeMarker, ite_self]

theorem moreCell (q : Nat) (c : PCell) (s : Hub) : φ (s.moreCell q c) = φ s := by
  simp only [Hub.moreCell, apply_ite φ, free.count, free.claimCheck, free.setQueue, free.placeCell, ite_self]

theorem frameCell (q : Nat) (c : PCell) (s : Hub) : φ (s.frameCell q c) = φ s := by
  unfold Hub.frameCell
  dsimp only
  split
  · simp only [free.startCell, apply_ite φ, free.count, free.claimCheck, free.setQueue, ite_self]
  split
  · rfl
  · simp only [apply_ite φ, free.setQueue, ite_self]
  · simp only [apply_ite φ, free.moreCell, free.count, free.setQueue, ite_self]

theorem disabledCell (q : Nat) (c : PCell) (s : Hub) : φ (s.disabledCell q c) = φ s := by
  unfold Hub.disabledCell
  dsimp only
  split
  · rw [free.count, free.setQueue]
  split
  · exact free.count _ 1 s
  · simp only [apply_ite φ, free.setQueue, ite_self]
  · rfl

theorem produce (q : Nat) (w : Who) (c : PCell) (s : Hub) : φ (s.produce q w c) = φ s := by
  unfold Hub.produce
  split
  · exact free.disabledCell q c s
  split
  · simp only [apply_ite φ, free.frameCell, free.count, ite_self]
  split <;> simp only [apply_ite φ, free.frameCell, free.count, free.setQueue, ite_self]

end StoreFree

/-! Messages (R98 to R103, R161). -/

/-- A field of the error log (R440). -/
inductive Fl.OfEccLog : Fl → Prop
  | valid (e : Nat) : OfEccLog (Fld.REL_ECC_LOG_0_VALID e)
  | ue (e : Nat) : OfEccLog (Fld.REL_ECC_LOG_0_UE e)
  | mem (e : Nat) : OfEccLog (Fld.REL_ECC_LOG_0_MEM e)
  | word (e : Nat) : OfEccLog (Fld.REL_ECC_LOG_0_WORD e)
  | syndrome (e : Nat) : OfEccLog (Fld.REL_ECC_LOG_1_SYNDROME e)
  | hits (e : Nat) : OfEccLog (Fld.REL_ECC_LOG_1_HITS e)
  | first (e : Nat) : OfEccLog (Fld.REL_ECC_LOG_2_FIRST_TICK e)
  | last (e : Nat) : OfEccLog (Fld.REL_ECC_LOG_3_LAST_TICK e)

/-- `φ` shows none of what sending a message or taking one from a queue may change. -/
structure MsgFree (φ : Hub → α) : Prop extends StoreFree φ where
  ring : ∀ (s : Hub) (x : Ring), φ { s with ring := x } = φ s
  blk : ∀ (s : Hub) (x : Blk), φ { s with blk := x } = φ s
  eccLog : ∀ {f : Fl}, f.OfEccLog → ∀ (s : Hub) (v : Nat), φ (s.setf f v) = φ s

namespace MsgFree
variable (free : MsgFree φ)
include free

theorem putCell (q hdr : Nat) (pay : List Byte) (port : Nat) (s : Hub) : φ (s.putCell q hdr pay port).2 = φ s := by
  unfold Hub.putCell
  dsimp only
  split
  · split
    · exact (free.ring _ _).trans (free.produce ..)
    · exact free.produce ..
  · exact free.produce ..

theorem sendLocal (p hdr : Nat) (pay : List Byte) (s : Hub) : φ (s.sendLocal p hdr pay) = φ s := by
  have put := free.putCell (localQ p) hdr pay p s
  unfold Hub.sendLocal
  split
  · exact free.count _ 1 s
  split
  next taken => rwa [taken] at put
  next refused => rw [free.count]; rwa [refused] at put

theorem sendHop (p type : Nat) (body : List Byte) (s : Hub) : φ (s.sendHop p type body) = φ s :=
  (free.sendLocal ..).trans (free.ring s _)

/-! Reading a protected memory (R420 to R424). -/

theorem logNew (e mem word syn : Nat) (ue : Bool) (s : Hub) : φ (s.logNew e mem word syn ue) = φ s := by
  simp only [Hub.logNew, Hub.setb, free.eccLog (.valid e), free.eccLog (.ue e), free.eccLog (.mem e), free.eccLog (.word e),
    free.eccLog (.syndrome e), free.eccLog (.hits e), free.eccLog (.first e), free.eccLog (.last e)]

theorem logHit (e syn : Nat) (ue : Bool) (s : Hub) : φ (s.logHit e syn ue) = φ s := by
  simp only [Hub.logHit, apply_ite φ, free.eccLog (.ue e), free.eccLog (.syndrome e), free.eccLog (.hits e), free.eccLog (.last e),
    ite_self]

theorem logError (mem word syn : Nat) (ue : Bool) (s : Hub) : φ (s.logError mem word syn ue) = φ s := by
  unfold Hub.logError
  split
  · exact free.logHit ..
  split
  · exact free.logNew ..
  split
  · exact free.logNew ..
  · exact free.count _ 1 s

theorem eccTouch (mem word : Nat) (s : Hub) : φ (s.eccTouch mem word) = φ s := by
  unfold Hub.eccTouch
  dsimp only
  split
  · rfl
  · rw [free.raiseLimited, free.logError, Hub.noteCorrection, free.rel, free.count]
  · rw [free.raisePerTick, free.logError, free.count]

theorem memTouch (a n : Nat) (s : Hub) : φ (s.memTouch a n) = φ s := Hub.observed_foldl (fun t _ _ => free.eccTouch _ _ t) s

theorem pktTouch (p : List QCell) (s : Hub) : φ (s.pktTouch p) = φ s :=
  Hub.observed_foldl (fun t _ _ => (free.eccTouch ..).trans (free.memTouch _ _ t)) s

/-! Taking a packet from a queue (R172, R420, R509). -/

theorem flushQ (q : Nat) (s : Hub) : φ (s.flushQ q) = φ s := by
  rw [Hub.flushQ, free.claimCheck, Hub.dropChains, free.blk, free.setQueue, free.pool]

theorem flushLink (q : Nat) (s : Hub) : φ (s.flushLink q) = φ s := by
  simp only [Hub.flushLink, free.pool, Hub.flushLossy, apply_ite φ, free.setOverrun, free.gapLoss, free.flushQ, ite_self]

theorem readHead (q : Nat) (s : Hub) : φ (s.readHead q).2 = φ s := by
  unfold Hub.readHead
  split
  · rfl
  · dsimp only
    split
    · rw [free.flushLink, free.pktTouch]
    · rw [free.setQueue, free.pktTouch]

theorem popPkt (q : Nat) (s : Hub) : φ (s.popPkt q) = φ s := by rw [Hub.popPkt, free.claimCheck, free.setQueue]

theorem takeCellQ (q : Nat) (s : Hub) : φ (s.takeCellQ q).2 = φ s := by
  have read := free.readHead q s
  unfold Hub.takeCellQ
  split
  next empty => rwa [empty] at read
  next head =>
    rw [head] at read
    exact (free.ring _ _).trans ((free.popPkt _ _).trans read)

theorem takeMsg (q : Nat) (types : List Nat) (s : Hub) : φ (s.takeMsg q types).2 = φ s := by
  have cell := free.takeCellQ q s
  unfold Hub.takeMsg
  split
  · rfl
  split
  · split
    next taken => rwa [taken] at cell
    next none => rwa [none] at cell
  · rfl

end MsgFree

/-! Power channels and the activities whose condition ends (R376, R393, R395, R437). -/

/-- A field that a change of a power channel's state may write: the channel's, or the slot's of an activity that ends with it. -/
inductive Fl.OfChannel : Fl → Prop
  | state (c : Nat) : OfChannel (Fld.LPW_CH_STATUS_STATE c)
  | regulating (c : Nat) : OfChannel (Fld.LPW_CH_STATUS_REGULATING c)
  | actState (i : Nat) : OfChannel (Fld.REL_MAINT_STAT_0_STATE i)
  | actCause (i : Nat) : OfChannel (Fld.REL_MAINT_STAT_0_CAUSE i)

/-- `φ` shows none of what a change of a power channel's state may change (Part.chanParts). -/
structure ChanFree (φ : Hub → α) : Prop extends StoreFree φ where
  lpw : ∀ (s : Hub) (x : Lpw), φ { s with lpw := x } = φ s
  field : ∀ {f : Fl}, f.OfChannel → ∀ (s : Hub) (v : Nat), φ (s.setf f v) = φ s

namespace ChanFree
variable (free : ChanFree φ)
include free

theorem endAct (a : Act) (st cause : Nat) (s : Hub) : φ (s.endAct a st cause) = φ s := by
  rw [Hub.endAct, free.field (.actCause _), free.field (.actState _), free.rel]

theorem zeroCells (lo hi : Nat) (s : Hub) : φ (s.zeroCells lo hi) = φ s :=
  (free.rel { s with lineMem := (s.zeroCells lo hi).lineMem } (s.zeroCells lo hi).rel).trans (free.lineMem s _)

theorem giveBack (a : Act) (s : Hub) : φ (s.giveBack a) = φ s := by
  unfold Hub.giveBack
  split
  · rw [Hub.unfence, free.pool, free.zeroCells]
  · rw [Hub.inRow, Hub.unfence, free.pool, free.rel]
  · rfl

theorem abortAct (a : Act) (cause : Nat) (s : Hub) : φ (s.abortAct a cause) = φ s := by
  rw [Hub.abortAct, free.endAct, free.raise, free.giveBack]

theorem maintSweep (s : Hub) : φ s.maintSweep = φ s := by
  refine Hub.observed_foldl (fun t a _ => ?_) s
  split
  · exact free.abortAct a _ t
  · rfl

theorem gateOff (c : Nat) (s : Hub) : φ (s.gateOff c) = φ s := by
  rw [Hub.gateOff, free.field (.regulating _), Hub.setChan, free.lpw]

theorem setChState (c st : Nat) (s : Hub) : φ (s.setChState c st) = φ s := by
  rw [Hub.setChState, free.maintSweep, free.field (.state _)]

theorem chOpen (c cause : Nat) (s : Hub) : φ (s.chOpen c cause) = φ s := by
  rw [Hub.chOpen, free.raise, free.setChState, free.gateOff]

theorem chEval (c : Nat) (s : Hub) : φ (s.chEval c) = φ s := by
  simp only [Hub.chEval, apply_ite φ, free.setChState, free.gateOff, free.chOpen, ite_self]

theorem chReturn (c : Nat) (s : Hub) : φ (s.chReturn c) = φ s := by
  simp only [Hub.chReturn, apply_ite φ, free.raise, free.count, free.chEval, ite_self]

end ChanFree

end
end Sys2Proof.Machine
end

section
/-! PROOFS. The records of trunk ports and lanes and the fields of block TRK: reads after writes, and what storing, messages and power
channels leave of them (R36 to R73). -/

namespace Sys2Proof.Machine

/-! Where the fields lie (R68 to R73). -/

/-- The keys of the fields of port `i`, and of those of pair `i` (R68 to R73). -/
theorem trunkKeys (i : Nat) :
    (Fld.TRK_PORT_STATUS_FAIL_STEP i).key = 32 * (0x030000 + 0x40 * i) + 20 ∧
    (Fld.TRK_PORT_STATUS_ATTEMPTS i).key = 32 * (0x030000 + 0x40 * i) + 16 ∧
    (Fld.TRK_PORT_STATUS_LINK i).key = 32 * (0x030000 + 0x40 * i) + 10 ∧
    (Fld.TRK_PORT_STATUS_CSUP i).key = 32 * (0x030000 + 0x40 * i) + 8 ∧
    (Fld.TRK_PORT_STATUS_CLASS i).key = 32 * (0x030000 + 0x40 * i) + 6 ∧
    (Fld.TRK_PORT_STATUS_ID_VALID i).key = 32 * (0x030000 + 0x40 * i) + 5 ∧
    (Fld.TRK_PORT_STATUS_FLIPPED i).key = 32 * (0x030000 + 0x40 * i) + 4 ∧
    (Fld.TRK_PORT_STATUS_ATTACH i).key = 32 * (0x030000 + 0x40 * i) ∧
    (Fld.TRK_PORT_CTL_EN i).key = 32 * (0x030004 + 0x40 * i) + 0 ∧
    (Fld.TRK_LOOP_CTL_SRC i).key = 32 * (0x030008 + 0x40 * i) + 16 ∧
    (Fld.TRK_LOOP_CTL_PATTERN i).key = 32 * (0x030008 + 0x40 * i) + 8 ∧
    (Fld.TRK_LOOP_CTL_DST i).key = 32 * (0x030008 + 0x40 * i) + 4 ∧
    (Fld.TRK_LOOP_CTL_MODE i).key = 32 * (0x030008 + 0x40 * i) + 0 ∧
    (Fld.TRK_LOOP_STAT_RESULT i).key = 32 * (0x03000C + 0x40 * i) + 4 ∧
    (Fld.TRK_LOOP_STAT_LOCKED i).key = 32 * (0x03000C + 0x40 * i) + 0 ∧
    (Fld.TRK_PAIR_STATUS_FAR_ROW i).key = 32 * (0x030100 + 0x4 * i) + 16 ∧
    (Fld.TRK_PAIR_STATUS_BALL i).key = 32 * (0x030100 + 0x4 * i) + 13 ∧
    (Fld.TRK_PAIR_STATUS_CAP i).key = 32 * (0x030100 + 0x4 * i) + 11 ∧
    (Fld.TRK_PAIR_STATUS_LOCKED i).key = 32 * (0x030100 + 0x4 * i) + 10 ∧
    (Fld.TRK_PAIR_STATUS_LOOP i).key = 32 * (0x030100 + 0x4 * i) + 9 ∧
    (Fld.TRK_PAIR_STATUS_RX_SLEEP i).key = 32 * (0x030100 + 0x4 * i) + 8 ∧
    (Fld.TRK_PAIR_STATUS_TX_SLEEP i).key = 32 * (0x030100 + 0x4 * i) + 7 ∧
    (Fld.TRK_PAIR_STATUS_NRZ i).key = 32 * (0x030100 + 0x4 * i) + 6 ∧
    (Fld.TRK_PAIR_STATUS_ROW i).key = 32 * (0x030100 + 0x4 * i) + 3 ∧
    (Fld.TRK_PAIR_STATUS_FAULTY i).key = 32 * (0x030100 + 0x4 * i) + 2 ∧
    (Fld.TRK_PAIR_STATUS_DIR i).key = 32 * (0x030100 + 0x4 * i) + 0 ∧
    ∀ j, (Fld.TRK_CABLE_ID i j).key = 32 * (0x030010 + 0x40 * i + 0x4 * j) := by
  and_intros <;> intros <;> rfl

/-- A field of block TRK. -/
def Fl.OfTrunk (f : Fl) : Prop := 32 * 0x030000 ≤ f.key ∧ f.key < 32 * 0x040000

/-! Ports and lanes. -/

section
variable (s : Hub) (p k : Nat)

@[simp] theorem Hub.port_setPort (P : TrunkPort) : (s.setPort p P).port p = P := by simp [Hub.port, Hub.setPort, Tab.getD]
@[simp] theorem Hub.port_setf (f : Fl) (v : Nat) : (s.setf f v).port p = s.port p := by simp [Hub.port]
@[simp] theorem Hub.port_setb (f : Fl) (b : Bool) : (s.setb f b).port p = s.port p := s.port_setf p f _
@[simp] theorem Hub.port_raise (e : EvDef) (xs : List Nat) : (s.raise e xs).port p = s.port p := by simp [Hub.port]
@[simp] theorem Hub.port_emit (o : Out) : (s.emit o).port p = s.port p := rfl
@[simp] theorem Hub.out_emit (o : Out) : (s.emit o).out = o :: s.out := rfl
@[simp] theorem Hub.port_setLane (q : Nat) (L : Lane) : (s.setLane q k L).port p = s.port p := rfl
@[simp] theorem Hub.getf_setPort (P : TrunkPort) (f : Fl) : (s.setPort p P).getf f = s.getf f := rfl
@[simp] theorem Hub.getf_setLane (L : Lane) (f : Fl) : (s.setLane p k L).getf f = s.getf f := rfl
@[simp] theorem Hub.lane_setLane (L : Lane) : (s.setLane p k L).lane p k = L := by simp [Hub.lane, Hub.setLane, Tab.getD]
@[simp] theorem Hub.lane_setf (f : Fl) (v : Nat) : (s.setf f v).lane p k = s.lane p k := by simp [Hub.lane]

theorem Hub.lane_setLane_ne {q j : Nat} (other : 8 * p + k ≠ 8 * q + j) (L : Lane) : (s.setLane q j L).lane p k = s.lane p k := by
  simp [Hub.lane, Hub.setLane, Tab.getD, Tab.get?_put_ne other]

theorem Hub.getf_raise_trunk {f : Fl} (trk : f.OfTrunk) (e : EvDef) (xs : List Nat) : (s.raise e xs).getf f = s.getf f := by
  refine Hub.getf_raise _ _ _ ?_
  have := trk.1
  simp only [Fld.GEN_EVT_STATUS_OVERRUN]
  omega

end

/-! What storing, messages and power channels leave. -/

theorem StoreFree.getf {f : Fl} (overrun : f.key ≠ Fld.GEN_EVT_STATUS_OVERRUN.key) (genLow : f.key ≠ Fld.CPL_GEN_LOW.key) :
    StoreFree (fun s : Hub => s.getf f) where
  cnts _ _ := rfl
  ev _ _ := rfl
  lastRaise _ _ := rfl
  fresh _ _ := rfl
  lineMem _ _ := rfl
  pool _ _ := rfl
  rel _ _ := rfl
  overrun s v := s.getf_setf_ne overrun v
  genLow s v := s.getf_setf_ne genLow v

theorem StoreFree.trunk : StoreFree Hub.trunk where
  cnts _ _ := rfl
  ev _ _ := rfl
  lastRaise _ _ := rfl
  fresh _ _ := rfl
  lineMem _ _ := rfl
  pool _ _ := rfl
  rel _ _ := rfl
  overrun s v := s.setf_trunk _ v
  genLow s v := s.setf_trunk _ v

theorem MsgFree.trunk : MsgFree Hub.trunk where
  toStoreFree := .trunk
  ring _ _ := rfl
  blk _ _ := rfl
  eccLog _ s v := s.setf_trunk _ v

theorem ChanFree.trunk : ChanFree Hub.trunk where
  toStoreFree := .trunk
  lpw _ _ := rfl
  field _ s v := s.setf_trunk _ v

theorem StoreFree.getf_of_key {f : Fl} (trk : f.OfTrunk ∨ f.key % 32 = 4 ∨ f.key % 32 = 6 ∨ f.key % 32 = 16) :
    StoreFree (fun s : Hub => s.getf f) := by
  refine .getf ?_ ?_ <;> simp only [Fl.OfTrunk, Fld.GEN_EVT_STATUS_OVERRUN, Fld.CPL_GEN_LOW] at trk ⊢ <;> omega

/-- The error log shares no field with block TRK, and none with FLIPPED, CLASS and FAR_ROW of a port of any number. -/
theorem MsgFree.getf_of_key {f : Fl} (trk : f.OfTrunk ∨ f.key % 32 = 4 ∨ f.key % 32 = 6 ∨ f.key % 32 = 16) :
    MsgFree (fun s : Hub => s.getf f) where
  toStoreFree := .getf_of_key trk
  ring _ _ := rfl
  blk _ _ := rfl
  eccLog {g} log s v := s.getf_setf_ne (by
    unfold Fl.OfTrunk at trk
    cases log <;> simp only [Fld.REL_ECC_LOG_0_VALID, Fld.REL_ECC_LOG_0_UE, Fld.REL_ECC_LOG_0_MEM, Fld.REL_ECC_LOG_0_WORD,
      Fld.REL_ECC_LOG_1_SYNDROME, Fld.REL_ECC_LOG_1_HITS, Fld.REL_ECC_LOG_2_FIRST_TICK, Fld.REL_ECC_LOG_3_LAST_TICK] <;> omega) v

theorem ChanFree.getf {f : Fl} (free : StoreFree (fun s : Hub => s.getf f)) (apart : ∀ {g : Fl}, g.OfChannel → f.key ≠ g.key) :
    ChanFree (fun s : Hub => s.getf f) where
  toStoreFree := free
  lpw _ _ := rfl
  field chan s v := s.getf_setf_ne (apart chan) v

theorem ChanFree.getf_trunk {f : Fl} (trk : f.OfTrunk) : ChanFree (fun s : Hub => s.getf f) := by
  refine .getf (.getf_of_key (.inl trk)) fun chan => ?_
  have := trk.2
  cases chan <;> simp only [Fld.LPW_CH_STATUS_STATE, Fld.LPW_CH_STATUS_REGULATING, Fld.REL_MAINT_STAT_0_STATE,
    Fld.REL_MAINT_STAT_0_CAUSE] <;> omega

section
variable (s : Hub) (c : Nat) {f : Fl}

theorem Hub.getf_chEval (trk : f.OfTrunk) : (s.chEval c).getf f = s.getf f := (ChanFree.getf_trunk trk).chEval c s
theorem Hub.getf_chReturn (trk : f.OfTrunk) : (s.chReturn c).getf f = s.getf f := (ChanFree.getf_trunk trk).chReturn c s
@[simp] theorem Hub.port_chEval (p : Nat) : (s.chEval c).port p = s.port p := by rw [Hub.port, ChanFree.trunk.chEval, Hub.port]
@[simp] theorem Hub.port_chReturn (p : Nat) : (s.chReturn c).port p = s.port p := by rw [Hub.port, ChanFree.trunk.chReturn, Hub.port]

end

end Sys2Proof.Machine
end

section
/-! PROOFS. What a link that goes down leaves as it was (R63, R89, R106, R147, R189). -/

namespace Sys2Proof.Machine

section
variable {α : Type} {φ : Hub → α} {p : Nat}

/-- A field that the end of port `p`'s link may write, LINK apart: those of its pairs' lanes and loopback, of the ring's view, and of the
time path. -/
inductive Fl.OfLinkEnd (p : Nat) : Fl → Prop
  | txSleep (k : Nat) : OfLinkEnd p (Fld.TRK_PAIR_STATUS_TX_SLEEP (8 * p + k))
  | rxSleep (k : Nat) : OfLinkEnd p (Fld.TRK_PAIR_STATUS_RX_SLEEP (8 * p + k))
  | locked (k : Nat) : OfLinkEnd p (Fld.TRK_PAIR_STATUS_LOCKED (8 * p + k))
  | loop (k : Nat) : OfLinkEnd p (Fld.TRK_PAIR_STATUS_LOOP (8 * p + k))
  | result : OfLinkEnd p (Fld.TRK_LOOP_STAT_RESULT p)
  | checker : OfLinkEnd p (Fld.TRK_LOOP_STAT_LOCKED p)
  | ring : OfLinkEnd p Fld.TRK_RING_STATUS_RING
  | closure : OfLinkEnd p Fld.LTM_CLOSURE
  | state : OfLinkEnd p Fld.LTM_STATUS_STATE
  | hops : OfLinkEnd p Fld.LTM_STATUS_HOPS_GM
  | source : OfLinkEnd p Fld.LTM_STATUS_GM_SRC
  | path : OfLinkEnd p Fld.LTM_STATUS_PATH

/-- `φ` shows none of what the end of port `p`'s link changes, LINK and the port's own record apart. -/
structure LinkFree (p : Nat) (φ : Hub → α) : Prop extends ChanFree φ where
  lanes : ∀ (s : Hub) (x : Tab Lane), φ { s with trunk := { s.trunk with lanes := x } } = φ s
  ring : ∀ (s : Hub) (x : Ring), φ { s with ring := x } = φ s
  plan : ∀ (s : Hub) (x : Plan), φ { s with plan := x } = φ s
  time : ∀ (s : Hub) (x : Time), φ { s with time := x } = φ s
  ends : ∀ {f : Fl}, f.OfLinkEnd p → ∀ (s : Hub) (v : Nat), φ (s.setf f v) = φ s

/-- The lanes of a link that drops lose their locks, records and scans (R429). -/
def Hub.clearLanes (p : Nat) (s : Hub) : Hub :=
  (List.range 8).foldl (fun t k =>
    t |>.setf (Fld.TRK_PAIR_STATUS_LOCKED (8 * p + k)) 0 |>.setLane p k {} |>.dropScan (8 * p + k)) s

/-- What the sync frames of port `p` told ends with its link (R89, R147). -/
def Hub.forgetFrames (p : Nat) (t : Hub) : Hub :=
  { t with ring := { t.ring with sync := Tab.del p t.ring.sync }, plan := { t.plan with newer := Tab.del p t.plan.newer } }

/-- The record of a port whose link has dropped. -/
def TrunkPort.unlinked (P : TrunkPort) : TrunkPort :=
  { P with step := 0, far := none, ackRx := false, hello := [], tries := 0, testLeft := [] }

theorem Hub.dropLink_eq (s : Hub) : s.dropLink p =
    let t := ((s.loopAbort p 4).setf (Fld.TRK_PORT_STATUS_LINK p) lkDown).clearLanes p |>.forgetFrames p
    ((t.setPort p (t.port p).unlinked).dropTime p).ringView.maintSweep := rfl

namespace LinkFree
variable (free : LinkFree p φ)
include free

theorem setLane (k : Nat) (L : Lane) (s : Hub) : φ (s.setLane p k L) = φ s := free.lanes s _

theorem dropScan (n : Nat) (s : Hub) : φ (s.dropScan n) = φ s := free.rel s _

theorem sleepPair (k : Nat) (s : Hub) : φ (s.sleepPair p k) = φ s := by
  simp only [Hub.sleepPair, free.dropScan, free.ends (.txSleep k), free.ends (.rxSleep k), free.ends (.locked k)]

theorem wakePair (k : Nat) (s : Hub) : φ (s.wakePair p k) = φ s := by
  simp only [Hub.wakePair, Hub.setb, free.setLane, free.ends (.txSleep k), free.ends (.rxSleep k)]

theorem seekLock (k t : Nat) (s : Hub) : φ (s.seekLock p k t) = φ s := by
  rw [Hub.seekLock, free.setLane, free.ends (.locked k)]

/-! Loopbacks (R63). -/

theorem loopEnd (r : Nat) (s : Hub) : φ (s.loopEnd p r) = φ s := by
  have pairs : ∀ t : Hub, ∀ k ∈ List.range 8, φ (if t.flag (Fld.TRK_PAIR_STATUS_LOOP (8 * p + k)) then
      let t1 := t.setf (Fld.TRK_PAIR_STATUS_LOOP (8 * p + k)) 0
      if !t1.pairUsed p k then t1.sleepPair p k
      else if t1.dir p k = dirIn ∧ t1.getf (Fld.TRK_LOOP_CTL_MODE p) ≤ 2 then (t1.wakePair p k).seekLock p k t1.tick
      else t1.wakePair p k
    else t) = φ t := fun t k _ => by
    simp only [apply_ite φ, free.sleepPair, free.seekLock, free.wakePair, free.ends (.loop k), ite_self]
  unfold Hub.loopEnd
  dsimp only
  split <;> simp only [apply_ite φ, free.endAct, free.ends .result, free.ends .checker, Hub.observed_foldl pairs, ite_self]

theorem loopAbort (r : Nat) (s : Hub) : φ (s.loopAbort p r) = φ s := by
  simp only [Hub.loopAbort, apply_ite φ, free.raise, free.loopEnd, ite_self]

/-! The link's own end. -/

theorem clearLanes (s : Hub) : φ (s.clearLanes p) = φ s :=
  Hub.observed_foldl (fun t k _ => by rw [free.dropScan, free.setLane, free.ends (.locked k)]) s

theorem forgetFrames (s : Hub) : φ (s.forgetFrames p) = φ s :=
  (free.plan { s with ring := (s.forgetFrames p).ring } _).trans (free.ring s _)

theorem ringView (s : Hub) : φ s.ringView = φ s := by
  simp only [Hub.ringView, Hub.segmentRing, Hub.setb, apply_ite φ, free.ends .ring, free.ends .closure, ite_self]

theorem showPath (q : Nat) (s : Hub) : φ (s.showPath q) = φ s := by
  rw [Hub.showPath, free.ends .source, Hub.setHopsGm, free.ends .hops]

theorem switchPath (q : Nat) (s : Hub) : φ (s.switchPath q) = φ s := by
  simp only [Hub.switchPath, Hub.setTimeState, apply_ite φ, free.raise, free.time, free.ends .state, free.showPath, free.ends .path,
    ite_self]

theorem losePath (q : Nat) (s : Hub) : φ (s.losePath q) = φ s := by
  simp only [Hub.losePath, Hub.setTimeState, Hub.setHopsGm, free.raise, free.time, free.ends .state, free.ends .source,
    free.ends .hops, free.ends .path]

theorem dropTime (q : Nat) (s : Hub) : φ (s.dropTime q) = φ s := by
  simp only [Hub.dropTime, Hub.leavePath, apply_ite φ, free.switchPath, free.losePath, free.time, ite_self]

/-- Where `φ` does not show LINK and the port's record either, a link that drops leaves it. -/
theorem dropLink (link : ∀ (s : Hub) (v : Nat), φ (s.setf (Fld.TRK_PORT_STATUS_LINK p) v) = φ s)
    (port : ∀ (s : Hub) (P : TrunkPort), φ (s.setPort p P) = φ s) (s : Hub) : φ (s.dropLink p) = φ s := by
  rw [Hub.dropLink_eq]
  dsimp only
  rw [free.maintSweep, free.ringView, free.dropTime, port, free.forgetFrames, free.clearLanes, link, free.loopAbort]

end LinkFree

end

/-! What is left: the port's other fields, its role and life cycle, and its record but for the link's part of it. -/

theorem LinkFree.getf {p : Nat} {f : Fl} (chan : ChanFree (fun s : Hub => s.getf f)) (apart : ∀ {g : Fl}, g.OfLinkEnd p → f.key ≠ g.key) :
    LinkFree p (fun s : Hub => s.getf f) where
  toChanFree := chan
  lanes _ _ := rfl
  ring _ _ := rfl
  plan _ _ := rfl
  time _ _ := rfl
  ends link s v := s.getf_setf_ne (apart link) v

/-- A function of the ports and the EQ table alone. -/
theorem LinkFree.trunk {β : Type} {p : Nat} (g : Tab TrunkPort → Option (List EqGroup) → β) :
    LinkFree p (fun s : Hub => g s.trunk.ports s.trunk.eq) where
  cnts _ _ := rfl
  ev _ _ := rfl
  lastRaise _ _ := rfl
  fresh _ _ := rfl
  lineMem _ _ := rfl
  pool _ _ := rfl
  rel _ _ := rfl
  overrun s v := by simp only [Hub.setf_trunk]
  genLow s v := by simp only [Hub.setf_trunk]
  lpw _ _ := rfl
  field _ s v := by simp only [Hub.setf_trunk]
  lanes _ _ := rfl
  ring _ _ := rfl
  plan _ _ := rfl
  time _ _ := rfl
  ends _ s v := by simp only [Hub.setf_trunk]

section
variable {p : Nat} {f : Fl}

/-- A field of the port's own words, the loopback's status apart. -/
theorem LinkFree.getf_port (trk : f.OfTrunk) (low : f.key < 32 * 0x030100)
    (result : f.key ≠ (Fld.TRK_LOOP_STAT_RESULT p).key) (checker : f.key ≠ (Fld.TRK_LOOP_STAT_LOCKED p).key) :
    LinkFree p (fun s : Hub => s.getf f) := by
  refine .getf (.getf_trunk trk) fun link => ?_
  cases link with
  | result => exact result
  | checker => exact checker
  | _ =>
    simp only [trunkKeys, Fld.TRK_RING_STATUS_RING, Fld.LTM_CLOSURE, Fld.LTM_STATUS_STATE, Fld.LTM_STATUS_HOPS_GM,
      Fld.LTM_STATUS_GM_SRC, Fld.LTM_STATUS_PATH]
    omega

/-- The role, the held state and the life cycle. -/
theorem LinkFree.getf_held (m : f ∈ [Fld.GEN_STRAPS_ROLE, Fld.GEN_BOOT_STATUS_HELD, Fld.SEC_LC_STATE]) :
    LinkFree p (fun s : Hub => s.getf f) := by
  have key : f.key = 132 ∨ f.key = 8221 ∨ f.key = 31457280 := by
    simp only [List.mem_cons, List.not_mem_nil, or_false] at m
    rcases m with rfl | rfl | rfl <;> decide
  refine .getf (.getf (.getf ?_ ?_) fun chan => ?_) fun link => ?_
  · simp only [Fld.GEN_EVT_STATUS_OVERRUN]
    omega
  · simp only [Fld.CPL_GEN_LOW]
    omega
  · cases chan <;> simp only [Fld.LPW_CH_STATUS_STATE, Fld.LPW_CH_STATUS_REGULATING, Fld.REL_MAINT_STAT_0_STATE,
      Fld.REL_MAINT_STAT_0_CAUSE] <;> omega
  · cases link <;> simp only [trunkKeys, Fld.TRK_RING_STATUS_RING, Fld.LTM_CLOSURE, Fld.LTM_STATUS_STATE, Fld.LTM_STATUS_HOPS_GM,
      Fld.LTM_STATUS_GM_SRC, Fld.LTM_STATUS_PATH] <;> omega

end

section
variable {p : Nat} (hp : p < 2) (s : Hub)
include hp

theorem Hub.link_dropLink : (s.dropLink p).link p = lkDown := by
  have free : LinkFree p (fun s : Hub => s.link p) := by
    refine .getf_port ?_ ?_ ?_ ?_ <;> simp only [Fl.OfTrunk, trunkKeys] <;> omega
  have port (t : Hub) (P : TrunkPort) : (t.setPort p P).link p = t.link p := rfl
  rw [Hub.dropLink_eq]
  dsimp only
  rw [free.maintSweep, free.ringView, free.dropTime, port, free.forgetFrames, free.clearLanes]
  exact Hub.getf_setf_self _ _ _

end

section
variable {p : Nat} (s : Hub)

theorem Hub.port_dropLink : (s.dropLink p).port p = (s.port p).unlinked := by
  have free : LinkFree p (fun s : Hub => s.port p) := .trunk fun ports _ => Tab.getD ports p {}
  rw [Hub.dropLink_eq]
  dsimp only
  rw [free.maintSweep, free.ringView, free.dropTime, Hub.port_setPort, free.forgetFrames, free.clearLanes, Hub.port_setf,
    free.loopAbort]

theorem Hub.dropLink_eqTable : (s.dropLink p).trunk.eq = s.trunk.eq :=
  (LinkFree.trunk fun _ eq => eq).dropLink (fun t _ => by simp only [Hub.setf_trunk]) (fun _ _ => rfl) s

theorem Hub.getf_dropLink {f : Fl} (trk : f.OfTrunk) (low : f.key < 32 * 0x030100)
    (link : f.key ≠ (Fld.TRK_PORT_STATUS_LINK p).key) (result : f.key ≠ (Fld.TRK_LOOP_STAT_RESULT p).key)
    (checker : f.key ≠ (Fld.TRK_LOOP_STAT_LOCKED p).key) : (s.dropLink p).getf f = s.getf f :=
  (LinkFree.getf_port trk low result checker).dropLink (fun t v => t.getf_setf_ne link v) (fun _ _ => rfl) s

theorem Hub.isHeld_dropLink : (s.dropLink p).isHeld = s.isHeld := by
  have kept {f : Fl} (m : f ∈ [Fld.GEN_STRAPS_ROLE, Fld.GEN_BOOT_STATUS_HELD, Fld.SEC_LC_STATE]) :
      (s.dropLink p).getf f = s.getf f := by
    refine (LinkFree.getf_held m).dropLink (fun t v => t.getf_setf_ne ?_ v) (fun _ _ => rfl) s
    simp only [List.mem_cons, List.not_mem_nil, or_false] at m
    rcases m with rfl | rfl | rfl <;>
      simp only [trunkKeys, Fld.GEN_STRAPS_ROLE, Fld.GEN_BOOT_STATUS_HELD, Fld.SEC_LC_STATE] <;> omega
  simp only [Hub.isHeld, Hub.flag, kept (.head _), kept (.tail _ (.head _)), kept (.tail _ (.tail _ (.head _)))]

theorem Hub.attach_dropLink (hp : p < 2) : (s.dropLink p).attach p = s.attach p := by
  simp (disch := (simp only [Fl.OfTrunk, trunkKeys]; omega)) only [Hub.attach, Hub.getf_dropLink]

theorem Hub.portHeld_dropLink (hp : p < 2) : (s.dropLink p).portHeld p = s.portHeld p := by
  have enabled : (s.dropLink p).getf (Fld.TRK_PORT_CTL_EN p) = s.getf (Fld.TRK_PORT_CTL_EN p) := by
    simp (disch := (simp only [Fl.OfTrunk, trunkKeys]; omega)) only [Hub.getf_dropLink]
  rw [Hub.portHeld, Hub.flag, enabled, Hub.isHeld_dropLink, Hub.attach_dropLink s hp, Hub.port_dropLink]
  rfl

end

end Sys2Proof.Machine
end

section
/-! PROOFS. Attach, the cable's identity and CSUP of a trunk port (O9; R36 to R42). -/

namespace Sys2Proof.Machine

/-! Classification and the attach state machine (R38, R39). -/

section
variable {s : Hub} {p : Nat} {a b : Band}

theorem Hub.attachStep_detached (detached : s.attach p = atDetached) :
    ((s.attachStep p a b).port p).band1 = a ∧ ((s.attachStep p a b).port p).band2 = b ∧
      (s.attachStep p a b).attach p = if senseFound p a b || dToD p a b then atDebounce else atDetached := by
  unfold Hub.attachStep
  dsimp only
  rw [if_pos detached]
  split
  · simp only [Hub.port_setf, Hub.port_setPort, true_and]
    exact Hub.getf_setf_self _ _ _
  · simp only [Hub.port_setPort, true_and]
    exact detached

theorem Hub.attach_chEval (hp : p < 2) (s : Hub) (c : Nat) : (s.chEval c).attach p = s.attach p :=
  s.getf_chEval c (by simp only [Fl.OfTrunk, trunkKeys]; omega)

theorem Hub.attach_chReturn (hp : p < 2) (s : Hub) (c : Nat) : (s.chReturn c).attach p = s.attach p :=
  s.getf_chReturn c (by simp only [Fl.OfTrunk, trunkKeys]; omega)

/-- The sense pin of an attached port, which is CFG2 where it is flipped, is out of band by these bands (R38). -/
def Hub.senseAway (s : Hub) (p : Nat) (a b : Band) : Bool :=
  (if s.flag (Fld.TRK_PORT_STATUS_FLIPPED p) then b else a) != .sense

/-- An attached port with the bands of a sample, before its power channel follows. -/
def Hub.sampled (p : Nat) (a b : Band) (s : Hub) : Hub :=
  let t := s.setPort p { s.port p with band1 := a, band2 := b }
  t.setPort p { t.port p with leaving := s.senseAway p a b, departed := s.senseAway p a b }

theorem Hub.attachStep_of_attached (attached : s.attach p = atAttached) : s.attachStep p a b =
    if s.senseAway p a b then (s.sampled p a b).chEval p
    else if (s.port p).leaving || (s.port p).departed then (s.sampled p a b).chReturn p else s.sampled p a b := by
  have notDetached : s.attach p ≠ atDetached := by rw [attached]; decide
  have notDebounce : s.attach p ≠ atDebounce := by rw [attached]; decide
  unfold Hub.attachStep
  dsimp only
  rw [if_neg notDetached, if_neg notDebounce, if_pos attached]
  rfl

theorem Hub.attachStep_attached (hp : p < 2) (attached : s.attach p = atAttached) :
    (s.attachStep p a b).attach p = atAttached ∧ ((s.attachStep p a b).port p).leaving = s.senseAway p a b := by
  have attach : (s.sampled p a b).attach p = atAttached := attached
  have leaving : ((s.sampled p a b).port p).leaving = s.senseAway p a b := congrArg TrunkPort.leaving (Hub.port_setPort _ p _)
  rw [Hub.attachStep_of_attached attached]
  split
  · exact ⟨(Hub.attach_chEval hp _ p).trans attach, by rwa [Hub.port_chEval]⟩
  split
  · exact ⟨(Hub.attach_chReturn hp _ p).trans attach, by rwa [Hub.port_chReturn]⟩
  · exact ⟨attach, leaving⟩

end

theorem Hub.flag_setb_self (s : Hub) {f : Fl} (b : Bool) (oneBit : f.width = 1) : (s.setb f b).flag f = b := by
  rw [Hub.flag, Hub.getf_setb_self _ _ _ (by omega)]
  cases b <;> rfl

/-! Becoming attached (R39, R40, R42, R64). -/

section
variable {p : Nat} {f : Fl} (s : Hub)

theorem Hub.getf_orientPairs (low : f.key < 32 * 0x030100) : (s.orientPairs p).getf f = s.getf f := by
  refine Hub.observed_foldl (φ := fun t => t.getf f) (fun t k _ => ?_) s
  simp (disch := (simp only [trunkKeys]; omega)) only
    [Hub.bringupPair, apply_ite (Hub.getf · f), Hub.getf_setf_ne, ite_self]

theorem Hub.orientPairs_trunk : (s.orientPairs p).trunk = s.trunk :=
  Hub.observed_foldl (fun t k _ => by simp only [Hub.bringupPair, apply_ite Hub.trunk, Hub.setf_trunk, ite_self]) s

theorem Hub.getf_supplyCsup (apart : f.key ≠ (Fld.TRK_PORT_STATUS_CSUP p).key) : (s.supplyCsup p).getf f = s.getf f := by
  simp only [Hub.supplyCsup, apply_ite (Hub.getf · f), Hub.getf_emit, Hub.getf_setf_ne _ apart, ite_self]

theorem Hub.supplyCsup_trunk : (s.supplyCsup p).trunk = s.trunk := by
  simp only [Hub.supplyCsup, apply_ite Hub.trunk, Hub.emit_trunk, Hub.setf_trunk, ite_self]

theorem Hub.getf_startCsup (apart : f.key ≠ (Fld.TRK_PORT_STATUS_CSUP p).key) : (s.startCsup p).getf f = s.getf f := by
  simp only [Hub.startCsup, apply_ite (Hub.getf · f), Hub.getf_setf_ne _ apart, Hub.getf_supplyCsup _ apart, ite_self]

theorem Hub.startCsup_trunk : (s.startCsup p).trunk = s.trunk := by
  simp only [Hub.startCsup, apply_ite Hub.trunk, Hub.setf_trunk, Hub.supplyCsup_trunk, ite_self]

theorem Hub.getf_startBringup (link : f.key ≠ (Fld.TRK_PORT_STATUS_LINK p).key)
    (attempts : f.key ≠ (Fld.TRK_PORT_STATUS_ATTEMPTS p).key) : (s.startBringup p).getf f = s.getf f := by
  simp only [Hub.startBringup, apply_ite (Hub.getf · f), Hub.getf_setPort, Hub.getf_setf_ne _ link, Hub.getf_setf_ne _ attempts,
    ite_self]

theorem Hub.leaving_startBringup : ((s.startBringup p).port p).leaving = (s.port p).leaving := by
  simp only [Hub.startBringup, apply_ite (Hub.port · p), apply_ite TrunkPort.leaving, Hub.port_setPort, ite_self]

theorem Hub.attachPort_shows (hp : p < 2) (flip : Bool) : (s.attachPort p flip).attach p = atAttached ∧
    (s.attachPort p flip).flag (Fld.TRK_PORT_STATUS_FLIPPED p) = flip ∧ ((s.attachPort p flip).port p).leaving = false := by
  unfold Hub.attachPort
  extract_lets P s1 s2
  have fields {f : Fl} (trk : f.OfTrunk) (low : f.key < 32 * 0x030100) (csup : f.key ≠ (Fld.TRK_PORT_STATUS_CSUP p).key)
      (link : f.key ≠ (Fld.TRK_PORT_STATUS_LINK p).key) (attempts : f.key ≠ (Fld.TRK_PORT_STATUS_ATTEMPTS p).key) :
      (((s2.startCsup p).chReturn p).startBringup p).getf f = s1.getf f := by
    rw [Hub.getf_startBringup _ link attempts, Hub.getf_chReturn _ _ trk, Hub.getf_startCsup _ csup, Hub.getf_raise_trunk _ trk,
      Hub.getf_orientPairs _ low]
  have trunk2 : (s2.startCsup p).trunk = s1.trunk := by
    rw [Hub.startCsup_trunk, Hub.raise_trunk, Hub.orientPairs_trunk]
  refine ⟨?_, ?_, ?_⟩
  · rw [Hub.attach]
    simp (disch := (simp only [Fl.OfTrunk, trunkKeys]; omega)) only [fields, s1, Hub.getf_setPort, Hub.getf_setf_ne, Hub.getf_setf_self]
    rfl
  · rw [Hub.flag]
    simp (disch := (simp only [Fl.OfTrunk, trunkKeys]; omega)) only [fields, s1, Hub.getf_setPort, Hub.getf_setf_ne]
    exact Hub.flag_setb_self s flip rfl
  · rw [Hub.leaving_startBringup, Hub.port_chReturn, Hub.port, trunk2, ← Hub.port, Hub.port_setPort]

end

/-! Leaving a port (R39), and the record of the cable (R36, R37). -/

section
variable {p : Nat} {f : Fl} (s : Hub)

theorem Hub.getf_showRecord (apart : ∀ w, f.key ≠ (Fld.TRK_CABLE_ID p w).key) (r : List Byte) : (s.showRecord p r).getf f = s.getf f :=
  Hub.observed_foldl (φ := fun t => t.getf f) (fun t w _ => t.getf_setf_ne (apart w) _) s

theorem Hub.port_showRecord (r : List Byte) (q : Nat) : (s.showRecord p r).port q = s.port q :=
  Hub.observed_foldl (φ := fun t => t.port q) (fun t _ _ => t.port_setf q _ _) s

theorem Hub.detachPort_shows (hp : p < 2) : (s.detachPort p).attach p = atDetached ∧ (s.detachPort p).link p = lkDown ∧
    (s.detachPort p).csup p = csOff ∧ ((s.detachPort p).port p).record = [] ∧ ((s.detachPort p).port p).leaving = false := by
  have fields {f : Fl} (trk : f.OfTrunk) (cable : ∀ w, f.key ≠ (Fld.TRK_CABLE_ID p w).key)
      (valid : f.key ≠ (Fld.TRK_PORT_STATUS_ID_VALID p).key) : (s.detachPort p).getf f =
        (((s.dropLink p).setf (Fld.TRK_PORT_STATUS_CSUP p) csOff).setf (Fld.TRK_PORT_STATUS_ATTACH p) atDetached).getf f := by
    unfold Hub.detachPort
    dsimp only
    rw [Hub.getf_chEval _ _ trk, Hub.getf_raise_trunk _ trk, Hub.getf_setf_ne _ valid, Hub.getf_showRecord _ cable, Hub.getf_setPort]
  have port : ∃ P : TrunkPort, (s.detachPort p).port p = P ∧ P.record = [] ∧ P.leaving = false := by
    unfold Hub.detachPort
    simp only [Hub.port_chEval, Hub.port_raise, Hub.port_setf, Hub.port_showRecord, Hub.port_setPort, exists_eq_left', and_self]
  obtain ⟨P, is, record, leaving⟩ := port
  rw [is, Hub.attach, Hub.link, Hub.csup]
  refine ⟨?_, ?_, ?_, record, leaving⟩
  · simp (disch := (intros; simp only [Fl.OfTrunk, trunkKeys]; omega)) only [fields]
    exact Hub.getf_setf_self _ _ _
  · simp (disch := (intros; simp only [Fl.OfTrunk, trunkKeys]; omega)) only [fields, Hub.getf_setf_ne]
    exact s.link_dropLink hp
  · simp (disch := (intros; simp only [Fl.OfTrunk, trunkKeys]; omega)) only [fields, Hub.getf_setf_ne]
    exact Hub.getf_setf_self _ _ _

end

/-! A record in force (R36, R37), and the stamp of an event (R237). -/

/-- `φ` shows nothing of the record in force at port `p`: its words, CLASS, ID_VALID and the records of ports and rows. -/
structure RecordFree {α : Type} (p : Nat) (φ : Hub → α) : Prop where
  trunk : ∀ (s : Hub) (x : Trunk), φ { s with trunk := x } = φ s
  word : ∀ (s : Hub) (w v : Nat), φ (s.setf (Fld.TRK_CABLE_ID p w) v) = φ s
  cls : ∀ (s : Hub) (v : Nat), φ (s.setf (Fld.TRK_PORT_STATUS_CLASS p) v) = φ s
  valid : ∀ (s : Hub) (v : Nat), φ (s.setf (Fld.TRK_PORT_STATUS_ID_VALID p) v) = φ s

theorem RecordFree.takeRecord {α : Type} {p : Nat} {φ : Hub → α} (free : RecordFree p φ) (r : List Byte) (valid own : Bool) (s : Hub) :
    φ (s.takeRecord p r valid own) = φ s := by
  have shown (t : Hub) : φ (t.showRecord p r) = φ t := Hub.observed_foldl (fun u w _ => free.word u w _) t
  simp only [Hub.takeRecord, Hub.setb, free.trunk, free.valid, free.cls, shown, Hub.setPort]

/-- What stamps an event: the ring it joins, the hub's address and the tick. -/
def Hub.eventMark (s : Hub) : EvRing × Nat × Nat := (s.ev, s.addr, s.tick)

section
variable (s : Hub) {p : Nat} {f : Fl}

theorem Hub.posted_raise_of_mark {t : Hub} (same : t.eventMark = s.eventMark) (e : EvDef) (xs : List Nat) : Posted s (t.raise e xs) e xs := by
  obtain ⟨ev, rest⟩ := Prod.mk.inj same
  obtain ⟨addr, tick⟩ := Prod.mk.inj rest
  have posted := Hub.posted_raise t e xs
  rwa [Posted, Hub.evRec, ev, addr, tick] at posted

theorem Hub.eventMark_setf (trk : 32 * 0x030000 ≤ f.key) (v : Nat) : (s.setf f v).eventMark = s.eventMark := by
  have apart {g : Fl} (low : g.key < 32 * 0x030000) : (s.setf f v).getf g = s.getf g := s.getf_setf_ne (by omega) v
  have head : (s.setf f v).isHead = s.isHead := congrArg (· == 2) (apart (g := Fld.GEN_STRAPS_ROLE) (by decide))
  simp only [Hub.eventMark, Hub.setf_ev, Hub.addr, head, apart (g := Fld.GEN_HUB_ADDR_ADDR) (by decide), Hub.tick, Hub.setf_now]

theorem Hub.eventMark_setPort (P : TrunkPort) : (s.setPort p P).eventMark = s.eventMark := rfl

theorem RecordFree.eventMark : RecordFree p Hub.eventMark where
  trunk _ _ := rfl
  word s _ v := s.eventMark_setf (by simp only [trunkKeys]; omega) v
  cls s v := s.eventMark_setf (by simp only [trunkKeys]; omega) v
  valid s v := s.eventMark_setf (by simp only [trunkKeys]; omega) v

theorem RecordFree.getf (word : ∀ w, f.key ≠ (Fld.TRK_CABLE_ID p w).key) (cls : f.key ≠ (Fld.TRK_PORT_STATUS_CLASS p).key)
    (valid : f.key ≠ (Fld.TRK_PORT_STATUS_ID_VALID p).key) : RecordFree p (fun s : Hub => s.getf f) where
  trunk _ _ := rfl
  word s w v := s.getf_setf_ne (word w) v
  cls s v := s.getf_setf_ne cls v
  valid s v := s.getf_setf_ne valid v

theorem Hub.port_takeRecord (r : List Byte) (valid own : Bool) :
    (s.takeRecord p r valid own).port p = { s.port p with record := r, recDone := true, recOwn := own } := by
  have same (t u : Hub) (rows : Tab RowRec) (is : u.port p = t.port p) : ({ u with trunk := { u.trunk with rowRecs := rows } } : Hub).port p = t.port p := is
  unfold Hub.takeRecord
  refine (same (s.setPort p _) _ _ ?_).trans (Hub.port_setPort s p _)
  rw [Hub.port_setb, Hub.port_setf, Hub.port_showRecord]

theorem Hub.flag_takeRecord (r : List Byte) (valid own : Bool) :
    (s.takeRecord p r valid own).flag (Fld.TRK_PORT_STATUS_ID_VALID p) = valid :=
  Hub.flag_setb_self _ valid rfl

end

/-! The commands. -/

section
variable {p : Nat} {f : Fl} (s : Hub)

theorem Hub.csup_takeRecord (r : List Byte) (valid own : Bool) : (s.takeRecord p r valid own).csup p = s.csup p :=
  RecordFree.takeRecord (φ := fun t => t.getf (Fld.TRK_PORT_STATUS_CSUP p))
    (.getf (by intro w; simp only [trunkKeys]; omega) (by simp only [trunkKeys]; omega) (by simp only [trunkKeys]; omega)) r valid own s

/-- Both chips are read and valid, and alike (R37). -/
theorem Hub.decideRecord_same {a b : List Byte} (kept : (s.port p).csupFault = false) (va : idValid 0 a = true) (vb : idValid 1 b = true)
    (same : idSame a b = true) : s.decideRecord p a b = s.takeRecord p a true true := by
  simp [Hub.decideRecord, kept, va, vb, same]

/-- Neither chip is valid (R37). -/
theorem Hub.decideRecord_none {a b : List Byte} (kept : (s.port p).csupFault = false) (va : idValid 0 a = false) (vb : idValid 1 b = false) :
    s.decideRecord p a b = (s.takeRecord p [] false false).raise Evt.TRK_CABLE_ID_BAD [p, 1] := by
  simp [Hub.decideRecord, kept, va, vb]

theorem Hub.supplyCsup_good (kept : (s.port p).csupFault = false) (good : s.io33 = true) : s.supplyCsup p =
    ((s.setf (Fld.TRK_PORT_STATUS_CSUP p) csOurs).emit (.readIdChip p 0x50)).emit (.readIdChip p 0x51) := by
  simp [Hub.supplyCsup, kept, good]

end

/-- A command whose answer is the hub `h`. -/
theorem runs_of_eq {c : Instr} {s : State} {a h : Hub} {Q : Hub → Prop} (does : exec c s = .next { s with hub := a }) (is : a = h)
    (q : Q h) : Runs c s Q :=
  ⟨h, by rw [does, is], q⟩

section
variable (p : Fin 2) (s : State)

theorem runs_senseDeparture (attached : s.hub.attach p = atAttached) :
    Runs (.senseDeparture p) s (fun h => (h.port p).departed = true ∧ h.attach p = atAttached) := by
  refine runs_if rfl attached ⟨?_, ?_⟩
  · rw [Hub.port_chEval, Hub.port_setPort]
  · exact (Hub.attach_chEval p.isLt _ p).trans attached

theorem runs_cfgPinSample_detached (v w : Nat) (detached : s.hub.attach p = atDetached) :
    Runs (.cfgPinSample p v w) s (fun h =>
      let a := classify (s.hub.port p).band1 v
      let b := classify (s.hub.port p).band2 w
      (h.port p).band1 = a ∧ (h.port p).band2 = b ∧
      h.attach p = if senseFound p a b || dToD p a b then atDebounce else atDetached) := by
  have both : (s.hub.attach p == atAttached) = false := by rw [detached]; rfl
  refine runs_of_eq rfl (h := s.hub.attachStep p (classify (s.hub.port p).band1 v) (classify (s.hub.port p).band2 w)) ?_
    (Hub.attachStep_detached detached)
  simp only [both, Bool.false_and, Bool.false_eq_true, if_false]

theorem runs_cfgPinSample_attached (v w : Nat) (attached : s.hub.attach p = atAttached) :
    Runs (.cfgPinSample p v w) s (fun h => h.attach p = atAttached ∧
      (h.port p).leaving = ((if s.hub.flag (Fld.TRK_PORT_STATUS_FLIPPED p) then classify (s.hub.port p).band2 w
        else classify (s.hub.port p).band1 v) != .sense)) := by
  have is : (s.hub.attach p == atAttached) = true := by rw [attached]; rfl
  refine ⟨_, rfl, ?_⟩
  obtain ⟨att, leaving⟩ := Hub.attachStep_attached (s := s.hub)
    (a := if s.hub.attach p == atAttached && s.hub.flag (Fld.TRK_PORT_STATUS_FLIPPED p) then (s.hub.port p).band1
      else classify (s.hub.port p).band1 v)
    (b := if s.hub.attach p == atAttached && !s.hub.flag (Fld.TRK_PORT_STATUS_FLIPPED p) then (s.hub.port p).band2
      else classify (s.hub.port p).band2 w) p.isLt attached
  refine ⟨att, leaving.trans ?_⟩
  rw [Hub.senseAway, is]
  cases s.hub.flag (Fld.TRK_PORT_STATUS_FLIPPED p) <;> rfl

theorem runs_attachDebounceExpiry_sense (debounce : s.hub.attach p = atDebounce)
    (sense : senseFound p (s.hub.port p).band1 (s.hub.port p).band2 = true) :
    Runs (.attachDebounceExpiry p) s (fun h => h.attach p = atAttached ∧
      h.flag (Fld.TRK_PORT_STATUS_FLIPPED p) = ((s.hub.port p).band1 != .sense) ∧ (h.port p).leaving = false) :=
  runs_of_eq rfl ((if_neg (not_not.mpr debounce)).trans (if_pos sense)) (Hub.attachPort_shows s.hub p.isLt _)

theorem runs_attachDebounceExpiry_miscabled (debounce : s.hub.attach p = atDebounce)
    (noSense : senseFound p (s.hub.port p).band1 (s.hub.port p).band2 = false)
    (dtod : dToD p (s.hub.port p).band1 (s.hub.port p).band2 = true) :
    Runs (.attachDebounceExpiry p) s (fun h => h.attach p = atMiscabled ∧ Posted s.hub h Evt.TRK_MISCABLED [p]) := by
  refine runs_of_eq rfl ((if_neg (not_not.mpr debounce)).trans ((if_neg (ne_true_of_eq_false noSense)).trans (if_pos dtod))) ⟨?_, ?_⟩
  · rw [Hub.attach, Hub.getf_raise_trunk _ (by simp only [Fl.OfTrunk, trunkKeys]; omega)]
    exact Hub.getf_setf_self _ _ _
  · exact Hub.posted_raise_of_mark _ ((Hub.eventMark_setPort _ _).trans (s.hub.eventMark_setf (by simp only [trunkKeys]; omega) _)) _ _

theorem runs_detachDebounceExpiry (attached : s.hub.attach p = atAttached) (leaving : (s.hub.port p).leaving = true) :
    Runs (.detachDebounceExpiry p) s (fun h => h.attach p = atDetached ∧ h.link p = lkDown ∧ h.csup p = csOff ∧
      (h.port p).record = [] ∧ (h.port p).leaving = false) :=
  runs_of_eq rfl ((if_neg (by simpa using leaving)).trans (if_pos attached)) (s.hub.detachPort_shows p.isLt)

theorem runs_cableIdRead (a b : List Byte) (ours : s.hub.csup p = csOurs) (kept : (s.hub.port p).csupFault = false) :
    Runs (.cableIdRead p a b) s (fun h =>
      (idValid 0 a = true → idValid 1 b = true → idSame a b = true →
        (h.port p).record = a ∧ h.flag (Fld.TRK_PORT_STATUS_ID_VALID p) = true) ∧
      (idValid 0 a = false → idValid 1 b = false → (h.port p).record = [] ∧ h.flag (Fld.TRK_PORT_STATUS_ID_VALID p) = false ∧
        Posted s.hub h Evt.TRK_CABLE_ID_BAD [p, 1])) := by
  refine runs_if rfl ours ⟨fun va vb same => ?_, fun va vb => ?_⟩
  · rw [Hub.decideRecord_same _ kept va vb same, Hub.port_takeRecord]
    exact ⟨rfl, Hub.flag_takeRecord ..⟩
  · rw [Hub.decideRecord_none _ kept va vb, Hub.port_raise, Hub.port_takeRecord, Hub.flag,
      Hub.getf_raise_trunk _ (by simp only [Fl.OfTrunk, trunkKeys]; omega)]
    exact ⟨rfl, Hub.flag_takeRecord .., Hub.posted_raise_of_mark _ (RecordFree.eventMark.takeRecord ..) _ _⟩

theorem runs_csupTakeover (attached : s.hub.attach 0 = atAttached) (down : s.hub.linkUp 0 = false)
    (kept : (s.hub.port 0).csupFault = false) (en : s.hub.flag (Fld.TRK_PORT_CTL_EN 0) = true) (good : s.hub.io33 = true) :
    Runs (.csupTakeover 0) s (fun h => h.csup 0 = csOurs ∧
      h.out = .readIdChip 0 0x51 :: .readIdChip 0 0x50 :: s.hub.out) := by
  refine runs_if rfl ⟨rfl, attached, by simpa using down, by simpa using kept, en, good⟩ ?_
  rw [show ((0 : Fin 2) : Nat) = 0 from rfl, Hub.supplyCsup_good _ kept good, Hub.csup, Hub.getf_raise_trunk _ (by simp only [Fl.OfTrunk, trunkKeys]; omega)]
  exact ⟨Hub.getf_setf_self _ _ _, by rw [Hub.raise_out, Hub.out_emit, Hub.out_emit, Hub.setf_out]⟩

theorem runs_csupRelease (ours : s.hub.csup 0 = csOurs) (ack : (s.hub.port 0).ackRx = true) :
    Runs (.csupRelease 0) s (fun h => h = s.hub.setf (Fld.TRK_PORT_STATUS_CSUP 0) csFar) :=
  runs_if rfl ⟨rfl, ours, ack⟩ rfl

theorem runs_csupResume (attached : s.hub.attach 1 = atAttached) (en : s.hub.flag (Fld.TRK_PORT_CTL_EN 1) = true)
    (kept : (s.hub.port 1).csupFault = false) (good : s.hub.io33 = true) : Runs (.csupResume 1) s (fun h =>
      h = ((s.hub.setf (Fld.TRK_PORT_STATUS_CSUP 1) csOurs).emit (.readIdChip 1 0x50)).emit (.readIdChip 1 0x51)) :=
  runs_if rfl ⟨rfl, attached, en⟩ (s.hub.supplyCsup_good kept good)

/-- A fault before the chips are read leaves no record in force (R37, R42). -/
theorem runs_csupFault (ours : s.hub.csup p = csOurs) :
    Runs (.csupFault p) s (fun h => h.csup p = csFault ∧ (h.port p).csupFault = true) := by
  have trk : (Fld.TRK_PORT_STATUS_CSUP p).OfTrunk := by simp only [Fl.OfTrunk, trunkKeys]; omega
  let s1 := ((s.hub.setf (Fld.TRK_PORT_STATUS_CSUP p) csFault).setPort p { s.hub.port p with csupFault := true }).raise
    Evt.TRK_CSUP_FAULT [p]
  have csup : s1.csup p = csFault := (Hub.getf_raise_trunk _ trk _ _).trans (Hub.getf_setf_self _ _ _)
  have fault : (s1.port p).csupFault = true := by rw [Hub.port_raise, Hub.port_setPort]
  refine runs_if rfl ours (Q := fun h => h.csup p = csFault ∧ (h.port p).csupFault = true) ?_
  show (if (s.hub.port p).recDone then s1 else s1.decideRecord p [] []).csup p = csFault ∧ _
  split
  · exact ⟨csup, fault⟩
  · rw [Hub.decideRecord, if_pos fault, Hub.csup, Hub.getf_raise_trunk _ trk, Hub.port_raise, Hub.port_takeRecord]
    exact ⟨(s1.csup_takeRecord ..).trans csup, fault⟩

end

/-- Settles O9, command by command. -/
theorem trunkPortAttach : Obligations.TrunkPortAttach := by
  unfold Obligations.TrunkPortAttach
  exact ⟨runs_senseDeparture, fun p v w s => runs_cfgPinSample_detached p s v w, fun p s _ => runs_attachDebounceExpiry_sense p s,
    runs_attachDebounceExpiry_miscabled, fun p s _ => runs_detachDebounceExpiry p s, fun p a b s => runs_cableIdRead p s a b,
    runs_csupTakeover, runs_csupRelease, runs_csupResume, runs_csupFault, fun p v w s => runs_cfgPinSample_attached p s v w⟩

end Sys2Proof.Machine
end

section
/-! PROOFS. Bring-up of a trunk link, its failure, and its restart (O10; R64 to R67, R69). -/

namespace Sys2Proof.Machine

/-! The low-speed lock and the handshake (R64, R65). -/

section
variable {p : Nat} (s : Hub)

theorem Hub.link_setf_ne {f : Fl} (apart : (Fld.TRK_PORT_STATUS_LINK p).key ≠ f.key) (v : Nat) : (s.setf f v).link p = s.link p :=
  s.getf_setf_ne apart v

@[simp] theorem Hub.link_setf_self (v : Nat) : (s.setf (Fld.TRK_PORT_STATUS_LINK p) v).link p = v % 2 ^ 3 := s.getf_setf_self _ v

theorem Hub.link_farRows (rows : List Nat) : (s.farRows p rows).link p = s.link p :=
  Hub.observed_foldl (φ := fun t => t.link p) (fun t k _ => t.link_setf_ne (by simp only [trunkKeys]; omega) _) s

theorem Hub.port_farRows (rows : List Nat) : (s.farRows p rows).port p = s.port p :=
  Hub.observed_foldl (φ := fun t => t.port p) (fun t _ _ => t.port_setf p _ _) s

theorem Hub.out_farRows (rows : List Nat) : (s.farRows p rows).out = s.out :=
  Hub.observed_foldl (φ := Hub.out) (fun t _ _ => t.setf_out _ _) s

theorem RecordFree.link : RecordFree p (fun s : Hub => s.link p) :=
  .getf (by intro w; simp only [trunkKeys]; omega) (by simp only [trunkKeys]; omega) (by simp only [trunkKeys]; omega)

theorem RecordFree.out : RecordFree p Hub.out where
  trunk _ _ := rfl
  word s _ v := s.setf_out _ v
  cls s v := s.setf_out _ v
  valid s v := s.setf_out _ v

/-- What a HELLO says of CSUP and of the cable's record is taken (R42, R65). -/
def Hub.takeHello (p : Nat) (frame : List Byte) (s : Hub) : Hub :=
  let t := if (farOf frame).csupOwner ∧ s.csup p ≠ csOurs ∧ s.csup p ≠ csFault then s.setf (Fld.TRK_PORT_STATUS_CSUP p) csFar else s
  if t.csup p ≠ csOurs ∧ bit (byteAt frame 3) 4 then t.takeRecord p (slice frame 16 32) true false
  else if t.csup p ≠ csOurs ∧ !(t.port p).recDone then t.takeRecord p [] false false else t

theorem Hub.takeHello_of_recordFree {α : Type} {φ : Hub → α} (free : RecordFree p φ)
    (csup : ∀ (s : Hub) (v : Nat), φ (s.setf (Fld.TRK_PORT_STATUS_CSUP p) v) = φ s) (frame : List Byte) : φ (s.takeHello p frame) = φ s := by
  simp only [Hub.takeHello, apply_ite φ, free.takeRecord, csup, ite_self]

theorem Hub.port_takeHello (frame : List Byte) :
    ((s.takeHello p frame).port p).far = (s.port p).far ∧ ((s.takeHello p frame).port p).step = (s.port p).step := by
  simp only [Hub.takeHello, apply_ite (Hub.port · p), apply_ite TrunkPort.far, apply_ite TrunkPort.step, Hub.port_takeRecord,
    Hub.port_setf, ite_self, and_self]

end

section
variable (p : Fin 2) (s : State)

theorem runs_lowSpeedLock (low : s.hub.link p = lkLowSpeed) (step : (s.hub.port p).step ≤ 1) :
    Runs (.lowSpeedLock p) s (fun h => (h.port p).step = 2 ∧ (h.port p).attachAt = s.hub.up ∧ h.regs = s.hub.regs) := by
  refine runs_if rfl ⟨low, step⟩ ?_
  simp only [Hub.port_setPort, true_and]
  rfl

theorem runs_helloSend (low : s.hub.link p = lkLowSpeed) (step : 2 ≤ (s.hub.port p).step) (noFar : (s.hub.port p).far = none)
    (notOurs : s.hub.csup p ≠ csOurs) :
    Runs (.helloSend p) s (fun h => h.link p = lkHandshake ∧ (h.port p).step = 4 ∧
      h.out = .lowSpeed p (if (s.hub.port p).hello.isEmpty then s.hub.helloFrame p else (s.hub.port p).hello) :: s.hub.out) := by
  refine runs_if rfl ⟨.inl low, step, by rw [noFar]; rfl, .inl notOurs⟩ ⟨s.hub.link_setf_self _, ?_, ?_⟩
  · rw [Hub.port_emit, Hub.port_setPort]
  · exact congrArg _ (s.hub.setf_out _ _)

theorem runs_helloReceive (f : List Byte) (good : frameGood 1 f = true) (handshake : s.hub.link p = lkHandshake)
    (node : s.hub.isHead = false) :
    Runs (.helloReceive p f) s (fun h => (h.port p).far = some (farOf f) ∧ h.link p = lkHandshake ∧ (h.port p).step = 4 ∧
      ∃ b, h.out = .lowSpeed p b :: s.hub.out) := by
  let t := (s.hub.setPort p { s.hub.port p with far := some (farOf f), step := 4 }).setf (Fld.TRK_PORT_STATUS_LINK p) lkHandshake
    |>.farRows p (farOf f).rows
  have port : t.port p = { s.hub.port p with far := some (farOf f), step := 4 } := by
    rw [Hub.port_farRows, Hub.port_setf, Hub.port_setPort]
  have out : t.out = s.hub.out := (Hub.out_farRows ..).trans (Hub.setf_out ..)
  have link : t.link p = lkHandshake := (Hub.link_farRows ..).trans (Hub.link_setf_self ..)
  refine runs_of_eq (h := (t.takeHello p f).emit (.lowSpeed p (s.hub.ackFrame p))) rfl
    ((if_pos ⟨good, .inr handshake⟩).trans (if_neg (mt And.left (ne_true_of_eq_false node)))) ?_
  obtain ⟨far, step⟩ := t.port_takeHello (p := p) f
  refine ⟨?_, ?_, ?_, s.hub.ackFrame p, ?_⟩
  · rw [Hub.port_emit, far, port]
  · exact (t.takeHello_of_recordFree .link (fun u v => u.link_setf_ne (by simp only [trunkKeys]; omega) v) f).trans link
  · rw [Hub.port_emit, step, port]
  · rw [Hub.out_emit, t.takeHello_of_recordFree .out (fun u v => u.setf_out _ v), out]

theorem runs_ackReceive (f : List Byte) (good : frameGood 2 f = true) (handshake : s.hub.link p = lkHandshake)
    (far : (s.hub.port p).far.isSome = true) :
    Runs (.ackReceive p f) s (fun h => h = s.hub.setPort p { s.hub.port p with ackRx := true }) :=
  runs_if rfl ⟨good, handshake, far⟩ rfl

end

/-! The fixed pairs and the pair test (R59, R64, R66, R67). -/

section
variable (s : Hub) (p k : Nat)

theorem Hub.out_setRow (r : Nat) : (s.setRow p k r).out = s.out := s.setf_out _ _

theorem Hub.out_wakePair : (s.wakePair p k).out = s.out := by simp only [Hub.wakePair, Hub.setb, Hub.setf_out]; rfl

/-- The fixed pairs' rows are set by `row`. -/
theorem Hub.out_fixedRows (row : Hub → Nat → Nat) : ([0, 7].foldl (fun t k => t.setRow p k (row t k)) s).out = s.out :=
  Hub.observed_foldl (φ := Hub.out) (fun t k _ => t.out_setRow p k _) s

theorem Hub.fixedStart_shows : (s.fixedStart p).link p = lkPam3 ∧ ((s.fixedStart p).port p).step = 5 ∧
    (s.fixedStart p).out = .lockPattern p (outFixed p) :: s.out := by
  have out : ([0, 7].foldl (fun t k => t.wakePair p k) s).out = s.out :=
    Hub.observed_foldl (φ := Hub.out) (fun t k _ => t.out_wakePair p k) s
  refine ⟨Hub.link_setf_self _ _, ?_, ?_⟩
  · rw [Hub.fixedStart, Hub.port_emit, Hub.port_setPort]
  · exact congrArg _ ((Hub.setf_out _ _ _).trans out)

end

section
variable (p : Fin 2) (s : State)

theorem runs_pam3Switch (handshake : s.hub.link p = lkHandshake) (ack : (s.hub.port p).ackRx = true)
    (far : (s.hub.port p).far.isSome = true) (usable : s.hub.fixedUsable p = true) :
    Runs (.pam3Switch p) s (fun h => h.link p = lkPam3 ∧ (h.port p).step = 5 ∧
      h.out = .lockPattern p (outFixed p) :: s.hub.out) := by
  refine runs_of_eq rfl ((if_pos ⟨handshake, ack, far⟩).trans (if_pos usable)) ?_
  obtain ⟨link, step, out⟩ := Hub.fixedStart_shows ([0, 7].foldl (fun t k => t.setRow p k (t.bringupRow p k)) s.hub) p
  exact ⟨link, step, out.trans (congrArg _ (s.hub.out_fixedRows p _))⟩

theorem runs_fixedPairRetry (pam3 : s.hub.link p = lkPam3)
    (unlocked : s.hub.flag (Fld.TRK_PAIR_STATUS_LOCKED (8 * p + inFixed p)) = false)
    (left : s.hub.getf (Fld.TRK_PAIR_STATUS_ROW (8 * p + 0)) < s.hub.lastRow p 0) :
    Runs (.fixedPairRetry p) s (fun h => h.link p = lkPam3 ∧ h.out = .lockPattern p (outFixed p) :: s.hub.out) := by
  refine runs_of_eq rfl ((if_pos ⟨pam3, by simp [unlocked]⟩).trans (if_neg fun all => absurd all.1 (not_le.mpr left))) ?_
  obtain ⟨link, _, out⟩ := Hub.fixedStart_shows (([0, 7].foldl (fun t k => t.setRow p k
    (min (s.hub.getf (Fld.TRK_PAIR_STATUS_ROW (8 * p + k)) + 1) (s.hub.lastRow p k)))
      (s.hub.setPort p { s.hub.port p with tries := (s.hub.port p).tries + 1 }))) p
  exact ⟨link, out.trans (congrArg _ (Hub.out_fixedRows _ p _))⟩

theorem runs_pairTestDone (k : Fin 8) (e : Nat) (test : s.hub.link p = lkPairTest)
    (left : (s.hub.port p).testLeft.contains k.val = true) (few : e ≤ 76) :
    Runs (.pairTestDone p k true e) s (fun h => (h.port p).testLeft.contains k.val = false ∧
      h.getf (Fld.TRK_PAIR_STATUS_CAP (8 * p + k)) = b2n (s.hub.lane p k).testNrz ∧
      h.flag (Fld.TRK_PAIR_STATUS_LOCKED (8 * p + k)) = true) := by
  have cap : b2n (s.hub.lane p k).testNrz < 2 := by
    cases (s.hub.lane p k).testNrz <;> decide
  refine runs_of_eq rfl ((if_pos ⟨test, left⟩).trans (if_pos ⟨rfl, few⟩)) ?_
  rw [Hub.testEnd]
  dsimp only
  rw [if_neg (by omega), Hub.port_setLane, Hub.port_setPort]
  refine ⟨by simp, ?_, ?_⟩
  · rw [Hub.getf_setLane, Hub.getf_setPort, Hub.getf_setf_self]
    exact Nat.mod_eq_of_lt (show b2n (s.hub.lane p k).testNrz < 2 ^ 2 by omega)
  · rw [Hub.flag, Hub.getf_setLane, Hub.getf_setPort, Hub.getf_setf_ne _ (by simp only [trunkKeys]; omega)]
    exact s.hub.flag_setb_self true rfl

end

/-! Failure and restart (R64, R67, R69). -/

section
variable {p : Nat} (s : Hub)

theorem Hub.linkFail_shows (hp : p < 2) (first : (s.port p).failRaised = false) (step : Nat) : (s.linkFail p step).link p = s.link p ∧
    ((s.linkFail p step).port p).failRaised = true ∧
    (s.linkFail p step).getf (Fld.TRK_PORT_STATUS_FAIL_STEP p) = step % 2 ^ (Fld.TRK_PORT_STATUS_FAIL_STEP p).width := by
  simp (disch := (simp only [Fl.OfTrunk, trunkKeys]; omega)) only [Hub.linkFail, first, Bool.false_eq_true, if_false, Hub.link,
    Hub.port_raise, Hub.getf_raise_trunk, Hub.port_setf, Hub.port_setPort, Hub.getf_setf_ne, Hub.getf_setPort, Hub.getf_setf_self, and_self]

theorem Hub.startBringup_shows (attached : s.attach p = atAttached) (free : s.portHeld p = false) (table : s.trunk.eq.isSome = true) :
    (s.startBringup p).link p = lkLowSpeed ∧ ((s.startBringup p).port p).step = 1 := by
  rw [Hub.startBringup, if_pos (by simp [attached, free, table])]
  refine ⟨?_, by rw [Hub.port_setPort]⟩
  rw [Hub.link, Hub.getf_setPort, Hub.getf_setf_ne _ (by simp only [trunkKeys]; omega)]
  exact s.link_setf_self _

/-- What a port held down keeps of its fields but CSUP (R69). -/
theorem Hub.getf_csupOff {f : Fl} (apart : f.key ≠ (Fld.TRK_PORT_STATUS_CSUP p).key) :
    (if s.csup p = csOurs then s.setf (Fld.TRK_PORT_STATUS_CSUP p) csOff else s).getf f = s.getf f := by
  rw [apply_ite (Hub.getf · f), Hub.getf_setf_ne _ apart, ite_self]

/-- A write of TRK_PORT_CTL without RELINK (R69). -/
theorem Hub.writePortCtl_shows (hp : p < 2) {v : Nat} (noRelink : bit v 1 = false) :
    (s.writePortCtl p v).flag (Fld.TRK_PORT_CTL_EN p) = bit v 0 ∧
      (s.flag (Fld.TRK_PORT_CTL_EN p) = true → bit v 0 = false → (s.writePortCtl p v).link p = lkDown) := by
  have set := s.flag_setb_self (f := Fld.TRK_PORT_CTL_EN p) (bit v 0) rfl
  rw [Hub.writePortCtl]
  dsimp only
  rw [if_neg (ne_true_of_eq_false noRelink)]
  split
  · refine ⟨?_, fun _ _ => ?_⟩
    · refine Eq.trans ?_ set
      rw [Hub.flag, Hub.flag]
      simp (disch := (simp only [Fl.OfTrunk, trunkKeys]; omega)) only [Hub.getf_csupOff, Hub.getf_dropLink]
    · rw [Hub.link, Hub.getf_csupOff _ (by simp only [trunkKeys]; omega)]
      exact Hub.link_dropLink hp _
  · next notDropped =>
    refine ⟨?_, fun was off => absurd (by rw [was, off]; rfl) notDropped⟩
    split
    · refine Eq.trans ?_ set
      rw [Hub.flag, Hub.flag]
      simp (disch := (simp only [trunkKeys]; omega)) only [Hub.getf_startBringup, Hub.getf_startCsup]
    · exact set

end

section
variable (p : Fin 2) (s : State)

theorem runs_linkFailTimeout (attached : s.hub.attach p = atAttached) (notUp : s.hub.link p ≠ lkUp) (notFailed : s.hub.link p ≠ lkFailed)
    (notDown : s.hub.link p ≠ lkDown) (step : 2 ≤ (s.hub.port p).step) (first : (s.hub.port p).failRaised = false)
    (late : (s.hub.port p).attachAt + 50000000 ≤ s.hub.up) :
    Runs (.linkFailTimeout p) s (fun h =>
      h.link p = (if (s.hub.port p).step = 5 ∨ (s.hub.port p).step = 6 then s.hub.link p else lkFailed) ∧ (h.port p).failRaised = true ∧
      h.getf (Fld.TRK_PORT_STATUS_FAIL_STEP p) = (s.hub.port p).step % 2 ^ (Fld.TRK_PORT_STATUS_FAIL_STEP p).width) := by
  refine runs_of_eq rfl (if_pos ⟨attached, notUp, notFailed, notDown, step, late⟩) ?_
  split
  · exact s.hub.linkFail_shows p.isLt first _
  · have kept : (((s.hub.dropLink p).setf (Fld.TRK_PORT_STATUS_LINK p) lkFailed).port p).failRaised = false := by
      rw [Hub.port_setf, Hub.port_dropLink]
      exact first
    obtain ⟨link, rest⟩ := Hub.linkFail_shows _ p.isLt kept (s.hub.port p).step
    exact ⟨link.trans (Hub.link_setf_self ..), rest⟩

theorem runs_bringupRetry (attached : s.hub.attach p = atAttached) (free : s.hub.portHeld p = false)
    (table : s.hub.trunk.eq.isSome = true) (down : s.hub.link p = lkFailed ∨ s.hub.link p = lkDown)
    (late : (s.hub.port p).startAt + 10000000000 ≤ s.hub.up) :
    Runs (.bringupRetry p) s (fun h => h.link p = lkLowSpeed ∧ (h.port p).step = 1) :=
  runs_if rfl ⟨attached, down, late⟩ (s.hub.startBringup_shows attached free table)

theorem runs_portRelink (attached : s.hub.attach p = atAttached) (free : s.hub.portHeld p = false)
    (table : s.hub.trunk.eq.isSome = true) : Runs (.portRelink p) s (fun h => h.link p = lkLowSpeed ∧ (h.port p).step = 1) :=
  ⟨_, rfl, Hub.startBringup_shows (s.hub.dropLink p) ((s.hub.attach_dropLink p.isLt).trans attached)
    ((s.hub.portHeld_dropLink p.isLt).trans free) (by rwa [Hub.dropLink_eqTable])⟩

theorem runs_portEnWrite (v : Word) (noRelink : bit v.toNat 1 = false) :
    Runs (.portEnWrite p v) s (fun h => h.flag (Fld.TRK_PORT_CTL_EN p) = bit v.toNat 0 ∧
      (s.hub.flag (Fld.TRK_PORT_CTL_EN p) = true → bit v.toNat 0 = false → h.link p = lkDown)) :=
  ⟨_, rfl, s.hub.writePortCtl_shows p.isLt noRelink⟩

end

end Sys2Proof.Machine
end

section
/-! PROOFS. Loopbacks, lane wakes, the knuckle and the locks of pairs (O10; R50 to R52, R55, R60 to R63). -/

namespace Sys2Proof.Machine

/-! Loopbacks (R61 to R63). -/

section
variable {p : Nat} (s : Hub)

/-- The pairs of a loopback held awake: the fields of pairs alone change. -/
theorem Hub.getf_holdPair {f : Fl} (low : f.key < 32 * 0x030100) (k : Nat) : (s.holdPair p k).getf f = s.getf f := by
  simp (disch := (simp only [trunkKeys]; omega)) only [Hub.holdPair, Hub.wakePair, Hub.setb, apply_ite (Hub.getf · f), Hub.getf_setf_ne,
    Hub.getf_setLane, ite_self]

theorem Hub.holdPair_rel (k : Nat) : (s.holdPair p k).rel = s.rel := by
  simp only [Hub.holdPair, Hub.wakePair, Hub.setb, apply_ite Hub.rel, Hub.setf_rel, Hub.setLane, ite_self]

theorem Hub.getf_startPattern (f : Fl) : (s.startPattern p).getf f = s.getf f := by
  simp only [Hub.startPattern, apply_ite (Hub.getf · f), Hub.getf_emit, ite_self]

theorem Hub.startPattern_rel : (s.startPattern p).rel = s.rel := by
  simp only [Hub.startPattern, apply_ite Hub.rel, Hub.emit_rel, ite_self]

theorem Hub.startAct_acts (t target st : Nat) (ls : List LockOn) :
    (s.startAct t target st ls).2.rel.acts.length = s.rel.acts.length + 1 := by
  simp only [Hub.startAct, Hub.setf_rel, List.length_append, List.length_singleton]

/-- A loopback starts (R61, R62): it takes its activity and its locks, holds its pairs and drives its pattern. -/
def Hub.loopBegin (p : Nat) (s : Hub) : Hub :=
  ((s.loopPairs p).foldl (fun t k => t.holdPair p k) (((s.startAct mtLoop (16 * p + s.getf (Fld.TRK_LOOP_CTL_SRC p)) 2
    ((s.loopPairs p).map (fun k => .pair (8 * p + k)))).2.clearCnt (Cnt.TRK_LOOP_ERRS p)).setf (Fld.TRK_LOOP_STAT_RESULT p) 1)).startPattern p

theorem Hub.loopBegin_shows (hp : p < 2) : (s.loopBegin p).loopRunning p = true ∧
    (s.loopBegin p).rel.acts.length = s.rel.acts.length + 1 := by
  have held {f : Fl} (low : f.key < 32 * 0x030100) (ks : List Nat) (t : Hub) :
      (ks.foldl (fun t k => t.holdPair p k) t).getf f = t.getf f :=
    Hub.observed_foldl (φ := fun t => t.getf f) (fun u k _ => u.getf_holdPair low k) t
  have rel (ks : List Nat) (t : Hub) : (ks.foldl (fun t k => t.holdPair p k) t).rel = t.rel :=
    Hub.observed_foldl (φ := Hub.rel) (fun u k _ => u.holdPair_rel k) t
  constructor
  · rw [Hub.loopRunning, Hub.loopBegin, Hub.getf_startPattern, held (by simp only [trunkKeys]; omega), Hub.getf_setf_self]
    rfl
  · rw [Hub.loopBegin, Hub.startPattern_rel, rel, Hub.setf_rel]
    exact s.startAct_acts ..

/-- The parameters of a write of TRK_LOOP_CTL (R61, R70). -/
def Hub.loopParams (p v : Nat) (s : Hub) : Hub :=
  (((s.setf (Fld.TRK_LOOP_CTL_SRC p) (bits v 18 16)).setf (Fld.TRK_LOOP_CTL_DST p) (bits v 6 4)).setf
    (Fld.TRK_LOOP_CTL_PATTERN p) (bits v 10 8)).setf (Fld.TRK_LOOP_CTL_MODE p) (bits v 2 0)

theorem Hub.loopRunning_loopParams (v : Nat) : (s.loopParams p v).loopRunning p = s.loopRunning p := by
  simp (disch := (simp only [trunkKeys]; omega)) only [Hub.loopRunning, Hub.loopParams, Hub.getf_setf_ne]

theorem Hub.mode_loopParams (v : Nat) : (s.loopParams p v).getf (Fld.TRK_LOOP_CTL_MODE p) = bits v 2 0 := by
  rw [Hub.loopParams, Hub.getf_setf_self]
  exact Nat.mod_eq_of_lt (bits_lt v 2 0)

/-- START with the parameters of a MODE, where no loopback runs and nothing refuses it (R62). -/
theorem Hub.writeLoopCtl_start {v : Nat} (idle : s.loopRunning p = false) (start : bit v 15 = true) (pattern : bits v 10 8 < 4)
    (mode : 1 ≤ bits v 2 0) (known : bits v 2 0 ≤ 4) (taken : (s.loopParams p v).loopRefusal p = none) :
    s.writeLoopCtl p v = (s.loopParams p v).loopBegin p := by
  unfold Hub.writeLoopCtl
  extract_lets run put s1 s2
  have params : s1 = s.loopParams p v := by
    simp only [s1, put, run, idle, decide_eq_true_eq, if_neg (show ¬4 ≤ bits v 10 8 by omega), if_neg (show ¬5 ≤ bits v 2 0 by omega)]
    rfl
  have noStop : s2 = s1 := if_neg (by simp [run, idle])
  have notRunning : (s.loopParams p v).loopRunning p = false := (s.loopRunning_loopParams v).trans idle
  rw [noStop, params, start, notRunning, if_pos (by rw [Hub.mode_loopParams]; simp; omega), taken]
  rfl

end

section
variable {p : Nat} (s : Hub)

theorem Hub.loopEnd_shows (hp : p < 2) (r : Nat) :
    (s.loopEnd p r).getf (Fld.TRK_LOOP_STAT_RESULT p) = r % 2 ^ 4 ∧ (s.loopEnd p r).getf (Fld.TRK_LOOP_STAT_LOCKED p) = 0 := by
  have ended {f : Fl} (trk : f.OfTrunk) (a : Act) (st cause : Nat) (t : Hub) : (t.endAct a st cause).getf f = t.getf f :=
    (ChanFree.getf_trunk trk).endAct a st cause t
  unfold Hub.loopEnd
  extract_lets held s1
  have result : s1.getf (Fld.TRK_LOOP_STAT_RESULT p) = r % 2 ^ 4 := by
    rw [Hub.getf_setf_ne _ (by simp only [trunkKeys]; omega)]
    exact Hub.getf_setf_self _ _ _
  have checker : s1.getf (Fld.TRK_LOOP_STAT_LOCKED p) = 0 := Hub.getf_setf_self _ _ _
  split
  · exact ⟨result, checker⟩
  · simp (disch := (simp only [Fl.OfTrunk, trunkKeys]; omega)) only [apply_ite Hub.getf, ite_apply, ended, ite_self]
    exact ⟨result, checker⟩

theorem Hub.writeLoopCtl_stop {v : Nat} (running : s.loopRunning p = true) (stop : bit v 14 = true) (noStart : bit v 15 = false) :
    s.writeLoopCtl p v = (s.loopEnd p 2).raise Evt.TRK_LOOP_DONE [p, (s.cnt (Cnt.TRK_LOOP_ERRS p)).v] := by
  unfold Hub.writeLoopCtl
  extract_lets run put s1 s2
  have kept : s1 = s := if_pos running
  rw [noStart, Bool.false_and, Bool.false_and, if_neg Bool.false_ne_true]
  simp only [s2, kept, stop, run, running, Bool.and_self, if_true]

end

section
variable (p : Fin 2) (s : State)

theorem runs_loopStart (v : Word) (idle : s.hub.loopRunning p = false) (start : bit v.toNat 15 = true)
    (pattern : bits v.toNat 10 8 < 4) (mode : 1 ≤ bits v.toNat 2 0) (known : bits v.toNat 2 0 ≤ 4)
    (taken : (s.hub.loopParams p v.toNat).loopRefusal p = none) :
    Runs (.loopStart p v) s (fun h => h.loopRunning p = true ∧ h.rel.acts.length = s.hub.rel.acts.length + 1) := by
  have rel : (s.hub.loopParams p v.toNat).rel = s.hub.rel := by simp only [Hub.loopParams, Hub.setf_rel]
  refine runs_of_eq rfl (s.hub.writeLoopCtl_start idle start pattern mode known taken) ?_
  rw [← rel]
  exact Hub.loopBegin_shows _ p.isLt

theorem runs_loopStop (running : s.hub.loopRunning p = true)
    (pattern : s.hub.getf (Fld.TRK_LOOP_CTL_PATTERN p) < 4) (dst : s.hub.getf (Fld.TRK_LOOP_CTL_DST p) < 8)
    (mode : s.hub.getf (Fld.TRK_LOOP_CTL_MODE p) < 5) :
    Runs (.loopStop p) s (fun h => h.getf (Fld.TRK_LOOP_STAT_RESULT p) = 2 ∧ h.getf (Fld.TRK_LOOP_STAT_LOCKED p) = 0) := by
  refine runs_of_eq rfl (s.hub.writeLoopCtl_stop running ?_ ?_) ?_
  · simp only [bit, beq_iff_eq]
    omega
  · simp only [bit, beq_eq_false_iff_ne]
    omega
  · simp (disch := (simp only [Fl.OfTrunk, trunkKeys]; omega)) only [Hub.getf_raise_trunk]
    exact s.hub.loopEnd_shows p.isLt 2

end

/-! Wakes and the knuckle (R50 to R52, R55). -/

/-- Of a run through `l`, what its turn for `x` brings about and the other turns leave holds at the end, given what every turn keeps. -/
theorem foldl_brings {α β : Type} {f : β → α → β} {x : α} {inv Q : β → Prop} {l : List α} (member : x ∈ l)
    (kept : ∀ t, ∀ y ∈ l, inv t → inv (f t y)) (turn : ∀ t, inv t → Q (f t x))
    (left : ∀ t, ∀ y ∈ l, y ≠ x → inv t → Q t → Q (f t y)) {t : β} (start : inv t) : Q (l.foldl f t) := by
  induction l generalizing t with
  | nil => cases member
  | cons y ys ih =>
    by_cases later : x ∈ ys
    · exact ih later (fun u z m => kept u z (.tail _ m)) (fun u z m => left u z (.tail _ m)) (kept t y (.head _) start)
    · obtain rfl : x = y := (List.mem_cons.mp member).resolve_right later
      exact (List.foldlRecOn ys f (motive := fun u => inv u ∧ Q u) ⟨kept t x (.head _) start, turn t start⟩ fun u both z m =>
        ⟨kept u z (.tail _ m) both.1, left u z (.tail _ m) (fun same => later (same ▸ m)) both.1 both.2⟩).2

theorem mem_allPairs {x : Nat × Nat} : x ∈ allPairs ↔ x.1 < 2 ∧ x.2 < 8 := by
  obtain ⟨p, k⟩ := x
  simp only [allPairs, List.mem_flatMap, List.mem_map, List.mem_range, Prod.mk.injEq]
  constructor
  · rintro ⟨q, qm, j, lt, rfl, rfl⟩
    simp at qm
    omega
  · rintro ⟨hp, hk⟩
    exact ⟨p, by simp; omega, k, hk, rfl, rfl⟩

/-- Two pairs of the hub have two numbers. -/
theorem pairNumber_ne {x y : Nat × Nat} (mx : x ∈ allPairs) (my : y ∈ allPairs) (other : y ≠ x) : 8 * x.1 + x.2 ≠ 8 * y.1 + y.2 := by
  obtain ⟨-, hx⟩ := mem_allPairs.mp mx
  obtain ⟨-, hy⟩ := mem_allPairs.mp my
  intro same
  exact other (Prod.ext (by omega) (by omega))

section
variable (n : NextPairs)

/-- The turn of pair `k` of port `p` at LANE_WAKE_START (R55, R63). -/
def Hub.startWake (up p k : Nat) (t : Hub) : Hub :=
  if n.runs p k then
    let t1 := if t.flag (Fld.TRK_PAIR_STATUS_LOOP (8 * p + k)) then t.loopAbort p 3 else t
    let newDir := bits (n.pairs.getD (8 * p + k) 0) 1 0
    if t1.pairAsleep p k || newDir != t1.dir p k then
      (t1.clearFails p k).setLane p k { t1.lane p k with waking := true, wakeAt := up, slept := t1.pairAsleep p k }
    else t1
  else t

/-- The lanes of pair `k` of port `p` are to wake: the pair runs, and it was asleep or turns. -/
def Hub.mustWake (s : Hub) (p k : Nat) : Bool :=
  n.runs p k && (s.pairAsleep p k || bits (n.pairs.getD (8 * p + k) 0) 1 0 != s.dir p k)

theorem Hub.startWake_eq {up p k : Nat} {t : Hub} (noLoop : t.flag (Fld.TRK_PAIR_STATUS_LOOP (8 * p + k)) = false) :
    t.startWake n up p k = if t.mustWake n p k then
      (t.clearFails p k).setLane p k { t.lane p k with waking := true, wakeAt := up, slept := t.pairAsleep p k } else t := by
  rw [Hub.startWake, Hub.mustWake]
  dsimp only
  rw [noLoop, if_neg Bool.false_ne_true]
  cases n.runs p k <;> rfl

theorem Hub.startWake_regs {up p k : Nat} {t : Hub} (noLoop : t.flag (Fld.TRK_PAIR_STATUS_LOOP (8 * p + k)) = false) :
    (t.startWake n up p k).regs = t.regs := by
  rw [Hub.startWake_eq n noLoop]
  split <;> rfl

theorem Hub.startWake_wakes {up p k : Nat} {t : Hub} (noLoop : t.flag (Fld.TRK_PAIR_STATUS_LOOP (8 * p + k)) = false)
    (must : t.mustWake n p k = true) : ((t.startWake n up p k).lane p k).waking = true := by
  rw [Hub.startWake_eq n noLoop, if_pos must, Hub.lane_setLane]

theorem Hub.lane_startWake_ne {up p k q j : Nat} {t : Hub} (noLoop : t.flag (Fld.TRK_PAIR_STATUS_LOOP (8 * q + j)) = false)
    (other : 8 * p + k ≠ 8 * q + j) : (t.startWake n up q j).lane p k = t.lane p k := by
  rw [Hub.startWake_eq n noLoop]
  split
  · rw [Hub.lane_setLane_ne _ _ _ other]
    rfl
  · rfl

/-- Where no pair runs a loopback, every pair that must wake is waking after all turns. -/
theorem Hub.waking_startWakes {s : Hub} {up p k : Nat} (noLoop : ∀ x ∈ allPairs, s.flag (Fld.TRK_PAIR_STATUS_LOOP (8 * x.1 + x.2)) = false)
    (member : (p, k) ∈ allPairs) (must : s.mustWake n p k = true) :
    ((allPairs.foldl (fun t x => t.startWake n up x.1 x.2) s).lane p k).waking = true := by
  have same {t : Hub} (regs : t.regs = s.regs) {x : Nat × Nat} (m : x ∈ allPairs) :
      t.flag (Fld.TRK_PAIR_STATUS_LOOP (8 * x.1 + x.2)) = false :=
    (congrArg (· == 1) (Hub.getf_congr regs _)).trans (noLoop x m)
  refine foldl_brings (inv := fun t : Hub => t.regs = s.regs) (Q := fun t : Hub => (t.lane p k).waking = true) member
    (fun t y m regs => (Hub.startWake_regs n (same regs m)).trans regs) (fun t regs => ?_) (fun t y m other regs waking => ?_) rfl
  · refine Hub.startWake_wakes n (same regs member) ?_
    rw [← must]
    simp only [Hub.mustWake, Hub.pairAsleep, Hub.flag, Hub.dir, Hub.getf_congr regs]
  · rwa [Hub.lane_startWake_ne n (same regs m) (pairNumber_ne member m other)]

/-- The turn of pair `k` of port `p` at KNUCKLE_START of hub `s` (R50 to R52). -/
def Hub.turnPair (unlocked : List (Fin 16)) (s : Hub) (p k : Nat) (t : Hub) : Hub :=
  if s.needsPattern n p k then
    if bits (n.pairs.getD (8 * p + k) 0) 1 0 = dirOut then
      (t.setf (Fld.TRK_PAIR_STATUS_LOCKED (8 * p + k)) 0).emit (.lockPattern p k)
    else
      let miss := unlocked.any (fun x => x.val == 8 * p + k)
      (t.setb (Fld.TRK_PAIR_STATUS_LOCKED (8 * p + k)) (!miss)).setLane p k
        { t.lane p k with seekFrom := if miss then some (s.tick + 1) else none }
  else t

/-- What KNUCKLE_START leaves of a pair that needs the lock pattern (R51, R52). -/
def Hub.Turned (unlocked : List (Fin 16)) (p k : Nat) (t : Hub) : Prop :=
  if bits (n.pairs.getD (8 * p + k) 0) 1 0 = dirOut then
    t.flag (Fld.TRK_PAIR_STATUS_LOCKED (8 * p + k)) = false ∧ Out.lockPattern p k ∈ t.out
  else t.flag (Fld.TRK_PAIR_STATUS_LOCKED (8 * p + k)) = !unlocked.any (fun x => x.val == 8 * p + k)

variable {unlocked : List (Fin 16)} {s t : Hub} {p k q j : Nat}

theorem Hub.turned_turnPair (needs : s.needsPattern n p k = true) : (s.turnPair n unlocked p k t).Turned n unlocked p k := by
  rw [Hub.turnPair, if_pos needs, Hub.Turned]
  split
  · exact ⟨t.flag_setb_self false rfl, .head _⟩
  · exact t.flag_setb_self _ rfl

theorem Hub.flag_turnPair_ne (other : 8 * p + k ≠ 8 * q + j) :
    (s.turnPair n unlocked q j t).flag (Fld.TRK_PAIR_STATUS_LOCKED (8 * p + k)) = t.flag (Fld.TRK_PAIR_STATUS_LOCKED (8 * p + k)) := by
  simp (disch := (simp only [trunkKeys]; omega)) only [Hub.flag, Hub.turnPair, Hub.setb,
    apply_ite (Hub.getf · (Fld.TRK_PAIR_STATUS_LOCKED (8 * p + k))), Hub.getf_emit, Hub.getf_setLane, Hub.getf_setf_ne, ite_self]

theorem Hub.out_turnPair (t : Hub) : t.out ⊆ (s.turnPair n unlocked q j t).out := by
  rw [Hub.turnPair]
  split
  · split
    · rw [Hub.out_emit, Hub.setf_out]
      exact List.subset_cons_self _ _
    · exact (t.setf_out _ _).symm ▸ List.Subset.refl _
  · exact List.Subset.refl _

theorem Hub.turned_turnPairs (member : (p, k) ∈ allPairs) (needs : s.needsPattern n p k = true) :
    (allPairs.foldl (fun t x => s.turnPair n unlocked x.1 x.2 t) t).Turned n unlocked p k := by
  refine foldl_brings (inv := fun _ => True) (Q := fun t : Hub => t.Turned n unlocked p k) member (fun _ _ _ _ => trivial)
    (fun t _ => Hub.turned_turnPair n needs) (fun t y m other _ turned => ?_) trivial
  rw [Hub.Turned, Hub.flag_turnPair_ne n (pairNumber_ne member m other)]
  rw [Hub.Turned] at turned
  split at turned
  next out => exact (if_pos out).symm ▸ ⟨turned.1, Hub.out_turnPair n t turned.2⟩
  next inward => exact (if_neg inward).symm ▸ turned

end

section
variable (s : State)

theorem runs_laneWakeStart (n : NextPairs) (next : s.hub.nextPairs = some n) (early : s.hub.now ≤ s.hub.tick * tickNs + 40000)
    (noLoop : ∀ (p : Fin 2) (k : Fin 8), s.hub.flag (Fld.TRK_PAIR_STATUS_LOOP (8 * p + k)) = false) :
    Runs .laneWakeStart s (fun h => ∀ (p : Fin 2) (k : Fin 8), n.runs p k = true →
      (s.hub.pairAsleep p k || bits (n.pairs.getD (8 * p + k) 0) 1 0 != s.hub.dir p k) = true → (h.lane p k).waking = true) := by
  let u := s.hub.advance (s.hub.tick * tickNs + 40000)
  refine runs_of_eq (h := allPairs.foldl (fun t x => t.startWake n u.up x.1 x.2) u) rfl ?_ ?_
  · dsimp only
    rw [next, Option.filter_some, if_pos (decide_eq_true early)]
    rfl
  · intro p k runs must
    refine Hub.waking_startWakes n (fun x m => ?_) (mem_allPairs.mpr ⟨p.isLt, k.isLt⟩) ?_
    · obtain ⟨hp, hk⟩ := mem_allPairs.mp m
      rw [Hub.flag, Hub.getf_advance]
      exact noLoop ⟨x.1, hp⟩ ⟨x.2, hk⟩
    · simp only [Hub.mustWake, Hub.pairAsleep, Hub.flag, Hub.dir, u, Hub.getf_advance, runs, Bool.true_and]
      exact must

theorem runs_knuckleStart (n : NextPairs) (unlocked : List (Fin 16)) (next : s.hub.nextPairs = some n)
    (early : s.hub.now ≤ s.hub.tick * tickNs + 61300) :
    Runs (.knuckleStart unlocked) s (fun h => ∀ (p : Fin 2) (k : Fin 8), s.hub.needsPattern n p k = true →
      if bits (n.pairs.getD (8 * p + k) 0) 1 0 = dirOut then
        h.flag (Fld.TRK_PAIR_STATUS_LOCKED (8 * p + k)) = false ∧ Out.lockPattern p k ∈ h.out
      else h.flag (Fld.TRK_PAIR_STATUS_LOCKED (8 * p + k)) = !unlocked.any (fun x => x.val == 8 * p.val + k.val)) := by
  let u := s.hub.advance (s.hub.tick * tickNs + 61300)
  refine runs_of_eq (h := allPairs.foldl (fun t x => u.turnPair n unlocked x.1 x.2 t) u) rfl ?_ ?_
  · dsimp only
    rw [next, Option.filter_some, if_pos (decide_eq_true early)]
    rfl
  · intro p k needs
    refine Hub.turned_turnPairs n (mem_allPairs.mpr ⟨p.isLt, k.isLt⟩) ?_
    rw [← needs]
    simp only [u, Hub.needsPattern, Hub.pairAsleep, Hub.flag, Hub.dir, Hub.lane, Hub.getf_advance, Hub.advance_trunk]

variable (p : Fin 2) (k : Fin 8)

theorem runs_laneWakeDone (waking : (s.hub.lane p k).waking = true) (next : s.hub.nextPairs = none)
    (inTime : s.hub.up ≤ (s.hub.lane p k).wakeAt + laneLimit) (sound : s.hub.laneFailed p k = false) :
    Runs (.laneWakeDone p k) s (fun h => (h.lane p k).waking = false ∧
      if s.hub.dir p k = dirOut then h.flag (Fld.TRK_PAIR_STATUS_TX_SLEEP (8 * p + k)) = false
      else h.flag (Fld.TRK_PAIR_STATUS_RX_SLEEP (8 * p + k)) = false) := by
  refine runs_if rfl ⟨waking, inTime, sound⟩ ?_
  dsimp only
  rw [next]
  dsimp only
  split
  · exact ⟨by rw [Hub.lane_setf, Hub.lane_setLane], Hub.flag_setb_self _ false rfl⟩
  · exact ⟨by rw [Hub.lane_setf, Hub.lane_setLane], Hub.flag_setb_self _ false rfl⟩


theorem runs_pairLockTimeout (t : Nat) (seeks : (s.hub.lane p k).seekFrom = some t) (late : t + 16 ≤ s.hub.tick)
    (unlocked : s.hub.flag (Fld.TRK_PAIR_STATUS_LOCKED (8 * p + k)) = false) :
    Runs (.pairLockTimeout p k) s (fun h => h.flag (Fld.TRK_PAIR_STATUS_FAULTY (8 * p + k)) = true ∧
      (h.lane p k).seekFrom = none) := by
  let e := s.hub.getf Fld.PLN_ACTIVE_EPOCH
  let s1 := (s.hub.setLane p k { s.hub.lane p k with seekFrom := none }).setf (Fld.TRK_PAIR_STATUS_FAULTY (8 * p + k)) 1
  refine runs_of_eq (h := (s1.raise Evt.TRK_PAIR_LOCK_FAIL [p, k, e]).sendHop p 0x31 (beBytes 1 k ++ zeros 3 ++ beBytes 4 e)) rfl ?_ ⟨?_, ?_⟩
  · dsimp only
    rw [seeks]
    exact if_pos ⟨late, by simp [unlocked]⟩
  · have trk : (Fld.TRK_PAIR_STATUS_FAULTY (8 * p + k)).OfTrunk := by
      simp only [Fl.OfTrunk, trunkKeys]
      omega
    rw [Hub.flag, (MsgFree.getf_of_key (.inl trk)).sendHop, Hub.getf_raise_trunk _ trk]
    exact Hub.flag_setb_self _ true rfl
  · rw [Hub.lane, MsgFree.trunk.sendHop, Hub.raise_trunk, Hub.setf_trunk, ← Hub.lane, Hub.lane_setLane]

end

/-! Row requests (R60). -/

/-- The last row of a pair follows from the EQ table in force, and the port's orientation and class (R57, R58). -/
theorem Hub.lastRow_congr {s t : Hub} {p : Nat} (table : t.trunk.eq = s.trunk.eq)
    (flipped : t.getf (Fld.TRK_PORT_STATUS_FLIPPED p) = s.getf (Fld.TRK_PORT_STATUS_FLIPPED p))
    (cls : t.getf (Fld.TRK_PORT_STATUS_CLASS p) = s.getf (Fld.TRK_PORT_STATUS_CLASS p)) (k : Nat) : t.lastRow p k = s.lastRow p k := by
  have ball : t.ballOf p k = s.ballOf p k := by rw [Hub.ballOf, Hub.flag, flipped, Hub.ballOf, Hub.flag]
  have group : t.eqGroup p k = s.eqGroup p k := by rw [Hub.eqGroup, table, ball, cls, Hub.eqGroup]
  rw [Hub.lastRow, group, Hub.lastRow]

/-- This end's row and the far end's next row, as a ROW_REQUEST stages them (R60). -/
def Hub.requestedRow (s : Hub) (m : Msg) : StagedRow :=
  let k := byteAt m.body 0 % 8
  ⟨min (byteAt m.body 1) (s.lastRow m.port k), min 7 (s.getf (Fld.TRK_PAIR_STATUS_FAR_ROW (8 * m.port + k)) + 1), m.tick⟩

theorem Hub.requestedRow_takeMsg (s : Hub) (q : Nat) (types : List Nat) (m : Msg) :
    (s.takeMsg q types).2.requestedRow m = s.requestedRow m := by
  have field {f : Fl} (place : f.key % 32 = 4 ∨ f.key % 32 = 6 ∨ f.key % 32 = 16) : (s.takeMsg q types).2.getf f = s.getf f :=
    (MsgFree.getf_of_key (.inr place)).takeMsg q types s
  simp only [Hub.requestedRow]
  rw [Hub.lastRow_congr (congrArg Trunk.eq (MsgFree.trunk.takeMsg q types s)) (field (by simp only [trunkKeys]; omega))
    (field (by simp only [trunkKeys]; omega)), field (by simp only [trunkKeys]; omega)]

theorem runs_rowRequestReceive (s : State) : Runs .rowRequestReceive s (fun h => match (s.hub.takeMsg 4 [0x30]).1 with
    | none => h = (s.hub.takeMsg 4 [0x30]).2
    | some m =>
      let k := byteAt m.body 0 % 8
      (h.lane m.port k).staged = (s.hub.lane m.port k).staged ++ [⟨min (byteAt m.body 1) (s.hub.lastRow m.port k),
        min 7 (s.hub.getf (Fld.TRK_PAIR_STATUS_FAR_ROW (8 * m.port + k)) + 1), m.tick⟩]) := by
  have trunk : (s.hub.takeMsg 4 [0x30]).2.trunk = s.hub.trunk := MsgFree.trunk.takeMsg 4 [0x30] s.hub
  have row := s.hub.requestedRow_takeMsg 4 [0x30]
  rcases taken : s.hub.takeMsg 4 [0x30] with ⟨_ | m, t⟩
  · exact runs_of_eq (h := t) rfl (by dsimp only; rw [taken]) rfl
  · rw [taken] at trunk row
    let k := byteAt m.body 0 % 8
    refine runs_of_eq (h := t.setLane m.port k { t.lane m.port k with staged := (t.lane m.port k).staged ++ [t.requestedRow m] }) rfl
      (by dsimp only; rw [taken]; rfl) ?_
    show ((Hub.setLane ..).lane m.port k).staged = _ ++ [s.hub.requestedRow m]
    rw [Hub.lane_setLane, row, Hub.lane, trunk]
    rfl

/-- Settles O10, command by command. -/
theorem trunkLinksLoopbacksAndKnuckle : Obligations.TrunkLinksLoopbacksAndKnuckle := by
  unfold Obligations.TrunkLinksLoopbacksAndKnuckle
  exact ⟨runs_lowSpeedLock, runs_helloSend, fun p f s => runs_helloReceive p s f, fun p f s => runs_ackReceive p s f, runs_pam3Switch,
    runs_fixedPairRetry, fun p k e s => runs_pairTestDone p s k e, fun p s _ => runs_linkFailTimeout p s,
    fun p s attached free table => ⟨runs_bringupRetry p s attached free table, fun _ => runs_portRelink p s attached free table⟩,
    fun p v s _ => runs_portEnWrite p s v, fun p v s => runs_loopStart p s v,
    fun p s _ running _ pattern dst mode => runs_loopStop p s running pattern dst mode, fun n s => runs_laneWakeStart s n,
    fun p k s => runs_laneWakeDone s p k, fun n u s => runs_knuckleStart s n u, fun p k t s => runs_pairLockTimeout s p k t,
    runs_rowRequestReceive, fun s => ⟨_, rfl, rfl⟩⟩

end Sys2Proof.Machine
end

section
/-! PROOFS. A switch prepared while failsafe holds the domain it needs (O25). -/

namespace Sys2Proof.Machine

/-- An armed section that names gate lists alone, and so needs the Ethernet domain (R135). -/
def gatedSec : Sec := { epoch := 7, gateRec := true }

/-- A hub in failsafe, whose Ethernet domain failsafe holds at L3 (R414), with that section armed for tick 5. -/
def failsafeArmedHub : Hub :=
  { regs := [(Fld.PLN_STATUS_PEND_STATE.key, psArmed), ((Fld.PWR_DOM_STATUS_STEP dETH).key, 3)],
    pwr := { failsafe := { active := true } },
    plan := { banks := [(1, gatedSec)], armed := some ⟨7, 5, false, 0, 0⟩ } }

/-- The boundary of S − 8 wakes no domain that failsafe holds (R410, R414). -/
theorem domState_prepareAt_failsafeArmedHub :
    (failsafeArmedHub.atBoundary (fun t => t.armedFor (t.tick + 8) psArmed && !t.armedFor t.tick psArmed) Hub.prepareAt).domState dETH =
      dmStable := by
  decide +kernel

/-- Refutes O25: its first clause has every stable domain below L0 that the armed section needs start its exit at the boundary of S − 8,
in every hub. In failsafe all domains but SVC are held at L3, and a wake leaves them there (R414). -/
theorem not_epochsSwitch : ¬ Obligations.EpochsSwitch := by
  unfold Obligations.EpochsSwitch
  rintro ⟨prepare, -⟩
  obtain ⟨h, run, -, -, exits⟩ := prepare ⟨7, 5, false, 0, 0⟩ gatedSec { hub := failsafeArmedHub } rfl (by decide) (by decide) (by decide)
    (by decide) (by decide)
  injection run with same
  injection same with _ same
  have exiting := exits dETH (by decide) (by decide) (by decide)
  rw [← same, domState_prepareAt_failsafeArmedHub] at exiting
  cases exiting

end Sys2Proof.Machine
end

section
/-! PROOFS. A sync frame after which the time path moves to the other port, and a step of line time drops the link it came by (O31). -/

namespace Sys2Proof.Machine

/-- A valid sync frame is taken. -/
theorem exec_syncFrameReceive_valid {p : Fin 2} {frame : Option (List Byte)} {rx : Nat} {s : State} {f : SyncFrame}
    (runs : s.hub.framesRun p = true) (valid : (s.hub.advanceFrac rx).validSync p frame = some f) :
    exec (.syncFrameReceive p frame rx) s = .next { s with hub := (s.hub.advanceFrac rx).takeSync p rx f } := by
  have runs : (s.hub.advanceFrac rx).framesRun p = true := by
    simpa only [Hub.framesRun, Hub.linkUp, Hub.link, Hub.getf_congr (s.hub.advanceFrac_regs rx)] using runs
  change execSyncFrameReceive p frame rx s = _
  simp only [execSyncFrameReceive, State.on, runs, valid, Bool.not_true, Bool.false_eq_true, if_false]

/-- A hub without a time path, which offers none in its frames (R189). -/
def pathlessHub : Hub := { regs := [(Fld.GEN_HUB_ADDR_ADDR.key, 2)] }

/-- A node with both links up and no line time of its own yet (FREE): its U port has offered the shorter path, not measured so far, and its
D port one that has been measured. -/
def freeNode : Hub :=
  { regs := [(Fld.GEN_HUB_ADDR_ADDR.key, 3), ((Fld.TRK_PORT_STATUS_LINK 0).key, lkUp), ((Fld.TRK_PORT_STATUS_LINK 1).key, lkUp)],
    trunk := { ports := [(0, { far := some ⟨5, 2, 1, false, true, []⟩ })] },
    time := { ports := [(0, { hops := 1 }), (1, { hops := 3, measured := true })] } }

/-- The frame of `pathlessHub` as the U port of `freeNode` reads it. -/
def freeNodeSync : Option SyncFrame := (freeNode.advanceFrac 0).validSync 0 (some (pathlessHub.syncFrame 1 0 0))

/-- The frame is valid, and neither a head's nor that of a hub in plan B. -/
theorem freeNodeSync_plain : freeNodeSync.map (fun f => (f.head, bit f.flags 5)) = some (false, false) := by decide +kernel

/-- The U port offers no path any more, so the node takes that of its D port and steps its line time, which drops the U port's link
(R182, R189). -/
theorem got_takeSync_freeNode :
    freeNodeSync.map (fun f => (((freeNode.advanceFrac 0).takeSync 0 0 f).sync 0).got) = some false := by decide +kernel

/-- What the second clause of O31 says of a valid frame that is neither a head's nor that of a hub in plan B. -/
theorem got_of_brimsAndSyncFrames (claim : Obligations.BrimsAndSyncFrames) {p : Fin 2} {frame : Option (List Byte)} {rx : Nat} {s : Hub}
    {f : SyncFrame} (runs : s.framesRun p = true) (valid : (s.advanceFrac rx).validSync p frame = some f) (head : f.head = false)
    (planB : bit f.flags 5 = false) : (((s.advanceFrac rx).takeSync p rx f).sync p).got = true := by
  unfold Obligations.BrimsAndSyncFrames at claim
  obtain ⟨-, receive⟩ := claim
  obtain ⟨h, run, told⟩ := receive p rx frame { hub := s }
  rw [exec_syncFrameReceive_valid (s := { hub := s }) runs valid] at run
  injection run with same
  injection same with _ same
  simp only [runs, valid, Bool.true_eq_false, if_false] at told
  rw [same]
  exact (told.2 (.inr head) planB).1

/-- Refutes O31: its second clause has a valid frame recorded at the port it came by, whatever else it brings about. A node without line time that
leaves its choice of the path to the other port steps its line time at once, and a step drops every trunk link but the path's (R182): what the
frame told is gone with its link. -/
theorem not_brimsAndSyncFrames : ¬ Obligations.BrimsAndSyncFrames := by
  intro claim
  obtain ⟨f, valid, plain⟩ := Option.map_eq_some_iff.mp freeNodeSync_plain
  obtain ⟨head, planB⟩ := Prod.mk.inj plain
  have got := got_of_brimsAndSyncFrames claim (p := 0) (rx := 0) (s := freeNode) (by decide) valid head planB
  have lost := got_takeSync_freeNode
  rw [valid, Option.map_some, Option.some_inj] at lost
  exact Bool.false_ne_true (lost.symm.trans got)

end Sys2Proof.Machine
end

section
/-! PROOFS. Numbers written as bytes and read back, and parts of concatenated bytes (R5, R6). -/

namespace Sys2Proof.Machine

theorem length_leBytes (n v : Nat) : (leBytes n v).length = n := by
  induction n generalizing v with
  | zero => rfl
  | succ n ih => rw [leBytes, List.length_cons, ih]

@[simp] theorem length_beBytes (n v : Nat) : (beBytes n v).length = n := by rw [beBytes, List.length_reverse, length_leBytes]

@[simp] theorem length_zeros (n : Nat) : (zeros n).length = n := List.length_replicate

theorem leNat_leBytes (n v : Nat) : leNat (leBytes n v) = v % 256 ^ n := by
  induction n generalizing v with
  | zero => rw [pow_zero, Nat.mod_one]; rfl
  | succ n ih => rw [leBytes, leNat, ih, pow_succ', Nat.mod_mul, BitVec.toNat_ofNat, Nat.mod_mod]

theorem beNat_reverse (bs : List Byte) : beNat bs.reverse = leNat bs := by
  induction bs with
  | nil => rfl
  | cons b bs ih =>
    rw [beNat] at ih
    rw [beNat, List.reverse_cons, List.foldl_concat, ih, leNat, Nat.add_comm]

/-- A number written in `n` bytes keeps its lowest ones. -/
@[simp] theorem beNat_beBytes (n v : Nat) : beNat (beBytes n v) = v % 256 ^ n := by rw [beBytes, beNat_reverse, leNat_leBytes]

theorem leNat_append (a b : List Byte) : leNat (a ++ b) = leNat a + 256 ^ a.length * leNat b := by
  induction a with
  | nil => simp [leNat]
  | cons x a ih => rw [List.cons_append, leNat, ih, leNat, List.length_cons, pow_succ]; ring

theorem beNat_append (a b : List Byte) : beNat (a ++ b) = beNat a * 256 ^ b.length + beNat b := by
  have key := leNat_append b.reverse a.reverse
  rwa [← List.reverse_append, ← beNat_reverse, ← beNat_reverse, ← beNat_reverse, List.reverse_reverse, List.reverse_reverse,
    List.reverse_reverse, List.length_reverse, Nat.add_comm, Nat.mul_comm] at key

/-! Parts of concatenated bytes. -/

theorem slice_append_right {a : List Byte} {o : Nat} (past : a.length ≤ o) (b : List Byte) (n : Nat) :
    slice (a ++ b) o n = slice b (o - a.length) n := by
  rw [slice, List.drop_append, List.drop_eq_nil_of_le past, List.nil_append, slice]

theorem slice_append_left {a : List Byte} {n : Nat} (within : n ≤ a.length) (b : List Byte) : slice (a ++ b) 0 n = a.take n := by
  rw [slice, List.drop_zero, List.take_append_of_le_length within]

theorem slice_append_both {a : List Byte} {n : Nat} (beyond : a.length ≤ n) (b : List Byte) :
    slice (a ++ b) 0 n = a ++ slice b 0 (n - a.length) := by
  rw [slice, List.drop_zero, List.take_append, List.take_of_length_le beyond, slice, List.drop_zero]

theorem byteAt_eq_beNat_slice (bs : List Byte) (o : Nat) : byteAt bs o = beNat (slice bs o 1) := by
  induction bs generalizing o with
  | nil => cases o <;> rfl
  | cons b bs ih =>
    cases o with
    | zero => simp [byteAt, slice, beNat]
    | succ o => exact ih o

/-! CRC-32C (R58). -/

theorem crcRefl_lt {poly : Nat} (small : poly < 2 ^ 32) (n : Nat) {crc : Nat} (lt : crc < 2 ^ 32) : crcRefl poly n crc < 2 ^ 32 := by
  induction n generalizing crc with
  | zero => exact lt
  | succ n ih =>
    have half : crc / 2 < 2 ^ 32 := by omega
    rw [crcRefl]
    refine ih ?_
    split
    · exact Nat.xor_lt_two_pow half small
    · exact half

theorem crc32c_lt (bs : List Byte) : crc32c bs < 2 ^ 32 := by
  refine Nat.xor_lt_two_pow ?_ (by decide)
  refine List.foldlRecOn bs _ (motive := fun c => c < 2 ^ 32) (by decide) fun c lt b _ => crcRefl_lt (by decide) 8 ?_
  have := b.isLt
  exact Nat.xor_lt_two_pow lt (by omega)

end Sys2Proof.Machine
end

section
/-! PROOFS. A sync frame read back (O32). -/

namespace Sys2Proof.Machine

/-- The 92 bytes of a sync frame before its CRC (R89). -/
def Hub.syncBody (s : Hub) (p tx n : Nat) : List Byte :=
  let y := s.sync p
  let rx := if y.got then y.rxTime else 0
  let rf := if y.got then y.rxFrac else 0
  let brk := match s.ring.brk with
    | none => (0, 0)
    | some b => (0x8000 + b.hop % 512, b.detect)
  beBytes 2 0x5A3C ++ (beBytes 1 1 ++ (beBytes 1 (s.syncFlags p) ++ (beBytes 2 s.addr ++ (beBytes 1 n ++ (beBytes 1 s.gmState
    ++ (beBytes 8 s.tick ++ (beBytes 4 (s.getf Fld.PLN_ACTIVE_EPOCH) ++ (beBytes 8 (tx / fracUnit) ++ (beBytes 2 (tx % fracUnit)
    ++ (beBytes 2 (s.hopsSent p) ++ (beBytes 8 rx ++ (beBytes 2 rf ++ (beBytes 2 brk.1 ++ (beBytes 8 s.hubId ++ (beBytes 8 brk.2
    ++ zeros 32)))))))))))))))

section
variable (h : Hub) (p tx n : Nat)

theorem Hub.syncFrame_eq : h.syncFrame p tx n = h.syncBody p tx n ++ beBytes 4 (crc32c (h.syncBody p tx n)) := by
  simp only [Hub.syncFrame, Hub.syncBody, List.append_assoc] <;> rfl

theorem Hub.length_syncBody : (h.syncBody p tx n).length = 92 := by simp [Hub.syncBody]

/-- A field of the frame is a field of its body. -/
theorem Hub.slice_syncFrame {o k : Nat} (within : o + k ≤ 92) : slice (h.syncFrame p tx n) o k = slice (h.syncBody p tx n) o k := by
  have length := h.length_syncBody p tx n
  rw [h.syncFrame_eq, slice, List.drop_append_of_le_length (by omega), List.take_append_of_le_length (by rw [List.length_drop]; omega), slice]

/-- What a receiver reads of the FLAGS (R89): they fit their byte, RX_OK is bit 3 and HEAD bit 7. -/
theorem Hub.syncFlags_reads : h.syncFlags p < 256 ∧ bit (h.syncFlags p) 3 = (h.sync p).got ∧ bit (h.syncFlags p) 7 = h.isHead := by
  have bits : ∀ a b c d e f : Bool, let v := 128 * b2n a + 64 * b2n b + 32 * b2n c + 16 * b2n d + 8 * b2n e + 4 * b2n f
      v < 256 ∧ bit v 3 = e ∧ bit v 7 = a := by decide
  exact bits ..

/-- The fields of the body that stand in bytes of their own. -/
theorem Hub.fields_syncBody :
    slice (h.syncBody p tx n) 0 2 = beBytes 2 0x5A3C ∧ slice (h.syncBody p tx n) 2 1 = beBytes 1 1 ∧
      slice (h.syncBody p tx n) 3 1 = beBytes 1 (h.syncFlags p) ∧ slice (h.syncBody p tx n) 4 2 = beBytes 2 h.addr ∧
      slice (h.syncBody p tx n) 7 1 = beBytes 1 h.gmState ∧ slice (h.syncBody p tx n) 8 8 = beBytes 8 h.tick ∧
      slice (h.syncBody p tx n) 16 4 = beBytes 4 (h.getf Fld.PLN_ACTIVE_EPOCH) ∧
      slice (h.syncBody p tx n) 20 10 = beBytes 8 (tx / fracUnit) ++ beBytes 2 (tx % fracUnit) ∧
      slice (h.syncBody p tx n) 44 8 = beBytes 8 h.hubId := by
  simp [Hub.syncBody, slice_append_right, slice_append_left, slice_append_both]

end
/-- A receiver's four checks pass on a hub's own frame (R90). -/
theorem Hub.syncFrame_checks (h : Hub) (p tx n : Nat) :
    let b := h.syncFrame p tx n
    b.length = 96 ∧ beNat (slice b 0 2) = 0x5A3C ∧ byteAt b 2 = 1 ∧ crc32c (b.take 92) = beNat (slice b 92 4) := by
  have length := h.length_syncBody p tx n
  have crc := crc32c_lt (h.syncBody p tx n)
  obtain ⟨mark, version, -⟩ := h.fields_syncBody p tx n
  refine ⟨?_, ?_, ?_, ?_⟩
  · simp [h.syncFrame_eq, length]
  · rw [h.slice_syncFrame p tx n (by omega), mark, beNat_beBytes]
    rfl
  · rw [byteAt_eq_beNat_slice, h.slice_syncFrame p tx n (by omega), version, beNat_beBytes]
    rfl
  · rw [h.syncFrame_eq, List.take_left' length, slice, List.drop_left' length, List.take_of_length_le (by simp), beNat_beBytes]
    exact (Nat.mod_eq_of_lt crc).symm

/-- Settles O32: the frame is a body of 92 bytes and its CRC, and each field stands in bytes of its own, which keep it to their width. -/
theorem syncFrameReadsBack : Obligations.SyncFrameReadsBack := by
  unfold Obligations.SyncFrameReadsBack
  intro p tx n h
  obtain ⟨-, -, flags, src, gm, tick, epoch, time, id⟩ := h.fields_syncBody p tx n
  obtain ⟨flagsFit, rxOk, head⟩ := h.syncFlags_reads p
  have flagsRead : byteAt (h.syncFrame p tx n) 3 = h.syncFlags p := by
    rw [byteAt_eq_beNat_slice, h.slice_syncFrame p tx n (by omega), flags, beNat_beBytes, pow_one, Nat.mod_eq_of_lt flagsFit]
  refine ⟨_, if_pos (h.syncFrame_checks p tx n), ?_, ?_, ?_, ?_, ?_, ?_, ?_, ?_⟩
  · simp only [h.slice_syncFrame p tx n (show 4 + 2 ≤ 92 by omega), src, beNat_beBytes, bits]
    omega
  · simp only [h.slice_syncFrame p tx n (show 8 + 8 ≤ 92 by omega), tick, beNat_beBytes]
    norm_num
  · simp only [h.slice_syncFrame p tx n (show 16 + 4 ≤ 92 by omega), epoch, beNat_beBytes]
    norm_num
  · simp only [h.slice_syncFrame p tx n (show 20 + 10 ≤ 92 by omega), time, beNat_append, length_beBytes, beNat_beBytes]
    norm_num
  · simp only [h.slice_syncFrame p tx n (show 44 + 8 ≤ 92 by omega), id, beNat_beBytes]
    norm_num
  · simp only [byteAt_eq_beNat_slice, h.slice_syncFrame p tx n (show 7 + 1 ≤ 92 by omega), gm, beNat_beBytes]
    norm_num
  · simp only [SyncFrame.rxOk, flagsRead, rxOk]
  · simp only [SyncFrame.head, flagsRead, head]

end Sys2Proof.Machine
end

section
/-! PROOFS. The hop buffer and the cells a slot receives (R80, R81, R92, R95, R96). -/

namespace Sys2Proof.Machine

section
variable (s : Hub) (n : Nat)

@[simp] theorem Hub.hopCells_setHop (cs : List HopCell) : (s.setHop n cs).hopCells n = cs := by simp [Hub.hopCells, Hub.setHop, Tab.getD]
@[simp] theorem Hub.lateSlots_setLate (xs : List Nat) : (s.setLate n xs).lateSlots n = xs := by simp [Hub.lateSlots, Hub.setLate, Tab.getD]
@[simp] theorem Hub.hopCells_setLate (xs : List Nat) : (s.setLate n xs).hopCells n = s.hopCells n := rfl
@[simp] theorem Hub.hopCells_count (c m : Nat) : (s.count c m).hopCells n = s.hopCells n := by simp [Hub.hopCells]
@[simp] theorem Hub.lateSlots_count (c m : Nat) : (s.count c m).lateSlots n = s.lateSlots n := by simp [Hub.lateSlots]
@[simp] theorem Hub.cnt_setHop (c : Nat) (cs : List HopCell) : (s.setHop n cs).cnt c = s.cnt c := rfl
@[simp] theorem Hub.cnt_setLate (c : Nat) (xs : List Nat) : (s.setLate n xs).cnt c = s.cnt c := rfl

/-- Writing a whole entry ends errors and changes nothing else (R423). -/
theorem Hub.cnt_entryEnd (mem w i c : Nat) : (s.entryEnd mem w i).cnt c = s.cnt c :=
  Hub.observed_foldl (φ := fun t => t.cnt c) (f := fun t w => t.eccEnd mem w) (fun _ _ _ => rfl) s

/-- The counts of a received cell (R81). -/
def Hub.countCell (bad : Bool) (fixed : Nat) : Hub :=
  if bad then s.count (Cnt.TRK_CNT_UNCORR n) 1
  else if 0 < fixed then (s.count (Cnt.TRK_CNT_CORR n) 1).count (Cnt.TRK_CNT_CBYTES n) fixed else s

/-- A received cell waits for switch slot `a`, or is discarded where that has passed (R95, R96). -/
def Hub.holdCell (a : Nat) (c : HopCell) : Hub :=
  if (s.lateSlots n).contains a then ((s.setLate n ((s.lateSlots n).filter (fun x => x != a))).count (Cnt.TRK_CNT_LATE n) 1)
  else ((s.entryEnd 12 33 (8 * n + a % 8)).setHop n (last8 (s.hopCells n ++ [c])))

theorem Hub.ring_countCell (bad : Bool) (fixed : Nat) : (s.countCell n bad fixed).ring = s.ring := by
  simp only [Hub.countCell, apply_ite Hub.ring, Hub.count_ring, ite_self]

theorem Hub.hopCells_countCell (bad : Bool) (fixed : Nat) : (s.countCell n bad fixed).hopCells n = s.hopCells n := by
  rw [Hub.hopCells, Hub.ring_countCell, Hub.hopCells]

theorem Hub.lateSlots_countCell (bad : Bool) (fixed : Nat) : (s.countCell n bad fixed).lateSlots n = s.lateSlots n := by
  rw [Hub.lateSlots, Hub.ring_countCell, Hub.lateSlots]

theorem Hub.countCell_counts {bad : Bool} {fixed : Nat} :
    (bad = true → Counted s (s.countCell n bad fixed) (Cnt.TRK_CNT_UNCORR n) 1) ∧
      (bad = false → 0 < fixed → Counted s (s.countCell n bad fixed) (Cnt.TRK_CNT_CORR n) 1 ∧
        Counted s (s.countCell n bad fixed) (Cnt.TRK_CNT_CBYTES n) fixed) ∧
      (s.countCell n bad fixed).cnt (Cnt.TRK_CNT_LATE n) = s.cnt (Cnt.TRK_CNT_LATE n) := by
  have corr_cbytes : Cnt.TRK_CNT_CORR n ≠ Cnt.TRK_CNT_CBYTES n := by simp only [Cnt.TRK_CNT_CORR, Cnt.TRK_CNT_CBYTES]; omega
  have late_uncorr : Cnt.TRK_CNT_LATE n ≠ Cnt.TRK_CNT_UNCORR n := by simp only [Cnt.TRK_CNT_LATE, Cnt.TRK_CNT_UNCORR]; omega
  have late_corr : Cnt.TRK_CNT_LATE n ≠ Cnt.TRK_CNT_CORR n := by simp only [Cnt.TRK_CNT_LATE, Cnt.TRK_CNT_CORR]; omega
  have late_cbytes : Cnt.TRK_CNT_LATE n ≠ Cnt.TRK_CNT_CBYTES n := by simp only [Cnt.TRK_CNT_LATE, Cnt.TRK_CNT_CBYTES]; omega
  refine ⟨?_, ?_, ?_⟩
  · rintro rfl
    exact s.cnt_count_self _ one_ne_zero
  · rintro rfl some
    rw [Hub.countCell, if_neg Bool.false_ne_true, if_pos some, Counted, Counted, Hub.cnt_count_ne _ corr_cbytes,
      Hub.cnt_count_self _ _ one_ne_zero, Hub.cnt_count_self _ _ some.ne', Hub.cnt_count_ne _ corr_cbytes.symm]
    exact ⟨rfl, rfl⟩
  · simp only [Hub.countCell, apply_ite (fun t : Hub => t.cnt (Cnt.TRK_CNT_LATE n)), Hub.cnt_count_ne _ late_uncorr,
      Hub.cnt_count_ne _ late_corr, Hub.cnt_count_ne _ late_cbytes, ite_self]

/-- The only count of a cell that is held or discarded is LATE. -/
theorem Hub.cnt_holdCell {d : Nat} (apart : d ≠ Cnt.TRK_CNT_LATE n) (a : Nat) (c : HopCell) : (s.holdCell n a c).cnt d = s.cnt d := by
  simp only [Hub.holdCell, apply_ite (fun t : Hub => t.cnt d), Hub.cnt_count_ne _ apart, Hub.cnt_setLate, Hub.cnt_setHop,
    Hub.cnt_entryEnd, ite_self]

theorem Hub.holdCell_late {a : Nat} (late : (s.lateSlots n).contains a = true) (c : HopCell) :
    Counted s (s.holdCell n a c) (Cnt.TRK_CNT_LATE n) 1 ∧ a ∉ (s.holdCell n a c).lateSlots n ∧
      (s.holdCell n a c).hopCells n = s.hopCells n := by
  rw [Hub.holdCell, if_pos late]
  refine ⟨?_, ?_, ?_⟩
  · rw [Counted, Hub.cnt_count_self _ _ one_ne_zero, Hub.cnt_setLate]
  · simp
  · rw [Hub.hopCells_count, Hub.hopCells_setLate]

theorem Hub.hopCells_holdCell {a : Nat} (waits : ¬(s.lateSlots n).contains a = true) (c : HopCell) :
    (s.holdCell n a c).hopCells n = last8 (s.hopCells n ++ [c]) := by
  rw [Hub.holdCell, if_neg waits, Hub.hopCells_setHop]

end

/-- What a cell received for switch slot `a` leaves. -/
theorem Hub.received_shows (s : Hub) (n a hdr fixed : Nat) (pay : List Byte) (bad : Bool) :
    let h := (s.countCell n bad fixed).holdCell n a ⟨a, hdr, pay, bad⟩
    (bad = true → Counted s h (Cnt.TRK_CNT_UNCORR n) 1) ∧
      (bad = false → 0 < fixed → Counted s h (Cnt.TRK_CNT_CORR n) 1 ∧ Counted s h (Cnt.TRK_CNT_CBYTES n) fixed) ∧
      (if (s.lateSlots n).contains a then Counted s h (Cnt.TRK_CNT_LATE n) 1 ∧ a ∉ h.lateSlots n ∧ h.hopCells n = s.hopCells n
       else h.hopCells n = last8 (s.hopCells n ++ [⟨a, hdr, pay, bad⟩])) := by
  obtain ⟨uncorrectable, corrected, late⟩ := s.countCell_counts n (bad := bad) (fixed := fixed)
  have apart (d : Nat) (ne : d ≠ Cnt.TRK_CNT_LATE n) := (s.countCell n bad fixed).cnt_holdCell n ne a ⟨a, hdr, pay, bad⟩
  refine ⟨fun isBad => ?_, fun isGood some => ?_, ?_⟩
  · rw [Counted, apart _ (by simp only [Cnt.TRK_CNT_LATE, Cnt.TRK_CNT_UNCORR]; omega)]
    exact uncorrectable isBad
  · rw [Counted, Counted, apart _ (by simp only [Cnt.TRK_CNT_LATE, Cnt.TRK_CNT_CORR]; omega),
      apart _ (by simp only [Cnt.TRK_CNT_LATE, Cnt.TRK_CNT_CBYTES]; omega)]
    exact corrected isGood some
  · rw [← s.lateSlots_countCell n bad fixed, ← s.hopCells_countCell n bad fixed]
    split
    next passed =>
      obtain ⟨counted, gone, hop⟩ := (s.countCell n bad fixed).holdCell_late n passed ⟨a, hdr, pay, bad⟩
      rw [Counted, late] at counted
      exact ⟨counted, gone, hop⟩
    next waits => exact (s.countCell n bad fixed).hopCells_holdCell n waits _

/-- SLOT_RECEIVE, its cell decoded (R80). -/
def Hub.slotReceived (p : Fin 2) (k : Fin 8) (slot : Nat) (b pay : List Byte) (hdr fixed : Nat) (bad : Bool) (s : Hub) : Hub :=
  let n := 8 * p.val + k.val
  let a := switchOf (s.nrz p k) s.tick slot
  if slotsOf (s.nrz p k) ≤ slot ∨ b.length ≠ 288 then s
  else if s.flag (Fld.TRK_PAIR_STATUS_LOOP (8 * p + k)) = true then s.loopSlot p k slot b
  else if s.carriesIn p k = false then s
  else (s.countCell n bad fixed).holdCell n a ⟨a, hdr, pay, bad⟩

theorem exec_slotReceive {b pay : List Byte} {hdr fixed : Nat} {bad : Bool} (decode : cellDecode b = (hdr, pay, bad, fixed)) (p : Fin 2)
    (k : Fin 8) (slot : Nat) (s : State) :
    exec (.slotReceive p k slot b) s = .next { s with hub := s.hub.slotReceived p k slot b pay hdr fixed bad } := by
  refine congrArg (fun h => Host.Outcome.next { s with hub := h }) ?_
  simp only [decode, ← Hub.countCell.eq_def, Bool.or_eq_true, decide_eq_true_eq, bne_iff_ne, Bool.not_eq_true', Hub.slotReceived,
    Hub.holdCell, Hub.lateSlots_countCell]

end Sys2Proof.Machine
end

section
/-! PROOFS. What a switch slot takes from the hop buffer and sends (R75 to R84, R92 to R96, R146, R171, R172). -/

namespace Sys2Proof.Machine

/-! A hub without memory errors (R420). -/

theorem Hub.foldl_of_kept {β : Type} {s : Hub} (l : List β) {f : Hub → β → Hub} (kept : ∀ x, f s x = s) : l.foldl f s = s :=
  List.foldlRecOn l f (motive := fun t => t = s) rfl fun t same x _ => by rw [same, kept]

section
variable {s : Hub} (clean : s.rel.flips = [])
include clean

theorem Hub.eccState_of_clean (mem w : Nat) : s.eccState mem w = 0 := by rw [Hub.eccState, clean]; rfl

theorem Hub.eccBad_of_clean (mem w : Nat) : s.eccBad mem w = false := by rw [Hub.eccBad, Hub.eccState_of_clean clean]; rfl

theorem Hub.eccTouch_of_clean (mem w : Nat) : s.eccTouch mem w = s := by rw [Hub.eccTouch, Hub.eccState_of_clean clean]; rfl

theorem Hub.entryBad_of_clean (mem n i : Nat) : s.entryBad mem n i = false :=
  List.any_eq_false.mpr fun w _ => by rw [Hub.eccBad_of_clean clean]; exact Bool.false_ne_true

theorem Hub.memBad_of_clean (a n : Nat) : s.memBad a n = false :=
  List.any_eq_false.mpr fun w _ => by rw [Hub.eccBad_of_clean clean]; exact Bool.false_ne_true

theorem Hub.linkBad_of_clean (p : List QCell) : s.linkBad p = false :=
  List.any_eq_false.mpr fun c _ => by rw [Hub.eccBad_of_clean clean]; exact Bool.false_ne_true

theorem Hub.entryTouch_of_clean (mem n i : Nat) : s.entryTouch mem n i = s :=
  Hub.foldl_of_kept _ fun _ => Hub.eccTouch_of_clean clean ..

theorem Hub.memTouch_of_clean (a n : Nat) : s.memTouch a n = s := Hub.foldl_of_kept _ fun _ => Hub.eccTouch_of_clean clean ..

theorem Hub.pktTouch_of_clean (p : List QCell) : s.pktTouch p = s :=
  Hub.foldl_of_kept _ fun c => by rw [Hub.memTouch_of_clean clean, Hub.eccTouch_of_clean clean]

end

/-! What leaves in a slot (R75). -/

/-- Slot `j` of outbound pair `k` of port `o` carries a cell. -/
def Hub.Sends (s : Hub) (o k j : Nat) : Prop := s.carriesOut o k = true ∧ j < slotsOf (s.nrz o k)

section
variable {s : Hub} {o k j : Nat} (sends : s.Sends o k j)
include sends

theorem Hub.emitCell_of_sends (hdr : Nat) (pay : List Byte) : s.emitCell o k j hdr pay = s.emit (.cell o k j (wireCell hdr pay)) := by
  obtain ⟨open', lt⟩ := sends
  rw [Hub.emitCell, if_pos]
  rw [open', decide_eq_true lt, Bool.and_self]

theorem Hub.out_emitNull : (s.emitNull o k j).out = .cell o k j (wireCell (nullHdr s.addr) (zeros 256)) :: s.out := by
  rw [Hub.emitNull, Hub.emitCell_of_sends sends, Hub.out_emit]

end

/-- What the cell that leaves in a slot depends on: the pair's state and rate, and the address in a null cell. -/
def Hub.slotView (o k : Nat) (s : Hub) : Bool × Bool × Nat := (s.carriesOut o k, s.nrz o k, s.addr)

theorem Hub.sends_of_view {s t : Hub} {o k j : Nat} (same : t.slotView o k = s.slotView o k) (sends : s.Sends o k j) :
    t.Sends o k j ∧ t.addr = s.addr := by
  simp only [Hub.slotView, Prod.mk.injEq] at same
  obtain ⟨carries, nrz, addr⟩ := same
  rw [Hub.Sends, carries, nrz]
  exact ⟨sends, addr⟩

theorem Hub.slotView_setf {f : Fl} (apart : ¬f.OfTrunk) (role : f.key ≠ Fld.GEN_STRAPS_ROLE.key)
    (own : f.key ≠ Fld.GEN_HUB_ADDR_ADDR.key) {o k : Nat} (pair : 8 * o + k < 16) (v : Nat) (s : Hub) :
    (s.setf f v).slotView o k = s.slotView o k := by
  have trunk {g : Fl} (trk : g.OfTrunk) : (s.setf f v).getf g = s.getf g :=
    s.getf_setf_ne (fun same => apart (by rwa [Fl.OfTrunk, ← same])) v
  have dir : (Fld.TRK_PAIR_STATUS_DIR (8 * o + k)).OfTrunk := by simp only [Fl.OfTrunk, Fld.TRK_PAIR_STATUS_DIR]; omega
  have sleep : (Fld.TRK_PAIR_STATUS_TX_SLEEP (8 * o + k)).OfTrunk := by simp only [Fl.OfTrunk, Fld.TRK_PAIR_STATUS_TX_SLEEP]; omega
  have rate : (Fld.TRK_PAIR_STATUS_NRZ (8 * o + k)).OfTrunk := by simp only [Fl.OfTrunk, Fld.TRK_PAIR_STATUS_NRZ]; omega
  have head : (s.setf f v).isHead = s.isHead := by rw [Hub.isHead, s.getf_setf_ne role.symm, Hub.isHead]
  simp only [Hub.slotView, Hub.carriesOut, Hub.dir, Hub.nrz, Hub.flag, Hub.addr, head, trunk dir, trunk sleep, trunk rate,
    s.getf_setf_ne own.symm v]

theorem StoreFree.slotView {o k : Nat} (pair : 8 * o + k < 16) : StoreFree (Hub.slotView o k) where
  cnts _ _ := rfl
  ev _ _ := rfl
  lastRaise _ _ := rfl
  fresh _ _ := rfl
  lineMem _ _ := rfl
  pool _ _ := rfl
  rel _ _ := rfl
  overrun s v := Hub.slotView_setf (by unfold Fl.OfTrunk; decide) (by decide) (by decide) pair v s
  genLow s v := Hub.slotView_setf (by unfold Fl.OfTrunk; decide) (by decide) (by decide) pair v s

theorem StoreFree.out : StoreFree Hub.out where
  cnts _ _ := rfl
  ev _ _ := rfl
  lastRaise _ _ := rfl
  fresh _ _ := rfl
  lineMem _ _ := rfl
  pool _ _ := rfl
  rel _ _ := rfl
  overrun s v := by simp
  genLow s v := by simp

/-! Drops (R83, R94, R163, R171). -/

/-- `φ` shows none of what the drop of a cell may change. -/
structure DropFree {α : Type} (φ : Hub → α) : Prop extends StoreFree φ where
  plan : ∀ (s : Hub) (x : Plan), φ { s with plan := x } = φ s
  fbr : ∀ (s : Hub) (x : Fbr), φ { s with fbr := x } = φ s

namespace DropFree
variable {α : Type} {φ : Hub → α} (free : DropFree φ)
include free

theorem rewritePkt (p : List QCell) (bs : List Byte) (s : Hub) : φ (s.rewritePkt p bs) = φ s := by
  induction p generalizing bs s with
  | nil => rfl
  | cons c p ih => rw [Hub.rewritePkt, ih, Hub.memStore, free.lineMem]

theorem tclkDrop (q : Nat) (u : Tun) (s : Hub) : φ (s.tclkDrop q u) = φ s := by
  unfold Hub.tclkDrop
  split
  · split
    · rfl
    · dsimp only
      split
      · rfl
      · exact free.rewritePkt ..
  · rfl

theorem stampSig (q : Nat) (u : Tun) (s : Hub) : φ (s.stampSig q u) = φ s := by
  unfold Hub.stampSig
  split
  · split
    · exact free.fbr s _
    · rfl
  · rfl

theorem dropProduce (t q : Nat) (u : Tun) (c : HopCell) (s : Hub) : φ (s.dropProduce t q u c) = φ s := by
  simp only [Hub.dropProduce, apply_ite φ, free.stampSig, free.tclkDrop, free.produce, ite_self]

theorem dropResync (q : Nat) (s : Hub) : φ (s.dropResync q) = φ s := by rw [Hub.dropResync, free.count, free.setQueue]

theorem dropGap (q lost : Nat) (s : Hub) : φ (s.dropGap q lost) = φ s := by
  simp only [Hub.dropGap, apply_ite φ, free.setOverrun, free.gapLoss, free.claimCheck, free.setQueue, ite_self]

theorem setTun (t : Nat) (u : Tun) (s : Hub) : φ (s.setTun t u) = φ s := free.plan s _

theorem dropSeq (t : Nat) (u : Tun) (c : HopCell) (s : Hub) : φ (s.dropSeq t u c) = φ s := by
  unfold Hub.dropSeq
  extract_lets seq st s1 s2
  have first : φ s1 = φ s := by simp only [s1, apply_ite φ, free.count, free.setTun, ite_self]
  have second : φ s2 = φ s := by
    dsimp only [s2]
    generalize st = row
    cases row with
    | gap n => exact (free.count _ n s1).trans first
    | produce | resync | old => exact first
  split
  · exact second
  split
  · rw [free.count, second]
  split
  · rw [free.count, second]
  split
  · rw [free.count, second]
  generalize st = row
  cases row with
  | produce => exact (free.dropProduce ..).trans second
  | resync => exact (free.dropResync ..).trans second
  | gap n => simp only [apply_ite φ, free.dropProduce, free.dropResync, free.dropGap, second, ite_self]
  | old => exact second

theorem dropCell (n t : Nat) (c : HopCell) (s : Hub) : φ (s.dropCell n t c) = φ s := by
  unfold Hub.dropCell
  split
  · exact free.count _ 1 s
  split
  · rfl
  split
  · exact free.count _ 1 s
  split
  · exact free.count _ 1 s
  · exact free.dropSeq ..

end DropFree

theorem DropFree.slotView {o k : Nat} (pair : 8 * o + k < 16) : DropFree (Hub.slotView o k) where
  toStoreFree := .slotView pair
  plan _ _ := rfl
  fbr _ _ := rfl

/-! Passing (R78, R82) and counting what is discarded (R94). -/

theorem Hub.out_passCell {s : Hub} {o k j : Nat} (sends : s.Sends o k j) (n : Nat) {x : HopCell} (tunnel : hTunnel x.hdr ≠ 0)
    (hops : hHops x.hdr ≠ 0) (good : x.bad = false) :
    (s.passCell n o k j x false).out = .cell o k j (wireCell (setHops x.hdr (hHops x.hdr - 1)) x.pay) :: s.out := by
  rw [Hub.passCell, if_neg tunnel]
  dsimp only
  rw [if_neg (fun h => hops h.1), good, if_neg Bool.false_ne_true, Hub.emitCell_of_sends sends, Hub.out_emit]

theorem Hub.passCell_expired {s : Hub} (n o k j : Nat) {x : HopCell} (tunnel : hTunnel x.hdr ≠ 0) (hops : hHops x.hdr = 0) :
    s.passCell n o k j x false = (s.count (Cnt.TRK_CNT_EXPIRED n) 1).emitNull o k j := by
  rw [Hub.passCell, if_neg tunnel]
  dsimp only
  rw [if_pos ⟨hops, rfl⟩]

/-- A null cell after a count. -/
theorem Hub.count_emitNull {s : Hub} {o k j : Nat} (sends : s.Sends o k j) (pair : 8 * o + k < 16) (c : Nat) :
    ((s.count c 1).emitNull o k j).out = .cell o k j (wireCell (nullHdr s.addr) (zeros 256)) :: s.out ∧
      Counted s ((s.count c 1).emitNull o k j) c 1 := by
  obtain ⟨still, addr⟩ := Hub.sends_of_view ((StoreFree.slotView pair).count c 1 s) sends
  constructor
  · rw [Hub.out_emitNull still, addr, Hub.count_out]
  · rw [Hub.emitNull, Hub.emitCell_of_sends still]
    exact Hub.cnt_count_self _ _ one_ne_zero

/-- A cell that no run takes is counted, unless null; nothing else of the hub changes. -/
theorem Hub.unplanned_eq (s : Hub) (n : Nat) (c : Option HopCell) : ∃ x : Tab CntV, s.unplanned n c = { s with cnts := x } := by
  unfold Hub.unplanned
  split
  · exact ⟨s.cnts, rfl⟩
  split
  · exact ⟨s.cnts, rfl⟩
  · exact ⟨_, if_neg one_ne_zero⟩

theorem Hub.out_unplanned_emitNull {s : Hub} {o k j : Nat} (sends : s.Sends o k j) (n : Nat) (c : Option HopCell) :
    ((s.unplanned n c).emitNull o k j).out = .cell o k j (wireCell (nullHdr s.addr) (zeros 256)) :: s.out := by
  obtain ⟨x, is⟩ := s.unplanned_eq n c
  rw [is]
  exact Hub.out_emitNull (s := { s with cnts := x }) sends

/-! Adds (R76 to R78, R84, R172). -/

/-- A cell of poison `poison` that tunnel `t` owes after a frame that grew (R257). -/
theorem Hub.addCell_owed {s : Hub} {t q : Nat} {u : Tun} {x : Nat × Bool} (tunnel : Tab.get? t s.plan.tunnels = some u)
    (inq : u.inq = some q) (owed : u.owed = some x) : s.addCell t =
      (some (mkHdr t u.nextSeq s.addr (u.carry.length - 1) false true false x.2 (if u.kind = 1 then x.1 else 0) u.kind u.hops, u.carry),
        s.setTun t { u with nextSeq := (u.nextSeq + 1) % 65536, carry := [], owed := none }) := by
  rw [Hub.addCell, tunnel]
  dsimp only
  rw [inq, owed]

/-- The bytes the head cell `x` of queue `q` adds to tunnel `u`: with the frame's tag at a first cell, after the carry at a later one
(R257). -/
def Hub.addBytes (s : Hub) (q : Nat) (u : Tun) (x : QCell) : List Byte :=
  let b := s.memRead (256 * x.idx) (x.lenm1 + 1)
  if x.gap then b else if x.f then s.leaveTag q b else u.carry ++ b

/-- A packet of one cell is added, and leaves its queue. -/
theorem Hub.addCell_single {s : Hub} {t q : Nat} {u : Tun} {x : QCell} {ps : List (List QCell)} (clean : s.rel.flips = [])
    (tunnel : Tab.get? t s.plan.tunnels = some u) (inq : u.inq = some q) (owed : u.owed = none) (shaper : u.shaper = none)
    (cons : (s.queue q).cons = some (.trunk t)) (enabled : s.qEnabled q = true) (sound : x.poison = false)
    (head : (s.queue q).pkts = [x] :: ps) : ∃ u', s.addCell t =
      (let w := s.addBytes q u x
       (some (mkHdr t u.nextSeq s.addr ((w.take 256).length - 1) x.f (x.l && (w.drop 256).isEmpty) x.gap false
          (if u.kind = 1 then x.colour else 0) u.kind u.hops, w.take 256), (s.setTun t u').popPkt q)) := by
  have first : s.headPkt q = some [x] := by rw [Hub.headPkt, if_pos enabled, head, List.head?_cons]
  have pop (v : Tun) : (s.setTun t v).popCell q = (s.setTun t v).popPkt q := by
    have same : ((s.setTun t v).queue q).pkts = [x] :: ps := head
    simp [Hub.popCell, same]
  refine ⟨{ u with
    nextSeq := (u.nextSeq + 1) % 65536, carry := (s.addBytes q u x).drop 256
    owed := if x.l && !((s.addBytes q u x).drop 256).isEmpty then some (x.colour, false) else none }, ?_⟩
  rw [Hub.addCell, tunnel]
  dsimp only
  rw [inq, owed]
  dsimp only
  rw [if_neg (not_not_intro cons), first]
  dsimp only
  rw [shaper]
  dsimp only
  rw [if_neg Bool.false_ne_true, Hub.linkBad_of_clean clean, if_neg Bool.false_ne_true, Hub.pktTouch_of_clean clean,
    Hub.memBad_of_clean clean, sound, Bool.or_false, pop]
  rfl

theorem Hub.queues_claimCheck (s : Hub) : s.claimCheck.pool.queues = s.pool.queues := by
  unfold Hub.claimCheck
  split
  · rfl
  split
  · rfl
  · rw [Hub.raise_pool]

theorem Hub.pkts_popPkt (s : Hub) (q : Nat) : ((s.popPkt q).queue q).pkts = (s.queue q).pkts.tail := by
  rw [Hub.queue, Hub.popPkt, Hub.queues_claimCheck]
  simp [Hub.setQueue, Tab.getD]

/-! A switch slot (R92). -/

/-- The cell that waits for its switch slot is taken; of the hub only the hop buffer and the list of late slots change. -/
theorem Hub.takeHop_of_clean {s : Hub} (clean : s.rel.flips = []) (p k a : Nat) : ∃ r : Ring, r.brk = s.ring.brk ∧
    s.takeHop p k a = ((s.hopCells (8 * p + k)).find? (fun c => c.j == a), { s with ring := r }) := by
  unfold Hub.takeHop
  dsimp only
  split
  next c found =>
    refine ⟨(s.setHop (8 * p + k) ((s.hopCells (8 * p + k)).filter (fun x => x.j != a))).ring, rfl, ?_⟩
    rw [Hub.entryBad_of_clean clean, Hub.entryTouch_of_clean clean, Bool.or_false, found]
    rfl
  next absent =>
    rw [absent]
    split
    · exact ⟨(s.setLate (8 * p + k) (last8 (s.lateSlots (8 * p + k) ++ [a]))).ring, rfl, rfl⟩
    · exact ⟨s.ring, rfl, rfl⟩

/-- The cell of switch slot `j` of this tick that came in at the port opposite `o`, if it has come. -/
def Hub.slotCell (s : Hub) (o k j : Nat) : Option HopCell :=
  if j < s.slotsAt (otherPort o) k dirIn then (s.hopCells (8 * otherPort o + k)).find? (fun x => x.j == absSlot s.tick j) else none

/-- What a switch slot outside alarm slots does with its cell. -/
def Hub.switchCell (o k j : Nat) (c : Option HopCell) (s : Hub) : Hub :=
  if s.loadedPlan then s.slotPlanned o k j c else s.slotTransparent o k j c

/-- The hub with the line time of a slot of the same tick and its hop buffer as the slot leaves it. -/
def Hub.atSlot (s : Hub) (now frac : Nat) (r : Ring) : Hub := { s with now := now, nowFrac := frac, ring := r }

theorem Hub.advance_slot (s : Hub) {n j : Nat} (within : n * j < tickNs) :
    ∃ now frac, now / tickNs = s.tick ∧ s.advance (s.tick * tickNs + n * j) = s.atSlot now frac s.ring := by
  have same : (s.tick * tickNs + n * j) / tickNs = s.tick := by
    rw [Nat.mul_comm, Nat.mul_add_div (by decide), Nat.div_eq_of_lt within, Nat.add_zero]
  unfold Hub.advance
  split
  · exact ⟨_, _, same, rfl⟩
  · exact ⟨s.now, s.nowFrac, rfl, rfl⟩

/-- A slot of an outbound pair starts within its tick (R85). -/
theorem slot_within {nrz : Bool} {j : Nat} (lt : j < slotsOf nrz) : (if nrz then 90 else 60) * j < tickNs := by
  cases nrz <;> simp only [slotsOf, tickNs, Bool.false_eq_true, if_true, if_false] at lt ⊢ <;> omega

theorem runs_switchSlot {o : Fin 2} {k : Fin 8} {j : Nat} {s : State} {Q : Hub → Prop} (clean : s.hub.rel.flips = [])
    (carries : s.hub.carriesOut o k = true) (lt : j < slotsOf (s.hub.nrz o k))
    (noAlarm : (s.hub.alarmInSlot o k j || s.hub.alarmOutSlot o k j) = false)
    (after : ∀ now frac r, now / tickNs = s.hub.tick → r.brk = s.hub.ring.brk →
      Q ((s.hub.atSlot now frac r).switchCell o k j (s.hub.slotCell o k j))) :
    Runs (.switchSlot o k j) s Q := by
  have dir : s.hub.dir o k = dirOut := by
    simp only [Hub.carriesOut, Bool.and_eq_true, beq_iff_eq] at carries
    exact carries.1
  have outs : s.hub.slotsAt o k dirOut = slotsOf (s.hub.nrz o k) := if_pos dir
  obtain ⟨now, frac, tick, moved⟩ := s.hub.advance_slot (slot_within lt)
  have taken : ∃ r : Ring, r.brk = s.hub.ring.brk ∧ (if j < s.hub.slotsAt (otherPort o) k dirIn
      then (s.hub.atSlot now frac s.hub.ring).takeHop (otherPort o) k (absSlot (s.hub.atSlot now frac s.hub.ring).tick j)
      else (none, s.hub.atSlot now frac s.hub.ring)) = (s.hub.slotCell o k j, s.hub.atSlot now frac r) := by
    unfold Hub.slotCell
    split
    · have sameTick : (s.hub.atSlot now frac s.hub.ring).tick = s.hub.tick := tick
      obtain ⟨r, brk, is⟩ := Hub.takeHop_of_clean (s := s.hub.atSlot now frac s.hub.ring) clean (otherPort o) k (absSlot s.hub.tick j)
      exact ⟨r, brk, by rw [sameTick, is]; rfl⟩
    · exact ⟨_, rfl, rfl⟩
  obtain ⟨r, brk, taken⟩ := taken
  refine ⟨_, ?_, after now frac r tick brk⟩
  refine congrArg (fun h => Host.Outcome.next { s with hub := h }) ?_
  dsimp only
  rw [outs, if_neg (by omega), if_pos lt, moved, taken]
  dsimp only
  rw [if_neg]
  · rfl
  · exact fun alarm => Bool.false_ne_true (noAlarm.symm.trans alarm)

/-! The run in force, or the transparent plan (R92, R94, R146). -/

section
variable {s : Hub} {o k j : Nat} {c : Option HopCell}

theorem Hub.slotPlanned_of_none (run : s.runAt k o j s.tick = none) :
    s.slotPlanned o k j c = (s.unplanned (8 * otherPort o + k) c).emitNull o k j := by
  unfold Hub.slotPlanned
  rw [run]

theorem Hub.slotPlanned_of_pass {r : Nat} (run : s.runAt k o j s.tick = some r) (pass : rAction r = acPass) :
    s.slotPlanned o k j none = s.emitNull o k j ∧
      ∀ x, s.slotPlanned o k j (some x) = s.passCell (8 * otherPort o + k) o k j x false := by
  simp only [Hub.slotPlanned, run, if_pos pass, implies_true, and_self]

theorem Hub.slotPlanned_of_drop {r : Nat} (run : s.runAt k o j s.tick = some r) (drop : rAction r = acDrop) :
    s.slotPlanned o k j none = s.emitNull o k j ∧
      ∀ x, s.slotPlanned o k j (some x) = (s.dropCell (8 * otherPort o + k) (rTunnel r) x).emitNull o k j := by
  have notPass : rAction r ≠ acPass := by rw [drop]; decide
  simp only [Hub.slotPlanned, run, if_neg notPass, if_pos drop, implies_true, and_self]

theorem Hub.slotPlanned_of_add {r : Nat} (run : s.runAt k o j s.tick = some r) (add : rAction r = acAdd) :
    s.slotPlanned o k j c = (s.unplanned (8 * otherPort o + k) c).addOut (rTunnel r) o k j := by
  have notPass : rAction r ≠ acPass := by rw [add]; decide
  have notDrop : rAction r ≠ acDrop := by rw [add]; decide
  simp only [Hub.slotPlanned, run, if_neg notPass, if_neg notDrop, if_pos add]

theorem Hub.slotTransparent_of_passes (pass : canPass s.pairsNow k = true) (dir : s.dir (otherPort o) k = dirIn) :
    s.slotTransparent o k j none = s.emitNull o k j ∧
      ∀ x, s.slotTransparent o k j (some x) = s.passCell (8 * otherPort o + k) o k j x false := by
  have passes : (canPass s.pairsNow k && s.dir (otherPort o) k == dirIn) = true := by rw [pass, dir]; rfl
  simp only [Hub.slotTransparent, if_pos passes, implies_true, and_self]

theorem Hub.slotTransparent_of_blocked (blocked : ¬(canPass s.pairsNow k && s.dir (otherPort o) k == dirIn) = true) :
    s.slotTransparent o k j c = (s.unplanned (8 * otherPort o + k) c).emitNull o k j := if_neg blocked

variable (sends : s.Sends o k j)
include sends

theorem Hub.out_slotTransparent_none :
    (s.slotTransparent o k j none).out = .cell o k j (wireCell (nullHdr s.addr) (zeros 256)) :: s.out := by
  by_cases passes : (canPass s.pairsNow k && s.dir (otherPort o) k == dirIn) = true
  · obtain ⟨pass, dir⟩ := Bool.and_eq_true_iff.mp passes
    rw [(Hub.slotTransparent_of_passes pass (beq_iff_eq.mp dir)).1, Hub.out_emitNull sends]
  · rw [Hub.slotTransparent_of_blocked passes, Hub.out_unplanned_emitNull sends]

theorem Hub.slotPlanned_unplanned (pair : 8 * o + k < 16) (run : s.runAt k o j s.tick = none) :
    (s.slotPlanned o k j c).out = .cell o k j (wireCell (nullHdr s.addr) (zeros 256)) :: s.out ∧
      ∀ x, c = some x → hTunnel x.hdr ≠ 0 → Counted s (s.slotPlanned o k j c) (Cnt.TRK_CNT_UNPLANNED (8 * otherPort o + k)) 1 := by
  rw [Hub.slotPlanned_of_none run]
  refine ⟨Hub.out_unplanned_emitNull sends _ c, ?_⟩
  rintro x rfl tunnel
  rw [Hub.unplanned, if_neg tunnel]
  exact (Hub.count_emitNull sends pair _).2

/-- After a drop a null cell leaves, whatever the drop made of its cell. -/
theorem Hub.head_out_drop (pair : 8 * o + k < 16) {r : Nat} (run : s.runAt k o j s.tick = some r) (drop : rAction r = acDrop) :
    (s.slotPlanned o k j c).out.head? = some (.cell o k j (wireCell (nullHdr s.addr) (zeros 256))) := by
  cases c with
  | none => rw [(Hub.slotPlanned_of_drop run drop).1, Hub.out_emitNull sends, List.head?_cons]
  | some x =>
    obtain ⟨still, addr⟩ := Hub.sends_of_view ((DropFree.slotView pair).dropCell (8 * otherPort o + k) (rTunnel r) x s) sends
    rw [(Hub.slotPlanned_of_drop run drop).2, Hub.out_emitNull still, List.head?_cons, addr]

/-- An add of the packet of one cell at the head of its tunnel's queue. -/
theorem Hub.addOut_single (pair : 8 * o + k < 16) {t q : Nat} {u : Tun} {x : QCell} {ps : List (List QCell)} (clean : s.rel.flips = [])
    (tunnel : Tab.get? t s.plan.tunnels = some u) (inq : u.inq = some q) (owed : u.owed = none) (shaper : u.shaper = none)
    (cons : (s.queue q).cons = some (.trunk t)) (enabled : s.qEnabled q = true) (sound : x.poison = false)
    (head : (s.queue q).pkts = [x] :: ps) :
    let w := s.addBytes q u x
    (s.addOut t o k j).out = .cell o k j (wireCell (mkHdr t u.nextSeq s.addr ((w.take 256).length - 1) x.f
        (x.l && (w.drop 256).isEmpty) x.gap false (if u.kind = 1 then x.colour else 0) u.kind u.hops) (w.take 256)) :: s.out ∧
      ((s.addOut t o k j).queue q).pkts = ps := by
  obtain ⟨u', added⟩ := Hub.addCell_single clean tunnel inq owed shaper cons enabled sound head
  have view : ((s.setTun t u').popPkt q).slotView o k = s.slotView o k := by
    rw [Hub.popPkt, (StoreFree.slotView pair).claimCheck, (StoreFree.slotView pair).setQueue, (DropFree.slotView pair).setTun]
  have out : ((s.setTun t u').popPkt q).out = s.out := by
    rw [Hub.popPkt, StoreFree.out.claimCheck, StoreFree.out.setQueue]
    rfl
  rw [Hub.addOut, added]
  dsimp only
  rw [Hub.emitCell_of_sends (Hub.sends_of_view view sends).1]
  refine ⟨by rw [Hub.out_emit, out], (Hub.pkts_popPkt _ q).trans ?_⟩
  exact congrArg List.tail head

theorem Hub.out_addOut_owed {t q : Nat} {u : Tun} {x : Nat × Bool} (tunnel : Tab.get? t s.plan.tunnels = some u)
    (inq : u.inq = some q) (owed : u.owed = some x) :
    (s.addOut t o k j).out = .cell o k j (wireCell (mkHdr t u.nextSeq s.addr (u.carry.length - 1) false true false x.2
      (if u.kind = 1 then x.1 else 0) u.kind u.hops) u.carry) :: s.out := by
  rw [Hub.addOut, Hub.addCell_owed tunnel inq owed]
  dsimp only
  rw [Hub.emitCell_of_sends (s := s.setTun t _) sends, Hub.out_emit]
  rfl

end

/-- The run in force does not depend on the hop buffer, nor on the time within the tick. -/
theorem Hub.runAt_atSlot {s : Hub} {now frac : Nat} {r : Ring} (tick : now / tickNs = s.tick) (brk : r.brk = s.ring.brk) (k o j : Nat) :
    (s.atSlot now frac r).runAt k o j (s.atSlot now frac r).tick = s.runAt k o j s.tick := by
  have tunB (c : Sec) (t : Nat) : (s.atSlot now frac r).tunB c t = s.tunB c t := by
    have same : (s.atSlot now frac r).ring.brk = s.ring.brk := brk
    rw [Hub.tunB, same]
    rfl
  have sameTick : (s.atSlot now frac r).tick = s.tick := tick
  simp only [Hub.runAt, tunB, sameTick]
  rfl

/-- Settles O33: a received cell is counted and then held or discarded; a switch slot takes its cell from the hop buffer, and what the
run in force or the transparent plan does with it leaves the state of the outbound pair as it was, so that the slot's cell goes out. -/
theorem slotsReceiveAndSwitchCells : Obligations.SlotsReceiveAndSwitchCells := by
  unfold Obligations.SlotsReceiveAndSwitchCells
  constructor
  · intro p k slot b pay hdr fixed bad s decode
    refine runs_of_eq (exec_slotReceive decode p k slot s) rfl ?_
    dsimp only [Hub.slotReceived]
    split
    · rfl
    split
    · rfl
    split
    · rfl
    · exact s.hub.received_shows _ _ hdr fixed pay bad
  · intro o k j s n c null passed clean carries lt noAlarm
    have pair : 8 * o.val + k.val < 16 := by omega
    refine runs_switchSlot clean carries lt noAlarm fun now frac r tick brk => ?_
    have sends : (s.hub.atSlot now frac r).Sends o k j := ⟨carries, lt⟩
    have run := Hub.runAt_atSlot (s := s.hub) (frac := frac) tick brk k o j
    have cell : s.hub.slotCell o k j = c := rfl
    rw [cell]
    clear_value c
    by_cases loaded : s.hub.loadedPlan = true
    · have planned : (s.hub.atSlot now frac r).switchCell o k j c = (s.hub.atSlot now frac r).slotPlanned o k j c := if_pos loaded
      rw [planned, if_neg (ne_of_eq_of_ne loaded Bool.false_ne_true.symm)]
      split
      next noRun => exact Hub.slotPlanned_unplanned sends pair (run.trans noRun)
      next g inForce =>
        have run := run.trans inForce
        refine ⟨?_, ?_, ?_, ?_, ?_, ?_⟩
        · rintro pass x rfl tunnel hops good
          rw [(Hub.slotPlanned_of_pass run pass).2]
          exact Hub.out_passCell sends n tunnel hops good
        · rintro pass x rfl tunnel hops
          rw [(Hub.slotPlanned_of_pass run pass).2, Hub.passCell_expired _ _ _ _ tunnel hops]
          exact Hub.count_emitNull sends pair _
        · rintro pass rfl
          rw [(Hub.slotPlanned_of_pass run pass).1]
          exact Hub.out_emitNull sends
        · exact Hub.head_out_drop sends pair run
        · intro add u q x ps tunnel inq owed shaper cons enabled sound head
          obtain ⟨cnts, is⟩ := (s.hub.atSlot now frac r).unplanned_eq n c
          rw [Hub.slotPlanned_of_add run add, is]
          exact Hub.addOut_single (s := { s.hub.atSlot now frac r with cnts := cnts }) sends pair clean tunnel inq owed shaper cons
            enabled sound head
        · intro add u q x tunnel inq owed
          obtain ⟨cnts, is⟩ := (s.hub.atSlot now frac r).unplanned_eq n c
          rw [Hub.slotPlanned_of_add run add, is]
          exact Hub.out_addOut_owed (s := { s.hub.atSlot now frac r with cnts := cnts }) sends tunnel inq owed
    · have transparent : (s.hub.atSlot now frac r).switchCell o k j c = (s.hub.atSlot now frac r).slotTransparent o k j c :=
        if_neg loaded
      rw [transparent, if_pos (Bool.not_eq_true _ ▸ loaded)]
      refine ⟨?_, ?_, ?_⟩
      · rintro pass dir x rfl tunnel hops good
        rw [(Hub.slotTransparent_of_passes (s := s.hub.atSlot now frac r) pass dir).2]
        exact Hub.out_passCell sends n tunnel hops good
      · rintro rfl
        exact Hub.out_slotTransparent_none sends
      · intro blocked
        have blocked : ¬(canPass (s.hub.atSlot now frac r).pairsNow k && (s.hub.atSlot now frac r).dir (otherPort o) k == dirIn) = true :=
          fun passes => Bool.false_ne_true (blocked.symm.trans (Bool.and_eq_true_iff.mp passes).1)
        rw [Hub.slotTransparent_of_blocked blocked]
        exact Hub.out_unplanned_emitNull sends n c

end Sys2Proof.Machine
end

section
/-! PROOFS. What an observation of the hub has to be blind to so that learning of a break, and the check of the time path after it, leave
it as it was (R111 to R116, R140, R144, R189, R190, R205). -/

namespace Sys2Proof.Machine

section
variable {α : Type} {φ : Hub → α}

/-- A field that a break learnt, a switch cancelled for it or a time path chosen after it may write. -/
inductive Fl.OfBreak : Fl → Prop
  | overrun : OfBreak Fld.GEN_EVT_STATUS_OVERRUN
  | genLow : OfBreak Fld.CPL_GEN_LOW
  | hop : OfBreak Fld.TRK_RING_STATUS_BROKEN_HOP
  | detectLo : OfBreak Fld.TRK_RING_DETECT_LO
  | detectHi : OfBreak Fld.TRK_RING_DETECT_HI
  | closure : OfBreak Fld.LTM_CLOSURE
  | state : OfBreak Fld.TRK_RING_STATUS_STATE
  | late : OfBreak Fld.TRK_RING_STATUS_LATE
  | second : OfBreak Fld.TRK_RING_STATUS_SECOND
  | pend : OfBreak Fld.PLN_STATUS_PEND_STATE
  | failReason : OfBreak Fld.PLN_FAIL_REASON
  | failRecord : OfBreak Fld.PLN_FAIL_RECORD
  | failIndex : OfBreak Fld.PLN_FAIL_INDEX
  | cqCount (r : Nat) : OfBreak (Fld.HIF_RING_STATUS_COUNT r)
  | domState (d : Nat) : OfBreak (Fld.PWR_DOM_STATUS_STATE d)
  | domRetries (d : Nat) : OfBreak (Fld.PWR_DOM_STATUS_RETRIES d)
  | domRefuser (d : Nat) : OfBreak (Fld.PWR_DOM_STATUS_LAST_REFUSER d)
  | domArmed (d : Nat) : OfBreak (Fld.PWR_DOM_MODE_ARMED d)
  | refusals (d : Nat) : OfBreak (Fld.PWR_REFUSE_COUNT d)
  | refusalId (d : Nat) : OfBreak (Fld.PWR_REFUSE_LAST_ID d)
  | refusalStep (d : Nat) : OfBreak (Fld.PWR_REFUSE_LAST_STEP d)
  | refusalAbort (d : Nat) : OfBreak (Fld.PWR_REFUSE_LAST_ABORT d)
  | timeState : OfBreak Fld.LTM_STATUS_STATE
  | timeHops : OfBreak Fld.LTM_STATUS_HOPS_GM
  | timeSource : OfBreak Fld.LTM_STATUS_GM_SRC
  | timePath : OfBreak Fld.LTM_STATUS_PATH
  | launches : OfBreak Fld.LTM_LAUNCH_STATUS_COUNT
  | launchesHigh : OfBreak Fld.LTM_LAUNCH_STATUS_HIGH

/-- `φ` shows none of what learning of a break may change: it shows registers and, of the ring's record, the sync frames' state, the
own alarms and the alarms received at most, and none of the fields a break may write. -/
structure BreakFree (φ : Hub → α) : Prop extends StoreFree φ where
  parts : ∀ {s t : Hub}, t.regs = s.regs → t.ring.sync = s.ring.sync → t.ring.own = s.ring.own →
    t.ring.alarmIn = s.ring.alarmIn → φ t = φ s
  field : ∀ {f : Fl}, f.OfBreak → ∀ (s : Hub) (v : Nat), φ (s.setf f v) = φ s

theorem BreakFree.of_parts
    (parts : ∀ {s t : Hub}, t.regs = s.regs → t.ring.sync = s.ring.sync → t.ring.own = s.ring.own →
      t.ring.alarmIn = s.ring.alarmIn → φ t = φ s)
    (field : ∀ {f : Fl}, f.OfBreak → ∀ (s : Hub) (v : Nat), φ (s.setf f v) = φ s) : BreakFree φ where
  cnts _ _ := parts rfl rfl rfl rfl
  ev _ _ := parts rfl rfl rfl rfl
  lastRaise _ _ := parts rfl rfl rfl rfl
  fresh _ _ := parts rfl rfl rfl rfl
  lineMem _ _ := parts rfl rfl rfl rfl
  pool _ _ := parts rfl rfl rfl rfl
  rel _ _ := parts rfl rfl rfl rfl
  overrun := field .overrun
  genLow := field .genLow
  parts := parts
  field := field

namespace BreakFree
variable (free : BreakFree φ)
include free

/-! Messages (R98, R102, R103). -/

theorem mgmtCell (tn dst type hops msgId : Nat) (body : List Byte) (s : Hub) : φ (s.mgmtCell tn dst type hops msgId body).2.2 = φ s :=
  free.parts rfl rfl rfl rfl

theorem putCell (q hdr : Nat) (pay : List Byte) (port : Nat) (s : Hub) : φ (s.putCell q hdr pay port).2 = φ s := by
  have stored := free.produce q ((fixedProd q).getD .fw) { data := pay } s
  unfold Hub.putCell
  dsimp only
  split
  · split
    · rw [← stored]
      exact free.parts rfl rfl rfl rfl
    · exact stored
  · exact stored

theorem sendLocal (p hdr : Nat) (pay : List Byte) (s : Hub) : φ (s.sendLocal p hdr pay) = φ s := by
  have put := free.putCell (localQ p) hdr pay p s
  unfold Hub.sendLocal
  split
  · exact free.count _ 1 s
  split
  next taken => rwa [taken] at put
  next refused => rw [free.count]; rwa [refused] at put

theorem send (dst type msgId : Nat) (body : List Byte) (s : Hub) : φ (s.send dst type msgId body) = φ s := by
  unfold Hub.send
  split
  · simp only [apply_ite φ, free.count, ite_self]
  · refine Hub.observed_foldl (fun t p _ => ?_) s
    exact (free.sendLocal ..).trans (free.mgmtCell tnMgmt dst type 255 msgId body t)

/-! Completions (R222, R228, R231). -/

theorem withHif (s : Hub) (x : Hif) : φ { s with hif := x } = φ s := free.parts rfl rfl rfl rfl

theorem emit (o : Out) (s : Hub) : φ (s.emit o) = φ s := free.parts rfl rfl rfl rfl

theorem setJobs (w : Asker) (js : List Job) (s : Hub) : φ (s.setJobs w js) = φ s := by
  cases w <;> exact free.parts rfl rfl rfl rfl

theorem writeCq (q cookie : Nat) (c : Compl) (s : Hub) : φ (s.writeCq q cookie c) = φ s := by
  have entry (lo hi : Nat) : φ (s.writeEntry q lo hi) = φ s := by
    rw [Hub.writeEntry, free.emit, free.field (.cqCount q)]
    exact free.parts rfl rfl rfl rfl
  simp only [Hub.writeCq, apply_ite φ, entry, ite_self]

theorem complete (w : Asker) (idx cookie : Nat) (nocomp : Bool) (c : Compl) (s : Hub) : φ (s.complete w idx cookie nocomp c) = φ s := by
  unfold Hub.complete
  extract_lets s1
  have taken : φ s1 = φ s := by simp only [s1, apply_ite φ, free.setJobs, ite_self]
  split
  · exact taken
  cases w with
  | ring r => simp only [apply_ite φ, free.writeCq, free.count, taken, ite_self]
  | gadget =>
    dsimp only
    split <;> exact (free.withHif s1 _).trans taken

theorem endReq (id : Nat) (s : Hub) : φ (s.endReq id) = φ s := free.parts rfl rfl rfl rfl

theorem setReq (id : Nat) (q : Req) (s : Hub) : φ (s.setReq id q) = φ s := free.parts rfl rfl rfl rfl

theorem closeBcast (id : Nat) (s : Hub) : φ (s.closeBcast id) = φ s := by
  unfold Hub.closeBcast
  split
  · rfl
  · simp only [apply_ite φ, free.complete, free.endReq, ite_self]

theorem answer (id hub status result : Nat) (s : Hub) : φ (s.answer id hub status result) = φ s := by
  unfold Hub.answer Hub.answerData
  split
  · exact free.count _ 1 s
  · simp only [apply_ite φ, free.closeBcast, free.setReq, free.complete, free.endReq, ite_self]

/-! A section that leaves ARMED (R114, R138 to R140). -/

theorem withPlan (s : Hub) (x : Plan) : φ { s with plan := x } = φ s := free.parts rfl rfl rfl rfl

theorem setPend (st : Nat) (s : Hub) : φ (s.setPend st) = φ s := free.field .pend s st

theorem setPlanFail (f : LoadFail) (s : Hub) : φ (s.setPlanFail f) = φ s := by
  rw [Hub.setPlanFail, free.field .failIndex, free.field .failRecord, free.field .failReason]

theorem sendPlanStatus (msgId reason : Nat) (s : Hub) : φ (s.sendPlanStatus msgId reason) = φ s := by
  simp only [Hub.sendPlanStatus, apply_ite φ, free.send, ite_self]

theorem reportPlan (s : Hub) : φ s.reportPlan = φ s := by
  unfold Hub.reportPlan
  split
  · exact Hub.observed_foldl (fun t _ _ => free.answer ..) s
  · exact free.sendPlanStatus ..

theorem planFail (f : LoadFail) (s : Hub) : φ (s.planFail f) = φ s := by
  rw [Hub.planFail, free.reportPlan, free.raise, free.setPlanFail, free.setPend, free.withPlan]

theorem planReady (s : Hub) : φ s.planReady = φ s := by
  rw [Hub.planReady, free.reportPlan, free.raise, free.setPend, free.withPlan]

theorem liftFence (s : Hub) : φ s.liftFence = φ s := free.pool s _

theorem planUnarm (s : Hub) : φ s.planUnarm = φ s := by
  simp only [Hub.planUnarm, apply_ite φ, free.planReady, free.setPend, free.planFail, free.liftFence, free.withPlan, ite_self]

theorem disarm (s : Hub) : φ s.disarm = φ s := by
  unfold Hub.disarm
  split
  · rfl
  · rw [free.planUnarm, free.raise]

theorem cancelArm (d : Nat) (s : Hub) : φ (s.cancelArm d) = φ s := by
  unfold Hub.cancelArm
  split
  · rfl
  · simp only [apply_ite φ, free.planUnarm, free.raise, ite_self]

/-! Domains that start their exits (R144, R407, R416). -/

theorem setDom (d : Nat) (D : Dom) (s : Hub) : φ (s.setDom d D) = φ s := free.parts rfl rfl rfl rfl

theorem accountRefusal (d k code : Nat) (abort : Bool) (s : Hub) : φ (s.accountRefusal d k code abort) = φ s := by
  rw [Hub.accountRefusal, free.count, free.field (.domRefuser d), Hub.setb, free.field (.refusalAbort d), free.field (.refusalStep d),
    free.field (.refusalId d), free.field (.refusals d)]

theorem abortArmed (d src : Nat) (s : Hub) : φ (s.abortArmed d src) = φ s := by
  have one (a : Option Nat) (t : Hub) : φ (match a with
      | none => t
      | some k => t.accountRefusal d k (0x40 + src) true) = φ t := by
    cases a with
    | none => rfl
    | some k => exact free.accountRefusal ..
  rw [Hub.abortArmed, free.field (.domArmed d), free.setDom]
  exact (one _ _).trans (one _ s)

theorem startExit (d src : Nat) (s : Hub) : φ (s.startExit d src) = φ s := by
  have crystal (x : Option Nat) : φ { s with pwr := { s.pwr with xtalFrom := x } } = φ s := free.parts rfl rfl rfl rfl
  simp only [Hub.startExit, free.field (.domRetries d), free.field (.domState d), free.setDom, apply_ite φ, crystal, ite_self]

theorem wakeDom (d src : Nat) (s : Hub) : φ (s.wakeDom d src) = φ s := by
  simp only [Hub.wakeDom, apply_ite φ, free.startExit, free.setDom, free.abortArmed, ite_self]

theorem leaveSteps (s : Hub) : φ s.leaveSteps = φ s :=
  Hub.observed_foldl (fun t d _ => by simp only [apply_ite φ, free.wakeDom, ite_self]) s

/-! The break itself (R111, R114 to R117). -/

theorem setBreak (b d rep entry : Nat) (s : Hub) : φ (s.setBreak b d rep entry) = φ s := by
  rw [Hub.setBreak, free.field .closure, Hub.showBreak, free.field .detectHi, free.field .detectLo, free.field .hop]
  exact free.parts rfl rfl rfl rfl

theorem turnHeadPort (b : Nat) (s : Hub) : φ (s.turnHeadPort b) = φ s := by
  unfold Hub.turnHeadPort
  split
  · rfl
  · exact free.parts rfl rfl rfl rfl

theorem breakCancels (d : Nat) (s : Hub) : φ (s.breakCancels d) = φ s := by
  simp only [Hub.breakCancels, apply_ite φ, free.leaveSteps, free.cancelArm, ite_self]

theorem schedule (b d rep : Nat) (s : Hub) : φ (s.schedule b d rep) = φ s := by
  simp only [Hub.schedule, apply_ite φ, free.raise, free.field .late, free.breakCancels, free.field .state, free.setBreak, ite_self]

theorem noteReport (b d rep : Nat) (s : Hub) : φ (s.noteReport b d rep) = φ s := by
  unfold Hub.noteReport
  split
  · rfl
  · rw [free.raise]
    exact free.parts rfl rfl rfl rfl

theorem ringBreak (b d rep : Nat) {note : Hub → Hub} (noted : ∀ t, φ (note t) = φ t) (s : Hub) : φ (s.ringBreak b d rep note) = φ s := by
  unfold Hub.ringBreak
  dsimp only
  split
  · split
    · rfl
    · simp only [apply_ite φ, free.raise, free.field .second, noted, free.breakCancels, free.setBreak, ite_self]
  · rw [noted, free.schedule]

theorem transparentBreak (b d rep : Nat) (s : Hub) : φ (s.transparentBreak b d rep) = φ s := by
  unfold Hub.transparentBreak
  extract_lets newer back s1
  have first : φ s1 = φ s := by simp only [s1, apply_ite φ, free.setBreak, ite_self]
  simp only [apply_ite φ, free.schedule, free.cancelArm, first, ite_self]

theorem learnBreak (b d rep : Nat) (own : Bool) (s : Hub) : φ (s.learnBreak b d rep own) = φ s := by
  unfold Hub.learnBreak
  extract_lets note
  have noted (t : Hub) : φ (note t) = φ t := by simp only [note, apply_ite φ, free.noteReport, ite_self]
  split
  · simp only [apply_ite φ, free.ringBreak b d rep noted, noted, free.turnHeadPort, free.field .state, free.setBreak, ite_self]
  · rw [noted, free.transparentBreak]

/-! The time path (R182, R189, R205). -/

theorem withTime (s : Hub) (x : Time) : φ { s with time := x } = φ s := free.parts rfl rfl rfl rfl

theorem showPath (q : Nat) (s : Hub) : φ (s.showPath q) = φ s := by
  rw [Hub.showPath, free.field .timeSource, Hub.setHopsGm, free.field .timeHops]

theorem switchPath (q : Nat) (s : Hub) : φ (s.switchPath q) = φ s := by
  simp only [Hub.switchPath, Hub.setTimeState, apply_ite φ, free.raise, free.withTime, free.field .timeState, free.showPath,
    free.field .timePath, ite_self]

theorem losePath (q : Nat) (s : Hub) : φ (s.losePath q) = φ s := by
  simp only [Hub.losePath, Hub.setTimeState, Hub.setHopsGm, free.raise, free.withTime, free.field .timeState, free.field .timeSource,
    free.field .timeHops, free.field .timePath]

theorem leavePath (q : Nat) (s : Hub) : φ (s.leavePath q) = φ s := by
  simp only [Hub.leavePath, apply_ite φ, free.switchPath, free.losePath, ite_self]

theorem launchDone (slot status f : Nat) (s : Hub) : φ (s.launchDone slot status f) = φ s := by
  unfold Hub.launchDone
  split
  · rfl
  · simp only [Hub.showLaunches, free.field .launchesHigh, free.field .launches, Hub.holdDone, free.withTime, Hub.countLaunch,
      apply_ite φ, free.count, ite_self]

theorem launchesStep (t : Nat) (s : Hub) : φ (s.launchesStep t) = φ s :=
  Hub.observed_foldl (fun u e _ => by simp only [apply_ite φ, free.launchDone, ite_self]) s

/-- Where the other link, if it is up, leaves what `φ` shows as it drops, a step of line time leaves it. -/
theorem stepTime (path : Nat) (d : Int) (s : Hub) (dropped : ∀ t : Hub, φ t = φ s → t.linkUp (otherPort path) = true →
    φ ((t.dropLink (otherPort path)).startBringup (otherPort path)) = φ t) : φ (s.stepTime path d) = φ s := by
  unfold Hub.stepTime
  extract_lets x t o s1 s2 s3 wiped
  have stepped : φ s1 = φ s := (free.raise ..).trans (free.parts rfl rfl rfl rfl)
  have others : φ s2 = φ s := by
    dsimp only [s2]
    split
    next up => exact (dropped s1 stepped up).trans stepped
    next => exact stepped
  rw [free.withTime]
  exact (free.launchesStep t _).trans ((free.disarm s2).trans others)

theorem pathCheck (s : Hub) (dropped : ∀ (o : Nat) (t : Hub), φ t = φ s → t.linkUp o = true →
    φ ((t.dropLink o).startBringup o) = φ t) : φ s.pathCheck = φ s := by
  unfold Hub.pathCheck
  split
  · rfl
  split
  · simp only [apply_ite φ, free.showPath, free.leavePath, ite_self]
  split
  · rfl
  next p best =>
    have taken : φ (s.takePath p) = φ s := by
      have switched := free.switchPath p s
      unfold Hub.takePath
      dsimp only
      split
      · refine (free.stepTime p _ _ fun t same => ?_).trans switched
        exact dropped (otherPort p) t (same.trans switched)
      · exact switched
    simp only [apply_ite φ, taken, ite_self]

end BreakFree

end
end Sys2Proof.Machine
end

section
/-! PROOFS. Breaks declared (R104, R105, R108): what the hub then shows of the port, of its own alarms, and of the alarms received. -/

namespace Sys2Proof.Machine

/-! The fields a break writes, and those it shows (R117). -/

/-- None of the fields learning of a break may write is a BREAK bit or the LINK of a trunk port. -/
theorem Fl.OfBreak.apart {f : Fl} (wrote : f.OfBreak) :
    f.key ≠ Fld.TRK_RING_STATUS_BREAK_U.key ∧ f.key ≠ Fld.TRK_RING_STATUS_BREAK_D.key ∧
      ∀ p < 2, f.key ≠ (Fld.TRK_PORT_STATUS_LINK p).key := by
  refine ⟨?_, ?_, fun p hp => ?_⟩ <;> cases wrote <;> simp only [Fld.TRK_RING_STATUS_BREAK_U, Fld.TRK_RING_STATUS_BREAK_D,
    Fld.TRK_PORT_STATUS_LINK, Fld.GEN_EVT_STATUS_OVERRUN, Fld.CPL_GEN_LOW, Fld.TRK_RING_STATUS_BROKEN_HOP, Fld.TRK_RING_DETECT_LO,
    Fld.TRK_RING_DETECT_HI, Fld.LTM_CLOSURE, Fld.TRK_RING_STATUS_STATE, Fld.TRK_RING_STATUS_LATE, Fld.TRK_RING_STATUS_SECOND,
    Fld.PLN_STATUS_PEND_STATE, Fld.PLN_FAIL_REASON, Fld.PLN_FAIL_RECORD, Fld.PLN_FAIL_INDEX, Fld.HIF_RING_STATUS_COUNT,
    Fld.PWR_DOM_STATUS_STATE, Fld.PWR_DOM_STATUS_RETRIES, Fld.PWR_DOM_STATUS_LAST_REFUSER, Fld.PWR_DOM_MODE_ARMED,
    Fld.PWR_REFUSE_COUNT, Fld.PWR_REFUSE_LAST_ID, Fld.PWR_REFUSE_LAST_STEP, Fld.PWR_REFUSE_LAST_ABORT, Fld.LTM_STATUS_STATE,
    Fld.LTM_STATUS_HOPS_GM, Fld.LTM_STATUS_GM_SRC, Fld.LTM_STATUS_PATH, Fld.LTM_LAUNCH_STATUS_COUNT, Fld.LTM_LAUNCH_STATUS_HIGH] <;>
    omega

/-- The BREAK bit of port `p` (R117). -/
def breakBit (p : Nat) : Fl := if p = 0 then Fld.TRK_RING_STATUS_BREAK_U else Fld.TRK_RING_STATUS_BREAK_D

theorem breakBit_key (p : Nat) : (breakBit p).key = 32 * 0x030200 + 4 ∨ (breakBit p).key = 32 * 0x030200 + 5 := by
  unfold breakBit
  split
  · exact .inl rfl
  · exact .inr rfl

theorem breakBit_trunk (p : Nat) : (breakBit p).OfTrunk := by
  have := breakBit_key p
  unfold Fl.OfTrunk
  omega

/-- What a hub shows of a break it has declared at port `p`: its BREAK bit, the link, the sync frames' state and its own alarms. -/
def Hub.breakView (p : Nat) (s : Hub) : Nat × Nat × SyncState × List OwnAlarm := (s.getf (breakBit p), s.link p, s.sync p, s.ring.own)

theorem Hub.breakView_of_parts {s t : Hub} {p : Nat} (bit : t.getf (breakBit p) = s.getf (breakBit p)) (link : t.link p = s.link p)
    (sync : Tab.get? p t.ring.sync = Tab.get? p s.ring.sync) (own : t.ring.own = s.ring.own) : t.breakView p = s.breakView p := by
  simp only [Hub.breakView, Hub.sync, Tab.getD, bit, link, sync, own]

theorem BreakFree.breakView {p : Nat} (hp : p < 2) : BreakFree (Hub.breakView p) := by
  refine .of_parts (fun {s t} regs sync own _ => ?_) fun {f} wrote s v => ?_
  · exact Hub.breakView_of_parts (Hub.getf_congr regs _) (Hub.getf_congr regs _) (by rw [sync]) own
  · obtain ⟨up, down, link⟩ := wrote.apart
    have bit : (breakBit p).key ≠ f.key := by
      unfold breakBit
      split
      · exact up.symm
      · exact down.symm
    refine Hub.breakView_of_parts (s.getf_setf_ne bit v) (s.getf_setf_ne (link p hp).symm v) ?_ ?_ <;> rw [Hub.setf_ring]

/-- The alarms received are no part of what a break changes. -/
theorem BreakFree.alarmIn : BreakFree (fun s : Hub => s.ring.alarmIn) :=
  .of_parts (fun _ _ _ alarms => alarms) fun _ s v => by rw [Hub.setf_ring]

/-! A link that drops, and the bring-up after it (R63, R64, R89). -/

theorem StoreFree.ring : StoreFree Hub.ring where
  cnts _ _ := rfl
  ev _ _ := rfl
  lastRaise _ _ := rfl
  fresh _ _ := rfl
  lineMem _ _ := rfl
  pool _ _ := rfl
  rel _ _ := rfl
  overrun s v := s.setf_ring _ v
  genLow s v := s.setf_ring _ v

theorem ChanFree.ring : ChanFree Hub.ring where
  toStoreFree := .ring
  lpw _ _ := rfl
  field _ s v := s.setf_ring _ v

section
variable (s : Hub) (o : Nat)

theorem Hub.ring_loopAbort (r : Nat) : (s.loopAbort o r).ring = s.ring := by
  have pairs (t : Hub) (k : Nat) : (if t.flag (Fld.TRK_PAIR_STATUS_LOOP (8 * o + k)) then
      let t1 := t.setf (Fld.TRK_PAIR_STATUS_LOOP (8 * o + k)) 0
      if !t1.pairUsed o k then t1.sleepPair o k
      else if t1.dir o k = dirIn ∧ t1.getf (Fld.TRK_LOOP_CTL_MODE o) ≤ 2 then (t1.wakePair o k).seekLock o k t1.tick
      else t1.wakePair o k
    else t).ring = t.ring := by
    simp only [apply_ite Hub.ring, Hub.sleepPair, Hub.wakePair, Hub.seekLock, Hub.dropScan, Hub.setLane, Hub.setf_ring, Hub.setb_ring,
      ite_self]
  have ended : (s.loopEnd o r).ring = s.ring := by
    unfold Hub.loopEnd
    dsimp only
    split <;> simp only [apply_ite Hub.ring, ChanFree.ring.endAct, Hub.setf_ring,
      Hub.observed_foldl (φ := Hub.ring) (fun t k _ => pairs t k), ite_self]
  simp only [Hub.loopAbort, apply_ite Hub.ring, Hub.raise_ring, ended, ite_self]

/-- Of the ring's record the end of a link forgets what its sync frames told. -/
theorem Hub.ring_dropLink : (s.dropLink o).ring = { s.ring with sync := Tab.del o s.ring.sync } := by
  have lanes (t : Hub) : (t.clearLanes o).ring = t.ring :=
    Hub.observed_foldl (φ := Hub.ring) (fun u k _ => by simp only [Hub.dropScan, Hub.setLane, Hub.setf_ring]) t
  have view (t : Hub) : t.ringView.ring = t.ring := by
    simp only [Hub.ringView, Hub.segmentRing, apply_ite Hub.ring, Hub.setf_ring, Hub.setb_ring, ite_self]
  have time (t : Hub) : (t.dropTime o).ring = t.ring := by
    simp only [Hub.dropTime, Hub.leavePath, Hub.switchPath, Hub.losePath, Hub.showPath, Hub.setHopsGm, Hub.setTimeState,
      apply_ite Hub.ring, Hub.raise_ring, Hub.setf_ring, ite_self]
  rw [Hub.dropLink_eq]
  dsimp only
  rw [ChanFree.ring.maintSweep, view, time]
  simp only [Hub.setPort, Hub.forgetFrames, lanes, Hub.setf_ring, Hub.ring_loopAbort]

theorem Hub.ring_startBringup : (s.startBringup o).ring = s.ring := by
  simp only [Hub.startBringup, apply_ite Hub.ring, Hub.setPort, Hub.setf_ring, ite_self]

/-- A link that drops and starts again leaves the BREAK bits. -/
theorem Hub.breakBit_relink (p : Nat) : ((s.dropLink o).startBringup o).getf (breakBit p) = s.getf (breakBit p) := by
  have key := breakBit_key p
  have free : LinkFree o (fun s : Hub => s.getf (breakBit p)) := by
    refine .getf (.getf_trunk (breakBit_trunk p)) fun link => ?_
    cases link <;> simp only [trunkKeys, Fld.TRK_RING_STATUS_RING, Fld.LTM_CLOSURE, Fld.LTM_STATUS_STATE, Fld.LTM_STATUS_HOPS_GM,
      Fld.LTM_STATUS_GM_SRC, Fld.LTM_STATUS_PATH] <;> omega
  rw [Hub.getf_startBringup _ (by simp only [trunkKeys]; omega) (by simp only [trunkKeys]; omega)]
  exact free.dropLink (fun t v => t.getf_setf_ne (by simp only [trunkKeys]; omega) v) (fun _ _ => rfl) s

end

/-- The other port's link, as it drops and starts again, leaves what a break at port `p` shows. -/
theorem Hub.breakView_relink_other {o p : Nat} (hp : p < 2) (other : o ≠ p) (s : Hub) :
    ((s.dropLink o).startBringup o).breakView p = s.breakView p := by
  refine Hub.breakView_of_parts (s.breakBit_relink o p) ?_ ?_ ?_
  · have free : LinkFree o (fun s : Hub => s.link p) := by
      refine .getf_port ?_ ?_ ?_ ?_ <;> simp only [Fl.OfTrunk, trunkKeys] <;> omega
    rw [Hub.link, Hub.getf_startBringup _ (by simp only [trunkKeys]; omega) (by simp only [trunkKeys]; omega)]
    exact free.dropLink (fun t v => t.getf_setf_ne (by simp only [trunkKeys]; omega) v) (fun _ _ => rfl) s
  · rw [Hub.ring_startBringup, Hub.ring_dropLink, Tab.get?_del_ne other.symm]
  · rw [Hub.ring_startBringup, Hub.ring_dropLink]

/-- The port's own link is not up after that, and nothing is left of its sync frames. -/
theorem Hub.relink_shows {p : Nat} (hp : p < 2) (s : Hub) :
    ((s.dropLink p).startBringup p).linkUp p = false ∧ ((s.dropLink p).startBringup p).sync p = {} ∧
      ((s.dropLink p).startBringup p).ring.own = s.ring.own := by
  refine ⟨?_, ?_, ?_⟩
  · have attempts : (Fld.TRK_PORT_STATUS_LINK p).key ≠ (Fld.TRK_PORT_STATUS_ATTEMPTS p).key := by simp only [trunkKeys]; omega
    have down := Hub.link_dropLink hp s
    rw [Hub.link] at down
    simp only [Hub.linkUp, Hub.link, Hub.startBringup, apply_ite (Hub.getf · (Fld.TRK_PORT_STATUS_LINK p)), Hub.getf_setPort,
      Hub.getf_setf_ne _ attempts, Hub.getf_setf_self, down]
    split <;> rfl
  · rw [Hub.sync, Hub.ring_startBringup, Hub.ring_dropLink, Tab.getD, Tab.get?_del_self, Option.getD_none]
  · rw [Hub.ring_startBringup, Hub.ring_dropLink]

/-! The alarm of a break (R105, R108, R109). -/

/-- What the hub's own alarm of a break at port `p` says: whether there is one, the hop, the tick and the epoch. -/
def Hub.alarmView (p : Nat) (s : Hub) : Bool × Nat × Nat × Nat := (s.hasAddr, s.hopAt p, s.tick, s.epochBefore s.tick)

theorem Hub.alarmView_setf {f : Fl} (role : f.key ≠ Fld.GEN_STRAPS_ROLE.key) (address : f.key ≠ Fld.GEN_HUB_ADDR_ADDR.key)
    (bank : f.key ≠ Fld.PLN_STATUS_ACTIVE_BANK.key) (pend : f.key ≠ Fld.PLN_STATUS_PEND_STATE.key)
    (epoch : f.key ≠ Fld.PLN_ACTIVE_EPOCH.key) (p v : Nat) (s : Hub) : (s.setf f v).alarmView p = s.alarmView p := by
  have isHead : (s.setf f v).isHead = s.isHead := by rw [Hub.isHead, s.getf_setf_ne role.symm, Hub.isHead]
  have addr : (s.setf f v).addr = s.addr := by rw [Hub.addr, isHead, s.getf_setf_ne address.symm, Hub.addr]
  have actBank : (s.setf f v).actBank = s.actBank := s.getf_setf_ne bank.symm v
  have pendState : (s.setf f v).pend = s.pend := s.getf_setf_ne pend.symm v
  have pendSec : (s.setf f v).pendSec = s.pendSec := by rw [Hub.pendSec, pendState, Hub.pendBank, actBank, Hub.setf_plan]; rfl
  have last : (s.setf f v).lastNode = s.lastNode := by rw [Hub.lastNode, actBank, pendSec, Hub.setf_plan, Hub.port_setf]; rfl
  have tick : (s.setf f v).tick = s.tick := by rw [Hub.tick, Hub.setf_now, Hub.tick]
  have epochBefore (d : Nat) : (s.setf f v).epochBefore d = s.epochBefore d := by
    rw [Hub.epochBefore, Hub.setf_plan, s.getf_setf_ne epoch.symm]
    rfl
  simp only [Hub.alarmView, Hub.hasAddr, Hub.hopAt, isHead, addr, last, tick, epochBefore]

theorem StoreFree.alarmView (p : Nat) : StoreFree (Hub.alarmView p) where
  cnts _ _ := rfl
  ev _ _ := rfl
  lastRaise _ _ := rfl
  fresh _ _ := rfl
  lineMem _ _ := rfl
  pool _ _ := rfl
  rel _ _ := rfl
  overrun s v := Hub.alarmView_setf (by decide) (by decide) (by decide) (by decide) (by decide) p v s
  genLow s v := Hub.alarmView_setf (by decide) (by decide) (by decide) (by decide) (by decide) p v s

/-- The own alarms of a hub that has declared a break at port `p`. -/
def Hub.ownAfter (p : Nat) (s : Hub) : List OwnAlarm :=
  if s.hasAddr then s.ring.own ++ [⟨otherPort p, p, s.hopAt p, s.tick, s.epochBefore s.tick, 0⟩] else s.ring.own

theorem Hub.ownAfter_congr {s t : Hub} {p : Nat} (view : t.alarmView p = s.alarmView p) (ring : t.ring = s.ring) :
    t.ownAfter p = s.ownAfter p := by
  simp only [Hub.alarmView, Prod.mk.injEq] at view
  obtain ⟨has, hop, tick, epoch⟩ := view
  simp only [Hub.ownAfter, has, hop, tick, ring] at epoch ⊢
  rw [epoch]

theorem Hub.queueAlarm_shows (p : Nat) (s : Hub) : (s.queueAlarm p).ring.own = s.ownAfter p ∧ (s.queueAlarm p).regs = s.regs := by
  unfold Hub.queueAlarm Hub.ownAfter
  split <;> exact ⟨rfl, rfl⟩

end Sys2Proof.Machine
end

section
/-! PROOFS. The commands of breaks and ring alarms (O30; R100, R104, R105, R108, R109). -/

namespace Sys2Proof.Machine

/-! BREAK_DECLARE (R104). -/

/-- The hub once a break at port `p` is declared: its BREAK bit is set, its alarm waits, and the link starts again. -/
def Hub.declared (p : Fin 2) (s : Hub) : Hub :=
  let s1 := (s.raise Evt.TRK_BREAK [p, s.tick]).setf (if p.val = 0 then Fld.TRK_RING_STATUS_BREAK_U else Fld.TRK_RING_STATUS_BREAK_D) 1
  ((s1.queueAlarm p).dropLink p).startBringup p

theorem Hub.declared_shows (p : Fin 2) (s : Hub) : (s.declared p).getf (breakBit p) = 1 ∧ (s.declared p).linkUp p = false ∧
    (s.declared p).sync p = {} ∧ (s.declared p).ring.own = s.ownAfter p := by
  unfold Hub.declared
  extract_lets s1
  obtain ⟨own, regs⟩ := s1.queueAlarm_shows p
  obtain ⟨down, sync, kept⟩ := (s1.queueAlarm p).relink_shows p.isLt
  have key := breakBit_key p
  have bit : s1.getf (breakBit p) = 1 := by
    have set : s1.getf (breakBit p) = 1 % 2 ^ (breakBit p).width := Hub.getf_setf_self _ (breakBit p) 1
    rw [set, breakBit]
    split <;> rfl
  have view : s1.alarmView p = s.alarmView p := by
    refine (Hub.alarmView_setf (f := breakBit p) ?_ ?_ ?_ ?_ ?_ p 1 _).trans ((StoreFree.alarmView p).raise ..) <;>
      simp only [Fld.GEN_STRAPS_ROLE, Fld.GEN_HUB_ADDR_ADDR, Fld.PLN_STATUS_ACTIVE_BANK, Fld.PLN_STATUS_PEND_STATE,
        Fld.PLN_ACTIVE_EPOCH] <;> omega
  have ring : s1.ring = s.ring := by rw [Hub.setf_ring, Hub.raise_ring]
  refine ⟨?_, down, sync, ?_⟩
  · rw [Hub.breakBit_relink, Hub.getf_congr regs, bit]
  · rw [kept, own, Hub.ownAfter_congr view ring]

/-- The hub after BREAK_DECLARE: one with an address learns of the break, and its time path is checked (R111, R189). -/
def Hub.breakTaken (p : Fin 2) (s : Hub) : Hub :=
  (if s.hasAddr then (s.declared p).learnBreak (s.hopAt p) s.tick s.addr true else s.declared p).pathCheck

/-- What the hub learns of the break, and the check of the time path, change nothing of what it shows of it. -/
theorem Hub.breakView_breakTaken (p : Fin 2) (s : Hub) : (s.breakTaken p).breakView p = (s.declared p).breakView p := by
  have free := BreakFree.breakView p.isLt
  obtain ⟨-, down, -, -⟩ := s.declared_shows p
  unfold Hub.breakTaken
  generalize s.declared p = t at down ⊢
  have learnt : (if s.hasAddr then t.learnBreak (s.hopAt p) s.tick s.addr true else t).breakView p = t.breakView p := by
    simp only [apply_ite (Hub.breakView p), free.learnBreak, ite_self]
  refine (free.pathCheck _ fun o u same up => ?_).trans learnt
  refine Hub.breakView_relink_other p.isLt (fun own => ?_) u
  have link : u.link p = t.link p := congrArg (fun v => v.2.1) (same.trans learnt)
  rw [own, Hub.linkUp, link] at up
  exact Bool.false_ne_true (down.symm.trans up)

theorem Hub.breakTaken_shows (p : Fin 2) (s : Hub) : (s.breakTaken p).getf (breakBit p) = 1 ∧ (s.breakTaken p).linkUp p = false ∧
    (s.breakTaken p).sync p = {} ∧ (s.breakTaken p).ring.own = s.ownAfter p := by
  have view := s.breakView_breakTaken p
  simp only [Hub.breakView, Prod.mk.injEq] at view
  obtain ⟨bit, link, sync, own⟩ := view
  rw [Hub.linkUp, bit, link, sync, own]
  exact s.declared_shows p

theorem runs_breakDeclare (p : Fin 2) (s : State) : Runs (.breakDeclare p) s (fun h =>
    if (s.hub.sync p).fails < 2 ∨ s.hub.linkUp p = false then h = s.hub
    else h.getf (breakBit p) = 1 ∧ h.linkUp p = false ∧ h.sync p = {} ∧ h.ring.own = s.hub.ownAfter p) := by
  by_cases stands : (s.hub.sync p).fails < 2 ∨ s.hub.linkUp p = false
  · refine runs_if rfl (stands.imp_right fun down => by rw [down]; rfl) ?_
    exact (if_pos stands).mpr rfl
  · refine runs_if_not (b := s.hub.breakTaken p) rfl (fun cond => stands (cond.imp_right (Bool.not_eq_true' _).mp)) ?_
    rw [if_neg stands]
    exact s.hub.breakTaken_shows p

/-! Own alarms sent (R108, R109). -/

theorem length_padTo (n : Nat) (bs : List Byte) : (padTo n bs).length = n := by
  simp only [padTo, zeros, List.length_append, List.length_take, List.length_replicate]
  omega

/-- The payload of an own alarm is its body and 8 bytes of tag. -/
theorem Hub.alarmCell_shows (a : OwnAlarm) (s : Hub) : ∃ kid cnt,
    (s.alarmCell a).1.bad = false ∧ (s.alarmCell a).1.pay.take 248 = alarmBody a s.addr kid cnt :=
  ⟨_, _, rfl, List.take_left' (length_padTo 248 _)⟩

theorem runs_ringAlarmSend (o : Fin 2) (s : State) : Runs (.ringAlarmSend o) s (fun h =>
    if (Tab.get? o.val s.hub.ring.alarmOut).isSome then h = s.hub
    else match s.hub.ring.own.find? (fun a => a.port == o.val) with
      | none => h = s.hub
      | some a => (∃ c kid cnt, Tab.get? o.val h.ring.alarmOut = some c ∧ c.bad = false ∧
          c.pay.take 248 = alarmBody a s.hub.addr kid cnt) ∧
        h.ring.own = if 2 ≤ a.copy then s.hub.ring.own.erase a
          else s.hub.ring.own.map (fun x => if x = a then { x with copy := x.copy + 1 } else x)) := by
  refine ⟨s.hub.sendAlarm o, rfl, ?_⟩
  beta_reduce
  by_cases staged : (Tab.get? o.val s.hub.ring.alarmOut).isSome = true
  · rw [if_pos staged]
    exact if_pos staged
  · rw [if_neg staged, Hub.sendAlarm, if_neg staged]
    cases s.hub.ring.own.find? (fun a => a.port == o.val) with
    | none => rfl
    | some a =>
      obtain ⟨kid, cnt, sound, body⟩ := s.hub.alarmCell_shows a
      exact ⟨⟨_, kid, cnt, Tab.get?_put_self .., sound, body⟩, rfl⟩

/-! Alarms received (R100, R108). -/

theorem Hub.cnt_raise {c : Nat} (apart : c ≠ Cnt.GEN_EVT_LOST) (e : EvDef) (xs : List Nat) (s : Hub) : (s.raise e xs).cnt c = s.cnt c := by
  have dropped : s.dropEvent.cnt c = s.cnt c := by
    simp only [Hub.dropEvent, apply_ite (fun t : Hub => t.cnt c)]
    split
    · exact s.cnt_count_ne apart 1
    · simp only [Hub.cnt, Hub.setf_cnts]
      exact s.cnt_count_ne apart 1
  unfold Hub.raise Hub.post
  split
  · rfl
  split
  · rfl
  · exact dropped

theorem Hub.cnt_raiseLimited {c : Nat} (apart : c ≠ Cnt.GEN_EVT_LOST) (e : EvDef) (i : Nat) (xs : List Nat) (s : Hub) :
    (s.raiseLimited e i xs).cnt c = s.cnt c := by
  have raised := s.cnt_raise apart e xs
  unfold Hub.raiseLimited
  dsimp only
  split
  · exact raised
  split
  · exact raised
  · rfl

/-- A cell taken of the alarms received. -/
def Hub.withoutAlarm (p : Nat) (s : Hub) : Hub := { s with ring := { s.ring with alarmIn := Tab.del p s.ring.alarmIn } }

/-- A cell whose tag fails is counted and no more (R100). -/
theorem Hub.acceptCell_badTag (p hdr : Nat) (pay : List Byte) {bad : Bool} (s : Hub) (fails : bad = true ∨ s.checkCell hdr pay = .badTag) :
    s.acceptCell p hdr pay bad =
      (false, (s.count (Cnt.TRK_CNT_AUTH_FAIL p) 1).raiseLimited Evt.TRK_MGMT_AUTH_FAIL p [p, hSrc hdr]) := by
  have outcome : (if bad then .badTag else s.checkCell hdr pay) = MgmtCheck.badTag := by
    rcases fails with rfl | tag
    · rfl
    · rw [tag, ite_self]
  rw [Hub.acceptCell, outcome]

theorem Hub.acceptCell_stale (p hdr : Nat) (pay : List Byte) (s : Hub) (stale : s.checkCell hdr pay = .stale) :
    s.acceptCell p hdr pay false = (false, s.count (Cnt.TRK_CNT_STALE p) 1) := by
  rw [Hub.acceptCell, if_neg Bool.false_ne_true, stale]

theorem Hub.acceptCell_accepted (p hdr : Nat) (pay : List Byte) (s : Hub) (accepted : s.checkCell hdr pay = .accepted) :
    s.acceptCell p hdr pay false = (true, s.noteAccepted p hdr pay) := by
  rw [Hub.acceptCell, if_neg Bool.false_ne_true, accepted]

theorem Hub.takeAlarm_alarmIn (p : Nat) (c : HopCell) (s : Hub) : (s.takeAlarm p c).ring.alarmIn = s.ring.alarmIn := by
  unfold Hub.takeAlarm
  extract_lets rep d b s1
  have learnt : s1.ring.alarmIn = s.ring.alarmIn := BreakFree.alarmIn.learnBreak b d rep false s
  split
  · exact learnt
  · exact learnt

/-- The head has the reporter and tick of an alarm it accepts among those it relays, from this one or from an earlier copy. -/
theorem Hub.relayed_takeAlarm (p : Nat) (c : HopCell) {s : Hub} (head : s.isHead = true) :
    (bits (beNat (slice c.pay 0 2)) 8 0, beNat (slice c.pay 8 8)) ∈ (s.takeAlarm p c).ring.relayed := by
  unfold Hub.takeAlarm
  extract_lets rep d b s1
  split
  · exact List.mem_append_right _ (List.mem_singleton_self _)
  next known =>
    have listed : s1.ring.relayed.contains (rep, d) = true := by simpa [head] using known
    exact List.contains_iff_mem.mp listed

/-- What RING_ALARM_RECEIVE does with the cell it takes. -/
def Hub.alarmReceived (p : Nat) (c : HopCell) (s : Hub) : Hub :=
  match (s.withoutAlarm p).acceptCell p c.hdr c.pay c.bad with
  | (true, t) => t.takeAlarm p c
  | (false, t) => t

theorem runs_ringAlarmReceive {p : Fin 2} {s : State} :
    (Tab.get? p.val s.hub.ring.alarmIn = none → exec (.ringAlarmReceive p) s = .next { s with hub := s.hub }) ∧
      ∀ c, Tab.get? p.val s.hub.ring.alarmIn = some c → exec (.ringAlarmReceive p) s = .next { s with hub := s.hub.alarmReceived p c } := by
  constructor
  · intro absent
    refine congrArg (fun h => Host.Outcome.next { s with hub := h }) ?_
    dsimp only
    rw [absent]
  · intro c held
    refine congrArg (fun h => Host.Outcome.next { s with hub := h }) ?_
    dsimp only
    rw [held]
    rfl

theorem Hub.alarmReceived_shows (p : Fin 2) (c : HopCell) (s : Hub) : let h := s.alarmReceived p c
    Tab.get? p.val h.ring.alarmIn = none ∧
      (c.bad = true ∨ s.checkCell c.hdr c.pay = .badTag → Counted s h (Cnt.TRK_CNT_AUTH_FAIL p) 1) ∧
      (c.bad = false → s.checkCell c.hdr c.pay = .stale → Counted s h (Cnt.TRK_CNT_STALE p) 1) ∧
      (c.bad = false → s.checkCell c.hdr c.pay = .accepted → s.isHead = true →
        (bits (beNat (slice c.pay 0 2)) 8 0, beNat (slice c.pay 8 8)) ∈ h.ring.relayed) := by
  have check : (s.withoutAlarm p).checkCell c.hdr c.pay = s.checkCell c.hdr c.pay := rfl
  have gone : Tab.get? p.val (s.withoutAlarm p).ring.alarmIn = none := Tab.get?_del_self ..
  have notLost : Cnt.TRK_CNT_AUTH_FAIL p ≠ Cnt.GEN_EVT_LOST := by simp only [Cnt.TRK_CNT_AUTH_FAIL, Cnt.GEN_EVT_LOST]; omega
  by_cases fails : c.bad = true ∨ s.checkCell c.hdr c.pay = .badTag
  · have is : s.alarmReceived p c =
        ((s.withoutAlarm p).count (Cnt.TRK_CNT_AUTH_FAIL p) 1).raiseLimited Evt.TRK_MGMT_AUTH_FAIL p [p, hSrc c.hdr] := by
      rw [Hub.alarmReceived, (s.withoutAlarm p).acceptCell_badTag p c.hdr c.pay fails]
    rw [is]
    refine ⟨?_, fun _ => ?_, fun good stale => ?_, fun good accepted => ?_⟩
    · rw [Hub.raiseLimited_ring, Hub.count_ring, gone]
    · rw [Counted, Hub.cnt_raiseLimited notLost, Hub.cnt_count_self _ _ one_ne_zero]
      rfl
    · simp [good, stale] at fails
    · simp [good, accepted] at fails
  obtain ⟨isGood, noBadTag⟩ := not_or.mp fails
  have isGood : c.bad = false := Bool.not_eq_true _ ▸ isGood
  cases outcome : s.checkCell c.hdr c.pay with
  | badTag => exact absurd outcome noBadTag
  | stale =>
    have is : s.alarmReceived p c = (s.withoutAlarm p).count (Cnt.TRK_CNT_STALE p) 1 := by
      rw [Hub.alarmReceived, isGood, (s.withoutAlarm p).acceptCell_stale p c.hdr c.pay outcome]
    rw [is]
    refine ⟨?_, ?_, fun _ _ => ?_, ?_⟩
    · rw [Hub.count_ring, gone]
    · simp [isGood]
    · exact (s.withoutAlarm p).cnt_count_self _ one_ne_zero
    · simp
  | accepted =>
    have is : s.alarmReceived p c = ((s.withoutAlarm p).noteAccepted p c.hdr c.pay).takeAlarm p c := by
      rw [Hub.alarmReceived, isGood, (s.withoutAlarm p).acceptCell_accepted p c.hdr c.pay outcome]
    rw [is]
    refine ⟨?_, ?_, ?_, fun _ _ head => ?_⟩
    · rw [Hub.takeAlarm_alarmIn]
      exact gone
    · simp [isGood]
    · simp
    · exact Hub.relayed_takeAlarm (s := (s.withoutAlarm p).noteAccepted p c.hdr c.pay) p c head

/-! Alarms the head relays (R108). -/

theorem runs_headAlarmRelay (o : Fin 2) (s : State) : Runs (.headAlarmRelay o) s (fun h =>
    if s.hub.isHead = false ∨ (Tab.get? o.val s.hub.ring.alarmOut).isSome = true then h = s.hub
    else match s.hub.ring.relays.find? (fun r => r.port == o.val && decide (r.taken < s.hub.tick)) with
      | none => h = s.hub
      | some r => Tab.get? o.val h.ring.alarmOut = some ⟨0, setHops r.hdr (hHops r.hdr - 1), r.pay, false⟩ ∧
        h.ring.relays = s.hub.ring.relays.erase r) := by
  by_cases head : s.hub.isHead = true
  · refine runs_if rfl head ?_
    by_cases staged : (Tab.get? o.val s.hub.ring.alarmOut).isSome = true
    · rw [if_pos (.inr staged)]
      exact if_pos staged
    · rw [if_neg (not_or.mpr ⟨ne_of_eq_of_ne head Bool.false_ne_true.symm, staged⟩), Hub.relayAlarm, if_neg staged]
      cases s.hub.ring.relays.find? (fun r => r.port == o.val && decide (r.taken < s.hub.tick)) with
      | none => rfl
      | some r => exact ⟨Tab.get?_put_self .., rfl⟩
  · refine runs_if_not rfl head ?_
    rw [if_pos (.inl (Bool.not_eq_true _ ▸ head))]

/-- Settles O30: a break declared shows at its port and in the hub's alarms whatever the hub then learns of it, an alarm is sent in its
copies, checked and counted when it comes, and relayed once by the head. -/
theorem breaksAndRingAlarms : Obligations.BreaksAndRingAlarms := by
  unfold Obligations.BreaksAndRingAlarms
  refine ⟨fun p s _ _ => ?_, runs_ringAlarmSend, fun p s absent => ⟨_, runs_ringAlarmReceive.1 absent, rfl⟩,
    fun p c s held => ⟨_, runs_ringAlarmReceive.2 c held, s.hub.alarmReceived_shows p c⟩, runs_headAlarmRelay, fun h => ?_⟩
  · obtain ⟨h, run, declared⟩ := runs_breakDeclare p s
    refine ⟨h, run, ?_⟩
    split
    next stands => rwa [if_pos stands] at declared
    next stands =>
      rw [if_neg stands] at declared
      obtain ⟨bit, rest⟩ := declared
      exact ⟨beq_iff_eq.mpr bit, rest⟩
  · refine ⟨if_pos rfl, fun node => ?_, fun head => ?_⟩
    · simp [Hub.hopAt, node]
    · simp [Hub.hopAt, head]

end Sys2Proof.Machine
end

section
/-! PROOFS. What messages sent, events raised, exits of domains started and activities swept leave as it was: the records of plans, of the
host port and of line time, and the fields by which plans are loaded and armed (R98 to R103, R140, R144, R407, R437); what completions leave
beyond the host port (R228, R231); and how a section becomes READY or FAILED (R139, R140). -/

namespace Sys2Proof.Machine

/-- The fields by which a section is loaded, compared and armed, with the hub's role, address and links. -/
def planFields : List Fl :=
  [Fld.GEN_STRAPS_ROLE, Fld.GEN_HUB_ADDR_ADDR, Fld.TRK_PORT_STATUS_LINK 0, Fld.TRK_PORT_STATUS_LINK 1, Fld.PLN_STATUS_PEND_STATE,
    Fld.PLN_STATUS_ACTIVE_BANK, Fld.PLN_STATUS_PEER_SKIP_U, Fld.PLN_STATUS_PEER_SKIP_D, Fld.PLN_PEND_EPOCH, Fld.PLN_ARM_TICK_LO,
    Fld.PLN_ARM_TICK_HI, Fld.PLN_FAIL_REASON, Fld.PLN_FAIL_RECORD]

/-- What messages, events, exits of domains and swept activities leave. -/
structure PlanView where
  plan : Plan
  host : Hif
  time : Time
  fields : List Nat

/-- Plans, the host port, line time, and the fields of plans. -/
def Hub.planView (s : Hub) : PlanView := ⟨s.plan, s.hif, s.time, planFields.map s.getf⟩

section
variable {s t : Hub} (same : t.planView = s.planView)
include same

theorem Hub.plan_of_view : t.plan = s.plan := congrArg PlanView.plan same

theorem Hub.hif_of_view : t.hif = s.hif := congrArg PlanView.host same

theorem Hub.time_of_view : t.time = s.time := congrArg PlanView.time same

theorem Hub.getf_of_view {f : Fl} (m : f ∈ planFields) : t.getf f = s.getf f :=
  List.map_inj_left.mp (congrArg PlanView.fields same) f m

theorem Hub.pend_of_view : t.pend = s.pend := Hub.getf_of_view same (by decide)

theorem Hub.isHead_of_view : t.isHead = s.isHead := by rw [Hub.isHead, Hub.getf_of_view same (by decide), Hub.isHead]

theorem Hub.addr_of_view : t.addr = s.addr := by
  rw [Hub.addr, Hub.isHead_of_view same, Hub.getf_of_view same (by decide), Hub.addr]

theorem Hub.pendBank_of_view : t.pendBank = s.pendBank := by
  rw [Hub.pendBank, Hub.actBank, Hub.getf_of_view same (by decide), Hub.pendBank, Hub.actBank]

theorem Hub.localLoads_of_view : t.localLoads = s.localLoads := by
  rw [Hub.localLoads, Hub.hif_of_view same, Hub.addr_of_view same, Hub.localLoads]

end

/-- The fields of plans lie below block CPL, and OVERRUN is none of them. -/
theorem planFields_place : ∀ g ∈ planFields, g.key < 32 * 0x040000 ∧ g.key ≠ Fld.GEN_EVT_STATUS_OVERRUN.key := by decide

theorem Hub.planView_setf {f : Fl} (apart : ∀ g ∈ planFields, g.key ≠ f.key) (v : Nat) (s : Hub) :
    (s.setf f v).planView = s.planView := by
  simp only [Hub.planView, Hub.setf_plan, Hub.setf_hif, Hub.setf_time]
  exact congrArg _ (List.map_congr_left fun g m => s.getf_setf_ne (apart g m) v)

theorem Hub.planView_setf_high {f : Fl} (high : 32 * 0x040000 ≤ f.key) (v : Nat) (s : Hub) : (s.setf f v).planView = s.planView :=
  Hub.planView_setf (fun g m => by have := (planFields_place g m).1; omega) v s

/-! Storing, messages and activities. -/

theorem StoreFree.planView : StoreFree Hub.planView where
  cnts _ _ := rfl
  ev _ _ := rfl
  lastRaise _ _ := rfl
  fresh _ _ := rfl
  lineMem _ _ := rfl
  pool _ _ := rfl
  rel _ _ := rfl
  overrun s v := Hub.planView_setf (fun g m => (planFields_place g m).2) v s
  genLow s v := Hub.planView_setf_high (by decide) v s

theorem MsgFree.planView : MsgFree Hub.planView where
  toStoreFree := .planView
  ring _ _ := rfl
  blk _ _ := rfl
  eccLog log s v := Hub.planView_setf_high (by
    cases log <;> simp only [Fld.REL_ECC_LOG_0_VALID, Fld.REL_ECC_LOG_0_UE, Fld.REL_ECC_LOG_0_MEM, Fld.REL_ECC_LOG_0_WORD,
      Fld.REL_ECC_LOG_1_SYNDROME, Fld.REL_ECC_LOG_1_HITS, Fld.REL_ECC_LOG_2_FIRST_TICK, Fld.REL_ECC_LOG_3_LAST_TICK] <;> omega) v s

theorem ChanFree.planView : ChanFree Hub.planView where
  toStoreFree := .planView
  lpw _ _ := rfl
  field chan s v := Hub.planView_setf_high (by
    cases chan <;> simp only [Fld.LPW_CH_STATUS_STATE, Fld.LPW_CH_STATUS_REGULATING, Fld.REL_MAINT_STAT_0_STATE,
      Fld.REL_MAINT_STAT_0_CAUSE] <;> omega) v s

theorem MsgFree.send {α : Type} {φ : Hub → α} (free : MsgFree φ) (dst type msgId : Nat) (body : List Byte) (s : Hub) :
    φ (s.send dst type msgId body) = φ s := by
  unfold Hub.send
  split
  · simp only [apply_ite φ, free.count, ite_self]
  · exact Hub.observed_foldl (fun t _ _ => (free.sendLocal ..).trans (free.ring t _)) s

theorem Hub.planView_sendPlanStatus (msgId reason : Nat) (s : Hub) : (s.sendPlanStatus msgId reason).planView = s.planView := by
  simp only [Hub.sendPlanStatus, apply_ite Hub.planView, MsgFree.planView.send, ite_self]

/-! Domains that start their exits (R144, R407). -/

/-- The fields an exit or an aborted entry of a domain writes lie past block CPL. -/
theorem exitKeys (d : Nat) : 32 * 0x040000 ≤ (Fld.PWR_DOM_STATUS_STATE d).key ∧ 32 * 0x040000 ≤ (Fld.PWR_DOM_STATUS_RETRIES d).key ∧
    32 * 0x040000 ≤ (Fld.PWR_DOM_STATUS_LAST_REFUSER d).key ∧ 32 * 0x040000 ≤ (Fld.PWR_DOM_MODE_ARMED d).key ∧
    32 * 0x040000 ≤ (Fld.PWR_REFUSE_COUNT d).key ∧ 32 * 0x040000 ≤ (Fld.PWR_REFUSE_LAST_ID d).key ∧
    32 * 0x040000 ≤ (Fld.PWR_REFUSE_LAST_STEP d).key ∧ 32 * 0x040000 ≤ (Fld.PWR_REFUSE_LAST_ABORT d).key := by
  simp only [Fld.PWR_DOM_STATUS_STATE, Fld.PWR_DOM_STATUS_RETRIES, Fld.PWR_DOM_STATUS_LAST_REFUSER, Fld.PWR_DOM_MODE_ARMED,
    Fld.PWR_REFUSE_COUNT, Fld.PWR_REFUSE_LAST_ID, Fld.PWR_REFUSE_LAST_STEP, Fld.PWR_REFUSE_LAST_ABORT]
  omega

theorem Hub.planView_setDom (d : Nat) (D : Dom) (s : Hub) : (s.setDom d D).planView = s.planView := rfl

theorem Hub.planView_accountRefusal (d k code : Nat) (abort : Bool) (s : Hub) : (s.accountRefusal d k code abort).planView = s.planView := by
  obtain ⟨-, -, refuser, -, count, id, step, flag⟩ := exitKeys d
  rw [Hub.accountRefusal, StoreFree.planView.count, Hub.planView_setf_high refuser, Hub.setb, Hub.planView_setf_high flag,
    Hub.planView_setf_high step, Hub.planView_setf_high id, Hub.planView_setf_high count]

theorem Hub.planView_abortArmed (d src : Nat) (s : Hub) : (s.abortArmed d src).planView = s.planView := by
  have one (a : Option Nat) (t : Hub) : Hub.planView (match a with
      | none => t
      | some k => t.accountRefusal d k (0x40 + src) true) = t.planView := by
    cases a with
    | none => rfl
    | some k => exact Hub.planView_accountRefusal ..
  obtain ⟨-, -, -, armed, -⟩ := exitKeys d
  rw [Hub.abortArmed, Hub.planView_setf_high armed]
  exact (one _ _).trans (one _ s)

theorem Hub.planView_startExit (d src : Nat) (s : Hub) : (s.startExit d src).planView = s.planView := by
  obtain ⟨state, retries, -⟩ := exitKeys d
  have crystal (x : Option Nat) : Hub.planView { s with pwr := { s.pwr with xtalFrom := x } } = s.planView := rfl
  simp only [Hub.startExit, Hub.planView_setf_high retries, Hub.planView_setf_high state, Hub.planView_setDom, apply_ite Hub.planView,
    crystal, ite_self]

theorem Hub.planView_leaveSteps (s : Hub) : s.leaveSteps.planView = s.planView := by
  refine Hub.observed_foldl (fun t d _ => ?_) s
  simp only [Hub.wakeDom, apply_ite Hub.planView, Hub.planView_startExit, Hub.planView_setDom, Hub.planView_abortArmed, ite_self]

/-! The fence of a claim (R174). -/

theorem Hub.planView_fenceCarve (new : Nat) (s : Hub) : (s.fenceCarve new).planView = s.planView := by
  simp only [Hub.fenceCarve, apply_ite Hub.planView, StoreFree.planView.poolWatch, StoreFree.planView.pool, ite_self]

/-! Completions (R222, R228, R231). -/

/-- Parts of the hub that no completion reaches: plans, line time, line memory, and the record of start-up and resets. -/
def Hub.pastHost (s : Hub) : Plan × Time × List Host.Cell × SecRec := (s.plan, s.time, s.lineMem, s.sec)

section
variable (s : Hub)

theorem Hub.pastHost_setf (f : Fl) (v : Nat) : (s.setf f v).pastHost = s.pastHost := by simp [Hub.pastHost]

theorem Hub.pastHost_count (c n : Nat) : (s.count c n).pastHost = s.pastHost := by simp [Hub.pastHost]

theorem Hub.pastHost_withHif (x : Hif) : ({ s with hif := x } : Hub).pastHost = s.pastHost := rfl

theorem Hub.pastHost_emit (o : Out) : (s.emit o).pastHost = s.pastHost := rfl

theorem Hub.pastHost_setJobs (w : Asker) (js : List Job) : (s.setJobs w js).pastHost = s.pastHost := by cases w <;> rfl

theorem Hub.pastHost_writeCq (q cookie : Nat) (c : Compl) : (s.writeCq q cookie c).pastHost = s.pastHost := by
  simp only [Hub.writeCq, Hub.writeEntry, apply_ite Hub.pastHost, Hub.pastHost_emit, Hub.pastHost_setf, Hub.setRing,
    Hub.pastHost_withHif, ite_self]

theorem Hub.pastHost_complete (w : Asker) (idx cookie : Nat) (nocomp : Bool) (c : Compl) :
    (s.complete w idx cookie nocomp c).pastHost = s.pastHost := by
  cases w <;> simp only [Hub.complete, apply_ite Hub.pastHost, Hub.pastHost_writeCq, Hub.pastHost_count, Hub.pastHost_withHif,
    Hub.pastHost_setJobs, ite_self]

theorem Hub.pastHost_endReq (id : Nat) : (s.endReq id).pastHost = s.pastHost := rfl

theorem Hub.pastHost_setReq (id : Nat) (q : Req) : (s.setReq id q).pastHost = s.pastHost := rfl

theorem Hub.pastHost_answer (id hub status result : Nat) : (s.answer id hub status result).pastHost = s.pastHost := by
  have closed (t : Hub) : (t.closeBcast id).pastHost = t.pastHost := by
    unfold Hub.closeBcast
    split
    · rfl
    · simp only [apply_ite Hub.pastHost, Hub.pastHost_complete, Hub.pastHost_endReq, ite_self]
  unfold Hub.answer Hub.answerData
  split
  · exact s.pastHost_count ..
  · simp only [apply_ite Hub.pastHost, closed, Hub.pastHost_setReq, Hub.pastHost_complete, Hub.pastHost_endReq, ite_self]

end

/-! A section that becomes READY or FAILED, and its report (R139, R140, R227). -/

/-- No PLAN_LOAD command of the head's own waits for its answer (R227). -/
def Hub.Reported (s : Hub) : Prop := s.isHead = true → s.localLoads = []

theorem Hub.reported_of_node {s : Hub} (node : s.isHead = false) : s.Reported := fun head => by rw [node] at head; contradiction

theorem Hub.Reported.of_view {s t : Hub} (quiet : s.Reported) (same : t.planView = s.planView) : t.Reported := fun head => by
  rw [Hub.isHead_of_view same] at head
  rw [Hub.localLoads_of_view same, quiet head]

theorem Hub.Reported.withPlan {s : Hub} (quiet : s.Reported) (x : Plan) : ({ s with plan := x } : Hub).Reported := quiet

theorem Hub.Reported.setf {s : Hub} (quiet : s.Reported) {f : Fl} (role : Fld.GEN_STRAPS_ROLE.key ≠ f.key)
    (address : Fld.GEN_HUB_ADDR_ADDR.key ≠ f.key) (v : Nat) : (s.setf f v).Reported := by
  have head : (s.setf f v).isHead = s.isHead := by rw [Hub.isHead, s.getf_setf_ne role, Hub.isHead]
  have addr : (s.setf f v).addr = s.addr := by rw [Hub.addr, head, s.getf_setf_ne address, Hub.addr]
  intro isHead
  rw [Hub.localLoads, addr, Hub.setf_hif, ← Hub.localLoads, quiet (head ▸ isHead)]

theorem Hub.Reported.setPend {s : Hub} (quiet : s.Reported) (st : Nat) : (s.setPend st).Reported := quiet.setf (by decide) (by decide) st

theorem Hub.Reported.setPlanFail {s : Hub} (quiet : s.Reported) (f : LoadFail) : (s.setPlanFail f).Reported :=
  ((quiet.setf (by decide) (by decide) _).setf (by decide) (by decide) _).setf (by decide) (by decide) _

theorem Hub.Reported.planView_reportPlan {s : Hub} (quiet : s.Reported) : s.reportPlan.planView = s.planView := by
  unfold Hub.reportPlan
  split
  next head => rw [quiet head]; rfl
  next => exact Hub.planView_sendPlanStatus ..

/-- A report leaves the plan's record, whoever waits for it. -/
theorem Hub.plan_reportPlan (s : Hub) : s.reportPlan.plan = s.plan := by
  unfold Hub.reportPlan
  split
  · exact Hub.observed_foldl (φ := Hub.plan) (fun t _ _ => congrArg Prod.fst (Hub.pastHost_answer ..)) s
  · exact Hub.plan_of_view (Hub.planView_sendPlanStatus ..)

theorem Hub.plan_setPend (st : Nat) (s : Hub) : (s.setPend st).plan = s.plan := s.setf_plan _ _

theorem Hub.plan_setPlanFail (f : LoadFail) (s : Hub) : (s.setPlanFail f).plan = s.plan := by simp only [Hub.setPlanFail, Hub.setf_plan]

theorem Hub.plan_planReady (s : Hub) : s.planReady.plan = { s.plan with ready := true } := by
  rw [Hub.planReady, Hub.plan_reportPlan, Hub.raise_plan, Hub.plan_setPend]

theorem Hub.plan_planFail (f : LoadFail) (s : Hub) : (s.planFail f).plan = { s.plan with invalid := f.code } := by
  rw [Hub.planFail, Hub.plan_reportPlan, Hub.raise_plan, Hub.plan_setPlanFail, Hub.plan_setPend]

theorem Hub.Reported.planView_raise_reportPlan {s : Hub} (quiet : s.Reported) (e : EvDef) (xs : List Nat) :
    (s.raise e xs).reportPlan.planView = s.planView := by
  have raised : (s.raise e xs).planView = s.planView := StoreFree.planView.raise e xs s
  exact (quiet.of_view raised).planView_reportPlan.trans raised

theorem Hub.Reported.planView_planReady {s : Hub} (quiet : s.Reported) :
    s.planReady.planView = (({ s with plan := { s.plan with ready := true } } : Hub).setPend psReady).planView :=
  ((quiet.withPlan _).setPend psReady).planView_raise_reportPlan _ _

theorem Hub.Reported.planView_planFail {s : Hub} (quiet : s.Reported) (f : LoadFail) : (s.planFail f).planView =
    ((({ s with plan := { s.plan with invalid := f.code } } : Hub).setPend psFailed).setPlanFail f).planView :=
  (((quiet.withPlan _).setPend psFailed).setPlanFail f).planView_raise_reportPlan _ _

theorem Hub.pend_setPend {st : Nat} (small : st < 2 ^ 4) (s : Hub) : (s.setPend st).pend = st :=
  (s.getf_setf_self _ st).trans (Nat.mod_eq_of_lt small)

theorem Hub.Reported.pend_planReady {s : Hub} (quiet : s.Reported) : s.planReady.pend = psReady :=
  (Hub.pend_of_view quiet.planView_planReady).trans (Hub.pend_setPend (by decide) _)

theorem Hub.Reported.planFail_shows {s : Hub} (quiet : s.Reported) (f : LoadFail) :
    (s.planFail f).pend = psFailed ∧ (s.planFail f).getf Fld.PLN_FAIL_REASON = f.code % 256 ∧
    (s.planFail f).getf Fld.PLN_FAIL_RECORD = f.record % 16 := by
  have view := quiet.planView_planFail f
  rw [Hub.pend_of_view view, Hub.getf_of_view view (by decide), Hub.getf_of_view view (by decide), Hub.setPlanFail]
  refine ⟨?_, ?_, ?_⟩
  · rw [Hub.pend, Hub.getf_setf_ne _ (by decide), Hub.getf_setf_ne _ (by decide), Hub.getf_setf_ne _ (by decide)]
    exact Hub.pend_setPend (by decide) _
  · rw [Hub.getf_setf_ne _ (by decide), Hub.getf_setf_ne _ (by decide)]
    exact Hub.getf_setf_self ..
  · rw [Hub.getf_setf_ne _ (by decide)]
    exact Hub.getf_setf_self ..

end Sys2Proof.Machine
end

section
/-! PROOFS. A node arms and disarms a plan (O24; R138, R140, R141). -/

namespace Sys2Proof.Machine

/-! Arming (R141). -/

theorem beNat_lt (bs : List Byte) : beNat bs < 256 ^ bs.length := by
  induction bs using List.reverseRecOn with
  | nil => decide
  | append_singleton bs b ih =>
    have digit : beNat [b] < 256 := by simpa [beNat] using b.isLt
    rw [beNat_append, List.length_append, List.length_singleton, pow_one, pow_succ]
    omega

theorem beNat_slice_lt (bs : List Byte) (o n : Nat) : beNat (slice bs o n) < 256 ^ n :=
  (beNat_lt _).trans_le (Nat.pow_le_pow_right (by decide) (by simp [slice]))

section
variable {s : Hub} {e x : Nat} {alone : Bool}

/-- An arm shows in the plan's record, in PEND_STATE and in PLN_ARM_TICK. -/
theorem Hub.arm_shows (st reason : Nat) (rejoin : Bool) : let h := s.arm st e x reason rejoin
    h.plan = { s.plan with armed := some ⟨e, x, rejoin, reason, s.tick⟩ } ∧ h.pend = st % 2 ^ 4 ∧
    h.getf Fld.PLN_ARM_TICK_LO = x % 2 ^ 32 % 2 ^ 32 ∧ h.getf Fld.PLN_ARM_TICK_HI = x / 2 ^ 32 % 2 ^ 32 := by
  intro h
  let armed : Hub := { s with plan := { s.plan with armed := some ⟨e, x, rejoin, reason, s.tick⟩ } }
  let shown := ((armed.setPend st).setf Fld.PLN_ARM_TICK_LO (x % 2 ^ 32)).setf Fld.PLN_ARM_TICK_HI (x / 2 ^ 32)
  have view : h.planView = shown.planView := by
    simp only [h, Hub.arm, apply_ite Hub.planView, ChanFree.planView.maintSweep, Hub.planView_fenceCarve, Hub.planView_leaveSteps, ite_self]
    rfl
  refine ⟨?_, ?_, ?_, ?_⟩
  · rw [Hub.plan_of_view view, Hub.setf_plan, Hub.setf_plan, Hub.setPend, Hub.setf_plan]
  · rw [Hub.pend_of_view view, Hub.pend, Hub.getf_setf_ne _ (by decide), Hub.getf_setf_ne _ (by decide)]
    exact Hub.getf_setf_self ..
  · rw [Hub.getf_of_view view (by decide), Hub.getf_setf_ne _ (by decide)]
    exact Hub.getf_setf_self ..
  · rw [Hub.getf_of_view view (by decide)]
    exact Hub.getf_setf_self ..

theorem Hub.takeArm_refused (old : e ≤ s.getf Fld.PLN_ACTIVE_EPOCH) (noRejoin : s.rejoins e alone = false) :
    (s.takeArm e x alone).2.planView = s.planView := by
  rw [Hub.takeArm, if_pos ⟨old, by rw [noRejoin]; rfl⟩]
  exact StoreFree.planView.raise ..

theorem Hub.takeArm_standing {a : Armed} (newer : s.getf Fld.PLN_ACTIVE_EPOCH < e) (standing : s.plan.armed = some a) :
    (s.takeArm e x alone).2.planView = s.planView := by
  rw [Hub.takeArm, if_neg fun old => absurd old.1 newer.not_ge, standing]
  simp only [apply_ite Prod.snd, apply_ite Hub.planView, StoreFree.planView.raise, ite_self]

/-- The rows of R141 for a newer epoch at a hub without an arm and without a break scheduled. -/
theorem Hub.takeArm_newer (newer : s.getf Fld.PLN_ACTIVE_EPOCH < e) (free : s.plan.armed = none)
    (whole : s.getf Fld.TRK_RING_STATUS_STATE ≠ 1) : (s.takeArm e x alone).2.planView =
      (if x ≤ s.tick then { s with plan := { s.plan with entryDue := some (3, e) } }
        else if x < s.tick + 64 then s.arm psArmedT e x 2 false
        else if s.pend = psReady ∧ s.getf Fld.PLN_PEND_EPOCH = e then s.arm psArmed e x 0 false
        else s.arm psArmedT e x 1 false).planView := by
  have fresh : (s.rejoins e alone && decide (e ≤ s.getf Fld.PLN_ACTIVE_EPOCH)) = false := by simp [newer]
  rw [Hub.takeArm, if_neg fun old => absurd old.1 newer.not_ge, free]
  dsimp only
  rw [if_neg fun late => whole (beq_iff_eq.mp late.1), fresh]
  simp only [apply_ite Prod.snd, apply_ite Hub.planView, StoreFree.planView.raise, Hub.planView_leaveSteps, ← not_and_or, ne_eq, ite_not]

end

/-! Disarming (R140). -/

/-- At a node a section that leaves ARMED or ARMED_T is READY, PEERING or FAILED, by what was found of it (R140). -/
theorem Hub.planUnarm_shows {s : Hub} (node : s.isHead = false) : s.planUnarm.plan.armed = none ∧
    s.planUnarm.pend = if s.secValid then (if s.plan.ready then psReady else psPeering) else psFailed := by
  unfold Hub.planUnarm
  extract_lets _ s1
  have quiet : s1.Reported := Hub.reported_of_node node
  split
  · split
    · exact ⟨congrArg Plan.armed s1.plan_planReady, quiet.pend_planReady⟩
    · exact ⟨congrArg Plan.armed (s1.plan_setPend psPeering), Hub.pend_setPend (by decide) s1⟩
  · exact ⟨congrArg Plan.armed (s1.plan_planFail _), (quiet.planFail_shows _).1⟩

theorem Hub.secValid_of_view {s t : Hub} (same : t.planView = s.planView) : t.secValid = s.secValid := by
  rw [Hub.secValid, Hub.pendBank_of_view same, Hub.plan_of_view same, Hub.secValid]

section
variable {s : Hub} {a : Armed} {e x : Nat} (standing : s.plan.armed = some a)
include standing

theorem Hub.takeDisarm_named (node : s.isHead = false) (named : a.epoch = e ∧ a.at' = x ∧ s.tick + 1 ≤ a.at') :
    (s.takeDisarm e x).2.plan.armed = none ∧
    (s.takeDisarm e x).2.pend = if s.secValid then (if s.plan.ready then psReady else psPeering) else psFailed := by
  obtain ⟨rfl, rfl, early⟩ := named
  have raised : (s.raise Evt.PLN_DISARMED [a.epoch, a.at']).planView = s.planView := StoreFree.planView.raise ..
  have is : (s.takeDisarm a.epoch a.at').2 = (s.raise Evt.PLN_DISARMED [a.epoch, a.at']).planUnarm := by
    simp only [Hub.takeDisarm, standing, early, and_self, if_true, Hub.disarm]
  rw [is, ← Hub.secValid_of_view raised, ← Hub.plan_of_view raised]
  exact Hub.planUnarm_shows ((Hub.isHead_of_view raised).trans node)

theorem Hub.takeDisarm_other (other : ¬(a.epoch = e ∧ a.at' = x ∧ s.tick + 1 ≤ a.at')) : (s.takeDisarm e x).2 = s := by
  rw [Hub.takeDisarm, standing]
  dsimp only
  rw [if_neg fun ⟨epoch, tick, early⟩ => other ⟨epoch, tick, tick ▸ early⟩]

end

/-! The messages (R138, R240). -/

section
variable {m : Msg} {t : Hub} {s : State} {Q : Hub → Prop}

theorem Hub.isHead_of_planMsg (forNode : t.planMsg m = true) : t.isHead = false := by
  rw [Hub.planMsg, Bool.and_eq_true, Bool.not_eq_true'] at forNode
  exact forNode.2

/-- PLAN_ARM from the head does what the arm does, and is acknowledged. -/
theorem runs_planArmMsg (got : s.hub.takeMsg 4 [mtPlanArm] = (some m, t)) (forNode : t.planMsg m = true)
    (q : ∀ h : Hub, h.planView = (t.takeArm (beNat (slice m.body 0 4)) (beNat (slice m.body 4 8)) (m.dst != 0x1FF)).2.planView → Q h) :
    Runs .planArmMsg s Q :=
  ⟨_, rfl, q _ (by simp only [got, forNode, if_true, MsgFree.planView.send])⟩

/-- PLAN_DISARM from the head does what the disarm does, and is acknowledged. -/
theorem runs_planDisarmMsg (got : s.hub.takeMsg 4 [mtPlanDisarm] = (some m, t)) (forNode : t.planMsg m = true)
    (q : ∀ h : Hub, h.planView = (t.takeDisarm (beNat (slice m.body 0 4)) (beNat (slice m.body 4 8))).2.planView → Q h) :
    Runs .planDisarmMsg s Q :=
  ⟨_, rfl, q _ (by simp only [got, forNode, if_true, MsgFree.planView.send])⟩

end

/-- Settles O24: a message's acknowledgement leaves the plan as the arm or the disarm left it, and these do what the rows of R141 and R140
say. -/
theorem planArmsAndDisarms : Obligations.PlanArmsAndDisarms := by
  unfold Obligations.PlanArmsAndDisarms
  refine ⟨fun m t s got forNode => ?_, fun m a t s got forNode standing => runs_planDisarmMsg got forNode fun h view => ?_⟩
  · intro e x
    refine runs_planArmMsg got forNode fun h view => ?_
    have wide : x < 2 ^ 64 := beNat_slice_lt m.body 4 8
    split
    next old =>
      intro noRejoin
      have same := view.trans (Hub.takeArm_refused old noRejoin)
      exact ⟨Hub.plan_of_view same, Hub.pend_of_view same⟩
    next newer =>
      split
      next a standing =>
        have same := view.trans (Hub.takeArm_standing (not_le.mp newer) standing)
        exact ⟨Hub.plan_of_view same, Hub.pend_of_view same⟩
      next free =>
        intro whole
        have does := view.trans (Hub.takeArm_newer (not_le.mp newer) free whole)
        have armed (st reason : Nat) := Hub.arm_shows (s := t) (e := e) (x := x) st reason false
        split_ifs at does ⊢
        · exact ⟨Hub.plan_of_view does, (Hub.pend_of_view does).trans rfl⟩
        · obtain ⟨plan, pend, -⟩ := armed psArmedT 2
          exact ⟨(Hub.pend_of_view does).trans pend, (Hub.plan_of_view does).trans plan⟩
        · obtain ⟨plan, pend, lo, hi⟩ := armed psArmed 0
          refine ⟨(Hub.pend_of_view does).trans pend, (Hub.plan_of_view does).trans plan, ?_⟩
          rw [Hub.getf_of_view does (by decide), Hub.getf_of_view does (by decide), lo, hi]
          omega
        · obtain ⟨plan, pend, -⟩ := armed psArmedT 1
          exact ⟨(Hub.pend_of_view does).trans pend, (Hub.plan_of_view does).trans plan⟩
  · rw [Hub.plan_of_view view, Hub.pend_of_view view]
    split
    next named => exact Hub.takeDisarm_named standing (Hub.isHead_of_planMsg forNode) named
    next other =>
      rw [Hub.takeDisarm_other standing other]
      exact ⟨rfl, rfl⟩

end Sys2Proof.Machine
end

section
/-! PROOFS. A message sent leaves the counters of every block below the trunk's, but for lost events (R103, R158 to R170, R438). -/

namespace Sys2Proof.Machine

/-- The counters below those of the trunk ports, but for the lost events. -/
def Hub.lowCnts (s : Hub) (c : Nat) : CntV := if c < 0x030000 ∧ c ≠ Cnt.GEN_EVT_LOST then s.cnt c else {}

theorem Hub.cnt_of_lowCnts {s t : Hub} (same : t.lowCnts = s.lowCnts) {c : Nat} (low : c < 0x030000) (kept : c ≠ Cnt.GEN_EVT_LOST) :
    t.cnt c = s.cnt c := by
  have at' := congrFun same c
  rwa [Hub.lowCnts, if_pos ⟨low, kept⟩, Hub.lowCnts, if_pos ⟨low, kept⟩] at at'

theorem Hub.lowCnts_congr {s t : Hub} (same : ∀ c < 0x030000, c ≠ Cnt.GEN_EVT_LOST → t.cnt c = s.cnt c) : t.lowCnts = s.lowCnts :=
  funext fun c => ite_congr rfl (fun ⟨low, kept⟩ => same c low kept) fun _ => rfl

/-! The cell pool (R158 to R170). -/

section
variable (q : Nat) (s : Hub)

theorem Hub.lowCnts_count {c : Nat} (high : 0x030000 ≤ c) (n : Nat) : (s.count c n).lowCnts = s.lowCnts :=
  Hub.lowCnts_congr fun d low _ => s.cnt_count_ne (by omega) n

/-- The counters a queue counts in lie past the trunk's. -/
theorem Hub.lowCnts_countPool {c : Nat} (pool : 0x040000 ≤ c) : (s.count c 1).lowCnts = s.lowCnts := s.lowCnts_count (by omega) 1

theorem Hub.lowCnts_countDrops : (s.count (Cnt.CPL_QSTAT_DROPS q) 1).lowCnts = s.lowCnts :=
  s.lowCnts_countPool (by unfold Cnt.CPL_QSTAT_DROPS; omega)

theorem Hub.lowCnts_raise (e : EvDef) (xs : List Nat) : (s.raise e xs).lowCnts = s.lowCnts :=
  Hub.lowCnts_congr fun _ _ kept => Hub.cnt_raise kept e xs s

theorem Hub.lowCnts_setQueue (Q : Queue) : (s.setQueue q Q).lowCnts = s.lowCnts := rfl

theorem Hub.lowCnts_withPool (x : Pool) : ({ s with pool := x } : Hub).lowCnts = s.lowCnts := rfl

theorem Hub.lowCnts_claimCheck : s.claimCheck.lowCnts = s.lowCnts := by
  unfold Hub.claimCheck
  split
  · rfl
  · simp only [apply_ite Hub.lowCnts, Hub.lowCnts_raise, Hub.lowCnts_withPool, ite_self]

theorem Hub.lowCnts_setOverrun : (s.setOverrun q).lowCnts = s.lowCnts := by
  simp only [Hub.setOverrun, apply_ite Hub.lowCnts, Hub.lowCnts_raise, Hub.lowCnts_setQueue, ite_self]

theorem Hub.lowCnts_refuseCell (c : PCell) (cause : Nat) : (s.refuseCell q c cause).lowCnts = s.lowCnts := by
  have control (t : Hub) : (t.count Cnt.CPL_CNT_CONTROL_DROP 1).lowCnts = t.lowCnts := t.lowCnts_countPool (by decide)
  have stream (t : Hub) : (t.count Cnt.CPL_CNT_STREAM_DROP 1).lowCnts = t.lowCnts := t.lowCnts_countPool (by decide)
  simp only [Hub.refuseCell, Hub.gapLoss, apply_ite Hub.lowCnts, Hub.lowCnts_countDrops, control, stream, Hub.lowCnts_setOverrun,
    Hub.lowCnts_setQueue, Hub.lowCnts_claimCheck, ite_self]

theorem Hub.lowCnts_poolWatch (was : Int) : (s.poolWatch was).lowCnts = s.lowCnts := by
  have limited (t : Hub) (e : EvDef) (i : Nat) (xs : List Nat) : (t.raiseLimited e i xs).lowCnts = t.lowCnts :=
    Hub.lowCnts_congr fun _ _ kept => Hub.cnt_raiseLimited kept e i xs t
  have mark (t : Hub) (f : Fl) (v : Nat) : (t.setf f v).lowCnts = t.lowCnts :=
    Hub.lowCnts_congr fun _ _ _ => by rw [Hub.cnt, Hub.setf_cnts, Hub.cnt]
  simp only [Hub.poolWatch, apply_ite Hub.lowCnts, limited, mark, ite_self]

theorem Hub.lowCnts_memStoreEcc (a : Nat) (bs : List Byte) : (s.memStoreEcc a bs).lowCnts = s.lowCnts := by
  refine (Hub.observed_foldl (φ := Hub.lowCnts) (fun t w _ => ?_) _).trans rfl
  split <;> rfl

end

theorem Hub.lowCnts_linkCell {q : Nat} {c : PCell} {s t : Hub} (linked : s.linkCell q c = some t) : t.lowCnts = s.lowCnts := by
  obtain ⟨⟨i, s1⟩, taken, rfl⟩ := Option.map_eq_some_iff.mp linked
  obtain ⟨_, _, same⟩ := Option.map_eq_some_iff.mp taken
  cases same
  rw [Hub.lowCnts_poolWatch, Hub.lowCnts_setQueue, Hub.lowCnts_memStoreEcc]
  rfl

section
variable (q : Nat) (c : PCell) (s : Hub)

theorem Hub.lowCnts_placeCell : (s.placeCell q c).lowCnts = s.lowCnts := by
  unfold Hub.placeCell
  split
  · exact Hub.lowCnts_refuseCell ..
  · exact (Hub.lowCnts_refuseCell ..).trans (s.lowCnts_countPool (by decide))
  · split
    next linked => exact Hub.lowCnts_linkCell linked
    next => exact (Hub.lowCnts_refuseCell ..).trans (s.lowCnts_countPool (by decide))

theorem Hub.lowCnts_storeMarker : (s.storeMarker q c).lowCnts = s.lowCnts := by
  unfold Hub.storeMarker
  dsimp only
  split
  · exact Hub.lowCnts_setQueue ..
  · exact (Hub.lowCnts_setQueue ..).trans (s.lowCnts_countPool (by decide))
  · split
    next => exact (Hub.lowCnts_setQueue ..).trans (s.lowCnts_countPool (by decide))
    next linked => exact (Hub.lowCnts_setQueue ..).trans (Hub.lowCnts_linkCell linked)

theorem Hub.lowCnts_writeMarker : (s.writeMarker q).lowCnts = s.lowCnts := by
  unfold Hub.writeMarker
  dsimp only
  split
  · rfl
  split
  · rfl
  · exact s.lowCnts_countPool (by decide)
  · split
    next => exact s.lowCnts_countPool (by decide)
    next linked => rw [Hub.lowCnts_countPool _ (by decide), Hub.lowCnts_setQueue, Hub.lowCnts_linkCell linked, Hub.lowCnts_setQueue]

theorem Hub.lowCnts_startCell : (s.startCell q c).lowCnts = s.lowCnts := by
  have control (t : Hub) : (t.count Cnt.CPL_CNT_CONTROL_DROP 1).lowCnts = t.lowCnts := t.lowCnts_countPool (by decide)
  simp only [Hub.startCell, apply_ite Hub.lowCnts, Hub.lowCnts_countDrops, control, Hub.lowCnts_setQueue, Hub.lowCnts_placeCell,
    Hub.lowCnts_storeMarker, Hub.lowCnts_writeMarker, ite_self]

theorem Hub.lowCnts_moreCell : (s.moreCell q c).lowCnts = s.lowCnts := by
  simp only [Hub.moreCell, apply_ite Hub.lowCnts, Hub.lowCnts_countPool _ (c := Cnt.CPL_CNT_OVERSIZE) (by decide), Hub.lowCnts_claimCheck,
    Hub.lowCnts_setQueue, Hub.lowCnts_placeCell, ite_self]

theorem Hub.lowCnts_frameCell : (s.frameCell q c).lowCnts = s.lowCnts := by
  have resync (t : Hub) : (t.count Cnt.CPL_CNT_RESYNC 1).lowCnts = t.lowCnts := t.lowCnts_countPool (by decide)
  unfold Hub.frameCell
  dsimp only
  split
  · simp only [Hub.lowCnts_startCell, apply_ite Hub.lowCnts, resync, Hub.lowCnts_claimCheck, Hub.lowCnts_setQueue, ite_self]
  split
  · rfl
  · simp only [apply_ite Hub.lowCnts, Hub.lowCnts_setQueue, ite_self]
  · simp only [apply_ite Hub.lowCnts, Hub.lowCnts_moreCell, resync, Hub.lowCnts_setQueue, ite_self]

theorem Hub.lowCnts_disabledCell : (s.disabledCell q c).lowCnts = s.lowCnts := by
  unfold Hub.disabledCell
  dsimp only
  split
  · exact Hub.lowCnts_countPool _ (by decide)
  split
  · exact s.lowCnts_countPool (by decide)
  · simp only [apply_ite Hub.lowCnts, Hub.lowCnts_setQueue, ite_self]
  · rfl

theorem Hub.lowCnts_produce (w : Who) : (s.produce q w c).lowCnts = s.lowCnts := by
  have unbound (t : Hub) : (t.count Cnt.CPL_CNT_BINDING 1).lowCnts = t.lowCnts := t.lowCnts_countPool (by decide)
  unfold Hub.produce
  split
  · exact Hub.lowCnts_disabledCell ..
  split
  · simp only [apply_ite Hub.lowCnts, Hub.lowCnts_frameCell, unbound, ite_self]
  split <;> simp only [apply_ite Hub.lowCnts, Hub.lowCnts_frameCell, unbound, Hub.lowCnts_setQueue, ite_self]

end

/-! Messages (R101 to R103). -/

theorem Hub.lowCnts_withRing (x : Ring) (s : Hub) : ({ s with ring := x } : Hub).lowCnts = s.lowCnts := rfl

theorem Hub.lowCnts_putCell (q hdr : Nat) (pay : List Byte) (port : Nat) (s : Hub) : (s.putCell q hdr pay port).2.lowCnts = s.lowCnts := by
  have stored := s.lowCnts_produce q { data := pay } ((fixedProd q).getD .fw)
  unfold Hub.putCell
  dsimp only
  split
  · split
    · exact (Hub.lowCnts_withRing ..).trans stored
    · exact stored
  · exact stored

theorem Hub.lowCnts_countMgmtDrop (p : Nat) (s : Hub) : (s.count (Cnt.TRK_CNT_MGMT_DROP p) 1).lowCnts = s.lowCnts :=
  s.lowCnts_count (by unfold Cnt.TRK_CNT_MGMT_DROP; omega) 1

theorem Hub.lowCnts_sendLocal (p hdr : Nat) (pay : List Byte) (s : Hub) : (s.sendLocal p hdr pay).lowCnts = s.lowCnts := by
  have put := s.lowCnts_putCell (localQ p) hdr pay p
  unfold Hub.sendLocal
  split
  · exact s.lowCnts_countMgmtDrop p
  split
  next taken => rwa [taken] at put
  next refused => rw [Hub.lowCnts_countMgmtDrop]; rwa [refused] at put

theorem Hub.lowCnts_send (dst type msgId : Nat) (body : List Byte) (s : Hub) : (s.send dst type msgId body).lowCnts = s.lowCnts := by
  unfold Hub.send
  split
  · simp only [apply_ite Hub.lowCnts, Hub.lowCnts_countMgmtDrop, ite_self]
  · exact Hub.observed_foldl (φ := Hub.lowCnts) (fun t _ _ => (Hub.lowCnts_sendLocal ..).trans (Hub.lowCnts_withRing ..)) s

theorem Hub.lowCnts_sendPlanStatus (msgId reason : Nat) (s : Hub) : (s.sendPlanStatus msgId reason).lowCnts = s.lowCnts := by
  simp only [Hub.sendPlanStatus, apply_ite Hub.lowCnts, Hub.lowCnts_send, ite_self]

end Sys2Proof.Machine
end

section
/-! PROOFS. A plan's section is loaded, checked and compared with the neighbours (O23; R134, R137 to R140). -/

namespace Sys2Proof.Machine

/-! Loading (R139). -/

section
variable (s : Hub)

theorem Hub.addFragment_shows (bs : List Byte) : let img := (s.plan.image ++ bs).take s.plan.total
    (s.addFragment bs).plan = { s.plan with image := img, fragAt := s.tick } ∧
    (s.addFragment bs).pend = (if img.length = s.plan.total then psChecking else s.pend) ∧
    (s.addFragment bs).getf Fld.PLN_PEND_EPOCH = s.getf Fld.PLN_PEND_EPOCH := by
  intro img
  let grown : Hub := { s with plan := { s.plan with image := img, fragAt := s.tick } }
  have is : s.addFragment bs =
      if img.length = s.plan.total then (grown.setPend psChecking).setf Fld.PLN_SECTION_CRC (crcOf img) else grown := rfl
  rw [is]
  split
  · refine ⟨by rw [Hub.setf_plan, Hub.plan_setPend], ?_, ?_⟩
    · exact (Hub.getf_setf_ne _ (by decide) _).trans (Hub.pend_setPend (by decide) _)
    · exact (Hub.getf_setf_ne _ (by decide) _).trans (Hub.getf_setf_ne _ (by decide) _)
  · exact ⟨rfl, rfl, rfl⟩

theorem Hub.startLoad_shows (e n : Nat) : (s.startLoad e n).plan.image = [] ∧ (s.startLoad e n).plan.total = n ∧
    (s.startLoad e n).pend = psLoading ∧ (s.startLoad e n).getf Fld.PLN_PEND_EPOCH = e % 2 ^ 32 := by
  have plan : (s.startLoad e n).plan = { s.planDiscard.plan with total := n, loadEpoch := e, fragAt := s.tick } := by
    simp only [Hub.startLoad, Hub.setf_plan, Hub.plan_setPend]
  refine ⟨congrArg Plan.image plan, congrArg Plan.total plan, ?_, ?_⟩
  · rw [Hub.pend, Hub.startLoad, Hub.getf_setf_ne _ (by decide), Hub.getf_setf_ne _ (by decide)]
    exact Hub.pend_setPend (by decide) _
  · rw [Hub.startLoad, Hub.getf_setf_ne _ (by decide)]
    exact Hub.getf_setf_self ..

/-- The first fragment of a new load, which holds no more bytes than the section has. -/
theorem Hub.firstFragment_shows {e n : Nat} {bs : List Byte} (wide : e < 2 ^ 32) (within : bs.length ≤ n) :
    let h := (s.startLoad e n).addFragment bs
    h.getf Fld.PLN_PEND_EPOCH = e ∧ h.plan.image = bs ∧ h.plan.total = n ∧
    h.pend = if bs.length = n then psChecking else psLoading := by
  obtain ⟨image, total, loading, epoch⟩ := s.startLoad_shows e n
  obtain ⟨plan, pend, kept⟩ := (s.startLoad e n).addFragment_shows bs
  rw [image, total, List.nil_append, List.take_of_length_le within] at plan pend
  rw [loading] at pend
  exact ⟨by rw [kept, epoch, Nat.mod_eq_of_lt wide], congrArg Plan.image plan, (congrArg Plan.total plan).trans total, pend⟩

theorem Hub.discardFragment_shows : s.discardFragment.plan.image = s.plan.image ∧ s.discardFragment.pend = s.pend ∧
    Counted s s.discardFragment Cnt.PLN_CNT_FRAG_DISCARD 1 := by
  have one : (s.count Cnt.PLN_CNT_FRAG_DISCARD 1).cnt Cnt.PLN_CNT_FRAG_DISCARD = (s.cnt Cnt.PLN_CNT_FRAG_DISCARD).add 1 :=
    s.cnt_count_self _ one_ne_zero
  unfold Hub.discardFragment
  dsimp only
  split
  · exact ⟨by rw [Hub.count_plan], s.getf_count .., one⟩
  · let told : Hub := { s.count Cnt.PLN_CNT_FRAG_DISCARD 1 with
      plan := { (s.count Cnt.PLN_CNT_FRAG_DISCARD 1).plan with fragTick := some s.tick } }
    have view : (told.sendPlanStatus 0 s.planReason).planView = told.planView := Hub.planView_sendPlanStatus ..
    have image := congrArg Plan.image (s.count_plan Cnt.PLN_CNT_FRAG_DISCARD 1)
    have counted : (told.sendPlanStatus 0 s.planReason).cnt Cnt.PLN_CNT_FRAG_DISCARD = told.cnt Cnt.PLN_CNT_FRAG_DISCARD :=
      Hub.cnt_of_lowCnts (Hub.lowCnts_sendPlanStatus ..) (by decide) (by decide)
    exact ⟨(congrArg Plan.image (Hub.plan_of_view view)).trans image, (Hub.pend_of_view view).trans (s.getf_count ..), counted.trans one⟩

end

/-! The local checks (R134, R140) and the comparison (R137). -/

theorem Hub.checkDone_failed {s : Hub} {f : LoadFail} (quiet : s.Reported) (checking : s.pend = psChecking)
    (fails : s.loadSec s.plan.image = .inr f) : s.checkDone.pend = psFailed ∧
    s.checkDone.getf Fld.PLN_FAIL_REASON = f.code % 256 ∧ s.checkDone.getf Fld.PLN_FAIL_RECORD = f.record % 16 ∧
    s.checkDone.plan.banks = s.plan.banks := by
  obtain ⟨pend, reason, record⟩ := quiet.planFail_shows f
  rw [Hub.checkDone, if_neg (not_not.mpr checking), fails]
  have banks := congrArg Plan.banks (s.plan_planFail f)
  exact ⟨pend, reason, record, banks⟩

theorem Hub.compareDigest_unheard {p : Nat} {s : Hub} (unheard : Tab.get? p s.plan.digests = none) : s.compareDigest p = s := by
  rw [Hub.compareDigest, unheard]
  cases s.pendSec <;> rfl

theorem Hub.linkUp_of_view {s t : Hub} (same : t.planView = s.planView) : t.linkUp 0 = s.linkUp 0 ∧ t.linkUp 1 = s.linkUp 1 := by
  simp only [Hub.linkUp, Hub.link]
  rw [Hub.getf_of_view same (by decide), Hub.getf_of_view same (by decide)]
  exact ⟨rfl, rfl⟩

/-- With nothing compared yet, the comparison is complete where no link is up. -/
theorem Hub.peerCheck_unmatched {s : Hub} (peering : s.pend = psPeering) (unmatched : s.plan.matched = [])
    (skipU : s.flag Fld.PLN_STATUS_PEER_SKIP_U = !s.linkUp 0) (skipD : s.flag Fld.PLN_STATUS_PEER_SKIP_D = !s.linkUp 1) :
    s.peerCheck = if s.linkUp 0 || s.linkUp 1 then s else s.planReady := by
  unfold Hub.peerCheck
  cases up0 : s.linkUp 0 <;> cases up1 : s.linkUp 1 <;> simp [peering, unmatched, skipU, skipD, up0, up1]

/-- The section stored in the pending bank, and the ports without a link skipped. -/
def Hub.stored (c : Sec) (s : Hub) : Hub :=
  ((({ s with plan := { s.plan with banks := Tab.put s.pendBank c s.plan.banks, checkAt := s.tick, invalid := 0, matched := [],
                                    pairsCopy := some (c.epoch, c.pairs), pendUnits := c.carve.getD (s.pool.carve / 256) } } : Hub).setPend
    psPeering).setb Fld.PLN_STATUS_PEER_SKIP_U (!s.linkUp 0)).setb Fld.PLN_STATUS_PEER_SKIP_D (!s.linkUp 1)

theorem Hub.stored_shows (c : Sec) (s : Hub) : (s.stored c).pend = psPeering ∧ (s.stored c).linkUp 0 = s.linkUp 0 ∧
    (s.stored c).linkUp 1 = s.linkUp 1 ∧ (s.stored c).flag Fld.PLN_STATUS_PEER_SKIP_U = !s.linkUp 0 ∧
    (s.stored c).flag Fld.PLN_STATUS_PEER_SKIP_D = !s.linkUp 1 ∧
    (s.stored c).plan = { s.plan with banks := Tab.put s.pendBank c s.plan.banks, checkAt := s.tick, invalid := 0, matched := [],
                                      pairsCopy := some (c.epoch, c.pairs), pendUnits := c.carve.getD (s.pool.carve / 256) } := by
  have field {f : Fl} (apart : f.key ≠ Fld.PLN_STATUS_PEND_STATE.key ∧ f.key ≠ Fld.PLN_STATUS_PEER_SKIP_U.key ∧
      f.key ≠ Fld.PLN_STATUS_PEER_SKIP_D.key) : (s.stored c).getf f = s.getf f := by
    obtain ⟨pend, skipU, skipD⟩ := apart
    rw [Hub.stored, Hub.getf_setb_ne _ skipD, Hub.getf_setb_ne _ skipU, Hub.setPend, Hub.getf_setf_ne _ pend]
    rfl
  refine ⟨?_, ?_, ?_, ?_, ?_, ?_⟩
  · rw [Hub.pend, Hub.stored, Hub.getf_setb_ne _ (by decide), Hub.getf_setb_ne _ (by decide)]
    exact Hub.pend_setPend (by decide) _
  · rw [Hub.linkUp, Hub.link, field (by decide), Hub.linkUp, Hub.link]
  · rw [Hub.linkUp, Hub.link, field (by decide), Hub.linkUp, Hub.link]
  · rw [Hub.flag, Hub.stored, Hub.getf_setb_ne _ (by decide)]
    exact Hub.flag_setb_self _ _ rfl
  · exact Hub.flag_setb_self _ _ rfl
  · simp only [Hub.stored, Hub.setb_plan, Hub.plan_setPend]

/-- Where no digest has come, the checks that pass store the section, tell the neighbours, and look at whether a comparison is awaited. -/
theorem Hub.checksPass_unheard {s : Hub} (c : Sec) (unheard : s.plan.digests = []) :
    ∃ u : Hub, u.planView = (s.stored c).planView ∧ s.checksPass c = u.peerCheck := by
  let cleared : Hub := ((s.stored c).spanEnd 5 (gateWords * s.pendBank) (gateWords * (s.pendBank + 1))).entryEnd 11 4 1536
  let u : Hub := [0, 1].foldl (fun t p => if t.linkUp p then t.sendDigest p else t) cleared
  have digest (t : Hub) (p : Nat) : (t.sendDigest p).planView = t.planView := by
    unfold Hub.sendDigest
    split
    · rfl
    · exact MsgFree.planView.sendHop ..
  have told : u.planView = cleared.planView :=
    Hub.observed_foldl (φ := Hub.planView) (fun t p _ => by simp only [apply_ite Hub.planView, digest, ite_self]) cleared
  have view : u.planView = (s.stored c).planView :=
    told.trans (Hub.observed_foldl (φ := Hub.planView) (fun t w _ => StoreFree.planView.eccEnd 11 w t) _)
  have none (p : Nat) : Tab.get? p u.plan.digests = none := by
    obtain ⟨-, -, -, -, -, plan⟩ := s.stored_shows c
    rw [Hub.plan_of_view view, plan, unheard]
    rfl
  refine ⟨u, view, ?_⟩
  have is : s.checksPass c = ([0, 1].foldl (fun t p => t.compareDigest p) u).peerCheck := rfl
  rw [is, List.foldl_cons, List.foldl_cons, List.foldl_nil, Hub.compareDigest_unheard (none 0), Hub.compareDigest_unheard (none 1)]

theorem Hub.checkDone_passed {s : Hub} {c : Sec} (quiet : s.Reported) (checking : s.pend = psChecking)
    (passes : s.loadSec s.plan.image = .inl c) (epoch : c.epoch = s.getf Fld.PLN_PEND_EPOCH) (unheard : s.plan.digests = []) :
    let h := s.checkDone
    Tab.get? s.pendBank h.plan.banks = some c ∧ h.plan.pairsCopy = some (c.epoch, c.pairs) ∧
    h.pend = (if s.linkUp 0 || s.linkUp 1 then psPeering else psReady) ∧
    h.flag Fld.PLN_STATUS_PEER_SKIP_U = !s.linkUp 0 ∧ h.flag Fld.PLN_STATUS_PEER_SKIP_D = !s.linkUp 1 := by
  obtain ⟨u, view, does⟩ := Hub.checksPass_unheard c unheard
  obtain ⟨peering, up0, up1, skipU, skipD, plan⟩ := s.stored_shows c
  obtain ⟨same0, same1⟩ := Hub.linkUp_of_view view
  have field {f : Fl} (m : f ∈ planFields) : u.flag f = (s.stored c).flag f := by rw [Hub.flag, Hub.getf_of_view view m, Hub.flag]
  have quiet' : u.Reported :=
    (((quiet.withPlan _).setPend psPeering).setf (by decide) (by decide) _ |>.setf (by decide) (by decide) _).of_view view
  rw [← Hub.plan_of_view view] at plan
  rw [← Hub.pend_of_view view] at peering
  rw [← same0] at up0
  rw [← same1] at up1
  rw [← field (by decide)] at skipU skipD
  have is : s.checkDone = if u.linkUp 0 || u.linkUp 1 then u else u.planReady := by
    rw [Hub.checkDone, if_neg (not_not.mpr checking), passes]
    dsimp only
    rw [if_pos epoch, does]
    exact Hub.peerCheck_unmatched peering (by rw [plan]) (by rw [skipU, up0]) (by rw [skipD, up1])
  rw [is, up0, up1]
  have stored : Tab.get? s.pendBank u.plan.banks = some c ∧ u.plan.pairsCopy = some (c.epoch, c.pairs) := by
    rw [plan]
    exact ⟨Tab.get?_put_self .., rfl⟩
  obtain ⟨banks, pairs⟩ := stored
  split
  · exact ⟨banks, pairs, peering, skipU, skipD⟩
  · have ready := quiet'.planView_planReady
    have kept {f : Fl} (m : f ∈ planFields) (apart : f.key ≠ Fld.PLN_STATUS_PEND_STATE.key) : u.planReady.flag f = u.flag f := by
      rw [Hub.flag, Hub.getf_of_view ready m, Hub.setPend, Hub.getf_setf_ne _ apart]
      rfl
    refine ⟨?_, ?_, quiet'.pend_planReady, ?_, ?_⟩
    · rw [u.plan_planReady]
      exact banks
    · rw [u.plan_planReady]
      exact pairs
    · rw [kept (by decide) (by decide), skipU]
    · rw [kept (by decide) (by decide), skipD]

/-! A neighbour's digests (R137, R147). -/

/-- What a comparison leaves: the digests received, and the sections held. -/
def Hub.heard (s : Hub) : Tab (List Byte) × Tab Sec := (s.plan.digests, s.plan.banks)

theorem Hub.heard_of_view {s t : Hub} (same : t.planView = s.planView) : t.heard = s.heard := by
  rw [Hub.heard, Hub.plan_of_view same, Hub.heard]

section
variable (s : Hub)

theorem Hub.heard_planFail (f : LoadFail) : (s.planFail f).heard = s.heard := by
  rw [Hub.heard, Hub.plan_planFail]
  rfl

theorem Hub.heard_planReady : s.planReady.heard = s.heard := by
  rw [Hub.heard, Hub.plan_planReady]
  rfl

theorem Hub.heard_digestFail (i : Nat) : (s.digestFail i).heard = s.heard := by
  unfold Hub.digestFail
  dsimp only
  split
  · exact s.heard_planFail _
  split
  · split
    · rfl
    · have steps (t : Hub) : t.liftFence.leaveSteps.heard = t.heard := Hub.heard_of_view (Hub.planView_leaveSteps _)
      have sent (t : Hub) (body : List Byte) : (t.send 0 mtPlanArmAck 0 body).heard = t.heard :=
        Hub.heard_of_view (MsgFree.planView.send ..)
      simp only [apply_ite Hub.heard, sent, steps, ite_self]
      rw [Hub.heard, Hub.plan_setPend, Hub.plan_setPlanFail]
      rfl
  · rfl

theorem Hub.heard_compareDigest (p : Nat) : (s.compareDigest p).heard = s.heard := by
  have checked (t : Hub) : t.peerCheck.heard = t.heard := by
    simp only [Hub.peerCheck, apply_ite Hub.heard, Hub.heard_planReady, ite_self]
  unfold Hub.compareDigest
  split
  · split
    · rfl
    split
    · exact s.heard_digestFail _
    · exact checked _
  · rfl

theorem Hub.heard_answerDigest (p : Nat) (body : List Byte) : (s.answerDigest p body).heard = s.heard := by
  have sent (t : Hub) (b : List Byte) : (t.sendHop p mtHopDigest b).heard = t.heard := Hub.heard_of_view (MsgFree.planView.sendHop ..)
  unfold Hub.answerDigest
  dsimp only
  split
  · rfl
  · simp only [apply_ite Hub.heard, sent, ite_self]

end

/-! The commands. -/

section
variable {m : Msg} {t : Hub} {s : State} {Q : Hub → Prop}

theorem runs_planLoadFragment (got : s.hub.takeMsg 4 [mtPlanLoad] = (some m, t)) (forNode : t.planMsg m = true)
    (q : let n := beNat (slice m.body 8 4)
      let o := beNat (slice m.body 4 4)
      Q (t.takeFragment (beNat (slice m.body 0 4)) o n (slice m.body 12 (min 220 (n - o))))) : Runs .planLoadFragment s Q :=
  runs_of_eq rfl (by simp only [got, forNode, if_true]) q

theorem runs_hopDigestReceive (got : s.hub.takeMsg 4 [mtHopDigest] = (some m, t))
    (q : ∀ h : Hub, h.heard = (Tab.put m.port m.body t.plan.digests, t.plan.banks) → Q h) : Runs .hopDigestReceive s Q :=
  ⟨_, rfl, q _ (by simp only [got, Hub.heard_answerDigest, Hub.heard_compareDigest]; rfl)⟩

theorem runs_planQueryMsg (got : s.hub.takeMsg 4 [mtPlanQuery] = (some m, t)) (forNode : t.planMsg m = true) :
    Runs .planQueryMsg s (fun h => h = t.send 0 0x12 m.msgId (t.planStatusBody t.planReason)) := by
  refine ⟨_, rfl, ?_⟩
  simp only [got, forNode, if_true, Hub.sendPlanStatus, Hub.isHead_of_planMsg forNode, Bool.false_eq_true, if_false]
  rfl

end

/-- Settles O23: a fragment starts a load, joins it or is discarded, by the rows of R139; the checks' end fails the section or stores it and
asks whether a comparison is awaited; a digest is kept whatever its comparison finds; and either timeout fails the section. -/
theorem planSectionsLoadAndPeer : Obligations.PlanSectionsLoadAndPeer := by
  unfold Obligations.PlanSectionsLoadAndPeer
  refine ⟨fun m t s got forNode => runs_planLoadFragment got forNode ?_,
    fun f s quiet checking fails => ⟨_, rfl, Hub.checkDone_failed quiet checking fails⟩,
    fun c s quiet checking passes epoch unheard => ⟨_, rfl, Hub.checkDone_passed quiet checking passes epoch unheard⟩,
    fun m t s got => runs_hopDigestReceive got fun h heard => ?_,
    fun s quiet loading late => ?_, fun s quiet peering late => ?_, fun m t s => runs_planQueryMsg⟩
  · intro n o e o' n' d
    have wide : e < 2 ^ 32 := beNat_slice_lt m.body 0 4
    have within : d.length ≤ n - o := (List.length_take_le _ _).trans (min_le_right _ _)
    have is : t.takeFragment e o n d = if t.pend = psArmed ∨ t.pend = psArmedT ∨ t.pend = psHeld then t.sendPlanStatus 0 0
        else if o = 0 ∧ t.startsLoad e then (t.startLoad e n).addFragment d
        else if t.pend = psLoading ∧ e = t.plan.loadEpoch ∧ o = t.plan.image.length ∧ n = t.plan.total then t.addFragment d
        else t.discardFragment := rfl
    rw [is]
    split
    · rfl
    split
    next => exact t.firstFragment_shows wide (within.trans (Nat.sub_le n o))
    split
    next goesOn =>
      obtain ⟨loading, -, -, total⟩ := goesOn
      obtain ⟨plan, pend, -⟩ := t.addFragment_shows d
      rw [← total] at plan pend
      rw [plan, pend, loading]
      exact ⟨rfl, rfl, rfl⟩
    next => exact t.discardFragment_shows
  · exact ⟨by rw [show h.plan.digests = _ from congrArg Prod.fst heard, Tab.get?_put_self], congrArg Prod.snd heard⟩
  · obtain ⟨pend, reason, -⟩ := Hub.Reported.planFail_shows quiet ⟨0x13, 0, 0⟩
    exact runs_if rfl ⟨loading, late⟩ ⟨pend, reason⟩
  · obtain ⟨pend, reason, -⟩ := Hub.Reported.planFail_shows quiet ⟨0x12, 0, 0⟩
    exact runs_if rfl ⟨peering, late⟩ ⟨pend, reason⟩

end Sys2Proof.Machine
end

section
/-! PROOFS. Management commands at the hub that takes them: their jobs' ends, requests opened, and what each command does (O20; R138 to R141,
R197, R203, R227, R228, R241, R242, R445). -/

namespace Sys2Proof.Machine

/-! Taking a command up, and ending its job (R226 to R228). -/

theorem Hub.Takes.startCmd {s : Hub} {w : Asker} {op : Nat} {j : Job} (takes : s.Takes w op j) {allowed : Bool} {formed may : Desc → Bool}
    (gives : allowed = true) (good : formed j.d = true) (goes : may j.d = true) : s.startCmd op w allowed formed may = (some j, s) := by
  rw [Hub.startCmd, takes.next]
  dsimp only
  simp only [takes.first, takes.room, gives, good, goes, Bool.or_false, Bool.not_true, Bool.false_eq_true, if_false]

section
variable (s : Hub) (w : Asker)

theorem Hub.jobsOf_setJobs (js : List Job) : (s.setJobs w js).jobsOf w = js := by
  cases w with
  | ring r => simp [Hub.setJobs, Hub.jobsOf, Hub.setRing, Hub.hring, Tab.getD]
  | gadget => rfl

theorem Hub.jobsOf_of_hif {s t : Hub} (same : t.hif = s.hif) : t.jobsOf w = s.jobsOf w := by
  simp only [Hub.jobsOf, Hub.hring, same]

theorem Hub.jobsOf_writeCq (q cookie : Nat) (c : Compl) : (s.writeCq q cookie c).jobsOf w = s.jobsOf w := by
  have entry (lo hi : Nat) : (s.writeEntry q lo hi).jobsOf w = s.jobsOf w := by
    refine (Hub.jobsOf_of_hif w (Hub.setf_hif ..)).trans ?_
    cases w with
    | ring r =>
      by_cases own : r = q
      · subst own
        simp [Hub.jobsOf, Hub.setRing, Hub.hring, Tab.getD]
      · simp [Hub.jobsOf, Hub.setRing, Hub.hring, Tab.getD, Tab.get?_put_ne own]
    | gadget => rfl
  simp only [Hub.writeCq, apply_ite (fun t : Hub => t.jobsOf w), entry, ite_self]

/-- A final completion ends its job. -/
theorem Hub.ended_complete (idx cookie : Nat) (nocomp : Bool) {c : Compl} (final : c.final = true) :
    (s.complete w idx cookie nocomp c).Ended w idx := by
  have jobs : (s.complete w idx cookie nocomp c).jobsOf w = (s.jobsOf w).filter (fun x => x.idx != idx) := by
    have taken := s.jobsOf_setJobs w ((s.jobsOf w).filter (fun x => x.idx != idx))
    unfold Hub.complete
    rw [if_pos final]
    dsimp only
    split
    · exact taken
    cases w with
    | ring r =>
      simp only [final, Bool.true_or, if_true]
      exact (Hub.jobsOf_writeCq ..).trans taken
    | gadget =>
      dsimp only
      split <;> exact taken
  intro x m
  rw [jobs, List.mem_filter] at m
  exact bne_iff_ne.mp m.2

theorem Hub.ended_finish (j : Job) (hub status result : Nat) : (s.finish w j hub status result).Ended w j.idx :=
  s.ended_complete w _ _ _ rfl

theorem Hub.ended_finishLive (j : Job) (hub status result : Nat) : (s.finishLive w j hub status result).Ended w j.idx := by
  unfold Hub.finishLive
  split
  next => exact s.ended_finish w j hub status result
  next gone => exact fun x m same => gone (List.any_eq_true.mpr ⟨x, m, beq_iff_eq.mpr same⟩)

theorem Hub.pastHost_finish (j : Job) (hub status result : Nat) : (s.finish w j hub status result).pastHost = s.pastHost :=
  s.pastHost_complete ..

/-- A completion takes nothing back of what the hub has sent. -/
theorem Hub.out_subset_complete (idx cookie : Nat) (nocomp : Bool) (c : Compl) : s.out ⊆ (s.complete w idx cookie nocomp c).out := by
  have jobs (js : List Job) : (s.setJobs w js).out = s.out := by cases w <;> rfl
  have written (t : Hub) (q : Nat) : t.out ⊆ (t.writeCq q cookie c).out := by
    unfold Hub.writeCq
    split
    · refine fun o m => List.mem_cons_of_mem _ ?_
      rwa [Hub.setf_out]
    · exact List.Subset.refl _
  unfold Hub.complete
  extract_lets s1
  have taken : s1.out = s.out := by simp only [s1, apply_ite Hub.out, jobs, ite_self]
  rw [← taken]
  split
  · exact List.Subset.refl _
  cases w with
  | ring r =>
    dsimp only
    split
    · exact written ..
    · rw [Hub.count_out]
      exact List.Subset.refl _
  | gadget =>
    dsimp only
    split <;> exact List.Subset.refl _

/-! Requests opened (R242). -/

/-- The request opened for a job. -/
theorem Hub.req_openReq (j : Job) (left : Nat) (own : Bool) : (s.openReq w j left own).2.req (s.openReq w j left own).1 =
    some { who := w, idx := j.idx, d := j.d, hub := j.d.qt, t0 := j.t0, left := left,
           expect := if j.d.qt = 0x1FF then s.recentSrcs ++ (if own then [s.addr] else []) else [] } :=
  Tab.get?_put_self ..

theorem Hub.time_openReq (j : Job) (left : Nat) (own : Bool) : (s.openReq w j left own).2.time = s.time :=
  congrArg (fun x => x.2.1) (s.pastHost_setJobs w _)

end

/-! Registers (R227, R241). -/

theorem length_wordsLe (n : Nat) (b : List Byte) : (wordsLe n b).length = n := by
  induction n generalizing b with
  | zero => rfl
  | succ n ih => rw [wordsLe, List.length_cons, ih]

section
variable {w : Asker} {b : List Byte} {j : Job} {s : State}

/-- Words read go to the asker's buffer, and the read's job ends. -/
theorem runs_regRead_own (ok : Bool) (takes : s.hub.Takes w 0x40 j) (good : regReadOk j.d = true)
    (may : s.hub.mayReach w s.hub.unlocked j.d.qt false = true) (own : s.hub.isOwn j.d.qt = true) : Runs (.regRead w ok) s (fun h =>
      h.Ended w j.idx ∧ (w ≠ .gadget → j.d.inline = false → ok = true →
        Out.hostWrite j.d.addr ((s.hub.readWords (j.d.len / 4) j.d.param).1.flatMap (leBytes 4)) ∈ h.out)) := by
  let r := s.hub.readWords (j.d.len / 4) j.d.param
  let bytes := r.1.flatMap (leBytes 4)
  let back := r.2.readBack w j.idx j.d stOk bytes ok
  let c : Compl := { ring := askerRing w, hub := s.hub.addr, status := back.1, result := if back.1 = stOk then r.1.headD 0 else 0,
                     data := if back.1 = stOk then bytes else [] }
  refine runs_of_eq (h := back.2.complete w j.idx j.d.cookie (bit j.d.flags 0) c) rfl
    (by dsimp only; rw [takes.startCmd rfl good may]; exact if_pos own) ⟨Hub.ended_complete _ w _ _ _ rfl, fun ring notInline wrote => ?_⟩
  refine Hub.out_subset_complete _ w _ _ _ _ ?_
  have given : back.2 = r.2.emit (.hostWrite j.d.addr bytes) := by
    cases w with
    | ring n => simp [back, Hub.readBack, notInline, wrote]
    | gadget => contradiction
  rw [given]
  exact List.mem_cons_self

theorem cmdBytes_some (w : Asker) (j : Job) (b : List Byte) : ∃ d, cmdBytes w j (some b) = some d ∧
    (w ≠ .gadget → j.d.inline = false → d = padTo j.d.len b) := by
  unfold cmdBytes
  split
  next given => exact ⟨_, rfl, fun _ notInline => by simp [given] at notInline⟩
  next =>
    cases w with
    | ring n => exact ⟨_, rfl, fun _ _ => rfl⟩
    | gadget => exact ⟨_, rfl, fun ring => absurd rfl ring⟩

theorem runs_regWrite_own (takes : s.hub.Takes w 0x41 j) (good : regWriteOk j.d = true)
    (may : s.hub.mayReach w s.hub.unlocked j.d.qt true = true) (own : s.hub.isOwn j.d.qt = true) :
    Runs (.regWrite w (some b)) s (fun h => ∃ vals, vals.length = j.d.len / 4 ∧ h.Ended w j.idx ∧
      (w ≠ .gadget → j.d.inline = false → vals = wordsLe (j.d.len / 4) (padTo j.d.len b)) ∧
      h.lineMem = (s.hub.writeWords vals j.d.param 0 none).2.lineMem ∧ h.time = (s.hub.writeWords vals j.d.param 0 none).2.time) := by
  obtain ⟨d, given, padded⟩ := cmdBytes_some w j b
  let vals := wordsLe (j.d.len / 4) d
  let r := s.hub.writeWords vals j.d.param 0 none
  let st := writeStatus vals.length r.1
  refine runs_of_eq (h := r.2.finishLive w j s.hub.addr st.1 st.2) rfl
    (by dsimp only; rw [takes.startCmd rfl good may]; dsimp only; rw [given]; exact if_pos own)
    ⟨vals, length_wordsLe .., Hub.ended_finishLive _ w j _ _ _, fun ring notInline => by rw [← padded ring notInline], ?_⟩
  have past : (r.2.finishLive w j s.hub.addr st.1 st.2).pastHost = r.2.pastHost := by
    simp only [Hub.finishLive, apply_ite Hub.pastHost, Hub.pastHost_finish, ite_self]
  exact ⟨congrArg (fun x => x.2.2.1) past, congrArg (fun x => x.2.1) past⟩

theorem Hub.asked_openReq {t : Hub} {left : Nat} {own : Bool} (same : t.hif = (s.hub.openReq w j left own).2.hif) : t.Asked w j :=
  ⟨_, _, by rw [Hub.req, same]; exact s.hub.req_openReq w j left own, rfl, rfl, rfl, rfl, rfl, rfl⟩

theorem runs_regWriteHop (takes : s.hub.Takes w 0x42 j) (host : s.hub.headHost w = true) (good : regHopOk j.d = true) :
    Runs (.regWriteHop w) s (fun h => if s.hub.linkUp 1 then h.Asked w j else h = s.hub.finish w j 0x1FF stNoRoute 0) := by
  cases up : s.hub.linkUp 1 with
  | false =>
    exact runs_of_eq (h := s.hub.finish w j 0x1FF stNoRoute 0) rfl
      (by dsimp only; rw [takes.startCmd host good rfl]; dsimp only; rw [up]; rfl) rfl
  | true =>
    let r := s.hub.openReq w j 1 false
    let c := r.2.mgmtCell tnMgmt 0x1FF 0x05 255 r.1 (beBytes 2 j.d.qt ++ zeros 2 ++ beBytes 4 j.d.param ++ beBytes 4 j.d.addr)
    refine runs_of_eq (h := c.2.2.sendLocal 1 c.1 c.2.1) rfl
      (by dsimp only; rw [takes.startCmd host good rfl]; dsimp only; rw [up]; rfl) ?_
    have view : (c.2.2.sendLocal 1 c.1 c.2.1).planView = r.2.planView := (MsgFree.planView.sendLocal ..).trans rfl
    exact Hub.asked_openReq (Hub.hif_of_view view)

theorem runs_ping_own (takes : s.hub.Takes w 0x43 j) (good : pingOk j.d = true) (own : s.hub.isOwn j.d.qt = true)
    (may : s.hub.mayReach w s.hub.unlocked j.d.qt false = true) :
    Runs (.ping w) s (fun h => h = s.hub.finish w j s.hub.addr stOk 0) :=
  runs_of_eq rfl (by dsimp only; rw [takes.startCmd rfl good may]; exact if_pos own) rfl

/-! Plans (R138 to R141). -/

theorem runs_planLoad_own (takes : s.hub.Takes w 0x48 j) (host : s.hub.headHost w = true) (good : planLoadOk j.d = true)
    (own : s.hub.isOwn j.d.qt = true) : Runs (.planLoad w (some b)) s (fun h =>
      if s.hub.pend = psArmed ∨ s.hub.pend = psArmedT ∨ s.hub.pend = psHeld then h = s.hub.finish w j s.hub.addr stPlan s.hub.pend
      else ∃ d : List Byte, d.length = j.d.len ∧ h = (s.hub.openReq w j 1 false).2.takeFragment j.d.param 0 j.d.len d) := by
  have ring : w ≠ .gadget := by
    rintro rfl
    simp [Hub.headHost] at host
  have notInline : j.d.inline = false := by simp_all [planLoadOk, Desc.cmdFlags]
  obtain ⟨d, given, padded⟩ := cmdBytes_some w j b
  have len : d.length = j.d.len := by rw [padded ring notInline, length_padTo]
  refine runs_of_eq (h := if s.hub.pend = psArmed ∨ s.hub.pend = psArmedT ∨ s.hub.pend = psHeld
      then s.hub.finish w j s.hub.addr stPlan s.hub.pend else (s.hub.openReq w j 1 false).2.takeFragment j.d.param 0 j.d.len d) rfl
    (by dsimp only; rw [takes.startCmd host good rfl]; dsimp only; rw [given]; dsimp only; rw [if_pos own, len]) ?_
  split
  · rfl
  · exact ⟨d, len, rfl⟩

theorem Hub.alone_of_own (host : s.hub.headHost w = true) (own : s.hub.isOwn j.d.qt = true) : (j.d.qt != 0x1FF) = true := by
  have head : s.hub.isHead = true := by
    cases w with
    | ring n => exact host
    | gadget => simp [Hub.headHost] at host
  have zero : j.d.qt = 0 := by rwa [Hub.isOwn, beq_iff_eq, Hub.addr, if_pos head] at own
  rw [zero]
  rfl

theorem runs_planArm_own (takes : s.hub.Takes w 0x49 j) (host : s.hub.headHost w = true) (good : planArmOk j.d = true)
    (own : s.hub.isOwn j.d.qt = true) : Runs (.planArm w) s (fun h =>
      let r := s.hub.takeArm j.d.addr j.d.param true
      h = r.2.finish w j s.hub.addr (planSt (r.1 == 0)) r.1) := by
  refine runs_of_eq rfl ?_ rfl
  dsimp only
  rw [Hub.armCommand, takes.startCmd host good rfl]
  dsimp only
  rw [if_pos own, Hub.alone_of_own host own]
  rfl

theorem runs_planDisarm_own (takes : s.hub.Takes w 0x4A j) (host : s.hub.headHost w = true) (good : planArmOk j.d = true)
    (own : s.hub.isOwn j.d.qt = true) : Runs (.planDisarm w) s (fun h =>
      let r := s.hub.takeDisarm j.d.addr j.d.param
      h = r.2.finish w j s.hub.addr (planSt r.1) (if r.1 then 1 else 0)) := by
  refine runs_of_eq rfl ?_ rfl
  dsimp only
  rw [Hub.armCommand, takes.startCmd host good rfl]
  dsimp only
  rw [if_pos own]
  cases (s.hub.takeDisarm j.d.addr j.d.param).1 <;> rfl

theorem runs_planQuery_own (takes : s.hub.Takes w 0x4B j) (host : s.hub.headHost w = true) (good : planQueryOk j.d = true)
    (own : s.hub.isOwn j.d.qt = true) :
    Runs (.planQuery w) s (fun h => h = s.hub.finish w j s.hub.addr stOk (s.hub.pend + 256 * s.hub.planReason)) :=
  runs_of_eq rfl (by dsimp only; rw [takes.startCmd host good rfl]; exact if_pos own) rfl

/-! Launches and resets (R197, R203, R445). -/

theorem runs_launch_own (takes : s.hub.Takes w 0x50 j) (good : launchOk j.d = true) (may : s.hub.mayLaunch w j.d.qt = true)
    (here : s.hub.isOwn j.d.qt = true ∨ j.d.qt = 0x1FF) : Runs (.launch w (some b)) s (fun h => ∃ x : List LaunchPost,
      x.length = j.d.len / 32 ∧ h.time.toPost = s.hub.time.toPost ++ x ∧
      ∀ y ∈ x, y.cancel = false ∧ y.at' = j.t0 ∧ ∃ id, y.src = .own id ∧ (h.req id).isSome = true) := by
  obtain ⟨d, given, -⟩ := cmdBytes_some w j b
  let n := j.d.len / 32
  have posts {h : Hub} {id : Nat} {t : Hub} (held : (t.req id).isSome = true) (time : t.time = s.hub.time)
      (view : h.planView = (t.postLater (.own id) false j.t0 (launchRecs n d)).planView) : ∃ x : List LaunchPost,
      x.length = n ∧ h.time.toPost = s.hub.time.toPost ++ x ∧
      ∀ y ∈ x, y.cancel = false ∧ y.at' = j.t0 ∧ ∃ id, y.src = .own id ∧ (h.req id).isSome = true := by
    refine ⟨(launchRecs n d).map (fun b => ⟨.own id, b, false, j.t0⟩), by simp [launchRecs], ?_, ?_⟩
    · rw [Hub.time_of_view view, Hub.postLater, time]
    · simp only [List.mem_map]
      rintro y ⟨b, -, rfl⟩
      exact ⟨rfl, rfl, id, rfl, by rw [Hub.req, Hub.hif_of_view view]; exact held⟩
  have opened (own : Bool) : ((s.hub.openReq w j n own).2.req (s.hub.openReq w j n own).1).isSome = true := by rw [Hub.req_openReq]; rfl
  by_cases own : s.hub.isOwn j.d.qt = true
  · exact runs_of_eq rfl (by dsimp only; rw [takes.startCmd rfl good may]; dsimp only; rw [given]; exact if_pos own)
      (posts (opened false) (Hub.time_openReq ..) rfl)
  · exact runs_of_eq rfl (by
      dsimp only; rw [takes.startCmd rfl good may]; dsimp only; rw [given]; dsimp only; rw [if_neg own]; exact if_pos (here.resolve_left own))
      (posts (opened true) (Hub.time_openReq ..) (MsgFree.planView.send ..))

theorem runs_launchCancel_own (takes : s.hub.Takes w 0x51 j) (good : launchCancelOk j.d = true) (may : s.hub.mayLaunch w j.d.qt = true)
    (own : s.hub.isOwn j.d.qt = true) : Runs (.launchCancel w) s (fun h => ∃ id, h.time.toPost = s.hub.time.toPost ++
      [⟨.own id, beBytes 2 j.d.addr ++ zeros 6 ++ beBytes 8 j.d.param, true, j.t0⟩]) := by
  let r := s.hub.openReq w j 1 false
  let body := beBytes 2 j.d.addr ++ zeros 6 ++ beBytes 8 j.d.param
  refine runs_of_eq (h := r.2.postLater (.own r.1) true j.t0 [body]) rfl
    (by dsimp only; rw [takes.startCmd rfl good may]; exact if_pos own) ⟨r.1, ?_⟩
  exact congrArg (fun t : Time => t.toPost ++ [⟨.own r.1, body, true, j.t0⟩]) (s.hub.time_openReq w j 1 false)

theorem runs_reset_own (takes : s.hub.Takes w 0x58 j) (good : resetOk j.d = true) (own : s.hub.isOwn j.d.qt = true)
    (may : s.hub.mayReach w s.hub.unlocked j.d.qt true = true) : Runs (.reset w) s (fun h => h.Ended w j.idx ∧
      h.sec.dues = if j.d.addr = 5 then s.hub.sec.dues ++ [⟨5, 2, s.hub.tick + 16⟩]
        else if s.hub.domResetRefused (j.d.addr - 0x20) then s.hub.sec.dues
        else s.hub.sec.dues ++ [⟨6, j.d.addr - 0x20, s.hub.tick + 16⟩]) := by
  let r := s.hub.askReset j.d.addr 5 2 (s.hub.tick + 16)
  refine runs_of_eq (h := r.2.finish w j s.hub.addr (if r.1 then stOk else stRefused) 0) rfl
    (by dsimp only; rw [takes.startCmd rfl good may]; exact if_pos own) ⟨Hub.ended_finish _ w j _ _ _, ?_⟩
  have sec : (r.2.finish w j s.hub.addr (if r.1 then stOk else stRefused) 0).sec = r.2.sec :=
    congrArg (fun x => x.2.2.2) (Hub.pastHost_finish ..)
  rw [sec]
  simp only [r, Hub.askReset, apply_ite Prod.snd, apply_ite Hub.sec, apply_ite SecRec.dues]

end

/-- Settles O20, command by command: each is taken up at the hub itself, and a final completion ends its job and leaves what the command
did, or a request stays open for it. -/
theorem managementCommandsAtTheHub : Obligations.ManagementCommandsAtTheHub := by
  unfold Obligations.ManagementCommandsAtTheHub
  exact ⟨fun _ ok _ _ => runs_regRead_own ok, fun _ _ _ _ => runs_regWrite_own, fun _ _ _ => runs_regWriteHop,
    fun _ _ _ => runs_ping_own, fun _ _ _ _ => runs_planLoad_own, fun _ _ _ => runs_planArm_own, fun _ _ _ => runs_planDisarm_own,
    fun _ _ _ => runs_planQuery_own, fun _ _ _ _ => runs_launch_own, fun _ _ _ => runs_launchCancel_own,
    fun _ _ _ => runs_reset_own⟩

end Sys2Proof.Machine
end

section
/-! PROOFS. The form of the hub's data (R156, R438) under each operation of the hub and of its units. Only a few operations write line
memory, a register field or a counter; the others change further parts, or are built of such operations. -/

namespace Sys2Proof.Machine

open Host (Outcome)

/-- Each hub that an optional result gives has data in its form. -/
def Hub.AllWF (o : Option Hub) : Prop := ∀ t ∈ o, t.WF

namespace Hub.AllWF

theorem some {t : Hub} (w : t.WF) : Hub.AllWF (some t) := by
  rintro _ ⟨⟩
  exact w

theorem none : Hub.AllWF none := fun _ m => nomatch m

theorem ite {c : Prop} {inst : Decidable c} {a b : Option Hub} (ha : Hub.AllWF a) (hb : Hub.AllWF b) :
    Hub.AllWF (if c then a else b) := by
  split <;> assumption

theorem orElse {a b : Option Hub} (ha : Hub.AllWF a) (hb : Hub.AllWF b) : Hub.AllWF (a.orElse fun _ => b) := by
  cases a with
  | none => exact hb
  | some t => exact ha

theorem map {α : Type} {o : Option α} {f : α → Hub} (h : ∀ x, (f x).WF) : Hub.AllWF (o.map f) := by
  cases o with
  | none => exact .none
  | some x => exact .some (h x)

end Hub.AllWF

namespace Hub.WF

/-! How the hub's operations are put together: by cases, by iteration, and from results that come with a hub. -/

theorem ite {c : Prop} {inst : Decidable c} {a b : Hub} (ha : a.WF) (hb : b.WF) : (if c then a else b).WF := by
  split <;> assumption

theorem of_eq_pair {α : Type} {p : α × Hub} {a : α} {t : Hub} (w : p.2.WF) (e : p = (a, t)) : t.WF := by
  subst e
  exact w

section
variable {s : Hub} (w : s.WF)
include w

/-- A change of other parts than line memory, register fields and counters keeps the form. -/
theorem frame {cntSnap now nowFrac worked stepped loops fresh ev lastRaise out pool rel plan trunk lpw tcp pwr time blk dsp fbr ring sec
    net hif} : Hub.WF ⟨s.regs, s.cnts, cntSnap, now, nowFrac, worked, stepped, loops, fresh, ev, lastRaise, out, s.lineMem, pool, rel,
      plan, trunk, lpw, tcp, pwr, time, blk, dsp, fbr, ring, sec, net, hif⟩ :=
  ⟨w.mem, w.regs, w.cnts, w.cntsOk⟩

theorem maybe {c : Prop} {inst : Decidable c} {t : Hub} (h : s.WF → t.WF) : (if c then t else s).WF := .ite (h w) w

theorem foldl {α : Type} {f : Hub → α → Hub} {l : List α} (h : ∀ t x, t.WF → (f t x).WF) : (l.foldl f s).WF :=
  List.foldlRecOn l f w fun t wt x _ => h t x wt

theorem all_ok_of_mem {cs : Tab CntV} (h : ∀ e, e ∈ cs → e ∈ s.cnts) : cs.all (fun e => e.2.ok) = true :=
  List.all_eq_true.mpr fun e m => List.all_eq_true.mp w.cntsOk e (h e m)

/-! Machine/Ops.lean -/

theorem set64 {lo hi v} : (s.set64 lo hi v).WF := (w.setf ..).setf ..

theorem setLine {x} : (s.setLine x).WF := w.frame

theorem upTo {u} : (s.upTo u).WF := w.advance ..

theorem advanceFrac {x} : (s.advanceFrac x).WF := .ite w.frame w

theorem toBoundary : s.toBoundary.WF := .ite w (w.advance ..)

theorem atBoundary {due f} (h : ∀ t, t.WF → (f t).WF) : (s.atBoundary due f).WF := .ite (h _ w.toBoundary) w

theorem free {k} : (s.free k).2.WF := w.frame

theorem dropEvent : s.dropEvent.WF := .ite (w.count ..) ((w.count ..).setf ..).frame

theorem lockedWrite {off v} : (s.lockedWrite off v).WF := w.raise ..

/-! Machine/Ecc.lean -/

theorem logNew {e mem word syn ue} : (s.logNew e mem word syn ue).WF :=
  (((((((w.setf ..).setb ..).setf ..).setf ..).setf ..).setf ..).setf ..).setf ..

theorem logHit {e syn ue} : (s.logHit e syn ue).WF := (((w.setf ..).setf ..).setf ..).maybe fun w2 => w2.setf ..

theorem logError {mem word syn ue} : (s.logError mem word syn ue).WF := by
  unfold Hub.logError
  split
  exacts [w.logHit, by split; exacts [w.logNew, by split; exacts [w.logNew, w.count ..]]]

theorem raisePerTick {e idx args} : (s.raisePerTick e idx args).WF := .ite w (w.raise ..).frame

theorem noteCorrection {mem} : (s.noteCorrection mem).WF := w.frame

theorem eccTouch {mem word} : (s.eccTouch mem word).WF := by
  unfold Hub.eccTouch
  dsimp only
  split
  exacts [w, (w.count ..).noteCorrection.logError.raiseLimited .., (w.count ..).logError.raisePerTick]

theorem eccEnd {mem word} : (s.eccEnd mem word).WF := w.frame

theorem entryTouch {mem n i} : (s.entryTouch mem n i).WF := w.foldl fun _ _ w => w.eccTouch

theorem entryEnd {mem n i} : (s.entryEnd mem n i).WF := w.foldl fun _ _ w => w.eccEnd

theorem touchAll {mem} : (s.touchAll mem).WF := w.foldl fun _ _ w => w.eccTouch

theorem spanTouch {mem lo hi} : (s.spanTouch mem lo hi).WF := w.foldl fun _ _ w => w.eccTouch

theorem spanEnd {mem lo hi} : (s.spanEnd mem lo hi).WF := w.frame

theorem memStoreEcc {a bs} : (s.memStoreEcc a bs).WF := (w.memStore ..).foldl fun _ _ w => .ite w.eccEnd w

theorem memTouch {a n} : (s.memTouch a n).WF := w.foldl fun _ _ w => w.eccTouch

theorem memSweep {a n} : (s.memSweep a n).WF := w.foldl fun _ _ w => w.spanTouch

/-! Machine/Pool.lean -/

theorem setQueue {q Q} : (s.setQueue q Q).WF := w.frame

theorem takeCell {q} : ∀ x ∈ s.takeCell q, x.2.WF := by
  rintro x m
  obtain ⟨_, _, rfl⟩ := Option.map_eq_some_iff.mp m
  exact w.frame

theorem poolWatch {was} : (s.poolWatch was).WF := .maybe (.ite (w.setf ..) w) fun w2 => w2.raiseLimited ..

theorem setOverrun {q} : (s.setOverrun q).WF := .ite w (w.setQueue.raise ..)

theorem gapLoss {q pkts cells cause} : (s.gapLoss q pkts cells cause).WF := w.setQueue

theorem claimCheck : s.claimCheck.WF := by
  unfold Hub.claimCheck
  split
  exacts [w, .ite w (w.frame.raise ..)]

theorem linkCell {q c} : Hub.AllWF (s.linkCell q c) := by
  rintro x m
  obtain ⟨y, taken, rfl⟩ := Option.map_eq_some_iff.mp m
  exact (w.takeCell y taken).memStoreEcc.setQueue.poolWatch

theorem grantCell {q} : ∀ x ∈ s.grantCell q, x.2.WF := by
  unfold Hub.grantCell
  split
  · rintro x m
    obtain ⟨y, taken, rfl⟩ := Option.map_eq_some_iff.mp m
    exact (w.takeCell y taken).setQueue.poolWatch
  · exact fun _ m => nomatch m

omit w in
theorem grantCells {q n} {s : Hub} (w : s.WF) : ∀ x ∈ s.grantCells q n, x.2.WF := by
  induction n generalizing s with
  | zero => rintro _ ⟨⟩; exact w
  | succ n ih =>
    unfold Hub.grantCells
    split
    · exact fun _ m => nomatch m
    next granted =>
      rintro x m
      obtain ⟨y, rest, rfl⟩ := Option.map_eq_some_iff.mp m
      exact ih (w.grantCell _ granted) y rest

theorem returnCells {q is} : (s.returnCells q is).WF := w.setQueue.claimCheck

theorem refuseCell {q c cause} : (s.refuseCell q c cause).WF :=
  .ite ((w.setQueue.claimCheck.setOverrun.count ..).count ..) ((w.setQueue.claimCheck.gapLoss.count ..).count ..)

theorem placeCell {q c} : (s.placeCell q c).WF := by
  unfold Hub.placeCell
  split
  · exact w.refuseCell
  · exact (w.count ..).refuseCell
  · split
    next e => exact w.linkCell _ e
    · exact (w.count ..).refuseCell

theorem writeMarker {q} : (s.writeMarker q).WF := by
  refine .ite ?_ ?_
  · exact w
  · split
    · exact w
    · exact w.count ..
    · split
      · exact w.count ..
      next e => exact (w.setQueue.linkCell _ e).setQueue.count ..

theorem storeMarker {q c} : (s.storeMarker q c).WF := by
  unfold Hub.storeMarker
  dsimp only
  split
  · exact w.setQueue
  · exact (w.count ..).setQueue
  · split
    · exact (w.count ..).setQueue
    next e => exact (w.linkCell _ e).setQueue

theorem startCell {q c} : (s.startCell q c).WF :=
  .ite (.ite (w.count ..) (.ite ((w.setQueue.count ..).count ..) w.placeCell)) (.ite w.storeMarker w.writeMarker.placeCell)

theorem moreCell {q c} : (s.moreCell q c).WF := .ite (w.setQueue.claimCheck.count ..) w.placeCell

theorem frameCell {q c} : (s.frameCell q c).WF := by
  refine .ite ?_ ?_
  · exact .startCell (.ite (w.setQueue.claimCheck.count ..) w.setQueue)
  · split
    exacts [w, .ite w.setQueue w, .ite w.moreCell (w.setQueue.count ..)]

theorem disabledCell {q c} : (s.disabledCell q c).WF :=
  .ite (w.setQueue.count ..) (by split; exacts [w.count .., .ite w.setQueue w, w])

theorem produce {q who c} : (s.produce q who c).WF := by
  refine .ite ?_ ?_
  · exact w.disabledCell
  · refine .ite ?_ ?_
    · exact .ite w.frameCell (w.count ..)
    · split
      exacts [.ite w.frameCell (w.count ..), .ite w.setQueue.frameCell w.frameCell]

theorem producePkt {q who bs} : (s.producePkt q who bs).WF := w.foldl fun _ _ w => w.produce

theorem popPkt {q} : (s.popPkt q).WF := w.setQueue.claimCheck

theorem dropChains {gone} : (s.dropChains gone).WF := w.frame

theorem flushQ {q} : (s.flushQ q).WF := w.frame.setQueue.dropChains.claimCheck

theorem flushLossy {q cause} : (s.flushLossy q cause).WF := .ite w.flushQ.setOverrun w.flushQ.gapLoss

theorem flushLink {q} : (s.flushLink q).WF := w.flushLossy.frame

theorem flushClear {q} : (s.flushClear q).WF := w.flushQ.setQueue

theorem pktTouch {p} : (s.pktTouch p).WF := w.foldl fun _ _ w => w.memTouch.eccTouch

theorem readHead {q} : (s.readHead q).2.WF := by
  unfold Hub.readHead
  split
  · exact w
  · dsimp only
    split
    exacts [w.pktTouch.flushLink, w.pktTouch.setQueue]

theorem fenceCarve {new} : (s.fenceCarve new).WF := .ite w.frame.poolWatch w

theorem liftFence : s.liftFence.WF := w.frame

theorem applyCarve {new} : (s.applyCarve new).WF := w.frame.frame.poolWatch.claimCheck

theorem carveDeadline : s.carveDeadline.WF := by
  unfold Hub.carveDeadline
  split
  exacts [w, .ite w (.ite w (.raise (.raise (.count (w.frame.foldl fun _ _ w2 => w2.flushLossy) ..) ..) ..))]

theorem bindProd {q who} : (s.bindProd q who).WF := w.setQueue

theorem bindCons {q who} : (s.bindCons q who).WF := w.setQueue

theorem unbindProd {q who} : (s.unbindProd q who).WF := .ite w.setQueue w

theorem unbindCons {q who} : (s.unbindCons q who).WF := .ite w.setQueue w

theorem setReadPort {p r} : (s.setReadPort p r).WF := w.frame

theorem portTake {p} : (s.portTake p).2.WF := by
  unfold Hub.portTake
  dsimp only
  split
  · exact w
  next q _ =>
    have w1 : (if (s.readPort p).pos = 0 then s.readHead q else (s.headPkt q, s)).2.WF := by
      split
      exacts [w.readHead, w]
    generalize (if (s.readPort p).pos = 0 then s.readHead q else (s.headPkt q, s)) = r at w1 ⊢
    obtain ⟨_ | pkt, t⟩ := r
    · exact w1
    dsimp only
    split
    exacts [w1.popPkt.setReadPort, w1.setReadPort]

theorem portRelease {p} : (s.portRelease p).WF := by
  unfold Hub.portRelease
  dsimp only
  split
  exacts [w, w.unbindCons.setReadPort.setf ..]

theorem snapshotPool : s.snapshotPool.WF := ((w.frame.setf ..).setf ..).setf ..

/-! Machine/Locks.lean -/

theorem fence {lo hi} : (s.fence lo hi).WF := w.frame.poolWatch

theorem unfence {lo hi} : (s.unfence lo hi).WF := w.frame

theorem outRow {b r} : (s.outRow b r).WF := .ite (.ite w w.frame) (.fence (.ite w w.frame))

theorem inRow {b r} : (s.inRow b r).WF := w.frame.unfence

theorem zeroCells {lo hi} : (s.zeroCells lo hi).WF := ⟨Memory.wf_delIf _ w.mem, w.regs, w.cnts, w.cntsOk⟩

theorem startAct {t x st ls} : (s.startAct t x st ls).2.WF := by
  dsimp only [Hub.startAct]
  exact (((((w.frame.setf ..).setf ..).setf ..).setf ..).setf ..).setf ..

theorem endAct {a st cause} : (s.endAct a st cause).WF := (w.frame.setf ..).setf ..

theorem giveBack {a} : (s.giveBack a).WF := by
  unfold Hub.giveBack
  split
  exacts [w.zeroCells.unfence, w.inRow, w]

theorem abortAct {a cause} : (s.abortAct a cause).WF := (w.giveBack.raise ..).endAct

theorem maintSweep : s.maintSweep.WF := w.foldl fun _ _ w => by split; exacts [w.abortAct, w]

/-! Machine/TimePath.lean -/

theorem setTport {p T} : (s.setTport p T).WF := w.frame

theorem setHopsGm {h} : (s.setHopsGm h).WF := w.setf ..

theorem setTimeState {st} : (s.setTimeState st).WF := w.setf ..

theorem showPath {p} : (s.showPath p).WF := w.setHopsGm.setf ..

theorem switchPath {p} : (s.switchPath p).WF := by
  unfold Hub.switchPath
  extract_lets +onlyGivenNames s1 _ s2
  have ws1 : s1.WF := (w.setf ..).showPath.setTimeState
  exact .ite ws1.frame (ws1.frame.raise ..)

theorem losePath {p} : (s.losePath p).WF := ((w.setf ..).setHopsGm.setf ..).setTimeState.frame.raise ..

theorem leavePath {p} : (s.leavePath p).WF := .ite w (.ite w.switchPath w.losePath)

theorem dropTime {p} : (s.dropTime p).WF := w.frame.leavePath

/-! Machine/TrunkOps.lean -/

theorem setPort {p P} : (s.setPort p P).WF := w.frame

theorem setLane {p k L} : (s.setLane p k L).WF := w.frame

theorem setRow {p k r} : (s.setRow p k r).WF := (w.setf ..).eccEnd.frame

theorem showRecord {p r} : (s.showRecord p r).WF := w.foldl fun _ _ w => w.setf ..

theorem takeRecord {p r valid own} : (s.takeRecord p r valid own).WF := ((w.setPort.showRecord.setf ..).setb ..).frame

theorem decideRecord {p r0 r1} : (s.decideRecord p r0 r1).WF := by
  refine .ite ?_ ?_
  · exact w.takeRecord.raise ..
  · exact .ite (.ite w.takeRecord (w.takeRecord.raise ..)) (.ite w.takeRecord (.ite w.takeRecord (w.takeRecord.raise ..)))

theorem supplyCsup {p} : (s.supplyCsup p).WF := .ite w (((w.setf ..).emit ..).emit ..)

theorem stopCsup {p} : (s.stopCsup p).WF := .ite (w.setf ..) w

theorem startCsup {p} : (s.startCsup p).WF := .ite w (.ite (w.setf ..) (.ite (w.setf ..) (.ite w.supplyCsup w)))

theorem dropScan {n} : (s.dropScan n).WF := w.frame

theorem sleepPair {p k} : (s.sleepPair p k).WF := (((w.setf ..).setf ..).setf ..).dropScan

theorem wakePair {p k} : (s.wakePair p k).WF := (w.setLane.setb ..).setb ..

theorem segmentRing {b} : (s.segmentRing b).WF := .ite (w.setb ..) ((w.setb ..).setf ..)

theorem ringView : s.ringView.WF := .ite w.segmentRing w

theorem seekLock {p k at'} : (s.seekLock p k at').WF := (w.setf ..).setLane

theorem loopEnd {p r} : (s.loopEnd p r).WF := by
  unfold Hub.loopEnd
  extract_lets +onlyGivenNames held s1
  have wheld : held.WF := w.foldl fun _ _ w => .ite (.ite (w.setf ..).sleepPair (.ite (w.setf ..).wakePair.seekLock (w.setf ..).wakePair)) w
  split
  exacts [(wheld.setf ..).setf .., .ite ((wheld.setf ..).setf ..).endAct ((wheld.setf ..).setf ..).endAct]

theorem loopAbort {p r} : (s.loopAbort p r).WF := .ite (w.loopEnd.raise ..) w

theorem dropLink {p} : (s.dropLink p).WF := by
  refine .maintSweep ?_
  exact .ringView (.dropTime (.setPort (.frame ((w.loopAbort.setf ..).foldl fun _ _ w2 => (w2.setf ..).setLane.dropScan))))

theorem startBringup {p} : (s.startBringup p).WF := .ite ((w.setf ..).setf ..).setPort w

theorem bringupPair {p k} : (s.bringupPair p k).WF := (w.setf ..).setf ..

theorem orientPairs {p} : (s.orientPairs p).WF := w.foldl fun _ _ w => (w.setf ..).maybe fun w3 => w3.bringupPair

theorem headConflict {p hubId} : (s.headConflict p hubId).WF := w.setPort.dropLink.raise ..

theorem farRows {p rows} : (s.farRows p rows).WF := w.foldl fun _ _ w => w.setf ..

theorem startPairTest {p} : (s.startPairTest p).WF := by
  unfold Hub.startPairTest
  extract_lets +onlyGivenNames s1 _ s2 _
  have ws2 : s2.WF := by
    refine (w.setf ..).foldl fun _ _ w2 => ?_
    dsimp only
    split
    exacts [(w2.bringupPair.setf ..).sleepPair, (w2.bringupPair.setf ..).setRow.wakePair]
  exact ws2.setPort

/-! Machine/Mgmt.lean -/

theorem nextSeq {t} : (s.nextSeq t).2.2.WF := w.frame

theorem mgmtCell {tn dst type hops msgId body} : (s.mgmtCell tn dst type hops msgId body).2.2.WF := w.nextSeq

theorem putCell {q hdr pay port} : (s.putCell q hdr pay port).2.WF := by
  unfold Hub.putCell
  dsimp only
  split
  · split
    exacts [w.produce.frame, w.produce]
  · exact w.produce

theorem takeCellQ {q} : (s.takeCellQ q).2.WF := by
  unfold Hub.takeCellQ
  split
  next e => exact w.readHead.of_eq_pair e
  next e => exact (w.readHead.of_eq_pair e).popPkt.frame

theorem sendLocal {p hdr pay} : (s.sendLocal p hdr pay).WF := by
  refine .ite ?_ ?_
  · exact w.count ..
  · split
    next e => exact w.putCell.of_eq_pair e
    next e => exact (w.putCell.of_eq_pair e).count ..

theorem send {dst type msgId body} : (s.send dst type msgId body).WF := by
  unfold Hub.send
  split
  exacts [.ite w (w.count ..), w.foldl fun _ _ w => w.frame.sendLocal]

theorem sendHop {p type body} : (s.sendHop p type body).WF := w.frame.sendLocal

theorem noteAccepted {p hdr pay} : (s.noteAccepted p hdr pay).WF := w.frame

theorem acceptCell {p hdr pay bad} : (s.acceptCell p hdr pay bad).2.WF := by
  unfold Hub.acceptCell
  split
  all_goals dsimp only
  exacts [w.noteAccepted, (w.count ..).raiseLimited .., w.count ..]

theorem takeMsg {q types} : (s.takeMsg q types).2.WF := by
  unfold Hub.takeMsg
  split
  · exact w
  split
  · split
    next e => exact w.takeCellQ.of_eq_pair e
    next e => exact w.takeCellQ.of_eq_pair e
  · exact w

theorem consumeCell {p hdr pay} : (s.consumeCell p hdr pay).WF :=
  .ite (.ite w.putCell (w.count ..)) (.ite (w.count ..) (.ite w w.putCell))

theorem forwardCell {p hdr pay} : (s.forwardCell p hdr pay).WF := by
  refine .ite ?_ ?_
  · exact w
  · refine .ite ?_ ?_
    · exact w.count ..
    · split
      next e => exact w.putCell.of_eq_pair e
      next e => exact (w.putCell.of_eq_pair e).count ..

theorem routeCell {p hdr pay} : (s.routeCell p hdr pay).WF := by
  refine .ite ?_ ?_
  · exact .ite (.ite w.consumeCell w) (.count (.ite w.consumeCell w) ..)
  · exact .ite (.ite w.consumeCell w) (.forwardCell (.ite w.consumeCell w))

/-! Machine/HifBase.lean -/

theorem setRing {r R} : (s.setRing r R).WF := w.frame

theorem ringError {r cause} : (s.ringError r cause).WF := ((w.setf ..).setf ..).raise ..

theorem writeEntry {r lo hi} : (s.writeEntry r lo hi).WF := (w.setRing.setf ..).emit ..

theorem writeCq {q cookie c} : (s.writeCq q cookie c).WF := .ite w.writeEntry w

theorem setJobs {who js} : (s.setJobs who js).WF := by
  unfold Hub.setJobs
  split
  exacts [w.setRing, w.frame]

theorem complete {who idx cookie nocomp c} : (s.complete who idx cookie nocomp c).WF := by
  refine .ite ?_ ?_
  · exact .ite w.setJobs w
  · split
    · exact .ite (.writeCq (.ite w.setJobs w)) (.count (.ite w.setJobs w) ..)
    · exact .ite (.frame (.ite w.setJobs w)) (.frame (.ite w.setJobs w))

theorem finish {who j hub status result} : (s.finish who j hub status result).WF := w.complete

theorem takeJob {who j} : (s.takeJob who j).WF := w.setJobs

theorem newReq {q} : (s.newReq q).2.WF := w.frame

theorem setReq {id q} : (s.setReq id q).WF := w.frame

theorem endReq {id} : (s.endReq id).WF := w.frame

theorem closeBcast {id} : (s.closeBcast id).WF := by
  unfold Hub.closeBcast
  split
  exacts [w, .ite w w.endReq.complete]

theorem answerData {id hub status result data} : (s.answerData id hub status result data).WF := by
  unfold Hub.answerData
  split
  exacts [w.count .., .ite (.ite w.endReq w) (.ite w.endReq.complete (.ite w w.complete.setReq.closeBcast))]

theorem answer {id hub status result} : (s.answer id hub status result).WF := w.answerData

theorem answerLaunch {id hub status slot cookie f silent} : (s.answerLaunch id hub status slot cookie f silent).WF := by
  unfold Hub.answerLaunch
  split
  · exact w.count ..
  · exact .ite (.closeBcast (.setReq (.ite w w.complete))) (.ite (.endReq (.ite w w.complete)) (.setReq (.ite w w.complete)))

/-! Machine/LinePower.lean -/

theorem setChan {c C} : (s.setChan c C).WF := w.frame

theorem gateOff {c} : (s.gateOff c).WF := w.setChan.setf ..

theorem setChState {c st} : (s.setChState c st).WF := (w.setf ..).maintSweep

theorem chOpen {c cause} : (s.chOpen c cause).WF := w.gateOff.setChState.raise ..

theorem chEval {c} : (s.chEval c).WF := .ite (.ite w.gateOff.setChState w) (.ite (.ite w.chOpen (.ite w.chOpen w)) w)

theorem chReturn {c} : (s.chReturn c).WF := .ite ((w.count ..).raise ..) w.chEval

theorem chTrip {c fault i} : (s.chTrip c fault i).WF := by
  unfold Hub.chTrip
  extract_lets +onlyGivenNames _ s1 _ _ s2 s3
  have ws1 : s1.WF := ((w.gateOff.setf ..).setf ..).count ..
  exact .maybe (.raise (.ite ws1.setChState (ws1.setChan.setChState.setf ..)) ..) fun w4 => w4.raise ..

theorem chClearTrips {c} : (s.chClearTrips c).WF := w.setf ..

theorem nextTemp {c i vi vo} : (s.nextTemp c i vi vo).2.WF := by
  unfold Hub.nextTemp
  split
  exacts [w.frame, w]

theorem showTemp {c} : (s.showTemp c).WF := (w.setf ..).setb ..

theorem takeNtc {c ntc} : (s.takeNtc c ntc).WF := .ite (w.setChan.maybe fun w2 => w2.raise ..) w

theorem lpwSample {c i vi vo ntc} : (s.lpwSample c i vi vo ntc).WF :=
  ((((((w.takeNtc.nextTemp.setChan.setChan.setb ..).setb ..).setb ..).setb ..).setf ..).setf ..).set64.showTemp

theorem lpwPublish {c} : (s.lpwPublish c).WF := .ite w ((((w.setf ..).setf ..).setf ..).setf ..).setChan

theorem writeChCfg {c v} : (s.writeChCfg c v).WF := by
  unfold Hub.writeChCfg
  extract_lets +onlyGivenNames _ _ _ _ _ s1 s2
  have ws2 : s2.WF := .ite ((w.setb ..).maybe fun w2 => w2.lockedWrite) (.setf (.setf ((w.setb ..).maybe fun w2 => w2.setf ..) ..) ..)
  exact ws2.chEval

theorem restartQualify {c} : (s.restartQualify c).WF := .ite w.setChan w

theorem chClear {c} : (s.chClear c).WF := w.chClearTrips.maybe fun w2 => w2.setChState.chEval

theorem holdGnt {c k who v} : (s.holdGnt c k who v).WF := w.setChan

theorem commitGnt {c v} : (s.commitGnt c v).WF :=
  .ite (w.holdGnt.setChan.foldl fun _ _ w3 => (w3.setf ..).setf ..) (w.holdGnt.setChan.raise ..)

/-! Machine/Power.lean -/

theorem setDom {d D} : (s.setDom d D).WF := w.frame

theorem accountRefusal {d k code abort} : (s.accountRefusal d k code abort).WF :=
  (((((w.setf ..).setf ..).setf ..).setb ..).setf ..).count ..

theorem startEntry {d k h} : (s.startEntry d k h).WF := (((w.setDom.setf ..).setf ..).count ..).maintSweep

theorem startExit {d src} : (s.startExit d src).WF := .setf (.setf (.setDom (.ite w.frame w)) ..) ..

theorem abortArmed {d src} : (s.abortArmed d src).WF := by
  unfold Hub.abortArmed
  extract_lets D one
  have wone {a} {t : Hub} (w : t.WF) : (one a t).WF := by
    unfold one
    split
    exacts [w, w.accountRefusal]
  exact (wone (wone w)).setDom.setf ..

theorem wakeDom {d src} : (s.wakeDom d src).WF :=
  .ite w (.ite w.abortArmed.setDom.setDom (w.abortArmed.setDom.maybe fun w3 => w3.startExit))

theorem requestWake {d src} : (s.requestWake d src).WF := by
  unfold Hub.requestWake
  split
  exacts [w.accountRefusal, w.setDom.wakeDom]

theorem moveDom {d k h} : (s.moveDom d k h).WF := .ite w.startEntry (.ite w.setDom (.ite w.setDom.setDom w.setDom.startExit))

theorem commitEntry {d k h} : (s.commitEntry d k h).WF := .ite w (by split; exacts [w.accountRefusal, w.moveDom])

theorem commitDom {d} : (s.commitDom d).WF := by
  unfold Hub.commitDom
  extract_lets +onlyGivenNames _ s0 s1
  have ws1 : s1.WF := by
    unfold s1
    split
    exacts [w.setDom.setf .., (w.setDom.setf ..).commitEntry]
  split
  exacts [ws1, ws1.commitEntry]

theorem commitCore {core} : (s.commitCore core).WF := .ite w.commitDom (w.foldl fun _ _ w => w.commitDom)

theorem writeDomMode {d v ctl} : (s.writeDomMode d v ctl).WF :=
  .ite w (.ite (w.setf ..).requestWake (.ite ((w.setDom.setf ..).setf ..) ((w.setDom.setf ..).setf ..).commitDom))

theorem takePlanStep {d k epoch} : (s.takePlanStep d k epoch).WF := by
  unfold Hub.takePlanStep
  dsimp only
  split
  · exact .ite (w.setf ..).accountRefusal ((w.setf ..).accountRefusal.setDom.raise ..)
  · exact .ite ((w.setf ..).setDom.setf ..) (w.setf ..).moveDom

theorem writeWakeRec {d fail src from' retries time startTick} : (s.writeWakeRec d fail src from' retries time startTick).WF :=
  (((((w.setf ..).setf ..).setf ..).setf ..).setf ..).setf ..

/-! Machine/BlockOps.lean -/

theorem setRport {d P} : (s.setRport d P).WF := w.frame

theorem showBlk : s.showBlk.WF := w.setf ..

theorem blkFinish {tag status result} : (s.blkFinish tag status result).WF := by
  unfold Hub.blkFinish
  split
  exacts [w, .ite (w.frame.showBlk.maybe fun w2 => w2.count ..) (.complete (w.frame.showBlk.maybe fun w2 => w2.count ..))]

theorem blkSwitch : s.blkSwitch.WF := .frame (w.foldl fun _ _ w => w.blkFinish)

theorem showSlots {d} : (s.showSlots d).WF := (w.setf ..).setf ..

theorem setSlot {d i x} : (s.setSlot d i x).WF := w.frame.showSlots

theorem freeSlotBlk {d i} : (s.freeSlotBlk d i).WF := by
  unfold Hub.freeSlotBlk
  split
  exacts [w, .showSlots (.frame (.ite w.returnCells (by split; exacts [w, w.returnCells])))]

theorem blkRespond {x kind status reason} : (s.blkRespond x kind status reason).WF := by
  unfold Hub.blkRespond
  dsimp only
  split
  exacts [w.count .., by split; exacts [w.memStoreEcc.setQueue, .ite w.produce (w.produce.count ..)]]

theorem slotAnswer {d i kind status reason} : (s.slotAnswer d i kind status reason).WF := by
  unfold Hub.slotAnswer
  split
  exacts [w, .freeSlotBlk (.ite w w.blkRespond)]

theorem failSlots {d} : (s.failSlots d).2.WF := w.foldl fun _ _ w => w.slotAnswer

omit w in
theorem chainWrite {cs o bs} {s : Hub} (w : s.WF) : (s.chainWrite cs o bs).WF := by
  induction bs generalizing o s with
  | nil => exact w
  | cons b t ih => exact ih w.memStoreEcc

theorem submit {d q bytes} : (s.submit d q bytes).WF := (w.chainWrite.setRport.emit ..).emit ..

theorem blkFail {d cause} : (s.blkFail d cause).WF := ((((w.setRport.setf ..).setf ..).setf ..).setf ..).raise ..

theorem clearRings {d} : (s.clearRings d).WF := w.setRport.chainWrite

theorem blkStart {d} : (s.blkStart d).WF := by
  unfold Hub.blkStart
  extract_lets +onlyGivenNames _ s1
  have ws1 : s1.WF := ((w.setRport.emit ..).setf ..).setf ..
  exact .ite ws1.blkFail (.ite ws1 ws1.requestWake)

theorem ssdAssign {d} : (s.ssdAssign d).WF := ((w.emit ..).emit ..).emit ..

theorem nvmeEnable {d} : (s.nvmeEnable d).WF := (w.emit ..).clearRings.foldl fun _ _ w => w.emit ..

theorem adminDo {d op prp dw10 dw11} : (s.adminDo d op prp dw10 dw11).WF := w.submit.setRport.emit ..

theorem nvmeCreate {d} : (s.nvmeCreate d).WF := w.adminDo.adminDo.foldl fun _ _ w2 => w2.adminDo.adminDo

theorem nvmeDelete {d} : (s.nvmeDelete d).WF := .ite (.emit (w.foldl fun _ _ w => w.adminDo.adminDo) ..) (.ite (w.emit ..) w)

theorem nvmeSetup {d cap ready admin mdts} : (s.nvmeSetup d cap ready admin mdts).WF := by
  refine .ite ?_ ?_
  · exact w.blkFail
  · exact .ite w.nvmeEnable.blkFail (.ite w.nvmeEnable.nvmeCreate.blkFail (((w.nvmeEnable.nvmeCreate.setf ..).setf ..).raise ..))

theorem blkSetup {d nvme cap ready admin mdts} : (s.blkSetup d nvme cap ready admin mdts).WF := .ite w.blkFail w.ssdAssign.nvmeSetup

theorem blkIdle {d} : (s.blkIdle d).WF :=
  (((((w.failSlots.nvmeDelete.returnCells.unbindProd.unbindCons.setRport.emit ..).setf ..).setf ..).setf ..).setf ..).raise ..

theorem blkDown {d} : (s.blkDown d).WF := w.blkIdle.setf ..

theorem blkEnable {d} : (s.blkEnable d).WF := by
  refine .ite ?_ ?_
  · exact w.setf ..
  · split
    · exact w.setf ..
    next e =>
      have w1 := w.grantCells _ e
      exact ((w1.bindProd.bindCons.setRport.setf ..).setf ..).blkStart

theorem writeBlkCfg {d v} : (s.writeBlkCfg d v).WF := by
  refine .ite ?_ ?_
  · exact .ite w w.lockedWrite
  · refine .ite ?_ ?_
    · exact .ite (.ite w.lockedWrite w) (.blkDown (.ite w.lockedWrite w))
    · refine .maybe (.setf (.maybe (.maybe (.ite (w.setf ..) w) fun w2 => w2.setf ..) fun w3 => w3.setf ..) ..) fun w5 => ?_
      exact w5.blkEnable

/-! Machine/Block.lean -/

theorem ssdWrite {d a bs} : Hub.AllWF (s.ssdWrite d a bs) := by
  unfold Hub.ssdWrite
  refine .ite .none (.ite (.some w.chainWrite) (.ite (.ite (.some w.chainWrite) .none) (.ite ?_ .none)))
  dsimp only
  split
  exacts [.none, .ite (.some w.chainWrite) .none]

theorem rejectReq {u h reason} : (s.rejectReq u h reason).WF := w.blkRespond

theorem issueReq {u q i lba h hdrCell cells} : (s.issueReq u q i lba h hdrCell cells).WF := w.setSlot.submit.count ..

theorem issueWrite {u q i lba h p} : (s.issueWrite u q i lba h p).WF :=
  .ite w.popPkt.popPkt.rejectReq (.ite w.popPkt.popPkt.rejectReq w.popPkt.setQueue.issueReq)

theorem issueRead {u q i lba h} : (s.issueRead u q i lba h).WF := by
  unfold Hub.issueRead
  split
  · exact w.popPkt.rejectReq
  · split
    · exact w
    next e =>
      have w1 := w.grantCells _ e
      split
      next e => exact (w1.grantCells _ e).popPkt.issueReq
      · exact w1.popPkt.blkRespond

theorem tryIssue {u q h rest} : (s.tryIssue u q h rest).WF := by
  refine .ite ?_ ?_
  · exact .ite w w.setRport.submit
  · refine .ite ?_ ?_
    · exact .rejectReq (by split; exacts [.ite w.popPkt w.popPkt.popPkt, w.popPkt])
    · refine .ite ?_ ?_
      · split
        exacts [w, .ite w.popPkt.rejectReq (by split; exacts [w, .ite w w.issueWrite])]
      · split
        exacts [w, .ite w (.ite w.issueRead w.popPkt.issueReq)]

theorem blkIssue {u q} : (s.blkIssue u q).WF := by
  unfold Hub.blkIssue
  split
  next e => exact w.readHead.of_eq_pair e
  next e =>
    have w1 := w.readHead.of_eq_pair e
    exact .ite w1.popPkt (.ite (.rejectReq (by split; exacts [.ite w1.popPkt w1.popPkt.popPkt, w1.popPkt])) w1.tryIssue)

theorem blkCommand {op who data} : (s.blkCommand op who data).WF := by
  unfold Hub.blkCommand
  split
  · exact w
  · refine .ite ?_ ?_
    · exact w.finish
    · refine .ite ?_ ?_
      · exact w.finish
      · refine .ite ?_ ?_
        · exact (w.count ..).finish
        · refine .ite ?_ ?_
          · exact (w.count ..).finish
          · split
            · refine .ite ?_ ?_
              · exact (w.count ..).finish
              · refine w.frame.showBlk.takeJob.produce.maybe fun w2 => ?_
                split
                exacts [((w.count ..).raise ..).finish, w2.producePkt]
            · exact (w.count ..).finish

theorem takeReadData {tag q c p ok} : (s.takeReadData tag q c p ok).WF := by
  refine .ite ?_ ?_
  · exact w.popPkt.blkFinish
  · refine .ite ?_ ?_
    · exact w.popPkt.blkFinish
    · exact .ite w.popPkt.blkFinish (.ite (w.popPkt.emit ..).blkFinish ((w.popPkt.count ..).raise ..).blkFinish)

/-! Machine/TypeC.lean -/

theorem setDrop {n P} : (s.setDrop n P).WF := w.frame

theorem setDropAt {n f} : (s.setDropAt n f).WF := w.setDrop

theorem showHeld : s.showHeld.WF := w.setf ..

theorem setGrant {n g} : (s.setGrant n g).WF := w.setDrop.setf ..

theorem setRp {n r} : (s.setRp n r).WF := w.setDrop

theorem dropContract {n} : (s.dropContract n).WF := ((w.setDrop.setChan.setf ..).setf ..).setf ..

theorem setVbus {n on} : (s.setVbus n on).WF := by
  unfold Hub.setVbus
  extract_lets +onlyGivenNames _ s1
  have ws1 : s1.WF := (w.setDrop.setb ..).setf ..
  exact .ite ws1.chReturn ws1.chEval

theorem setVconn {n on} : (s.setVconn n on).WF := w.setb ..

theorem setHpd {n on} : (s.setHpd n on).WF := .setb (.ite w w.setDropAt) ..

theorem muxSafe {n} : (s.muxSafe n).WF := ((w.setDrop.setf ..).setf ..).setHpd

theorem exitDp {n} : (s.exitDp n).WF := w.muxSafe.maybe fun w2 => w2.emit ..

theorem regrant : s.regrant.WF :=
  .showHeld (w.foldl fun _ _ w => w.setGrant.maybe fun w3 => (w3.muxSafe.dropContract.setVbus.setf ..).raise ..)

theorem sendCaps {n} : (s.sendCaps n).WF := w.setDrop.emit ..

theorem vbusUp {n} : (s.vbusUp n).WF := (w.setDrop.setVbus.setf ..).showHeld

theorem ccEval {n} : (s.ccEval n).WF := .ite (w.setDrop.setf ..) (.ite (.ite w (w.setDrop.raise ..)) w.setDrop)

theorem toUnattached {n} : (s.toUnattached n).WF := (w.setDrop.setf ..).ccEval

theorem usbGone {n} : (s.usbGone n).WF := ((w.setf ..).setf ..).setf ..

theorem leaveAttached {n} : (s.leaveAttached n).WF :=
  (((((w.usbGone.muxSafe.setVconn.dropContract.setVbus.setDrop.setf ..).setf ..).setf ..).setf ..).setf ..).setf ..

theorem tcDetach {n} : (s.tcDetach n).WF := ((w.leaveAttached.setf ..).setRp.regrant.raise ..).toUnattached

theorem tcAttach {n} : (s.tcAttach n).WF :=
  (((((((w.setDrop.setf ..).setb ..).setb ..).setf ..).setf ..).setf ..).setVconn.regrant.raise ..).maybe fun w3 => w3.emit ..

theorem tcDisable {n} : (s.tcDisable n).WF := .regrant (.setf (.setRp (.ite (w.leaveAttached.raise ..) w)) ..)

theorem tcVbusTrip {n} : (s.tcVbusTrip n).WF := .ite ((w.leaveAttached.setDropAt.setRp.setf ..).setf ..).regrant w

theorem swapAbort {n why} : (s.swapAbort n why).WF := by
  unfold Hub.swapAbort
  dsimp only
  split
  exacts [w.setDrop, (w.setDrop.count ..).raise ..]

theorem tcHardReset {n sent} : (s.tcHardReset n sent).WF := by
  refine .ite ?_ ?_
  · exact .showHeld (.setDrop (.setVbus (.dropContract (.setVconn (.muxSafe (.swapAbort (.count (.ite (w.emit ..) w) ..)))))))
  · exact w

theorem tcSoftReset {n} : (s.tcSoftReset n).WF := by
  unfold Hub.tcSoftReset
  dsimp only
  split
  exacts [w.count .., (w.count ..).swapAbort.setVconn]

theorem sendSwap {n} : (s.sendSwap n).WF := w.setDrop.setDropAt.emit ..

theorem startSwap {n} : (s.startSwap n).WF := .ite w.setDrop.setDropAt.setRp w.sendSwap

theorem sinkTxOk {n} : (s.sinkTxOk n).WF := .ite w.setRp w

theorem swapStage {n k} : (s.swapStage n k).WF := by
  unfold Hub.swapStage
  extract_lets +onlyGivenNames s1 s2
  have ws2 : s2.WF := .maybe (.ite w.setVconn w) fun w2 => w2.emit ..
  exact .ite ws2.setDrop.sinkTxOk ws2.setDrop

theorem dpFail {n} : (s.dpFail n).WF := (w.muxSafe.setf ..).raise ..

theorem dpMiss {n} : (s.dpMiss n).WF := .ite w.dpFail w.setDrop

theorem dpConfigure {n} : (s.dpConfigure n).WF := ((w.setDrop.setf ..).setf ..).setHpd.raise ..

theorem dpAck {n good pins hpd} : (s.dpAck n good pins hpd).WF :=
  .ite w.dpFail (.ite w.setDrop (.ite (w.setDrop.setf ..) (.ite w.setDrop (.ite w.dpConfigure w.setDrop))))

theorem discEnd {n fiveA ss} : (s.discEnd n fiveA ss).WF := ((w.setDrop.setb ..).setb ..).regrant

theorem discMiss {n k} : (s.discMiss n k).WF := .ite w.discEnd (w.setDrop.setDropAt.emit ..)

theorem writePortCfg {n v} : (s.writePortCfg n v).WF := by
  unfold Hub.writePortCfg
  extract_lets +onlyGivenNames _ _ _ s1 s2' s2 s3 s4
  have ws1 : s1.WF := ((((w.setb ..).setb ..).setf ..).setb ..).setb ..
  have ws2' : s2'.WF := ws1.maybe fun w2 => w2.setf ..
  have ws3 : s3.WF := .ite (.exitDp (.ite ws2' ws2'.usbGone)) (.maybe (.ite ws2' ws2'.usbGone) fun w4 => w4.setf ..)
  exact .regrant (.ite ws3.setRp.toUnattached (ws3.maybe fun w5 => w5.tcDisable))

/-! Machine/Breaker.lean -/

theorem trip {c fault i} : (s.trip c fault i).WF := w.chTrip.maybe fun w2 => w2.tcVbusTrip

/-! Machine/FbrOps.lean -/

theorem showPoison : s.showPoison.WF := (w.setf ..).setf ..

theorem setPoison {ws} : (s.setPoison ws).WF := w.frame.showPoison

theorem writeWinCfg {who v} : (s.writeWinCfg who v).WF := by
  unfold Hub.writeWinCfg
  extract_lets +onlyGivenNames _ _ _ s1
  have ws1 : s1.WF := (((((w.setf ..).setf ..).setf ..).setf ..).setf ..).setf ..
  exact .ite (.setf (.ite w w.lockedWrite) ..) (.ite ws1 (.ite (ws1.raise ..) (ws1.setf ..)))

theorem writeWinClear {v} : (s.writeWinClear v).WF := w.setPoison

theorem showParked : s.showParked.WF := (w.setf ..).setf ..

theorem setParked {i p} : (s.setParked i p).WF := w.frame.showParked

theorem freeParked {i} : (s.freeParked i).WF := w.frame.showParked

theorem park {i p} : (s.park i p).2.WF := w.spanEnd.frame.setParked

theorem dropLines {who} : (s.dropLines who).WF := w.frame.showParked

theorem enqueue {r} : (s.enqueue r).WF := w.frame

theorem serveClaim {i token p} : (s.serveClaim i token p).2.WF := by
  unfold Hub.serveClaim
  split
  · exact w
  split
  · exact w.freeParked
  split
  · exact w.freeParked
  · exact .ite w.setParked w.freeParked

theorem parkReq {p r} : (s.parkReq p r).2.WF := by
  unfold Hub.parkReq
  split
  exacts [w, w.park.enqueue]

theorem bridgeRead {who carrier win off n token} : (s.bridgeRead who carrier win off n token).2.WF := by
  unfold Hub.bridgeRead
  split
  · exact w
  split
  · extract_lets _ t
    have wt : t.WF := .ite w.spanTouch w
    split
    · split
      exacts [wt, wt.serveClaim]
    · split <;> exact wt
  split
  · exact w
  split
  · exact w
  split
  all_goals dsimp only
  exacts [w.count .., w.parkReq]

theorem bridgeLocked {who carrier win off mask v} : (s.bridgeLocked who carrier win off mask v).2.WF := by
  unfold Hub.bridgeLocked
  iterate 4
    split
    · exact w
  exact .ite w.parkReq w.parkReq.dropLines

theorem bridgeWrite {who carrier win off vals back} : (s.bridgeWrite who carrier win off vals back).2.WF := by
  unfold Hub.bridgeWrite
  dsimp only
  iterate 3
    split
    · exact w
  split
  · split
    all_goals dsimp only
    exacts [w, w.count ..]
  split
  · exact w
  split <;> exact w.enqueue.dropLines

theorem answerBack {back win a} : (s.answerBack back win a).WF := by
  unfold Hub.answerBack
  split
  exacts [w, w.complete, w.send]

theorem parkResult {r words zst} : (s.parkResult r words zst).WF := by
  unfold Hub.parkResult
  split
  exacts [w, w.setParked]

theorem postedFail {r done zst} : (s.postedFail r done zst).WF := (w.frame.setPoison.count ..).raise ..

theorem driveCycles {r n lock} : (s.driveCycles r n lock).WF := w.foldl fun _ _ w => w.emit ..

theorem runReq {r good zst words} : (s.runReq r good zst words).WF := by
  unfold Hub.runReq
  split
  · exact w.driveCycles.parkResult
  · exact .parkResult (.maybe (.ite (w.emit ..) w) fun w2 => w2.emit ..)
  · exact .ite w.driveCycles.answerBack (.ite w.driveCycles.postedFail w.driveCycles.answerBack)

theorem runNext {good zst words} : (s.runNext good zst words).WF := by
  unfold Hub.runNext
  split
  exacts [w, .ite (.ite w.frame.parkResult w.frame.answerBack) (.ite w.frame.runReq w.frame.runReq)]

/-! Machine/Usb.lean -/

theorem setGadget {g} : (s.setGadget g).WF := w.frame

theorem lockSession : s.lockSession.WF := w.setGadget.setf ..

theorem gadgetReset : s.gadgetReset.WF := (w.frame.setGadget.setf ..).lockSession

theorem setHubPort {k P} : (s.setHubPort k P).WF := w.frame

theorem busActs : s.busActs.WF := w.frame

theorem upstream : s.upstream.WF := by
  refine .ite ?_ ?_
  · exact w
  · refine .ite ?_ ?_
    · exact .gadgetReset ((((w.busActs.setf ..).setf ..).setf ..).foldl fun _ _ w2 => (w2.setf ..).setf ..)
    · exact ((w.busActs.setf ..).setf ..).setf ..

theorem gadgetEvent {r remote} : (s.gadgetEvent r remote).WF := .ite (.ite w.setGadget (w.count ..)) w

theorem gadgetTake {b} : (s.gadgetTake b).WF := w.setGadget.frame

omit w in
theorem gadgetDrain {n} {s : Hub} (w : s.WF) : (s.gadgetDrain n).WF := by
  induction n generalizing s with
  | zero => exact w
  | succ n ih =>
    unfold Hub.gadgetDrain
    split
    exacts [w, .ite (ih w.setGadget.gadgetTake) w]

theorem setHalt {ep on} : (s.setHalt ep on).WF := .ite w w.setGadget

theorem gadgetWait {b} : (s.gadgetWait b).WF := .ite (w.setGadget.emit ..) (w.emit ..)

theorem gadgetPing {ep used} : (s.gadgetPing ep used).WF := .ite (w.emit ..) w

/-! Machine/Bridge.lean -/

theorem fbrComplete {who idx d hub a ok} : (s.fbrComplete who idx d hub a ok).WF := by
  refine .ite ?_ ?_
  · split
    exacts [w.complete, .ite w.complete (.ite (w.emit ..).complete ((w.count ..).raise ..).complete)]
  · exact w.complete

theorem fbrCommand {op who data ok} : (s.fbrCommand op who data ok).WF := by
  unfold Hub.fbrCommand
  split
  · exact w
  · refine .ite ?_ ?_
    · exact w
    · refine .ite ?_ ?_
      · exact w.finish
      · refine .ite ?_ ?_
        · exact w.finish
        · refine .ite ?_ ?_
          · exact ((w.count ..).raise ..).finish
          · refine .ite ?_ ?_
            · refine .ite ?_ ?_
              · exact w.bridgeRead.fbrComplete
              · refine .ite ?_ ?_
                · split
                  next e => exact w.takeJob.bridgeWrite.of_eq_pair e
                  next e => exact (w.takeJob.bridgeWrite.of_eq_pair e).fbrComplete
                · exact w.bridgeLocked.fbrComplete
            · exact .ite w.finish w.takeJob.newReq.send

theorem fbrResponse {id hub read body ok} : (s.fbrResponse id hub read body ok).WF := by
  unfold Hub.fbrResponse
  split
  exacts [w.count .., .ite w.endReq w.endReq.fbrComplete]

theorem mapInput {x} : (s.mapInput x).WF := w.frame

theorem zintChange {n on levels} : (s.zintChange n on levels).WF := w.mapInput.maybe fun w2 => w2.raise ..

theorem pollGood {c word} : (s.pollGood c word).WF := .ite w.frame w.frame.mapInput

theorem pollBad {c zst} : (s.pollBad c zst).WF := by
  unfold Hub.pollBad
  dsimp only
  split
  exacts [w.raiseLimited .., .ite (w.raiseLimited ..) (w.raiseLimited ..).frame.mapInput]

theorem issuePolls : s.issuePolls.WF := .ite w.frame w

/-! Machine/NetOps.lean -/

theorem stamp {p tx oneStep a ts f} : (s.stamp p tx oneStep a ts f).WF := .ite w (.ite w.produce (w.count ..))

theorem setShaper {i h} : (s.setShaper i h).WF := w.frame

theorem shaperSpend {i len} : (s.shaperSpend i len).WF := .ite w.setShaper w

theorem applyShaperRegs {i} : (s.applyShaperRegs i).WF := w.setShaper

theorem applyShpElem {e} : (s.applyShpElem e).WF := ((((w.setb ..).setf ..).setf ..).setf ..).applyShaperRegs

theorem refillShaper {i} : (s.refillShaper i).WF := w.applyShaperRegs.setShaper.setf ..

theorem refillShapers : s.refillShapers.WF := w.foldl fun _ _ w => w.refillShaper

theorem setPolicer {i P} : (s.setPolicer i P).WF := w.frame

theorem refillPolicers : s.refillPolicers.WF := w.frame.foldl fun _ _ w2 => (w2.setf ..).setf ..

theorem police {i f} : (s.police i f).2.2.2.WF := by
  unfold Hub.police
  dsimp only
  split
  all_goals dsimp only
  exacts [w, w.setPolicer.count ..]

theorem setEport {p P} : (s.setEport p P).WF := w.frame

theorem ethDown {p cause} : (s.ethDown p cause).WF := (((((w.setf ..).setf ..).setf ..).setb ..).setb ..).raise ..

theorem ethOff {p} : (s.ethOff p).WF := .ite w.ethDown w

theorem gatesNow {p} : (s.gatesNow p).WF := .ite w (w.setEport.setf ..)

theorem takeGates {p es source} : (s.takeGates p es source).WF := ((w.setEport.setf ..).setf ..).raise ..

theorem clearGatePend {p} : (s.clearGatePend p).WF := ((w.setEport.setf ..).setf ..).setf ..

theorem planGates {p es} : (s.planGates p es).WF := .takeGates (.setf (.setf (by split; exacts [.ite w.clearGatePend w, w]) ..) ..)

theorem gatesAt {p} : (s.gatesAt p).WF := by
  unfold Hub.gatesAt
  split
  exacts [w, .ite w.clearGatePend.takeGates w]

theorem allGatesAt : s.allGatesAt.WF := w.foldl fun _ _ w => w.gatesAt

omit w in
theorem rewritePkt {p bs} {s : Hub} (w : s.WF) : (s.rewritePkt p bs).WF := by
  induction p generalizing bs s with
  | nil => exact w
  | cons c t ih => exact ih (w.memStore ..)

theorem tclkDrop {q u} : (s.tclkDrop q u).WF := .ite (by split; exacts [w, by dsimp only; split; exacts [w, w.rewritePkt]]) w

/-! Machine/Slots.lean -/

theorem setHop {n cs} : (s.setHop n cs).WF := w.frame

theorem setLate {n xs} : (s.setLate n xs).WF := w.frame

theorem loopSlot {p k slot bytes} : (s.loopSlot p k slot bytes).WF := .ite (.ite (w.emit ..) w) (.ite (w.count ..) w)

theorem emitCell {o k j hdr pay} : (s.emitCell o k j hdr pay).WF := .ite (w.emit ..) w

theorem emitNull {o k j} : (s.emitNull o k j).WF := w.emitCell

theorem passCell {n o k j c alarm} : (s.passCell n o k j c alarm).WF := .ite w.emitNull (.ite (w.count ..).emitNull w.emitCell)

theorem setTun {t u} : (s.setTun t u).WF := w.frame

theorem stampSig {q u} : (s.stampSig q u).WF := .ite (by split; exacts [w.frame, w]) w

theorem dropProduce {t q u c} : (s.dropProduce t q u c).WF := w.produce.maybe fun w2 => w2.tclkDrop.stampSig

theorem dropResync {q} : (s.dropResync q).WF := w.setQueue.count ..

theorem dropGap {q lost} : (s.dropGap q lost).WF := .ite w.setQueue.claimCheck.setOverrun w.setQueue.claimCheck.gapLoss

theorem dropSeq {t u c} : (s.dropSeq t u c).WF := by
  unfold Hub.dropSeq
  extract_lets +onlyGivenNames _ st s1 s2
  have ws1 : s1.WF := .ite (w.count ..) w.setTun
  have ws2 : s2.WF := by
    clear_value st
    unfold s2
    split
    exacts [ws1.count .., ws1, ws1, ws1]
  clear_value st s2
  split
  · exact ws2
  split
  · exact ws2.count ..
  split
  · exact ws2.count ..
  split
  · exact ws2.count ..
  split
  exacts [ws2.dropProduce, ws2.dropResync, .ite ws2.dropGap.dropProduce ws2.dropGap.dropResync, ws2]

theorem dropCell {n t c} : (s.dropCell n t c).WF :=
  .ite (w.count ..) (.ite w (by split; exacts [w.count .., .ite (w.count ..) w.dropSeq]))

theorem popCell {q} : (s.popCell q).WF := by
  unfold Hub.popCell
  dsimp only
  split
  exacts [w, .ite w.popPkt w.setQueue.claimCheck]

theorem addCell {t} : (s.addCell t).2.WF := by
  unfold Hub.addCell
  split
  · exact w
  split
  · exact w
  · exact w.setTun
  split
  · exact w
  split
  · exact w
  · exact w
  extract_lets held s1 s2
  have w1 : s1.WF := w.pktTouch
  have w2 : s2.WF := by
    unfold s2
    split
    exacts [w1, .ite w1.shaperSpend w1]
  split
  · exact w
  split
  exacts [w1.flushLink, w2.setTun.popCell]

theorem addOut {t o k j} : (s.addOut t o k j).WF := by
  unfold Hub.addOut
  split
  next e => exact (w.addCell.of_eq_pair e).emitCell
  next e => exact (w.addCell.of_eq_pair e).emitNull

theorem unplanned {n c} : (s.unplanned n c).WF := by
  unfold Hub.unplanned
  split
  exacts [w, .ite w (w.count ..)]

theorem noteAlarm {p c} : (s.noteAlarm p c).WF := by
  unfold Hub.noteAlarm
  split
  exacts [w, .ite w.frame w]

theorem alarmSlot {o k j c} : (s.alarmSlot o k j c).WF := by
  unfold Hub.alarmSlot
  extract_lets +onlyGivenNames _ _ s1 staged _
  have ws1 : s1.WF := .ite w.noteAlarm w.unplanned
  clear_value staged
  split
  · exact .ite (by split; exacts [ws1.passCell, ws1]) ws1.frame.emitCell
  · exact .ite ws1.emitNull (by split; exacts [ws1.passCell, ws1.emitNull])

theorem slotTransparent {o k j c} : (s.slotTransparent o k j c).WF :=
  .ite (by split; exacts [w.passCell, w.emitNull]) w.unplanned.emitNull

theorem slotPlanned {o k j c} : (s.slotPlanned o k j c).WF := by
  unfold Hub.slotPlanned
  dsimp only
  split
  · exact w.unplanned.emitNull
  · refine .ite ?_ ?_
    · split
      exacts [w.passCell, w.emitNull]
    · refine .ite ?_ ?_
      · exact .emitNull (by split; exacts [w.dropCell, w])
      · exact .ite w.unplanned.addOut (.addOut (by split; exacts [w.dropCell, w]))

theorem takeHop {p k a} : (s.takeHop p k a).2.WF := by
  unfold Hub.takeHop
  dsimp only
  split
  exacts [w.entryTouch.setHop, .ite w.setLate w]

/-! Machine/PlanFlow.lean -/

theorem setPend {st} : (s.setPend st).WF := w.setf ..

theorem setPlanFail {f} : (s.setPlanFail f).WF := ((w.setf ..).setf ..).setf ..

theorem sendPlanStatus {msgId reason} : (s.sendPlanStatus msgId reason).WF := .ite w w.send

theorem reportPlan : s.reportPlan.WF := .ite (w.foldl fun _ _ w => w.answer) w.sendPlanStatus

theorem planFail {f} : (s.planFail f).WF := (w.frame.setPend.setPlanFail.raise ..).reportPlan

theorem planReady : s.planReady.WF := (w.frame.setPend.raise ..).reportPlan

theorem planDiscard : s.planDiscard.WF := w.frame

theorem planUnarm : s.planUnarm.WF := .ite (.ite w.frame.liftFence.planReady w.frame.liftFence.setPend) w.frame.liftFence.planFail

theorem disarm : s.disarm.WF := by
  unfold Hub.disarm
  split
  exacts [w, (w.raise ..).planUnarm]

theorem cancelArm {d} : (s.cancelArm d).WF := by
  unfold Hub.cancelArm
  split
  exacts [w, .ite (w.raise ..).planUnarm w]

theorem leaveSteps : s.leaveSteps.WF := w.foldl fun _ _ w => .ite w w.wakeDom

theorem planMemError : s.planMemError.WF := .ite w.frame.setPlanFail.setPend.liftFence.leaveSteps (.ite w w.planFail)

theorem tableReads : s.tableReads.WF := .maybe (w.touchAll.touchAll.maybe fun w2 => w2.frame.leaveSteps) fun w3 => w3.planMemError

theorem sendDigest {p} : (s.sendDigest p).WF := by
  unfold Hub.sendDigest
  split
  exacts [w, w.sendHop]

theorem digestFail {i} : (s.digestFail i).WF := by
  refine .ite ?_ ?_
  · exact w.planFail
  · refine .ite ?_ ?_
    · split
      exacts [w, .ite w.frame.setPlanFail.setPend.liftFence.leaveSteps w.frame.setPlanFail.setPend.liftFence.leaveSteps.send]
    · exact w

theorem peerCheck : s.peerCheck.WF := .ite w.planReady w

theorem compareDigest {p} : (s.compareDigest p).WF := by
  unfold Hub.compareDigest
  split
  exacts [.ite w (by split; exacts [w.digestFail, w.frame.peerCheck]), w]

theorem checksPass {c} : (s.checksPass c).WF := by
  refine .peerCheck ?_
  refine .foldl (((w.frame.setPend.setb ..).setb ..).spanEnd.entryEnd.foldl fun _ _ w4 => .ite w4.sendDigest w4) fun _ _ w5 => ?_
  exact w5.compareDigest

theorem digestOnLink {p} : (s.digestOnLink p).WF := .ite w.sendDigest w

theorem startLoad {epoch total} : (s.startLoad epoch total).WF := (w.planDiscard.spanEnd.frame.setPend.setf ..).setf ..

theorem addFragment {bs} : (s.addFragment bs).WF := w.frame.maybe fun w2 => w2.setPend.setf ..

theorem discardFragment : s.discardFragment.WF := .ite (w.count ..) (w.count ..).frame.sendPlanStatus

theorem takeFragment {epoch offset total bs} : (s.takeFragment epoch offset total bs).WF :=
  .ite w.sendPlanStatus (.ite w.startLoad.addFragment (.ite w.addFragment w.discardFragment))

theorem checkDone : s.checkDone.WF := .ite w (by split; exacts [w.planFail, .ite w.checksPass w.planFail])

theorem arm {st epoch at' reason rejoin} : (s.arm st epoch at' reason rejoin).WF := by
  unfold Hub.arm
  extract_lets +onlyGivenNames _ s1 s2
  have ws2 : s2.WF := (w.frame.setPend.setf ..).setf ..
  exact .ite ws2.fenceCarve.maintSweep ws2.leaveSteps

theorem takeArm {epoch at' alone} : (s.takeArm epoch at' alone).2.WF := by
  unfold Hub.takeArm
  extract_lets +onlyGivenNames _ _ refuse late
  have wr {st} : (refuse st).2.WF := w.raise ..
  have wl {t : Hub} (w : t.WF) : (late t).WF := w.raise ..
  clear_value refuse late
  split
  · exact wr
  split
  · split
    · exact wr
    split
    · exact w
    split
    exacts [wl w, w]
  · extract_lets _ d8
    clear_value d8
    split
    · exact wr
    split
    · exact wl w.frame.leaveSteps
    split
    · exact wl w.arm
    split
    all_goals dsimp only
    exacts [w.arm, w.arm.raise ..]

theorem takeDisarm {epoch at'} : (s.takeDisarm epoch at').2.WF := by
  unfold Hub.takeDisarm
  split
  · exact w
  split
  exacts [w.disarm, w]

/-! Machine/TimeOps.lean -/

theorem showLaunches : s.showLaunches.WF := (w.setf ..).setf ..

theorem holdDone {d} : (s.holdDone d).WF := w.frame

theorem countLaunch {status} : (s.countLaunch status).WF := .ite (w.count ..) (.ite (w.count ..) (.ite w (w.count ..)))

theorem launchDone {slot status f} : (s.launchDone slot status f).WF := by
  unfold Hub.launchDone
  split
  exacts [w, w.frame.countLaunch.holdDone.showLaunches]

theorem launchRan {slot f} : (s.launchRan slot f).WF := by
  unfold Hub.launchRan
  split
  exacts [w, w.launchDone]

theorem launchRefused {l status} : (s.launchRefused l status).WF := w.countLaunch.holdDone

theorem setLaunch {slot l} : (s.setLaunch slot l).WF := w.frame

theorem admitLaunch {l} : (s.admitLaunch l).WF := by
  refine .ite ?_ ?_
  · exact w.launchRefused
  · refine .ite ?_ ?_
    · exact w.launchRefused
    · refine .ite ?_ ?_
      · exact w.launchRefused
      · exact .ite w.launchRefused (by split; exacts [w.launchRefused, w.entryEnd.setLaunch.frame.showLaunches])

theorem handover {slot} : (s.handover slot).WF := by
  unfold Hub.handover
  split
  · exact w
  · refine .ite ?_ ?_
    · exact w
    · refine .ite ?_ ?_
      · exact w.launchDone
      · refine .ite ?_ ?_
        · exact w.launchDone
        · exact .ite w.entryTouch.setLaunch.launchDone (by dsimp only; split; exacts [w.setLaunch, w.setLaunch.wakeDom])

theorem launchesStep {t} : (s.launchesStep t).WF := w.foldl fun _ _ w => .ite w.launchDone w

theorem setPin {n P} : (s.setPin n P).WF := w.frame

theorem driveTio {n on} : (s.driveTio n on).WF := w.setPin.emit ..

theorem writeTioCfg {n v} : (s.writeTioCfg n v).WF := by
  unfold Hub.writeTioCfg
  extract_lets +onlyGivenNames _ _ s1
  have ws1 : s1.WF := ((((((w.setf ..).setf ..).setf ..).setf ..).setf ..).setf ..).setf ..
  exact .ite ws1.driveTio (.ite (ws1.frame.emit ..) (ws1.maybe fun w2 => w2.driveTio))

theorem launchEdge {n on f} : (s.launchEdge n on f).WF := w.driveTio.setPin

theorem writeTioLevel {v} : (s.writeTioLevel v).WF := w.foldl fun _ _ w => .ite w (w.driveTio.maybe fun w3 => w3.driveTio)

theorem moveStamps {d} : (s.moveStamps d).WF := w.frame

theorem stepTime {path d} : (s.stepTime path d).WF :=
  .frame (.launchesStep (.disarm ((w.setLine.moveStamps.raise ..).maybe fun w2 => w2.dropLink.startBringup)))

theorem lockTime : s.lockTime.WF := .ite w (w.setTimeState.raise ..)

theorem takePath {p} : (s.takePath p).WF := w.switchPath.maybe fun w2 => w2.stepTime

theorem pathCheck : s.pathCheck.WF :=
  .ite w (by split; exacts [.ite w.showPath w.leavePath, by split; exacts [w, .ite w.takePath w]])

theorem judgeTheta {p theta} : (s.judgeTheta p theta).WF :=
  .ite w.frame.stepTime.setTimeState (.ite (w.frame.maybe fun w2 => w2.raiseLimited ..) (w.frame.maybe fun w2 => w2.lockTime))

theorem measure {p m t4} : (s.measure p m t4).WF := by
  unfold Hub.measure
  dsimp only
  split
  · refine .ite ?_ ?_
    · exact w
    · refine .ite ?_ ?_
      · exact w.count ..
      · refine .ite ?_ ?_
        · exact (w.setTport.setf ..).setf ..
        · exact .ite ((w.setTport.setf ..).setf ..).judgeTheta ((w.setTport.setf ..).setf ..).pathCheck
  · exact w

theorem pathBetter : s.pathBetter.WF := by
  unfold Hub.pathBetter
  split
  exacts [w, w.setTport.maybe fun w2 => w2.setTport.takePath]

theorem servoRate {max} : (s.servoRate max).WF := w.frame.setf ..

theorem setOrigin {ns} : (s.setOrigin ns).WF := ((w.setf ..).setf ..).setf ..

theorem removeError {e} : (s.removeError e).WF := .ite (w.setf ..).servoRate ((w.setf ..).setOrigin.raise ..)

theorem sourceMeasure {e origin mapIt} : (s.sourceMeasure e origin mapIt).WF := by
  refine .ite ?_ ?_
  · exact w.removeError.frame.frame.setTimeState
  · refine w.removeError.frame.maybe fun w2 => ?_
    exact .ite w2.frame (.ite w2.frame.lockTime (w2.frame.lockTime.frame.setOrigin.maybe fun w7 => (w7.setf ..).setf ..))

theorem takeSource : s.takeSource.WF := by
  unfold Hub.takeSource
  extract_lets +onlyGivenNames _ s0 s1
  have ws1 : s1.WF := (w.frame.setf ..).setf ..
  exact .ite (ws1.setf ..).lockTime ws1.setTimeState

theorem startTime : s.startTime.WF := ((w.setLine.frame.setf ..).setHopsGm.setf ..).takeSource

theorem writeOrigin {i v} : (s.writeOrigin i v).WF :=
  .ite w (.ite (.ite w w.lockedWrite) (.ite (w.setf ..) (.ite (w.setf ..) (((w.setf ..).setf ..).setf ..))))

theorem writeGmCfg {v} : (s.writeGmCfg v).WF :=
  .ite w (.ite ((w.setf ..).setf ..) ((((w.setf ..).setf ..).setf ..).maybe fun w3 => w3.takeSource))

theorem takeAnnounce {b} : (s.takeAnnounce b).WF :=
  ((((((((((w.frame.setf ..).setf ..).setf ..).setf ..).setf ..).setf ..).setf ..).setf ..).setf ..).setf ..).setf ..

/-! Machine/RingOps.lean -/

theorem showBreak {b d} : (s.showBreak b d).WF := ((w.setf ..).setf ..).setf ..

theorem setBreak {b d rep entry} : (s.setBreak b d rep entry).WF := w.frame.showBreak.setf ..

theorem turnHeadPort {b} : (s.turnHeadPort b).WF := .ite w w.frame

theorem breakCancels {d} : (s.breakCancels d).WF := w.cancelArm.maybe fun w2 => w2.leaveSteps

theorem schedule {b d rep} : (s.schedule b d rep).WF := (w.setBreak.setf ..).breakCancels.maybe fun w2 => (w2.setf ..).raise ..

theorem noteReport {b d rep} : (s.noteReport b d rep).WF := .ite w (w.frame.raise ..)

theorem ringBreak {b d rep note} (h : ∀ t : Hub, t.WF → (note t).WF) : (s.ringBreak b d rep note).WF := by
  refine .ite ?_ (h _ w.schedule)
  split
  · exact w
  · exact .ite ((w.setf ..).raise ..) (.ite (h _ w.setBreak.breakCancels) (h _ w))

theorem transparentBreak {b d rep} : (s.transparentBreak b d rep).WF :=
  .ite w.schedule (.maybe (.ite w.setBreak w) fun w2 => w2.cancelArm)

theorem learnBreak {b d rep own} : (s.learnBreak b d rep own).WF := by
  unfold Hub.learnBreak
  extract_lets note
  have wn (t : Hub) (w : t.WF) : (note t).WF := .ite w w.noteReport
  split
  · exact .ite (w.ringBreak wn) (.ite (wn _ (w.setBreak.setf ..).turnHeadPort) (wn _ w))
  · exact wn _ w.transparentBreak

theorem alarmCell {a} : (s.alarmCell a).2.WF := w.nextSeq

theorem stageAlarm {o c} : (s.stageAlarm o c).WF := w.frame

theorem queueAlarm {p} : (s.queueAlarm p).WF := .ite w.frame w

theorem sendAlarm {o} : (s.sendAlarm o).WF := .ite w (by split; exacts [w, w.frame.frame.stageAlarm])

theorem takeAlarm {p c} : (s.takeAlarm p c).WF := w.learnBreak.maybe fun w2 => w2.frame

theorem relayAlarm {o} : (s.relayAlarm o).WF := .ite w (by split; exacts [w, w.frame.stageAlarm])

/-! Machine/LineTime.lean -/

theorem latchTime {t frac} : (s.latchTime t frac).WF := ((((w.setf ..).setf ..).setf ..).setf ..).setf ..

theorem postLaunch : s.postLaunch.WF := by
  unfold Hub.postLaunch
  split
  exacts [w, .ite w (.ite w.frame.produce (.ite w.frame.produce.holdDone w.frame.produce.launchRefused))]

theorem cancelLaunch {slot cookie src} : (s.cancelLaunch slot cookie src).WF := .holdDone (.ite w.launchDone w)

theorem tioEdge {slot l on} : (s.tioEdge slot l on).WF := .ite (w.advance ..).launchEdge.launchRan (w.advance ..).launchDone

theorem deliverDone {d} : (s.deliverDone d).WF := by
  unfold Hub.deliverDone
  split
  exacts [.ite w.answer w.answerLaunch, .ite w.send (.ite w w.send)]

theorem takeDone : s.takeDone.WF := by
  unfold Hub.takeDone
  split
  next e => exact w.readHead.of_eq_pair e
  next e => exact (w.readHead.of_eq_pair e).popPkt.deliverDone

theorem drainDone : s.drainDone.WF := w.foldl fun _ _ w => w.takeDone

/-! Machine/Can.lean -/

theorem setReleased {c m on} : (s.setReleased c m on).WF := (w.setf ..).setb ..

theorem mbTouch {c m} : (s.mbTouch c m).WF := w.spanTouch

theorem setMbData {c m bs} : (s.setMbData c m bs).WF := w.spanEnd.foldl fun _ _ w => w.setf ..

theorem canStart {c} : (s.canStart c).WF := .ite w (by split; exacts [w, w.mbTouch.frame.setf ..])

theorem mbRelease {c m} : (s.mbRelease c m).WF := .ite w.setReleased.canStart w

theorem mbEnd {c m} : (s.mbEnd c m).WF := w.frame.setReleased

theorem canLaunch {c m f} (h : ∀ slot (t : Hub), t.WF → (f slot t).WF) : (s.canLaunch c m f).WF :=
  .foldl w.frame fun t slot => h slot t

theorem canIdle {c m} : (s.canIdle c m).WF := w.frame.setf ..

theorem setMbTime {c m t} : (s.setMbTime c m t).WF := w.set64

theorem writeTxreq {c hi v} : (s.writeTxreq c hi v).WF := w.foldl fun _ _ w => .ite w.mbRelease w

theorem canStore {c m t f bs} : (s.canStore c m t f bs).WF :=
  ((w.setMbData.setMbTime.setf ..).setf ..).mapInput.maybe fun w3 => w3.produce

theorem withdrawLaunches {c} : (s.withdrawLaunches c).WF :=
  w.foldl fun _ _ w => .ite (w.mbEnd.canLaunch fun _ _ w => w.launchDone) w

theorem canStop {c} : (s.canStop c).WF := by
  unfold Hub.canStop
  split
  exacts [w, w.canIdle]

theorem writeCanCfg {c v} : (s.writeCanCfg c v).WF := by
  unfold Hub.writeCanCfg
  extract_lets +onlyGivenNames sA s1
  have ws1 : s1.WF := (((((((w.setf ..).setf ..).setf ..).setf ..).setf ..).setf ..).setf ..).setf ..
  refine .ite ?_ ?_
  · exact .ite (.ite (w.setf ..) (w.setf ..).lockedWrite) (.canStop (.setf (.ite (w.setf ..) (w.setf ..).lockedWrite) ..))
  · exact .ite ws1 (.ite ((ws1.setf ..).setf ..) (ws1.setf ..).canStart)

/-! Machine/CellPool.lean -/

theorem quotaRefused {off v} : (s.quotaRefused off v).WF := w.raise ..

theorem disableQ {q} : (s.disableQ q).WF := .setf (.setQueue (by split; exacts [w.flushClear.portRelease, w.flushClear])) ..

theorem writeQcfg {q v} : (s.writeQcfg q v).WF := by
  refine .ite ?_ ?_
  · exact w
  · refine .ite ?_ ?_
    · exact .maybe (.ite w w.disableQ) fun w2 => w2.lockedWrite
    · exact .ite (.ite (((w.setf ..).setf ..).setf ..).poolWatch w.quotaRefused) ((w.setf ..).setf ..)

theorem writeProfMin {i v} : (s.writeProfMin i v).WF := w.frame

theorem writeProfMax {i v} : (s.writeProfMax i v).WF := .ite ((w.frame.setf ..).setf ..).poolWatch w.frame.quotaRefused

theorem writeQrpSel {p v} : (s.writeQrpSel p v).WF :=
  .ite (((w.portRelease.setf ..).setf ..).setf ..) (((w.portRelease.setf ..).bindCons.setReadPort.setf ..).setf ..)

theorem writeQctl {v} : (s.writeQctl v).WF := .ite w.flushClear w

theorem writeGenLow {v} : (s.writeGenLow v).WF := .ite (w.setf ..) w

theorem readQrpLow {p wide} : (s.readQrpLow p wide).2.WF := by
  unfold Hub.readQrpLow
  split
  next e =>
    have wt := w.portTake.of_eq_pair e
    split
    · exact wt
    split
    exacts [wt, wt.setReadPort]

theorem readQrpHigh {p} : (s.readQrpHigh p).2.WF := by
  unfold Hub.readQrpHigh
  dsimp only
  split
  exacts [w, w.setReadPort]

/-! Machine/DisplayOps.lean -/

theorem setDhead {h H} : (s.setDhead h H).WF := ((w.frame.setf ..).setf ..).setf ..

theorem dspClear {h} : (s.dspClear h).WF := w.setDhead

theorem dspIdle {h} : (s.dspIdle h).WF := ((w.dspClear.setDhead.unbindCons.setf ..).setf ..).setf ..

theorem dspDisable {h} : (s.dspDisable h).WF := w.dspIdle.setf ..

theorem dspStart {h} : (s.dspStart h).WF := .ite (w.setf ..) (((w.setf ..).setf ..).setf ..).bindCons.setDhead

theorem writeHeadCfg {h v} : (s.writeHeadCfg h v).WF := by
  refine .ite ?_ ?_
  · exact .ite (.ite w.lockedWrite w) (.dspDisable (.ite w.lockedWrite w))
  · refine .ite ?_ ?_
    · exact .maybe ((((w.setf ..).setf ..).setf ..).maybe fun w2 => w2.setf ..) fun w3 => w3.setf ..
    · refine .ite ?_ ?_
      · exact .raise (.dspStart (.maybe ((((w.setf ..).setf ..).setf ..).maybe fun w2 => w2.setf ..) fun w3 => w3.setf ..)) ..
      · exact .dspStart (.maybe ((((w.setf ..).setf ..).setf ..).maybe fun w2 => w2.setf ..) fun w3 => w3.setf ..)

theorem dspCarve : s.dspCarve.WF := w.foldl fun _ _ w => .ite ((w.dspClear.setf ..).raise ..) w

omit w in
theorem stagePut {h o bs} {s : Hub} (w : s.WF) : (s.stagePut h o bs).WF := by
  induction bs generalizing o s with
  | nil => exact w
  | cons b t ih =>
    unfold Hub.stagePut
    exact ih w.memStoreEcc

theorem present {h cs} : (s.present h cs).WF := w.setDhead.foldl fun _ _ w => (w.count ..).raise ..

theorem takeCommit {h t b} : (s.takeCommit h t b).WF := .present (w.setDhead.maybe fun w2 => w2.raise ..)

theorem takeTile {h b} : Hub.AllWF (s.takeTile h b) :=
  .ite (.some (w.setDhead.count ..)) (.ite (.some (w.stagePut.setDhead.count ..)) (.ite .none (.some (w.setDhead.count ..))))

theorem putRow {h t bpp r} : (s.putRow h t bpp r).WF := .ite w.memStoreEcc w

theorem putTile {h t} : (s.putTile h t).WF := w.foldl fun _ _ w => w.putRow

theorem rowTouch {h y n} : (s.rowTouch h y n).WF := w.memSweep

theorem freezeStep {h} : (s.freezeStep h).WF := by
  refine .ite ?_ ?_
  · dsimp only
    split
    · exact w.setDhead.setf ..
    · refine .ite ?_ ?_
      · exact (((w.setDhead.setf ..).setf ..).setf ..).maybe fun w3 => w3.raise ..
      · exact (w.setDhead.setf ..).maybe fun w2 => (w2.setf ..).maybe fun w4 => ((w4.setf ..).count ..).raise ..
  · exact w.setDhead

theorem freezeClear {h} : (s.freezeClear h).WF := (w.setDhead.setf ..).setf ..

theorem writeFrz {h r v} : (s.writeFrz h r v).WF := by
  refine .ite ?_ ?_
  · exact ((w.setf ..).setf ..).freezeClear
  · refine .ite ?_ ?_
    · exact ((w.setf ..).setf ..).freezeClear
    · exact .maybe (.ite ((w.setf ..).setf ..) (((w.setf ..).setf ..).setf ..)) fun w3 => w3.freezeClear

theorem dspTrain {h ok} : (s.dspTrain h ok).WF := by
  unfold Hub.dspTrain
  dsimp only
  split
  exacts [(((w.setDhead.setf ..).setf ..).setf ..).raise .., (((w.setDhead.setf ..).setf ..).setf ..).raise ..]

theorem putWords {f n b} : (s.putWords f n b).WF := w.foldl fun _ _ w => w.setf ..

/-! Machine/Drop.lean -/

theorem recaps {n} : (s.recaps n).WF := .ite w.sendCaps w

theorem vconnTake {n} : (s.vconnTake n).WF := .ite w.startSwap w

theorem dpExit {n} : (s.dpExit n).WF := .ite w.exitDp w

/-! Machine/HostOps.lean -/

theorem setPba {v on} : (s.setPba v on).WF := w.setf ..

theorem msixOut {v} : (s.msixOut v).WF := w.emit ..

theorem msixSend {v} : (s.msixSend v).WF := .ite w.setPba w.msixOut

theorem writeMsixCtl {v who} : (s.writeMsixCtl v who).WF := .ite w ((w.setf ..).maybe fun w2 => w2.setPba.msixOut)

theorem message {r} : (s.message r).WF := w.setRing.msixSend

theorem moderate {r} : (s.moderate r).WF := .ite w.message w

theorem tickMessages : s.tickMessages.WF := w.foldl fun _ _ w => .ite w.message w

theorem showDump : s.showDump.WF := w.setb ..

theorem forgetAsker {r} : (s.forgetAsker r).WF := w.frame

theorem unbindRing {r} : (s.unbindRing r).WF := .ite w.unbindProd (.ite w.unbindCons w)

theorem ringOff {r} : (s.ringOff r).WF :=
  .showDump (.setf (.setf (.setRing (.unbindRing (.forgetAsker (w.foldl fun _ _ w => w.finish)))) ..) ..)

theorem ringStart {r} : (s.ringStart r).WF := by
  unfold Hub.ringStart
  extract_lets +onlyGivenNames s1
  have ws1 : s1.WF := (((w.setRing.setf ..).setf ..).setf ..).setf ..
  exact .ite ws1.bindProd (ws1.maybe fun w2 => w2.bindCons)

theorem ringFields {r v} : (s.ringFields r v).WF := .setf (.setf (.maybe (.ite (w.setf ..) w) fun w2 => w2.setf ..) ..) ..

theorem writeRingCfg {r v} : (s.writeRingCfg r v).WF := by
  refine .ite ?_ ?_
  · exact w
  · refine .ite ?_ ?_
    · exact .ite w.lockedWrite (.ite (.ite w.lockedWrite w) (.ringOff (.ite w.lockedWrite w)))
    · refine .ite ?_ ?_
      · exact .ite w.ringFields (w.ringFields.setf ..)
      · exact .ite w.ringFields.ringStart (((w.ringFields.setf ..).setf ..).raise ..)

theorem ringDrop {r} : (s.ringDrop r).WF := ((w.forgetAsker.unbindRing.setf ..).setf ..).setf ..

theorem ringsOff : s.ringsOff.WF := .frame (w.foldl fun _ _ w => w.ringDrop)

theorem linkLost : s.linkLost.WF := .ite ((((w.setf ..).setf ..).setf ..).raise ..) w

theorem hostReset {cause} : (s.hostReset cause).WF := by
  unfold Hub.hostReset
  extract_lets +onlyGivenNames s1 s2 s3 _ s4
  have ws4 : s4.WF := .maybe (((((w.ringsOff.setf ..).setf ..).setf ..).resetFields ..).maybe fun w3 => w3.linkLost) fun w4 => w4.frame.emit ..
  exact ws4.raise ..

theorem nudge {who} : (s.nudge who).WF := .ite w (.ite (.ite w w.frame) ((w.frame.count ..).emit ..))

theorem writeNudge {v} : (s.writeNudge v).WF := w.nudge

theorem reissue : s.reissue.WF := w.frame.foldl fun _ _ w => w.nudge

theorem pageLate : s.pageLate.WF := by
  unfold Hub.pageLate
  split
  exacts [w, (((w.frame.setf ..).count ..).raiseLimited ..).reissue]

theorem pageRead : s.pageRead.WF := w.pageLate.maybe fun w2 => w2.frame.emit ..

theorem takeWord {r v} : (s.takeWord r v).WF := .ite w (.ite w.ringError w.setRing)

theorem pageArrive {r words} : (s.pageArrive r words).WF := by
  unfold Hub.pageArrive
  dsimp only
  split
  · refine .ite ?_ ?_
    · exact w.pageLate
    · refine .ite ?_ ?_
      · exact .reissue (((w.frame.count ..).setf ..).foldl fun _ _ w => w.takeWord)
      · exact .ite (.reissue ((w.frame.count ..).foldl fun _ _ w => w.takeWord)) w
  · exact .ite (.reissue (w.frame.foldl fun _ _ w2 => w2.takeWord)) w

omit w in
theorem sweep {r n} {s : Hub} (w : s.WF) : (s.sweep r n).WF := by
  induction n generalizing s with
  | zero => exact w
  | succ n ih =>
    unfold Hub.sweep
    split
    · exact w
    · exact .ite w (ih (.setRing (.entryEnd (.finish (.ite w.entryTouch w)))))

theorem descReads {r n} : (s.descReads r n).WF := (w.emit ..).maybe fun w2 => w2.emit ..

theorem fetchDescs {r data} : (s.fetchDescs r data).WF := .sweep (.count (.setf (.setRing (w.foldl fun _ _ w => w.entryEnd)) ..) ..)

theorem dmaFail {who j} : (s.dmaFail who j).WF := (w.count ..).raise ..

theorem endJob {r j status result} : (s.endJob r j status result).WF := w.finish.sweep

/-! Machine/HostPort.lean -/

theorem txPolice {q f} : (s.txPolice q f).2.2.2.WF := by
  unfold Hub.txPolice
  split
  · exact w
  split
  exacts [w, w.police]

theorem txProduce {r colour bs} : (s.txProduce r colour bs).2.WF := w.foldl fun _ _ w => w.produce

theorem txPacket {r j bs} : (s.txPacket r j bs).WF := .ite w.txPolice.endJob w.txPolice.txProduce.endJob

theorem txJoin {r bad bs} : (s.txJoin r bad bs).WF := w.setRing

theorem txDisplay {r j bs} : (s.txDisplay r j bs).WF := w.txProduce.endJob

theorem rxFill {r j p pos ok} : (s.rxFill r j p pos ok).WF :=
  .sweep (.complete (.setRing (.maybe (.ite (w.emit ..) w.dmaFail) fun w2 => w2.popPkt)))

theorem evqPut {r e} : (s.evqPut r e).WF := w.writeEntry

theorem evqGive {r e} : (s.evqGive r e).WF :=
  .ite (.evqPut (.ite w.setRing.evqPut w)) (.count (.setRing (.ite w.setRing.evqPut w)) ..)

theorem gadgetSend {t q} : (s.gadgetSend t q).WF := by
  unfold Hub.gadgetSend
  split
  exacts [w, w.frame.produce]

theorem gadgetCollect {e} : (s.gadgetCollect e).WF := w.foldl fun _ _ w => .ite (w.frame.maybe fun w3 => w3.gadgetSend) w

theorem gadgetFlush : s.gadgetFlush.WF := .gadgetDrain (w.foldl fun _ _ w => w.gadgetSend)

theorem tellHost {e remote} : (s.tellHost e remote).WF := .gadgetCollect (w.foldl fun _ _ w => w.evqGive)

theorem gadgetPkt {q} : (s.gadgetPkt q).WF := by
  unfold Hub.gadgetPkt
  split
  next e => exact w.readHead.of_eq_pair e
  next e =>
    have w1 := w.readHead.of_eq_pair e
    exact .ite (w1.popPkt.count ..) (.ite w1.popPkt (w1.popPkt.foldl fun _ _ w3 => w3.gadgetEvent))

theorem gadgetTakeTunnels : s.gadgetTakeTunnels.WF := w.foldl fun _ _ w => w.foldl fun _ _ w2 => w2.gadgetPkt

theorem trimEvents : s.trimEvents.WF := w.frame

theorem feedGadget : s.feedGadget.WF := by
  unfold Hub.feedGadget
  split
  exacts [w.frame.gadgetEvent, w]

theorem feedHost : s.feedHost.WF := .ite w (by split; exacts [w.frame.tellHost, w])

/-! Machine/NetLink.lean -/

theorem writeFrame {p q f colour} : (s.writeFrame p q f colour).WF := by
  unfold Hub.writeFrame
  extract_lets +onlyGivenNames s1 _
  have ws1 : s1.WF := w.foldl fun _ _ w => w.produce
  exact .ite ws1 (ws1.count ..)

theorem policeFrame {p q pol f} : (s.policeFrame p q pol f).WF := by
  unfold Hub.policeFrame
  split
  exacts [w.writeFrame, .ite (w.police.count ..) w.police.writeFrame]

theorem flowFrame {p ts who f} : (s.flowFrame p ts who f).WF :=
  .ite (w.count ..) (.ite (by split; exacts [w.count .., w.policeFrame]) w.policeFrame)

theorem noteRequest {p ts a f} : (s.noteRequest p ts a f).WF := .ite w.setEport w

theorem goodFrame {p ts f} : (s.goodFrame p ts f).WF := by
  refine .ite ?_ ?_
  · exact ((w.count ..).count ..).count ..
  · dsimp only
    split
    · exact .flowFrame (.touchAll (by split; exacts [(w.count ..).count .., ((w.count ..).count ..).stamp.noteRequest]))
    · refine .ite ?_ ?_
      · exact .writeFrame (.touchAll (by split; exacts [(w.count ..).count .., ((w.count ..).count ..).stamp.noteRequest]))
      · exact .count (.touchAll (by split; exacts [(w.count ..).count .., ((w.count ..).count ..).stamp.noteRequest])) ..

theorem fifoPass {who} : (s.fifoPass who).WF := w.spanTouch.spanEnd

theorem fifoDrop {who} : (s.fifoDrop who).WF := w.fifoPass

theorem sendFrame {p q t ts f} : (s.sendFrame p q t ts f).WF := by
  refine .ite ?_ ?_
  · exact w.fifoDrop
  · dsimp only
    split
    · exact (((w.fifoPass.emit ..).count ..).count ..).setEport
    · refine .ite ?_ ?_
      · exact (((w.fifoPass.emit ..).count ..).count ..).setEport.stamp.setEport
      · exact (((w.fifoPass.emit ..).count ..).count ..).setEport.stamp.maybe fun w5 => w5.setEport

theorem dropHead {p q k} : (s.dropHead p q k).WF := .ite ((w.popPkt.count ..).raiseLimited ..) (w.popPkt.count ..)

omit w in
theorem egress {p ts n c} {s : Hub} (w : s.WF) : (s.egress p ts n c).WF := by
  induction n generalizing c s with
  | zero => exact w
  | succ n ih =>
    unfold Hub.egress
    dsimp only
    split
    · exact .ite w.readHead (ih w.readHead)
    · exact ih w.readHead.dropHead
    · exact ih ((w.readHead.popPkt.count ..).maybe fun w => w.raiseLimited ..)
    · exact .sendFrame (.popPkt (.ite w.readHead.shaperSpend w.readHead))

theorem holdFlow {f who v} : (s.holdFlow f who v).WF := w.frame

theorem commitFlow {f v} : (s.commitFlow f v).WF := w.entryEnd.frame

theorem holdPol {i who v} : (s.holdPol i who v).WF := w.frame

theorem commitPol {i v} : (s.commitPol i v).WF := by
  refine .ite ?_ ?_
  · exact w.raise ..
  · exact (((((((((w.frame.setf ..).setf ..).setf ..).setf ..).setf ..).setf ..).setf ..).setf ..).setf ..).setf ..

theorem writeEgq {p v} : (s.writeEgq p v).WF := by
  refine .ite ?_ ?_
  · exact .maybe (.ite w (.setf (w.foldl fun _ _ w => w.unbindCons) ..)) fun w2 => w2.lockedWrite
  · refine .ite ?_ ?_
    · exact .ite (w.setf ..) w
    · exact .ite (.raise (.ite (w.setf ..) w) ..) (.setf (.foldl (.ite (w.setf ..) w) fun _ _ w2 => w2.bindCons) ..)

theorem writeRelq {p j v} : (s.writeRelq p j v).WF :=
  .ite (.setf (.setf (.ite w.unbindCons w) ..) ..) (.ite (w.raise ..) (.setf (.setf (.bindCons (.ite w.unbindCons w)) ..) ..))

theorem commitGates {p v} : (s.commitGates p v).WF :=
  .ite (w.raise ..) ((((w.setEport.setf ..).setf ..).setf ..).maybe fun w2 => w2.raise ..)

theorem launchFrame {slot p q ts l f} : (s.launchFrame slot p q ts l f).WF := w.sendFrame.launchRan

theorem ptpSent {p kind} : (s.ptpSent p kind).WF := w.setEport

/-! Machine/Trunk.lean -/

theorem attachStep {p a b} : (s.attachStep p a b).WF := by
  refine .ite ?_ ?_
  · exact w.setPort.maybe fun w2 => w2.setf ..
  · refine .ite ?_ ?_
    · exact w.setPort.maybe fun w2 => w2.setf ..
    · refine .ite ?_ ?_
      · exact .ite w.setPort.setPort.chEval (w.setPort.setPort.maybe fun w3 => w3.chReturn)
      · exact w.setPort.maybe fun w2 => w2.setPort

theorem attachPort {p flip} : (s.attachPort p flip).WF :=
  ((((w.setb ..).setf ..).setf ..).setPort.orientPairs.raise ..).startCsup.chReturn.startBringup

theorem detachPort {p} : (s.detachPort p).WF := by
  unfold Hub.detachPort
  extract_lets s1
  have w1 : s1.WF := w.dropLink
  clear_value s1
  exact ((((w1.setf ..).setf ..).setPort.showRecord.setf ..).raise ..).chEval

theorem fixedStart {p} : (s.fixedStart p).WF := .emit (.setPort (.setf (w.foldl fun _ _ w => w.wakePair) ..)) ..

theorem linkFail {p step} : (s.linkFail p step).WF := .ite w ((w.setPort.setf ..).raise ..)

theorem bringupFail {p step} : (s.bringupFail p step).WF := (w.dropLink.setf ..).linkFail

theorem testEnd {p k cap} : (s.testEnd p k cap).WF := (w.setf ..).setPort.maybe fun w2 => w2.sleepPair.raise ..

theorem relink {p} : (s.relink p).WF := w.dropLink.startBringup

theorem writePortCtl {p v} : (s.writePortCtl p v).WF := by
  refine .maybe (.ite ((w.setb ..).dropLink.maybe fun w3 => w3.setf ..) ((w.setb ..).maybe fun w2 => w2.startCsup.startBringup)) fun w3 => ?_
  exact w3.relink

theorem holdPair {p k} : (s.holdPair p k).WF := (w.wakePair.setf ..).maybe fun w2 => (w2.setf ..).setf ..

theorem startPattern {p} : (s.startPattern p).WF := .ite w (w.emit ..)

theorem writeLoopCtl {p v} : (s.writeLoopCtl p v).WF := by
  unfold Hub.writeLoopCtl
  extract_lets +onlyGivenNames _ _ s1 s2
  have ws1 : s1.WF := by
    refine .ite ?_ ?_
    · exact w
    · refine .ite ?_ ?_
      · exact .ite ((w.setf ..).setf ..) (((w.setf ..).setf ..).setf ..)
      · exact .setf (.ite ((w.setf ..).setf ..) (((w.setf ..).setf ..).setf ..)) ..
  refine .maybe (ws1.maybe fun w2 => w2.loopEnd.raise ..) fun w3 => ?_
  split
  exacts [w3.setf .., .startPattern (((w3.startAct.clearCnt ..).setf ..).foldl fun _ _ w4 => w4.holdPair)]

theorem clearFails {p k} : (s.clearFails p k).WF := w.frame

/-! Machine/PowerOps.lean -/

theorem setFaultN {on} : (s.setFaultN on).WF := .ite w (w.frame.emit ..)

theorem fatalWith {cause r} : (s.fatalWith cause r).WF := by
  unfold Hub.fatalWith
  split
  exacts [w.frame, ((((w.frame.setFaultN.setf ..).setf ..).setf ..).setf ..).post ..]

theorem fatalPath {cause detail} : (s.fatalPath cause detail).WF := w.fatalWith

theorem openSetup {d} : (s.openSetup d).WF := w.setf ..

theorem wipeBank {b} : (s.wipeBank b).WF := ⟨Memory.wf_delIf _ w.mem, w.regs, w.cnts, w.cntsOk⟩

theorem dropBindings {d} : (s.dropBindings d).WF := w.frame.claimCheck

theorem domRecords {d} : (s.domRecords d).WF := by
  refine .ite ?_ ?_
  · exact w.frame
  · refine .ite ?_ ?_
    · exact w.frame
    · exact .ite w.frame (.ite w.frame (.ite w.frame (.ite w.ringsOff (.ite w.frame (.ite w.wipeBank (.ite w.frame w))))))

theorem domReset {d} : (s.domReset d).WF := by
  unfold Hub.domReset
  extract_lets s1 mine
  have w1 : s1.WF := w.domRecords.dropBindings
  refine .openSetup ?_
  exact ⟨w1.mem, Tab.wf_delIf _ w1.regs, Tab.wf_delIf _ w1.cnts, w1.all_ok_of_mem fun _ m => Tab.mem_delIf m⟩

theorem canQuiet {c} : (s.canQuiet c).WF := by
  unfold Hub.canQuiet
  split
  exacts [w, w.frame.setf ..]

theorem unitsDown {d} : (s.unitsDown d).WF := by
  refine .ite ?_ ?_
  · exact .gadgetReset (.setf (.setf (.setf (.foldl (w.foldl fun _ _ w => w.tcDisable) fun _ _ w2 => w2.usbGone) ..) ..) ..)
  · refine .ite ?_ ?_
    · exact .ite w.exitDp w
    · refine .ite ?_ ?_
      · exact w.foldl fun _ _ w => .ite w.dspIdle w
      · refine .ite ?_ ?_
        · exact w.foldl fun _ _ w => .ite w.blkIdle w
        · refine .ite ?_ ?_
          · exact w.foldl fun _ _ w => w.canQuiet
          · exact .ite (w.foldl fun _ _ w => w.ethOff) (.ite (.maybe (.ite w.hostReset w) fun w2 => w2.failSlots.blkFail) w)

theorem unitsUp {d} : (s.unitsUp d).WF := by
  refine .ite ?_ ?_
  · exact .regrant (w.foldl fun _ _ w => .ite w.setRp.toUnattached w)
  · exact .ite (w.foldl fun _ _ w => .ite (w.setf ..).dspStart w) (.ite (w.foldl fun _ _ w => .ite (w.setf ..).blkEnable w) w)

theorem planStepAt {d k epoch} : (s.planStepAt d k epoch).WF := w.takePlanStep.maybe fun w2 => w2.unitsDown

theorem restoreFields {fs} : (s.restoreFields fs).WF :=
  ⟨w.mem, List.foldlRecOn (motive := fun t : Tab Nat => Tab.wf t = true) fs _ w.regs fun _ h e _ => Tab.wf_put e.1 e.2 h,
    w.cnts, w.cntsOk⟩

theorem wakeFail {d} : (s.wakeFail d).WF := by
  unfold Hub.wakeFail
  extract_lets +onlyGivenNames _ s1 s1' s2' s2
  have ws2 : s2.WF := by
    refine (((((w.setf ..).setf ..).setf ..).setf ..).writeWakeRec.setDom.count ..).unitsDown.maybe fun w4 => ?_
    exact w4.foldl fun _ _ w5 => w5.raise ..
  exact ws2.maybe fun w5 => .ite (w5.fatalWith.post ..) w5.fatalWith

theorem reapply {d} : (s.reapply d).WF := by
  refine .ite ?_ ?_
  · split
    exacts [w, .regrant (.maybe (w.foldl fun _ _ w => w.writePortCfg) fun w2 => w2.setf ..)]
  · exact .ite (w.setb ..) w

theorem reachL0 {d} : (s.reachL0 d).WF := by
  unfold Hub.reachL0
  extract_lets +onlyGivenNames _ _ _ s0 s1 _ s2
  have ws1 : s1.WF := .maybe (.ite w.frame w) fun w2 => w2.domReset
  have ws2 : s2.WF := ((ws1.setDom.setf ..).setf ..).setf ..
  exact .ite (.ite ws2 ws2.unitsUp) (by split; exacts [.ite ws2.reapply ws2.restoreFields, ws2.reapply])

/-! Machine/ResetOps.lean -/

theorem setStage {n} : (s.setStage n).WF := w.frame

theorem sampleStraps {mode upb} : (s.sampleStraps mode upb).WF := ((((w.setf ..).setb ..).setf ..).setb ..).setf ..

theorem restoreChan {c} : (s.restoreChan c).WF := .chEval (((w.setf ..).setf ..).maybe fun w2 => w2.gateOff.setChState)

theorem holdHub : s.holdHub.WF := .setStage (.setFaultN (w.dropLink.dropLink.foldl fun _ _ w => w.restoreChan))

theorem strapHeld : s.strapHeld.WF := .ite w.linkLost.holdHub.frame w

theorem deviceReset {cls detail} : (s.deviceReset cls detail).WF := by
  unfold Hub.deviceReset
  extract_lets _ _ _ s0 s1 _ _ _ _ s2 s3 s4
  have w1 : s1.WF := by
    have w0 : s0.WF := w.dropLink.dropLink.ringsOff.foldl fun _ _ w => w.emit _
    exact .ite w0 w0.linkLost
  have w2 : s2.WF := by
    refine ⟨?_, Tab.wf_filter _ w1.regs, Tab.wf_filter _ w1.cnts, w1.all_ok_of_mem fun _ m => (List.mem_filter.mp m).1⟩
    unfold s2
    dsimp only
    split
    exacts [Memory.wf_filter _ w1.mem, rfl]
  have w3 : s3.WF := (((((((((w2.setf ..).setf ..).setf ..).setb ..).setf ..).setf ..).setf ..).setf ..).setf ..).setFaultN
  have w4 : s4.WF := .ite w3 (w3.setf ..)
  exact w4.maybe fun w => w.holdHub

theorem enterFailsafe : s.enterFailsafe.WF := by
  refine .ite ?_ ?_
  · exact w
  · refine .maintSweep ?_
    refine .foldl ?_ fun _ _ w5 => ?_
    · refine .setFaultN ?_
      refine .setf ?_ ..
      refine .setf ?_ ..
      refine .setf ?_ ..
      refine .foldl ?_ fun _ _ w3 => ?_
      · refine .frame ?_
        refine .foldl (((w.dropLink.stopCsup.setPort.setf ..).dropLink.stopCsup.setPort.setf ..).foldl fun _ _ w => w.driveTio) fun _ _ w => ?_
        exact w.unitsDown
      · exact .ite ((w3.setf ..).setf ..) ((w3.setDom.setf ..).setf ..)
    · exact w5.restoreChan

theorem leaveFailsafe : s.leaveFailsafe.WF := .deviceReset (.frame (.ite (.setf (.ite (w.setf ..) w) ..) (.ite (w.setf ..) w)))

theorem driveRails {n} : (s.driveRails n).WF := by
  unfold Hub.driveRails
  extract_lets +onlyGivenNames _ s1 _ _ s2 s3
  have ws2 : s2.WF := .foldl (w.frame.foldl fun _ _ w2 => w2.emit ..) fun _ _ w2 => w2.emit ..
  exact .ite ((ws2.setf ..).setf ..) ((ws2.setf ..).setf ..).stopCsup.stopCsup

theorem railFail {i} : (s.railFail i).WF := (w.raise ..).driveRails.frame.setFaultN

theorem flashErase {lo hi} : (s.flashErase lo hi).WF := w.frame

theorem flashWrite {a bs} : (s.flashWrite a bs).WF := w.frame

theorem takeRegion : s.takeRegion.WF := .count (w.fence.foldl fun _ _ w2 => w2.flushLossy) ..

theorem releaseRegion : s.releaseRegion.WF :=
  .ite (.setf (.unfence (s := { s with lineMem := _ }) ⟨Memory.wf_delIf _ w.mem, w.regs, w.cnts, w.cntsOk⟩) ..) w

/-! Machine/MaintOps.lean -/

theorem writeFlipCtl {v} : (s.writeFlipCtl v).WF := .ite w.lockedWrite (.setb (.ite w (w.setf ..)) ..)

theorem writeFlipMask {i v} : (s.writeFlipMask i v).WF := .ite w (by split; exacts [w.setf .., w.setf .., w.setf ..])

theorem applyFlip {who} : (s.applyFlip who).WF := .ite (.count (.setf (.ite w.eccEnd w.eccEnd.frame) ..) ..) w

theorem clearLog : s.clearLog.WF := w.foldl fun _ _ w => w.resetFields ..

theorem advise {reason target} : (s.advise reason target).WF := w.raiseSev ..

theorem adviseNew {reason target} : (s.adviseNew reason target).WF := .ite w w.advise.frame

theorem noteStaged {kind target value} : (s.noteStaged kind target value).WF := w.frame.raise ..

theorem deriveAvs : s.deriveAvs.WF := .ite w (.ite w.adviseNew (.ite (w.setf ..).noteStaged.frame w))

theorem avsFresh : s.avsFresh.WF := .ite w (.emit (.setf (.setf (.ite w.frame w) ..) ..) ..)

theorem deriveAssist {m} : (s.deriveAssist m).WF := .ite w (.ite w.adviseNew (.ite (w.setf ..).noteStaged.frame w))

theorem deriveMargins : s.deriveMargins.WF := w.deriveAvs.foldl fun _ _ w => w.deriveAssist

theorem deriveRow {p k} : (s.deriveRow p k).WF := .ite w (.ite (.ite w w.setLane.sendHop.noteStaged) w.adviseNew)

theorem scanEnd {p k pts} : (s.scanEnd p k pts).WF := ((((w.setf ..).setf ..).setf ..).setf ..).frame.deriveRow

theorem applyAvs {S} : (s.applyAvs S).WF := by
  unfold Hub.applyAvs
  split
  exacts [.ite ((w.frame.setf ..).emit ..) w, w]

theorem applyAssist {S} : (s.applyAssist S).WF := w.foldl fun _ _ w => .ite (w.frame.setf ..) w

theorem applyRows {S} : (s.applyRows S).WF := w.foldl fun _ _ w => .ite ((w.setLane.setRow.setf ..).setf ..).dropScan w

theorem applyMargins {S} : (s.applyMargins S).WF := .frame (w.applyAvs.applyAssist.applyRows.foldl fun _ _ w2 => w2.advise)

theorem maintResult {code tag id excl} : (s.maintResult code tag id excl).WF := (((w.setf ..).setf ..).setb ..).setf ..

theorem beginAct {l} : (s.beginAct l).WF := by
  unfold Hub.beginAct
  split
  exacts [w.fence, w.outRow, w]

theorem request {t tag target} : (s.request t tag target).WF := by
  unfold Hub.request
  split
  · exact .ite w.maintResult w.maintResult
  · split
    exacts [w.maintResult, .ite w.startAct.beginAct.maintResult w.maintResult]

theorem writeMaintReq {v} : (s.writeMaintReq v).WF := .maybe (.setf (.setf (.ite (w.setf ..) w) ..) ..) fun w3 => w3.request

theorem writeMaintStop {v} : (s.writeMaintStop v).WF := by
  unfold Hub.writeMaintStop
  split
  exacts [.ite w w.abortAct, w]

/-! Machine/Maint.lean -/

theorem roSample {n delta temp} : (s.roSample n delta temp).WF :=
  .setf (.setf (.setf (w.frame.maybe fun w2 => w2.avsFresh) ..) ..) ..

theorem failRow {b x} : (s.failRow b x).WF := by
  unfold Hub.failRow
  dsimp only
  split
  exacts [w.frame.logError.outRow, w.frame.logError]

theorem doneAct {a progress result} : (s.doneAct a progress result).WF := (((w.setf ..).setf ..).raise ..).endAct

theorem finishAct {a r} : (s.finishAct a r).WF := by
  unfold Hub.finishAct
  split
  · exact .ite w.frame.doneAct w
  · exact .ite (.doneAct (.unfence (w.zeroCells.foldl fun _ _ w => w.failRow))) w
  · exact (w.frame.raise ..).doneAct
  · exact w.roSample.roSample.deriveMargins.doneAct
  · exact .ite w (w.setf ..).doneAct
  · exact .doneAct (.maybe (.ite (w.raise ..) w) fun w2 => w2.raise ..)
  · exact w

/-! Machine/SwitchOps.lean -/

theorem unbindTun {t u} : (s.unbindTun t u).WF := w.foldl fun _ _ w => .ite w.unbindProd w.unbindCons

theorem bindTun {t u} : (s.bindTun t u).WF := w.foldl fun _ _ w => .ite w (.ite (.ite w w.bindProd) (.ite w w.bindCons))

theorem installTunnels {new} : (s.installTunnels new).WF := by
  refine .foldl (.frame (.spanEnd (.count (.foldl (w.foldl fun _ _ w => w.unbindTun) fun _ _ w2 => w2.flushQ) ..))) fun _ _ w4 => ?_
  exact w4.bindTun

theorem setPair {p k el use} : (s.setPair p k el use).WF := by
  unfold Hub.setPair
  extract_lets +onlyGivenNames _ s1 s2 _ s3
  have ws2 : s2.WF := .ite ((w.setf ..).setf ..) (((w.setf ..).setf ..).setf ..)
  refine .ite ?_ ?_
  · refine .ite ?_ ?_
    · exact .setf (.ite ws2.setLane ws2.setLane.wakePair.clearFails) ..
    · exact .maybe (.ite ws2.setLane ws2.setLane.wakePair.clearFails) fun w5 => w5.seekLock
  · exact .ite ws2.setLane ws2.setLane.sleepPair.clearFails

theorem setPairs {pairs use} : (s.setPairs pairs use).WF := w.frame.foldl fun _ _ w => .ite w w.setPair

theorem livePairs {p} : (s.livePairs p).WF := by
  unfold Hub.livePairs
  split
  exacts [w, w.foldl fun _ _ w => .setf (.setPair (.ite w (w.setf ..))) ..]

theorem setSteps {steps epoch src} : (s.setSteps steps epoch src).WF :=
  .foldl (.foldl (w.foldl fun _ _ w => w.setf ..) fun _ _ w2 => w2.wakeDom) fun _ _ w3 => w3.planStepAt

theorem keepPrev {at'} : (s.keepPrev at').WF := w.frame

theorem clearRing {chain} : (s.clearRing chain).WF :=
  (((((((w.frame.setf ..).setf ..).setf ..).setf ..).setf ..).setf ..).setf ..).setf ..

theorem countSwitch {at'} : (s.countSwitch at').WF := w.set64.count ..

theorem showPlan {epoch bank hyper reason transparent} : (s.showPlan epoch bank hyper reason transparent).WF :=
  ((((w.setf ..).setf ..).setf ..).setf ..).setb ..

theorem setCarve {cells} : (s.setCarve cells).WF := w.applyCarve.dspCarve

theorem afterChange : s.afterChange.WF := w.blkSwitch.frame.maintSweep

theorem switchInto {c a} : (s.switchInto c a).WF := by
  unfold Hub.switchInto
  extract_lets +onlyGivenNames s1 _ s2 s3 s4 s5 s6 s7 s8 s9
  have ws2 : s2.WF := w.keepPrev.frame.showPlan.setPend
  have ws3 : s3.WF := ws2.installTunnels.setPairs
  have ws4 : s4.WF := ws3.applyMargins.foldl fun _ _ w4 => w4.applyShpElem
  have ws5 : s5.WF := ws4.foldl fun _ _ w5 => w5.planGates
  have ws6 : s6.WF := by
    unfold s6
    split
    exacts [ws5.liftFence, ws5.setCarve]
  have ws8 : s8.WF := ws6.setSteps.clearRing.foldl fun _ _ w7 => w7.wakeDom
  have ws9 : s9.WF := ws8.countSwitch.setf ..
  exact .afterChange (ws9.maybe fun w10 => w10.raise ..)

theorem prepareSwitch {c} : (s.prepareSwitch c).WF := .foldl (w.foldl fun _ _ w => .ite w.wakeDom w) fun _ _ w2 => w2.wakeDom

theorem goTransparent {reason epoch at' switch} : (s.goTransparent reason epoch at' switch).WF := by
  unfold Hub.goTransparent
  extract_lets +onlyGivenNames s1 _ _ s2 s3 s4
  have ws4 : s4.WF := .maybe (.setSteps (.setPairs (.showPlan (.frame (.ite w.keepPrev w))))) fun w4 => w4.clearRing.countSwitch.applyMargins
  exact ((ws4.count ..).raise ..).afterChange

theorem keepPending : s.keepPending.WF := .ite w.frame.liftFence.setPend w.frame.liftFence.planDiscard.setPend

theorem revertNet {c} : (s.revertNet c).WF :=
  .foldl (w.foldl fun _ _ w => w.applyShpElem) fun _ _ w2 => ((w2.setb ..).setb ..).takeGates

theorem revert {v} : (s.revert v).WF := by
  unfold Hub.revert
  extract_lets +onlyGivenNames _ now _ s1 _ s2 s3 s4
  have ws1 : s1.WF := by
    clear_value now
    unfold s1
    split
    exacts [w.revertNet, w]
  have ws4 : s4.WF := ws1.frame.showPlan.installTunnels.setPairs.setCarve.setSteps.setf ..
  exact (ws4.raise ..).planReady.afterChange

/-! Machine/Plans.lean -/

theorem answerDigest {p body} : (s.answerDigest p body).WF := by
  unfold Hub.answerDigest
  dsimp only
  split
  exacts [w, .ite w.sendHop w]

theorem prepareAt : s.prepareAt.WF := by
  unfold Hub.prepareAt
  split
  exacts [.ite w.prepareSwitch w, w]

theorem switchAt : s.switchAt.WF := by
  unfold Hub.switchAt
  split
  exacts [.ite w.switchInto w, w]

theorem transparentAt : s.transparentAt.WF := by
  unfold Hub.transparentAt
  split
  exacts [.ite w.goTransparent.keepPending w, w]

theorem entryAt : s.entryAt.WF := by
  unfold Hub.entryAt
  split
  exacts [w, w.frame.goTransparent]

theorem planBAt : s.planBAt.WF := by
  unfold Hub.planBAt
  split
  · exact w
  · refine .ite ?_ ?_
    · dsimp only
      split
      · exact .setf (by split; exacts [w.revert, w]) ..
      · refine .ite ?_ ?_
        · exact .raise (.turnHeadPort (.setf (by split; exacts [w.revert, w]) ..)) ..
        · exact .turnHeadPort (.setf (by split; exacts [w.revert, w]) ..)
    · exact w

theorem changesAt : s.changesAt.WF := w.prepareAt.planBAt.entryAt.switchAt.transparentAt

/-! Machine/PowerFlow.lean -/

theorem entryDone {d} : (s.entryDone d).WF := by
  unfold Hub.entryDone
  extract_lets +onlyGivenNames _ _ s1 s1' _ s1''
  have ws1 : s1.WF := (w.setDom.setf ..).setf ..
  have ws1' : s1'.WF := ws1.maybe fun w2 => w2.spanEnd
  have ws1'' : s1''.WF := ws1'.maybe fun w3 => w3.frame
  split
  exacts [ws1''.startExit, ws1''.setDom.moveDom, ws1'']

theorem exitDone {d t} : (s.exitDone d t).WF := by
  unfold Hub.exitDone
  dsimp only
  split
  exacts [w.reachL0.writeWakeRec.startEntry, w.reachL0.writeWakeRec]

theorem setLaneFail {d k x} : (s.setLaneFail d k x).WF := w.frame

theorem laneRetry {d k t} : (s.laneRetry d k t).WF := by
  refine .ite ?_ ?_
  · exact w
  · refine .ite ?_ ?_
    · exact (w.upTo.writeWakeRec.frame.setLane.setf ..).raise ..
    · refine .ite ?_ ?_
      · exact w.upTo.writeWakeRec.setLaneFail.count ..
      · exact ((((w.upTo.writeWakeRec.setLaneFail.count ..).raise ..).setLane.setf ..).raise ..).sendHop

theorem domRetry {d t} : (s.domRetry d t).WF := by
  unfold Hub.domRetry
  dsimp only
  split
  · exact (w.setDom.reachL0.setf ..).writeWakeRec.raise ..
  · exact .ite ((w.setf ..).writeWakeRec.count ..) (((w.setf ..).writeWakeRec.count ..).raise ..)

theorem writeDomCtl {d v} : (s.writeDomCtl d v).WF := .ite ((w.setDom.setf ..).setf ..) w

theorem clearRefuse {d} : (s.clearRefuse d).WF := (((w.setf ..).setf ..).setf ..).setf ..

/-! Machine/Startup.lean -/

theorem afterPower : s.afterPower.WF := ⟨rfl, Tab.wf_filter _ w.regs, rfl, rfl⟩

theorem enableRail {n pgHigh} : (s.enableRail n pgHigh).WF := w.driveRails.frame.maybe fun w3 => (w3.setf ..).railFail

theorem runSlot {i first} : (s.runSlot i first).WF := ((((((w.setf ..).setb ..).setf ..).setf ..).setf ..).setf ..).flashErase.frame

theorem askReset {b cls detail at'} : (s.askReset b cls detail at').2.WF := by
  unfold Hub.askReset
  dsimp only
  split
  · exact w.frame
  split
  exacts [w, w.frame]

theorem writeReset {v} : (s.writeReset v).WF := .ite w.askReset w

theorem startDomReset {d} : (s.startDomReset d).WF := .setf (.startExit (.setf (.setDom (.unitsDown (.ite w.hostReset w))) ..)) ..

theorem dumpPrepare : s.dumpPrepare.WF := by
  unfold Hub.dumpPrepare
  split
  exacts [w, .ite w.takeRegion w]

/-! Machine/Security.lean -/

theorem wipeMitten : s.wipeMitten.WF := ((((w.resetFields ..).resetFields ..).resetFields ..).resetFields ..).frame

theorem writeLcCtl {v} : (s.writeLcCtl v).WF :=
  .ite w (.ite ((w.setf ..).wipeMitten.setf ..).frame.lockSession.deviceReset (w.raise ..))

theorem writeBootCtl {v} : (s.writeBootCtl v).WF := .maybe (.ite (w.frame.setf ..) w) fun w2 => w2.frame

theorem writeKhashCtl {v} : (s.writeKhashCtl v).WF := .maybe (.ite w.frame w) fun w2 => by split; exacts [w2, w2.frame]

theorem showKeys : s.showKeys.WF := w.setf ..

theorem writeKeyCtl {v} : (s.writeKeyCtl v).WF := by
  refine .ite ?_ ?_
  · exact .ite ((w.count ..).raise ..) (by split; exacts [(w.count ..).raise .., w.frame.showKeys])
  · exact .ite (.ite w.frame.showKeys w) w

theorem loadBlobs : s.loadBlobs.WF := by
  unfold Hub.loadBlobs
  dsimp only
  split
  exacts [w, w.frame.showKeys]

theorem noKeyCheck : s.noKeyCheck.WF := .ite (w.frame.raise ..) w

theorem dbgEnd : s.dbgEnd.WF := w.frame.setf ..

theorem dbgChallenge : s.dbgChallenge.WF := .ite w (w.frame.frame.foldl fun _ _ w => w.setf ..)

theorem dbgProve : s.dbgProve.WF := .ite ((w.frame.setf ..).raise ..) (w.frame.raise ..)

theorem writeDbgCtl {v} : (s.writeDbgCtl v).WF :=
  .maybe (.maybe (((w.setf ..).setf ..).maybe fun w2 => w2.dbgChallenge) fun w3 => w3.dbgProve) fun w4 => w4.dbgEnd

theorem writeFlashCmd {v} : (s.writeFlashCmd v).WF := .ite w (.ite (w.frame.setf ..) (w.setf ..))

/-! Machine/SignalMap.lean -/

theorem routeCapture {rec'} : (s.routeCapture rec').WF :=
  .maybe (.maybe (.ite (w.raise ..) w) fun w2 => w2.mapInput) fun w3 => w3.count ..

theorem routeOne {q} : (s.routeOne q).WF := by
  unfold Hub.routeOne
  split
  next e => exact w.readHead.of_eq_pair e
  next e =>
    have w1 := w.readHead.of_eq_pair e
    exact .ite w1 w1.popPkt.routeCapture

theorem routeQueue {q} : (s.routeQueue q).WF := by
  unfold Hub.routeQueue
  split
  exacts [w, w.foldl fun _ _ w => w.routeOne]

theorem holdSig {i who v} : (s.holdSig i who v).WF := w.frame

theorem commitSig {i v} : (s.commitSig i v).WF := w.entryEnd.frame

theorem sendSig {t os} : (s.sendSig t os).WF := by
  unfold Hub.sendSig
  split
  exacts [w.count .., .ite w.producePkt (w.count ..)]

theorem takeSig {q} : (s.takeSig q).WF := by
  unfold Hub.takeSig
  split
  next e => exact w.readHead.of_eq_pair e
  next e =>
    have w1 := w.readHead.of_eq_pair e
    exact .ite w1 (.ite (w1.popPkt.frame.count ..) w1.popPkt.frame.frame)

theorem takeSigs : s.takeSigs.WF := w.foldl fun _ _ w => w.foldl fun _ _ w2 => w2.takeSig

/-! Machine/Router.lean -/

theorem readMbData {off} : (s.readMbData off).2.WF := w.mbTouch

theorem readWord {off} : (s.readWord off).2.WF := by
  unfold Hub.readWord
  split
  · exact w
  split
  · exact w.readMbData
  split
  · exact w
  split
  · exact w.latchTime
  split
  exacts [w.readQrpLow, w.readQrpHigh, w, w, w, w]

theorem writeField {off ix v f} : (s.writeField off ix v f).2.WF := by
  unfold Hub.writeField
  dsimp only
  split
  · split
    exacts [w, w.setf ..]
  · exact w.setf ..
  · exact w.setf ..
  · exact w.setf ..
  · split
    · exact w
    split
    exacts [w.setf .., w]
  all_goals exact w

theorem writeFields {r off ix v} : (s.writeFields r off ix v).WF := by
  have turns : (r.fields.reverse.foldl (Hub.fieldTurn off ix v) (false, s)).2.WF :=
    List.foldlRecOn (motive := fun a : Bool × Hub => a.2.WF) _ _ w fun _ w _ _ => w.writeField
  rw [Hub.writeFields_eq]
  exact .ite turns.lockedWrite turns

theorem writeLow {off v} : Hub.AllWF (s.writeLow off v) := by
  unfold Hub.writeLow
  split
  · exact .ite (.some w.writeReset) (.ite (.some (((w.setf ..).setf ..).setf ..)) (.ite (.some (.ite w.releaseRegion w)) .none))
  · refine .ite (.some w.writeNudge) ?_
    split
    exacts [.ite (.some w) .none, .some w.writeRingCfg, .ite (.some w) .none, .ite (.some w) .none, .some w.writeMsixCtl, .none]
  · split
    exacts [.some w.writePortCtl, .some w.writeLoopCtl, .none]
  · refine .ite (.some w.writeGenLow) (.ite (.some (.ite w.setQueue w)) (.ite (.some w.writeQctl) ?_))
    split
    exacts [.some w.writeQrpSel, .some w.writeProfMin, .some w.writeProfMax,
      .some (w.foldl fun _ _ w => .ite w.setQueue w), .some w.writeQcfg, .none]
  · exact .none

theorem writeMid {off v} : Hub.AllWF (s.writeMid off v) := by
  unfold Hub.writeMid
  split
  · refine .ite (.some w.writeGmCfg) (.ite (.some w.writeTioLevel) ?_)
    split
    exacts [.some w.writeOrigin, .some w.writeTioCfg, .none]
  · dsimp only
    split
    exacts [.some w.writeEgq, .some (((w.setb ..).setb ..).maybe (fun w => w.clearGatePend) |>.maybe fun w => w.commitGates),
      .ite (.some w.writeRelq) .none, .some (.ite w.commitPol (.ite w.holdPol w)), .none]
  · exact .map fun _ => w.writeBlkCfg
  · split
    exacts [.some w.writeHeadCfg, .some w.writeFrz, .some w.writeFrz, .some w.writeFrz, .none]
  · refine .ite (.some w.writeWinClear) ?_
    split
    exacts [.some w.writeWinCfg, .some w.writeCanCfg, .some w.writeTxreq, .some w.writeTxreq, .none]
  · exact .none

theorem writeTcpCtl {n v} : (s.writeTcpCtl n v).WF :=
  .maybe (.maybe (.maybe (.ite w.recaps w) fun w2 => w2.tcHardReset) fun w3 => w3.vconnTake) fun w4 => w4.dpExit

theorem writeHigh {off v} : Hub.AllWF (s.writeHigh off v) := by
  unfold Hub.writeHigh
  split
  · split
    exacts [.some w.writePortCfg, .some w.writeTcpCtl, .none]
  · split
    exacts [.some w.writeChCfg, .some (.ite w.chClear w), .some (w.setf ..), .some (.ite w.commitGnt w.holdGnt), .none]
  · split
    exacts [.some w.writeDomMode, .some w.writeDomCtl, .some w.clearRefuse, .none]
  · exact .ite (.some w.writeFlipCtl) (.ite (.some (.ite w.clearLog w)) (.ite (.some w.writeMaintReq)
      (.ite (.some w.writeMaintStop) (.map fun _ => w.writeFlipMask))))
  · exact .ite (.some w.writeLcCtl) (.ite (.some w.writeBootCtl) (.ite (.some w.writeKhashCtl)
      (.ite (.some w.writeKeyCtl) (.ite (.some w.writeDbgCtl) (.ite (.some w.writeFlashCmd) .none)))))
  · exact .none

theorem gadgetGone : s.gadgetGone.WF := .ite w w.usbGone.gadgetReset

theorem afterWrite {off} : (s.afterWrite off).WF := by
  exact .ite w.regrant (.ite w.gadgetGone (by split; exacts [.ite w w.ethOff, .ite w w.restartQualify, w.restartQualify, w]))

theorem writeWindow {off v} : (s.writeWindow off v).WF :=
  .ite w (.ite (.ite w w.lockedWrite) (.ite (.ite w.commitFlow w.holdFlow) (.ite w.commitSig w.holdSig)))

theorem writeWord {off v} : (s.writeWord off v).WF := by
  refine .ite (.ite w.lockedWrite w) (.ite w.writeWindow ?_)
  split
  · exact w.clearCnt ..
  split
  next e => exact (w.writeLow.orElse (w.writeMid.orElse w.writeHigh)) _ e
  · split
    exacts [w.writeFields.afterWrite, w]

omit w in
theorem readWords {n off} {s : Hub} (w : s.WF) : (s.readWords n off).2.WF := by
  induction n generalizing off s with
  | zero => exact w
  | succ n ih =>
    refine ih ?_
    split
    exacts [w.readWord, w]

omit w in
theorem writeWords {vs off i first} {s : Hub} (w : s.WF) : (s.writeWords vs off i first).2.WF := by
  induction vs generalizing off i first s with
  | nil => exact w
  | cons v t ih => exact ih (.ite w.writeWord w)

theorem barRead {off size} : (s.barRead off size).WF := by
  refine .ite ?_ ?_
  · exact (w.raise ..).emit ..
  · exact .ite (w.readWord.emit ..) (by split; exacts [w.readQrpLow.emit .., w.readWord.readWord.emit ..])

theorem barWrite {off size v} : (s.barWrite off size v).WF := .ite (w.raise ..) (.ite w.writeWord w.writeWord.writeWord)

/-! Machine/BoardConfig.lean -/

theorem applyLpwCfg {bs} : (s.applyLpwCfg bs).WF := w.foldl fun _ _ w => .ite w.writeWord w

theorem applyTcpCfg {bs} : (s.applyTcpCfg bs).WF := .frame (.writeWord (w.foldl fun _ _ w => w.writePortCfg))

theorem applyCfgRecord {r} : (s.applyCfgRecord r).WF := by
  unfold Hub.applyCfgRecord
  split
  exacts [w.frame, w.applyLpwCfg, w.applyTcpCfg, w.frame, w.frame.setb .., w.frame, w]

theorem eqCheck : s.eqCheck.WF := by
  unfold Hub.eqCheck
  split
  exacts [w.raiseSev .., w.foldl fun _ _ w => .ite (w.raise ..) w]

theorem applyCfg {i} : (s.applyCfg i).WF := .setf (w.foldl fun _ _ w => w.applyCfgRecord) ..

/-! Machine/Commands.lean -/

theorem startCmd {op who allowed formed may} : (s.startCmd op who allowed formed may).2.WF := by
  unfold Hub.startCmd
  split
  · exact w
  split
  · exact w
  iterate 3
    split
    · exact w.finish
  exact w

theorem dmaEnd {who j} : (s.dmaEnd who j).WF := w.dmaFail.finish

theorem openReq {who j left own} : (s.openReq who j left own).2.WF := w.takeJob.newReq

theorem sendReq {who j type left body} : (s.sendReq who j type left body).WF := .ite w.finish w.openReq.send.closeBcast

theorem readBack {who idx d status bytes ok} : (s.readBack who idx d status bytes ok).2.WF := by
  unfold Hub.readBack
  split
  · exact w
  split
  · exact w
  split
  exacts [w.emit _, (w.count ..).raise ..]

theorem finishLive {who j hub status result} : (s.finishLive who j hub status result).WF := .ite w.finish w

theorem sendFragment {hub x} : (s.sendFragment hub x).WF := w.send

omit w in
theorem sendLoad {hub n x} {s : Hub} (w : s.WF) : (s.sendLoad hub n x).2.WF := by
  induction n generalizing x s with
  | zero => exact w
  | succ n ih =>
    unfold Hub.sendLoad
    split
    exacts [ih w.sendFragment, w]

theorem setLoad {x} : (s.setLoad x).WF := w.frame

theorem pumpLoads : s.pumpLoads.WF := by
  refine List.foldlRecOn (motive := fun a : List Nat × Hub => a.2.WF) _ _ w fun a w x _ => ?_
  split
  · exact w
  split
  exacts [w, w.sendLoad.setLoad]

theorem armCommand {op who} : (s.armCommand op who).WF := by
  unfold Hub.armCommand
  split
  next e => exact w.startCmd.of_eq_pair e
  next j t e =>
    have wt := w.startCmd.of_eq_pair e
    extract_lets _ alone ok st act type body
    have wa {u : Hub} (w : u.WF) : (act u).2.WF := by
      dsimp only [act]
      split
      exacts [w.takeArm, w.takeDisarm]
    exact .ite (wa wt).finish (.ite wt.sendReq (wa wt.openReq.send).answer)

theorem postLater {src cancel at' recs} : (s.postLater src cancel at' recs).WF := w.frame

/-! Machine/Brim.lean -/

theorem setSync {p y} : (s.setSync p y).WF := w.frame

omit w in
theorem takeCells {q n} {s : Hub} (w : s.WF) : (s.takeCells q n).2.WF := by
  induction n generalizing s with
  | zero => exact w
  | succ n ih =>
    unfold Hub.takeCells
    split
    next e => exact w.takeCellQ.of_eq_pair e
    next e => exact ih (w.takeCellQ.of_eq_pair e)

theorem brimCells {p} : (s.brimCells p).2.WF := w.takeCells.takeCells

theorem relayOne : s.relayOne.WF := by
  unfold Hub.relayOne
  split
  exacts [w, w.frame.send]

omit w in
theorem relayEvents {n} {s : Hub} (w : s.WF) : (s.relayEvents n).WF := by
  induction n generalizing s with
  | zero => exact w.trimEvents
  | succ n ih => exact .ite (ih w.relayOne) w.trimEvents

theorem announce : s.announce.WF := .ite w (w.frame.foldl fun _ _ w2 => w2.frame.sendLocal)

theorem postSwitch : s.postSwitch.WF := .ite (w.frame.raise ..) w

theorem sendBrim {p tx} : (s.sendBrim p tx).WF := w.brimCells.setTport.emit ..

theorem fillRange {p adj} : (s.fillRange p adj).WF := w.foldl fun _ _ w => .ite (w.raiseLimited ..) w

theorem syncMiss {p} : (s.syncMiss p).WF := (w.count ..).setSync.frame

theorem noteEpoch {p epoch} : (s.noteEpoch p epoch).WF := w.frame

theorem linkComesUp {p} : (s.linkComesUp p).WF := ((w.setf ..).setPort.livePairs.ringView.raise ..).digestOnLink

theorem syncTime {p rx f} : (s.syncTime p rx f).WF := .pathCheck (w.setTport.maybe fun w2 => w2.measure)

theorem syncPlan {p f} : (s.syncPlan p f).WF :=
  .maybe (.maybe (.ite w.segmentRing w) fun w2 => w2.noteEpoch) fun w3 => w3.learnBreak

theorem takeSync {p rx f} : (s.takeSync p rx f).WF :=
  .ite w.headConflict (.syncPlan (.syncTime (w.setSync.setPort.maybe fun w2 => w2.linkComesUp)))

/-! Machine/Dump.lean -/

theorem dumpWrite {target bs} : (s.dumpWrite target bs).WF := by
  exact .ite (by split; exacts [w, (w.emit ..).finish]) (.ite (w.flashWrite.setf ..).frame ((w.memStore ..).setf ..))

/-! Machine/Messages.lean -/

theorem hopWrite {pos off v} : (s.hopWrite pos off v).2.WF := by
  unfold Hub.hopWrite
  split
  · exact w
  split
  exacts [w.writeWords, w]

theorem readResponse {m ok} : (s.readResponse m ok).WF := by
  unfold Hub.readResponse
  split
  exacts [w.answer, .ite w.answer w.readBack.answerData]

theorem planReport {m} : (s.planReport m).WF := by
  refine .ite ?_ ?_
  · split
    exacts [w, w.answer]
  · exact .ite (by split; exacts [w, w.answer]) (.ite (by split; exacts [w, by split; exacts [w, w.setLoad]]) w)

/-! Machine/Ring.lean -/

theorem checkerBrim {p found errs} : (s.checkerBrim p found errs).WF := (w.setb ..).maybe fun w2 => w2.count ..

/-! Machine/Ticks.lean -/

theorem servoUpdate : s.servoUpdate.WF := .ite w w.servoRate.pathBetter

theorem startLoop {c} : (s.startLoop c).WF :=
  .ite w.frame.servoUpdate.issuePolls (w.frame.maybe fun w2 => .pumpLoads (.drainDone (.ite w2 w2.frame)))

theorem skipLoops {c n} : (s.skipLoops c n).WF := (w.count ..).maybe fun w2 => w2.count ..

theorem overrun {c ns} : (s.overrun c ns).WF := (w.raise ..).count ..

theorem startLoops : s.startLoops.WF := .ite (w.foldl fun _ _ w => .ite w w.startLoop) w

theorem snapshot : s.snapshot.WF := w.frame.snapshotPool

theorem retryMarkers : s.retryMarkers.WF := w.foldl fun _ _ w => w.foldl fun _ _ w2 => w2.writeMarker

theorem codeRead : s.codeRead.WF := by
  unfold Hub.codeRead
  dsimp only
  split
  exacts [w.touchAll.maybe fun w2 => w2.fatalPath, w.touchAll]

theorem boundaryWork : s.boundaryWork.WF := by
  unfold Hub.boundaryWork
  extract_lets +onlyGivenNames s1 s2 s3
  have ws3 : s3.WF := by
    refine .startLoops ?_
    refine .gadgetFlush ?_
    refine .tickMessages ?_
    refine .pageRead ?_
    refine .codeRead ?_
    refine .tableReads ?_
    exact .peerCheck (w.changesAt.allGatesAt.refillShapers.refillPolicers.retryMarkers.snapshot.foldl fun _ _ w2 => w2.lpwPublish)
  exact ws3.frame

end
end Hub.WF

/-- Whatever next state the outcome `o` of a step has, its hub's data are in form. -/
def KeepsForm (o : Outcome State Fault Refusal) : Prop := ∀ t, o = .next t → t.hub.WF

namespace Hub.WF

/-! The signal map (R331 to R335): a pass writes mailboxes and counts as its entries fire. -/

theorem mapPut {P : MapPass} {o : SigOut} (w : P.st.WF) : (P.put o).st.WF := by
  unfold MapPass.put
  split
  · exact w
  split
  · dsimp only
    exact w.count ..
  · exact w

theorem mapFire {P : MapPass} {x : MapIn} {i : Nat} {e : List Nat} {v : Int} (w : P.st.WF) : (P.fire x i e v).st.WF := by
  unfold MapPass.fire
  extract_lets w1 w3 y noted c m len start
  have wn {t : Hub} (w : t.WF) : (noted t).WF := w.frame
  clear_value noted
  split
  · split
    · dsimp only
      exact w.count ..
    · exact wn (.ite (w.setMbData.count ..) w.setMbData)
  · exact wn w.mapPut

theorem mapTry {P : MapPass} {x : MapIn} {i : Nat} {e : List Nat} (w : P.st.WF) : (P.try' x i e).st.WF := by
  unfold MapPass.try'
  split
  · dsimp only
    exact w.count ..
  split
  exacts [w, w.mapFire]

theorem mapEntries {x : MapIn} {es : List (Nat × List Nat)} {P : MapPass} (w : P.st.WF) :
    (mapEntries x es P).1.st.WF := by
  induction es generalizing P with
  | nil => exact w
  | cons e es ih =>
    rw [Machine.mapEntries]
    split
    · exact ih w
    split
    exacts [w, ih w.mapTry]

theorem mapInputs {es : List (Nat × List Nat)} {xs : List MapIn} {P : MapPass} (w : P.st.WF) :
    (mapInputs es xs P).1.st.WF := by
  induction xs generalizing P with
  | nil => exact w
  | cons x xs ih =>
    unfold Machine.mapInputs
    dsimp only
    split
    exacts [ih w.mapEntries, ih w.mapEntries]

end Hub.WF

namespace KeepsForm

theorem on {s : State} {f : Hub → Hub} (h : (f s.hub).WF) : KeepsForm (s.on f) := by
  rintro _ ⟨⟩
  exact h

section
variable {s : State} (w : s.hub.WF)
include w

/-! Machine/Block.lean -/

theorem blkPortEnable {d v} : KeepsForm (execBlkPortEnable d v s) := .on w.writeBlkCfg

theorem blkPortDisable {d} : KeepsForm (execBlkPortDisable d s) := .on (.ite w.blkDown w)

theorem blkPerstRelease {d} : KeepsForm (execBlkPerstRelease d s) := .on (.ite (w.setRport.emit ..) w)

theorem blkLinkUp {d speed width nvme cap ready admin mdts} : KeepsForm (execBlkLinkUp d speed width nvme cap ready admin mdts s) :=
  .on (.ite (((w.setRport.setf ..).setf ..).setf ..).blkSetup (.ite w.nvmeSetup w))

theorem blkBringupFail {d cause} : KeepsForm (execBlkBringupFail d cause s) := .on (.ite w.blkFail w)

theorem blkBringupRetry {d} : KeepsForm (execBlkBringupRetry d s) := .on (.ite w.blkStart w)

theorem blkCtrlReset {d} : KeepsForm (execBlkCtrlReset d s) := .on (.ite ((((w.failSlots.setf ..).emit ..).count ..).raise ..) w)

theorem blkLinkDown {d} : KeepsForm (execBlkLinkDown d s) :=
  .on (.ite (((((w.failSlots.count ..).raise ..).raise ..).setf ..).setf ..).blkStart w)

theorem blkDevTimeout {d i} : KeepsForm (execBlkDevTimeout d i s) := by
  refine .on ?_
  split
  exacts [w, .ite (w.blkRespond.setSlot.submit.raise ..) w]

theorem nvmeCqeReceive {d q lbads} : KeepsForm (execNvmeCqeReceive d q lbads s) := by
  refine .on ?_
  exact .ite w (.ite (w.setRport.emit ..).setRport ((w.setRport.emit ..).maybe fun w2 => .slotAnswer (.ite w2 (w2.count ..))))

theorem ssdInboundAccess {d a write len bytes} : KeepsForm (execSsdInboundAccess d a write len bytes s) := by
  refine .on ?_
  refine .ite ?_ ?_
  · split
    next e => exact w.ssdWrite _ e
    · exact ((w.count ..).raiseLimited ..).emit ..
  · split
    exacts [w.emit .., ((w.count ..).raiseLimited ..).emit ..]

theorem blkCommandIssue {t} : KeepsForm (execBlkCommandIssue t s) := by
  refine .on ?_
  split
  exacts [.ite w.frame.blkIssue w, w]

theorem blkRead {who} : KeepsForm (execBlkRead who s) := .on w.blkCommand

theorem blkWrite {who data} : KeepsForm (execBlkWrite who data s) := .on w.blkCommand

theorem blkFlush {who} : KeepsForm (execBlkFlush who s) := .on w.blkCommand

theorem blkDeallocate {who} : KeepsForm (execBlkDeallocate who s) := .on w.blkCommand

theorem blkIdentify {who} : KeepsForm (execBlkIdentify who s) := .on w.blkCommand

theorem blkResponseReceive {t ok} : KeepsForm (execBlkResponseReceive t ok s) := by
  refine .on ?_
  split
  · refine .ite ?_ ?_
    · exact w
    · split
      next e => exact w.readHead.of_eq_pair e
      next e =>
        have w1 := w.readHead.of_eq_pair e
        refine .ite ?_ ?_
        · exact w1.popPkt
        · dsimp only
          split
          · exact w1.popPkt.count ..
          · refine .ite ?_ ?_
            · exact w1.popPkt.blkFinish
            · refine .ite ?_ ?_
              · exact w1.popPkt.blkFinish
              · exact .ite (by split; exacts [w1, .ite w1.popPkt.blkFinish w1.popPkt.takeReadData]) w1.popPkt.blkFinish
  · exact w

theorem blkTunnelTimeout {tag} : KeepsForm (execBlkTunnelTimeout tag s) := by
  refine .on ?_
  split
  exacts [w, .ite w.blkFinish w]

/-! Machine/Breaker.lean -/

theorem lpwChannelEn {c v} : KeepsForm (execLpwChannelEn c v s) := .on w.writeChCfg

theorem lpwQualifyDone {c} : KeepsForm (execLpwQualifyDone c s) := .on (.ite (w.gateOff.setChState.count ..) w)

theorem lpwRampDone {c} : KeepsForm (execLpwRampDone c s) := .on (.ite (w.gateOff.setChState.raise ..) w)

theorem startTimeout {c} : KeepsForm (execStartTimeout c s) := .on (.ite w.trip w)

theorem shortAtStart {c} : KeepsForm (execShortAtStart c s) := by
  refine .on ?_
  split
  exacts [w, .ite w.trip w]

theorem currentLimit {c} : KeepsForm (execCurrentLimit c s) := .on (.ite w.trip w)

theorem gauntlet {c} : KeepsForm (execGauntlet c s) := .on (.ite w.trip w)

theorem fastTrip {c i} : KeepsForm (execFastTrip c i s) := .on (.ite w.trip w)

theorem overtemp {c} : KeepsForm (execOvertemp c s) := .on (.ite w.trip w)

theorem ov {c} : KeepsForm (execOv c s) := .on (.ite w.trip w)

theorem reverseCurrent {c i} : KeepsForm (execReverseCurrent c i s) :=
  .on (.ite ((w.gateOff.setChState.count ..).raiseLimited ..) w)

theorem forwardReclose {c} : KeepsForm (execForwardReclose c s) := .on (.ite w.gateOff.setChState w)

theorem bothSidesDead {c} : KeepsForm (execBothSidesDead c s) := .on (.ite (w.gateOff.setChState.raise ..) w)

theorem cooldownEnd {c} : KeepsForm (execCooldownEnd c s) := .on (.ite w.gateOff.setChState.chEval w)

theorem tripHistoryReset {c} : KeepsForm (execTripHistoryReset c s) := .on (.ite w.chClearTrips w)

theorem lpwClear {c} : KeepsForm (execLpwClear c s) := .on w.chClear

theorem lpwGauntletCommit {c v} : KeepsForm (execLpwGauntletCommit c v s) := .on w.commitGnt

theorem lpwSample {c i vi vo ntc} : KeepsForm (execLpwSample c i vi vo ntc s) := .on w.lpwSample

theorem ipeakClear {c} : KeepsForm (execIpeakClear c s) := .on (w.setf ..)

/-! Machine/Usb.lean -/

theorem portSAttachChange {mv rp1 rp2} : KeepsForm (execPortSAttachChange mv rp1 rp2 s) :=
  .on ((((w.setb ..).setb ..).setb ..).upstream)

theorem upbVbusChange {on} : KeepsForm (execUpbVbusChange on s) := .on w.frame.upstream

theorem usbSofReceive {frame t present} : KeepsForm (execUsbSofReceive frame t present s) := by
  refine .on ?_
  refine .ite ?_ ?_
  · exact w
  · refine .ite ?_ ?_
    · exact (w.advance ..).frame.maybe fun w3 => (w3.busActs.setf ..).set64
    · exact .count ((w.advance ..).frame.maybe fun w3 => (w3.busActs.setf ..).set64) ..

theorem usbSuspend : KeepsForm (execUsbSuspend s) :=
  .on (.ite w (.setGadget ((w.setf ..).foldl fun _ _ w2 => .ite (w2.setf ..) w2)))

theorem usbBabble {k frame} : KeepsForm (execUsbBabble k frame s) :=
  .on (.ite ((((w.setHubPort.setf ..).setf ..).count ..).raise ..) w)

theorem hubPortReset {k speed} : KeepsForm (execHubPortReset k speed s) := by
  refine .on ?_
  refine .ite ?_ ?_
  · exact w
  · refine .maybe (.setf (.setb (.setf (.setf (.setHubPort (.ite (w.busActs.setf ..) w.busActs)) ..) ..) ..) ..) fun w3 => ?_
    exact w3.gadgetReset

theorem usbResume {woke} : KeepsForm (execUsbResume woke s) := by
  refine .on ?_
  refine .ite ?_ ?_
  · refine .maybe ((w.busActs.setf ..).foldl fun _ _ w => .ite (((w.setf ..).emit ..).maybe fun w3 => w3.setHubPort) w) fun w2 => ?_
    exact w2.setGadget.count ..
  · exact w

theorem gadgetRemoteWake {armed} : KeepsForm (execGadgetRemoteWake armed s) := .on (.ite (w.setGadget.emit ..) w)

theorem usbBusReset {inControl req stage} : KeepsForm (execUsbBusReset inControl req stage s) :=
  .on (w.busActs.gadgetReset.maybe fun w2 => (w2.count ..).raise ..)

theorem gadgetCommand {a} : KeepsForm (execGadgetCommand a s) := by
  refine .on ?_
  refine .ite ?_ ?_
  · exact w
  · split
    · exact w.setHalt
    · exact w.gadgetPing
    · exact .ite (w.emit ..) (.ite (w.emit ..) (.ite ((w.gadgetTake.setf ..).emit ..) (w.gadgetWait.setf ..)))

theorem gadgetFilterSet {a} : KeepsForm (execGadgetFilterSet a s) := by
  refine .on ?_
  exact .ite w (by split; exacts [w.setHalt, w.gadgetPing, .ite (w.emit ..) (.ite (w.emit ..) ((w.setGadget.setf ..).emit ..))])

theorem gadgetInTransfer {ep} : KeepsForm (execGadgetInTransfer ep s) := by
  refine .on ?_
  refine .ite ?_ ?_
  · exact .ite (w.emit ..) (.ite (by split; exacts [w, (w.frame.emit ..).gadgetDrain]) (.ite (.ite w (w.setGadget.emit ..)) w))
  · exact w

theorem getInfo : KeepsForm (execGetInfo s) := .on (.ite (w.emit ..) w)

theorem getChallenge : KeepsForm (execGetChallenge s) := .on (.ite (.ite (w.emit ..) (w.frame.setGadget.emit ..)) w)

theorem setProof {bytes} : KeepsForm (execSetProof bytes s) := by
  refine .on ?_
  refine .ite ?_ ?_
  · exact w.emit ..
  · exact .ite (.ite ((w.setGadget.setf ..).raise ..) (.raise (.count (.emit (w.setGadget.maybe fun w2 => w2.setf ..) ..) ..) ..)) w

theorem lock : KeepsForm (execLock s) := .on (.ite w.lockSession w)

theorem execCmd {bytes} : KeepsForm (execExecCmd bytes s) := .on (.ite w.gadgetTake (.ite (w.emit ..) w))

theorem gadgetSessionIdle : KeepsForm (execGadgetSessionIdle s) := .on (.ite w.lockSession w)

theorem gadgetLockoutEnd : KeepsForm (execGadgetLockoutEnd s) := .on (.ite (.ite w.setGadget (w.setGadget.setf ..)) w)

/-! Machine/Bridge.lean -/

theorem fbrRead {who ok} : KeepsForm (execFbrRead who ok s) := .on w.fbrCommand

theorem fbrWrite {who data} : KeepsForm (execFbrWrite who data s) := .on w.fbrCommand

theorem fbrLocked {who} : KeepsForm (execFbrLocked who s) := .on w.fbrCommand

theorem fbrReadMsg : KeepsForm (execFbrReadMsg s) := by
  refine .on ?_
  split
  next e => exact w.takeMsg.of_eq_pair e
  next e => exact (w.takeMsg.of_eq_pair e).bridgeRead.send

theorem fbrWriteMsg : KeepsForm (execFbrWriteMsg s) := by
  refine .on ?_
  split
  next e => exact w.takeMsg.of_eq_pair e
  next e =>
    have w1 := w.takeMsg.of_eq_pair e
    dsimp only
    split
    next e => exact w1.bridgeWrite.of_eq_pair e
    next e => exact (w1.bridgeWrite.of_eq_pair e).send

theorem fbrLockedMsg : KeepsForm (execFbrLockedMsg s) := by
  refine .on ?_
  split
  next e => exact w.takeMsg.of_eq_pair e
  next e => exact (w.takeMsg.of_eq_pair e).bridgeLocked.send

theorem zoneBusCycle {words} : KeepsForm (execZoneBusCycle words s) := by
  refine .on ?_
  split
  exacts [w, .ite w.runNext w]

theorem zrdyTimeout {words} : KeepsForm (execZrdyTimeout words s) := by
  refine .on ?_
  split
  exacts [w, .ite w.runNext w]

theorem fbrStale {i} : KeepsForm (execFbrStale i s) := by
  refine .on ?_
  split
  exacts [w, by split; exacts [w, .ite ((w.freeParked.count ..).raise ..) w]]

theorem fbrPrefetchExpiry {i} : KeepsForm (execFbrPrefetchExpiry i s) := by
  refine .on ?_
  split
  exacts [w, .ite w.freeParked w]

theorem fbrWinClear {v} : KeepsForm (execFbrWinClear v s) := .on w.writeWinClear

theorem fbrWindowEnable {who v} : KeepsForm (execFbrWindowEnable who v s) := .on w.writeWinCfg

theorem zintSample {t levels} : KeepsForm (execZintSample t levels s) := by
  refine .on ?_
  exact .ite w (.ite (w.advance ..) (((w.advance ..).frame.setf ..).foldl fun _ _ w3 => .ite w3 w3.zintChange))

theorem fbrPoll {c res} : KeepsForm (execFbrPoll c res s) := by
  refine .on ?_
  exact .ite w (.ite w.frame.pollBad (by dsimp only; split; exacts [(w.frame.emit ..).pollBad, (w.frame.emit ..).pollGood]))

/-! Machine/Slots.lean -/

theorem slotReceive {p k slot bytes} : KeepsForm (execSlotReceive p k slot bytes s) := by
  refine .on ?_
  refine .ite ?_ ?_
  · exact w
  · refine .ite ?_ ?_
    · exact w.loopSlot
    · refine .ite ?_ ?_
      · exact w
      · refine .ite ?_ ?_
        · exact .count (.setLate (.ite (w.count ..) (.ite ((w.count ..).count ..) w))) ..
        · exact .setHop (.entryEnd (.ite (w.count ..) (.ite ((w.count ..).count ..) w)))

theorem switchSlot {o k j} : KeepsForm (execSwitchSlot o k j s) := by
  refine .on ?_
  extract_lets p outs ins nrz s0
  have w0 : s0.WF := w.advance ..
  have w1 : (if j < ins then s0.takeHop p k (absSlot s0.tick j) else (none, s0)).2.WF := by
    split
    exacts [w0.takeHop, w0]
  generalize (if j < ins then s0.takeHop p k (absSlot s0.tick j) else (none, s0)) = r at w1 ⊢
  obtain ⟨c, t⟩ := r
  exact .ite w (.ite w1.alarmSlot (.ite w1.slotPlanned w1.slotTransparent))

/-! Machine/LineTime.lean -/

theorem lineTimeRead {t frac} : KeepsForm (execLineTimeRead t frac s) := .on (w.advanceFrac.latchTime.emit ..)

theorem gmSourceMeasure {e ptp clock} : KeepsForm (execGmSourceMeasure e ptp clock s) := .on (.ite w.sourceMeasure.frame w)

theorem ppsInEdge {t} : KeepsForm (execPpsInEdge t s) := .on ((w.advance ..).maybe fun w2 => w2.sourceMeasure)

theorem gmHoldoverTimeout : KeepsForm (execGmHoldoverTimeout s) := .on (.ite (w.setTimeState.raise ..).frame w)

theorem gmHoldoverLimit : KeepsForm (execGmHoldoverLimit s) := .on (.ite (w.setTimeState.raise ..) w)

theorem gmSourceWrite {v} : KeepsForm (execGmSourceWrite v s) := .on w.writeGmCfg

theorem originWrite {i v} : KeepsForm (execOriginWrite i v s) := .on w.writeOrigin

theorem closureUpdate : KeepsForm (execClosureUpdate s) := .on (.ite w (.ite (w.frame.setf ..) (w.setf ..)))

theorem timeAnnounceReceive : KeepsForm (execTimeAnnounceReceive s) := by
  refine .on ?_
  split
  next e => exact w.takeMsg.of_eq_pair e
  next e =>
    have w1 := w.takeMsg.of_eq_pair e
    exact .ite w1 w1.takeAnnounce

theorem tioLevelWrite {v} : KeepsForm (execTioLevelWrite v s) := .on w.writeTioLevel

theorem tioModeChange {n v} : KeepsForm (execTioModeChange n v s) := .on w.writeTioCfg

theorem tioCapture {n high t} : KeepsForm (execTioCapture n high t s) := by
  refine .on ?_
  refine .ite ?_ ?_
  · exact (w.advance ..).setPin
  · exact .ite (w.advance ..).setPin.setPin ((w.advance ..).setPin.produce.setPin.maybe fun w5 => w5.count ..)

theorem launchRecordPost : KeepsForm (execLaunchRecordPost s) := .on w.postLaunch

theorem launchAdmit {t} : KeepsForm (execLaunchAdmit t s) := by
  refine .on ?_
  dsimp only
  split
  exacts [w.advance .., .ite (w.advance ..) (w.advance ..).popPkt.admitLaunch]

theorem launchCancelAdmit : KeepsForm (execLaunchCancelAdmit s) := by
  refine .on ?_
  split
  exacts [w, .ite w.popPkt.cancelLaunch w]

theorem launchHandover {slot} : KeepsForm (execLaunchHandover slot s) := by
  refine .on ?_
  split
  exacts [w, (w.advance ..).handover]

theorem tioSet {slot} : KeepsForm (execTioSet slot s) := by
  refine .on ?_
  split
  exacts [w, w.tioEdge]

theorem tioClear {slot} : KeepsForm (execTioClear slot s) := by
  refine .on ?_
  split
  exacts [w, w.tioEdge]

theorem tioPulse {slot} : KeepsForm (execTioPulse slot s) := by
  refine .on ?_
  split
  exacts [w, .ite w (.ite (w.advance ..).launchEdge.setLaunch (w.advance ..).launchDone)]

theorem tioPulseEnd {slot} : KeepsForm (execTioPulseEnd slot s) := by
  refine .on ?_
  split
  exacts [w, .ite w (.ite (w.advance ..).launchEdge.launchRan (w.advance ..).launchDone)]

theorem launchCompletionPost : KeepsForm (execLaunchCompletionPost s) := by
  refine .on ?_
  split
  exacts [w, .ite w.frame.produce w]

/-! Machine/Can.lean -/

theorem canTxDone {c res sof} : KeepsForm (execCanTxDone c res sof s) := by
  refine .on ?_
  split
  · exact w
  next m _ =>
    have w1 : ((s.hub.advance sof).canIdle c m).WF := (w.advance ..).canIdle
    refine .ite (.canStart (.canLaunch ((w1.emit ..).mbEnd.setMbTime.setf ..) fun _ _ w => w.launchRan)) ?_
    refine .ite (.canStart (.canLaunch ?_ fun _ _ w => w.launchDone)) (.canStart ?_)
    exacts [(Hub.WF.ite (w1.setf ..) w1).mbEnd.count .., .ite (w1.setf ..) w1]

theorem canTxreq {c hi v} : KeepsForm (execCanTxreq c hi v s) := .on w.writeTxreq

theorem canTx {slot} : KeepsForm (execCanTx slot s) := by
  refine .on ?_
  split
  exacts [w, .ite w (.ite (w.advance ..).launchDone (w.advance ..).setLaunch.frame.mbRelease)]

theorem canFrameReceive {c frame sof} : KeepsForm (execCanFrameReceive c frame sof s) := by
  refine .on ?_
  exact .ite (w.advance ..) (by dsimp only; split; exacts [((w.advance ..).setf ..).count .., ((w.advance ..).setf ..).canStore])

theorem canErrorStateChange {c st tec rec'} : KeepsForm (execCanErrorStateChange c st tec rec' s) := by
  refine .on ?_
  refine .ite ?_ ?_
  · exact w
  · refine .ite ?_ ?_
    · exact (((w.setf ..).setf ..).setf ..).raise ..
    · exact (((w.setf ..).setf ..).setf ..).maybe fun w2 => (w2.canStop.withdrawLaunches.raise ..).maybe fun w4 => w4.setf ..

theorem canBusOn {c} : KeepsForm (execCanBusOn c s) := .on (.ite ((((w.setf ..).setf ..).setf ..).raise ..).canStart w)

theorem canEnable {c v} : KeepsForm (execCanEnable c v s) := .on w.writeCanCfg

/-! Machine/CellPool.lean -/

theorem cellProduce {q who c} : KeepsForm (execCellProduce q who c s) := .on w.produce

theorem gapMarkerWrite {q} : KeepsForm (execGapMarkerWrite q s) := .on w.writeMarker

theorem packetConsume {q} : KeepsForm (execPacketConsume q s) := by
  refine .on ?_
  split
  next e => exact w.readHead.of_eq_pair e
  next e => exact (w.readHead.of_eq_pair e).popPkt

theorem carveClaimDeadline : KeepsForm (execCarveClaimDeadline s) := .on w.carveDeadline

theorem queueFlush {v} : KeepsForm (execQueueFlush v s) := .on w.writeQctl

theorem queueEnable {q v} : KeepsForm (execQueueEnable q v s) := .on w.writeQcfg

theorem queueDisable {q v} : KeepsForm (execQueueDisable q v s) := .on w.writeQcfg

theorem quotaProfileMinWrite {i v} : KeepsForm (execQuotaProfileMinWrite i v s) := .on w.writeProfMin

theorem quotaProfileCommit {i v} : KeepsForm (execQuotaProfileCommit i v s) := .on w.writeProfMax

theorem poolLowReload {v} : KeepsForm (execPoolLowReload v s) := .on w.writeGenLow

theorem readPortBind {p v} : KeepsForm (execReadPortBind p v s) := .on w.writeQrpSel

theorem readPortDataRead {p wide} : KeepsForm (execReadPortDataRead p wide s) := .on (w.readQrpLow.emit ..)

theorem readPortDataHighRead {p} : KeepsForm (execReadPortDataHighRead p s) := .on (w.readQrpHigh.emit ..)

/-! Machine/Display.lean -/

theorem dspHeadEnable {h v} : KeepsForm (execDspHeadEnable h v s) := .on w.writeHeadCfg

theorem dspHeadDisable {h} : KeepsForm (execDspHeadDisable h s) := .on (.ite w.dspDisable w)

theorem dspLinkTrain {h ok} : KeepsForm (execDspLinkTrain h ok s) := .on (.ite w.dspTrain w)

theorem dspTrainRetry {h ok} : KeepsForm (execDspTrainRetry h ok s) := .on (.ite w.dspTrain w)

theorem dspIrqHpd {h lost ok} : KeepsForm (execDspIrqHpd h lost ok s) :=
  .on (w.setDrop.maybe fun w2 => .ite (.ite ((w2.count ..).setf ..).dspTrain w2) w2.dspTrain)

theorem dspHpdRise {h dpcd edid} : KeepsForm (execDspHpdRise h dpcd edid s) := by
  refine .on ?_
  exact .ite w (.raise ((((((w.putWords.putWords.setb ..).setf ..).setf ..).setf ..).setf ..).maybe fun w2 => w2.setf ..) ..)

theorem dspHpdLoss {h} : KeepsForm (execDspHpdLoss h s) := by
  refine .on ?_
  refine .ite ?_ ?_
  · exact w
  · refine .raise ?_ ..
    refine .ite ?_ ?_
    · exact ((((w.putWords.putWords.setf ..).setf ..).setf ..).setf ..).setf ..
    · exact (((((((w.putWords.putWords.setf ..).setf ..).setf ..).setf ..).setf ..).setf ..).setf ..).setf ..

theorem dspPacketTake {h t} : KeepsForm (execDspPacketTake h t s) := by
  refine .on ?_
  refine .ite ?_ ?_
  · exact w.advance ..
  · split
    next e => exact (w.advance ..).readHead.of_eq_pair e
    next e =>
      have w2 := (w.advance ..).readHead.of_eq_pair e
      refine .ite ?_ ?_
      · exact w2.popPkt.maybe fun w4 => w4.count ..
      · refine .ite ?_ ?_
        · exact (w2.popPkt.setDhead.count ..).raiseLimited ..
        · refine .ite ?_ ?_
          · exact w2.popPkt.count ..
          · refine .ite ?_ ?_
            · refine .ite ?_ ?_
              · exact w2.popPkt.count ..
              · split
                next e => exact w2.popPkt.takeTile _ e
                · exact w2
            · exact .ite w2.popPkt.takeCommit (w2.popPkt.count ..)

theorem dspFrameStart {h t} : KeepsForm (execDspFrameStart h t s) :=
  .on (.ite (w.advance ..) ((w.advance ..).freezeStep.setDhead.set64.set64.maybe fun w4 => w4.raise ..))

theorem dspApplyDone {h} : KeepsForm (execDspApplyDone h s) :=
  .on (.ite w (.count (.setDhead ((w.advance ..).foldl fun _ _ w2 => w2.putTile)) ..))

theorem dspPrefill {h} : KeepsForm (execDspPrefill h s) := by
  refine .on ?_
  split
  exacts [w, .ite w (w.advance ..).rowTouch.spanEnd.setDhead]

theorem dspScanoutStart {h} : KeepsForm (execDspScanoutStart h s) := by
  refine .on ?_
  dsimp only
  split
  exacts [w, .ite w ((w.advance ..).setDhead.maybe fun w2 => w2.spanTouch.rowTouch.emit ..)]

theorem dspFrzWrite {h r v} : KeepsForm (execDspFrzWrite h r v s) := .on w.writeFrz

theorem dispCommit {slot} : KeepsForm (execDispCommit slot s) := by
  refine .on ?_
  split
  exacts [w, by dsimp only; split; exacts [(w.advance ..).launchDone, (w.advance ..).present.launchRan]]

/-! Machine/Drop.lean -/

theorem tcpPortEnable {n v} : KeepsForm (execTcpPortEnable n v s) := .on w.writePortCfg

theorem ccChange {n cc1 cc2} : KeepsForm (execCcChange n cc1 cc2 s) := by
  refine .on ?_
  refine .ite ?_ ?_
  · exact w.setDrop.ccEval
  · exact .ite (.ite w.setDrop w.setDrop.toUnattached) (w.setDrop.maybe fun w2 => .setDrop (.ite w2 w2.setDropAt))

theorem tcpCcDebounce {n} : KeepsForm (execTcpCcDebounce n s) := .on (.ite w.tcAttach w)

theorem tcpDetachDebounce {n} : KeepsForm (execTcpDetachDebounce n s) := .on (.ite w.tcDetach w)

theorem tcpErrorRecoveryEnd {n} : KeepsForm (execTcpErrorRecoveryEnd n s) := .on (.ite w.setRp.toUnattached w)

theorem vbusEnable {n} : KeepsForm (execVbusEnable n s) := .on (.ite w.vbusUp w)

theorem tcpNoBudget {n} : KeepsForm (execTcpNoBudget n s) := .on (.ite ((w.setf ..).raise ..) w)

theorem sourceCapabilitiesSend {n goodCrc} : KeepsForm (execSourceCapabilitiesSend n goodCrc s) :=
  .on (.ite (.ite (.ite w.sendCaps.setDrop w) (.ite w.sendCaps.setDrop w)) w)

theorem pdRequest {n pos op mismatch rev2} : KeepsForm (execPdRequest n pos op mismatch rev2 s) := by
  refine .on ?_
  refine .ite ?_ ?_
  · dsimp only
    split
    exacts [w.setDrop.emit .., .ite (w.setDrop.emit ..) ((w.setChan.setDrop.emit ..).maybe fun w3 => w3.regrant)]
  · exact w

theorem pdTransitionStart {n} : KeepsForm (execPdTransitionStart n s) := by
  refine .on ?_
  dsimp only
  split
  exacts [w, .ite w w.setDrop.setChan]

theorem pdVbusReached {n} : KeepsForm (execPdVbusReached n s) := by
  refine .on ?_
  dsimp only
  split
  exacts [w, .ite ((((((w.setDrop.setChan.emit ..).setf ..).setf ..).setf ..).setf ..).regrant.raise ..) w]

theorem pdTransitionTimeout {n} : KeepsForm (execPdTransitionTimeout n s) := by
  refine .on ?_
  split
  exacts [w, .ite w (w.tcHardReset.raise ..)]

theorem pdReofferTimeout {n} : KeepsForm (execPdReofferTimeout n s) := .on (.ite w.tcHardReset w)

theorem pdGetSourceCap {n} : KeepsForm (execPdGetSourceCap n s) := .on (.ite w.sendCaps w)

theorem pdUnsupportedMessage {n vdm} : KeepsForm (execPdUnsupportedMessage n vdm s) := .on (.ite (w.emit ..) w)

theorem pdSoftReset {n} : KeepsForm (execPdSoftReset n s) := .on (.ite (w.tcSoftReset.emit ..).sendCaps w)

theorem pdMessageFail {n} : KeepsForm (execPdMessageFail n s) := .on (.ite ((w.count ..).tcSoftReset.emit ..).setDrop w)

theorem hardReset {n sent} : KeepsForm (execHardReset n sent s) := .on w.tcHardReset

theorem hardResetEnd {n} : KeepsForm (execHardResetEnd n s) := by
  refine .on ?_
  exact .ite (.maybe (.maybe (w.setDrop.regrant.maybe fun w2 => w2.vbusUp) fun w3 => w3.setVconn) fun w4 => (w4.setf ..).raise ..) w

theorem recaps {n} : KeepsForm (execRecaps n s) := .on w.recaps

theorem vconnTake {n} : KeepsForm (execVconnTake n s) := .on w.vconnTake

theorem vconnSwapReceive {n} : KeepsForm (execVconnSwapReceive n s) := by
  refine .on ?_
  refine .ite ?_ ?_
  · refine .ite ?_ ?_
    · exact w.emit ..
    · refine .ite ?_ ?_
      · exact w.setDrop.sinkTxOk.setDrop.emit ..
      · exact .ite (w.setDrop.sinkTxOk.emit ..) ((w.setDrop.sinkTxOk.emit ..).setVconn.emit ..)
  · exact w

theorem sinktxngWaitEnd {n msg stage} : KeepsForm (execSinktxngWaitEnd n msg stage s) := by
  refine .on ?_
  dsimp only
  split
  exacts [.ite w.swapStage w, w, .ite (.ite w.setDrop.sinkTxOk (.ite w.sendSwap.swapStage w)) (.ite w.startSwap w)]

theorem pdPsRdy {n} : KeepsForm (execPdPsRdy n s) := by
  refine .on ?_
  split
  exacts [w.setDrop.setVconn, w]

theorem vconnSwapTimeout {n} : KeepsForm (execVconnSwapTimeout n s) := by
  refine .on ?_
  split
  exacts [.ite w.tcHardReset w, w]

theorem dpAltModeEntry {n} : KeepsForm (execDpAltModeEntry n s) := .on (.ite (.emit (w.setDrop.maybe fun w2 => w2.setf ..) ..) w)

theorem pdVdmResponse {n ans} : KeepsForm (execPdVdmResponse n ans s) := by
  refine .on ?_
  dsimp only
  split
  exacts [w.discEnd, w.discMiss, w, .ite w.dpAck w, .ite w.dpFail w, .ite w.dpMiss w]

theorem vdmResponseTimeout {n} : KeepsForm (execVdmResponseTimeout n s) :=
  .on (.ite w (by split; exacts [w.discMiss, .ite w.dpMiss w]))

theorem dpExit {n} : KeepsForm (execDpExit n s) := .on w.dpExit

theorem pdAttention {n hpd irq} : KeepsForm (execPdAttention n hpd irq s) :=
  .on (.ite (w.setHpd.maybe fun w2 => w2.setDrop.emit ..) w)

/-! Machine/HostPort.lean -/

theorem hostPortReset {cause} : KeepsForm (execHostPortReset cause s) := .on w.hostReset

theorem hifLinkUp {speed width bme} : KeepsForm (execHifLinkUp speed width bme s) := by
  refine .on ?_
  exact .ite w (.ite ((((w.setf ..).setf ..).setf ..).setb ..) (((((w.setf ..).setf ..).setf ..).setb ..).raise ..))

theorem perstNRelease : KeepsForm (execPerstNRelease s) := .on (w.frame.emit ..)

theorem msixVectorUnmask {v who} : KeepsForm (execMsixVectorUnmask v who s) := .on w.writeMsixCtl

theorem ringEnable {r v} : KeepsForm (execRingEnable r v s) := .on w.writeRingCfg

theorem ringDisable {r v} : KeepsForm (execRingDisable r v s) := .on w.writeRingCfg

theorem ringDrainDone {r} : KeepsForm (execRingDrainDone r s) := .on (.ite (w.setf ..) w)

theorem doorbellPageArrive {r words} : KeepsForm (execDoorbellPageArrive r words s) := .on w.pageArrive

theorem doorbellLate : KeepsForm (execDoorbellLate s) := by
  refine .on ?_
  split
  exacts [w, .ite w.pageLate w]

theorem hifNudge {v} : KeepsForm (execHifNudge v s) := .on w.writeNudge

theorem descriptorFetch {r data} : KeepsForm (execDescriptorFetch r data s) := by
  refine .on ?_
  exact .ite (by dsimp only; split; exacts [(w.frame.descReads.count ..).ringError, w.frame.descReads.fetchDescs]) w

theorem txPkt {r data} : KeepsForm (execTxPkt r data s) := by
  refine .on ?_
  split
  · exact w
  · refine .ite ?_ ?_
    · exact .sweep (.setRing (.txJoin (.ite w.dmaFail w)))
    · exact .ite (.txPacket (.setRing (.txJoin (.ite w.dmaFail w)))) (.endJob (.setRing (.txJoin (.ite w.dmaFail w))))

theorem txTile {r data} : KeepsForm (execTxTile r data s) := by
  refine .on ?_
  split
  exacts [w, .ite w.endJob (by split; exacts [w.dmaFail.endJob, w.txDisplay])]

theorem txCommit {r} : KeepsForm (execTxCommit r s) := by
  refine .on ?_
  split
  exacts [w, .ite w.txDisplay w.endJob]

theorem rxBuf {r ok} : KeepsForm (execRxBuf r ok s) := by
  refine .on ?_
  split
  · exact w
  · refine .ite ?_ ?_
    · exact w.endJob
    · dsimp only
      split
      · exact w
      · refine .ite ?_ ?_
        · exact w.rxFill
        · split
          next e => exact w.readHead.of_eq_pair e
          next e => exact (w.readHead.of_eq_pair e).rxFill

theorem dumpBuf {r} : KeepsForm (execDumpBuf r s) := by
  refine .on ?_
  split
  exacts [w, .ite w.takeJob.showDump (.ite w w.endJob)]

theorem nop {who} : KeepsForm (execNop who s) := by
  refine .on ?_
  split
  exacts [w, w.finish]

theorem eventDeliver : KeepsForm (execEventDeliver s) := .on w.feedGadget.feedHost.gadgetTakeTunnels.trimEvents

theorem interruptModeration {r} : KeepsForm (execInterruptModeration r s) := .on w.moderate

/-! Machine/NetLink.lean -/

theorem ethFrameReceive {p frame ts} : KeepsForm (execEthFrameReceive p frame ts s) :=
  .on (.ite w (.ite (w.count ..) (.ite (w.count ..) (.ite w.fifoDrop w.fifoPass.goodFrame))))

theorem ethTransmitStart {p t ts} : KeepsForm (execEthTransmitStart p t ts s) :=
  .on ((w.advance ..).gatesNow.maybe fun w2 => w2.egress)

theorem ethLinkChange {p up speed an cause} : KeepsForm (execEthLinkChange p up speed an cause s) :=
  .on (.ite (.ite ((((((w.setf ..).setf ..).setb ..).setf ..).setf ..).raise ..) w) w.ethDown)

theorem flowEntryHold {f who v} : KeepsForm (execFlowEntryHold f who v s) := .on (.ite w w.holdFlow)

theorem flowEntryCommit {f v} : KeepsForm (execFlowEntryCommit f v s) := .on w.commitFlow

theorem policerCommit {i v} : KeepsForm (execPolicerCommit i v s) := .on w.commitPol

theorem egqEnable {p v} : KeepsForm (execEgqEnable p v s) := .on w.writeEgq

theorem relqBind {p j v} : KeepsForm (execRelqBind p j v s) := .on w.writeRelq

theorem gateListCommit {p v} : KeepsForm (execGateListCommit p v s) := .on w.commitGates

theorem gateListCancel {p} : KeepsForm (execGateListCancel p s) := .on w.clearGatePend

theorem gateListTakeover {p} : KeepsForm (execGateListTakeover p s) := .on (w.atBoundary fun _ w => w.gatesAt)

theorem gateListEntryAdvance {p} : KeepsForm (execGateListEntryAdvance p s) := by
  refine .on ?_
  dsimp only
  split
  exacts [w, (w.advance ..).setEport.setf ..]

theorem ethRelease {slot ts} : KeepsForm (execEthRelease slot ts s) := by
  refine .on ?_
  split
  · exact w
  · dsimp only
    split
    · exact (w.advance ..).readHead.launchDone
    · refine .ite ?_ ?_
      · exact (w.advance ..).readHead.dropHead.launchDone
      · exact .ite ((w.advance ..).readHead.popPkt.count ..).launchDone (w.advance ..).readHead.popPkt.launchFrame

theorem camTrigger {slot ts} : KeepsForm (execCamTrigger slot ts s) := by
  refine .on ?_
  split
  · exact w
  · dsimp only
    split
    · exact (w.advance ..).readHead.launchDone
    · refine .ite ?_ ?_
      · exact (w.advance ..).readHead.dropHead.launchDone
      · refine .ite ?_ ?_
        · exact ((w.advance ..).readHead.popPkt.count ..).launchDone
        · exact .ite (w.advance ..).readHead.launchDone (w.advance ..).readHead.launchFrame

theorem ptpMessageSend {p frame ts} : KeepsForm (execPtpMessageSend p frame ts s) := by
  refine .on ?_
  split
  exacts [w, .ite w.ptpSent.sendFrame w]

/-! Machine/Trunk.lean -/

theorem senseDeparture {p} : KeepsForm (execSenseDeparture p s) := .on (.ite w.setPort.chEval w)

theorem cfgPinSample {p mv1 mv2} : KeepsForm (execCfgPinSample p mv1 mv2 s) := .on w.attachStep

theorem attachDebounceExpiry {p} : KeepsForm (execAttachDebounceExpiry p s) :=
  .on (.ite w (.ite w.attachPort (.ite ((w.setf ..).setPort.raise ..) (w.setf ..))))

theorem detachDebounceExpiry {p} : KeepsForm (execDetachDebounceExpiry p s) :=
  .on (.ite w (.ite w.detachPort (.ite (w.setf ..).setPort w)))

theorem cableIdRead {p rec0 rec1} : KeepsForm (execCableIdRead p rec0 rec1 s) := .on (.ite w.decideRecord w)

theorem csupTakeover {p} : KeepsForm (execCsupTakeover p s) := .on (.ite (w.supplyCsup.raise ..) w)

theorem csupRelease {p} : KeepsForm (execCsupRelease p s) := .on (.ite (w.setf ..) w)

theorem csupResume {p} : KeepsForm (execCsupResume p s) := .on (.ite w.supplyCsup w)

theorem csupFault {p} : KeepsForm (execCsupFault p s) :=
  .on (.ite (.ite ((w.setf ..).setPort.raise ..) ((w.setf ..).setPort.raise ..).decideRecord) w)

theorem lowSpeedLock {p} : KeepsForm (execLowSpeedLock p s) := .on (.ite w.setPort w)

theorem helloSend {p} : KeepsForm (execHelloSend p s) := .on (.ite ((w.setf ..).setPort.emit ..) w)

theorem helloReceive {p frame} : KeepsForm (execHelloReceive p frame s) := by
  refine .on ?_
  refine .ite ?_ ?_
  · refine .ite ?_ ?_
    · exact w.headConflict
    · refine .emit ?_ ..
      refine .ite ?_ ?_
      · exact .takeRecord ((w.setPort.setf ..).farRows.maybe fun w3 => w3.setf ..)
      · exact .maybe ((w.setPort.setf ..).farRows.maybe fun w3 => w3.setf ..) fun w4 => w4.takeRecord
  · exact w

theorem ackReceive {p frame} : KeepsForm (execAckReceive p frame s) := .on (.ite w.setPort w)

theorem pam3Switch {p} : KeepsForm (execPam3Switch p s) :=
  .on (.ite (.ite (.fixedStart (w.foldl fun _ _ w => w.setRow)) w.bringupFail) w)

theorem fixedPairRetry {p} : KeepsForm (execFixedPairRetry p s) :=
  .on (.ite (.ite w.bringupFail (.fixedStart (w.setPort.foldl fun _ _ w => w.setRow))) w)

theorem pairTestDone {p k locked errors} : KeepsForm (execPairTestDone p k locked errors s) := by
  refine .on ?_
  exact .ite (.ite (w.setb ..).testEnd.setLane (.ite (w.setb ..).testEnd.setLane (.ite (w.setb ..).setRow (w.setb ..).setLane))) w

theorem linkFailTimeout {p} : KeepsForm (execLinkFailTimeout p s) := .on (.ite (.ite w.linkFail w.bringupFail) w)

theorem bringupRetry {p} : KeepsForm (execBringupRetry p s) := .on (.ite w.startBringup w)

theorem portRelink {p} : KeepsForm (execPortRelink p s) := .on w.relink

theorem portEnWrite {p v} : KeepsForm (execPortEnWrite p v s) := .on w.writePortCtl

theorem loopStart {p v} : KeepsForm (execLoopStart p v s) := .on w.writeLoopCtl

theorem loopStop {p} : KeepsForm (execLoopStop p s) := .on w.writeLoopCtl

theorem laneWakeStart : KeepsForm (execLaneWakeStart s) := by
  refine .on ?_
  split
  exacts [w, (w.advance ..).foldl fun _ _ w2 => .ite (.maybe (.ite w2.loopAbort w2) fun w4 => w4.clearFails.setLane) w2]

theorem laneWakeDone {p k} : KeepsForm (execLaneWakeDone p k s) := .on (.ite (.ite (w.setLane.setf ..) (w.setLane.setf ..)) w)

theorem knuckleStart {unlocked} : KeepsForm (execKnuckleStart unlocked s) := by
  refine .on ?_
  split
  exacts [w, (w.advance ..).foldl fun _ _ w2 => .ite (.ite ((w2.setf ..).emit ..) (w2.setb ..).setLane) w2]

theorem pairLockTimeout {p k} : KeepsForm (execPairLockTimeout p k s) := by
  refine .on ?_
  split
  exacts [w, .ite ((w.setLane.setf ..).raise ..).sendHop w]

theorem rowRequestReceive : KeepsForm (execRowRequestReceive s) := by
  refine .on ?_
  split
  next e => exact w.takeMsg.of_eq_pair e
  next e => exact (w.takeMsg.of_eq_pair e).setLane

theorem pairLockFailReceive : KeepsForm (execPairLockFailReceive s) := .on w.takeMsg

/-! Machine/Maint.lean -/

theorem linkRamAuditDone : KeepsForm (execLinkRamAuditDone s) := .on w.frame.claimCheck

theorem flipArm {v} : KeepsForm (execFlipArm v s) := .on w.writeFlipCtl

theorem flipApply {word} : KeepsForm (execFlipApply word s) := .on w.applyFlip

theorem eccLogClear : KeepsForm (execEccLogClear s) := .on w.clearLog

theorem roSample {n delta temp} : KeepsForm (execRoSample n delta temp s) := .on (.ite w.roSample.deriveMargins w)

theorem eyeScanRoutine {p k} : KeepsForm (execEyeScanRoutine p k s) := .on (.ite w.frame w)

theorem eyeScanPoint {p k clear} : KeepsForm (execEyeScanPoint p k clear s) := by
  refine .on ?_
  dsimp only
  split
  exacts [w, .ite w (.ite w.frame w.frame.scanEnd)]

theorem replanWaitExpiry : KeepsForm (execReplanWaitExpiry s) := by
  refine .on ?_
  split
  exacts [w, .ite w.advise.frame w]

theorem fetHistoryUpdate {c b} : KeepsForm (execFetHistoryUpdate c b s) :=
  .on (.ite ((w.setf ..).setChan.raise ..) ((w.setf ..).setChan.maybe fun w2 => w2.raise ..))

theorem voltageDroop {r} : KeepsForm (execVoltageDroop r s) := .on ((w.count ..).maybe fun w2 => w2.frame.deriveAvs)

theorem eyeScan {tag target} : KeepsForm (execEyeScan tag target s) := .on w.writeMaintReq

theorem bist {tag target} : KeepsForm (execBist tag target s) := .on w.writeMaintReq

theorem rowRepair {tag target} : KeepsForm (execRowRepair tag target s) := .on w.writeMaintReq

theorem ageingSample {tag target} : KeepsForm (execAgeingSample tag target s) := .on w.writeMaintReq

theorem fuseTest {tag target} : KeepsForm (execFuseTest tag target s) := .on w.writeMaintReq

theorem bistTestStart {id} : KeepsForm (execBistTestStart id s) := by
  refine .on ?_
  split
  exacts [w, by split; exacts [.ite (w.frame.setf ..) w, w]]

theorem bistFenceTimeout {id} : KeepsForm (execBistFenceTimeout id s) := by
  refine .on ?_
  split
  exacts [w, .ite w.abortAct w]

theorem maintStop {id} : KeepsForm (execMaintStop id s) := .on w.writeMaintStop

theorem maintDone {id r} : KeepsForm (execMaintDone id r s) := by
  refine .on ?_
  split
  exacts [.ite w.finishAct w, w]

/-! Machine/Plans.lean -/

theorem planLoadFragment : KeepsForm (execPlanLoadFragment s) := by
  refine .on ?_
  split
  next e => exact w.takeMsg.of_eq_pair e
  next e =>
    have w1 := w.takeMsg.of_eq_pair e
    exact .ite w1.takeFragment w1

theorem planCheckDone : KeepsForm (execPlanCheckDone s) := .on w.checkDone

theorem hopDigestReceive : KeepsForm (execHopDigestReceive s) := by
  refine .on ?_
  split
  next e => exact w.takeMsg.of_eq_pair e
  next e => exact (w.takeMsg.of_eq_pair e).frame.compareDigest.answerDigest

theorem planLoadTimeout : KeepsForm (execPlanLoadTimeout s) := .on (.ite w.planFail w)

theorem planPeerTimeout : KeepsForm (execPlanPeerTimeout s) := .on (.ite w.planFail w)

theorem planQueryMsg : KeepsForm (execPlanQueryMsg s) := by
  refine .on ?_
  split
  next e => exact w.takeMsg.of_eq_pair e
  next e =>
    have w1 := w.takeMsg.of_eq_pair e
    exact .ite w1.sendPlanStatus w1

theorem planArmMsg : KeepsForm (execPlanArmMsg s) := by
  refine .on ?_
  split
  next e => exact w.takeMsg.of_eq_pair e
  next e =>
    have w1 := w.takeMsg.of_eq_pair e
    exact .ite w1.takeArm.send w1

theorem planDisarmMsg : KeepsForm (execPlanDisarmMsg s) := by
  refine .on ?_
  split
  next e => exact w.takeMsg.of_eq_pair e
  next e =>
    have w1 := w.takeMsg.of_eq_pair e
    exact .ite w1.takeDisarm.send w1

theorem switchPrepare : KeepsForm (execSwitchPrepare s) := .on (w.atBoundary fun _ w => w.prepareAt)

theorem epochSwitch : KeepsForm (execEpochSwitch s) := .on (w.atBoundary fun _ w => w.switchAt)

theorem transparentSwitch : KeepsForm (execTransparentSwitch s) := .on (w.atBoundary fun _ w => w.transparentAt)

theorem transparentEntry : KeepsForm (execTransparentEntry s) := .on (w.atBoundary fun _ w => w.entryAt)

theorem heldBankRelease : KeepsForm (execHeldBankRelease s) := by
  refine .on ?_
  split
  exacts [w, .ite w (w.frame.maybe fun w2 => w2.planDiscard.setPend)]

theorem epochAdopt {p} : KeepsForm (execEpochAdopt p s) := by
  refine .on ?_
  split
  exacts [w, .ite w (w.frame.setf ..)]

theorem epochMismatch {p} : KeepsForm (execEpochMismatch p s) := by
  refine .on ?_
  split
  exacts [w, .ite (w.raise ..).frame.leaveSteps w]

theorem planBEntry : KeepsForm (execPlanBEntry s) := .on (w.atBoundary fun _ w => w.planBAt)

/-! Machine/PowerFlow.lean -/

theorem pwrEntryArm {d v ctl} : KeepsForm (execPwrEntryArm d v ctl s) := .on w.writeDomMode

theorem pwrWakeRequest {d ctl} : KeepsForm (execPwrWakeRequest d ctl s) := .on w.writeDomMode

theorem pwrEntryDone {d} : KeepsForm (execPwrEntryDone d s) := .on (.ite w.entryDone w)

theorem pwrExitDone {d t} : KeepsForm (execPwrExitDone d t s) := .on (.ite w.upTo.exitDone w)

theorem pwrScheduledWake {d} : KeepsForm (execPwrScheduledWake d s) := by
  refine .on ?_
  split
  exacts [w, (w.advance ..).setDom.wakeDom]

theorem pwrHwWake {d} : KeepsForm (execPwrHwWake d s) := .on (.ite w.requestWake w)

theorem pwrWakeTimeout {d lane} : KeepsForm (execPwrWakeTimeout d lane s) := by
  refine .on ?_
  split
  exacts [.ite w.upTo.wakeFail w, .ite (w.upTo.setLaneFail.count ..).writeWakeRec w]

theorem pwrWakeRetry {d lane t} : KeepsForm (execPwrWakeRetry d lane t s) := by
  refine .on ?_
  split
  exacts [.ite w.laneRetry w, by split; exacts [w, w.upTo.domRetry]]

theorem pwrDomRetry {d v} : KeepsForm (execPwrDomRetry d v s) := .on w.writeDomCtl

theorem pwrRefuseClear {d} : KeepsForm (execPwrRefuseClear d s) := .on w.clearRefuse

/-! Machine/Startup.lean -/

theorem por {mode upb} : KeepsForm (execPor mode upb s) := .on w.afterPower.sampleStraps.strapHeld

theorem aonStop : KeepsForm (execAonStop s) := .on w.driveRails.afterPower.frame

theorem xtalReadyTimeout : KeepsForm (execXtalReadyTimeout s) := by
  refine .on ?_
  split
  exacts [w, .ite w.upTo.enterFailsafe w]

theorem failsafeXtalRetry {ok} : KeepsForm (execFailsafeXtalRetry ok s) := .on (.ite w (.ite w.upTo.leaveFailsafe w.upTo.frame))

theorem svcParkExpiry : KeepsForm (execSvcParkExpiry s) := .on (.ite w.upTo.startExit w)

theorem lineBusGood {pg} : KeepsForm (execLineBusGood pg s) := .on (.ite w.setStage.enableRail w)

theorem railSequenceStep {pg} : KeepsForm (execRailSequenceStep pg s) :=
  .on (.ite (.ite (w.setf ..).enableRail ((w.setf ..).setStage.startCsup.startCsup.emit ..)) w)

theorem pgTimeout : KeepsForm (execPgTimeout s) := .on (.ite w.railFail w)

theorem pgFall {n} : KeepsForm (execPgFall n s) := .on (.ite (w.setf ..).railFail w)

theorem railFailRecover : KeepsForm (execRailFailRecover s) := by
  refine .on ?_
  split
  exacts [w, .ite w.deviceReset.frame w]

theorem bootRomStart : KeepsForm (execBootRomStart s) := by
  refine .on (.ite ?_ w)
  have w1 : (if s.hub.preserved = true then s.hub else { s.hub with lineMem := [] }).WF :=
    .ite w ⟨rfl, w.regs, w.cnts, w.cntsOk⟩
  exact .ite w1.holdHub w1.setStage

theorem firmwareVerify : KeepsForm (execFirmwareVerify s) := by
  refine .on ?_
  refine .ite ?_ ?_
  · refine .ite ?_ ?_
    · exact (w.frame.setf ..).holdHub
    · exact .ite w.frame.runSlot (.ite (w.frame.setf ..).runSlot (((w.frame.setf ..).setf ..).setf ..).holdHub)
  · exact w

theorem genReady : KeepsForm (execGenReady s) := by
  refine .on ?_
  refine .ite ?_ ?_
  · refine .maybe ?_ fun w4 => ?_
    · refine .maybe (.raise (.setf (.setStage (.foldl (.ite w.startTime w) fun _ _ w => w.writeDomMode)) ..) ..) fun w3 => ?_
      exact w3.frame.raise ..
    · exact w4.frame.raise ..
  · exact w

theorem rstNAssert : KeepsForm (execRstNAssert s) := .on w.deviceReset.frame

theorem rstNRelease {mode upb} : KeepsForm (execRstNRelease mode upb s) := .on (.ite w.frame.sampleStraps.strapHeld w)

theorem genReset {v} : KeepsForm (execGenReset v s) := .on w.writeReset

theorem resetExecute : KeepsForm (execResetExecute s) := by
  refine .on ?_
  split
  exacts [w, (w.advance ..).deviceReset]

theorem domainReset {d} : KeepsForm (execDomainReset d s) := by
  refine .on ?_
  split
  exacts [w, .ite (w.advance ..) (.ite (w.advance ..).frame (w.advance ..).frame.startDomReset)]

theorem watchdogStage1 : KeepsForm (execWatchdogStage1 s) := .on (.ite w.frame.fatalPath w)

theorem watchdogStage2 : KeepsForm (execWatchdogStage2 s) := by
  refine .on ?_
  split
  exacts [w, .ite w.deviceReset w]

theorem fatalPath {cause detail} : KeepsForm (execFatalPath cause detail s) := .on (.ite w.fatalPath.dumpPrepare w.dumpPrepare)

theorem dumpRelease {v} : KeepsForm (execDumpRelease v s) := .on (.ite w.releaseRegion w)

/-! Machine/Security.lean -/

theorem lcTransition {v} : KeepsForm (execLcTransition v s) := .on w.writeLcCtl

theorem bootCommit {v} : KeepsForm (execBootCommit v s) := .on w.writeBootCtl

theorem bootNextSlot {v} : KeepsForm (execBootNextSlot v s) := .on w.writeBootCtl

theorem khashBurn {v} : KeepsForm (execKhashBurn v s) := .on w.writeKhashCtl

theorem khashRevoke {v} : KeepsForm (execKhashRevoke v s) := .on w.writeKhashCtl

theorem keyLoad {v} : KeepsForm (execKeyLoad v s) := .on w.writeKeyCtl

theorem keyErase {v} : KeepsForm (execKeyErase v s) := .on w.writeKeyCtl

theorem keyBlobRewrite : KeepsForm (execKeyBlobRewrite s) := .on (.ite w.frame w)

theorem dbgChallenge {v} : KeepsForm (execDbgChallenge v s) := .on w.writeDbgCtl

theorem dbgProve {v} : KeepsForm (execDbgProve v s) := .on w.writeDbgCtl

theorem dbgLock {v} : KeepsForm (execDbgLock v s) := .on w.writeDbgCtl

theorem dbgLockoutEnd : KeepsForm (execDbgLockoutEnd s) := .on (.ite w.frame w)

theorem flashErase {v} : KeepsForm (execFlashErase v s) := .on w.writeFlashCmd

theorem flashProgram {v} : KeepsForm (execFlashProgram v s) := .on w.writeFlashCmd

theorem flashOpDone {ok} : KeepsForm (execFlashOpDone ok s) := by
  refine .on ?_
  split
  exacts [w, .setf (.setf (.frame (.ite w (.ite w.flashErase w.flashWrite))) ..) ..]

theorem bar2Read {a n} : KeepsForm (execBar2Read a n s) := .on (.ite w (.ite (w.emit ..) (.ite (w.emit ..) (w.emit ..))))

/-! Machine/SignalMap.lean -/

theorem captureRoute : KeepsForm (execCaptureRoute s) := .on ((w.advance ..).foldl fun _ _ w2 => w2.routeQueue)

theorem signalMapHold {i who v} : KeepsForm (execSignalMapHold i who v s) := .on (.ite w w.holdSig)

theorem signalMapCommit {i v} : KeepsForm (execSignalMapCommit i v s) := .on w.commitSig

theorem signalMapPass : KeepsForm (execSignalMapPass s) := by
  refine .on (.ite w ?_)
  -- The advance of line time becomes a variable: the kernel would run its comparison of times in unary where it compares hubs.
  obtain ⟨advance, e, advanced⟩ : ∃ f, Hub.advance = f ∧ ∀ n t, t.WF → (f n t).WF := ⟨_, rfl, fun n _ w => w.advance n⟩
  rw [e]
  extract_lets _ s0 due later xs
  have wP : (mapInputs s0.fbr.sigMap xs { st := s0 }).1.st.WF := .mapInputs (advanced _ _ w.frame).takeSigs.touchAll
  generalize mapInputs s0.fbr.sigMap xs { st := s0 } = r at wP ⊢
  obtain ⟨P, left⟩ := r
  refine .foldl (.foldl (.count ?_ ..) fun _ _ w => w.sendSig) fun _ _ w => w.mbRelease
  exact wP.frame

/-! Machine/Router.lean -/

theorem registerWrite {off size data} : KeepsForm (execRegisterWrite off size data s) :=
  .on (.ite (w.emit ..) (by split; exacts [w.barWrite, w.barRead]))

theorem counterClear {off} : KeepsForm (execCounterClear off s) := by
  refine .on ?_
  split
  exacts [w.clearCnt .., w]

theorem genSetupClose {v} : KeepsForm (execGenSetupClose v s) := .on w.writeWord

theorem genTblViewWrite {v} : KeepsForm (execGenTblViewWrite v s) := .on w.writeWord

theorem genRdWinSelWrite {v} : KeepsForm (execGenRdWinSelWrite v s) := .on w.writeWord

/-! Machine/BoardConfig.lean -/

theorem boardConfigApply : KeepsForm (execBoardConfigApply s) := by
  refine .on ?_
  refine .ite ?_ ?_
  · refine .startBringup ?_
    refine .startBringup ?_
    refine .setStage ?_
    exact .maybe (.noKeyCheck (.loadBlobs (.eqCheck (by split; exacts [w.applyCfg, (w.setf ..).raise ..])))) fun w3 => w3.raise ..
  · exact w

/-! Machine/Commands.lean -/

theorem regRead {who ok} : KeepsForm (execRegRead who ok s) := by
  refine .on ?_
  split
  next e => exact w.startCmd.of_eq_pair e
  next e =>
    have w1 := w.startCmd.of_eq_pair e
    exact .ite w1.readWords.readBack.complete w1.sendReq

theorem regWrite {who data} : KeepsForm (execRegWrite who data s) := by
  refine .on ?_
  split
  next e => exact w.startCmd.of_eq_pair e
  next e =>
    have w1 := w.startCmd.of_eq_pair e
    split
    exacts [w1.dmaEnd, .ite w1.writeWords.finishLive w1.sendReq]

theorem regWriteHop {who} : KeepsForm (execRegWriteHop who s) := by
  refine .on ?_
  split
  next e => exact w.startCmd.of_eq_pair e
  next e =>
    have w1 := w.startCmd.of_eq_pair e
    exact .ite w1.finish w1.openReq.frame.sendLocal

theorem ping {who} : KeepsForm (execPing who s) := by
  refine .on ?_
  split
  next e => exact w.startCmd.of_eq_pair e
  next e =>
    have w1 := w.startCmd.of_eq_pair e
    exact .ite w1.finish w1.sendReq

theorem planLoad {who data} : KeepsForm (execPlanLoad who data s) := by
  refine .on ?_
  split
  next e => exact w.startCmd.of_eq_pair e
  next e =>
    have w1 := w.startCmd.of_eq_pair e
    split
    exacts [w1.dmaEnd, .ite (.ite w1.finish w1.openReq.takeFragment) (.ite w1.finish w1.openReq.frame.pumpLoads)]

theorem planArm {who} : KeepsForm (execPlanArm who s) := .on w.armCommand

theorem planDisarm {who} : KeepsForm (execPlanDisarm who s) := .on w.armCommand

theorem planQuery {who} : KeepsForm (execPlanQuery who s) := by
  refine .on ?_
  split
  next e => exact w.startCmd.of_eq_pair e
  next e =>
    have w1 := w.startCmd.of_eq_pair e
    exact .ite w1.finish w1.sendReq

theorem launch {who data} : KeepsForm (execLaunch who data s) := by
  refine .on ?_
  split
  next e => exact w.startCmd.of_eq_pair e
  next e =>
    have w1 := w.startCmd.of_eq_pair e
    split
    exacts [w1.dmaEnd, .ite w1.openReq.postLater (.ite w1.openReq.postLater.send w1.sendReq)]

theorem launchCancel {who} : KeepsForm (execLaunchCancel who s) := by
  refine .on ?_
  split
  next e => exact w.startCmd.of_eq_pair e
  next e =>
    have w1 := w.startCmd.of_eq_pair e
    exact .ite w1.openReq.postLater w1.sendReq

theorem reset {who} : KeepsForm (execReset who s) := by
  refine .on ?_
  split
  next e => exact w.startCmd.of_eq_pair e
  next e =>
    have w1 := w.startCmd.of_eq_pair e
    exact .ite w1.askReset.finish w1.sendReq

/-! Machine/Brim.lean -/

theorem brimTransmit {p tx adj} : KeepsForm (execBrimTransmit p tx adj s) := by
  refine .on ?_
  exact .ite w.advanceFrac.postSwitch (.sendBrim (.announce (w.advanceFrac.postSwitch.fillRange.maybe fun w3 => w3.relayEvents)))

theorem syncFrameReceive {p frame rx} : KeepsForm (execSyncFrameReceive p frame rx s) :=
  .on (.ite w.advanceFrac (by split; exacts [w.advanceFrac.syncMiss, w.advanceFrac.takeSync]))

/-! Machine/Dump.lean -/

theorem dumpWriteDone {ok x trace regs} : KeepsForm (execDumpWriteDone ok x trace regs s) := by
  refine .on ?_
  split
  · exact w
  · refine .ite ?_ ?_
    · exact .dumpPrepare (.frame (by split; exacts [w.dmaFail.endJob.showDump, w]))
    · exact (((w.dumpPrepare.dumpWrite.setf ..).setf ..).setf ..).frame.deviceReset

/-! Machine/Messages.lean -/

theorem regReadMsg : KeepsForm (execRegReadMsg s) := by
  refine .on ?_
  split
  next e => exact w.takeMsg.of_eq_pair e
  next e => exact (w.takeMsg.of_eq_pair e).readWords.send

theorem regWriteMsg : KeepsForm (execRegWriteMsg s) := by
  refine .on ?_
  split
  next e => exact w.takeMsg.of_eq_pair e
  next e => exact (w.takeMsg.of_eq_pair e).writeWords.send

theorem regWriteHopMsg : KeepsForm (execRegWriteHopMsg s) := by
  refine .on ?_
  split
  next e => exact w.takeMsg.of_eq_pair e
  next e =>
    have w1 := w.takeMsg.of_eq_pair e
    exact .ite w1 w1.hopWrite.frame.sendLocal

theorem pingMsg : KeepsForm (execPingMsg s) := by
  refine .on ?_
  split
  next e => exact w.takeMsg.of_eq_pair e
  next e => exact (w.takeMsg.of_eq_pair e).send

theorem launchMsg : KeepsForm (execLaunchMsg s) := by
  refine .on ?_
  split
  next e => exact w.takeMsg.of_eq_pair e
  next e => exact (w.takeMsg.of_eq_pair e).postLater

theorem launchCancelMsg : KeepsForm (execLaunchCancelMsg s) := by
  refine .on ?_
  split
  next e => exact w.takeMsg.of_eq_pair e
  next e => exact (w.takeMsg.of_eq_pair e).postLater

theorem resetMsg : KeepsForm (execResetMsg s) := by
  refine .on ?_
  split
  next e => exact w.takeMsg.of_eq_pair e
  next e =>
    have w1 := w.takeMsg.of_eq_pair e
    exact .ite w1.askReset.send w1.send

theorem responseReceive {ok} : KeepsForm (execResponseReceive ok s) := by
  refine .on ?_
  split
  next e => exact w.takeMsg.of_eq_pair e
  next e =>
    have w1 := w.takeMsg.of_eq_pair e
    refine .ite ?_ ?_
    · exact w1.readResponse
    · refine .ite ?_ ?_
      · exact w1.answer
      · refine .ite ?_ ?_
        · exact w1.answer
        · exact .ite (.ite w1.planReport w1.answer) (.ite (.ite w1 w1.answer) (.ite w1.answer (.ite w1.answer w1.fbrResponse)))

theorem launchDoneReceive : KeepsForm (execLaunchDoneReceive s) := by
  refine .on ?_
  split
  next e => exact w.takeMsg.of_eq_pair e
  next e => exact (w.takeMsg.of_eq_pair e).foldl fun _ _ w2 => w2.answerLaunch

theorem eventRelayReceive : KeepsForm (execEventRelayReceive s) := by
  refine .on ?_
  split
  next e => exact w.takeMsg.of_eq_pair e
  next e =>
    have w1 := w.takeMsg.of_eq_pair e
    exact .ite (w1.foldl fun _ _ w2 => w2.tellHost.gadgetEvent) w1

theorem mgmtRequestTimeout {id} : KeepsForm (execMgmtRequestTimeout id s) := by
  refine .on ?_
  split
  exacts [w, .ite w (.ite w.endReq w.endReq.complete)]

/-! Machine/Ring.lean -/

theorem brimReceive {p k b} : KeepsForm (execBrimReceive p k b s) := by
  refine .on ?_
  exact .ite w.checkerBrim (.ite w.frame (.maybe (w.frame.maybe fun w2 => w2.setLane.setf ..) fun w3 => (w3.setf ..).startPairTest))

theorem tickFramingLoss {p k} : KeepsForm (execTickFramingLoss p k s) := .on (.ite (w.frame.setLane.setf ..) w)

theorem mgmtCellReceive {p bytes} : KeepsForm (execMgmtCellReceive p bytes s) := by
  refine .on ?_
  refine .ite ?_ ?_
  · exact w
  · refine .ite ?_ ?_
    · exact w.frame
    · split
      next e => exact (w.frame.acceptCell.of_eq_pair e).routeCell
      next e => exact w.frame.acceptCell.of_eq_pair e

theorem mgmtSourceForget {src} : KeepsForm (execMgmtSourceForget src s) := by
  refine .on ?_
  split
  exacts [w, .ite w.frame w]

theorem breakDeclare {p} : KeepsForm (execBreakDeclare p s) := by
  refine .on ?_
  exact .ite w (.pathCheck (((w.raise ..).setf ..).queueAlarm.dropLink.startBringup.maybe fun w3 => w3.learnBreak))

theorem ringAlarmSend {o} : KeepsForm (execRingAlarmSend o s) := .on w.sendAlarm

theorem ringAlarmReceive {p} : KeepsForm (execRingAlarmReceive p s) := by
  refine .on ?_
  split
  · exact w
  · dsimp only
    split
    next e => exact (w.frame.acceptCell.of_eq_pair e).takeAlarm
    next e => exact w.frame.acceptCell.of_eq_pair e

theorem headAlarmRelay {o} : KeepsForm (execHeadAlarmRelay o s) := .on (.ite w.relayAlarm w)

/-! Machine/Ticks.lean -/

theorem loopBudgetExpiry {c n} : KeepsForm (execLoopBudgetExpiry c n s) := by
  refine .on ?_
  refine .ite ?_ ?_
  · exact w
  · split
    · exact w
    · refine .ite ?_ ?_
      · exact .frame (.ite (w.advance ..) (w.advance ..).overrun)
      · exact .skipLoops (.frame (.ite (w.advance ..) (w.advance ..).overrun))

theorem firmwareLoopEnd {c t} : KeepsForm (execFirmwareLoopEnd c t s) := by
  refine .on ?_
  split
  · exact w
  · refine .maybe ?_ fun w7 => ?_
    · refine .maybe ?_ fun w6 => ?_
      · refine .commitCore ?_
        refine .ite ?_ ?_
        · exact .frame ((w.advance ..).maybe fun w2 => w2.overrun)
        · exact .skipLoops (.frame ((w.advance ..).maybe fun w2 => w2.overrun))
      · exact w6.deriveMargins
    · exact w7.startLoop

theorem tickBoundary {temp} : KeepsForm (execTickBoundary temp s) := .on ((w.toBoundary.setf ..).boundaryWork)

end
end KeepsForm

/-- Each command keeps the form of the hub's data. -/
theorem exec_keepsForm {s : State} (c : Instr) (w : s.hub.WF) : KeepsForm (exec c s) := by
  cases c with
  | tickBoundary _ => exact .tickBoundary w
  | loopBudgetExpiry _ _ => exact .loopBudgetExpiry w
  | firmwareLoopEnd _ _ => exact .firmwareLoopEnd w
  | registerWrite _ _ _ => exact .registerWrite w
  | counterClear _ => exact .counterClear w
  | genSetupClose _ => exact .genSetupClose w
  | genTblViewWrite _ => exact .genTblViewWrite w
  | genRdWinSelWrite _ => exact .genRdWinSelWrite w
  | por _ _ => exact .por w
  | xtalReadyTimeout => exact .xtalReadyTimeout w
  | failsafeXtalRetry _ => exact .failsafeXtalRetry w
  | svcParkExpiry => exact .svcParkExpiry w
  | lineBusGood _ => exact .lineBusGood w
  | railSequenceStep _ => exact .railSequenceStep w
  | pgTimeout => exact .pgTimeout w
  | pgFall _ => exact .pgFall w
  | railFailRecover => exact .railFailRecover w
  | bootRomStart => exact .bootRomStart w
  | firmwareVerify => exact .firmwareVerify w
  | boardConfigApply => exact .boardConfigApply w
  | genReady => exact .genReady w
  | rstNAssert => exact .rstNAssert w
  | rstNRelease _ _ => exact .rstNRelease w
  | watchdogStage1 => exact .watchdogStage1 w
  | watchdogStage2 => exact .watchdogStage2 w
  | genReset _ => exact .genReset w
  | resetExecute => exact .resetExecute w
  | domainReset _ => exact .domainReset w
  | fatalPath _ _ => exact .fatalPath w
  | dumpWriteDone _ _ _ _ => exact .dumpWriteDone w
  | dumpRelease _ => exact .dumpRelease w
  | lcTransition _ => exact .lcTransition w
  | bootCommit _ => exact .bootCommit w
  | bootNextSlot _ => exact .bootNextSlot w
  | khashBurn _ => exact .khashBurn w
  | khashRevoke _ => exact .khashRevoke w
  | keyLoad _ => exact .keyLoad w
  | keyErase _ => exact .keyErase w
  | keyBlobRewrite => exact .keyBlobRewrite w
  | dbgChallenge _ => exact .dbgChallenge w
  | dbgProve _ => exact .dbgProve w
  | dbgLock _ => exact .dbgLock w
  | dbgLockoutEnd => exact .dbgLockoutEnd w
  | flashErase _ => exact .flashErase w
  | flashProgram _ => exact .flashProgram w
  | flashOpDone _ => exact .flashOpDone w
  | senseDeparture _ => exact .senseDeparture w
  | cfgPinSample _ _ _ => exact .cfgPinSample w
  | attachDebounceExpiry _ => exact .attachDebounceExpiry w
  | detachDebounceExpiry _ => exact .detachDebounceExpiry w
  | cableIdRead _ _ _ => exact .cableIdRead w
  | csupTakeover _ => exact .csupTakeover w
  | csupRelease _ => exact .csupRelease w
  | csupResume _ => exact .csupResume w
  | csupFault _ => exact .csupFault w
  | helloSend _ => exact .helloSend w
  | helloReceive _ _ => exact .helloReceive w
  | ackReceive _ _ => exact .ackReceive w
  | pam3Switch _ => exact .pam3Switch w
  | fixedPairRetry _ => exact .fixedPairRetry w
  | pairTestDone _ _ _ _ => exact .pairTestDone w
  | linkFailTimeout _ => exact .linkFailTimeout w
  | bringupRetry _ => exact .bringupRetry w
  | portRelink _ => exact .portRelink w
  | portEnWrite _ _ => exact .portEnWrite w
  | loopStart _ _ => exact .loopStart w
  | loopStop _ => exact .loopStop w
  | knuckleStart _ => exact .knuckleStart w
  | laneWakeStart => exact .laneWakeStart w
  | laneWakeDone _ _ => exact .laneWakeDone w
  | pairLockTimeout _ _ => exact .pairLockTimeout w
  | rowRequestReceive => exact .rowRequestReceive w
  | pairLockFailReceive => exact .pairLockFailReceive w
  | slotReceive _ _ _ _ => exact .slotReceive w
  | switchSlot _ _ _ => exact .switchSlot w
  | brimTransmit _ _ _ => exact .brimTransmit w
  | brimReceive _ _ _ => exact .brimReceive w
  | tickFramingLoss _ _ => exact .tickFramingLoss w
  | syncFrameReceive _ _ _ => exact .syncFrameReceive w
  | mgmtCellReceive _ _ => exact .mgmtCellReceive w
  | mgmtSourceForget _ => exact .mgmtSourceForget w
  | breakDeclare _ => exact .breakDeclare w
  | ringAlarmSend _ => exact .ringAlarmSend w
  | ringAlarmReceive _ => exact .ringAlarmReceive w
  | headAlarmRelay _ => exact .headAlarmRelay w
  | planBEntry => exact .planBEntry w
  | planLoadFragment => exact .planLoadFragment w
  | planCheckDone => exact .planCheckDone w
  | hopDigestReceive => exact .hopDigestReceive w
  | planLoadTimeout => exact .planLoadTimeout w
  | planPeerTimeout => exact .planPeerTimeout w
  | planQueryMsg => exact .planQueryMsg w
  | planArmMsg => exact .planArmMsg w
  | planDisarmMsg => exact .planDisarmMsg w
  | switchPrepare => exact .switchPrepare w
  | epochSwitch => exact .epochSwitch w
  | transparentSwitch => exact .transparentSwitch w
  | transparentEntry => exact .transparentEntry w
  | heldBankRelease => exact .heldBankRelease w
  | epochAdopt _ => exact .epochAdopt w
  | epochMismatch _ => exact .epochMismatch w
  | cellProduce _ _ _ => exact .cellProduce w
  | gapMarkerWrite _ => exact .gapMarkerWrite w
  | packetConsume _ => exact .packetConsume w
  | carveClaimDeadline => exact .carveClaimDeadline w
  | queueFlush _ => exact .queueFlush w
  | queueEnable _ _ => exact .queueEnable w
  | queueDisable _ _ => exact .queueDisable w
  | quotaProfileMinWrite _ _ => exact .quotaProfileMinWrite w
  | quotaProfileCommit _ _ => exact .quotaProfileCommit w
  | poolLowReload _ => exact .poolLowReload w
  | readPortBind _ _ => exact .readPortBind w
  | readPortDataRead _ _ => exact .readPortDataRead w
  | readPortDataHighRead _ => exact .readPortDataHighRead w
  | lineTimeRead _ _ => exact .lineTimeRead w
  | gmSourceMeasure _ _ _ => exact .gmSourceMeasure w
  | ppsInEdge _ => exact .ppsInEdge w
  | gmHoldoverTimeout => exact .gmHoldoverTimeout w
  | gmHoldoverLimit => exact .gmHoldoverLimit w
  | gmSourceWrite _ => exact .gmSourceWrite w
  | originWrite _ _ => exact .originWrite w
  | closureUpdate => exact .closureUpdate w
  | timeAnnounceReceive => exact .timeAnnounceReceive w
  | tioLevelWrite _ => exact .tioLevelWrite w
  | tioModeChange _ _ => exact .tioModeChange w
  | tioCapture _ _ _ => exact .tioCapture w
  | captureRoute => exact .captureRoute w
  | launchRecordPost => exact .launchRecordPost w
  | launchAdmit _ => exact .launchAdmit w
  | launchCancelAdmit => exact .launchCancelAdmit w
  | launchHandover _ => exact .launchHandover w
  | tioSet _ => exact .tioSet w
  | tioClear _ => exact .tioClear w
  | tioPulse _ => exact .tioPulse w
  | tioPulseEnd _ => exact .tioPulseEnd w
  | canTx _ => exact .canTx w
  | ethRelease _ _ => exact .ethRelease w
  | dispCommit _ => exact .dispCommit w
  | camTrigger _ _ => exact .camTrigger w
  | launchCompletionPost => exact .launchCompletionPost w
  | hostPortReset _ => exact .hostPortReset w
  | hifLinkUp _ _ _ => exact .hifLinkUp w
  | bar2Read _ _ => exact .bar2Read w
  | msixVectorUnmask _ _ => exact .msixVectorUnmask w
  | ringEnable _ _ => exact .ringEnable w
  | ringDisable _ _ => exact .ringDisable w
  | ringDrainDone _ => exact .ringDrainDone w
  | doorbellPageArrive _ _ => exact .doorbellPageArrive w
  | doorbellLate => exact .doorbellLate w
  | hifNudge _ => exact .hifNudge w
  | descriptorFetch _ _ => exact .descriptorFetch w
  | txPkt _ _ => exact .txPkt w
  | txTile _ _ => exact .txTile w
  | txCommit _ => exact .txCommit w
  | rxBuf _ _ => exact .rxBuf w
  | regRead _ _ => exact .regRead w
  | regWrite _ _ => exact .regWrite w
  | regWriteHop _ => exact .regWriteHop w
  | ping _ => exact .ping w
  | planLoad _ _ => exact .planLoad w
  | planArm _ => exact .planArm w
  | planDisarm _ => exact .planDisarm w
  | planQuery _ => exact .planQuery w
  | launch _ _ => exact .launch w
  | launchCancel _ => exact .launchCancel w
  | reset _ => exact .reset w
  | nop _ => exact .nop w
  | dumpBuf _ => exact .dumpBuf w
  | regReadMsg => exact .regReadMsg w
  | regWriteMsg => exact .regWriteMsg w
  | regWriteHopMsg => exact .regWriteHopMsg w
  | pingMsg => exact .pingMsg w
  | launchMsg => exact .launchMsg w
  | launchCancelMsg => exact .launchCancelMsg w
  | resetMsg => exact .resetMsg w
  | responseReceive _ => exact .responseReceive w
  | launchDoneReceive => exact .launchDoneReceive w
  | eventRelayReceive => exact .eventRelayReceive w
  | mgmtRequestTimeout _ => exact .mgmtRequestTimeout w
  | eventDeliver => exact .eventDeliver w
  | interruptModeration _ => exact .interruptModeration w
  | ethFrameReceive _ _ _ => exact .ethFrameReceive w
  | ethTransmitStart _ _ _ => exact .ethTransmitStart w
  | ethLinkChange _ _ _ _ _ => exact .ethLinkChange w
  | flowEntryHold _ _ _ => exact .flowEntryHold w
  | flowEntryCommit _ _ => exact .flowEntryCommit w
  | policerCommit _ _ => exact .policerCommit w
  | egqEnable _ _ => exact .egqEnable w
  | relqBind _ _ _ => exact .relqBind w
  | gateListCommit _ _ => exact .gateListCommit w
  | gateListCancel _ => exact .gateListCancel w
  | gateListTakeover _ => exact .gateListTakeover w
  | gateListEntryAdvance _ => exact .gateListEntryAdvance w
  | ptpMessageSend _ _ _ => exact .ptpMessageSend w
  | blkPortEnable _ _ => exact .blkPortEnable w
  | blkPerstRelease _ => exact .blkPerstRelease w
  | blkLinkUp _ _ _ _ _ _ _ _ => exact .blkLinkUp w
  | blkBringupFail _ _ => exact .blkBringupFail w
  | blkBringupRetry _ => exact .blkBringupRetry w
  | blkPortDisable _ => exact .blkPortDisable w
  | nvmeCqeReceive _ _ _ => exact .nvmeCqeReceive w
  | ssdInboundAccess _ _ _ _ _ => exact .ssdInboundAccess w
  | blkRead _ => exact .blkRead w
  | blkWrite _ _ => exact .blkWrite w
  | blkFlush _ => exact .blkFlush w
  | blkDeallocate _ => exact .blkDeallocate w
  | blkIdentify _ => exact .blkIdentify w
  | blkCommandIssue _ => exact .blkCommandIssue w
  | blkResponseReceive _ _ => exact .blkResponseReceive w
  | blkTunnelTimeout _ => exact .blkTunnelTimeout w
  | blkDevTimeout _ _ => exact .blkDevTimeout w
  | blkCtrlReset _ => exact .blkCtrlReset w
  | blkLinkDown _ => exact .blkLinkDown w
  | dspHeadEnable _ _ => exact .dspHeadEnable w
  | dspHeadDisable _ => exact .dspHeadDisable w
  | dspLinkTrain _ _ => exact .dspLinkTrain w
  | dspTrainRetry _ _ => exact .dspTrainRetry w
  | dspIrqHpd _ _ _ => exact .dspIrqHpd w
  | dspHpdRise _ _ _ => exact .dspHpdRise w
  | dspHpdLoss _ => exact .dspHpdLoss w
  | dspPacketTake _ _ => exact .dspPacketTake w
  | dspFrameStart _ _ => exact .dspFrameStart w
  | dspApplyDone _ => exact .dspApplyDone w
  | dspPrefill _ => exact .dspPrefill w
  | dspScanoutStart _ => exact .dspScanoutStart w
  | dspFrzWrite _ _ _ => exact .dspFrzWrite w
  | fbrRead _ _ => exact .fbrRead w
  | fbrWrite _ _ => exact .fbrWrite w
  | fbrLocked _ => exact .fbrLocked w
  | fbrReadMsg => exact .fbrReadMsg w
  | fbrWriteMsg => exact .fbrWriteMsg w
  | fbrLockedMsg => exact .fbrLockedMsg w
  | zoneBusCycle _ => exact .zoneBusCycle w
  | zrdyTimeout _ => exact .zrdyTimeout w
  | fbrStale _ => exact .fbrStale w
  | fbrPrefetchExpiry _ => exact .fbrPrefetchExpiry w
  | fbrWinClear _ => exact .fbrWinClear w
  | fbrWindowEnable _ _ => exact .fbrWindowEnable w
  | zintSample _ _ => exact .zintSample w
  | fbrPoll _ _ => exact .fbrPoll w
  | canTxreq _ _ _ => exact .canTxreq w
  | canTxDone _ _ _ => exact .canTxDone w
  | canFrameReceive _ _ _ => exact .canFrameReceive w
  | canErrorStateChange _ _ _ _ => exact .canErrorStateChange w
  | canBusOn _ => exact .canBusOn w
  | canEnable _ _ => exact .canEnable w
  | signalMapPass => exact .signalMapPass w
  | signalMapHold _ _ _ => exact .signalMapHold w
  | signalMapCommit _ _ => exact .signalMapCommit w
  | tcpPortEnable _ _ => exact .tcpPortEnable w
  | ccChange _ _ _ => exact .ccChange w
  | tcpCcDebounce _ => exact .tcpCcDebounce w
  | tcpDetachDebounce _ => exact .tcpDetachDebounce w
  | tcpErrorRecoveryEnd _ => exact .tcpErrorRecoveryEnd w
  | portSAttachChange _ _ _ => exact .portSAttachChange w
  | vbusEnable _ => exact .vbusEnable w
  | tcpNoBudget _ => exact .tcpNoBudget w
  | sourceCapabilitiesSend _ _ => exact .sourceCapabilitiesSend w
  | pdRequest _ _ _ _ _ => exact .pdRequest w
  | pdTransitionStart _ => exact .pdTransitionStart w
  | pdVbusReached _ => exact .pdVbusReached w
  | pdTransitionTimeout _ => exact .pdTransitionTimeout w
  | pdReofferTimeout _ => exact .pdReofferTimeout w
  | pdGetSourceCap _ => exact .pdGetSourceCap w
  | pdUnsupportedMessage _ _ => exact .pdUnsupportedMessage w
  | pdSoftReset _ => exact .pdSoftReset w
  | pdMessageFail _ => exact .pdMessageFail w
  | hardReset _ _ => exact .hardReset w
  | hardResetEnd _ => exact .hardResetEnd w
  | recaps _ => exact .recaps w
  | vconnTake _ => exact .vconnTake w
  | vconnSwapReceive _ => exact .vconnSwapReceive w
  | sinktxngWaitEnd _ _ _ => exact .sinktxngWaitEnd w
  | pdPsRdy _ => exact .pdPsRdy w
  | vconnSwapTimeout _ => exact .vconnSwapTimeout w
  | dpAltModeEntry _ => exact .dpAltModeEntry w
  | pdVdmResponse _ _ => exact .pdVdmResponse w
  | vdmResponseTimeout _ => exact .vdmResponseTimeout w
  | dpExit _ => exact .dpExit w
  | pdAttention _ _ _ => exact .pdAttention w
  | usbSofReceive _ _ _ => exact .usbSofReceive w
  | usbSuspend => exact .usbSuspend w
  | usbBabble _ _ => exact .usbBabble w
  | usbResume _ => exact .usbResume w
  | gadgetRemoteWake _ => exact .gadgetRemoteWake w
  | usbBusReset _ _ _ => exact .usbBusReset w
  | gadgetCommand _ => exact .gadgetCommand w
  | gadgetFilterSet _ => exact .gadgetFilterSet w
  | getInfo => exact .getInfo w
  | getChallenge => exact .getChallenge w
  | setProof _ => exact .setProof w
  | lock => exact .lock w
  | execCmd _ => exact .execCmd w
  | gadgetSessionIdle => exact .gadgetSessionIdle w
  | gadgetLockoutEnd => exact .gadgetLockoutEnd w
  | lpwChannelEn _ _ => exact .lpwChannelEn w
  | lpwQualifyDone _ => exact .lpwQualifyDone w
  | lpwRampDone _ => exact .lpwRampDone w
  | startTimeout _ => exact .startTimeout w
  | shortAtStart _ => exact .shortAtStart w
  | currentLimit _ => exact .currentLimit w
  | gauntlet _ => exact .gauntlet w
  | fastTrip _ _ => exact .fastTrip w
  | overtemp _ => exact .overtemp w
  | ov _ => exact .ov w
  | reverseCurrent _ _ => exact .reverseCurrent w
  | forwardReclose _ => exact .forwardReclose w
  | bothSidesDead _ => exact .bothSidesDead w
  | cooldownEnd _ => exact .cooldownEnd w
  | tripHistoryReset _ => exact .tripHistoryReset w
  | lpwClear _ => exact .lpwClear w
  | lpwGauntletCommit _ _ => exact .lpwGauntletCommit w
  | lpwSample _ _ _ _ _ => exact .lpwSample w
  | ipeakClear _ => exact .ipeakClear w
  | pwrEntryArm _ _ _ => exact .pwrEntryArm w
  | pwrWakeRequest _ _ => exact .pwrWakeRequest w
  | pwrEntryDone _ => exact .pwrEntryDone w
  | pwrExitDone _ _ => exact .pwrExitDone w
  | pwrScheduledWake _ => exact .pwrScheduledWake w
  | pwrHwWake _ => exact .pwrHwWake w
  | pwrWakeTimeout _ _ => exact .pwrWakeTimeout w
  | pwrWakeRetry _ _ _ => exact .pwrWakeRetry w
  | pwrDomRetry _ _ => exact .pwrDomRetry w
  | pwrRefuseClear _ => exact .pwrRefuseClear w
  | linkRamAuditDone => exact .linkRamAuditDone w
  | flipArm _ => exact .flipArm w
  | flipApply _ => exact .flipApply w
  | eccLogClear => exact .eccLogClear w
  | roSample _ _ _ => exact .roSample w
  | eyeScanRoutine _ _ => exact .eyeScanRoutine w
  | eyeScanPoint _ _ _ => exact .eyeScanPoint w
  | replanWaitExpiry => exact .replanWaitExpiry w
  | fetHistoryUpdate _ _ => exact .fetHistoryUpdate w
  | voltageDroop _ => exact .voltageDroop w
  | eyeScan _ _ => exact .eyeScan w
  | bist _ _ => exact .bist w
  | rowRepair _ _ => exact .rowRepair w
  | ageingSample _ _ => exact .ageingSample w
  | fuseTest _ _ => exact .fuseTest w
  | bistTestStart _ => exact .bistTestStart w
  | bistFenceTimeout _ => exact .bistFenceTimeout w
  | maintStop _ => exact .maintStop w
  | maintDone _ _ => exact .maintDone w
  | aonStop => exact .aonStop w
  | lowSpeedLock _ => exact .lowSpeedLock w
  | perstNRelease => exact .perstNRelease w
  | upbVbusChange _ => exact .upbVbusChange w
  | hubPortReset _ _ => exact .hubPortReset w
  | gadgetInTransfer _ => exact .gadgetInTransfer w

/-- Settles O57: a step runs one command or none, and each command keeps the form of the hub's data. -/
theorem stepKeepsTheHubsForm : Obligations.StepKeepsTheHubsForm := by
  unfold Obligations.StepKeepsTheHubsForm
  intro s t w h
  unfold step at h
  split at h
  · cases h
    exact w
  · exact exec_keepsForm (s := s.rest) _ w t h

end Sys2Proof.Machine
end

section
/-! PROOFS. Line memory reads what was written (R156): the bytes of a write, by address, and memories told apart by what they read as. -/

namespace Sys2Proof.Machine

/-! A table is told by what it holds at each key. -/

/-- Nothing stands in a table at a key below those it lists, or at the one it starts above. -/
theorem Tab.get?_of_above {α : Type} {k j : Nat} {t : Tab α} (above : Tab.above k t) (le : j ≤ k) : Tab.get? j t = none := by
  induction t with
  | nil => rfl
  | cons e t ih =>
    have lt : k < e.1 := above e (by simp)
    rw [Tab.get?, if_neg (by omega)]
    exact ih fun x m => above x (List.mem_cons_of_mem _ m)

theorem Tab.mem_of_get? {α : Type} {k : Nat} {v : α} {t : Tab α} (found : Tab.get? k t = some v) : (k, v) ∈ t := by
  induction t with
  | nil => cases found
  | cons e t ih =>
    rw [Tab.get?] at found
    split at found
    · next same =>
      cases found
      simp [same]
    · exact List.mem_cons_of_mem _ (ih found)

theorem Tab.eq_of_get? {α : Type} {t u : Tab α} (wt : Tab.wf t = true) (wu : Tab.wf u = true)
    (same : ∀ k, Tab.get? k t = Tab.get? k u) : t = u := by
  induction t generalizing u with
  | nil =>
    cases u with
    | nil => rfl
    | cons e u => simpa [Tab.get?] using same e.1
  | cons e t ih =>
    obtain ⟨k, v⟩ := e
    cases u with
    | nil => simpa [Tab.get?] using same k
    | cons e u =>
      obtain ⟨j, x⟩ := e
      obtain ⟨aboveT, wt'⟩ := Tab.wf_cons.mp wt
      obtain ⟨aboveU, wu'⟩ := Tab.wf_cons.mp wu
      have key : k = j := by
        rcases Nat.lt_trichotomy k j with lt | eq | lt
        · have := same k
          simp [Tab.get?, lt.ne, Tab.get?_of_above aboveU lt.le] at this
        · exact eq
        · have := same j
          simp [Tab.get?, lt.ne, Tab.get?_of_above aboveT lt.le] at this
      subst key
      have val : v = x := by simpa [Tab.get?] using same k
      subst val
      congr 1
      refine ih wt' wu' fun i => ?_
      by_cases le : i ≤ k
      · rw [Tab.get?_of_above aboveT le, Tab.get?_of_above aboveU le]
      · have ne : i ≠ k := by omega
        simpa [Tab.get?, ne] using same i

/-! What a byte of line memory reads as, and that this tells the memory. -/

/-- What byte `x` of the memory `m` reads as. -/
def memAt (m : List Host.Cell) (x : Nat) : Byte := Tab.getD m x memBlank

theorem Hub.memByte_eq (h : Hub) (x : Nat) : h.memByte x = memAt h.lineMem x := rfl

theorem memAt_memPut_self {a : Nat} (b : Byte) (m : List Host.Cell) (lt : a < memSize) : memAt (memPut a b m) a = b := by
  unfold memAt Tab.getD memPut
  split
  · next blank => simp [blank]
  · simp

theorem memAt_memPut_ne {a x : Nat} (b : Byte) (m : List Host.Cell) (ne : x ≠ a) : memAt (memPut a b m) x = memAt m x := by
  unfold memAt Tab.getD memPut
  split
  · rw [Tab.get?_del_ne ne]
  · split
    · rw [Tab.get?_put_ne ne]
    · rfl

theorem memAt_memWrite_outside {a x : Nat} {bs : List Byte} (m : List Host.Cell) (out : x < a ∨ a + bs.length ≤ x) :
    memAt (memWrite a bs m) x = memAt m x := by
  induction bs generalizing a m with
  | nil => rfl
  | cons b bs ih =>
    rw [List.length_cons] at out
    rw [memWrite, ih _ (by omega), memAt_memPut_ne _ _ (by omega)]

theorem memAt_memWrite_inside {a i : Nat} {bs : List Byte} (m : List Host.Cell) (lt : i < bs.length) (fits : a + i < memSize) :
    memAt (memWrite a bs m) (a + i) = bs[i] := by
  induction bs generalizing a i m with
  | nil => cases lt
  | cons b bs ih =>
    cases i with
    | zero => rw [memWrite, memAt_memWrite_outside _ (by omega)]; exact memAt_memPut_self b m fits
    | succ i =>
      have tail := ih (a := a + 1) (memPut a b m) (Nat.lt_of_succ_lt_succ lt) (by omega)
      rwa [Nat.add_right_comm] at tail

/-- Each entry of a canonical memory lies within it and is not blank. -/
theorem Memory.entry {m : List Host.Cell} (w : Memory.wf m = true) {x : Nat} {b : Byte} (found : Tab.get? x m = some b) :
    b ≠ memBlank ∧ x < memSize := by
  have all := (Bool.and_eq_true_iff.mp w).2
  simpa using List.all_eq_true.mp all _ (Tab.mem_of_get? found)

theorem memAt_beyond {m : List Host.Cell} (w : Memory.wf m = true) {x : Nat} (beyond : memSize ≤ x) : memAt m x = memBlank := by
  unfold memAt Tab.getD
  cases found : Tab.get? x m with
  | none => rfl
  | some b => exact absurd (Memory.entry w found).2 (by omega)

theorem Memory.eq_of_memAt {m n : List Host.Cell} (wm : Memory.wf m = true) (wn : Memory.wf n = true)
    (same : ∀ x, memAt m x = memAt n x) : m = n := by
  refine Tab.eq_of_get? (Bool.and_eq_true_iff.mp wm).1 (Bool.and_eq_true_iff.mp wn).1 fun x => ?_
  have same := same x
  unfold memAt Tab.getD at same
  cases hm : Tab.get? x m with
  | none =>
    cases hn : Tab.get? x n with
    | none => rfl
    | some c => exact absurd (by simpa [hm, hn] using same.symm) (Memory.entry wn hn).1
  | some b =>
    cases hn : Tab.get? x n with
    | none => exact absurd (by simpa [hm, hn] using same) (Memory.entry wm hm).1
    | some c => simpa [hm, hn] using same

/-! Writes. -/

theorem memWrite_memWrite (a : Nat) {bs cs : List Byte} {m : List Host.Cell} (len : bs.length = cs.length) (w : Memory.wf m = true) :
    memWrite a cs (memWrite a bs m) = memWrite a cs m := by
  have wb := memWrite_wf a bs w
  refine Memory.eq_of_memAt (memWrite_wf a cs wb) (memWrite_wf a cs w) fun x => ?_
  by_cases beyond : memSize ≤ x
  · rw [memAt_beyond (memWrite_wf a cs wb) beyond, memAt_beyond (memWrite_wf a cs w) beyond]
  by_cases out : x < a ∨ a + cs.length ≤ x
  · rw [memAt_memWrite_outside _ out, memAt_memWrite_outside _ out, memAt_memWrite_outside _ (len ▸ out)]
  · obtain ⟨i, rfl⟩ : ∃ i, x = a + i := ⟨x - a, by omega⟩
    rw [memAt_memWrite_inside _ (by omega) (by omega), memAt_memWrite_inside _ (by omega) (by omega)]

theorem Hub.memRead_memStore (h : Hub) {a : Nat} {bs : List Byte} (fits : a + bs.length ≤ memSize) :
    (h.memStore a bs).memRead a bs.length = bs := by
  refine List.ext_getElem (by simp [Hub.memRead]) fun i _ lt => ?_
  simpa [Hub.memRead, Hub.memStore, Hub.memByte_eq] using memAt_memWrite_inside h.lineMem lt (by omega)

theorem Hub.memByte_memStore_outside (h : Hub) {a x : Nat} {bs : List Byte} (out : x < a ∨ a + bs.length ≤ x) :
    (h.memStore a bs).memByte x = h.memByte x := memAt_memWrite_outside h.lineMem out

/-- Settles O54: a byte written reads back where it lies in line memory, the others are as before, and a canonical memory is told by what
its bytes read as. -/
theorem lineMemoryReadsWhatWasWritten : Obligations.LineMemoryReadsWhatWasWritten := by
  unfold Obligations.LineMemoryReadsWhatWasWritten
  exact ⟨fun h _ _ => h.memRead_memStore, fun h _ _ _ => h.memByte_memStore_outside,
    fun _ a _ bs beyond w => memAt_beyond (memWrite_wf a bs w) beyond, fun _ a bs => memWrite_wf a bs,
    fun _ a _ _ => memWrite_memWrite a⟩

end Sys2Proof.Machine
end

section
/-! PROOFS. The queue, profile, pool and read-port registers (R166, R173, R178 to R180). -/

namespace Sys2Proof.Machine

/-! Queues after the operations of the pool. -/

@[simp] theorem Hub.queue_setQueue_self (s : Hub) (q : Nat) (Q : Queue) : (s.setQueue q Q).queue q = Q := by
  simp [Hub.queue, Hub.setQueue, Tab.getD]

theorem Hub.queue_setQueue_ne (s : Hub) {q a : Nat} (ne : q ≠ a) (Q : Queue) : (s.setQueue a Q).queue q = s.queue q := by
  simp [Hub.queue, Hub.setQueue, Tab.getD, Tab.get?_put_ne ne]

theorem Hub.queue_congr {s t : Hub} (same : t.pool.queues = s.pool.queues) (q : Nat) : t.queue q = s.queue q := by
  unfold Hub.queue
  rw [same]

@[simp] theorem Hub.queue_setf (s : Hub) (f : Fl) (v q : Nat) : (s.setf f v).queue q = s.queue q := Hub.queue_congr (by simp) q

@[simp] theorem Hub.queue_raise (s : Hub) (e : EvDef) (xs : List Nat) (q : Nat) : (s.raise e xs).queue q = s.queue q :=
  Hub.queue_congr (by simp) q

@[simp] theorem Hub.queue_setReadPort (s : Hub) (p : Nat) (r : ReadPort) (q : Nat) : (s.setReadPort p r).queue q = s.queue q := rfl

@[simp] theorem Hub.queue_claimCheck (s : Hub) (q : Nat) : s.claimCheck.queue q = s.queue q := by
  refine Hub.queue_congr ?_ q
  unfold Hub.claimCheck
  split
  · rfl
  · split
    · rfl
    · simp

@[simp] theorem Hub.queue_dropChains (s : Hub) (gone : List QCell) (q : Nat) : (s.dropChains gone).queue q = s.queue q := rfl

/-- A flush leaves the queue without packets and without an open one. -/
theorem Hub.queue_flushQ (s : Hub) (q : Nat) : ((s.flushQ q).queue q).pkts = [] ∧ ((s.flushQ q).queue q).part = [] := by
  simp [Hub.flushQ]

/-- Releasing a consumer's binding leaves every queue its packets. -/
theorem Hub.queue_unbindCons (s : Hub) (a : Nat) (w : Who) (q : Nat) :
    ((s.unbindCons a w).queue q).pkts = (s.queue q).pkts ∧ ((s.unbindCons a w).queue q).part = (s.queue q).part := by
  unfold Hub.unbindCons
  split
  · by_cases same : q = a
    · subst same
      simp
    · simp [Hub.queue_setQueue_ne _ same]
  · exact ⟨rfl, rfl⟩

theorem Hub.queue_portRelease (s : Hub) (p q : Nat) :
    ((s.portRelease p).queue q).pkts = (s.queue q).pkts ∧ ((s.portRelease p).queue q).part = (s.queue q).part := by
  unfold Hub.portRelease
  dsimp only
  split
  · exact ⟨rfl, rfl⟩
  · rw [Hub.queue_setf, Hub.queue_setReadPort]
    exact s.queue_unbindCons _ _ q

/-! Fields the pool's watch leaves as they are (R177, R178). -/

theorem Hub.getf_poolWatch (s : Hub) (was : Int) {f : Fl} (low : f.key ≠ Fld.CPL_GEN_LOW.key)
    (notOverrun : f.key ≠ Fld.GEN_EVT_STATUS_OVERRUN.key) : (s.poolWatch was).getf f = s.getf f := by
  have kept : (if s.genFree < s.getf Fld.CPL_GEN_LOW then s.setf Fld.CPL_GEN_LOW s.genFree else s).getf f = s.getf f := by
    split
    · exact s.getf_setf_ne low _
    · rfl
  unfold Hub.poolWatch
  extract_lets s1
  split
  · exact (Hub.getf_raiseLimited _ _ _ _ notOverrun).trans kept
  · exact kept

@[simp] theorem Hub.pool_poolWatch (s : Hub) (was : Int) : (s.poolWatch was).pool = s.pool := by
  unfold Hub.poolWatch
  extract_lets s1
  have kept : s1.pool = s.pool := by
    unfold s1
    split
    · exact Hub.setf_pool ..
    · rfl
  split
  · exact (Hub.raiseLimited_pool ..).trans kept
  · exact kept

/-! A queue's configuration (R166, R180). -/

section
variable {s : Hub} {q v : Nat} (configured : 20 ≤ q)
include configured

theorem Hub.writeQcfg_enable (disabled : s.qEnabled q = false) (en : bit v 31 = true)
    (fits : poolCondition s.pool.carve s.pendCarve (s.minSum + s.profMin (bits v 23 16)) = true) :
    s.writeQcfg q v = (((s.setf (Fld.CPL_QCFG_EN q) 1).setf (Fld.CPL_QCFG_KIND q) (bits v 30 30)).setf (Fld.CPL_QCFG_PROFILE q)
      (bits v 23 16)).poolWatch s.genShared := by
  simp [Hub.writeQcfg, Nat.not_lt.mpr configured, disabled, en, fits]

theorem Hub.writeQcfg_disable (enabled : s.qEnabled q = true) (en : bit v 31 = false) :
    s.writeQcfg q v = s.disableQ q ∨ s.writeQcfg q v = (s.disableQ q).lockedWrite (qcfgOff q) v := by
  simp only [Hub.writeQcfg, if_neg (Nat.not_lt.mpr configured), if_pos enabled, en, Bool.false_eq_true, if_false]
  split
  · exact .inr rfl
  · exact .inl rfl

end

theorem Hub.qEnabled_disableQ (s : Hub) (q : Nat) : (s.disableQ q).qEnabled q = false := by
  rw [Hub.qEnabled, Hub.flag, Hub.disableQ, Hub.getf_setf_self]
  rfl

theorem Hub.queue_disableQ (s : Hub) (q : Nat) : ((s.disableQ q).queue q).pkts = [] ∧ ((s.disableQ q).queue q).part = [] := by
  have flushed : ((s.flushClear q).queue q).pkts = [] ∧ ((s.flushClear q).queue q).part = [] := by
    rw [Hub.flushClear, Hub.queue_setQueue_self]
    exact s.queue_flushQ q
  unfold Hub.disableQ
  extract_lets s1 s2 Q
  have released : Q.pkts = [] ∧ Q.part = [] := by
    unfold Q s2
    split
    · rw [(s1.queue_portRelease _ q).1, (s1.queue_portRelease _ q).2]
      exact flushed
    · exact flushed
  rw [Hub.queue_setf, Hub.queue_setQueue_self]
  split
  · exact released
  · exact released

/-! Read ports (R173). -/

@[simp] theorem Hub.readPort_setf (s : Hub) (f : Fl) (v p : Nat) : (s.setf f v).readPort p = s.readPort p := by
  simp [Hub.readPort]

@[simp] theorem Hub.readPort_setReadPort_self (s : Hub) (p : Nat) (r : ReadPort) : (s.setReadPort p r).readPort p = r := by
  simp [Hub.readPort, Hub.setReadPort, Tab.getD]

theorem Hub.writeQrpSel_bind {s : Hub} {p v : Nat}
    (taken : ((s.portRelease p).setf (Fld.CPL_QRP_SEL_QUEUE p) (bits v 12 0)).portRefused (bits v 12 0) = false) :
    ∃ r : ReadPort, r.queue = some (bits v 12 0) ∧ s.writeQrpSel p v =
      (((((s.portRelease p).setf (Fld.CPL_QRP_SEL_QUEUE p) (bits v 12 0)).bindCons (bits v 12 0) (.port p)).setReadPort p r).setf
        (Fld.CPL_QRP_SEL_BAD p) 0).setf (Fld.CPL_QRP_SEL_BOUND p) 1 := by
  refine ⟨_, ?_, if_neg (by simp [taken])⟩
  rfl

theorem Hub.readQrpLow_unbound {s : Hub} {p : Nat} (unbound : (s.readPort p).queue = none) :
    s.readQrpLow p true = (emptyWord, s) := by
  simp [Hub.readQrpLow, Hub.portTake, unbound]

/-- The held half is read once; where none is held, the word is the empty one's half. -/
theorem Hub.readQrpHigh_held (s : Hub) (p : Nat) :
    (s.readQrpHigh p).1 = (s.readPort p).high.getD 0x7FFFFFFF ∧ ((s.readQrpHigh p).2.readPort p).high = none := by
  unfold Hub.readQrpHigh
  dsimp only
  cases high : (s.readPort p).high with
  | none => exact ⟨rfl, high⟩
  | some h => exact ⟨rfl, by simp⟩

/-! The commands. -/

theorem runs_queueEnable {q : Fin 8192} {v : Word} {s : State} (configured : 20 ≤ q.val) (disabled : s.hub.qEnabled q = false)
    (en : bit v.toNat 31 = true)
    (fits : poolCondition s.hub.pool.carve s.hub.pendCarve (s.hub.minSum + s.hub.profMin (bits v.toNat 23 16)) = true) :
    Runs (.queueEnable q v) s (fun h => h.qEnabled q = true ∧ h.getf (Fld.CPL_QCFG_KIND q) = bits v.toNat 30 30 ∧
      h.getf (Fld.CPL_QCFG_PROFILE q) = bits v.toNat 23 16) := by
  refine runs_of_eq rfl (Hub.writeQcfg_enable configured disabled en fits) ?_
  have kind : bits v.toNat 30 30 < 2 ^ 1 := bits_lt ..
  have prof : bits v.toNat 23 16 < 2 ^ 8 := bits_lt ..
  simp only [Hub.qEnabled, Hub.flag]
  rw [Hub.getf_poolWatch, Hub.getf_poolWatch, Hub.getf_poolWatch, Hub.getf_setf_ne, Hub.getf_setf_ne, Hub.getf_setf_self,
    Hub.getf_setf_ne, Hub.getf_setf_self, Hub.getf_setf_self]
  · exact ⟨rfl, Nat.mod_eq_of_lt kind, Nat.mod_eq_of_lt prof⟩
  all_goals
    dsimp only [Fld.CPL_QCFG_EN, Fld.CPL_QCFG_KIND, Fld.CPL_QCFG_PROFILE, Fld.CPL_GEN_LOW, Fld.GEN_EVT_STATUS_OVERRUN]
    omega

theorem runs_queueDisable {q : Fin 8192} {v : Word} {s : State} (configured : 20 ≤ q.val) (enabled : s.hub.qEnabled q = true)
    (en : bit v.toNat 31 = false) :
    Runs (.queueDisable q v) s (fun h => h.qEnabled q = false ∧ (h.queue q).pkts = [] ∧ (h.queue q).part = []) := by
  have done := And.intro (s.hub.qEnabled_disableQ q) (s.hub.queue_disableQ q)
  rcases Hub.writeQcfg_disable configured enabled en with same | locked
  · exact runs_of_eq rfl same done
  · refine runs_of_eq rfl locked ?_
    rw [Hub.lockedWrite, Hub.queue_raise, Hub.qEnabled, Hub.flag, Hub.getf_raise]
    · exact done
    · dsimp only [Fld.CPL_QCFG_EN, Fld.GEN_EVT_STATUS_OVERRUN]
      omega

theorem runs_quotaProfileCommit {i : Fin 256} {v : Word} {s : State} {mn : Nat}
    (held : mn = Tab.getD s.hub.pool.heldMin i (s.hub.profMin i)) (le : mn ≤ bits v.toNat 17 0) (one : 1 ≤ bits v.toNat 17 0)
    (top : bits v.toNat 17 0 ≤ 258048) (fits : poolCondition s.hub.pool.carve s.hub.pendCarve (s.hub.minSumWith i mn) = true) :
    Runs (.quotaProfileCommit i v) s (fun h => h.getf (Fld.CPL_QPROF_MIN_MIN i) = mn ∧
      h.getf (Fld.CPL_QPROF_MAX_MAX i) = bits v.toNat 17 0 ∧ Tab.get? i.val h.pool.heldMin = none) := by
  subst held
  refine runs_of_eq rfl (if_pos ⟨le, one, top, fits⟩) ⟨?_, ?_, ?_⟩
  · rw [Hub.getf_poolWatch, Hub.getf_setf_ne, Hub.getf_setf_self]
    · exact Nat.mod_eq_of_lt (by dsimp only [Fld.CPL_QPROF_MIN_MIN]; omega)
    all_goals
      dsimp only [Fld.CPL_QPROF_MIN_MIN, Fld.CPL_QPROF_MAX_MAX, Fld.CPL_GEN_LOW, Fld.GEN_EVT_STATUS_OVERRUN]
      omega
  · rw [Hub.getf_poolWatch, Hub.getf_setf_self]
    · exact Nat.mod_eq_of_lt (by dsimp only [Fld.CPL_QPROF_MAX_MAX]; omega)
    all_goals
      dsimp only [Fld.CPL_QPROF_MAX_MAX, Fld.CPL_GEN_LOW, Fld.GEN_EVT_STATUS_OVERRUN]
      omega
  · simp

theorem runs_readPortBind {p : Fin 16} {v : Word} {s : State}
    (taken : ((s.hub.portRelease p).setf (Fld.CPL_QRP_SEL_QUEUE p) (bits v.toNat 12 0)).portRefused (bits v.toNat 12 0) = false) :
    Runs (.readPortBind p v) s (fun h => h.getf (Fld.CPL_QRP_SEL_BAD p) = 0 ∧ h.getf (Fld.CPL_QRP_SEL_BOUND p) = 1 ∧
      h.getf (Fld.CPL_QRP_SEL_QUEUE p) = bits v.toNat 12 0 ∧ (h.queue (bits v.toNat 12 0)).cons = some (.port p) ∧
      (h.readPort p).queue = some (bits v.toNat 12 0)) := by
  obtain ⟨r, bound, does⟩ := Hub.writeQrpSel_bind taken
  have fits : bits v.toNat 12 0 < 2 ^ 13 := bits_lt ..
  have kept (t : Hub) (q : Nat) (w : Who) (f : Fl) : ((t.bindCons q w).setReadPort p r).getf f = t.getf f := rfl
  refine runs_of_eq rfl does ⟨?_, ?_, ?_, ?_, ?_⟩
  · rw [Hub.getf_setf_ne, Hub.getf_setf_self]
    · rfl
    · dsimp only [Fld.CPL_QRP_SEL_BAD, Fld.CPL_QRP_SEL_BOUND]
      omega
  · rw [Hub.getf_setf_self]
    rfl
  · rw [Hub.getf_setf_ne, Hub.getf_setf_ne, kept, Hub.getf_setf_self]
    · exact Nat.mod_eq_of_lt fits
    all_goals
      dsimp only [Fld.CPL_QRP_SEL_BAD, Fld.CPL_QRP_SEL_BOUND, Fld.CPL_QRP_SEL_QUEUE]
      omega
  · simp [Hub.bindCons]
  · simp [bound]

theorem runs_readPortDataRead_unbound {p : Fin 16} {s : State} (unbound : (s.hub.readPort p).queue = none) :
    Runs (.readPortDataRead p true) s (fun h => h = s.hub.emit (.readData (qrpDataOff p) emptyWord)) :=
  runs_of_eq rfl (by dsimp only; rw [Hub.readQrpLow_unbound unbound]) rfl

theorem runs_readPortDataHighRead (p : Fin 16) (s : State) : Runs (.readPortDataHighRead p) s (fun h => (h.readPort p).high = none ∧
    h.out.head? = some (.readData (qrpDataOff p + 4) ((s.hub.readPort p).high.getD 0x7FFFFFFF))) := by
  obtain ⟨word, left⟩ := s.hub.readQrpHigh_held p
  exact ⟨_, rfl, left, by rw [← word]; rfl⟩

/-- Settles O2, command by command: the fields, the queue and the port that each write sets, and what a read of a port answers. -/
theorem poolRegistersConfigureQueuesAndReadPorts : Obligations.PoolRegistersConfigureQueuesAndReadPorts := by
  unfold Obligations.PoolRegistersConfigureQueuesAndReadPorts
  exact ⟨fun _ _ _ => runs_queueEnable, fun _ _ _ => runs_queueDisable, fun _ _ _ => ⟨_, rfl, rfl⟩,
    fun _ _ _ => runs_quotaProfileCommit rfl, fun _ _ => ⟨_, rfl, rfl⟩, fun _ _ _ => runs_readPortBind,
    fun _ _ => runs_readPortDataRead_unbound, fun p w s => ⟨(s.hub.readQrpLow p w).1, _, rfl, rfl⟩, runs_readPortDataHighRead⟩

end Sys2Proof.Machine
end

section
/-! PROOFS. A queue table out of order makes the pool count a queue's cells twice (R164), so that a grant is lost. -/

namespace Sys2Proof.Machine

/-- A cell that queue 20 holds, in the GENERAL partition of `crowded`. -/
def crowdedCell : QCell := ⟨258046, 0, true, true, false, false, 0⟩

/-- A hub with a GENERAL partition of two cells, one of which queue 20 holds; queue 20 has minimum 2 and maximum 4. Its queue table lists
queue 21 before queue 20: the keys do not rise. -/
def crowded : Hub :=
  ({ pool := { carveEff := 258046, queues := [(21, {}), (20, { pkts := [[crowdedCell]], prod := some .eth })] } } : Hub)
    |>.setf (Fld.CPL_QCFG_EN 20) 1 |>.setf (Fld.CPL_QPROF_MIN_MIN 0) 2 |>.setf (Fld.CPL_QPROF_MAX_MAX 0) 4

theorem mayGrant_crowded : crowded.MayGrant 20 := ⟨by decide +kernel, by decide +kernel⟩

/-- The write of SKIP, before the grant is asked for, lists queue 20 a second time: both of its entries count as held, and no cell is free
for the new one. -/
theorem pkts_produce_crowded : ((crowded.produce 20 .eth ⟨[1], true, true, false, false, 0⟩).queue 20).pkts = [[crowdedCell]] := by
  decide +kernel

/-- Refutes O1: `crowded` meets every premise of the first clause, which does not ask that the keys of the queue table rise, and there the
cell is refused and joins no packet. -/
theorem not_queuesStoreAndLosePackets : ¬ Obligations.QueuesStoreAndLosePackets := by
  unfold Obligations.QueuesStoreAndLosePackets
  rintro ⟨stored, -⟩
  obtain ⟨h, run, x, pkts, -⟩ := stored 20 .eth ⟨[1], true, true, false, false, 0⟩ { hub := crowded } (by decide) (by decide +kernel)
    (by decide +kernel) (by decide +kernel) (by decide +kernel) (by decide +kernel) rfl rfl rfl mayGrant_crowded
  obtain rfl : crowded.produce 20 .eth ⟨[1], true, true, false, false, 0⟩ = h := congrArg State.hub (Host.Outcome.next.inj run)
  have joined : [[crowdedCell]] = [[crowdedCell]] ++ [[x]] := pkts_produce_crowded.symm.trans pkts
  simp at joined

end Sys2Proof.Machine
end

section
/-! PROOFS. Management messages that a hub serves and answers (R199, R203, R240, R241, R445). -/

namespace Sys2Proof.Machine

/-! What a message sent leaves as it was. -/

theorem StoreFree.sec : StoreFree Hub.sec where
  cnts _ _ := rfl
  ev _ _ := rfl
  lastRaise _ _ := rfl
  fresh _ _ := rfl
  lineMem _ _ := rfl
  pool _ _ := rfl
  rel _ _ := rfl
  overrun s v := s.setf_sec _ v
  genLow s v := s.setf_sec _ v

theorem MsgFree.sec : MsgFree Hub.sec where
  toStoreFree := .sec
  ring _ _ := rfl
  blk _ _ := rfl
  eccLog _ s v := s.setf_sec _ v

/-! The commands. -/

theorem beBytes_one (v : Nat) : beBytes 1 v = [BitVec.ofNat 8 v] := by
  simp only [beBytes, leBytes, List.reverse_singleton]
  exact congrArg (fun b => [b]) (BitVec.eq_of_toNat_eq (by simp))

/-- The answer to REG_WRITE names the first word ignored, 0xFF where there is none (R240). -/
theorem writeRsp_eq (off n : Nat) (first : Option Nat) : writeRsp off n first =
    beBytes 4 off ++ beBytes 1 n ++ (match first with | none => [0, 0xFF] | some i => [15, BitVec.ofNat 8 i]) ++ [0] := by
  cases first <;>
    simp only [writeRsp, writeStatus, Option.getD_none, Option.getD_some, beBytes_one, List.append_assoc, List.cons_append, List.nil_append] <;> rfl

theorem hopTarget_iff (m : Msg) : hopTarget m = true ↔ m.port = 0 ∧ m.src = 0 ∧ m.hops + beNat (slice m.body 0 2) = 256 := by
  simp only [hopTarget, Bool.and_eq_true, beq_iff_eq, and_assoc]

section
variable {m : Msg} {t : Hub} {s : State}

theorem runs_regReadMsg (taken : s.hub.takeMsg 4 [0x01] = (some m, t)) : Runs .regReadMsg s (fun h =>
    let r := t.readWords (min 56 (byteAt m.body 4)) (beNat (slice m.body 0 4))
    h = r.2.send m.src 0x02 m.msgId (beBytes 4 (beNat (slice m.body 0 4)) ++ beBytes 1 (min 56 (byteAt m.body 4)) ++ zeros 3 ++
      r.1.flatMap (fun v => beBytes 4 v))) := by
  refine ⟨_, rfl, ?_⟩
  beta_reduce
  rw [taken]
  simp only [stOk, beBytes_one, List.append_assoc]
  rfl

theorem runs_regWriteMsg (taken : s.hub.takeMsg 4 [0x03] = (some m, t)) : Runs .regWriteMsg s (fun h => ∃ vals,
    vals.length = min 56 (byteAt m.body 4) ∧ (∀ i < vals.length, vals.getD i 0 = beNat (slice m.body (8 + 4 * i) 4)) ∧
    let r := t.writeWords vals (beNat (slice m.body 0 4)) 0 none
    h = r.2.send m.src 0x04 m.msgId (beBytes 4 (beNat (slice m.body 0 4)) ++ beBytes 1 vals.length ++
      (match r.1 with | none => [0, 0xFF] | some i => [15, BitVec.ofNat 8 i]) ++ [0])) := by
  let vals := (List.range (min 56 (byteAt m.body 4))).map (fun i => beNat (slice m.body (8 + 4 * i) 4))
  have count : vals.length = min 56 (byteAt m.body 4) := by simp [vals]
  refine ⟨_, rfl, vals, count, fun i lt => ?_, ?_⟩
  · rw [List.getD_eq_getElem _ _ lt, List.getElem_map, List.getElem_range]
  · beta_reduce
    rw [taken]
    dsimp only
    rw [writeRsp_eq, count]

theorem runs_regWriteHopMsg (taken : s.hub.takeMsg 4 [0x05] = (some m, t)) : Runs .regWriteHopMsg s (fun h =>
    if t.isHead = true ∨ m.port ≠ 0 ∨ m.src ≠ 0 ∨ m.hops + beNat (slice m.body 0 2) ≠ 256 then h = t
    else
      let off := beNat (slice m.body 4 4)
      let r := t.hopWrite (beNat (slice m.body 0 2)) off (beNat (slice m.body 8 4))
      let c := r.2.mgmtCell tnMgmt 0 0x04 255 m.msgId (writeRsp off 1 r.1)
      h = c.2.2.sendLocal 0 c.1 c.2.1) := by
  have stays : (t.isHead || !hopTarget m) = true ↔
      t.isHead = true ∨ m.port ≠ 0 ∨ m.src ≠ 0 ∨ m.hops + beNat (slice m.body 0 2) ≠ 256 := by
    rw [Bool.or_eq_true, Bool.not_eq_true', ← Bool.not_eq_true, hopTarget_iff]
    tauto
  refine ⟨_, rfl, ?_⟩
  beta_reduce
  rw [taken]
  dsimp only
  split
  next other => rw [if_pos (stays.mpr other)]
  next target => rw [if_neg (mt stays.mp target)]

theorem runs_pingMsg (taken : s.hub.takeMsg 4 [0x06] = (some m, t)) :
    Runs .pingMsg s (fun h => h = t.send m.src 0x07 m.msgId (slice m.body 0 8 ++ beBytes 8 t.tick)) :=
  runs_of_eq rfl (by dsimp only; rw [taken]) rfl

theorem runs_launchMsg (taken : s.hub.takeMsg 4 [0x20] = (some m, t)) : Runs .launchMsg s (fun h => ∃ x : List LaunchPost,
    x.length = min 7 (byteAt m.body 0) ∧ h.time.toPost = t.time.toPost ++ x ∧
    ∀ y ∈ x, y.src = .msg m.src m.msgId ∧ y.cancel = false ∧ y.at' = m.tick + 1 ∧ y.bytes.length = 32) := by
  refine ⟨_, rfl, ?_⟩
  beta_reduce
  rw [taken]
  refine ⟨_, ?_, rfl, ?_⟩
  · simp
  · simp only [List.mem_map]
    rintro y ⟨_, ⟨_, _, rfl⟩, rfl⟩
    exact ⟨rfl, rfl, rfl, length_padTo ..⟩

theorem runs_launchCancelMsg (taken : s.hub.takeMsg 4 [0x21] = (some m, t)) : Runs .launchCancelMsg s (fun h => ∃ y : LaunchPost,
    h.time.toPost = t.time.toPost ++ [y] ∧ y.src = .msg m.src m.msgId ∧ y.cancel = true ∧ y.at' = m.tick + 1) := by
  refine ⟨_, rfl, ?_⟩
  beta_reduce
  rw [taken]
  exact ⟨_, rfl, rfl, rfl, rfl⟩

theorem runs_resetMsg (taken : s.hub.takeMsg 4 [0x38] = (some m, t)) : Runs .resetMsg s (fun h => h.sec.dues =
    if byteAt m.body 0 = 5 then t.sec.dues ++ [⟨4, 0, t.tick + 1⟩]
    else if resetByteOk (byteAt m.body 0) = true ∧ t.domResetRefused (byteAt m.body 0 - 0x20) = false then
      t.sec.dues ++ [⟨6, byteAt m.body 0 - 0x20, t.tick + 1⟩]
    else t.sec.dues) := by
  refine ⟨_, rfl, ?_⟩
  beta_reduce
  rw [taken]
  dsimp only
  by_cases known : resetByteOk (byteAt m.body 0) = true
  · rw [if_pos known, MsgFree.sec.send, Hub.askReset]
    by_cases device : byteAt m.body 0 = 5
    · rw [if_pos device, if_pos device]
    · by_cases refused : t.domResetRefused (byteAt m.body 0 - 0x20) = true
      · rw [if_neg device, if_pos refused, if_neg device, if_neg (by simp [refused])]
      · rw [if_neg device, if_neg refused, if_neg device, if_pos ⟨known, by simpa using refused⟩]
  · have other : byteAt m.body 0 ≠ 5 := fun device => known (by rw [device]; rfl)
    rw [if_neg known, MsgFree.sec.send, if_neg other, if_neg (mt And.left known)]

end

/-- Settles O21, message by message: each is taken from queue 4, done, and answered to its source. -/
theorem managementMessagesServed : Obligations.ManagementMessagesServed := by
  unfold Obligations.ManagementMessagesServed
  exact fun m t s => ⟨runs_regReadMsg, runs_regWriteMsg, runs_regWriteHopMsg, runs_pingMsg, runs_launchMsg, runs_launchCancelMsg,
    runs_resetMsg⟩

end Sys2Proof.Machine
end

section
/-! PROOFS. Line time as it is read, the grandmaster's source, holdover, ORIGIN, CLOSURE and the announcement (R183 to R187, R190, R193,
R211). -/

namespace Sys2Proof.Machine

/-! Two's complement, and single bits. -/

theorem enc_lt (w : Nat) (i : Int) : enc w i < 2 ^ w := by
  have pos : (0 : Int) < (2 ^ w : Nat) := by positivity
  have nonneg := Int.emod_nonneg i pos.ne'
  have lt := Int.emod_lt_of_pos i pos
  unfold enc
  omega

theorem sgn_enc_32 {i : Int} (low : -2 ^ 31 ≤ i) (high : i < 2 ^ 31) : sgn 32 (enc 32 i) = i := by
  unfold sgn enc
  split <;> omega

theorem Hub.getf_setf_of_lt (s : Hub) {f : Fl} {v : Nat} (lt : v < 2 ^ f.width) : (s.setf f v).getf f = v :=
  (s.getf_setf_self f v).trans (Nat.mod_eq_of_lt lt)

theorem posted_of_ev {s t u : Hub} {e : EvDef} {xs : List Nat} (posted : Posted s t e xs) (same : u.ev = t.ev) : Posted s u e xs := by
  rwa [Posted, same]

section
variable (s : Hub)

/-! Reading line time (R183). -/

theorem Hub.advanceFrac_line (x : Nat) :
    (s.advanceFrac x).now * 65536 + (s.advanceFrac x).nowFrac = max (s.now * 65536 + s.nowFrac) x := by
  unfold Hub.advanceFrac
  split
  · dsimp only; omega
  · omega

theorem Hub.latchTime_shows (t frac : Nat) : (s.latchTime t frac).getf Fld.LTM_NOW_LO = t % 2 ^ 32 ∧
    (s.latchTime t frac).getf Fld.LTM_NOW_HI = t / 2 ^ 32 % 2 ^ 32 ∧ (s.latchTime t frac).getf Fld.LTM_NOW_FRAC_FRAC = frac % 65536 ∧
    (s.latchTime t frac).getf Fld.LTM_TICK_LO = t / tickNs % 2 ^ 32 := by
  unfold Hub.latchTime
  refine ⟨?_, ?_, ?_, ?_⟩ <;> simp (disch := decide) only [Hub.getf_setf_ne] <;> rw [Hub.getf_setf_self]
  · exact Nat.mod_mod ..
  · rfl
  · rfl
  · exact Nat.mod_mod ..

theorem Hub.latchTime_now (t frac : Nat) : (s.latchTime t frac).now = s.now ∧ (s.latchTime t frac).nowFrac = s.nowFrac := by
  simp [Hub.latchTime]

theorem Hub.latchTime_out (t frac : Nat) : (s.latchTime t frac).out = s.out := by simp [Hub.latchTime]

/-! The state of line time (R187, R212). -/

theorem Hub.timeState_setTimeState {st : Nat} (lt : st < 8) : (s.setTimeState st).timeState = st := s.getf_setf_of_lt lt

theorem Hub.getf_setTimeState {f : Fl} (apart : f.key ≠ Fld.LTM_STATUS_STATE.key) (st : Nat) : (s.setTimeState st).getf f = s.getf f :=
  s.getf_setf_ne apart st

theorem Hub.eventMark_setTimeState (st : Nat) : (s.setTimeState st).eventMark = s.eventMark := s.eventMark_setf (by decide) st

theorem Hub.timeState_raise (e : EvDef) (xs : List Nat) : (s.raise e xs).timeState = s.timeState := s.getf_raise e xs (by decide)

theorem Hub.timeLocked_iff : s.timeLocked = true ↔ s.timeState = tmLocked := beq_iff_eq

theorem Hub.timeLocked_lockTime : s.lockTime.timeLocked = true := by
  unfold Hub.lockTime
  split
  · assumption
  · rw [Hub.timeLocked_iff, Hub.timeState_raise, Hub.timeState_setTimeState _ (by decide)]

theorem Hub.time_lockTime : s.lockTime.time = s.time := by
  unfold Hub.lockTime
  split <;> simp [Hub.setTimeState]

theorem Hub.getf_lockTime {f : Fl} (state : f.key ≠ Fld.LTM_STATUS_STATE.key) (overrun : f.key ≠ Fld.GEN_EVT_STATUS_OVERRUN.key) :
    s.lockTime.getf f = s.getf f := by
  unfold Hub.lockTime
  split
  · rfl
  · rw [Hub.getf_raise _ _ _ overrun, Hub.getf_setTimeState _ state]

theorem Hub.posted_lockTime {t : Hub} (mark : t.eventMark = s.eventMark) (unlocked : t.timeState ≠ tmLocked) :
    Posted s t.lockTime Evt.LTM_LOCKED [t.getf Fld.LTM_STATUS_PATH, t.getf Fld.LTM_STATUS_HOPS_GM] := by
  rw [Hub.lockTime, if_neg (mt t.timeLocked_iff.mp unlocked)]
  exact Hub.posted_raise_of_mark s ((t.eventMark_setTimeState _).trans mark) _ _

/-! A source measurement at the head (R184 to R187). -/

/-- The fields that the removal of a phase error writes. -/
def errorFields : List Fl :=
  [Fld.LTM_SRC_ERR, Fld.LTM_RATE, Fld.LTM_ORIGIN_SEC_LO, Fld.LTM_ORIGIN_SEC_HI, Fld.LTM_ORIGIN_NS_NS, Fld.GEN_EVT_STATUS_OVERRUN]

/-- The fields that a first lock to the source writes. -/
def originFields : List Fl :=
  [Fld.LTM_ORIGIN_SEC_LO, Fld.LTM_ORIGIN_SEC_HI, Fld.LTM_ORIGIN_NS_NS, Fld.LTM_ORIGIN_NS_MAP_VALID, Fld.LTM_STATUS_MAP_VALID]

theorem Hub.setOrigin_time (ns : Nat) : (s.setOrigin ns).time = s.time := by simp [Hub.setOrigin]

theorem Hub.setOrigin_ev (ns : Nat) : (s.setOrigin ns).ev = s.ev := by simp [Hub.setOrigin]

theorem Hub.getf_setOrigin {f : Fl} (lo : f.key ≠ Fld.LTM_ORIGIN_SEC_LO.key) (hi : f.key ≠ Fld.LTM_ORIGIN_SEC_HI.key)
    (ns : f.key ≠ Fld.LTM_ORIGIN_NS_NS.key) (n : Nat) : (s.setOrigin n).getf f = s.getf f := by
  rw [Hub.setOrigin, Hub.getf_setf_ne _ ns, Hub.getf_setf_ne _ hi, Hub.getf_setf_ne _ lo]

theorem Hub.originNs_setOrigin (n : Nat) : (s.setOrigin n).getf Fld.LTM_ORIGIN_NS_NS = n % 1000000000 :=
  Hub.getf_setf_of_lt _ ((Nat.mod_lt n (by decide)).trans (by decide))

theorem Hub.time_removeError (e : Int) : (s.removeError e).time = s.time := by
  unfold Hub.removeError
  dsimp only
  split <;> simp [Hub.servoRate, Hub.setOrigin_time]

theorem Hub.getf_removeError {f : Fl} (apart : ∀ g ∈ errorFields, f.key ≠ g.key) (e : Int) : (s.removeError e).getf f = s.getf f := by
  simp only [errorFields, List.forall_mem_cons] at apart
  obtain ⟨err, rate, lo, hi, ns, overrun, -⟩ := apart
  unfold Hub.removeError
  dsimp only
  split
  · rw [Hub.servoRate, Hub.getf_setf_ne _ rate, Hub.getf_congr (Hub.free_regs ..), Hub.getf_setf_ne _ err]
  · rw [Hub.getf_raise _ _ _ overrun, Hub.getf_setOrigin _ lo hi ns, Hub.getf_setf_ne _ err]

theorem Hub.srcErr_removeError (e : Int) : (s.removeError e).getf Fld.LTM_SRC_ERR = enc 32 e := by
  have written : (s.setf Fld.LTM_SRC_ERR (enc 32 e)).getf Fld.LTM_SRC_ERR = enc 32 e := s.getf_setf_of_lt (enc_lt 32 e)
  unfold Hub.removeError
  dsimp only
  split
  · rwa [Hub.servoRate, Hub.getf_setf_ne _ (by decide), Hub.getf_congr (Hub.free_regs ..)]
  · rwa [Hub.getf_raise _ _ _ (by decide), Hub.getf_setOrigin _ (by decide) (by decide) (by decide)]

theorem Hub.rate_servoRate_le {most : Nat} (small : most < 2 ^ 30) : (sgn 32 ((s.servoRate most).getf Fld.LTM_RATE)).natAbs ≤ most := by
  have within : (s.free freeTagRate).1 % (2 * most + 1) < 2 * most + 1 := Nat.mod_lt _ (by omega)
  have written : (s.servoRate most).getf Fld.LTM_RATE = enc 32 (((s.free freeTagRate).1 % (2 * most + 1) : Nat) - (most : Int)) :=
    Hub.getf_setf_of_lt _ (enc_lt 32 _)
  rw [written, sgn_enc_32] <;> omega

/-- An error of up to 1 ms is removed by rate (R186). -/
theorem Hub.removeError_small {e : Int} (small : e.natAbs ≤ 1000000) :
    s.removeError e = (s.setf Fld.LTM_SRC_ERR (enc 32 e)).servoRate 100000 := if_pos small

theorem Hub.eventMark_removeError {e : Int} (small : e.natAbs ≤ 1000000) : (s.removeError e).eventMark = s.eventMark := by
  rw [s.removeError_small small, Hub.servoRate, Hub.eventMark_setf _ (by decide)]
  exact s.eventMark_setf (by decide) _

/-- The hub after a measurement's error is removed, before its state is judged. -/
def Hub.measured (e : Int) (s : Hub) : Hub := { s.removeError e with time := { (s.removeError e).time with lastMeas := s.up } }

theorem Hub.measured_time (e : Int) : (s.measured e).time = { s.time with lastMeas := s.up } := by
  rw [Hub.measured, Hub.time_removeError]

theorem Hub.getf_measured {f : Fl} (apart : ∀ g ∈ errorFields, f.key ≠ g.key) (e : Int) : (s.measured e).getf f = s.getf f :=
  s.getf_removeError apart e

/-- The hub with `n` good measurements in a row. -/
def Hub.withRun (n : Nat) (s : Hub) : Hub := { s with time := { s.time with lockRun := n } }

/-- The first lock takes ORIGIN from the source (R185). -/
def Hub.firstLock (origin : Nat) (mapIt : Bool) (s : Hub) : Hub :=
  if s.time.srcLocked then s
  else
    let s1 := ({ s with time := { s.time with srcLocked := true } } : Hub).setOrigin origin
    if mapIt then s1.setf Fld.LTM_ORIGIN_NS_MAP_VALID 1 |>.setf Fld.LTM_STATUS_MAP_VALID 1 else s1

theorem Hub.sourceMeasure_holdover (origin : Nat) (mapIt : Bool) (e : Int) (held : s.timeState = tmHoldover ∨ s.timeState = tmHoldLimit) :
    s.sourceMeasure e origin mapIt = ((s.measured e).withRun 0).setTimeState tmAcquiring := if_pos held

section
variable {s} (origin : Nat) (mapIt : Bool) {e : Int} (acquiring : s.timeState = tmAcquiring)
include acquiring

theorem Hub.sourceMeasure_far (far : 50 < e.natAbs) : s.sourceMeasure e origin mapIt = (s.measured e).withRun 0 := by
  unfold Hub.sourceMeasure
  dsimp only
  rw [acquiring, if_neg (by decide), if_pos rfl, if_neg (Nat.not_le.mpr far), if_pos (by decide)]
  rfl

theorem Hub.sourceMeasure_run (near : e.natAbs ≤ 50) (short : s.time.lockRun + 1 < 16) :
    s.sourceMeasure e origin mapIt = (s.measured e).withRun (s.time.lockRun + 1) := by
  unfold Hub.sourceMeasure
  dsimp only
  rw [acquiring, if_neg (by decide), if_pos rfl, if_pos near, if_pos short]
  rfl

theorem Hub.sourceMeasure_lock (near : e.natAbs ≤ 50) (long : 16 ≤ s.time.lockRun + 1) :
    s.sourceMeasure e origin mapIt = ((s.measured e).withRun (s.time.lockRun + 1)).lockTime.firstLock origin mapIt := by
  have src : ((s.measured e).withRun (s.time.lockRun + 1)).lockTime.time.srcLocked = s.time.srcLocked := by
    rw [Hub.time_lockTime, Hub.withRun, Hub.measured_time]
  unfold Hub.sourceMeasure Hub.firstLock
  dsimp only
  rw [src, acquiring, if_neg (by decide), if_pos rfl, if_pos near, if_neg (Nat.not_lt.mpr long)]
  rfl

end

theorem Hub.sourceMeasure_other (origin : Nat) (mapIt : Bool) (e : Int) (held : ¬(s.timeState = tmHoldover ∨ s.timeState = tmHoldLimit))
    (acquiring : s.timeState ≠ tmAcquiring) : s.sourceMeasure e origin mapIt = s.measured e := by
  unfold Hub.sourceMeasure
  dsimp only
  rw [if_neg held, if_neg acquiring]
  rfl

theorem Hub.firstLock_ev (origin : Nat) (mapIt : Bool) : (s.firstLock origin mapIt).ev = s.ev := by
  simp only [Hub.firstLock, apply_ite Hub.ev, Hub.setf_ev, Hub.setOrigin_ev, ite_self]

theorem Hub.getf_firstLock {f : Fl} (apart : ∀ g ∈ originFields, f.key ≠ g.key) (origin : Nat) (mapIt : Bool) :
    (s.firstLock origin mapIt).getf f = s.getf f := by
  simp only [originFields, List.forall_mem_cons] at apart
  obtain ⟨lo, hi, ns, valid, shown, -⟩ := apart
  have origins : (({ s with time := { s.time with srcLocked := true } } : Hub).setOrigin origin).getf f = s.getf f :=
    Hub.getf_setOrigin _ lo hi ns origin
  simp only [Hub.firstLock, apply_ite (fun t : Hub => t.getf f), Hub.getf_setf_ne _ shown, Hub.getf_setf_ne _ valid, origins, ite_self]

/-- A far error starts the row of good measurements again (R187). -/
theorem Hub.sourceMeasure_restarts {s : Hub} (origin : Nat) (mapIt : Bool) {e : Int} (acquiring : s.timeState = tmAcquiring)
    (far : 50 < e.natAbs) : (s.sourceMeasure e origin mapIt).time.lockRun = 0 ∧
    (s.sourceMeasure e origin mapIt).timeState = tmAcquiring := by
  rw [Hub.sourceMeasure_far origin mapIt acquiring far]
  exact ⟨rfl, (s.getf_measured (by decide) e).trans acquiring⟩

/-- A good measurement before the 16th only counts (R187). -/
theorem Hub.sourceMeasure_counts {s : Hub} (origin : Nat) (mapIt : Bool) {e : Int} (acquiring : s.timeState = tmAcquiring)
    (near : e.natAbs ≤ 50) (short : s.time.lockRun + 1 < 16) : (s.sourceMeasure e origin mapIt).time.lockRun = s.time.lockRun + 1 ∧
    (s.sourceMeasure e origin mapIt).timeState = tmAcquiring := by
  rw [Hub.sourceMeasure_run origin mapIt acquiring near short]
  exact ⟨rfl, (s.getf_measured (by decide) e).trans acquiring⟩

/-- The 16th good measurement in a row locks (R187, R212). -/
theorem Hub.sourceMeasure_locks {s : Hub} (origin : Nat) (mapIt : Bool) {e : Int} (acquiring : s.timeState = tmAcquiring)
    (near : e.natAbs ≤ 50) (long : 16 ≤ s.time.lockRun + 1) : (s.sourceMeasure e origin mapIt).timeLocked = true ∧
    Posted s (s.sourceMeasure e origin mapIt) Evt.LTM_LOCKED [s.getf Fld.LTM_STATUS_PATH, s.getf Fld.LTM_STATUS_HOPS_GM] := by
  let v := (s.measured e).withRun (s.time.lockRun + 1)
  have kept (f : Fl) (apart : ∀ g ∈ errorFields, f.key ≠ g.key) : v.getf f = s.getf f := s.getf_measured apart e
  have locked := v.timeLocked_lockTime
  have unlocked : v.timeState ≠ tmLocked := by rw [Hub.timeState, kept _ (by decide), ← Hub.timeState, acquiring]; decide
  have posted := s.posted_lockTime (t := v) (s.eventMark_removeError (by omega)) unlocked
  rw [kept _ (by decide), kept _ (by decide)] at posted
  rw [Hub.sourceMeasure_lock origin mapIt acquiring near long]
  refine ⟨?_, posted_of_ev posted (Hub.firstLock_ev ..)⟩
  rw [Hub.timeLocked_iff] at locked ⊢
  exact (Hub.getf_firstLock _ (by decide) ..).trans locked

/-- What every source measurement shows (R184, R187). -/
theorem Hub.sourceMeasure_shows (e : Int) (origin : Nat) (mapIt : Bool) : (s.sourceMeasure e origin mapIt).time.lastMeas = s.up ∧
    ∀ f ∈ [Fld.LTM_SRC_ERR, Fld.LTM_RATE], (s.sourceMeasure e origin mapIt).getf f = (s.removeError e).getf f := by
  have last : (s.measured e).time.lastMeas = s.up := rfl
  have apart : ∀ f ∈ [Fld.LTM_SRC_ERR, Fld.LTM_RATE], f.key ≠ Fld.LTM_STATUS_STATE.key ∧ f.key ≠ Fld.GEN_EVT_STATUS_OVERRUN.key ∧
      ∀ g ∈ originFields, f.key ≠ g.key := by decide
  by_cases held : s.timeState = tmHoldover ∨ s.timeState = tmHoldLimit
  · rw [s.sourceMeasure_holdover origin mapIt e held]
    exact ⟨by rwa [Hub.setTimeState, Hub.setf_time], fun f m => Hub.getf_setTimeState _ (apart f m).1 _⟩
  by_cases acquiring : s.timeState = tmAcquiring
  · rcases Nat.lt_or_ge 50 e.natAbs with far | near
    · rw [Hub.sourceMeasure_far origin mapIt acquiring far]
      exact ⟨last, fun _ _ => rfl⟩
    rcases Nat.lt_or_ge (s.time.lockRun + 1) 16 with short | long
    · rw [Hub.sourceMeasure_run origin mapIt acquiring near short]
      exact ⟨last, fun _ _ => rfl⟩
    · rw [Hub.sourceMeasure_lock origin mapIt acquiring near long]
      refine ⟨?_, fun f m => ?_⟩
      · simp only [Hub.firstLock, apply_ite Hub.time, apply_ite Time.lastMeas, Hub.setf_time, Hub.setOrigin_time, Hub.time_lockTime, ite_self]
        exact last
      · obtain ⟨state, overrun, origins⟩ := apart f m
        rw [Hub.getf_firstLock _ origins, Hub.getf_lockTime _ state overrun]
        rfl
  · rw [s.sourceMeasure_other origin mapIt e held acquiring]
    exact ⟨last, fun _ _ => rfl⟩

/-- The first lock to PTP maps line time (R185). -/
theorem Hub.firstLock_mapped (origin : Nat) (first : s.time.srcLocked = false) : (s.firstLock origin true).mapValid = true ∧
    (s.firstLock origin true).getf Fld.LTM_ORIGIN_NS_NS = origin % 1000000000 := by
  rw [Hub.firstLock, if_neg (by rw [first]; exact Bool.false_ne_true)]
  dsimp only
  rw [if_pos rfl, Hub.mapValid, Hub.flag, Hub.getf_setf_ne _ (by decide), Hub.getf_setf_self, Hub.getf_setf_ne _ (by decide),
    Hub.getf_setf_ne _ (by decide), Hub.originNs_setOrigin]
  exact ⟨rfl, rfl⟩

end

/-- A first lock to PTP takes ORIGIN from the source (R185). -/
theorem Hub.sourceMeasure_maps {s : Hub} (origin : Nat) {e : Int} (acquiring : s.timeState = tmAcquiring) (near : e.natAbs ≤ 50)
    (long : 16 ≤ s.time.lockRun + 1) (first : s.time.srcLocked = false) : (s.sourceMeasure e origin true).mapValid = true ∧
    (s.sourceMeasure e origin true).getf Fld.LTM_ORIGIN_NS_NS = origin % 1000000000 := by
  rw [Hub.sourceMeasure_lock origin true acquiring near long]
  exact Hub.firstLock_mapped _ origin (by rw [Hub.time_lockTime, Hub.withRun, Hub.measured_time, first])

/-! The commands. -/

theorem runs_lineTimeRead (t frac : Nat) (s : State) : Runs (.lineTimeRead t frac) s (fun h =>
    h.now * 65536 + h.nowFrac = max (s.hub.now * 65536 + s.hub.nowFrac) (t * 65536 + frac) ∧
    h.getf Fld.LTM_NOW_LO = h.now % 2 ^ 32 ∧ h.getf Fld.LTM_NOW_HI = h.now / 2 ^ 32 % 2 ^ 32 ∧
    h.getf Fld.LTM_NOW_FRAC_FRAC = h.nowFrac % 65536 ∧ h.getf Fld.LTM_TICK_LO = h.tick % 2 ^ 32 ∧
    h.out = .readData 0x050004 (h.now % 2 ^ 32) :: s.hub.out) := by
  refine ⟨_, rfl, ?_⟩
  beta_reduce
  let u := s.hub.advanceFrac (t * fracUnit + frac)
  obtain ⟨now, nowFrac⟩ := u.latchTime_now u.now u.nowFrac
  obtain ⟨lo, hi, fraction, tick⟩ := u.latchTime_shows u.now u.nowFrac
  simp only [Hub.getf_emit, Hub.emit_now, Hub.emit_nowFrac, Hub.tick, Hub.out_emit, now, nowFrac, lo, hi, fraction, tick, Hub.latchTime_out,
    Hub.advanceFrac_out, and_true, u]
  exact s.hub.advanceFrac_line _

theorem runs_gmSourceMeasure (e : Int) (ptp : Nat) (c : BitVec 64) (s : State) : Runs (.gmSourceMeasure e ptp c) s (fun h =>
    if s.hub.isHead = true ∧ s.hub.time.started = true ∧ s.hub.gmSource = 1 then
      h.getf Fld.LTM_SRC_ERR = enc 32 e ∧ h.time.lastMeas = s.hub.up ∧ h.time.clock = c.toNat ∧
      (e.natAbs ≤ 1000000 → (sgn 32 (h.getf Fld.LTM_RATE)).natAbs ≤ 100000) ∧
      (s.hub.timeState = tmHoldover ∨ s.hub.timeState = tmHoldLimit → h.timeState = tmAcquiring) ∧
      (s.hub.timeState = tmAcquiring → 50 < e.natAbs → h.time.lockRun = 0 ∧ h.timeState = tmAcquiring) ∧
      (s.hub.timeState = tmAcquiring → e.natAbs ≤ 50 → s.hub.time.lockRun + 1 < 16 →
        h.time.lockRun = s.hub.time.lockRun + 1 ∧ h.timeState = tmAcquiring) ∧
      (s.hub.timeState = tmAcquiring → e.natAbs ≤ 50 → 16 ≤ s.hub.time.lockRun + 1 → h.timeLocked = true ∧
        Posted s.hub h Evt.LTM_LOCKED [s.hub.getf Fld.LTM_STATUS_PATH, s.hub.getf Fld.LTM_STATUS_HOPS_GM] ∧
        (s.hub.time.srcLocked = false → h.mapValid = true ∧
          h.getf Fld.LTM_ORIGIN_NS_NS = (ptp - s.hub.now) % 1000000000))
    else h = s.hub) := by
  by_cases live : s.hub.isHead = true ∧ s.hub.time.started = true ∧ s.hub.gmSource = 1
  swap
  · exact runs_if_not rfl live ((if_neg live).mpr rfl)
  let u := s.hub.sourceMeasure e (ptp - s.hub.now) true
  obtain ⟨last, kept⟩ := s.hub.sourceMeasure_shows e (ptp - s.hub.now) true
  refine runs_if (a := { u with time := { u.time with clock := c.toNat } }) rfl live ?_
  rw [if_pos live]
  refine ⟨?_, last, rfl, fun small => ?_, fun held => ?_, fun acquiring far => ?_, fun acquiring near short => ?_,
    fun acquiring near long => ?_⟩
  · exact (kept _ (by decide)).trans (s.hub.srcErr_removeError e)
  · have rate := Hub.rate_servoRate_le (s.hub.setf Fld.LTM_SRC_ERR (enc 32 e)) (most := 100000) (by decide)
    rwa [← s.hub.removeError_small small, ← kept _ (by decide)] at rate
  · have acquires := ((s.hub.measured e).withRun 0).timeState_setTimeState (st := tmAcquiring) (by decide)
    rwa [← s.hub.sourceMeasure_holdover (ptp - s.hub.now) true e held] at acquires
  · exact Hub.sourceMeasure_restarts _ true acquiring far
  · exact Hub.sourceMeasure_counts _ true acquiring near short
  · obtain ⟨locked, posted⟩ := Hub.sourceMeasure_locks (ptp - s.hub.now) true acquiring near long
    exact ⟨locked, posted_of_ev posted rfl, Hub.sourceMeasure_maps _ acquiring near long⟩

theorem Hub.ppsError_advance (s : Hub) (t : Nat) : (s.advance t).ppsError t = s.ppsError t := by
  unfold Hub.ppsError Hub.mapped Hub.originNs
  simp only [Hub.getf_advance]

theorem Hub.isHead_advance (s : Hub) (t : Nat) : (s.advance t).isHead = s.isHead := by rw [Hub.isHead, Hub.getf_advance, Hub.isHead]

theorem Hub.gmSource_advance (s : Hub) (t : Nat) : (s.advance t).gmSource = s.gmSource := Hub.getf_advance ..

theorem runs_ppsInEdge (t : Nat) (s : State) : Runs (.ppsInEdge t) s (fun h =>
    if s.hub.isHead = true ∧ s.hub.time.started = true ∧ s.hub.gmSource = 2 then
      h.getf Fld.LTM_SRC_ERR = enc 32 (s.hub.ppsError t) ∧ h.time.lastMeas = (s.hub.advance t).up
    else h = s.hub.advance t) := by
  let u := s.hub.advance t
  rw [← s.hub.isHead_advance t, ← s.hub.gmSource_advance t, ← s.hub.advance_time t, ← s.hub.ppsError_advance t]
  by_cases live : u.isHead = true ∧ u.time.started = true ∧ u.gmSource = 2
  · refine runs_if rfl live ((if_pos live).mpr ?_)
    obtain ⟨last, kept⟩ := u.sourceMeasure_shows (u.ppsError t) _ false
    exact ⟨(kept _ (by decide)).trans (u.srcErr_removeError _), last⟩
  · exact runs_if_not rfl live ((if_neg live).mpr rfl)

/-! Holdover (R187). -/

theorem runs_gmHoldoverTimeout (s : State) : Runs .gmHoldoverTimeout s (fun h =>
    if s.hub.isHead = true ∧ s.hub.timeLocked = true ∧ s.hub.gmSource ≠ 3 ∧ s.hub.time.lastMeas + 3000000000 ≤ s.hub.up then
      h.timeState = tmHoldover ∧ h.time.holdSince = s.hub.up ∧ Posted s.hub h Evt.LTM_HOLDOVER [s.hub.gmSource]
    else h = s.hub) := by
  by_cases due : s.hub.isHead = true ∧ s.hub.timeLocked = true ∧ s.hub.gmSource ≠ 3 ∧ s.hub.time.lastMeas + 3000000000 ≤ s.hub.up
  · refine runs_if rfl due ((if_pos due).mpr ⟨?_, rfl, ?_⟩)
    · exact (Hub.timeState_raise ..).trans (Hub.timeState_setTimeState _ (by decide))
    · exact posted_of_ev (s.hub.posted_raise_of_mark (s.hub.eventMark_setTimeState tmHoldover) _ _) rfl
  · exact runs_if_not rfl due ((if_neg due).mpr rfl)

theorem runs_gmHoldoverLimit (s : State) : Runs .gmHoldoverLimit s (fun h =>
    let sec := (s.hub.up - s.hub.time.holdSince) / 1000000000
    if s.hub.isHead = true ∧ s.hub.timeState = tmHoldover ∧ s.hub.getf Fld.LTM_GM_CFG_HOLD_MAX ≤ sec then
      h.timeState = tmHoldLimit ∧ Posted s.hub h Evt.LTM_HOLDOVER_LIMIT [sec]
    else h = s.hub) := by
  by_cases due : s.hub.isHead = true ∧ s.hub.timeState = tmHoldover ∧
      s.hub.getf Fld.LTM_GM_CFG_HOLD_MAX ≤ (s.hub.up - s.hub.time.holdSince) / 1000000000
  · refine runs_if rfl due ((if_pos due).mpr ⟨?_, ?_⟩)
    · exact (Hub.timeState_raise ..).trans (Hub.timeState_setTimeState _ (by decide))
    · exact s.hub.posted_raise_of_mark (s.hub.eventMark_setTimeState tmHoldLimit) _ _
  · exact runs_if_not rfl due ((if_neg due).mpr rfl)

/-! SOURCE and ORIGIN (R185, R187, R211). -/

theorem Hub.takeSource_freeRun {s : Hub} (freeRun : s.gmSource = 3) :
    s.takeSource.timeLocked = true ∧ s.takeSource.getf Fld.LTM_RATE = 0 := by
  unfold Hub.takeSource
  dsimp only
  rw [if_pos freeRun, Hub.getf_lockTime _ (by decide) (by decide), Hub.getf_setf_self]
  exact ⟨Hub.timeLocked_lockTime _, rfl⟩

theorem Hub.takeSource_steered {s : Hub} (steered : s.gmSource ≠ 3) :
    s.takeSource.timeState = tmAcquiring ∧ s.takeSource.time.lockRun = 0 := by
  unfold Hub.takeSource
  dsimp only
  rw [if_neg steered, Hub.timeState_setTimeState _ (by decide)]
  exact ⟨rfl, by simp [Hub.setTimeState]⟩

theorem Hub.getf_takeSource (s : Hub) {f : Fl} (cfg : f ∈ [Fld.LTM_GM_CFG_HOLD_MAX, Fld.LTM_GM_CFG_PTP_PORT, Fld.LTM_GM_CFG_SOURCE]) :
    s.takeSource.getf f = s.getf f := by
  have apart : ∀ f ∈ [Fld.LTM_GM_CFG_HOLD_MAX, Fld.LTM_GM_CFG_PTP_PORT, Fld.LTM_GM_CFG_SOURCE], f.key ≠ Fld.LTM_STATUS_STATE.key ∧
    f.key ≠ Fld.GEN_EVT_STATUS_OVERRUN.key ∧ f.key ≠ Fld.LTM_RATE.key ∧ f.key ≠ Fld.LTM_SRC_ERR.key ∧
      f.key ≠ Fld.LTM_STATUS_GM_SRC.key := by decide
  obtain ⟨state, overrun, rate, err, src⟩ := apart f cfg
  unfold Hub.takeSource
  dsimp only
  split
  · rw [Hub.getf_lockTime _ state overrun, Hub.getf_setf_ne _ rate, Hub.getf_setf_ne _ err, Hub.getf_setf_ne _ src]
    rfl
  · rw [Hub.getf_setTimeState _ state, Hub.getf_setf_ne _ err, Hub.getf_setf_ne _ src]
    rfl

/-- A write of LTM_GM_CFG before SOURCE is taken: HOLD_MAX and PTP_PORT (R211). -/
def Hub.gmCfg (v : Nat) (s : Hub) : Hub :=
  s |>.setf Fld.LTM_GM_CFG_HOLD_MAX (if bits v 31 16 = 0 then s.getf Fld.LTM_GM_CFG_HOLD_MAX else bits v 31 16)
    |>.setf Fld.LTM_GM_CFG_PTP_PORT (bits v 5 4)

theorem Hub.gmCfg_shows (v : Nat) (s : Hub) : (s.gmCfg v).getf Fld.LTM_GM_CFG_PTP_PORT = bits v 5 4 ∧
    (s.gmCfg v).getf Fld.LTM_GM_CFG_HOLD_MAX =
      (if bits v 31 16 = 0 then s.getf Fld.LTM_GM_CFG_HOLD_MAX % 65536 else bits v 31 16) ∧
    (s.gmCfg v).gmSource = s.gmSource := by
  refine ⟨Hub.getf_setf_of_lt _ (bits_lt v 5 4), ?_, ?_⟩
  · rw [Hub.gmCfg, Hub.getf_setf_ne _ (by decide), Hub.getf_setf_self]
    split
    · rfl
    · exact Nat.mod_eq_of_lt (bits_lt v 31 16)
  · rw [Hub.gmSource, Hub.gmCfg, Hub.getf_setf_ne _ (by decide), Hub.getf_setf_ne _ (by decide), Hub.gmSource]

theorem Hub.writeGmCfg_eq {s : Hub} (head : s.isHead = true) (v : Nat) : s.writeGmCfg v =
    if bits v 1 0 = 0 then s.gmCfg v
    else if s.time.started then ((s.gmCfg v).setf Fld.LTM_GM_CFG_SOURCE (bits v 1 0)).takeSource
    else (s.gmCfg v).setf Fld.LTM_GM_CFG_SOURCE (bits v 1 0) := by
  unfold Hub.writeGmCfg
  rw [head]
  rfl

theorem runs_gmSourceWrite (v : Word) (s : State) : Runs (.gmSourceWrite v) s (fun h => if s.hub.isHead = false then h = s.hub
    else h.getf Fld.LTM_GM_CFG_PTP_PORT = bits v.toNat 5 4 ∧
      h.getf Fld.LTM_GM_CFG_HOLD_MAX = (if bits v.toNat 31 16 = 0 then s.hub.getf Fld.LTM_GM_CFG_HOLD_MAX % 65536 else bits v.toNat 31 16) ∧
      h.gmSource = (if bits v.toNat 1 0 = 0 then s.hub.gmSource else bits v.toNat 1 0) ∧
      (s.hub.time.started = true → bits v.toNat 1 0 = 3 → h.timeLocked = true ∧ h.getf Fld.LTM_RATE = 0) ∧
      (s.hub.time.started = true → bits v.toNat 1 0 = 1 ∨ bits v.toNat 1 0 = 2 → h.timeState = tmAcquiring ∧ h.time.lockRun = 0)) := by
  refine ⟨_, rfl, ?_⟩
  beta_reduce
  by_cases head : s.hub.isHead = true
  swap
  · rw [if_pos (Bool.not_eq_true _ ▸ head), Hub.writeGmCfg, if_pos (by simpa using head)]
  rw [if_neg (by rw [head]; decide), Hub.writeGmCfg_eq head]
  obtain ⟨port, hold, src⟩ := s.hub.gmCfg_shows v.toNat
  by_cases keeps : bits v.toNat 1 0 = 0
  · rw [if_pos keeps, if_pos keeps]
    exact ⟨port, hold, src, fun _ _ => by omega, fun _ _ => by omega⟩
  rw [if_neg keeps, if_neg keeps]
  let u := (s.hub.gmCfg v.toNat).setf Fld.LTM_GM_CFG_SOURCE (bits v.toNat 1 0)
  have taken : u.gmSource = bits v.toNat 1 0 := Hub.getf_setf_of_lt _ (bits_lt v.toNat 1 0)
  rw [← Hub.getf_setf_ne _ (g := Fld.LTM_GM_CFG_PTP_PORT) (f := Fld.LTM_GM_CFG_SOURCE) (by decide) (bits v.toNat 1 0)] at port
  rw [← Hub.getf_setf_ne _ (g := Fld.LTM_GM_CFG_HOLD_MAX) (f := Fld.LTM_GM_CFG_SOURCE) (by decide) (bits v.toNat 1 0)] at hold
  by_cases started : s.hub.time.started = true
  · rw [if_pos started]
    refine ⟨(u.getf_takeSource (by decide)).trans port, (u.getf_takeSource (by decide)).trans hold,
      (u.getf_takeSource (by decide)).trans taken, fun _ freeRun => Hub.takeSource_freeRun (taken.trans freeRun), fun _ steered => ?_⟩
    exact Hub.takeSource_steered (by rw [taken]; omega)
  · rw [if_neg started]
    exact ⟨port, hold, taken, fun on => absurd on started, fun on => absurd on started⟩

/-- ORIGIN held by the source or the ring is locked (R185). -/
theorem Hub.getf_writeOrigin_held {s : Hub} {f : Fl} (overrun : f.key ≠ Fld.GEN_EVT_STATUS_OVERRUN.key) (head : s.isHead = true)
    (held : s.originHeld = true) (i v : Nat) : (s.writeOrigin i v).getf f = s.getf f := by
  unfold Hub.writeOrigin
  rw [head, held]
  dsimp only
  rw [if_neg (by decide), if_pos rfl]
  simp only [Hub.lockedWrite, apply_ite (fun t : Hub => t.getf f), Hub.getf_raise _ _ _ overrun, ite_self]

theorem Hub.writeOrigin_open {s : Hub} (head : s.isHead = true) (held : s.originHeld = false) (i v : Nat) : s.writeOrigin i v =
    if i = 0 then s.setf Fld.LTM_ORIGIN_SEC_LO v
    else if i = 1 then s.setf Fld.LTM_ORIGIN_SEC_HI v
    else s |>.setf Fld.LTM_ORIGIN_NS_NS v |>.setf Fld.LTM_ORIGIN_NS_MAP_VALID (bits v 31 31)
      |>.setf Fld.LTM_STATUS_MAP_VALID (bits v 31 31) := by
  unfold Hub.writeOrigin
  rw [head, held]
  rfl

theorem runs_originWrite (i : Fin 3) (v : Word) (s : State) : Runs (.originWrite i v) s (fun h =>
    if s.hub.isHead = false then h = s.hub
    else if s.hub.originHeld = true then h.getf Fld.LTM_ORIGIN_SEC_LO = s.hub.getf Fld.LTM_ORIGIN_SEC_LO ∧
      h.getf Fld.LTM_ORIGIN_SEC_HI = s.hub.getf Fld.LTM_ORIGIN_SEC_HI ∧ h.getf Fld.LTM_ORIGIN_NS_NS = s.hub.getf Fld.LTM_ORIGIN_NS_NS
    else (i = 0 → h.getf Fld.LTM_ORIGIN_SEC_LO = v.toNat) ∧ (i = 1 → h.getf Fld.LTM_ORIGIN_SEC_HI = v.toNat % 65536) ∧
      (i = 2 → h.getf Fld.LTM_ORIGIN_NS_NS = v.toNat % 2 ^ 30 ∧ h.mapValid = bit v.toNat 31)) := by
  refine ⟨_, rfl, ?_⟩
  beta_reduce
  by_cases head : s.hub.isHead = true
  swap
  · rw [if_pos (Bool.not_eq_true _ ▸ head), Hub.writeOrigin, if_pos (by simpa using head)]
  rw [if_neg (by rw [head]; decide)]
  by_cases held : s.hub.originHeld = true
  · rw [if_pos held]
    exact ⟨Hub.getf_writeOrigin_held (by decide) head held .., Hub.getf_writeOrigin_held (by decide) head held ..,
      Hub.getf_writeOrigin_held (by decide) head held ..⟩
  rw [if_neg held, Hub.writeOrigin_open head (Bool.not_eq_true _ ▸ held)]
  match i with
  | 0 => exact ⟨fun _ => Hub.getf_setf_of_lt _ v.isLt, nofun, nofun⟩
  | 1 => exact ⟨nofun, fun _ => Hub.getf_setf_self .., nofun⟩
  | 2 =>
    refine ⟨nofun, nofun, fun _ => ⟨?_, ?_⟩⟩
    · exact (Hub.getf_setf_ne _ (by decide) _).trans ((Hub.getf_setf_ne _ (by decide) _).trans (Hub.getf_setf_self ..))
    · exact (Hub.flag_setf_ne _ (by decide) _).trans (Hub.flag_setf_self _ rfl ..)

/-! CLOSURE and the announcement (R190, R193). -/

theorem runs_closureUpdate (s : State) : Runs .closureUpdate s (fun h => if s.hub.isHead = false then h = s.hub
    else h.getf Fld.LTM_CLOSURE = if s.hub.ringWhole then
      enc 32 (sgn 32 (s.hub.getf Fld.LTM_CLOSURE) + sgn 32 (Config.freeNat freeTagClosure s.hub.fresh)) else 0) := by
  refine ⟨_, rfl, ?_⟩
  beta_reduce
  by_cases head : s.hub.isHead = true
  · rw [if_neg (by rw [head]; decide), if_neg (by rw [head]; decide)]
    split
    · exact Hub.getf_setf_of_lt _ (enc_lt 32 _)
    · exact Hub.getf_setf_self ..
  · rw [if_pos (Bool.not_eq_true _ ▸ head), if_pos (by simpa using head)]

theorem Hub.takeAnnounce_shows (b : List Byte) (s : Hub) : (s.takeAnnounce b).time.ann = b ∧
    (s.takeAnnounce b).getf Fld.LTM_ORIGIN_SEC_LO = beNat (slice b 6 4) ∧
    (s.takeAnnounce b).getf Fld.LTM_ORIGIN_SEC_HI = beNat (slice b 4 2) ∧
    (s.takeAnnounce b).getf Fld.LTM_ORIGIN_NS_NS = beNat (slice b 10 4) % 2 ^ 30 ∧ (s.takeAnnounce b).mapValid = bit (byteAt b 3) 0 ∧
    (s.takeAnnounce b).getf Fld.LTM_UTC_UTC_OFFSET = beNat (slice b 14 2) ∧
    (s.takeAnnounce b).getf Fld.LTM_CLOSURE = beNat (slice b 24 4) := by
  unfold Hub.takeAnnounce
  refine ⟨by simp, ?_, ?_, ?_, ?_, ?_, ?_⟩
  case refine_4 =>
    simp (disch := decide) only [Hub.mapValid, Hub.flag_setf_ne]
    exact Hub.flag_setf_self _ rfl ..
  all_goals simp (disch := decide) only [Hub.getf_setf_ne]
  case refine_3 => exact Hub.getf_setf_self ..
  all_goals exact Hub.getf_setf_of_lt _ (beNat_slice_lt ..)

theorem runs_timeAnnounceReceive {m : Msg} {t : Hub} {s : State} (taken : s.hub.takeMsg 5 [1] = (some m, t)) :
    Runs .timeAnnounceReceive s (fun h =>
      let b := padTo 32 m.body
      if t.isHead then h = t
      else h.time.ann = b ∧ h.getf Fld.LTM_ORIGIN_SEC_LO = beNat (slice b 6 4) ∧ h.getf Fld.LTM_ORIGIN_SEC_HI = beNat (slice b 4 2) ∧
        h.getf Fld.LTM_ORIGIN_NS_NS = beNat (slice b 10 4) % 2 ^ 30 ∧ h.mapValid = bit (byteAt b 3) 0 ∧
        h.getf Fld.LTM_UTC_UTC_OFFSET = beNat (slice b 14 2) ∧ h.getf Fld.LTM_CLOSURE = beNat (slice b 24 4)) := by
  refine ⟨_, rfl, ?_⟩
  beta_reduce
  rw [taken]
  dsimp only
  split
  · rfl
  · exact t.takeAnnounce_shows _

/-- Settles O41, command by command. -/
theorem lineTimeAndItsSources : Obligations.LineTimeAndItsSources := by
  unfold Obligations.LineTimeAndItsSources
  exact ⟨runs_lineTimeRead, runs_gmSourceMeasure, runs_ppsInEdge, runs_gmHoldoverTimeout, runs_gmHoldoverLimit, runs_gmSourceWrite,
    runs_originWrite, runs_closureUpdate, fun _ _ _ => runs_timeAnnounceReceive⟩

end Sys2Proof.Machine
end

section
/-! PROOFS. Launches complete, and TIO pins drive levels and capture edges (R194 to R198, R204, R206). -/

namespace Sys2Proof.Machine

/-! Line time, and what a cell stored leaves as it was. -/

theorem Hub.advance_now (s : Hub) (t : Nat) : (s.advance t).now = max s.now t := by
  unfold Hub.advance
  split
  · exact (Nat.max_eq_right (Nat.le_of_lt ‹_›)).symm
  · exact (Nat.max_eq_left (Nat.not_lt.mp ‹_›)).symm

theorem Hub.flag_advance (s : Hub) (t : Nat) (f : Fl) : (s.advance t).flag f = s.flag f := by
  rw [Hub.flag, Hub.getf_advance, Hub.flag]

theorem StoreFree.now : StoreFree Hub.now where
  cnts _ _ := rfl
  ev _ _ := rfl
  lastRaise _ _ := rfl
  fresh _ _ := rfl
  lineMem _ _ := rfl
  pool _ _ := rfl
  rel _ _ := rfl
  overrun s v := s.setf_now _ v
  genLow s v := s.setf_now _ v

theorem StoreFree.time : StoreFree Hub.time where
  cnts _ _ := rfl
  ev _ _ := rfl
  lastRaise _ _ := rfl
  fresh _ _ := rfl
  lineMem _ _ := rfl
  pool _ _ := rfl
  rel _ _ := rfl
  overrun s v := s.setf_time _ v
  genLow s v := s.setf_time _ v

theorem Tab.get?_mapVal {α : Type} (f : Nat → α → α) (k : Nat) (t : Tab α) : Tab.get? k (Tab.mapVal f t) = (Tab.get? k t).map (f k) := by
  induction t with
  | nil => rfl
  | cons e t ih =>
    obtain ⟨k', v⟩ := e
    by_cases same : k = k'
    · simp [Tab.mapVal, Tab.get?, same]
    · simp [Tab.mapVal, Tab.get?, same, ih]

/-! A launch completes (R204). -/

theorem StoreFree.countLaunch {α : Type} {φ : Hub → α} (free : StoreFree φ) (status : Nat) (s : Hub) :
    φ (s.countLaunch status) = φ s := by
  simp only [Hub.countLaunch, apply_ite φ, free.count, ite_self]

section
variable {s : Hub} {slot : Nat} {l : Launch} (pending : Tab.get? slot s.time.launches = some l)
include pending

/-- The completion frees the launch's slot and is held for queue 7; nothing else of line time changes. -/
theorem Hub.time_launchDone (status f : Nat) : (s.launchDone slot status f).time =
    { s.time with
      launches := Tab.del slot s.time.launches,
      held := s.time.held ++
        [{ status := status, slot := slot, cookie := l.cookie, f := f, src := l.src, silent := bit l.flags 1 && status == 0 }] } := by
  rw [Hub.launchDone, pending]
  dsimp only
  rw [Hub.showLaunches, Hub.setf_time, Hub.setf_time, Hub.holdDone]
  dsimp only
  rw [StoreFree.time.countLaunch]

theorem completed_launchDone (status f : Nat) : Completed s (s.launchDone slot status f) slot status f := by
  rw [Completed, Hub.time_launchDone pending]
  exact ⟨Tab.get?_del_self .., l, pending, rfl⟩

theorem Hub.launchRan_eq (f : Nat) : s.launchRan slot f = s.launchDone slot (if l.late then lsLateExec else lsOk) f := by
  rw [Hub.launchRan, pending]

end

/-- A completion concerns the launch table and the completions held only. -/
theorem completed_congr {s t h : Hub} {slot status f : Nat} (launches : t.time.launches = s.time.launches)
    (held : t.time.held = s.time.held) (done : Completed t h slot status f) : Completed s h slot status f := by
  rwa [Completed, launches, held] at done

theorem Hub.out_launchDone (s : Hub) (slot status f : Nat) : (s.launchDone slot status f).out = s.out := by
  unfold Hub.launchDone
  split
  · rfl
  · rw [Hub.showLaunches, Hub.setf_out, Hub.setf_out]
    exact StoreFree.out.countLaunch ..

theorem Hub.now_launchDone (s : Hub) (slot status f : Nat) : (s.launchDone slot status f).now = s.now := by
  unfold Hub.launchDone
  split
  · rfl
  · rw [Hub.showLaunches, Hub.setf_now, Hub.setf_now]
    exact StoreFree.now.countLaunch ..

theorem Hub.pin_launchDone {s : Hub} {slot : Nat} {l : Launch} (pending : Tab.get? slot s.time.launches = some l) (status f n : Nat) :
    (s.launchDone slot status f).pin n = s.pin n := by
  rw [Hub.pin, Hub.time_launchDone pending, Hub.pin]

theorem Hub.due_iff {s : Hub} {slot a : Nat} {l : Launch} : s.due slot a = some l ↔
    Tab.get? slot s.time.launches = some l ∧ l.handed = true ∧ l.action = a := by
  rw [Hub.due, Option.filter_eq_some_iff, Bool.and_eq_true, beq_iff_eq]

/-! Pins (R194, R195). -/

theorem Hub.pin_setPin_self (s : Hub) (n : Nat) (P : TioPin) : (s.setPin n P).pin n = P := by
  simp [Hub.pin, Hub.setPin, Tab.getD]

theorem Hub.pin_setPin_ne (s : Hub) {m n : Nat} (ne : m ≠ n) (P : TioPin) : (s.setPin n P).pin m = s.pin m := by
  simp [Hub.pin, Hub.setPin, Tab.getD, Tab.get?_put_ne ne]

theorem Hub.setPin_keeps (s : Hub) (n : Nat) (P : TioPin) : (s.setPin n P).now = s.now ∧ (s.setPin n P).pool = s.pool := ⟨rfl, rfl⟩

theorem Hub.pin_driveTio_self (s : Hub) (n : Nat) (on : Bool) : (s.driveTio n on).pin n = { s.pin n with level := on } :=
  s.pin_setPin_self n _

theorem Hub.pin_driveTio_ne (s : Hub) {m n : Nat} (ne : m ≠ n) (on : Bool) : (s.driveTio n on).pin m = s.pin m := s.pin_setPin_ne ne _

theorem Hub.level_launchEdge (s : Hub) (n : Nat) (on : Bool) (f : Nat) : ((s.launchEdge n on f).pin n).level = on := by
  rw [Hub.launchEdge, Hub.pin_setPin_self, Hub.pin_driveTio_self]

section
variable (s : Hub) (n : Nat) (on : Bool) (f : Nat)

theorem Hub.now_launchEdge : (s.launchEdge n on f).now = s.now := rfl

theorem Hub.launches_launchEdge : (s.launchEdge n on f).time.launches = s.time.launches := rfl

theorem Hub.held_launchEdge : (s.launchEdge n on f).time.held = s.time.held := rfl

theorem Hub.out_launchEdge : (s.launchEdge n on f).out = .tio n (some (on != s.flag (Fld.LTM_TIO_CFG_POL n))) :: s.out := rfl

end

theorem Hub.pin_setLaunch (s : Hub) (slot : Nat) (l : Launch) (n : Nat) : (s.setLaunch slot l).pin n = s.pin n := rfl

theorem Hub.get?_setLaunch (s : Hub) (slot : Nat) (l : Launch) : Tab.get? slot (s.setLaunch slot l).time.launches = some l :=
  Tab.get?_put_self ..

/-- A level written to output pin `n`; a launch edge near it is applied after it. -/
def Hub.levelPin (v n : Nat) (s : Hub) : Hub :=
  if !s.pinOut n then s
  else if s.edgeNear n then (s.driveTio n (bit v n)).driveTio n (s.pin n).level else s.driveTio n (bit v n)

/-- Pin `n` after a write of `v` to the levels. -/
def Hub.levelled (v n : Nat) (s : Hub) : TioPin :=
  if s.pinOut n then { s.pin n with level := if s.edgeNear n then (s.pin n).level else bit v n } else s.pin n

theorem Hub.writeTioLevel_eq (v : Nat) (s : Hub) : s.writeTioLevel v = (List.range 32).foldl (fun t n => t.levelPin v n) s := rfl

section
variable (v : Nat) (s : Hub)

theorem Hub.levelPin_keeps (n : Nat) : (s.levelPin v n).regs = s.regs ∧ (s.levelPin v n).now = s.now := by
  unfold Hub.levelPin
  split
  · exact ⟨rfl, rfl⟩
  split <;> exact ⟨rfl, rfl⟩

theorem Hub.pin_levelPin_self (n : Nat) : (s.levelPin v n).pin n = s.levelled v n := by
  unfold Hub.levelPin Hub.levelled
  by_cases out : s.pinOut n = true
  · by_cases near : s.edgeNear n = true
    · simp [out, near, Hub.pin_driveTio_self]
    · simp [out, near, Hub.pin_driveTio_self]
  · simp [out]

theorem Hub.pin_levelPin_ne {m n : Nat} (ne : m ≠ n) : (s.levelPin v n).pin m = s.pin m := by
  unfold Hub.levelPin
  split
  · rfl
  split
  · rw [Hub.pin_driveTio_ne _ ne, Hub.pin_driveTio_ne _ ne]
  · exact s.pin_driveTio_ne ne _

theorem Hub.levelled_congr {t : Hub} {n : Nat} (regs : t.regs = s.regs) (now : t.now = s.now) (pin : t.pin n = s.pin n) :
    t.levelled v n = s.levelled v n := by
  rw [Hub.levelled, Hub.levelled, Hub.pinOut, Hub.pinOut, Hub.edgeNear, Hub.edgeNear, Hub.getf_congr regs, now, pin]

/-- A write of the levels reaches the first `k` pins one after another. -/
theorem Hub.levelPins (k : Nat) : let h := (List.range k).foldl (fun t n => t.levelPin v n) s
    h.regs = s.regs ∧ h.now = s.now ∧ ∀ n, h.pin n = if n < k then s.levelled v n else s.pin n := by
  induction k with
  | zero => exact ⟨rfl, rfl, fun n => rfl⟩
  | succ k ih =>
    obtain ⟨regs, now, pins⟩ := ih
    rw [List.range_succ, List.foldl_concat]
    have reach := pins k
    rw [if_neg (Nat.lt_irrefl k)] at reach
    obtain ⟨regs', now'⟩ := Hub.levelPin_keeps v ((List.range k).foldl (fun t n => t.levelPin v n) s) k
    refine ⟨regs'.trans regs, now'.trans now, fun n => ?_⟩
    rcases Nat.lt_trichotomy n k with below | rfl | above
    · rw [Hub.pin_levelPin_ne _ _ (Nat.ne_of_lt below), pins, if_pos below, if_pos (Nat.lt_succ_of_lt below)]
    · rw [Hub.pin_levelPin_self, Hub.levelled_congr _ _ regs now reach, if_pos (Nat.lt_succ_self n)]
    · rw [Hub.pin_levelPin_ne _ _ (Nat.ne_of_gt above), pins, if_neg (by omega), if_neg (by omega)]

end

theorem runs_tioLevelWrite (v : Word) (s : State) : Runs (.tioLevelWrite v) s (fun h => h.regs = s.hub.regs ∧ ∀ n < 32,
    if s.hub.pinOut n then h.pin n = { s.hub.pin n with level := if s.hub.edgeNear n then (s.hub.pin n).level else bit v.toNat n }
    else h.pin n = s.hub.pin n) := by
  obtain ⟨regs, -, pins⟩ := s.hub.levelPins v.toNat 32
  refine runs_of_eq rfl (s.hub.writeTioLevel_eq v.toNat) ⟨regs, fun n lt => ?_⟩
  rw [pins, if_pos lt, Hub.levelled]
  split
  · rfl
  · rfl

/-! The mode of a pin (R195, R196). -/

/-- The configuration of pin `n` as a write of LTM_TIO_CFG stores it. -/
def Hub.tioCfg (n v : Nat) (s : Hub) : Hub :=
  s |>.setf (Fld.LTM_TIO_CFG_SIGMAP n) (bits v 26 16) |>.setf (Fld.LTM_TIO_CFG_DEST n) (bits v 15 14)
    |>.setf (Fld.LTM_TIO_CFG_EDGES n) (bits v 13 12) |>.setf (Fld.LTM_TIO_CFG_FILTER n) (bits v 11 10)
    |>.setf (Fld.LTM_TIO_CFG_POL n) (bits v 9 9) |>.setf (Fld.LTM_TIO_CFG_IDLE n) (bits v 8 8)
    |>.setf (Fld.LTM_TIO_CFG_MODE n) (if bits v 1 0 = 3 then s.getf (Fld.LTM_TIO_CFG_MODE n) else bits v 1 0)

theorem Hub.tioCfg_keeps (n v : Nat) (s : Hub) : (s.tioCfg n v).time = s.time ∧ (s.tioCfg n v).out = s.out := by
  unfold Hub.tioCfg
  constructor
  · simp only [Hub.setf_time]
  · simp only [Hub.setf_out]

theorem Hub.tioCfg_shows (n v : Nat) (s : Hub) :
    (s.tioCfg n v).getf (Fld.LTM_TIO_CFG_MODE n) =
      (if bits v 1 0 = 3 then s.getf (Fld.LTM_TIO_CFG_MODE n) % 4 else bits v 1 0) ∧
    (s.tioCfg n v).getf (Fld.LTM_TIO_CFG_DEST n) = bits v 15 14 ∧ (s.tioCfg n v).getf (Fld.LTM_TIO_CFG_EDGES n) = bits v 13 12 ∧
    (s.tioCfg n v).flag (Fld.LTM_TIO_CFG_POL n) = bit v 9 := by
  have apart (a : Nat) : 32 * a + 14 ≠ 32 * a + 0 ∧ 32 * a + 14 ≠ 32 * a + 8 ∧ 32 * a + 14 ≠ 32 * a + 9 ∧ 32 * a + 14 ≠ 32 * a + 10 ∧
      32 * a + 14 ≠ 32 * a + 12 ∧ 32 * a + 12 ≠ 32 * a + 0 ∧ 32 * a + 12 ≠ 32 * a + 8 ∧ 32 * a + 12 ≠ 32 * a + 9 ∧
      32 * a + 12 ≠ 32 * a + 10 ∧ 32 * a + 9 ≠ 32 * a + 0 ∧ 32 * a + 9 ≠ 32 * a + 8 := by omega
  obtain ⟨dest0, dest8, dest9, dest10, dest12, edges0, edges8, edges9, edges10, pol0, pol8⟩ := apart (0x050100 + 0x4 * n)
  unfold Hub.tioCfg
  refine ⟨?_, ?_, ?_, ?_⟩
  · rw [Hub.getf_setf_self]
    split
    · rfl
    · exact Nat.mod_eq_of_lt (bits_lt v 1 0)
  · rw [Hub.getf_setf_ne _ dest0, Hub.getf_setf_ne _ dest8, Hub.getf_setf_ne _ dest9, Hub.getf_setf_ne _ dest10,
      Hub.getf_setf_ne _ dest12]
    exact Hub.getf_setf_of_lt _ (bits_lt v 15 14)
  · rw [Hub.getf_setf_ne _ edges0, Hub.getf_setf_ne _ edges8, Hub.getf_setf_ne _ edges9, Hub.getf_setf_ne _ edges10]
    exact Hub.getf_setf_of_lt _ (bits_lt v 13 12)
  · rw [Hub.flag_setf_ne _ pol0, Hub.flag_setf_ne _ pol8]
    exact Hub.flag_setf_self _ rfl ..

/-- Launches handed over to pin `n` are dead once it has left MODE 1. -/
def Hub.killLaunches (n : Nat) (s : Hub) : Hub :=
  { s with time := { s.time with launches := s.time.launches.mapVal (fun _ l =>
    if tioAction l.action && l.pin == n && l.handed then { l with dead := true } else l) } }

theorem Hub.get?_killLaunches {s : Hub} {n i : Nat} {l : Launch} (pending : Tab.get? i s.time.launches = some l)
    (tio : tioAction l.action = true) (pin : l.pin = n) (handed : l.handed = true) :
    Tab.get? i (s.killLaunches n).time.launches = some { l with dead := true } := by
  rw [Hub.killLaunches, Tab.get?_mapVal, pending, Option.map_some]
  simp [tio, pin, handed]

theorem Hub.writeTioCfg_eq (n v : Nat) (s : Hub) : s.writeTioCfg n v =
    let new := if bits v 1 0 = 3 then s.getf (Fld.LTM_TIO_CFG_MODE n) else bits v 1 0
    if s.getf (Fld.LTM_TIO_CFG_MODE n) ≠ 1 ∧ new = 1 then (s.tioCfg n v).driveTio n (bit v 8)
    else if s.getf (Fld.LTM_TIO_CFG_MODE n) = 1 ∧ new ≠ 1 then ((s.tioCfg n v).killLaunches n).emit (.tio n none)
    else if new = 1 then (s.tioCfg n v).driveTio n ((s.tioCfg n v).pin n).level
    else s.tioCfg n v := rfl

theorem Hub.regs_writeTioCfg (n v : Nat) (s : Hub) : (s.writeTioCfg n v).regs = (s.tioCfg n v).regs := by
  have drive (on : Bool) : ((s.tioCfg n v).driveTio n on).regs = (s.tioCfg n v).regs := rfl
  have leave : (((s.tioCfg n v).killLaunches n).emit (.tio n none)).regs = (s.tioCfg n v).regs := rfl
  simp only [Hub.writeTioCfg_eq, apply_ite Hub.regs, drive, leave, ite_self]

theorem runs_tioModeChange (n : Fin 32) (v : Word) (s : State) : Runs (.tioModeChange n v) s (fun h =>
    let old := s.hub.getf (Fld.LTM_TIO_CFG_MODE n)
    let new := if bits v.toNat 1 0 = 3 then old % 4 else bits v.toNat 1 0
    h.getf (Fld.LTM_TIO_CFG_MODE n) = new ∧ h.getf (Fld.LTM_TIO_CFG_DEST n) = bits v.toNat 15 14 ∧
    h.getf (Fld.LTM_TIO_CFG_EDGES n) = bits v.toNat 13 12 ∧
    (old ≠ 1 → bits v.toNat 1 0 = 1 → (h.pin n).level = bit v.toNat 8 ∧
      h.out = .tio n (some (bit v.toNat 8 != bit v.toNat 9)) :: s.hub.out) ∧
    (old = 1 → bits v.toNat 1 0 = 0 ∨ bits v.toNat 1 0 = 2 → h.out = .tio n none :: s.hub.out ∧
      ∀ i l, Tab.get? i s.hub.time.launches = some l → tioAction l.action = true → l.pin = n.val → l.handed = true →
        Tab.get? i h.time.launches = some { l with dead := true })) := by
  obtain ⟨mode, dest, edges, pol⟩ := s.hub.tioCfg_shows n v.toNat
  obtain ⟨time, out⟩ := s.hub.tioCfg_keeps n v.toNat
  have regs := s.hub.regs_writeTioCfg n v.toNat
  refine ⟨_, rfl, ?_⟩
  beta_reduce
  refine ⟨(Hub.getf_congr regs _).trans mode, (Hub.getf_congr regs _).trans dest, (Hub.getf_congr regs _).trans edges,
    fun other enters => ?_, fun driving leaves => ?_⟩
  · rw [Hub.writeTioCfg_eq]
    dsimp only
    rw [if_pos ⟨other, by rw [enters]; rfl⟩, Hub.pin_driveTio_self, Hub.driveTio, Hub.out_emit, pol]
    exact ⟨rfl, congrArg _ out⟩
  · have left : (if bits v.toNat 1 0 = 3 then s.hub.getf (Fld.LTM_TIO_CFG_MODE n) else bits v.toNat 1 0) ≠ 1 := by
      rcases leaves with off | input
      · rw [off, if_neg (by decide)]; decide
      · rw [input, if_neg (by decide)]; decide
    rw [Hub.writeTioCfg_eq]
    dsimp only
    rw [if_neg (fun enter => enter.1 driving), if_pos ⟨driving, left⟩, Hub.out_emit]
    refine ⟨congrArg _ out, fun i l pending tio pin handed => ?_⟩
    exact Hub.get?_killLaunches (by rwa [time]) tio pin handed

/-! Captures (R196, R206). -/

theorem Hub.disabledCell_first (s : Hub) (q : Nat) {c : PCell} (first : c.f = true) : s.disabledCell q c =
    (s.setQueue q { s.queue q with skip := .none }).count Cnt.CPL_CNT_DISABLED 1 := by
  rw [Hub.disabledCell, if_pos first]

/-- A disabled queue stores no cell (R163). -/
theorem Hub.produce_disabled (s : Hub) {q : Nat} (off : s.qEnabled q = false) (w : Who) {c : PCell} (first : c.f = true) :
    s.produce q w c = (s.setQueue q { s.queue q with skip := .none }).count Cnt.CPL_CNT_DISABLED 1 := by
  rw [Hub.produce, if_pos (by rw [off]; rfl), s.disabledCell_first q first]

theorem Hub.queue_produce_disabled (s : Hub) {q : Nat} (off : s.qEnabled q = false) (w : Who) {c : PCell} (first : c.f = true) (r : Nat) :
    ((s.produce q w c).queue r).cells = (s.queue r).cells ∧ ((s.produce q w c).queue r).occ = (s.queue r).occ := by
  have stored : ((s.setQueue q { s.queue q with skip := .none }).count Cnt.CPL_CNT_DISABLED 1).queue r =
      (s.setQueue q { s.queue q with skip := .none }).queue r := Hub.queue_congr (by rw [Hub.count_pool]) r
  rw [s.produce_disabled off w first, stored]
  by_cases same : r = q
  · subst same
    rw [Hub.queue_setQueue_self]
    exact ⟨rfl, rfl⟩
  · rw [Hub.queue_setQueue_ne _ same]
    exact ⟨rfl, rfl⟩

/-- An edge at `t` is less than 8 ns after the last one captured. -/
def TioPin.soonAfter (P : TioPin) (t : Nat) : Bool :=
  match P.lastEdge with
  | none => false
  | some e => decide (t < e + 8)

/-- Pin `n` at the edge at `t` that changed its ball to `high`: the edge goes to its capture queue. -/
def Hub.captureEdge (n t : Nat) (high level : Bool) (P : TioPin) (s : Hub) : Hub :=
  let stored := s.produce (16 + n / 8) .capture { data := s.captureRecord n t level }
  let numbered := stored.setPin n { P with ball := high, lastEdge := some t, missed := false, seq := (P.seq + 1) % 65536 }
  if decide ((s.queue (16 + n / 8)).occ < (stored.queue (16 + n / 8)).occ) then numbered.count Cnt.LTM_CNT_CAPTURES 1 else numbered

section
variable (n t : Nat) (high level : Bool) (P : TioPin) (s : Hub)

theorem Hub.captureEdge_keeps : (s.captureEdge n t high level P).now = s.now ∧ (s.captureEdge n t high level P).pin n =
    { P with ball := high, lastEdge := some t, missed := false, seq := (P.seq + 1) % 65536 } := by
  have now : (s.produce (16 + n / 8) .capture { data := s.captureRecord n t level }).now = s.now := StoreFree.now.produce ..
  unfold Hub.captureEdge
  dsimp only
  split
  · rw [Hub.count_now, Hub.pin, Hub.count_time]
    exact ⟨now, Hub.pin_setPin_self ..⟩
  · exact ⟨now, Hub.pin_setPin_self ..⟩

theorem Hub.captureEdge_disabled (off : s.qEnabled (16 + n / 8) = false) :
    (s.captureEdge n t high level P).cnt Cnt.LTM_CNT_CAPTURES = s.cnt Cnt.LTM_CNT_CAPTURES ∧
    ∀ r, ((s.captureEdge n t high level P).queue r).cells = (s.queue r).cells := by
  have same (r : Nat) := s.queue_produce_disabled off .capture (c := { data := s.captureRecord n t level }) rfl r
  unfold Hub.captureEdge
  dsimp only
  rw [if_neg (by rw [(same _).2]; simp)]
  refine ⟨?_, fun r => (same r).1⟩
  rw [s.produce_disabled off .capture rfl]
  exact Hub.cnt_count_ne _ (by decide) 1

end

theorem runs_tioCapture (n : Fin 32) (high : Bool) (t : Nat) (s : State) : Runs (.tioCapture n high t) s (fun h =>
    let level := high != s.hub.flag (Fld.LTM_TIO_CFG_POL n)
    let P := s.hub.pin n
    let sel := s.hub.getf (Fld.LTM_TIO_CFG_EDGES n)
    h.now = max s.hub.now (t + filterNs (s.hub.getf (Fld.LTM_TIO_CFG_FILTER n))) ∧
    if s.hub.getf (Fld.LTM_TIO_CFG_MODE n) ≠ 2 ∨ P.ball = high ∨ (if level then bit sel 0 else bit sel 1) = false then
      h.pin n = { P with ball := high } ∧ h.pool = s.hub.pool
    else if (match P.lastEdge with | none => false | some e => decide (t < e + 8)) = true then
      h.pin n = { P with ball := high, missed := true } ∧ h.pool = s.hub.pool
    else h.pin n = { P with ball := high, lastEdge := some t, missed := false, seq := (P.seq + 1) % 65536 } ∧
      (s.hub.qEnabled (16 + n.val / 8) = false → h.cnt Cnt.LTM_CNT_CAPTURES = s.hub.cnt Cnt.LTM_CNT_CAPTURES ∧
        ∀ r : Nat, (h.queue r).cells = (s.hub.queue r).cells)) := by
  let s0 := s.hub.advance (t + filterNs (s.hub.getf (Fld.LTM_TIO_CFG_FILTER n)))
  have pin : s.hub.pin n = s0.pin n := by rw [Hub.pin, Hub.pin, Hub.advance_time]
  rw [pin]
  let P := s0.pin n
  let s1 := s0.setPin n { P with ball := high }
  let level := high != s.hub.flag (Fld.LTM_TIO_CFG_POL n)
  let sees := if level then bit (s.hub.getf (Fld.LTM_TIO_CFG_EDGES n)) 0 else bit (s.hub.getf (Fld.LTM_TIO_CFG_EDGES n)) 1
  obtain ⟨now, pool⟩ : s1.now = max s.hub.now _ ∧ s1.pool = s.hub.pool :=
    ⟨(s0.setPin_keeps ..).1.trans (s.hub.advance_now _), (s0.setPin_keeps ..).2.trans (s.hub.advance_pool _)⟩
  have blind : (!sees) = true ↔ sees = false := by rw [Bool.not_eq_true']
  have does : exec (.tioCapture n high t) s = .next { s with
      hub := if s.hub.getf (Fld.LTM_TIO_CFG_MODE n) ≠ 2 ∨ P.ball = high ∨ (!sees) = true then s1
        else if P.soonAfter t then s1.setPin n { P with ball := high, missed := true }
        else s1.captureEdge n t high level P } := rfl
  by_cases skip : s.hub.getf (Fld.LTM_TIO_CFG_MODE n) ≠ 2 ∨ P.ball = high ∨ sees = false
  · refine runs_if does (by rwa [blind]) ⟨now, (if_pos skip).mpr ⟨?_, pool⟩⟩
    exact Hub.pin_setPin_self ..
  by_cases soon : P.soonAfter t = true
  · refine runs_of_eq (h := s1.setPin n { P with ball := high, missed := true }) does (by rw [if_neg (by rwa [blind]), if_pos soon])
      ⟨(s1.setPin_keeps ..).1.trans now, (if_neg skip).mpr ((if_pos soon).mpr ⟨?_, (s1.setPin_keeps ..).2.trans pool⟩)⟩
    exact Hub.pin_setPin_self ..
  · obtain ⟨now', pin'⟩ := s1.captureEdge_keeps n t high level P
    refine runs_of_eq does (by rw [if_neg (by rwa [blind]), if_neg soon])
      ⟨now'.trans now, (if_neg skip).mpr ((if_neg soon).mpr ⟨pin', fun off => ?_⟩)⟩
    obtain ⟨captures, cells⟩ := s1.captureEdge_disabled n t high level P ((s.hub.flag_advance ..).trans off)
    refine ⟨captures.trans ?_, fun r => (cells r).trans ?_⟩
    · exact congrArg (fun x => Tab.getD x _ _) (s.hub.advance_cnts _)
    · exact congrArg Queue.cells (Hub.queue_congr (congrArg Pool.queues pool) r)

/-! Launch edges (R195, R198). -/

theorem Hub.pinOut_advance (s : Hub) (t n : Nat) : (s.advance t).pinOut n = s.pinOut n := by rw [Hub.pinOut, Hub.getf_advance, Hub.pinOut]

section
variable {s : Hub} {slot : Nat} {l : Launch} (pending : Tab.get? slot s.time.launches = some l)
include pending

theorem Hub.completed_advance (t status f : Nat) : Completed s ((s.advance t).launchDone slot status f) slot status f :=
  completed_congr (by rw [Hub.advance_time]) (by rw [Hub.advance_time])
    (completed_launchDone (by rwa [Hub.advance_time]) status f)

/-- A launch edge that ends its launch. -/
theorem Hub.lastEdge_shows (n t f : Nat) (on : Bool) :
    let h := ((s.advance t).launchEdge n on t).launchRan slot f
    (h.pin n).level = on ∧ h.now = max s.now t ∧ h.out = .tio n (some (on != s.flag (Fld.LTM_TIO_CFG_POL n))) :: s.out ∧
      Completed s h slot (if l.late then lsLateExec else lsOk) f := by
  have launches : ((s.advance t).launchEdge n on t).time.launches = s.time.launches := by rw [Hub.launches_launchEdge, Hub.advance_time]
  have held : ((s.advance t).launchEdge n on t).time.held = s.time.held := by rw [Hub.held_launchEdge, Hub.advance_time]
  have pending' : Tab.get? slot ((s.advance t).launchEdge n on t).time.launches = some l := by rwa [launches]
  dsimp only
  rw [Hub.launchRan_eq pending', Hub.pin_launchDone pending', Hub.level_launchEdge, Hub.now_launchDone, Hub.now_launchEdge,
    Hub.advance_now, Hub.out_launchDone, Hub.out_launchEdge, Hub.flag_advance, Hub.advance_out]
  exact ⟨rfl, rfl, rfl, completed_congr launches held (completed_launchDone pending' _ f)⟩

/-- A TIO launch that sets or clears its pin. -/
theorem Hub.tioEdge_shows (on : Bool) : let h := s.tioEdge slot l on
    if s.pinOut l.pin = true ∧ l.dead = false then (h.pin l.pin).level = on ∧
      h.out = .tio l.pin (some (on != s.flag (Fld.LTM_TIO_CFG_POL l.pin))) :: s.out ∧
      Completed s h slot (if l.late then lsLateExec else lsOk) l.f
    else h.out = s.out ∧ Completed s h slot lsBadTarget l.f := by
  have drives : ((s.advance l.f).pinOut l.pin && !l.dead) = true ↔ s.pinOut l.pin = true ∧ l.dead = false := by
    rw [Hub.pinOut_advance, Bool.and_eq_true, Bool.not_eq_true']
  obtain ⟨level, -, out, done⟩ := Hub.lastEdge_shows pending l.pin l.f l.f on
  unfold Hub.tioEdge
  dsimp only
  simp only [drives]
  split
  · exact ⟨level, out, done⟩
  · exact ⟨(Hub.out_launchDone ..).trans (s.advance_out _), Hub.completed_advance pending ..⟩

end

theorem runs_tioEdge (slot : Fin 1024) (l : Launch) (on : Bool) (c : Instr) (a : Nat) (s : State)
    (kind : (c, a, on) ∈ [(Instr.tioSet slot, 1, true), (.tioClear slot, 2, false)]) (due : s.hub.due slot a = some l) :
    Runs c s (fun h =>
      if s.hub.pinOut l.pin = true ∧ l.dead = false then (h.pin l.pin).level = on ∧
        h.out = .tio l.pin (some (on != s.hub.flag (Fld.LTM_TIO_CFG_POL l.pin))) :: s.hub.out ∧
        Completed s.hub h slot (if l.late then lsLateExec else lsOk) l.f
      else h.out = s.hub.out ∧ Completed s.hub h slot lsBadTarget l.f) := by
  have shows := Hub.tioEdge_shows (Hub.due_iff.mp due).1 on
  simp only [List.mem_cons, Prod.mk.injEq, List.not_mem_nil, or_false] at kind
  obtain ⟨rfl, rfl, rfl⟩ | ⟨rfl, rfl, rfl⟩ := kind
  · refine ⟨_, rfl, ?_⟩
    beta_reduce
    rwa [due]
  · refine ⟨_, rfl, ?_⟩
    beta_reduce
    rwa [due]

section
variable (slot : Fin 1024) (l : Launch) (s : State) (due : s.hub.due slot 3 = some l)
include due

theorem runs_tioPulse : Runs (.tioPulse slot) s (fun h =>
    if l.fired = true then h = s.hub
    else if s.hub.pinOut l.pin = true ∧ l.dead = false then (h.pin l.pin).level = true ∧
      Tab.get? slot.val h.time.launches = some { l with fired := true }
    else h.out = s.hub.out ∧ Completed s.hub h slot lsBadTarget l.f) := by
  have drives : ((s.hub.advance l.f).pinOut l.pin && !l.dead) = true ↔ s.hub.pinOut l.pin = true ∧ l.dead = false := by
    rw [Hub.pinOut_advance, Bool.and_eq_true, Bool.not_eq_true']
  refine ⟨_, rfl, ?_⟩
  beta_reduce
  rw [due]
  dsimp only
  simp only [drives]
  by_cases fired : l.fired = true
  · simp only [if_pos fired]
  simp only [if_neg fired]
  by_cases live : s.hub.pinOut l.pin = true ∧ l.dead = false
  · simp only [if_pos live]
    rw [Hub.pin_setLaunch, Hub.level_launchEdge, Hub.get?_setLaunch]
    exact ⟨rfl, rfl⟩
  · simp only [if_neg live]
    exact ⟨(Hub.out_launchDone ..).trans (s.hub.advance_out _), Hub.completed_advance (Hub.due_iff.mp due).1 ..⟩

theorem runs_tioPulseEnd : Runs (.tioPulseEnd slot) s (fun h =>
    if l.fired = false then h = s.hub
    else if s.hub.pinOut l.pin = true ∧ l.dead = false then (h.pin l.pin).level = false ∧ h.now = max s.hub.now (l.f + l.width) ∧
      Completed s.hub h slot (if l.late then lsLateExec else lsOk) l.f
    else Completed s.hub h slot lsBadTarget l.f) := by
  have drives : ((s.hub.advance (l.f + l.width)).pinOut l.pin && !l.dead) = true ↔ s.hub.pinOut l.pin = true ∧ l.dead = false := by
    rw [Hub.pinOut_advance, Bool.and_eq_true, Bool.not_eq_true']
  have pending := (Hub.due_iff.mp due).1
  obtain ⟨level, now, -, done⟩ := Hub.lastEdge_shows pending l.pin (l.f + l.width) l.f false
  refine ⟨_, rfl, ?_⟩
  beta_reduce
  rw [due]
  dsimp only
  simp only [drives, Bool.not_eq_true']
  by_cases fired : l.fired = false
  · simp only [if_pos fired]
  simp only [if_neg fired]
  by_cases live : s.hub.pinOut l.pin = true ∧ l.dead = false
  · simp only [if_pos live]
    exact ⟨level, now, done⟩
  · simp only [if_neg live]
    exact Hub.completed_advance pending ..

end

/-- Settles O42, command by command: levels, modes, captures, and the edges of launches. -/
theorem tioPinsDriveAndCapture : Obligations.TioPinsDriveAndCapture := by
  unfold Obligations.TioPinsDriveAndCapture
  exact ⟨runs_tioLevelWrite, runs_tioModeChange, runs_tioCapture, runs_tioEdge,
    fun slot l s due => ⟨runs_tioPulse slot l s due, runs_tioPulseEnd slot l s due⟩⟩

end Sys2Proof.Machine
end

section
/-! PROOFS. Launches are posted, admitted, cancelled, handed over and completed (R199 to R204). -/

namespace Sys2Proof.Machine

/-! Posting (R199). -/

theorem Hub.time_launchRefused (s : Hub) (l : Launch) (status : Nat) : (s.launchRefused l status).time = { s.time with
    held := s.time.held ++ [{ status := status, slot := 0, cookie := l.cookie, f := 0, src := l.src }] } := by
  rw [Hub.launchRefused, Hub.holdDone, StoreFree.time.countLaunch]

theorem Hub.pool_launchRefused (s : Hub) (l : Launch) (status : Nat) : (s.launchRefused l status).pool = s.pool := by
  simp only [Hub.launchRefused, Hub.holdDone, Hub.countLaunch, apply_ite Hub.pool, Hub.count_pool, ite_self]

/-- Oldest waiting record aside, the rest of the records wait on. -/
def Hub.withToPost (ps : List LaunchPost) (s : Hub) : Hub := { s with time := { s.time with toPost := ps } }

/-- The hub after queue 6 was offered the record `p`, the rest `ps` waiting on. -/
def Hub.offerPost (p : LaunchPost) (ps : List LaunchPost) (s : Hub) : Hub := (s.withToPost ps).produce 6 .fw { data := postBytes p }

theorem Hub.time_offerPost (p : LaunchPost) (ps : List LaunchPost) (s : Hub) : (s.offerPost p ps).time = { s.time with toPost := ps } :=
  StoreFree.time.produce ..

theorem Hub.postLaunch_eq {s : Hub} {p : LaunchPost} {ps : List LaunchPost} (waiting : s.time.toPost = p :: ps) : s.postLaunch =
    if s.tick < p.at' then s
    else if (s.queue 6).pkts.length < ((s.offerPost p ps).queue 6).pkts.length then s.offerPost p ps
    else if p.cancel then (s.offerPost p ps).holdDone
      { cancel := true, status := lsCancelRefused, slot := beNat (slice p.bytes 0 2), cookie := beNat (slice p.bytes 8 8), f := 0,
        src := p.src }
    else (s.offerPost p ps).launchRefused (readLaunch p.bytes p.src) lsNoSlot := by
  rw [Hub.postLaunch, waiting]
  rfl

theorem runs_launchRecordPost_none (s : State) (none : s.hub.time.toPost = []) : Runs .launchRecordPost s (fun h => h = s.hub) := by
  refine ⟨_, rfl, ?_⟩
  beta_reduce
  rw [Hub.postLaunch, none]

theorem runs_launchRecordPost (p : LaunchPost) (ps : List LaunchPost) (s : State) (waiting : s.hub.time.toPost = p :: ps) :
    Runs .launchRecordPost s (fun h =>
      if s.hub.tick < p.at' then h = s.hub
      else h.time.toPost = ps ∧
        if (s.hub.queue 6).pkts.length < (h.queue 6).pkts.length then h.time.held = s.hub.time.held
        else ∃ d, h.time.held = s.hub.time.held ++ [d] ∧ d.src = p.src ∧ d.cancel = p.cancel ∧
          d.status = if p.cancel then lsCancelRefused else lsNoSlot) := by
  let u := s.hub.offerPost p ps
  have time : u.time = { s.hub.time with toPost := ps } := s.hub.time_offerPost p ps
  refine ⟨_, rfl, ?_⟩
  beta_reduce
  rw [Hub.postLaunch_eq waiting]
  by_cases early : s.hub.tick < p.at'
  · simp only [if_pos early]
  simp only [if_neg early]
  by_cases stored : (s.hub.queue 6).pkts.length < (u.queue 6).pkts.length
  · rw [if_pos stored, if_pos stored, time]
    exact ⟨rfl, rfl⟩
  rw [if_neg stored]
  by_cases cancel : p.cancel = true
  · rw [if_pos cancel]
    have same (d : LaunchDone) : (u.holdDone d).queue 6 = u.queue 6 := rfl
    rw [same, if_neg stored, Hub.holdDone, time]
    exact ⟨rfl, _, rfl, rfl, cancel.symm, (if_pos cancel).symm⟩
  · have same : (u.launchRefused (readLaunch p.bytes p.src) lsNoSlot).queue 6 = u.queue 6 :=
      Hub.queue_congr (congrArg Pool.queues (u.pool_launchRefused _ _)) 6
    rw [if_neg cancel, same, if_neg stored, Hub.time_launchRefused, time]
    exact ⟨rfl, _, rfl, rfl, (Bool.eq_false_iff.mpr cancel).symm, (if_neg cancel).symm⟩

/-! Admission (R199, R200). -/

theorem Hub.queue6_advance (s : Hub) (t : Nat) : (s.advance t).queue6 = s.queue6 := by
  simp only [Hub.queue6, Hub.headPkt, Hub.qEnabled, Hub.flag_advance, Hub.queue, Hub.advance_pool, Hub.pktBytes, Hub.memRead, Hub.memByte,
    Hub.advance_lineMem]
  rfl

/-- The lead of a launch's T over line time (R200). -/
def Hub.lead (l : Launch) (s : Hub) : Int := (l.time : Int) - s.now

/-- A launch with what admission notes in it: LATE and F (R200). -/
def Hub.timed (l : Launch) (s : Hub) : Launch :=
  { l with late := decide (s.lead l < 125000),
           f := if decide (s.lead l < 125000) then max l.time (s.now + actionPrep l.action) else l.time }

theorem Hub.held_setLaunch (s : Hub) (slot : Nat) (l : Launch) : (s.setLaunch slot l).time.held = s.time.held := rfl

/-- The next launch admitted is the `n`th. -/
def Hub.withOrder (n : Nat) (s : Hub) : Hub := { s with time := { s.time with order := n } }

theorem Hub.withOrder_keeps (n : Nat) (s : Hub) :
    (s.withOrder n).time.launches = s.time.launches ∧ (s.withOrder n).time.held = s.time.held := ⟨rfl, rfl⟩

/-- The hub with launch `m` in the free SLOT `i`. -/
def Hub.enterLaunch (i : Nat) (m : Launch) (s : Hub) : Hub :=
  (((s.entryEnd 8 4 i).setLaunch i { m with order := s.time.order }).withOrder (s.time.order + 1)).showLaunches

/-- The checks of R199 in their order. -/
theorem Hub.admitLaunch_eq (l : Launch) (s : Hub) : s.admitLaunch l =
    if s.check1 l then s.launchRefused l lsBadTarget
    else if s.check2 l then s.launchRefused l lsUnavailable
    else if decide (s.lead l < 125000) = true ∧ (bit l.flags 0 = false ∨ s.lead l < -1000000) then s.launchRefused l lsLate
    else if s.time.launches.any (fun e => conflicts (s.timed l) e.2) then s.launchRefused l lsConflict
    else match s.freeSlot with
      | none => s.launchRefused l lsNoSlot
      | some i => s.enterLaunch i (s.timed l) := by
  unfold Hub.admitLaunch
  extract_lets lead inTime lateOk m
  have early : inTime = !decide (s.lead l < 125000) := (decide_eq_decide.mpr Int.not_lt.symm).trans decide_not
  have tooLate : (!inTime && !lateOk) = true ↔
      decide (s.lead l < 125000) = true ∧ (bit l.flags 0 = false ∨ s.lead l < -1000000) := by
    rw [early, Bool.not_not, Bool.and_eq_true, Bool.not_eq_true', Bool.and_eq_false_iff, decide_eq_false_iff_not, Int.not_le]
    rfl
  have timed : m = s.timed l := by
    simp only [m, Hub.timed, early]
    cases decide (s.lead l < 125000) <;> rfl
  simp only [timed, tooLate]
  cases s.freeSlot <;> rfl

/-- A launch admitted takes its slot, and nothing completes. -/
theorem Hub.enterLaunch_shows (i : Nat) (m : Launch) (s : Hub) :
    Tab.get? i (s.enterLaunch i m).time.launches = some { m with order := s.time.order } ∧
    (s.enterLaunch i m).time.held = s.time.held := by
  have time : (s.entryEnd 8 4 i).time = s.time :=
    Hub.observed_foldl (φ := Hub.time) (fun t _ _ => StoreFree.time.eccEnd _ _ t) s
  obtain ⟨launches, held⟩ :=
    Hub.withOrder_keeps (s.time.order + 1) ((s.entryEnd 8 4 i).setLaunch i { m with order := s.time.order })
  rw [Hub.enterLaunch, Hub.showLaunches, Hub.setf_time, Hub.setf_time, launches, held, Hub.held_setLaunch, time]
  exact ⟨Hub.get?_setLaunch .., rfl⟩

theorem Hub.time_popPkt (q : Nat) (s : Hub) : (s.popPkt q).time = s.time := Hub.time_of_view (MsgFree.planView.popPkt q s)

theorem runs_launchAdmit (t : Nat) (p : LaunchPost) (s : State) (head : s.hub.queue6 = some p) (launch : p.cancel = false)
    (o : Option Nat) : s.hub.freeSlot = o → Runs (.launchAdmit t) s (fun h =>
      let u := (s.hub.advance t).popPkt 6
      let l := readLaunch p.bytes p.src
      let lead : Int := (l.time : Int) - u.now
      let late := decide (lead < 125000)
      let m := { l with late := late, f := if late then max l.time (u.now + actionPrep l.action) else l.time }
      let refused (st : Nat) := h.time.launches = s.hub.time.launches ∧
        h.time.held = s.hub.time.held ++ [{ status := st, slot := 0, cookie := l.cookie, f := 0, src := p.src }]
      if u.check1 l = true then refused lsBadTarget
      else if u.check2 l = true then refused lsUnavailable
      else if late = true ∧ (bit l.flags 0 = false ∨ lead < -1000000) then refused lsLate
      else if s.hub.time.launches.any (fun e => conflicts m e.2) = true then refused lsConflict
      else match o with
        | none => refused lsNoSlot
        | some i => Tab.get? i h.time.launches = some { m with order := s.hub.time.order } ∧ h.time.held = s.hub.time.held) := by
  intro free
  let u := (s.hub.advance t).popPkt 6
  let l := readLaunch p.bytes p.src
  have time : u.time = s.hub.time := (Hub.time_popPkt ..).trans (s.hub.advance_time t)
  have free' : u.freeSlot = o := by rw [Hub.freeSlot, time, ← Hub.freeSlot, free]
  have refused {h : Hub} {st : Nat} (is : h = u.launchRefused l st) : h.time.launches = s.hub.time.launches ∧
      h.time.held = s.hub.time.held ++ [{ status := st, slot := 0, cookie := l.cookie, f := 0, src := p.src }] := by
    rw [is, Hub.time_launchRefused, time]
    exact ⟨rfl, rfl⟩
  have does : exec (.launchAdmit t) s = .next { s with
      hub := match (s.hub.advance t).queue6 with
        | none => s.hub.advance t
        | some p => if p.cancel then s.hub.advance t else ((s.hub.advance t).popPkt 6).admitLaunch (readLaunch p.bytes p.src) } := rfl
  rw [Hub.queue6_advance, head] at does
  obtain ⟨h, is⟩ : ∃ h, h = u.admitLaunch l := ⟨_, rfl⟩
  refine runs_of_eq does ((if_neg (by rw [launch]; decide)).trans is.symm) ?_
  rw [Hub.admitLaunch_eq, free'] at is
  by_cases target : u.check1 l = true
  · exact (if_pos target).mpr (refused (is.trans (if_pos target)))
  refine (if_neg target).mpr ?_
  replace is := is.trans (if_neg target)
  by_cases domain : u.check2 l = true
  · exact (if_pos domain).mpr (refused (is.trans (if_pos domain)))
  refine (if_neg domain).mpr ?_
  replace is := is.trans (if_neg domain)
  by_cases late : decide (u.lead l < 125000) = true ∧ (bit l.flags 0 = false ∨ u.lead l < -1000000)
  · exact (if_pos late).mpr (refused (is.trans (if_pos late)))
  refine (if_neg late).mpr ?_
  replace is := is.trans (if_neg late)
  rw [time] at is
  by_cases conflict : s.hub.time.launches.any (fun e => conflicts (u.timed l) e.2) = true
  · exact (if_pos conflict).mpr (refused (is.trans (if_pos conflict)))
  refine (if_neg conflict).mpr ?_
  replace is := is.trans (if_neg conflict)
  cases o with
  | none => exact refused is
  | some i =>
    have entered := u.enterLaunch_shows i (u.timed l)
    rw [time] at entered
    rwa [is]

/-! Cancels (R203). -/

/-- The launch a cancel names is pending, carries its COOKIE, and is not handed over. -/
def Hub.cancels (slot cookie : Nat) (s : Hub) : Bool :=
  match Tab.get? slot s.time.launches with
  | none => false
  | some l => l.cookie == cookie && !l.handed

theorem Hub.cancelLaunch_eq (slot cookie : Nat) (src : LaunchSrc) (s : Hub) : s.cancelLaunch slot cookie src =
    (if s.cancels slot cookie then s.launchDone slot lsCancelled 0 else s).holdDone
      { cancel := true, status := if s.cancels slot cookie then lsOk else lsCancelRefused, slot := slot, cookie := cookie, f := 0,
        src := src } := rfl

theorem Hub.holdDone_shows (d : LaunchDone) (s : Hub) :
    (s.holdDone d).time.launches = s.time.launches ∧ (s.holdDone d).time.held.getLast? = some d :=
  ⟨rfl, List.getLast?_concat ..⟩

theorem Hub.cancelLaunch_shows (slot cookie : Nat) (src : LaunchSrc) (s : Hub) :
    (s.cancels slot cookie = true → Tab.get? slot (s.cancelLaunch slot cookie src).time.launches = none) ∧
    (s.cancels slot cookie = false → (s.cancelLaunch slot cookie src).time.launches = s.time.launches) ∧
    (s.cancelLaunch slot cookie src).time.held.getLast? = some
      { cancel := true, status := if s.cancels slot cookie then lsOk else lsCancelRefused, slot := slot, cookie := cookie, f := 0,
        src := src } := by
  rw [Hub.cancelLaunch_eq]
  refine ⟨fun ok => ?_, fun bad => ?_, (Hub.holdDone_shows ..).2⟩
  · rw [(Hub.holdDone_shows ..).1, if_pos ok]
    cases pending : Tab.get? slot s.time.launches with
    | none => rw [Hub.cancels, pending] at ok; exact absurd ok Bool.false_ne_true
    | some l => exact (completed_launchDone pending _ _).1
  · rw [(Hub.holdDone_shows ..).1, if_neg (by rw [bad]; decide)]

theorem runs_launchCancelAdmit (p : LaunchPost) (s : State) (head : s.hub.queue6 = some p) (cancel : p.cancel = true) :
    Runs .launchCancelAdmit s (fun h =>
      let i := beNat (slice p.bytes 0 2)
      let ok := match Tab.get? i s.hub.time.launches with
        | none => false
        | some l => l.cookie == beNat (slice p.bytes 8 8) && !l.handed
      (ok = true → Tab.get? i h.time.launches = none) ∧ (ok = false → h.time.launches = s.hub.time.launches) ∧
      h.time.held.getLast? = some
        { cancel := true, status := if ok then lsOk else lsCancelRefused, slot := i, cookie := beNat (slice p.bytes 8 8), f := 0,
          src := p.src }) := by
  let u := s.hub.popPkt 6
  have time : u.time = s.hub.time := s.hub.time_popPkt 6
  have does : exec .launchCancelAdmit s = .next { s with
      hub := match s.hub.queue6 with
        | none => s.hub
        | some p => if p.cancel then (s.hub.popPkt 6).cancelLaunch (beNat (slice p.bytes 0 2)) (beNat (slice p.bytes 8 8)) p.src
          else s.hub } := rfl
  rw [head] at does
  refine runs_of_eq does (if_pos cancel) ?_
  rw [← time]
  exact u.cancelLaunch_shows ..

/-! Handover (R201). -/

theorem Hub.planView_wakeDom (d src : Nat) (s : Hub) : (s.wakeDom d src).planView = s.planView := by
  simp only [Hub.wakeDom, apply_ite Hub.planView, Hub.planView_startExit, Hub.planView_setDom, Hub.planView_abortArmed, ite_self]

/-- The launch handed to its unit; its domain is woken. -/
def Hub.handOver (slot : Nat) (l : Launch) (s : Hub) : Hub :=
  match actionDom l.action with
  | none => s.setLaunch slot { l with handed := true }
  | some d => (s.setLaunch slot { l with handed := true }).wakeDom d 6

theorem Hub.get?_handOver (slot : Nat) (l : Launch) (s : Hub) :
    Tab.get? slot (s.handOver slot l).time.launches = some { l with handed := true } := by
  unfold Hub.handOver
  split
  · exact Hub.get?_setLaunch ..
  · rw [Hub.time_of_view (Hub.planView_wakeDom ..)]
    exact Hub.get?_setLaunch ..

/-- Handover in a hub without memory errors: the checks of R201 in their order. -/
theorem Hub.handover_eq {slot : Nat} {l : Launch} {s : Hub} (pending : Tab.get? slot s.time.launches = some l)
    (waits : l.handed = false) (target : ¬(s.check1 l = true ∨ s.handoverBad l = true)) (domain : ¬s.check2 l = true)
    (clean : s.rel.flips = []) : s.handover slot = s.handOver slot l := by
  rw [← Bool.or_eq_true] at target
  rw [Hub.handover, pending]
  dsimp only
  rw [if_neg (by rw [waits]; decide), if_neg target, if_neg domain, Hub.entryBad_of_clean clean, if_neg Bool.false_ne_true]
  rfl

theorem runs_launchHandover (slot : Fin 1024) (s : State) : Runs (.launchHandover slot) s (fun h =>
    match Tab.get? slot.val s.hub.time.launches with
    | none => h = s.hub
    | some l =>
      let u := s.hub.advance l.handAt
      if l.handed = true then h = u
      else if u.check1 l = true ∨ u.handoverBad l = true then Completed s.hub h slot lsBadTarget 0
      else if u.check2 l = true then Completed s.hub h slot lsUnavailable 0
      else s.hub.rel.flips = [] → Tab.get? slot.val h.time.launches = some { l with handed := true }) := by
  refine ⟨_, rfl, ?_⟩
  beta_reduce
  cases pending : Tab.get? slot.val s.hub.time.launches with
  | none => rfl
  | some l =>
    dsimp only
    have pending' : Tab.get? slot.val (s.hub.advance l.handAt).time.launches = some l := by rwa [Hub.advance_time]
    by_cases handed : l.handed = true
    · rw [if_pos handed, Hub.handover, pending']
      exact if_pos handed
    rw [if_neg handed]
    by_cases target : (s.hub.advance l.handAt).check1 l = true ∨ (s.hub.advance l.handAt).handoverBad l = true
    · rw [if_pos target, Hub.handover, pending']
      dsimp only
      rw [if_neg handed, if_pos ((Bool.or_eq_true ..).mpr target)]
      exact Hub.completed_advance pending ..
    rw [if_neg target]
    by_cases domain : (s.hub.advance l.handAt).check2 l = true
    · rw [if_pos domain, Hub.handover, pending']
      dsimp only
      rw [if_neg handed, if_neg (mt (Bool.or_eq_true ..).mp target), if_pos domain]
      exact Hub.completed_advance pending ..
    rw [if_neg domain]
    intro clean
    rw [Hub.handover_eq pending' (Bool.eq_false_iff.mpr handed) target domain (by rwa [Hub.advance_rel])]
    exact Hub.get?_handOver ..

/-! Completions (R204). -/

theorem runs_launchCompletionPost (s : State) : Runs .launchCompletionPost s (fun h =>
    match s.hub.time.held with
    | [] => h = s.hub
    | _ :: ds => if s.hub.allocate 7 = .granted ∧ (s.hub.queue 7).full = false ∧ s.hub.qEnabled 7 = true then h.time.held = ds
      else h = s.hub) := by
  refine ⟨_, rfl, ?_⟩
  beta_reduce
  cases s.hub.time.held with
  | nil => rfl
  | cons d ds =>
    dsimp only
    simp only [Bool.not_eq_true']
    split
    · rw [StoreFree.time.produce]
    · rfl

/-- Settles O43, command by command. -/
theorem launchesAreAdmittedAndComplete : Obligations.LaunchesAreAdmittedAndComplete := by
  unfold Obligations.LaunchesAreAdmittedAndComplete
  refine ⟨runs_launchRecordPost_none, runs_launchRecordPost, fun t p s head launch => ?_, runs_launchCancelAdmit, runs_launchHandover,
    runs_launchCompletionPost⟩
  generalize free : s.hub.freeSlot = o
  exact runs_launchAdmit t p s head launch o free

end Sys2Proof.Machine
end

section
/-! PROOFS. Captures are routed, and the signal map fires its entries (R207, R331 to R335). -/

namespace Sys2Proof.Machine

theorem Hub.eventMark_advance (s : Hub) {t : Nat} (within : (s.advance t).tick = s.tick) : (s.advance t).eventMark = s.eventMark := by
  rw [Hub.eventMark, within, Hub.advance_ev, Hub.addr, Hub.isHead_advance, Hub.getf_advance, ← Hub.addr, ← Hub.eventMark]

/-- 1 µs past the boundary the tick is the same. -/
theorem Hub.tick_advance_pass (s : Hub) : (s.advance (s.tick * tickNs + 1000)).tick = s.tick := by
  have start : (s.tick * tickNs + 1000) / tickNs = s.tick := by unfold tickNs; omega
  rw [Hub.tick, Hub.advance_now]
  rcases Nat.le_total s.now (s.tick * tickNs + 1000) with before | after
  · rw [Nat.max_eq_right before, start]
  · rw [Nat.max_eq_left after, Hub.tick]

/-! The capture router (R207). -/

theorem Hub.routeQueue_empty {s : Hub} {q : Nat} (empty : (s.queue q).pkts = []) : s.routeQueue q = s := by
  unfold Hub.routeQueue
  rw [empty]
  split <;> rfl

theorem Hub.routeQueues_empty {s : Hub} (qs : List Nat) (empty : ∀ q ∈ qs, (s.queue q).pkts = []) :
    qs.foldl (fun t q => t.routeQueue q) s = s := by
  induction qs with
  | nil => rfl
  | cons q qs ih =>
    rw [List.forall_mem_cons] at empty
    rw [List.foldl_cons, Hub.routeQueue_empty empty.1, ih empty.2]

theorem runs_captureRoute_empty (s : State) (empty : ∀ q ∈ [16, 17, 18, 19], (s.hub.queue q).pkts = []) :
    Runs .captureRoute s (fun h => h = s.hub.advance (s.hub.tick * tickNs + 1000)) :=
  runs_of_eq rfl (Hub.routeQueues_empty _ fun q m => (congrArg Queue.pkts (Hub.queue_congr (by rw [Hub.advance_pool]) q)).trans (empty q m))
    rfl

theorem Hub.poisonBad_of_clean {s : Hub} (clean : s.rel.flips = []) (p : List QCell) : s.poisonBad p = p := by
  rw [Hub.poisonBad]
  simp only [Hub.memBad_of_clean clean, Bool.or_false]
  exact List.map_id p

/-- In a hub without memory errors the oldest packet is read as it lies. -/
theorem Hub.readHead_of_clean {s : Hub} (clean : s.rel.flips = []) {q : Nat} (on : s.qEnabled q = true) {p : List QCell}
    {ps : List (List QCell)} (head : (s.queue q).pkts = p :: ps) : s.readHead q = (some p, s.setQueue q (s.queue q)) := by
  have first : s.headPkt q = some p := by rw [Hub.headPkt, if_pos on, head, List.head?_cons]
  have same : ({ s.queue q with pkts := p :: (s.queue q).pkts.tail } : Queue) = s.queue q := by rw [head, List.tail_cons, ← head]
  rw [Hub.readHead, first]
  dsimp only
  rw [Hub.linkBad_of_clean clean, if_neg Bool.false_ne_true, Hub.poisonBad_of_clean clean, Hub.pktTouch_of_clean clean, same]

/-- What the router does with a record depends on its pin's DEST. -/
theorem Hub.routeCapture_keeps (b : List Byte) (s : Hub) : (s.routeCapture b).pool = s.pool := by
  simp only [Hub.routeCapture, Hub.mapInput, apply_ite Hub.pool, Hub.count_pool, Hub.raise_pool, ite_self]

/-- The input a capture record makes (R207, R331). -/
def Hub.captureInput (b : List Byte) (s : Hub) : MapIn :=
  { kind := 0, sel := byteAt b 8 % 32, frame := b, time := beNat (slice b 0 8), hold := bit (byteAt b 9) 4 || bit (byteAt b 9) 3,
    only := some (s.getf (Fld.LTM_TIO_CFG_SIGMAP (byteAt b 8 % 32))) }

/-- The event a capture record makes on the event path (R207). -/
def Hub.captureEvent (b : List Byte) (s : Hub) : Hub :=
  s.raise Evt.LTM_CAPTURE [beNat (slice b 0 8) % 2 ^ 48 + byteAt b 8 % 32 * 2 ^ 48 + byteAt b 9 * 2 ^ 56]

/-- Where a capture record goes by its pin's DEST (R207). -/
theorem Hub.routeCapture_dest (b : List Byte) (s : Hub) : let d := s.getf (Fld.LTM_TIO_CFG_DEST (byteAt b 8 % 32))
    (d = 0 → s.routeCapture b = s.captureEvent b) ∧ (d = 1 → s.routeCapture b = s.mapInput (s.captureInput b)) ∧
    (d = 2 → s.routeCapture b = (s.captureEvent b).mapInput (s.captureInput b)) ∧
    (d = 3 → s.routeCapture b = s.count Cnt.LTM_CNT_CAPTURE_DROP 1) := by
  unfold Hub.routeCapture
  refine ⟨fun d => ?_, fun d => ?_, fun d => ?_, fun d => ?_⟩
  all_goals
    dsimp only
    rw [d]
    rfl

/-- In a hub without memory errors the router takes a record of an earlier tick. -/
theorem Hub.routeOne_of_clean {s : Hub} (clean : s.rel.flips = []) {q : Nat} (on : s.qEnabled q = true) {p : List QCell}
    {ps : List (List QCell)} (head : (s.queue q).pkts = p :: ps) (before : beNat (slice (s.pktBytes p) 0 8) / tickNs < s.tick) :
    s.routeOne q = ((s.setQueue q (s.queue q)).popPkt q).routeCapture (s.pktBytes p) := by
  have bytes : (s.setQueue q (s.queue q)).pktBytes p = s.pktBytes p := rfl
  have tick : (s.setQueue q (s.queue q)).tick = s.tick := rfl
  rw [Hub.routeOne, Hub.readHead_of_clean clean on head]
  dsimp only
  rw [bytes, tick, if_neg (by omega)]

theorem Hub.queue_popPkt_ne (s : Hub) {q r : Nat} (ne : r ≠ q) : (s.popPkt q).queue r = s.queue r := by
  rw [Hub.popPkt, Hub.queue_claimCheck, Hub.queue_setQueue_ne _ ne]

theorem Hub.popPkt_unclaimed {s : Hub} (unclaimed : s.pool.claim = none) (q : Nat) : ∃ x : Pool, s.popPkt q = { s with pool := x } := by
  rw [Hub.popPkt, Hub.claimCheck]
  dsimp only [Hub.setQueue]
  rw [unclaimed]
  exact ⟨_, rfl⟩

theorem runs_captureRoute (p : List QCell) (s : State) (clean : s.hub.rel.flips = []) (unclaimed : s.hub.pool.claim = none)
    (one : (s.hub.queue 16).pkts = [p]) (on : s.hub.qEnabled 16 = true) (cons : (s.hub.queue 16).cons = none)
    (others : ∀ q ∈ [17, 18, 19], (s.hub.queue q).pkts = [])
    (before : beNat (slice (s.hub.pktBytes p) 0 8) / tickNs < s.hub.tick) : Runs .captureRoute s (fun h =>
      let b := s.hub.pktBytes p
      let d := s.hub.getf (Fld.LTM_TIO_CFG_DEST (byteAt b 8 % 32))
      (h.queue 16).pkts = [] ∧
      (d = 0 ∨ d = 2 → Posted s.hub h Evt.LTM_CAPTURE
        [beNat (slice b 0 8) % 2 ^ 48 + byteAt b 8 % 32 * 2 ^ 48 + byteAt b 9 * 2 ^ 56]) ∧
      (d = 1 ∨ d = 2 → ∃ x : MapIn, h.fbr.ins = s.hub.fbr.ins ++ [x] ∧ x.kind = 0 ∧ x.frame = b ∧
        x.only = some (s.hub.getf (Fld.LTM_TIO_CFG_SIGMAP (byteAt b 8 % 32)))) ∧
      (d = 3 → Counted s.hub h Cnt.LTM_CNT_CAPTURE_DROP 1 ∧ h.ev = s.hub.ev ∧ h.fbr = s.hub.fbr)) := by
  let s0 := s.hub.advance (s.hub.tick * tickNs + 1000)
  let b := s.hub.pktBytes p
  have queue (q : Nat) : s0.queue q = s.hub.queue q := Hub.queue_congr (by rw [Hub.advance_pool]) q
  have bytes : s0.pktBytes p = b := by
    simp only [Hub.pktBytes, Hub.memRead, Hub.memByte, s0, Hub.advance_lineMem]
    rfl
  have tick : s0.tick = s.hub.tick := s.hub.tick_advance_pass
  obtain ⟨x, popped⟩ := (s0.setQueue 16 (s0.queue 16)).popPkt_unclaimed (by
    rw [Hub.setQueue, Hub.advance_pool]; exact unclaimed) 16
  let u := (s0.setQueue 16 (s0.queue 16)).popPkt 16
  have mark : u.eventMark = s.hub.eventMark := by
    rw [← s.hub.eventMark_advance tick, show u = _ from popped]
    rfl
  have regs : u.regs = s.hub.regs := (congrArg Hub.regs popped).trans (s.hub.advance_regs _)
  have fbr : u.fbr = s.hub.fbr := (congrArg Hub.fbr popped).trans (s.hub.advance_fbr _)
  have cnts : u.cnts = s.hub.cnts := (congrArg Hub.cnts popped).trans (s.hub.advance_cnts _)
  have ev : u.ev = s.hub.ev := (congrArg Hub.ev popped).trans (s.hub.advance_ev _)
  have first : s0.routeQueue 16 = u.routeCapture b := by
    rw [Hub.routeQueue, queue, cons, one]
    dsimp only
    rw [List.foldl_cons, List.foldl_nil, Hub.routeOne_of_clean (by rwa [Hub.advance_rel])
      ((s.hub.flag_advance ..).trans on) ((congrArg Queue.pkts (queue 16)).trans one) (by rwa [bytes, tick]), bytes]
  have rest : (u.routeCapture b).pool = u.pool := u.routeCapture_keeps b
  have does : exec .captureRoute s = .next { s with hub := [16, 17, 18, 19].foldl (fun t q => t.routeQueue q) s0 } := rfl
  have routed : [16, 17, 18, 19].foldl (fun t q => t.routeQueue q) s0 = u.routeCapture b := by
    rw [List.foldl_cons, first]
    refine Hub.routeQueues_empty _ fun q m => ?_
    have other : q ≠ 16 := by rintro rfl; simp at m
    rw [Hub.queue_congr (congrArg Pool.queues rest), Hub.queue_popPkt_ne _ other, Hub.queue_setQueue_ne _ other, queue, others q m]
  obtain ⟨told, mapped, both, dropped⟩ := u.routeCapture_dest b
  rw [Hub.getf_congr regs] at told mapped both dropped
  refine runs_of_eq does routed ⟨?_, ?_, ?_, fun d => ?_⟩
  · rw [Hub.queue_congr (congrArg Pool.queues rest), Hub.pkts_popPkt, Hub.queue_setQueue_self, queue, one, List.tail_cons]
  · have posted := s.hub.posted_raise_of_mark mark Evt.LTM_CAPTURE
      [beNat (slice b 0 8) % 2 ^ 48 + byteAt b 8 % 32 * 2 ^ 48 + byteAt b 9 * 2 ^ 56]
    rintro (d | d)
    · rw [told d]
      exact posted
    · rw [both d]
      exact posted_of_ev posted rfl
  · rintro (d | d)
    · rw [mapped d]
      exact ⟨u.captureInput b, congrArg (fun f : Fbr => f.ins ++ _) fbr, rfl, rfl, congrArg some (Hub.getf_congr regs _)⟩
    · rw [both d]
      refine ⟨u.captureInput b, congrArg (fun f : Fbr => f.ins ++ _) ((u.raise_fbr _ _).trans fbr), rfl, rfl, ?_⟩
      exact congrArg some (Hub.getf_congr regs _)
  · rw [dropped d, Hub.count_ev, Hub.count_fbr]
    exact ⟨(Hub.cnt_count_self _ _ (by decide)).trans (congrArg (fun x => CntV.add (Tab.getD x _ _) 1) cnts), ev, fbr⟩

/-! Entries (R332). -/

theorem Tab.getD_put_self {α : Type} (t : Tab α) (k : Nat) (v d : α) : Tab.getD (Tab.put k v t) k d = v := by
  rw [Tab.getD, Tab.get?_put_self, Option.getD_some]

theorem Tab.getD_put_ne {α : Type} (t : Tab α) {k j : Nat} (ne : j ≠ k) (v d : α) : Tab.getD (Tab.put k v t) j d = Tab.getD t j d := by
  rw [Tab.getD, Tab.get?_put_ne ne, Tab.getD]

theorem Tab.getD_del_ne {α : Type} (t : Tab α) {k j : Nat} (ne : j ≠ k) (d : α) : Tab.getD (Tab.del k t) j d = Tab.getD t j d := by
  rw [Tab.getD, Tab.get?_del_ne ne, Tab.getD]

theorem runs_signalMapHold (i : Fin 2048) (w : Fin 4) (v : Word) (s : State) : Runs (.signalMapHold i w v) s (fun h =>
    if w.val = 0 then h = s.hub else Tab.get? w.val (Tab.getD h.fbr.sigHeld i.val []) = some v.toNat ∧
      h.sigEntry i = s.hub.sigEntry i) := by
  by_cases zero : w.val = 0
  · exact runs_if rfl zero ((if_pos zero).mpr rfl)
  · refine runs_if_not rfl zero ((if_neg zero).mpr ⟨?_, rfl⟩)
    rw [Hub.holdSig]
    dsimp only
    rw [Tab.getD_put_self, Tab.get?_put_self]

/-- The words entry `i` commits (R332). -/
def Hub.sigWords (i v : Nat) (s : Hub) : List Nat :=
  let raw := (List.range 4).map (fun w =>
    if w = 0 then v else Tab.getD (Tab.getD s.fbr.sigHeld i []) w ((s.sigEntry i).getD w 0))
  (List.range 4).map (fun w => raw.getD w 0 &&& sigMask (raw.getD 0 0) (raw.getD 1 0) w)

theorem Hub.commitSig_fbr (i v : Nat) (s : Hub) : (s.commitSig i v).fbr = { s.fbr with
    sigMap := if (s.sigWords i v).all (· == 0) then Tab.del i s.fbr.sigMap else Tab.put i (s.sigWords i v) s.fbr.sigMap,
    fired := Tab.del i s.fbr.fired } := rfl

theorem Hub.sigWords_first (i v : Nat) (s : Hub) : (s.sigWords i v).getD 0 0 = v &&& sigMask v 0 0 := rfl

theorem Hub.sigEntry_commitSig (i v : Nat) (s : Hub) : ((s.commitSig i v).sigEntry i).getD 0 0 = v &&& sigMask v 0 0 := by
  rw [← s.sigWords_first i v, Hub.sigEntry, Hub.commitSig_fbr]
  dsimp only
  split
  next zero =>
    have first : (s.sigWords i v).getD 0 0 = 0 := by
      rw [List.all_eq_true] at zero
      exact beq_iff_eq.mp (zero _ (List.mem_map.mpr ⟨0, by simp, rfl⟩))
    rw [Tab.getD, Tab.get?_del_self, first]
    rfl
  next => rw [Tab.getD_put_self]

theorem runs_signalMapCommit (i : Fin 2048) (v : Word) (s : State) : Runs (.signalMapCommit i v) s (fun h =>
    Tab.get? i.val h.fbr.fired = none ∧ (h.sigEntry i).getD 0 0 = v.toNat &&& sigMask v.toNat 0 0 ∧
    (∀ j, j ≠ i.val → h.sigEntry j = s.hub.sigEntry j) ∧
    Tab.getD h.fbr.sigHeld i.val [] = Tab.getD s.hub.fbr.sigHeld i.val []) := by
  refine ⟨_, rfl, ?_⟩
  beta_reduce
  refine ⟨?_, s.hub.sigEntry_commitSig i v.toNat, fun j other => ?_, ?_⟩
  · rw [Hub.commitSig_fbr]
    exact Tab.get?_del_self ..
  · rw [Hub.sigEntry, Hub.commitSig_fbr]
    dsimp only
    split
    · exact Tab.getD_del_ne _ other _
    · exact Tab.getD_put_ne _ other _ _
  · rw [Hub.commitSig_fbr]

/-! Mailboxes (R338). -/

theorem leBytes_leNat (bs : List Byte) : leBytes bs.length (leNat bs) = bs := by
  induction bs with
  | nil => rfl
  | cons b bs ih =>
    have low : (b.toNat + 256 * leNat bs) % 256 = b.toNat := by have := b.isLt; omega
    have high : (b.toNat + 256 * leNat bs) / 256 = leNat bs := by have := b.isLt; omega
    rw [List.length_cons, leBytes, leNat, low, high, ih, BitVec.ofNat_toNat, BitVec.setWidth_eq]

theorem beBytes_beNat {bs : List Byte} {n : Nat} (len : bs.length = n) : beBytes n (beNat bs) = bs := by
  subst len
  rw [← bs.reverse_reverse, beNat_reverse, bs.reverse.length_reverse, beBytes, leBytes_leNat]

theorem length_slice {bs : List Byte} {o n : Nat} (within : o + n ≤ bs.length) : (slice bs o n).length = n := by
  rw [slice, List.length_take, List.length_drop]
  omega

theorem flatMap_slices (bs : List Byte) (w n : Nat) : (List.range n).flatMap (fun j => slice bs (w * j) w) = bs.take (w * n) := by
  induction n with
  | zero => simp
  | succ n ih =>
    rw [List.range_succ, List.flatMap_append, ih, List.flatMap_singleton, slice, Nat.mul_succ, List.take_add]

/-- Fields written one after another, each with a key of its own, hold what was written. -/
theorem Hub.getf_setfs {f : Nat → Fl} (apart : ∀ i j, i ≠ j → (f i).key ≠ (f j).key) (g : Nat → Nat) (s : Hub) (n : Nat) {j : Nat}
    (lt : j < n) : ((List.range n).foldl (fun t i => t.setf (f i) (g i)) s).getf (f j) = g j % 2 ^ (f j).width := by
  induction n with
  | zero => exact absurd lt (Nat.not_lt_zero j)
  | succ n ih =>
    rw [List.range_succ, List.foldl_concat]
    rcases Nat.lt_succ_iff_lt_or_eq.mp lt with below | rfl
    · rw [Hub.getf_setf_ne _ (apart _ _ (Nat.ne_of_lt below)), ih below]
    · rw [Hub.getf_setf_self]

theorem Hub.flipWords_of_clean {s : Hub} (clean : s.rel.flips = []) (mem : Nat) : s.flipWords mem = [] := by rw [Hub.flipWords, clean]; rfl

theorem Hub.touchAll_of_clean {s : Hub} (clean : s.rel.flips = []) (mem : Nat) : s.touchAll mem = s := by
  rw [Hub.touchAll, Hub.flipWords_of_clean clean]
  rfl

theorem Hub.spanBad_of_clean {s : Hub} (clean : s.rel.flips = []) (mem lo hi : Nat) : s.spanBad mem lo hi = false := by
  rw [Hub.spanBad, Hub.flipWords_of_clean clean]
  rfl

section
variable (c m : Nat)

theorem Hub.mbData_of_clean {s : Hub} (clean : s.rel.flips = []) :
    s.mbData c m = (List.range 16).flatMap (fun j => beBytes 4 (s.getf (Fld.FBR_MB_DATA c m j))) := by
  rw [Hub.mbData, Hub.spanBad_of_clean clean, if_neg Bool.false_ne_true]

theorem Hub.length_mbData (s : Hub) : (s.mbData c m).length = 64 := by
  unfold Hub.mbData
  split
  · exact length_zeros 64
  · simp

theorem Hub.rel_setMbData {s : Hub} (clean : s.rel.flips = []) (bs : List Byte) : (s.setMbData c m bs).rel.flips = [] := by
  unfold Hub.setMbData
  refine (Hub.observed_foldl (φ := fun t => t.rel.flips) (fun t j _ => congrArg Rel.flips (t.setf_rel _ _)) _).trans ?_
  rw [Hub.spanEnd]
  dsimp only
  rw [clean]
  rfl

theorem Hub.fbr_setMbData (s : Hub) (bs : List Byte) : (s.setMbData c m bs).fbr = s.fbr :=
  (Hub.observed_foldl (φ := Hub.fbr) (fun t _ _ => t.setf_fbr _ _) _).trans rfl

/-- A mailbox reads back the 64 bytes written to it. -/
theorem Hub.mbData_setMbData {s : Hub} (clean : s.rel.flips = []) {bs : List Byte} (len : bs.length = 64) :
    (s.setMbData c m bs).mbData c m = bs := by
  have all : splice (s.mbData c m) 0 (bs.take 64) = bs := by
    rw [splice, List.take_of_length_le (Nat.le_of_eq len), List.take_zero, List.nil_append, Nat.zero_add, len,
      List.drop_of_length_le (Nat.le_of_eq (s.length_mbData c m)), List.append_nil]
  have apart (i j : Nat) (ne : i ≠ j) : (Fld.FBR_MB_DATA c m i).key ≠ (Fld.FBR_MB_DATA c m j).key := by
    simp only [Fld.FBR_MB_DATA]
    omega
  have word (j : Nat) (m' : j ∈ List.range 16) : beBytes 4 ((s.setMbData c m bs).getf (Fld.FBR_MB_DATA c m j)) = slice bs (4 * j) 4 := by
    have lt := List.mem_range.mp m'
    have shown : (s.setMbData c m bs).getf (Fld.FBR_MB_DATA c m j) = beNat (slice bs (4 * j) 4) % 2 ^ 32 := by
      unfold Hub.setMbData
      rw [all]
      exact Hub.getf_setfs apart _ _ 16 lt
    rw [shown, Nat.mod_eq_of_lt (show _ < 2 ^ 32 from beNat_slice_lt bs (4 * j) 4), beBytes_beNat (length_slice (by omega))]
  rw [Hub.mbData_of_clean c m (Hub.rel_setMbData c m clean bs), List.flatMap_congr word, flatMap_slices,
    List.take_of_length_le (Nat.le_of_eq len)]

theorem Hub.mbData_congr {s t : Hub} (regs : t.regs = s.regs) (flips : t.rel.flips = []) (clean : s.rel.flips = []) :
    t.mbData c m = s.mbData c m := by
  rw [Hub.mbData_of_clean c m flips, Hub.mbData_of_clean c m clean]
  simp only [Hub.getf_congr regs]

end

theorem length_packField (frame : List Byte) (start len : Nat) (big : Bool) (v : Nat) :
    (packField frame start len big v).length = frame.length :=
  List.foldlRecOn (List.range len) _ (motive := fun f : List Byte => f.length = frame.length) rfl fun _ same _ _ => List.length_set.trans same

/-! What a pass leaves of the map's own state (R331, R335). -/

theorem StoreFree.fbr : StoreFree Hub.fbr where
  cnts _ _ := rfl
  ev _ _ := rfl
  lastRaise _ _ := rfl
  fresh _ _ := rfl
  lineMem _ _ := rfl
  pool _ _ := rfl
  rel _ _ := rfl
  overrun s v := s.setf_fbr _ v
  genLow s v := s.setf_fbr _ v

theorem MsgFree.fbr : MsgFree Hub.fbr where
  toStoreFree := .fbr
  ring _ _ := rfl
  blk _ _ := rfl
  eccLog _ s v := s.setf_fbr _ v

theorem StoreFree.producePkt {α : Type} {φ : Hub → α} (free : StoreFree φ) (q : Nat) (w : Who) (bs : List Byte) (s : Hub) :
    φ (s.producePkt q w bs) = φ s :=
  Hub.observed_foldl (fun t c _ => free.produce q w c t) s

theorem Hub.fbr_sendSig (n : Nat) (os : List SigOut) (s : Hub) : (s.sendSig n os).fbr = s.fbr := by
  unfold Hub.sendSig
  split
  · exact Hub.count_fbr ..
  · simp only [apply_ite Hub.fbr, StoreFree.fbr.producePkt, Hub.count_fbr, ite_self]

/-- The inputs that wait and what each entry last fired on. -/
def Hub.mapView (s : Hub) : List MapIn × Tab Int := (s.fbr.ins, s.fbr.fired)

theorem Hub.mapView_congr {s t : Hub} (same : t.fbr = s.fbr) : t.mapView = s.mapView := by rw [Hub.mapView, same, Hub.mapView]

theorem Hub.mapView_canStart (c : Nat) (s : Hub) : (s.canStart c).mapView = s.mapView := by
  have touched (m : Nat) : (s.mbTouch c m).fbr = s.fbr := Hub.observed_foldl (φ := Hub.fbr) (fun t _ _ => MsgFree.fbr.eccTouch _ _ t) s
  unfold Hub.canStart
  split
  · rfl
  split
  · rfl
  next m _ =>
    dsimp only
    rw [Hub.mapView, Hub.setf_fbr, touched]
    rfl

theorem Hub.mapView_mbRelease (c m : Nat) (s : Hub) : (s.mbRelease c m).mapView = s.mapView := by
  unfold Hub.mbRelease
  split
  · refine (Hub.mapView_canStart c _).trans (Hub.mapView_congr ?_)
    rw [Hub.setReleased, Hub.setb_fbr, Hub.setf_fbr]
  · rfl

/-- The end of a pass: `left` inputs wait, `k` of them deferred; packets go out and mailboxes are released. -/
def MapPass.finish (left : List MapIn) (k : Nat) (P : MapPass) : Hub :=
  let s1 : Hub := { P.st with fbr := { P.st.fbr with ins := left } }
  let s2 := s1.count Cnt.FBR_CNT_MAP_DEFER k
  let s3 := (sigTunnels P.outs).foldl (fun t n => t.sendSig n (P.outs.filter (fun o => o.tunnel == n))) s2
  P.rel.foldl (fun t r => t.mbRelease r.1 r.2) s3

theorem MapPass.mapView_finish (left : List MapIn) (k : Nat) (P : MapPass) : (P.finish left k).mapView = (left, P.st.fbr.fired) := by
  unfold MapPass.finish
  refine (Hub.observed_foldl (φ := Hub.mapView) (fun t r _ => t.mapView_mbRelease r.1 r.2) _).trans ?_
  refine (Hub.observed_foldl (φ := Hub.mapView) (fun t n _ => Hub.mapView_congr (t.fbr_sendSig ..)) _).trans ?_
  exact Hub.mapView_congr (Hub.count_fbr ..)

/-! A pass (R331, R333 to R335). -/

/-- The hub 1 µs into the tick of a pass, before packets are taken. -/
def Hub.passStart (s : Hub) : Hub :=
  ({ s with fbr := { s.fbr with passed := some s.tick } } : Hub).advance (s.tick * tickNs + 1000)

theorem runs_signalMapPass_asleep (s : State) (asleep : s.hub.atL0 dFBR = false) : Runs .signalMapPass s (fun h => h = s.hub) :=
  runs_if rfl (Or.inl (by rw [asleep]; rfl)) rfl

section
variable {s : Hub} {x : MapIn} {i : Nat} {e : List Nat} {v : Int} (clean : s.rel.flips = []) (matched : sigMatches i (e.getD 0 0) x = true)
  (from' : x.next ≤ i) (value : sigUnpack (e.getD 0 0) x = some v) (every : bit (e.getD 0 0) 27 = false)
include clean matched from' value every

theorem mapEntries_one : mapEntries x [(i, e)] { st := s } = (({ st := s } : MapPass).fire x i e v, none) := by
  have tried : ({ st := s } : MapPass).try' x i e = ({ st := s } : MapPass).fire x i e v := by
    rw [MapPass.try', value]
    dsimp only
    rw [every, Bool.false_and, if_neg Bool.false_ne_true]
  rw [mapEntries, matched, Hub.entryBad_of_clean clean, decide_eq_false (Nat.not_lt.mpr from'), if_neg (by decide),
    if_neg (show ¬mapLimit ≤ 0 by decide), tried, mapEntries]

/-- One input that is due fires the one entry that matches it, and none is left over. -/
theorem exec_signalMapPass_one {s₀ : State} (awake : ¬(!s₀.hub.atL0 dFBR ∨ s₀.hub.fbr.passed = some s₀.hub.tick))
    (start : (s₀.hub.passStart.takeSigs.touchAll 9) = s) (one : s.fbr.ins = [x]) (map : s.fbr.sigMap = [(i, e)])
    (due : x.time / tickNs ≠ s.tick) :
    exec .signalMapPass s₀ = .next { s₀ with hub := (({ st := s } : MapPass).fire x i e v).finish [] 0 } := by
  have fired := mapEntries_one clean matched from' value every
  have now : [x].filter (fun x => decide (x.time / tickNs ≠ s.tick)) = [x] := by simp [due]
  have later : [x].filter (fun x => decide (x.time / tickNs = s.tick)) = [] := by simp [due]
  rw [Hub.passStart] at start
  change execSignalMapPass s₀ = _
  unfold execSignalMapPass State.on
  dsimp only
  rw [if_neg awake, start, one, map, now, later, List.foldl_cons, List.foldl_nil, insertIn, mapInputs, fired]
  rfl

end

/-- Entry `i` last fired on `v`. -/
def Hub.noteFired (i : Nat) (v : Int) (s : Hub) : Hub := { s with fbr := { s.fbr with fired := Tab.put i v s.fbr.fired } }

/-- The value an entry for a mailbox stores in its field of `len` bits, and whether it was clamped (R333). -/
def sigClamp (w1 len : Nat) (y : Int) : Int × Bool :=
  if bit w1 10 then clampTo (-(2 ^ (len - 1) : Nat)) ((2 ^ (len - 1) : Nat) - 1) y else clampTo 0 ((2 ^ len : Nat) - 1) y

/-- A clamped value `z` stored in a field of mailbox `m`, and the clamping counted (R333). -/
def Hub.storeField (c m start len : Nat) (big : Bool) (z : Int × Bool) (s : Hub) : Hub :=
  let stored := s.setMbData c m (packField (s.mbData c m) start len big (enc len z.1))
  if z.2 then stored.count Cnt.FBR_CNT_MAP_SAT 1 else stored

theorem Hub.fbr_storeField (c m start len : Nat) (big : Bool) (z : Int × Bool) (s : Hub) :
    (s.storeField c m start len big z).fbr = s.fbr := by
  simp only [Hub.storeField, apply_ite Hub.fbr, Hub.count_fbr, Hub.fbr_setMbData, ite_self]

/-- An unsigned value that its field holds is not clamped. -/
theorem sigClamp_fits {w1 len : Nat} {y : Int} (unsigned : bit w1 10 = false) (nonneg : 0 ≤ y) (small : y < (2 ^ len : Nat)) :
    sigClamp w1 len y = (y, false) := by
  rw [sigClamp, if_neg (by rw [unsigned]; decide), clampTo, if_neg (by omega), if_neg (by omega)]

theorem enc_of_fits {len : Nat} {y : Int} (nonneg : 0 ≤ y) (small : y < (2 ^ len : Nat)) : enc len y = y.toNat := by
  rw [enc, Int.emod_eq_of_lt nonneg small]

section
variable {s : Hub} {x : MapIn} {i : Nat} {e : List Nat} {v : Int}

/-- An entry for a tunnel makes one slot of its packet (R334). -/
theorem MapPass.fire_slot (tunnel : bit (e.getD 1 0) 11 = false) : ∃ o : SigOut, o.tunnel = bits (e.getD 3 0) 31 20 ∧
    ({ st := s } : MapPass).fire x i e v = { st := s.noteFired i v, count := 1, outs := [o] } := by
  unfold MapPass.fire
  dsimp only
  rw [if_neg (by rw [tunnel]; decide)]
  exact ⟨_, rfl, rfl⟩

/-- A mailbox field past the mailbox's bytes is counted only (R333). -/
theorem MapPass.fire_range (mailbox : bit (e.getD 1 0) 11 = true) (past : fieldFits (bits (e.getD 3 0) 23 15) (bits (e.getD 3 0) 14 10 + 1)
    (bit (e.getD 1 0) 9) (s.mbLen (bits (e.getD 3 0) 31 30) (bits (e.getD 3 0) 29 24)) = false) :
    ({ st := s } : MapPass).fire x i e v = { st := s.count Cnt.FBR_CNT_MAP_RANGE 1 } := by
  unfold MapPass.fire
  dsimp only
  rw [if_pos mailbox, if_pos (by rw [past]; rfl)]

/-- A field within its mailbox takes the value, and the mailbox may be released at the pass's end (R333). -/
theorem MapPass.fire_mailbox (mailbox : bit (e.getD 1 0) 11 = true) (fits : fieldFits (bits (e.getD 3 0) 23 15)
    (bits (e.getD 3 0) 14 10 + 1) (bit (e.getD 1 0) 9) (s.mbLen (bits (e.getD 3 0) 31 30) (bits (e.getD 3 0) 29 24)) ≠ false) :
    ({ st := s } : MapPass).fire x i e v = {
      st := (s.storeField (bits (e.getD 3 0) 31 30) (bits (e.getD 3 0) 29 24) (bits (e.getD 3 0) 23 15) (bits (e.getD 3 0) 14 10 + 1)
        (bit (e.getD 1 0) 9) (sigClamp (e.getD 1 0) (bits (e.getD 3 0) 14 10 + 1) (sigCompute (e.getD 1 0) (e.getD 2 0) v))).noteFired i v
      count := 1
      rel := if bit (e.getD 1 0) 8 then [(bits (e.getD 3 0) 31 30, bits (e.getD 3 0) 29 24)] else [] } := by
  unfold MapPass.fire
  dsimp only
  rw [if_pos mailbox, if_neg (by simpa using fits)]
  rfl

end

/-! The end of a pass. -/

theorem MapPass.finish_quiet (s : Hub) (n : Nat) : ({ st := s, count := n } : MapPass).finish [] 0 =
    ({ s with fbr := { s.fbr with ins := [] } } : Hub).count Cnt.FBR_CNT_MAP_DEFER 0 := rfl

theorem Hub.noteFired_keeps (i : Nat) (v : Int) (s : Hub) : (s.noteFired i v).regs = s.regs ∧ (s.noteFired i v).rel = s.rel := ⟨rfl, rfl⟩

theorem Hub.withIns_keeps (xs : List MapIn) (s : Hub) : ({ s with fbr := { s.fbr with ins := xs } } : Hub).regs = s.regs ∧
    ({ s with fbr := { s.fbr with ins := xs } } : Hub).rel = s.rel := ⟨rfl, rfl⟩

/-- A value stored within its range is what the mailbox holds after the pass. -/
theorem MapPass.mbData_finish {s : Hub} (clean : s.rel.flips = []) (c m start len n i : Nat) (big : Bool) (v : Int) {y : Int}
    (nonneg : 0 ≤ y) (small : y < (2 ^ len : Nat)) :
    (({ st := (s.storeField c m start len big (y, false)).noteFired i v, count := n } : MapPass).finish [] 0).mbData c m =
      packField (s.mbData c m) start len big y.toNat := by
  have stored : s.storeField c m start len big (y, false) = s.setMbData c m (packField (s.mbData c m) start len big (enc len y)) := by
    rw [Hub.storeField]
    dsimp only
    rw [if_neg Bool.false_ne_true]
  rw [MapPass.finish_quiet, stored, enc_of_fits nonneg small]
  obtain ⟨regs, rel⟩ := Hub.noteFired_keeps i v (s.setMbData c m (packField (s.mbData c m) start len big y.toNat))
  obtain ⟨regs', rel'⟩ := Hub.withIns_keeps [] ((s.setMbData c m (packField (s.mbData c m) start len big y.toNat)).noteFired i v)
  have kept := Hub.rel_setMbData c m clean (packField (s.mbData c m) start len big y.toNat)
  rw [Hub.mbData_congr c m (by rw [Hub.count_regs, regs', regs]) (by rw [Hub.count_rel, rel', rel, kept]) kept]
  exact Hub.mbData_setMbData c m clean ((length_packField ..).trans (s.length_mbData c m))

theorem MapPass.finish_slot (s : Hub) (n : Nat) (o : SigOut) : ({ st := s, count := n, outs := [o] } : MapPass).finish [] 0 =
    (({ s with fbr := { s.fbr with ins := [] } } : Hub).count Cnt.FBR_CNT_MAP_DEFER 0).sendSig o.tunnel [o] := by
  have own : [o].filter (fun p => p.tunnel == o.tunnel) = [o] := by simp
  have one : sigTunnels [o] = [o.tunnel] := rfl
  rw [MapPass.finish]
  dsimp only
  rw [one, List.foldl_cons, List.foldl_nil, own, List.foldl_nil]

/-- A slot for no tunnel is dropped and counted (R335). -/
theorem Hub.sendSig_none {s : Hub} {n : Nat} (none : Tab.get? n s.plan.tunnels = none) (os : List SigOut) :
    s.sendSig n os = s.count Cnt.FBR_CNT_SIG_DROP os.length := by
  rw [Hub.sendSig, none]
  rfl

theorem Hub.cnt_congr {s t : Hub} (same : t.cnts = s.cnts) (c : Nat) : t.cnt c = s.cnt c := by rw [Hub.cnt, same, Hub.cnt]

theorem Hub.takeSigs_none {s : Hub} (none : s.sigQueues = []) : s.takeSigs = s := by
  rw [Hub.takeSigs, none]
  rfl

theorem runs_signalMapPass (x : MapIn) (i : Nat) (e : List Nat) (v : Int) (s : State) (awake : s.hub.atL0 dFBR = true)
    (clean : s.hub.rel.flips = []) (unfed : s.hub.sigQueues = []) (map : s.hub.fbr.sigMap = [(i, e)]) (one : s.hub.fbr.ins = [x])
    (earlier : x.time / tickNs < s.hub.tick) (from' : x.next ≤ i) (matched : sigMatches i (e.getD 0 0) x = true)
    (first : s.hub.fbr.passed ≠ some s.hub.tick) (value : sigUnpack (e.getD 0 0) x = some v) (every : bit (e.getD 0 0) 27 = false) :
    Runs .signalMapPass s (fun h => h.fbr.ins = [] ∧
      let w1 := e.getD 1 0
      let w3 := e.getD 3 0
      let y := sigCompute w1 (e.getD 2 0) v
      let c := bits w3 31 30
      let m := bits w3 29 24
      let len := bits w3 14 10 + 1
      if bit w1 11 = false then Tab.get? i h.fbr.fired = some v ∧
        (Tab.get? (bits w3 31 20) s.hub.plan.tunnels = none → Counted s.hub h Cnt.FBR_CNT_SIG_DROP 1)
      else if fieldFits (bits w3 23 15) len (bit w1 9) (s.hub.mbLen c m) = false then
        Counted s.hub h Cnt.FBR_CNT_MAP_RANGE 1 ∧ h.regs = s.hub.regs
      else Tab.get? i h.fbr.fired = some v ∧ (bit w1 8 = false → bit w1 10 = false → 0 ≤ y → y < (2 ^ len : Nat) →
        h.mbData c m = packField (s.hub.mbData c m) (bits w3 23 15) len (bit w1 9) y.toNat)) := by
  let s0 := s.hub.passStart
  have tick : s0.tick = s.hub.tick :=
    Hub.tick_advance_pass ({ s.hub with fbr := { s.hub.fbr with passed := some s.hub.tick } } : Hub)
  have clean0 : s0.rel.flips = [] := (congrArg Rel.flips (Hub.advance_rel ..)).trans clean
  have fbr : s0.fbr = { s.hub.fbr with passed := some s.hub.tick } := Hub.advance_fbr ..
  have regs : s0.regs = s.hub.regs := Hub.advance_regs ..
  have cnts : s0.cnts = s.hub.cnts := Hub.advance_cnts ..
  have plan : s0.plan = s.hub.plan := Hub.advance_plan ..
  have start : s0.takeSigs.touchAll 9 = s0 := by
    have pool : s0.pool = s.hub.pool := Hub.advance_pool ..
    rw [Hub.takeSigs_none (by rw [Hub.sigQueues, pool]; exact unfed), Hub.touchAll_of_clean clean0]
  have does := exec_signalMapPass_one clean0 matched from' value every (s₀ := s) (by rw [awake]; simpa using first) start
    (by rw [fbr]; exact one) (by rw [fbr]; exact map) (by omega)
  have view := MapPass.mapView_finish [] 0 (({ st := s0 } : MapPass).fire x i e v)
  rw [Hub.mapView, Prod.mk.injEq] at view
  obtain ⟨ins, fired⟩ := view
  refine ⟨_, does, ins, ?_⟩
  have len (c m : Nat) : s.hub.mbLen c m = s0.mbLen c m := by
    rw [Hub.mbLen, Hub.mbLen, Hub.flag, Hub.flag, Hub.getf_congr regs, Hub.getf_congr regs]
  dsimp only
  rw [fired, len]
  by_cases tunnel : bit (e.getD 1 0) 11 = false
  · rw [if_pos tunnel]
    obtain ⟨o, at', fire⟩ := MapPass.fire_slot (s := s0) (x := x) (i := i) (v := v) tunnel
    rw [fire]
    refine ⟨Tab.get?_put_self .., fun unknown => ?_⟩
    rw [MapPass.finish_slot, at', Hub.sendSig_none (by rw [Hub.count_plan]; rw [← plan] at unknown; exact unknown), Counted,
      List.length_singleton, Hub.cnt_count_self _ _ (by decide), Hub.cnt_count_ne _ (by decide)]
    exact congrArg (fun c => CntV.add c 1) (Hub.cnt_congr (by rw [← cnts]; rfl) _)
  rw [if_neg tunnel]
  rw [Bool.not_eq_false] at tunnel
  by_cases past : fieldFits (bits (e.getD 3 0) 23 15) (bits (e.getD 3 0) 14 10 + 1) (bit (e.getD 1 0) 9)
      (s0.mbLen (bits (e.getD 3 0) 31 30) (bits (e.getD 3 0) 29 24)) = false
  · rw [if_pos past, MapPass.fire_range tunnel past, MapPass.finish_quiet, Counted, Hub.cnt_count_ne _ (by decide), Hub.count_regs]
    refine ⟨?_, (Hub.count_regs ..).trans regs⟩
    exact (Hub.cnt_count_self s0 _ (by decide)).trans (congrArg (fun c => CntV.add c 1) (Hub.cnt_congr cnts _))
  rw [if_neg past, MapPass.fire_mailbox tunnel past]
  refine ⟨?_, fun held unsigned nonneg small => ?_⟩
  · rw [Hub.noteFired, Hub.fbr_storeField]
    exact Tab.get?_put_self ..
  · rw [if_neg (by rw [held]; decide), sigClamp_fits unsigned nonneg small]
    rw [← Hub.mbData_congr _ _ regs clean0 clean]
    exact MapPass.mbData_finish clean0 _ _ _ _ _ _ _ _ nonneg small

/-- Settles O35, command by command: the router, and the map's entries and passes. -/
theorem signalsAreCapturedAndMapped : Obligations.SignalsAreCapturedAndMapped := by
  unfold Obligations.SignalsAreCapturedAndMapped
  exact ⟨runs_captureRoute_empty, runs_captureRoute, runs_signalMapHold, runs_signalMapCommit, runs_signalMapPass_asleep,
    runs_signalMapPass⟩

end Sys2Proof.Machine
end

section
/-! PROOFS. The cell pool counts in its own counters only (R158 to R170, R438). -/

namespace Sys2Proof.Machine

variable {α : Type} {φ : Hub → α}

/-- `φ` shows nothing that a cell stored or freed may change: of the counters, at most some from block LTM on that no queue counts in. -/
structure PoolFree (φ : Hub → α) : Prop where
  count : ∀ {c : Nat}, c < 0x050000 ∨ 0x100000000 ≤ c → ∀ (n : Nat) (s : Hub), φ (s.count c n) = φ s
  raise : ∀ (e : EvDef) (xs : List Nat) (s : Hub), φ (s.raise e xs) = φ s
  limited : ∀ (e : EvDef) (i : Nat) (xs : List Nat) (s : Hub), φ (s.raiseLimited e i xs) = φ s
  genLow : ∀ (v : Nat) (s : Hub), φ (s.setf Fld.CPL_GEN_LOW v) = φ s
  pool : ∀ (x : Pool) (s : Hub), φ { s with pool := x } = φ s
  rel : ∀ (x : Rel) (s : Hub), φ { s with rel := x } = φ s
  lineMem : ∀ (x : List Host.Cell) (s : Hub), φ { s with lineMem := x } = φ s
  fresh : ∀ (x : Nat) (s : Hub), φ { s with fresh := x } = φ s

/-- A counter from block LTM on that no queue counts in. -/
theorem PoolFree.cnt {c : Nat} (past : 0x050000 ≤ c) (below : c < 0x100000000) : PoolFree (fun s : Hub => s.cnt c) where
  count other n s := s.cnt_count_ne (by omega) n
  raise e xs s := Hub.cnt_raise (by unfold Cnt.GEN_EVT_LOST; omega) e xs s
  limited e i xs s := Hub.cnt_raiseLimited (by unfold Cnt.GEN_EVT_LOST; omega) e i xs s
  genLow v s := by rw [Hub.cnt, Hub.setf_cnts, Hub.cnt]
  pool _ _ := rfl
  rel _ _ := rfl
  lineMem _ _ := rfl
  fresh _ _ := rfl

namespace PoolFree
variable (free : PoolFree φ)
include free

theorem countPool {c : Nat} (own : c < 0x050000) (s : Hub) : φ (s.count c 1) = φ s := free.count (Or.inl own) 1 s

theorem countDrops (q : Nat) (s : Hub) : φ (s.count (Cnt.CPL_QSTAT_DROPS q) 1) = φ s :=
  free.count (Or.inr (by unfold Cnt.CPL_QSTAT_DROPS; omega)) 1 s

theorem setQueue (q : Nat) (Q : Queue) (s : Hub) : φ (s.setQueue q Q) = φ s := free.pool _ s

theorem claimCheck (s : Hub) : φ s.claimCheck = φ s := by
  unfold Hub.claimCheck
  split
  · rfl
  · simp only [apply_ite φ, free.raise, free.pool, ite_self]

theorem popPkt (q : Nat) (s : Hub) : φ (s.popPkt q) = φ s := by rw [Hub.popPkt, free.claimCheck, free.setQueue]

theorem setOverrun (q : Nat) (s : Hub) : φ (s.setOverrun q) = φ s := by
  simp only [Hub.setOverrun, apply_ite φ, free.raise, free.setQueue, ite_self]

theorem refuseCell (q : Nat) (c : PCell) (cause : Nat) (s : Hub) : φ (s.refuseCell q c cause) = φ s := by
  have control (t : Hub) : φ (t.count Cnt.CPL_CNT_CONTROL_DROP 1) = φ t := free.countPool (by decide) t
  have stream (t : Hub) : φ (t.count Cnt.CPL_CNT_STREAM_DROP 1) = φ t := free.countPool (by decide) t
  simp only [Hub.refuseCell, Hub.gapLoss, apply_ite φ, free.countDrops, control, stream, free.setOverrun, free.setQueue, free.claimCheck,
    ite_self]

theorem poolWatch (was : Int) (s : Hub) : φ (s.poolWatch was) = φ s := by
  simp only [Hub.poolWatch, apply_ite φ, free.limited, free.genLow, ite_self]

theorem memStoreEcc (a : Nat) (bs : List Byte) (s : Hub) : φ (s.memStoreEcc a bs) = φ s := by
  refine (Hub.observed_foldl (fun t w _ => ?_) _).trans (free.lineMem _ s)
  split
  · exact free.rel _ t
  · rfl

theorem linkCell {q : Nat} {c : PCell} {s t : Hub} (linked : s.linkCell q c = some t) : φ t = φ s := by
  obtain ⟨⟨i, s1⟩, taken, rfl⟩ := Option.map_eq_some_iff.mp linked
  obtain ⟨_, _, same⟩ := Option.map_eq_some_iff.mp taken
  cases same
  rw [free.poolWatch, free.setQueue, free.memStoreEcc, free.fresh]

theorem placeCell (q : Nat) (c : PCell) (s : Hub) : φ (s.placeCell q c) = φ s := by
  unfold Hub.placeCell
  split
  · exact free.refuseCell ..
  · exact (free.refuseCell ..).trans (free.countPool (by decide) s)
  · split
    next linked => exact free.linkCell linked
    next => exact (free.refuseCell ..).trans (free.countPool (by decide) s)

theorem storeMarker (q : Nat) (c : PCell) (s : Hub) : φ (s.storeMarker q c) = φ s := by
  unfold Hub.storeMarker
  dsimp only
  split
  · exact free.setQueue ..
  · exact (free.setQueue ..).trans (free.countPool (by decide) s)
  · split
    next => exact (free.setQueue ..).trans (free.countPool (by decide) s)
    next linked => exact (free.setQueue ..).trans (free.linkCell linked)

theorem writeMarker (q : Nat) (s : Hub) : φ (s.writeMarker q) = φ s := by
  unfold Hub.writeMarker
  dsimp only
  split
  · rfl
  split
  · rfl
  · exact free.countPool (by decide) s
  · split
    next => exact free.countPool (by decide) s
    next linked => rw [free.countPool (by decide), free.setQueue, free.linkCell linked, free.setQueue]

theorem startCell (q : Nat) (c : PCell) (s : Hub) : φ (s.startCell q c) = φ s := by
  have control (t : Hub) : φ (t.count Cnt.CPL_CNT_CONTROL_DROP 1) = φ t := free.countPool (by decide) t
  simp only [Hub.startCell, apply_ite φ, free.countDrops, control, free.setQueue, free.placeCell, free.storeMarker, free.writeMarker,
    ite_self]

theorem moreCell (q : Nat) (c : PCell) (s : Hub) : φ (s.moreCell q c) = φ s := by
  simp only [Hub.moreCell, apply_ite φ, free.countPool (c := Cnt.CPL_CNT_OVERSIZE) (by decide), free.claimCheck, free.setQueue,
    free.placeCell, ite_self]

theorem frameCell (q : Nat) (c : PCell) (s : Hub) : φ (s.frameCell q c) = φ s := by
  have resync (t : Hub) : φ (t.count Cnt.CPL_CNT_RESYNC 1) = φ t := free.countPool (by decide) t
  unfold Hub.frameCell
  dsimp only
  split
  · simp only [free.startCell, apply_ite φ, resync, free.claimCheck, free.setQueue, ite_self]
  split
  · rfl
  · simp only [apply_ite φ, free.setQueue, ite_self]
  · simp only [apply_ite φ, free.moreCell, resync, free.setQueue, ite_self]

theorem disabledCell (q : Nat) (c : PCell) (s : Hub) : φ (s.disabledCell q c) = φ s := by
  unfold Hub.disabledCell
  dsimp only
  split
  · exact (free.countPool (c := Cnt.CPL_CNT_DISABLED) (by decide) _).trans (free.setQueue ..)
  split
  · exact free.countPool (by decide) s
  · simp only [apply_ite φ, free.setQueue, ite_self]
  · rfl

theorem produce (q : Nat) (w : Who) (c : PCell) (s : Hub) : φ (s.produce q w c) = φ s := by
  have unbound (t : Hub) : φ (t.count Cnt.CPL_CNT_BINDING 1) = φ t := free.countPool (by decide) t
  unfold Hub.produce
  split
  · exact free.disabledCell ..
  split
  · simp only [apply_ite φ, free.frameCell, unbound, ite_self]
  split <;> simp only [apply_ite φ, free.frameCell, unbound, free.setQueue, ite_self]

end PoolFree

end Sys2Proof.Machine
end

section
/-! PROOFS. A frame leaves a port (R248, R257, R260, R265 to R267). -/

namespace Sys2Proof.Machine

theorem StoreFree.net : StoreFree Hub.net where
  cnts _ _ := rfl
  ev _ _ := rfl
  lastRaise _ _ := rfl
  fresh _ _ := rfl
  lineMem _ _ := rfl
  pool _ _ := rfl
  rel _ _ := rfl
  overrun s v := s.setf_net _ v
  genLow s v := s.setf_net _ v

/-! A port's record, and the timestamps a frame leaves (R265). -/

theorem Hub.eport_setEport_self (s : Hub) (p : Nat) (P : NetPort) : (s.setEport p P).eport p = P := Tab.getD_put_self ..

theorem Hub.setEport_keeps (s : Hub) (p : Nat) (P : NetPort) : (s.setEport p P).out = s.out ∧ (s.setEport p P).time = s.time ∧
    (s.setEport p P).cnts = s.cnts ∧ (s.setEport p P).regs = s.regs ∧ (s.setEport p P).plan = s.plan ∧ (s.setEport p P).rel = s.rel ∧
    (s.setEport p P).now = s.now ∧ (s.setEport p P).pool = s.pool ∧ (s.setEport p P).lineMem = s.lineMem :=
  ⟨rfl, rfl, rfl, rfl, rfl, rfl, rfl, rfl, rfl⟩

theorem StoreFree.stamp {α : Type} {φ : Hub → α} (free : StoreFree φ) (p : Nat) (tx oneStep : Bool) (a : PtpAt) (ts : Nat) (f : List Byte)
    (s : Hub) : φ (s.stamp p tx oneStep a ts f) = φ s := by
  simp only [Hub.stamp, apply_ite φ, free.produce, free.count, ite_self]

theorem Hub.cnt_stamp {c : Nat} (past : 0x050000 ≤ c) (below : c < 0x100000000) {p : Nat} (drop : c ≠ Cnt.NET_CNT_TS_DROP p)
    (tx oneStep : Bool) (a : PtpAt) (ts : Nat) (f : List Byte) (s : Hub) : (s.stamp p tx oneStep a ts f).cnt c = s.cnt c := by
  simp only [Hub.stamp, apply_ite (fun t : Hub => t.cnt c), (PoolFree.cnt past below).produce, Hub.cnt_count_ne _ drop, ite_self]

/-- What a port's transmit timestamps leave: all of its record but the stamps themselves. -/
def NetPort.unstamped (P : NetPort) : NetPort := { P with syncStamp := 0, respStamp := 0 }

/-- The transmit timestamp of frame `g`, an event message where `a` is some, goes out and is kept for its follow-up (R265, R268). -/
def Hub.stampSent (p ts : Nat) (one : Bool) (g : List Byte) (a : Option PtpAt) (s : Hub) : Hub :=
  match a with
  | none => s
  | some a =>
    let s3 := s.stamp p true one a ts g
    let kind := bits (byteAt g a.off) 3 0
    if kind = 0 then s3.setEport p { s3.eport p with syncStamp := ts }
    else if kind = 3 then s3.setEport p { s3.eport p with respStamp := ts }
    else s3

section
variable (p ts : Nat) (one : Bool) (g : List Byte) (a : Option PtpAt) (s : Hub)

theorem Hub.stampSent_keeps : (s.stampSent p ts one g a).out = s.out ∧ (s.stampSent p ts one g a).time = s.time ∧
    ((s.stampSent p ts one g a).eport p).unstamped = (s.eport p).unstamped := by
  unfold Hub.stampSent
  split
  · exact ⟨rfl, rfl, rfl⟩
  next a =>
    have out : (s.stamp p true one a ts g).out = s.out := StoreFree.out.stamp ..
    have time : (s.stamp p true one a ts g).time = s.time := StoreFree.time.stamp ..
    have port : (s.stamp p true one a ts g).eport p = s.eport p :=
      congrArg (fun n : Net => Tab.getD n.ports p {}) (StoreFree.net.stamp p true one a ts g s)
    dsimp only
    split
    · rw [Hub.eport_setEport_self, port]
      exact ⟨out, time, rfl⟩
    split
    · rw [Hub.eport_setEport_self, port]
      exact ⟨out, time, rfl⟩
    · rw [port]
      exact ⟨out, time, rfl⟩

theorem Hub.cnt_stampSent {c : Nat} (past : 0x050000 ≤ c) (below : c < 0x100000000) (drop : c ≠ Cnt.NET_CNT_TS_DROP p) :
    (s.stampSent p ts one g a).cnt c = s.cnt c := by
  unfold Hub.stampSent
  split
  · rfl
  · have stamped := Hub.cnt_stamp past below drop true one ‹_› ts g s
    dsimp only
    split
    · exact stamped
    split <;> exact stamped

end

/-! A frame sent (R260). -/

theorem Hub.spanTouch_of_clean {s : Hub} (clean : s.rel.flips = []) (mem lo hi : Nat) : s.spanTouch mem lo hi = s := by
  rw [Hub.spanTouch, Hub.flipWords_of_clean clean]
  rfl

theorem Hub.spanEnd_of_clean {s : Hub} (clean : s.rel.flips = []) (mem lo hi : Nat) : s.spanEnd mem lo hi = s := by
  rw [Hub.spanEnd, clean, List.filter_nil, ← clean]

theorem Hub.fifoPass_of_clean {s : Hub} (clean : s.rel.flips = []) (w : Nat) : s.fifoPass w = s := by
  rw [Hub.fifoPass, Hub.spanTouch_of_clean clean, Hub.spanEnd_of_clean clean]

/-- Frame `g` on the wire of port `p` from line time `t`, before its timestamp. -/
def Hub.sent (p t : Nat) (g : List Byte) (s : Hub) : Hub :=
  let s1 := ((s.emit (.ethFrame p t (g ++ fcsOf g))).count (Cnt.NET_CNT_TX_FRAMES p) 1).count (Cnt.NET_CNT_TX_BYTES p) (g.length + 4)
  s1.setEport p { s1.eport p with busy := t + s.wireNs p g.length }

section
variable {s : Hub} (clean : s.rel.flips = []) (p q t ts : Nat) (f : List Byte)

theorem Hub.sent_shows (g : List Byte) : (s.sent p t g).out = .ethFrame p t (g ++ fcsOf g) :: s.out ∧ (s.sent p t g).time = s.time ∧
    (s.sent p t g).eport p = { s.eport p with busy := t + s.wireNs p g.length } := by
  let u := ((s.emit (.ethFrame p t (g ++ fcsOf g))).count (Cnt.NET_CNT_TX_FRAMES p) 1).count (Cnt.NET_CNT_TX_BYTES p) (g.length + 4)
  have net : u.net = s.net := (Hub.count_net ..).trans (Hub.count_net ..)
  have port : u.eport p = s.eport p := congrArg (fun n : Net => Tab.getD n.ports p {}) net
  have out : u.out = .ethFrame p t (g ++ fcsOf g) :: s.out := (Hub.count_out ..).trans (Hub.count_out ..)
  have time : u.time = s.time := (Hub.count_time ..).trans (Hub.count_time ..)
  obtain ⟨out', time', -⟩ := u.setEport_keeps p { u.eport p with busy := t + s.wireNs p g.length }
  rw [Hub.sent, Hub.eport_setEport_self]
  exact ⟨out'.trans out, time'.trans time, by rw [port]⟩

theorem Hub.counted_sent (g : List Byte) : Counted s (s.sent p t g) (Cnt.NET_CNT_TX_FRAMES p) 1 := by
  have apart : Cnt.NET_CNT_TX_FRAMES p ≠ Cnt.NET_CNT_TX_BYTES p := by unfold Cnt.NET_CNT_TX_FRAMES Cnt.NET_CNT_TX_BYTES; omega
  exact (Hub.cnt_count_ne _ apart _).trans (Hub.cnt_count_self _ _ (by decide))

include clean

theorem Hub.sendFrame_of_clean : let d := s.dressFrame p q ts f
    s.sendFrame p q t ts f = (s.sent p t d.1).stampSent p ts d.2 d.1 (s.portEvent p d.1) := by
  unfold Hub.sendFrame
  dsimp only
  rw [Hub.spanBad_of_clean clean, if_neg Bool.false_ne_true, Hub.fifoPass_of_clean clean]
  rfl

theorem Hub.sendFrame_shows : let g := (s.dressFrame p q ts f).1
    let h := s.sendFrame p q t ts f
    h.out = .ethFrame p t (g ++ fcsOf g) :: s.out ∧ h.time = s.time ∧
    (h.eport p).unstamped = { (s.eport p).unstamped with busy := t + s.wireNs p g.length } := by
  dsimp only
  rw [Hub.sendFrame_of_clean clean]
  obtain ⟨out, time, port⟩ := (s.sent p t (s.dressFrame p q ts f).1).stampSent_keeps p ts (s.dressFrame p q ts f).2
    (s.dressFrame p q ts f).1 (s.portEvent p (s.dressFrame p q ts f).1)
  obtain ⟨out', time', port'⟩ := Hub.sent_shows (s := s) p t (s.dressFrame p q ts f).1
  rw [out, time, port, port']
  exact ⟨out', time', rfl⟩

theorem Hub.counted_sendFrame (small : p < 4) : Counted s (s.sendFrame p q t ts f) (Cnt.NET_CNT_TX_FRAMES p) 1 := by
  rw [Hub.sendFrame_of_clean clean]
  refine (Hub.cnt_stampSent _ _ _ _ _ _ ?_ ?_ ?_).trans (Hub.counted_sent ..)
  all_goals
    simp only [Cnt.NET_CNT_TX_FRAMES, Cnt.NET_CNT_TS_DROP]
    omega

end

end Sys2Proof.Machine
end

section
/-! PROOFS. Frames leave by class, release, template or PTP role, and the link changes state (R198, R247, R257, R260, R261, R268, R272). -/

namespace Sys2Proof.Machine

/-! What a port's gates show (R262). -/

section
variable (p : Nat) (s : Hub)

theorem Hub.getf_gatesNow {f : Fl} (apart : f.key ≠ (Fld.NET_GL_STATUS_CURRENT p).key) : (s.gatesNow p).getf f = s.getf f := by
  unfold Hub.gatesNow
  dsimp only
  split
  · rfl
  · exact Hub.getf_setf_ne _ apart _

/-- The gates shown change a port's place in its list only. -/
theorem Hub.gatesNow_port : ((s.gatesNow p).eport p).busy = (s.eport p).busy ∧ ((s.gatesNow p).eport p).oper = (s.eport p).oper := by
  unfold Hub.gatesNow
  dsimp only
  split
  · exact ⟨rfl, rfl⟩
  · rw [Hub.eport, Hub.setf_net, ← Hub.eport, Hub.eport_setEport_self]
    exact ⟨rfl, rfl⟩

/-- What the gates shown leave as it was. -/
theorem Hub.gatesNow_keeps : (s.gatesNow p).now = s.now ∧ (s.gatesNow p).out = s.out ∧ (s.gatesNow p).cnts = s.cnts ∧
    (s.gatesNow p).pool = s.pool ∧ (s.gatesNow p).rel = s.rel ∧ (s.gatesNow p).plan = s.plan ∧ (s.gatesNow p).time = s.time ∧
    (s.gatesNow p).lineMem = s.lineMem := by
  unfold Hub.gatesNow
  dsimp only
  split
  · exact ⟨rfl, rfl, rfl, rfl, rfl, rfl, rfl, rfl⟩
  · simp only [Hub.setf_now, Hub.setf_out, Hub.setf_cnts, Hub.setf_pool, Hub.setf_rel, Hub.setf_plan, Hub.setf_time, Hub.setf_lineMem]
    exact ⟨rfl, rfl, rfl, rfl, rfl, rfl, rfl, rfl⟩

end

/-- The fields that say whether and how port `p` sends. -/
def portFields (p : Nat) : List Fl :=
  [Fld.NET_PORT_CFG_EN p, Fld.NET_PORT_EGQ_EN p, Fld.NET_PORT_STATUS_LINK p, Fld.NET_PORT_EGQ_BASE p, Fld.NET_PORT_TCSHP_VALID p 7,
    Fld.NET_PORT_CFG_MTU p, Fld.NET_PORT_STATUS_SPEED p, Fld.NET_GL_STATUS_ACTIVE p, Fld.NET_PORT_TSADJ p,
    Fld.PWR_DOM_STATUS_STATE dETH, Fld.PWR_DOM_STATUS_STEP dETH]

/-- The fields that say how a frame is dressed at port `p` (R264 to R267). -/
def dressFields (p : Nat) : List Fl :=
  [Fld.NET_PTP_CFG_TS_EN p, Fld.NET_PTP_CFG_ENC_L2 p, Fld.NET_PTP_CFG_ENC_UDP4 p, Fld.NET_PTP_CFG_ENC_UDP6 p,
    Fld.NET_PTP_CFG_ONE_STEP p, Fld.LTM_ORIGIN_SEC_HI, Fld.LTM_ORIGIN_SEC_LO, Fld.LTM_ORIGIN_NS_NS]

theorem portFields_apart (p : Fin 4) : ∀ f ∈ portFields p ++ dressFields p ++
    (List.range 8).map (fun c => Fld.CPL_QCFG_EN c), f.key ≠ (Fld.NET_GL_STATUS_CURRENT p).key := by
  revert p
  decide

/-! What a port reads of the registers. -/

section
variable {s u : Hub} {p : Nat}

theorem Hub.flag_congr {f : Fl} (same : u.getf f = s.getf f) : u.flag f = s.flag f := by rw [Hub.flag, same, Hub.flag]

theorem Hub.portEvent_congr (same : ∀ f ∈ dressFields p, u.getf f = s.getf f) (f : List Byte) : u.portEvent p f = s.portEvent p f := by
  have flag {g : Fl} (m : g ∈ dressFields p) : u.flag g = s.flag g := Hub.flag_congr (same g m)
  rw [Hub.portEvent, flag (by simp [dressFields]), flag (by simp [dressFields]), flag (by simp [dressFields]),
    flag (by simp [dressFields]), ← Hub.portEvent]

/-- A frame is dressed by its tunnel and by the port's PTP settings. -/
theorem Hub.dressFrame_congr (plan : u.plan = s.plan) (same : ∀ f ∈ dressFields p, u.getf f = s.getf f) (q ts : Nat) (f : List Byte) :
    u.dressFrame p q ts f = s.dressFrame p q ts f := by
  have event (g : List Byte) := Hub.portEvent_congr same g
  have oneStep : u.flag (Fld.NET_PTP_CFG_ONE_STEP p) = s.flag (Fld.NET_PTP_CFG_ONE_STEP p) :=
    Hub.flag_congr (same _ (by simp [dressFields]))
  have origin : u.originNs = s.originNs := by
    rw [Hub.originNs, same _ (by simp [dressFields]), same _ (by simp [dressFields]), same _ (by simp [dressFields]), ← Hub.originNs]
  have tunnel : u.tunOf 1 q = s.tunOf 1 q := by rw [Hub.tunOf, plan, Hub.tunOf]
  have tag : u.leaveTag q f = s.leaveTag q f := by rw [Hub.leaveTag, tunnel, ← Hub.leaveTag]
  have write (a : PtpAt) (g : List Byte) : u.writeOneStep a ts g = s.writeOneStep a ts g := by
    rw [Hub.writeOneStep, Hub.mapped, origin, ← Hub.mapped, ← Hub.writeOneStep]
  unfold Hub.dressFrame
  dsimp only
  simp only [tunnel, tag, event, oneStep, write]

theorem Hub.wireNs_congr (speed : u.getf (Fld.NET_PORT_STATUS_SPEED p) = s.getf (Fld.NET_PORT_STATUS_SPEED p)) (n : Nat) :
    u.wireNs p n = s.wireNs p n := by
  rw [Hub.wireNs, Hub.eRate, speed, ← Hub.eRate, ← Hub.wireNs]

theorem Hub.adjStamp_congr (adj : u.getf (Fld.NET_PORT_TSADJ p) = s.getf (Fld.NET_PORT_TSADJ p)) (ts : Nat) :
    u.adjStamp p ts = s.adjStamp p ts := by
  rw [Hub.adjStamp, adj, ← Hub.adjStamp]

/-- Port `p` may start a frame now (R260). -/
def Hub.portReady (p : Nat) (s : Hub) : Bool :=
  s.flag (Fld.NET_PORT_CFG_EN p) && s.flag (Fld.NET_PORT_EGQ_EN p) && s.flag (Fld.NET_PORT_STATUS_LINK p)
    && decide ((s.eport p).busy ≤ s.now) && !s.offAsleep 0x060000

theorem Hub.offAsleep_congr (same : ∀ f ∈ portFields p, u.getf f = s.getf f) : u.offAsleep 0x060000 = s.offAsleep 0x060000 := by
  have asleep (h : Hub) : h.offAsleep 0x060000 = (dETH != dSVC && !h.atL0 dETH) := rfl
  rw [asleep, asleep, Hub.atL0, Hub.domStep, Hub.domState, same _ (by simp [portFields]), same _ (by simp [portFields]), ← Hub.domStep,
    ← Hub.domState, ← Hub.atL0]

end

/-! A port that may start a frame (R260). -/

/-- The hub when port `p` could start a frame at line time `t`. -/
def Hub.startPoint (p t : Nat) (s : Hub) : Hub := (s.advance t).gatesNow p

section
variable (p : Fin 4) (t : Nat) (s : Hub)

theorem Hub.getf_startPoint {f : Fl} (m : f ∈ portFields p ++ dressFields p) : (s.startPoint p t).getf f = s.getf f :=
  (Hub.getf_gatesNow _ _ (portFields_apart p f (List.mem_append_left _ m))).trans (s.getf_advance t f)

theorem Hub.qEnabled_startPoint (q : Nat) : (s.startPoint p t).qEnabled q = s.qEnabled q :=
  (Hub.flag_congr (Hub.getf_gatesNow _ _ (by simp only [Fld.CPL_QCFG_EN, Fld.NET_GL_STATUS_CURRENT]; omega))).trans (s.flag_advance t _)

theorem Hub.startPoint_port : ((s.startPoint p t).eport p).busy = (s.eport p).busy ∧
    ((s.startPoint p t).eport p).oper = (s.eport p).oper := by
  have port : (s.advance t).eport p = s.eport p := by rw [Hub.eport, Hub.advance_net, Hub.eport]
  obtain ⟨busy, oper⟩ := Hub.gatesNow_port p (s.advance t)
  rw [port] at busy oper
  exact ⟨busy, oper⟩

theorem Hub.startPoint_keeps : (s.startPoint p t).now = max s.now t ∧ (s.startPoint p t).out = s.out ∧
    (s.startPoint p t).cnts = s.cnts ∧ (s.startPoint p t).pool = s.pool ∧ (s.startPoint p t).rel = s.rel ∧
    (s.startPoint p t).plan = s.plan ∧ (s.startPoint p t).time = s.time ∧ (s.startPoint p t).lineMem = s.lineMem := by
  have kept := Hub.gatesNow_keeps p (s.advance t)
  rwa [Hub.advance_now, Hub.advance_out, Hub.advance_cnts, Hub.advance_pool, Hub.advance_rel, Hub.advance_plan, Hub.advance_time,
    Hub.advance_lineMem] at kept

theorem Hub.portReady_startPoint : (s.startPoint p t).portReady p = (s.flag (Fld.NET_PORT_CFG_EN p) && s.flag (Fld.NET_PORT_EGQ_EN p)
    && s.flag (Fld.NET_PORT_STATUS_LINK p) && decide ((s.eport p).busy ≤ max s.now t) && !s.offAsleep 0x060000) := by
  have same (f : Fl) (m : f ∈ portFields p) : (s.startPoint p t).getf f = s.getf f := s.getf_startPoint p t (List.mem_append_left _ m)
  have flag {f : Fl} (m : f ∈ portFields p) : (s.startPoint p t).flag f = s.flag f := Hub.flag_congr (same f m)
  rw [Hub.portReady, flag (by simp [portFields]), flag (by simp [portFields]), flag (by simp [portFields]),
    Hub.offAsleep_congr same, (s.startPoint_port p t).1, (s.startPoint_keeps p t).1]

end

theorem runs_ethTransmitStart_idle (p : Fin 4) (t ts : Nat) (s : State) (idle : s.hub.flag (Fld.NET_PORT_CFG_EN p) = false ∨
    s.hub.flag (Fld.NET_PORT_EGQ_EN p) = false ∨ s.hub.flag (Fld.NET_PORT_STATUS_LINK p) = false ∨
    max s.hub.now t < (s.hub.eport p).busy ∨ s.hub.offAsleep 0x060000 = true) :
    Runs (.ethTransmitStart p t ts) s (fun h => h = (s.hub.advance t).gatesNow p) := by
  refine runs_if_not (p := (s.hub.startPoint p t).portReady p = true) rfl ?_ rfl
  rw [Hub.portReady_startPoint, Bool.not_eq_true]
  rcases idle with off | off | off | busy | asleep
  · simp [off]
  · simp [off]
  · simp [off]
  · rw [decide_eq_false (Nat.not_le.mpr busy), Bool.and_false, Bool.false_and]
  · simp [asleep]

/-! The search for a frame (R260). -/

section
variable {s : Hub} {p c : Nat}

theorem Hub.windows_ungated (open' : s.gated p = false) : s.windowLeft p c = none ∧ s.windowMax p c = none := by
  rw [Hub.windowLeft, Hub.windowMax, open']
  exact ⟨rfl, rfl⟩

theorem Hub.guardHolds_none (none : s.time.launches = []) (wire : Nat) : s.guardHolds p wire = false := by
  rw [Hub.guardHolds, Hub.launchT, none]
  rfl

/-- Without gates, shaper and launches a sound frame that fits the port is sent. -/
theorem Hub.pick_send {k : List QCell} (gap : pktGap k = false) (sound : pktPoison k = false) (open' : s.gated p = false)
    (shaper : s.flag (Fld.NET_PORT_TCSHP_VALID p c) = false) (none : s.time.launches = [])
    (fits : (s.pktBytes k).length ≤ s.getf (Fld.NET_PORT_CFG_MTU p) - 4) : s.pick p c (some k) = .send k := by
  obtain ⟨left, most⟩ := Hub.windows_ungated (c := c) open'
  rw [Hub.pick, gap, sound, left, most, shaper, Hub.guardHolds_none none, if_neg (by decide), if_neg (Nat.not_lt.mpr fits)]
  rfl

/-- The search sends the first frame it finds. -/
theorem Hub.egress_send {ts n q : Nat} {k : List QCell} {u : Hub} (at' : q = s.getf (Fld.NET_PORT_EGQ_BASE p) + c)
    (read : s.readHead q = (some k, u)) (picked : u.pick p c (some k) = .send k)
    (shaper : u.flag (Fld.NET_PORT_TCSHP_VALID p c) = false) :
    Hub.egress p ts (n + 1) c s = (u.popPkt q).sendFrame p q u.now ts (u.pktBytes k) := by
  subst at'
  rw [Hub.egress, read]
  dsimp only
  rw [picked]
  dsimp only
  rw [if_neg (by rw [shaper]; decide)]

end

/-- Where no claim waits, a packet taken leaves everything but the pool as it was. -/
theorem Hub.takeHead_unclaimed {s : Hub} (unclaimed : s.pool.claim = none) (q : Nat) : ∃ v : Hub,
    (s.setQueue q (s.queue q)).popPkt q = v ∧ v.regs = s.regs ∧ v.out = s.out ∧ v.cnts = s.cnts ∧ v.rel = s.rel ∧ v.plan = s.plan ∧
    v.net = s.net := by
  obtain ⟨x, popped⟩ := Hub.popPkt_unclaimed (s := s.setQueue q (s.queue q)) unclaimed q
  exact ⟨_, popped, rfl, rfl, rfl, rfl, rfl, rfl⟩

theorem runs_ethTransmitStart (p : Fin 4) (t ts : Nat) (k : List QCell) (ps : List (List QCell)) (s : State)
    (enabled : s.hub.flag (Fld.NET_PORT_CFG_EN p) = true) (classes : s.hub.flag (Fld.NET_PORT_EGQ_EN p) = true)
    (link : s.hub.flag (Fld.NET_PORT_STATUS_LINK p) = true) (idle : (s.hub.eport p).busy ≤ max s.hub.now t)
    (awake : s.hub.offAsleep 0x060000 = false) (clean : s.hub.rel.flips = []) (unclaimed : s.hub.pool.claim = none)
    (on : s.hub.qEnabled (s.hub.getf (Fld.NET_PORT_EGQ_BASE p) + 7) = true)
    (head : (s.hub.queue (s.hub.getf (Fld.NET_PORT_EGQ_BASE p) + 7)).pkts = k :: ps) (gap : pktGap k = false)
    (sound : pktPoison k = false) (open' : s.hub.gated p = false) (shaper : s.hub.flag (Fld.NET_PORT_TCSHP_VALID p 7) = false)
    (none : s.hub.time.launches = []) (fits : (s.hub.pktBytes k).length ≤ s.hub.getf (Fld.NET_PORT_CFG_MTU p) - 4) :
    Runs (.ethTransmitStart p t ts) s (fun h =>
      let g := ((s.hub.advance t).dressFrame p (s.hub.getf (Fld.NET_PORT_EGQ_BASE p) + 7) (s.hub.adjStamp p ts) (s.hub.pktBytes k)).1
      h.out = .ethFrame p (max s.hub.now t) (g ++ fcsOf g) :: s.hub.out ∧ Counted s.hub h (Cnt.NET_CNT_TX_FRAMES p) 1 ∧
      (h.eport p).busy = max s.hub.now t + s.hub.wireNs p g.length) := by
  let q := s.hub.getf (Fld.NET_PORT_EGQ_BASE p) + 7
  let s1 := s.hub.startPoint p t
  let u := s1.setQueue q (s1.queue q)
  let b := s.hub.pktBytes k
  obtain ⟨now, out, cnts, pool, rel, plan, time, mem⟩ := s.hub.startPoint_keeps p t
  obtain ⟨busy, oper⟩ := s.hub.startPoint_port p t
  have port (f : Fl) (m : f ∈ portFields p) : s1.getf f = s.hub.getf f := s.hub.getf_startPoint p t (List.mem_append_left _ m)
  have dress (f : Fl) (m : f ∈ dressFields p) : s1.getf f = s.hub.getf f := s.hub.getf_startPoint p t (List.mem_append_right _ m)
  have bytes : s1.pktBytes k = b := by simp only [Hub.pktBytes, Hub.memRead, Hub.memByte, s1, mem, b]
  have queue : s1.queue q = s.hub.queue q := Hub.queue_congr (congrArg Pool.queues pool) q
  have ready : s1.portReady p = true := by
    rw [Hub.portReady_startPoint, enabled, classes, link, decide_eq_true idle, awake]
    rfl
  have read : s1.readHead q = (some k, u) := Hub.readHead_of_clean (by rw [rel]; exact clean)
    ((s.hub.qEnabled_startPoint p t q).trans on) ((congrArg Queue.pkts queue).trans head)
  have picked : u.pick p 7 (some k) = .send k := by
    refine Hub.pick_send gap sound ?_ ((Hub.flag_congr (port _ (by simp [portFields]))).trans shaper)
      ((congrArg Time.launches time).trans none) ?_
    · have gates : u.gated p = (s.hub.flag (Fld.NET_GL_STATUS_ACTIVE p) && !(s.hub.eport p).oper.isEmpty) := by
        rw [← oper, ← Hub.flag_congr (port _ (by simp [portFields]))]
        rfl
      rwa [gates]
    · rw [show u.pktBytes k = b from bytes]
      exact fits.trans_eq (congrArg (· - 4) (port _ (by simp [portFields])).symm)
  obtain ⟨v, popped, regs', out', cnts', rel', plan', net'⟩ := s1.takeHead_unclaimed (by rw [pool]; exact unclaimed) q
  have clean' : v.rel.flips = [] := by rw [rel', rel, clean]
  have sends : Hub.egress p (s1.adjStamp p ts) (s1.egressDepth p + 9) 7 s1 =
      v.sendFrame p q (max s.hub.now t) (s.hub.adjStamp p ts) b := by
    rw [Hub.egress_send (q := q) (congrArg (· + 7) (port _ (by simp [portFields])).symm) read picked
      ((Hub.flag_congr (port _ (by simp [portFields]))).trans shaper), popped, show u.now = max s.hub.now t from now,
      show u.pktBytes k = b from bytes, Hub.adjStamp_congr (port _ (by simp [portFields]))]
  have dressed : v.dressFrame p q (s.hub.adjStamp p ts) b = (s.hub.advance t).dressFrame p q (s.hub.adjStamp p ts) b :=
    Hub.dressFrame_congr (by rw [plan', plan, Hub.advance_plan])
      (fun f m => by rw [Hub.getf_congr regs', dress f m, Hub.getf_advance]) q _ b
  have wire (n : Nat) : v.wireNs p n = s.hub.wireNs p n :=
    Hub.wireNs_congr ((Hub.getf_congr regs' _).trans (port _ (by simp [portFields]))) n
  obtain ⟨left, -, after⟩ := Hub.sendFrame_shows clean' p q (max s.hub.now t) (s.hub.adjStamp p ts) b
  have counted := Hub.counted_sendFrame clean' p q (max s.hub.now t) (s.hub.adjStamp p ts) b p.isLt
  rw [dressed, out', out] at left
  rw [dressed, wire] at after
  rw [Counted, Hub.cnt_congr (cnts'.trans cnts), ← Counted] at counted
  exact runs_of_eq rfl ((if_pos ready).trans sends) ⟨left, counted, congrArg NetPort.busy after⟩

end Sys2Proof.Machine
end

section
/-! PROOFS. Frames leave at the time of their launch or of a PTP role, and the link changes state (R198, R247, R261, R268, R269, R272). -/

namespace Sys2Proof.Machine

/-! A packet taken, whoever waits for the pool. -/

theorem StoreFree.popPkt {α : Type} {φ : Hub → α} (free : StoreFree φ) (q : Nat) (s : Hub) : φ (s.popPkt q) = φ s := by
  rw [Hub.popPkt, free.claimCheck, free.setQueue]

theorem Hub.rel_claimCheck (s : Hub) : s.claimCheck.rel = s.rel := by
  unfold Hub.claimCheck
  split
  · rfl
  split
  · rfl
  · exact Hub.raise_rel ..

theorem Hub.rel_popPkt (q : Nat) (s : Hub) : (s.popPkt q).rel = s.rel := by
  rw [Hub.popPkt, Hub.rel_claimCheck, Hub.setQueue]

theorem Hub.readHead_empty {s : Hub} {q : Nat} (empty : (s.queue q).pkts = []) : s.readHead q = (none, s) := by
  have none : s.headPkt q = none := by rw [Hub.headPkt, empty, List.head?_nil, ite_self]
  rw [Hub.readHead, none]

theorem Hub.ethDue_iff {s : Hub} {slot a : Nat} {l : Launch} : s.ethDue slot a = some l ↔ s.due slot a = some l ∧ s.ethBefore l = false := by
  rw [Hub.ethDue, Option.filter_eq_some_iff, Bool.not_eq_true']

theorem Hub.pending_of_ethDue {s : Hub} {slot a : Nat} {l : Launch} (due : s.ethDue slot a = some l) :
    Tab.get? slot s.time.launches = some l := (Hub.due_iff.mp (Hub.ethDue_iff.mp due).1).1

/-- A launched frame leaves, and its launch completes (R201). -/
theorem Hub.launchFrame_shows {s : Hub} (clean : s.rel.flips = []) {slot : Nat} {l : Launch}
    (pending : Tab.get? slot s.time.launches = some l) (p q ts : Nat) (f : List Byte) :
    (∃ g, (s.launchFrame slot p q ts l f).out = .ethFrame p (max l.f (s.eport p).busy) (g ++ fcsOf g) :: s.out) ∧
    Completed s (s.launchFrame slot p q ts l f) slot (if l.late then lsLateExec else lsOk) (max l.f (s.eport p).busy) := by
  obtain ⟨out, time, -⟩ := Hub.sendFrame_shows clean p q (max l.f (s.eport p).busy) ts f
  have pending' : Tab.get? slot (s.sendFrame p q (max l.f (s.eport p).busy) ts f).time.launches = some l := by rwa [time]
  rw [Hub.launchFrame, Hub.launchRan_eq pending', Hub.out_launchDone]
  exact ⟨⟨_, out⟩, completed_congr (by rw [time]) (by rw [time]) (completed_launchDone pending' _ _)⟩

/-- A launched frame leaves a hub that differs from `s` in nothing the frame or the launch shows. -/
theorem Hub.launchFrame_from {s u : Hub} (clean : u.rel.flips = []) {slot : Nat} {l : Launch}
    (pending : Tab.get? slot s.time.launches = some l) (time : u.time = s.time) (net : u.net = s.net) (out : u.out = s.out) (p q ts : Nat)
    (f : List Byte) : (∃ g, (u.launchFrame slot p q ts l f).out = .ethFrame p (max l.f (s.eport p).busy) (g ++ fcsOf g) :: s.out) ∧
    Completed s (u.launchFrame slot p q ts l f) slot (if l.late then lsLateExec else lsOk) (max l.f (s.eport p).busy) := by
  have port : u.eport p = s.eport p := by rw [Hub.eport, net, Hub.eport]
  have shows := Hub.launchFrame_shows clean (by rwa [time]) p q ts f (s := u) (slot := slot) (l := l)
  rw [port, out] at shows
  exact ⟨shows.1, completed_congr (by rw [time]) (by rw [time]) shows.2⟩

/-! The launch's queue read at its time. -/

section
variable {s : Hub} {l : Launch} {k : List QCell} {ps : List (List QCell)}

/-- The hub at the launch's time with the head of its queue read. -/
def Hub.readAt (l : Launch) (s : Hub) : Hub := (s.advance l.f).setQueue l.queue ((s.advance l.f).queue l.queue)

theorem Hub.readAt_keeps : (s.readAt l).time = s.time ∧ (s.readAt l).net = s.net ∧ (s.readAt l).out = s.out ∧ (s.readAt l).rel = s.rel ∧
    (s.readAt l).regs = s.regs ∧ (s.readAt l).cnts = s.cnts ∧ (s.readAt l).lineMem = s.lineMem :=
  ⟨s.advance_time _, s.advance_net _, s.advance_out _, s.advance_rel _, s.advance_regs _, s.advance_cnts _, s.advance_lineMem _⟩

theorem Hub.pktBytes_congr {s u : Hub} (mem : u.lineMem = s.lineMem) (p : List QCell) : u.pktBytes p = s.pktBytes p := by
  simp only [Hub.pktBytes, Hub.memRead, Hub.memByte, mem]

theorem Hub.readHead_at (clean : s.rel.flips = []) (on : s.qEnabled l.queue = true) (head : (s.queue l.queue).pkts = k :: ps) :
    (s.advance l.f).readHead l.queue = (some k, s.readAt l) :=
  Hub.readHead_of_clean (by rwa [Hub.advance_rel]) ((s.flag_advance ..).trans on)
    ((congrArg Queue.pkts (Hub.queue_congr (by rw [Hub.advance_pool]) _)).trans head)

end

section
variable (slot : Fin 1024) (ts : Nat) (l : Launch) (k : List QCell) (ps : List (List QCell)) (s : State)

theorem runs_ethRelease_empty (due : s.hub.ethDue slot 0x20 = some l) (empty : (s.hub.queue l.queue).pkts = []) :
    Runs (.ethRelease slot ts) s (fun h => Completed s.hub h slot lsEmpty l.f) := by
  have read : (s.hub.advance l.f).readHead l.queue = (none, s.hub.advance l.f) :=
    Hub.readHead_empty ((congrArg Queue.pkts (Hub.queue_congr (by rw [Hub.advance_pool]) _)).trans empty)
  refine ⟨_, rfl, ?_⟩
  beta_reduce
  rw [due]
  dsimp only
  rw [read]
  exact Hub.completed_advance (Hub.pending_of_ethDue due) ..

theorem runs_ethRelease (due : s.hub.ethDue slot 0x20 = some l) (clean : s.hub.rel.flips = []) (on : s.hub.qEnabled l.queue = true)
    (head : (s.hub.queue l.queue).pkts = k :: ps) (gap : pktGap k = false) (sound : pktPoison k = false)
    (fits : (s.hub.pktBytes k).length ≤ s.hub.getf (Fld.NET_PORT_CFG_MTU l.port) - 4) : Runs (.ethRelease slot ts) s (fun h =>
      (∃ g, h.out = .ethFrame l.port (max l.f (s.hub.eport l.port).busy) (g ++ fcsOf g) :: s.hub.out) ∧
      Completed s.hub h slot (if l.late then lsLateExec else lsOk) (max l.f (s.hub.eport l.port).busy)) := by
  obtain ⟨time, net, out, rel, regs, -, mem⟩ := Hub.readAt_keeps (s := s.hub) (l := l)
  refine ⟨_, rfl, ?_⟩
  beta_reduce
  rw [due]
  dsimp only
  rw [Hub.readHead_at clean on head]
  dsimp only
  rw [gap, sound, if_neg (by decide), Hub.pktBytes_congr mem, Hub.getf_congr regs, if_neg (Nat.not_lt.mpr fits)]
  exact Hub.launchFrame_from (by rw [Hub.rel_popPkt, rel, clean]) (Hub.pending_of_ethDue due)
    ((StoreFree.time.popPkt ..).trans time) ((StoreFree.net.popPkt ..).trans net) ((StoreFree.out.popPkt ..).trans out) ..

theorem Hub.camField_congr {s u : Hub} (regs : u.regs = s.regs) (l : Launch) : u.camField l = s.camField l := by
  simp only [Hub.camField, Hub.mapped, Hub.originNs, Hub.getf_congr regs]

theorem runs_camTrigger (due : s.hub.ethDue slot 0x40 = some l) (clean : s.hub.rel.flips = []) (on : s.hub.qEnabled l.queue = true)
    (head : (s.hub.queue l.queue).pkts = k :: ps) (gap : pktGap k = false) (sound : pktPoison k = false)
    (fits : (s.hub.pktBytes k).length ≤ s.hub.getf (Fld.NET_PORT_CFG_MTU l.port) - 4) : Runs (.camTrigger slot ts) s (fun h =>
      if (padFrame (s.hub.pktBytes k)).length < l.offset + (s.hub.camField l).length then Completed s.hub h slot lsBadTarget l.f
      else (∃ g, h.out = .ethFrame l.port (max l.f (s.hub.eport l.port).busy) (g ++ fcsOf g) :: s.hub.out) ∧
        Completed s.hub h slot (if l.late then lsLateExec else lsOk) (max l.f (s.hub.eport l.port).busy)) := by
  obtain ⟨time, net, out, rel, regs, -, mem⟩ := Hub.readAt_keeps (s := s.hub) (l := l)
  have pending := Hub.pending_of_ethDue due
  refine ⟨_, rfl, ?_⟩
  beta_reduce
  rw [due]
  dsimp only
  rw [Hub.readHead_at clean on head]
  dsimp only
  rw [gap, sound, Hub.pktBytes_congr mem, Hub.getf_congr regs, Hub.camField_congr regs]
  by_cases past : (padFrame (s.hub.pktBytes k)).length < l.offset + (s.hub.camField l).length
  · refine (if_pos past).mpr ?_
    rw [if_neg (by decide), if_neg (Nat.not_lt.mpr fits), if_pos past]
    exact completed_congr (by rw [time]) (by rw [time]) (completed_launchDone (by rwa [time]) _ _)
  · refine (if_neg past).mpr ?_
    rw [if_neg (by decide), if_neg (Nat.not_lt.mpr fits), if_neg past]
    exact Hub.launchFrame_from (by rw [rel, clean]) pending time net out ..

theorem Hub.cnt_launchDone (s : Hub) (slot status f : Nat) {c : Nat} (apart : c < 0x050200 ∨ 0x050218 ≤ c) :
    (s.launchDone slot status f).cnt c = s.cnt c := by
  have fired (t : Hub) : (t.count Cnt.LTM_CNT_FIRED 1).cnt c = t.cnt c := t.cnt_count_ne (by unfold Cnt.LTM_CNT_FIRED; omega) 1
  have late (t : Hub) : (t.count Cnt.LTM_CNT_LATE 1).cnt c = t.cnt c := t.cnt_count_ne (by unfold Cnt.LTM_CNT_LATE; omega) 1
  have refused (t : Hub) : (t.count Cnt.LTM_CNT_REFUSED 1).cnt c = t.cnt c := t.cnt_count_ne (by unfold Cnt.LTM_CNT_REFUSED; omega) 1
  have counted (t : Hub) : (t.countLaunch status).cnt c = t.cnt c := by
    simp only [Hub.countLaunch, apply_ite (fun u : Hub => u.cnt c), fired, late, refused, ite_self]
  unfold Hub.launchDone
  split
  · rfl
  · rw [Hub.showLaunches, Hub.cnt_congr (Hub.setf_cnts ..), Hub.cnt_congr (Hub.setf_cnts ..)]
    exact counted _

theorem runs_camTrigger_long (due : s.hub.ethDue slot 0x40 = some l) (clean : s.hub.rel.flips = [])
    (on : s.hub.qEnabled l.queue = true) (head : (s.hub.queue l.queue).pkts = k :: ps) (gap : pktGap k = false)
    (sound : pktPoison k = false) (long : s.hub.getf (Fld.NET_PORT_CFG_MTU l.port) - 4 < (s.hub.pktBytes k).length) :
    Runs (.camTrigger slot ts) s (fun h => h.out = s.hub.out ∧ Completed s.hub h slot lsEmpty l.f ∧
      Counted s.hub h (Cnt.NET_CNT_TX_OVERSIZE l.port) 1) := by
  obtain ⟨time, net, out, rel, regs, cnts, mem⟩ := Hub.readAt_keeps (s := s.hub) (l := l)
  have port : l.port < 256 := bits_lt l.arg 63 56
  let u := ((s.hub.readAt l).popPkt l.queue).count (Cnt.NET_CNT_TX_OVERSIZE l.port) 1
  have time' : u.time = s.hub.time := (Hub.count_time ..).trans ((StoreFree.time.popPkt ..).trans time)
  have out' : u.out = s.hub.out := (Hub.count_out ..).trans ((StoreFree.out.popPkt ..).trans out)
  have kept : ((s.hub.readAt l).popPkt l.queue).cnt (Cnt.NET_CNT_TX_OVERSIZE l.port) = s.hub.cnt (Cnt.NET_CNT_TX_OVERSIZE l.port) :=
    ((PoolFree.cnt (by unfold Cnt.NET_CNT_TX_OVERSIZE; omega) (by unfold Cnt.NET_CNT_TX_OVERSIZE; omega)).popPkt _ _).trans
      (Hub.cnt_congr cnts _)
  refine ⟨_, rfl, ?_⟩
  beta_reduce
  rw [due]
  dsimp only
  rw [Hub.readHead_at clean on head]
  dsimp only
  rw [gap, sound, if_neg (by decide), Hub.pktBytes_congr mem, Hub.getf_congr regs, if_pos long, Counted, Hub.out_launchDone,
    Hub.cnt_launchDone _ _ _ _ (by unfold Cnt.NET_CNT_TX_OVERSIZE; omega), Hub.cnt_count_self _ _ (by decide), kept]
  exact ⟨out', completed_congr (congrArg Time.launches time') (congrArg Time.held time')
    (completed_launchDone ((congrArg (fun x : Time => Tab.get? slot x.launches) time').trans (Hub.pending_of_ethDue due)) _ _), rfl⟩

end

theorem runs_launch_none (slot : Fin 1024) (ts : Nat) (s : State) :
    Runs (.ethRelease slot ts) s (fun h => s.hub.ethDue slot 0x20 = none → h = s.hub) ∧
    Runs (.camTrigger slot ts) s (fun h => s.hub.ethDue slot 0x40 = none → h = s.hub) :=
  ⟨⟨_, rfl, fun none => by beta_reduce; rw [none]⟩, ⟨_, rfl, fun none => by beta_reduce; rw [none]⟩⟩

/-! PTP roles (R268). -/

theorem Hub.ptpSent_keeps (p kind : Nat) (s : Hub) : (s.ptpSent p kind).out = s.out ∧ (s.ptpSent p kind).rel = s.rel ∧
    (s.ptpSent p kind).regs = s.regs ∧ (s.ptpSent p kind).plan = s.plan := ⟨rfl, rfl, rfl, rfl⟩

/-- What the port keeps of a message sent (R268). -/
theorem Hub.ptpSent_port (p kind : Nat) (s : Hub) :
    (kind = 0 → ((s.ptpSent p kind).eport p).syncAt = some s.up ∧ ((s.ptpSent p kind).eport p).syncOpen = true) ∧
    (kind = 0x3 ∨ kind = 0x9 → ((s.ptpSent p kind).eport p).reqOpen = false) := by
  unfold Hub.ptpSent
  rw [Hub.eport_setEport_self]
  refine ⟨?_, ?_⟩
  · rintro rfl
    exact ⟨rfl, rfl⟩
  · rintro (rfl | rfl) <;> rfl

theorem runs_ptpMessageSend (p : Fin 4) (frame : List Byte) (ts : Nat) (s : State) : Runs (.ptpMessageSend p frame ts) s (fun h =>
    match ptpFind true true true frame with
    | none => h = s.hub
    | some a =>
      let kind := bits (byteAt frame a.off) 3 0
      if s.hub.flag (Fld.NET_PORT_CFG_EN p) && s.hub.flag (Fld.NET_PORT_STATUS_LINK p) &&
          (ptpKinds (s.hub.getf (Fld.NET_PTP_CFG_ROLE p)) (s.hub.flag (Fld.NET_PTP_CFG_ONE_STEP p))).contains kind && s.hub.ptpTime p kind then
        s.hub.rel.flips = [] → (kind = 0 → (h.eport p).syncAt = some s.hub.up ∧ (h.eport p).syncOpen = true) ∧
        (kind = 0x3 ∨ kind = 0x9 → (h.eport p).reqOpen = false) ∧
        ∃ g, h.out = .ethFrame p (max s.hub.now (s.hub.eport p).busy) (g ++ fcsOf g) :: s.hub.out ∧
          g = (s.hub.dressFrame p 8192 (s.hub.adjStamp p ts) (s.hub.fillPtp p kind a frame)).1
      else h = s.hub) := by
  refine ⟨_, rfl, ?_⟩
  beta_reduce
  cases ptpFind true true true frame with
  | none => rfl
  | some a =>
    dsimp only
    split
    next due =>
      intro clean
      let kind := bits (byteAt frame a.off) 3 0
      obtain ⟨out, rel, regs, plan⟩ := s.hub.ptpSent_keeps p kind
      obtain ⟨sync, request⟩ := s.hub.ptpSent_port p kind
      obtain ⟨left, -, port⟩ := Hub.sendFrame_shows (s := s.hub.ptpSent p kind) (by rw [rel, clean]) p 8192
        (max s.hub.now (s.hub.eport p).busy) (s.hub.adjStamp p ts) (s.hub.fillPtp p kind a frame)
      rw [Hub.dressFrame_congr plan fun f _ => Hub.getf_congr regs f, out] at left
      refine ⟨fun zero => ?_, fun answer => ?_, _, left, rfl⟩
      · exact ⟨(congrArg NetPort.syncAt port).trans (sync zero).1, (congrArg NetPort.syncOpen port).trans (sync zero).2⟩
      · exact (congrArg NetPort.reqOpen port).trans (request answer)
    next => rfl

/-! The link (R247, R272). -/

/-- The state of port `p`'s link as its status shows it. -/
def Hub.showLink (p : Nat) (up : Bool) (speed : Nat) (an lf rf : Bool) (s : Hub) : Hub :=
  s |>.setb (Fld.NET_PORT_STATUS_LINK p) up |>.setf (Fld.NET_PORT_STATUS_SPEED p) speed |>.setb (Fld.NET_PORT_STATUS_AN_DONE p) an
    |>.setb (Fld.NET_PORT_STATUS_LOCAL_FAULT p) lf |>.setb (Fld.NET_PORT_STATUS_REMOTE_FAULT p) rf

theorem Hub.eventMark_setb {f : Fl} (past : 32 * 0x030000 ≤ f.key) (b : Bool) (s : Hub) : (s.setb f b).eventMark = s.eventMark :=
  s.eventMark_setf past _

theorem Hub.flag_setb_ne (s : Hub) {f g : Fl} (other : g.key ≠ f.key) (b : Bool) : (s.setb f b).flag g = s.flag g :=
  s.flag_setf_ne other _

theorem Hub.flag_raise (s : Hub) {f : Fl} (apart : f.key ≠ Fld.GEN_EVT_STATUS_OVERRUN.key) (e : EvDef) (xs : List Nat) :
    (s.raise e xs).flag f = s.flag f := Hub.flag_congr (s.getf_raise e xs apart)

/-- The fields of a port's link status lie past block TRK, in bits of their own. -/
theorem linkKeys (p : Nat) : let base := 32 * (0x060104 + 0x100 * p)
    32 * 0x030000 ≤ base ∧ (Fld.NET_PORT_STATUS_LINK p).key = base ∧ (Fld.NET_PORT_STATUS_SPEED p).key = base + 4 ∧
    (Fld.NET_PORT_STATUS_AN_DONE p).key = base + 3 ∧ (Fld.NET_PORT_STATUS_LOCAL_FAULT p).key = base + 1 ∧
    (Fld.NET_PORT_STATUS_REMOTE_FAULT p).key = base + 2 ∧ Fld.GEN_EVT_STATUS_OVERRUN.key < 32 * 0x030000 :=
  ⟨by omega, rfl, rfl, rfl, rfl, rfl, by decide⟩

section
variable (p : Nat) (up : Bool) {speed : Nat} (an lf rf : Bool) (s : Hub)

theorem Hub.eventMark_showLink : (s.showLink p up speed an lf rf).eventMark = s.eventMark := by
  obtain ⟨past, link, rate, done, local', remote, -⟩ := linkKeys p
  rw [Hub.showLink, Hub.eventMark_setb (by omega), Hub.eventMark_setb (by omega), Hub.eventMark_setb (by omega),
    Hub.eventMark_setf _ (by omega), Hub.eventMark_setb (by omega)]

theorem Hub.showLink_shows (lt : speed < 8) (e : EvDef) (xs : List Nat) : let h := (s.showLink p up speed an lf rf).raise e xs
    h.flag (Fld.NET_PORT_STATUS_LINK p) = up ∧ h.flag (Fld.NET_PORT_STATUS_AN_DONE p) = an ∧ h.getf (Fld.NET_PORT_STATUS_SPEED p) = speed ∧
    h.flag (Fld.NET_PORT_STATUS_LOCAL_FAULT p) = lf ∧ h.flag (Fld.NET_PORT_STATUS_REMOTE_FAULT p) = rf ∧ Posted s h e xs := by
  obtain ⟨past, link, rate, done, local', remote, low⟩ := linkKeys p
  refine ⟨?_, ?_, ?_, ?_, ?_, s.posted_raise_of_mark (s.eventMark_showLink p up an lf rf) _ _⟩
  · rw [Hub.flag_raise _ (by omega), Hub.showLink, Hub.flag_setb_ne _ (by omega), Hub.flag_setb_ne _ (by omega),
      Hub.flag_setb_ne _ (by omega), Hub.flag_setf_ne _ (by omega), Hub.flag_setb_self _ _ rfl]
  · rw [Hub.flag_raise _ (by omega), Hub.showLink, Hub.flag_setb_ne _ (by omega), Hub.flag_setb_ne _ (by omega),
      Hub.flag_setb_self _ _ rfl]
  · rw [Hub.getf_raise _ _ _ (by omega), Hub.showLink, Hub.getf_setb_ne _ (by omega), Hub.getf_setb_ne _ (by omega),
      Hub.getf_setb_ne _ (by omega)]
    exact Hub.getf_setf_of_lt _ lt
  · rw [Hub.flag_raise _ (by omega), Hub.showLink, Hub.flag_setb_ne _ (by omega), Hub.flag_setb_self _ _ rfl]
  · rw [Hub.flag_raise _ (by omega), Hub.showLink, Hub.flag_setb_self _ _ rfl]

end

theorem runs_ethLinkChange (p : Fin 4) (up : Bool) (sp : Fin 8) (an : Bool) (c : Fin 4) (s : State) :
    Runs (.ethLinkChange p up sp an c) s (fun h =>
      if up = true ∧ (s.hub.flag (Fld.NET_PORT_CFG_EN p) = false ∨ (s.hub.ethSpeeds p).contains sp.val = false ∨ an ≠ s.hub.ethAn p ∨
        s.hub.offAsleep 0x060000 = true) then h = s.hub
      else h.flag (Fld.NET_PORT_STATUS_LINK p) = up ∧ h.flag (Fld.NET_PORT_STATUS_AN_DONE p) = (up && an) ∧
        h.getf (Fld.NET_PORT_STATUS_SPEED p) = (if up then sp.val else 0) ∧
        h.flag (Fld.NET_PORT_STATUS_LOCAL_FAULT p) = (!up && c.val == 0) ∧ h.flag (Fld.NET_PORT_STATUS_REMOTE_FAULT p) = (!up && c.val == 1) ∧
        Posted s.hub h (if up then Evt.NET_LINK_UP else Evt.NET_LINK_DOWN) [p, if up then sp.val else c.val]) := by
  cases up with
  | false =>
    refine runs_of_eq (h := (s.hub.showLink p false 0 false (c.val == 0) (c.val == 1)).raise Evt.NET_LINK_DOWN [p, c]) rfl rfl ?_
    rw [if_neg fun up => Bool.false_ne_true up.1]
    exact s.hub.showLink_shows p false false (c.val == 0) (c.val == 1) (by decide) _ _
  | true =>
    have takes : (s.hub.flag (Fld.NET_PORT_CFG_EN p) && (s.hub.ethSpeeds p).contains sp.val && an == s.hub.ethAn p
        && !s.hub.offAsleep 0x060000) = true ↔ ¬(s.hub.flag (Fld.NET_PORT_CFG_EN p) = false ∨
          (s.hub.ethSpeeds p).contains sp.val = false ∨ an ≠ s.hub.ethAn p ∨ s.hub.offAsleep 0x060000 = true) := by
      rw [Bool.and_eq_true, Bool.and_eq_true, Bool.and_eq_true, beq_iff_eq, Bool.not_eq_true', not_or, not_or, not_or,
        Bool.not_eq_false, Bool.not_eq_false, not_not, Bool.not_eq_true, and_assoc, and_assoc]
    by_cases refused : s.hub.flag (Fld.NET_PORT_CFG_EN p) = false ∨ (s.hub.ethSpeeds p).contains sp.val = false ∨
        an ≠ s.hub.ethAn p ∨ s.hub.offAsleep 0x060000 = true
    · exact runs_of_eq rfl (if_neg fun good => takes.mp good refused) ((if_pos ⟨rfl, refused⟩).mpr rfl)
    · refine runs_of_eq (h := (s.hub.showLink p true sp an false false).raise Evt.NET_LINK_UP [p, sp]) rfl
        (if_pos (takes.mpr refused)) ?_
      rw [if_neg fun up => refused up.2]
      exact s.hub.showLink_shows p true an false false sp.isLt _ _

/-- Settles O39, command by command. -/
theorem framesAreSent : Obligations.FramesAreSent := by
  unfold Obligations.FramesAreSent
  exact ⟨runs_ethTransmitStart_idle, fun p t ts k ps s => runs_ethTransmitStart p t ts k ps s, runs_ethRelease_empty, runs_ethRelease,
    runs_camTrigger, runs_ptpMessageSend, runs_ethLinkChange, runs_camTrigger_long, runs_launch_none⟩

end Sys2Proof.Machine
end
